-- ==== Sys2Proof/Word.lean ====
section
/-! DEFINITION. The word types of the block and their plainest arithmetic: bytes, 32-bit register words, addresses. -/

namespace Sys2Proof

/-- One byte of a memory, a frame or an image. -/
abbrev Byte := BitVec 8

/-- One 32-bit word of a register or of a Truss transfer (R471). -/
abbrev Word := BitVec 32

/-- A 48-bit MAC address. -/
abbrev Mac := BitVec 48

/-- 1 for true and 0 for false, as a register bit shows it. -/
def b2n (b : Bool) : Nat := if b then 1 else 0

/-- Bit k of a number (R9). -/
def bitAt (v k : Nat) : Bool := v / 2 ^ k % 2 == 1

/-- Bits hi down to lo of a number (R9). -/
def bitsAt (v hi lo : Nat) : Nat := v / 2 ^ lo % 2 ^ (hi - lo + 1)

end Sys2Proof
end

