-- ==== Sys2Proof/Machine/Sparse.lean ====
section
/-! DEFINITION. A sparse map held as plain data: key and value pairs, keys strictly rising, with one default value per
use. `put` of the default removes the entry, so equal contents are equal lists. -/

namespace Sys2Proof.Machine

/-- A sparse map from numbers. -/
abbrev Sparse (α : Type) := List (Nat × α)

/-- The value at key k; d where no entry is listed. -/
def Sparse.get {α : Type} (d : α) : Sparse α → Nat → α
  | [], _ => d
  | (k', v) :: m, k => if k' = k then v else Sparse.get d m k

/-- The entry listed at key k, if any. -/
def Sparse.find {α : Type} : Sparse α → Nat → Option α
  | [], _ => none
  | (k', v) :: m, k => if k' = k then some v else Sparse.find m k

/-- The map without the entry at key k. -/
def Sparse.erase {α : Type} : Sparse α → Nat → Sparse α
  | [], _ => []
  | (k', v) :: m, k => if k' = k then Sparse.erase m k else (k', v) :: Sparse.erase m k

/-- The map with v listed at key k, keys kept rising. -/
def Sparse.set {α : Type} : Sparse α → Nat → α → Sparse α
  | [], k, v => [(k, v)]
  | (k', v') :: m, k, v =>
    if k' = k then (k, v) :: m
    else if k < k' then (k, v) :: (k', v') :: m
    else (k', v') :: Sparse.set m k v

/-- The map with value v at key k: no entry where v is the default d. -/
def Sparse.put {α : Type} [DecidableEq α] (d : α) (m : Sparse α) (k : Nat) (v : α) : Sparse α :=
  if v = d then Sparse.erase m k else Sparse.set m k v

/-- Keys rise strictly from above b. -/
def Sparse.risesFrom {α : Type} : Option Nat → Sparse α → Bool
  | _, [] => true
  | none, (k, _) :: m => Sparse.risesFrom (some k) m
  | some b, (k, _) :: m => decide (b < k) && Sparse.risesFrom (some k) m

/-- The canonical form: strictly rising keys and no entry equal to what an unlisted key reads as. -/
def Sparse.wf {α : Type} [DecidableEq α] (d : Nat → α) (m : Sparse α) : Bool :=
  Sparse.risesFrom none m && m.all (fun e => decide (e.2 ≠ d e.1))

/-- The map without the entries at the n keys from k on. -/
def Sparse.eraseRange {α : Type} (m : Sparse α) (k n : Nat) : Sparse α :=
  m.filter (fun e => !(decide (k ≤ e.1) && decide (e.1 < k + n)))

end Sys2Proof.Machine
end

