-- ==== Sys2Proof/Machine/Parts.lean ====
section
/-! DEFINITION. The state of the crosspoint mixer, the engines and the services behind their registers: the parts of State that
an active unit also seats on its standby (R400). -/

namespace Sys2Proof

/-- A request descriptor of R354: REQ_ID, SOURCE, CLIP_ID, LOOP, CONSOLE, ZONE_MASK, TARGET_ID, GAIN_TRIM, and whether words 6
and 7 are 0. -/
structure SvcReq where
  id      : Word
  source  : Fin 256
  clip    : Fin 4096
  loop    : Bool
  console : Fin 4
  zones   : BitVec 64
  target  : Word
  trim    : BitVec 16
  clean   : Bool
deriving DecidableEq, Repr

namespace Machine

/-- One descriptor of a cut list (R54) with the engine that holds it and its parameter record (R282). -/
structure Desc where
  engine   : Nat
  type     : Nat
  service  : Bool
  id       : Nat
  chans    : Nat
  size     : Nat
  inBus    : Nat
  outBus   : Nat
  stateOff : Nat
  stateLen : Nat
  paramOff : Nat
  cost     : Nat
  aux      : Nat
  record   : List Byte
deriving DecidableEq, Repr

/-- A cut list (R53): its descriptors in engine and list order, the engines that hold a list, and declared costs and local
memory by engine. -/
structure Cut where
  descs : List Desc
  mask  : Nat
  costs : List Nat
  mems  : List Nat
deriving DecidableEq, Repr

/-- A linear ramp (R264): from `a` to `b` over `n` samples, begun with the first sample of batch `start`. -/
structure Ramp where
  a     : Int
  b     : Int
  n     : Nat
  start : Nat
deriving DecidableEq, Repr

/-- A crosspoint entry (R256), its reserved bits apart. -/
structure XEntry where
  src    : Nat
  dst    : Nat
  gain   : Nat
  ramp   : Nat
  duck   : Nat
  invert : Bool
  enable : Bool
deriving DecidableEq, Repr

/-- What a delay line plays (R273): the sample a delay back, or a crossfade from another source of k samples out of n. -/
inductive DTap
  | back (delay : Nat)
  | fade (old : DTap) (delay k n : Nat)
deriving DecidableEq, Repr

/-- A delay line of the pool (R271): address, length, delay in force, the run of indices written (R78) and what plays. -/
structure DLine where
  addr  : Nat
  len   : Nat
  delay : Nat
  run   : Option (Nat × Nat)
  tap   : DTap
deriving DecidableEq, Repr

/-- The content of the mixer that a commit replaces: table, duck groups, delay lines, and the pool's base and pages. -/
structure MixHeld where
  table : List (XEntry × Ramp)
  ducks : Sparse Ramp
  lines : Sparse DLine
  geom  : Nat × Nat
deriving DecidableEq, Repr

/-- The crosspoint mixer and the delay pool behind their registers. `table` is the table whose coefficients run, `ducks` the
duck groups' ramps, `step` the number of the last batch of 8 samples begun (one per tick in RUN), `written` says that the
shadow bank has been written since the last swap (R258), `ahead` what the content of the commit due at the next boundary replaced, once this tick
has taken it (R65), `early` that the early passes have run; `earlyOut` and `earlyFeed` hold the source
samples that they read, by source; `bad` the table positions with an uncorrectable error this tick (R269); `feeds` the engine
input buses of the present tick by destination; `lines` and `geom` the delay lines and the pool's base and pages; `clipAt`
the last tick in which a destination clipped (R268). -/
structure Mixer where
  table     : List (XEntry × Ramp)
  ducks     : Sparse Ramp
  step      : Nat
  written   : Bool
  ahead     : Option MixHeld
  early     : Bool
  earlyOut  : Sparse (List Int)
  earlyFeed : Sparse (List Int)
  bad       : List Nat
  feeds     : Sparse (List Int)
  lines     : Sparse DLine
  geom      : Nat × Nat
  clipAt    : Option Nat
deriving DecidableEq, Repr

/-- A clip player (R295): phase 0 idle, 1 waiting to begin, 2 playing, 3 done; its clip, whether it loops, bytes fetched into
the buffer since START, samples played since START, the index of the first, whether STOP waits for the end of the tick, and the tick (as run) in which START was applied. -/
structure Player where
  phase : Nat
  clip  : Nat
  loop  : Bool
  got   : Nat
  pos   : Nat
  first : Nat
  stop  : Bool
  since : Nat
deriving DecidableEq, Repr

/-- A tone generator (R516): playing, as a continuous sine, the note and its samples left, the phase in 1/48,000 of a cycle,
whether STOP waits for a zero crossing, and the phase of the sample before. -/
structure Tone where
  on    : Bool
  sine  : Bool
  note  : Nat
  left  : Nat
  phase : Nat
  stop  : Bool
  prev  : Nat
deriving DecidableEq, Repr

/-- One band of a G.722 coder (R515): its prediction and the zero section's share, reconstructed signals, partial signals, pole coefficients, quantised
differences and zero coefficients, newest first, the scale factor and the quantiser step. -/
structure G722Band where
  s   : Int
  sz  : Int
  r   : List Int
  p   : List Int
  a   : List Int
  d   : List Int
  b   : List Int
  nb  : Int
  det : Int
deriving DecidableEq, Repr

/-- A band at reset, with its first quantiser step. -/
def G722Band.init (det : Int) : G722Band := ⟨0, 0, [0, 0], [0, 0], [0, 0], [0, 0, 0, 0, 0, 0], [0, 0, 0, 0, 0, 0], 0, det⟩

/-- A G.722 coder or decoder (R515): both bands, and the 24 numbers in its quadrature mirror filter, oldest first. -/
structure G722 where
  low  : G722Band
  high : G722Band
  qmf  : List Int
deriving DecidableEq, Repr

/-- A coder or decoder at reset. -/
def G722.init : G722 := ⟨G722Band.init 32, G722Band.init 8, List.replicate 24 0⟩

/-- The state of a block instance (R285): `init` says that INIT runs before its next run (R57, R59, R296); the last applied
service sequence and its controls (R288); ticks run since INIT; filter histories (BIQUAD: x₁, x₂, y₁, y₂ by channel and
section; FIR: newest first, by channel); GAIN's ramps; a DELAY's line and the run written (R78); players and tones; the
encoder's ring index; METER's window all zero so far; a count of ticks (METER: of its window, ANG: of a zero sensor,
G722_ENC: encoded) and, in 1/9,600,000 dB, ANG's boost (R292), AGC's gain or the gain reduction of a LIMITER or COMPRESSOR (R285);
AEC's ticks above 20 dB and CONVERGED (R290); the state of an internal algorithm that the spec does not state (R515), in an AEC that of its adaptive
filter (0: the filter is zero); the state of an AEC's detectors and estimate; and a G.722 coder or decoder. -/
structure Inst where
  init  : Bool
  seq   : Option Nat
  ctl   : Nat
  ran   : Nat
  hist  : List Int
  ramps : List Ramp
  line  : Nat × Nat
  run   : Option (Nat × Nat)
  play  : Player
  tone  : Tone
  ring  : Nat
  quiet : Bool
  still : Nat
  boost : Int
  above : Nat
  conv  : Bool
  alg   : Nat
  sense : Nat
  g722  : G722
deriving DecidableEq, Repr

/-- The engines behind their registers: the cut list in force with every update applied (the copy of R283), the instances by
INSTANCE_ID, the output buses of the last deadline and of the running tick by source, the peaks that ENVELOPE taps report by
power channel (R293), whether the engines run now (from the window start to the deadline), the ticks (as run) with an
overrun among the last 6,000 and whether they make a storm now (R60), the engines whose last tick lacked clip samples
(R295), and the faults that the fetch or the run of an instance meets in this tick, by
engine and instance, with their causes (R296). -/
structure Engines where
  cut      : Cut
  insts    : Sparse Inst
  outs     : Sparse (List Int)
  peaks    : Sparse Nat
  live     : Bool
  overruns : List Nat
  storm    : Bool
  short    : List Nat
  meets    : List ((Nat × Nat) × Nat)
deriving DecidableEq, Repr

/-- A class record of the zone plan (R352): POLICY (0 PREEMPT, 1 DUCK, 2 MIX), WAIT (0 PLAY_UNDER, 1 QUEUE, 2 DROP), ANG_FREEZE,
RAMP in ticks, DUCK_DEPTH. -/
structure SvcClass where
  policy : Nat
  wait   : Nat
  freeze : Bool
  ramp   : Nat
  depth  : Int
deriving DecidableEq, Repr

/-- A source record (R352): KIND 1 LIVE, 2 CLIP, 3 TONE, 4 ENDPOINT; its TONE instance or its loudspeaker. -/
structure SvcSource where
  src  : Nat
  kind : Nat
  cls  : Nat
  prio : Nat
  inst : Nat
  spk  : Nat
deriving DecidableEq, Repr

/-- A zone record (R352): destinations with their gains, and ANG instances. -/
structure SvcZone where
  group  : Nat
  bgRamp : Nat
  dests  : List (Nat × Int)
  angs   : List Nat
deriving DecidableEq, Repr

/-- The zone plan (R352). -/
structure Plan where
  classes  : List SvcClass
  sources  : List SvcSource
  zones    : List SvcZone
  players  : List Nat
  slots    : List Nat
  consoles : List (Nat × Nat)
deriving DecidableEq, Repr

/-- A live request (R360, R371): its fields, the order of its grant, the player or call slot that it holds (indices of the
plan's records), whether its call is answered, whether its last decided standing is DUCKED, and since which tick (as run)
its grant has been in effect. -/
structure Grant where
  req    : SvcReq
  call   : Bool
  order  : Nat
  player : Option Nat
  slot   : Option Nat
  joined : Bool
  ducked : Bool
  since  : Option Nat
deriving DecidableEq, Repr

/-- A queued request (R367): a PLAY or a CALL, its arrival, the zones in whose queues it waits, and whether it waits for a
player, tone or call slot (R366). -/
structure Waiting where
  req    : SvcReq
  call   : Bool
  order  : Nat
  zones  : Nat
  forRes : Bool
deriving DecidableEq, Repr

/-- What the services do at the tick in which a commit takes effect (R357 step 3): a status record (REQ_ID, OUTCOME, REASON,
END, OTHER_ID), a control record written (instance, word 1), or a change of a call slot (slot, state, console, request). -/
inductive SvcAct
  | record (id outcome reason endCode other : Nat)
  | control (inst word : Nat)
  | call (slot state console id : Nat)
deriving DecidableEq, Repr

/-- A live request that has ended by decision (R357): which request made it end, if one did, and whether the commit that carries its end is armed. Until
that commit takes effect it plays. -/
structure Leaving where
  grant : Grant
  by_   : Option Nat
  armed : Bool
deriving DecidableEq, Repr

/-- A lock (REQ_ID, priority, zones) that has ended by decision, in the same way. -/
structure Unlock where
  lock  : Nat × Nat × Nat
  by_   : Option Nat
  armed : Bool
deriving DecidableEq, Repr

/-- The services (R348 to R375) behind their registers: running; the plan in force; the static table as raw entries; live
requests, queue, locks (REQ_ID, priority, zones); entries that fade out (their value, when their commit has taken effect the
tick as run of their removal, and their RAMP); what waits for the next arm and for the commit armed; whether something waits to
be armed; the next order number; requests taken that the partner has not been sent (R374, R392); the ANG controls last written, by
instance; the tick (as run) of the last watchdog restart; the request now decided, and, beside `out` and `armed`, which request made each act; live
requests and locks that leave; the tick (as run) in which the services' last commit was complete; and whether a standby has taken the requests of
the present tick (R374). -/
structure Svc where
  running : Bool
  plan    : Option Plan
  static  : List Nat
  grants  : List Grant
  queue   : List Waiting
  locks   : List (Nat × Nat × Nat)
  fades   : List (Nat × Option Nat × Nat)
  out     : List SvcAct
  armed   : List SvcAct
  dirty   : Bool
  order   : Nat
  taken   : List (List Nat)
  ang     : List (Nat × Nat)
  wdt     : Option Nat
  cur     : Option Nat
  outBy   : List (Option Nat)
  armedBy : List (Option Nat)
  leaving : List Leaving
  unlocks : List Unlock
  doneAt  : Option Nat
  told    : Bool
deriving DecidableEq, Repr

/-- Services that have never run. -/
def Svc.init : Svc where
  running := false
  plan := none
  static := []
  grants := []
  queue := []
  locks := []
  fades := []
  out := []
  armed := []
  dirty := false
  order := 0
  taken := []
  ang := []
  wdt := none
  cur := none
  outBy := []
  armedBy := []
  leaving := []
  unlocks := []
  doneAt := none
  told := false

/-- What an ACTIVE unit's seat state area holds for its standby when it seals (R400): the mixer's coefficients, ramps and pass
store with the delay lines, the instances with their control sequences and the output buses, and the services' tables. The
device lays the area out by itself; the model takes its content as data. -/
structure Seat where
  mix : Mixer
  je  : Engines
  svc : Svc
deriving DecidableEq, Repr

end Machine

end Sys2Proof
end

