-- ==== Sys2Proof/Syntax.lean ====
section
/-! DEFINITION. The commands of the block: one constructor per row of the opcode table, with what the outside gives the
step as operands (a written word, a received frame, a measured value, the place in the tick). Indices are `Fin`, so an
index outside the hardware cannot be written down; what is left is checked in WellFormed. -/

namespace Sys2Proof

/-- Who issues a register or memory access (R24, R70, R438, R514). -/
inductive Initiator
  | hq                       -- the host QSPI target
  | ib (slot : Fin 4)        -- one Ocdor key slot
  | sp                       -- the service processor
  | boot                     -- the boot ROM
deriving DecidableEq, Repr

/-- The synthesis loops: PLL-C, PLL-M and the two VCOs of PLL-S (R203). -/
inductive LoopId | c | m | s1 | s2
deriving DecidableEq, Repr

/-- The phase error of a loop over the reference cycles that led to PLOCK (R212): how many in a row, the greatest magnitude of the error over
them and the last error, in ps; for PLL-M the phase of its dividers against media time then (R207), in 2⁻³² VCO cycles; and how long the
acquisition took, in µs. -/
structure PhaseRun where
  cycles  : Nat
  worst   : Nat
  ps      : Int
  divider : Int
  us      : Nat
deriving DecidableEq, Repr

/-- What the Plumb unit measures of one slot's reference as a tick starts (R177): its frequency against XI nominal, averaged over
the last second, in ppt (10⁻¹²). -/
structure RefMeas where
  slot   : Fin 8
  freq   : Int
deriving DecidableEq, Repr

/-- An Ethernet frame as it stands on the line: the bytes from the destination address to the FCS, whether the FCS is
right, whether a code error was seen, and its arrival time in ns of media time. -/
structure FrameIn where
  bytes  : List Byte
  fcsOk  : Bool
  symErr : Bool
  ns     : Nat
deriving DecidableEq, Repr

/-- A host QSPI transaction (R434 to R436): the opcode byte, the address, the words written or the number of words
read, which read words (counted from 0) were not ready, and whether HQ_CS_N cut a last word short. -/
structure QspiTx where
  opcode  : Byte
  addr    : Word
  words   : List Word
  count   : Nat
  late    : List Nat
  partialWord : Bool
deriving DecidableEq, Repr

/-- An Ocdor frame (R437) with the port it came in on and what its answer goes to (R439): its source address, the VID and PCP
of its tag, and its source IP address and UDP port where it came as a datagram. -/
structure OcdorFrame where
  version : Byte
  op      : Byte
  seq     : BitVec 16
  slot    : Byte
  status  : Byte
  count   : Nat
  addr    : Word
  session : Word
  replay  : Word
  data    : List Word
  tag     : BitVec 64
  port    : Fin 8
  src     : Mac
  vlan    : Option (Fin 4096 × Fin 8)
  udp     : Option (Word × BitVec 16)
deriving DecidableEq, Repr

/-- A received AAF packet (R84, R93), its header fields parsed: `format` is the FORMAT code 1 to 4 of R83, `rate` the
nominal sample rate in Hz, `frames` one list of payload words per sample, in channel order. `ns` is the media time in
ns at which the packet passed the port's message timestamp point; the timestamp taken of it is R166's. -/
structure AvtpPacket where
  sid     : BitVec 64
  subtypeOk : Bool
  mr      : Bool
  tv      : Bool
  tu      : Bool
  seq     : Byte
  ts      : Word
  format  : Nat
  rate    : Nat
  frames  : List (List Word)
  port    : Fin 8
  ns      : Nat
deriving DecidableEq, Repr

/-- A received RTP datagram (R87, R90): `format` is 5 for L16 and 6 for L24. -/
structure RtpPacket where
  version : Nat
  pt      : Nat
  seq     : BitVec 16
  ts      : Word
  ssrc    : Word
  dstIp   : Word
  dstPort : BitVec 16
  format  : Nat
  frames  : List (List Word)
  port    : Fin 8
  ns      : Nat
deriving DecidableEq, Repr

/-- A received CRF PDU (R86): `audioSample` says that its type is AUDIO_SAMPLE, `pull` that its pull is ×1.0. -/
structure CrfPdu where
  sid         : BitVec 64
  seq         : Byte
  audioSample : Bool
  baseHz      : Nat
  pullOne     : Bool
  interval    : Nat
  stamps      : List (BitVec 64)
  port        : Fin 8
  ns          : Nat
deriving DecidableEq, Repr

/-- The announcing fields of a PTP Announce message, in the order in which BMCA compares them (R165), and the flags that it carries beside
them: 1 timeTraceable, 2 frequencyTraceable (R168, R466). -/
structure PtpVector where
  priority1 : Nat
  clkClass  : Nat
  accuracy  : Nat
  variance  : Nat
  priority2 : Nat
  gmId      : BitVec 64
  steps     : Nat
  traceable : Nat
deriving DecidableEq, Repr

/-- A received PTP message: the profile it is sent in (0 gPTP, 1 AES67), its domain, sequence number, sender port,
correction field in ns, the port identity it answers, and the media time in ns at which it passed the SerDes boundary.
`ts` is the timestamp it carries in ns: the origin time of a Sync or Follow_Up, the time a Delay_Req was received in a
Delay_Resp; in a Pdelay_Resp (with its follow-up) the response's origin time, `corr` then being the turnaround. -/
structure PtpMsg where
  profile : Nat
  domain  : Nat
  seq     : BitVec 16
  srcId   : BitVec 64
  srcPort : Nat
  reqId   : BitVec 64
  twoStep : Bool
  corr    : Int
  ts      : Nat
  ns      : Nat
deriving DecidableEq, Repr

/-- A received Pdelay_Req (R165), with the media time in ns at which the response to it passes the SerDes boundary. -/
structure PdelayReq where
  msg  : PtpMsg
  sent : Nat
deriving DecidableEq, Repr

/-- The station that sent an ARP request (R87): its IP address and its MAC address. -/
structure ArpSender where
  ip  : Word
  mac : Mac
deriving DecidableEq, Repr

/-- A received MAC control frame (R134, R136): destination, opcode, the class-enable vector and one quanta value per
priority (entry 0 alone for a plain PAUSE). -/
structure PauseFrame where
  da     : Mac
  opcode : BitVec 16
  enable : Byte
  quanta : List Nat
deriving DecidableEq, Repr

/-- A received IEEE 1722.1 message (R89): the controller that sent it and its MAC address (`src`), the entity it addresses, its sequence number,
and the stream entry, descriptor or other number it names. `stream` is the STREAM_ID that a CONNECT_RX or CONNECT_TX
carries, `name` the text of a SET_NAME. -/
structure AvdMsg where
  controller : BitVec 64
  entity     : BitVec 64
  seq        : BitVec 16
  entry      : Fin 512
  descType   : Nat
  stream     : BitVec 64
  flags      : Nat
  name       : List Byte
  port       : Fin 8
  src        : Mac
deriving DecidableEq, Repr

/-- A received SAP announcement: the message identity hash, the originating address, whether it deletes the session,
and the record of at most 256 bytes that the discovery table stores (R88). -/
structure SapMsg where
  hash    : BitVec 16
  origin  : Word
  deletes : Bool
  record  : List Byte
deriving DecidableEq, Repr

/-- The fatal faults of R458, and the corrected shared-memory error, which is none (R39). -/
inductive FatalCause | smCorrected | sharedMem | storm | watchdog | lockstep | clockLoss | overTemp
deriving DecidableEq, Repr

/-- An engine fault of a memory, found in this tick (R296): a descriptor's parity error (cause 1) or an uncorrectable error
of local memory (cause 2), with the instance whose fetch or run it fell in, if one. -/
structure EngFault where
  engine : Fin 8
  ecc    : Bool
  inst   : Option (Fin 8192)
deriving DecidableEq, Repr

/-- What an engine had used when the deadline came (R58, R79): the cycles, and if it missed it the position in its list
of the instance that was running. -/
structure EngLate where
  engine : Fin 8
  cycles : Nat
  missed : Option Nat
deriving DecidableEq, Repr

/-- A completed input frame of a serial port (R226, R228, R239): the sample index of media time at which it began, its
slots as raw SLOT_W-bit values in slot order, whether its BCLK count is right, how many completed frames were waiting,
its measured frame rate in 0.01 Hz, and for a port behind a rate group how many house samples its conversion completes. -/
structure SpFrame where
  port     : Fin 8
  began    : Nat
  slots    : List Word
  lengthOk : Bool
  waiting  : Nat
  rate     : Nat
  count    : Nat
deriving DecidableEq, Repr

/-- A quantity that the device measures, as it stands when a tick starts (R303, R314, R316, R334, R504, R512): in the units
of its register. `iinHeld`: a rail's input current is being held at its limit; `bootLow`: cycles of a channel with the
high side held off by its bootstrap (R325); `tuning`: PLL-M's tuning voltage lies within 10 % of its low (1) or high (2) end. -/
inductive Meas
  | vin (v : Nat) | vgd (v : Nat) | core (v : Nat) | sm (v : Nat) | sd (v : Nat) | sda (v : Nat) | ioa (v : Nat) | iob (v : Nat)
  | vb (rail : Fin 2) (v : Nat) | iin (rail : Fin 2) (v : Nat) | iinHeld (rail : Fin 2) (on : Bool)
  | ntc (k : Fin 4) (code : Nat) | tempLogic (t : Int) | tempPower (t : Int)
  | bootLow (ch : Fin 8) (cycles : Nat) | tuning (ends : Fin 4)
deriving DecidableEq, Repr

/-- A write, shadow-bank write or arm that an ACTIVE unit mirrors to its partner (R391), or a word of seated state (R400): the
address, the entry that it reached on the active for a register behind a window, and the data. -/
structure Mirror where
  addr  : Word
  entry : Nat
  data  : Word
deriving DecidableEq, Repr

/-- What a partner's bitmap lacks (R388): receive entries and port channels with the position of the index in the tick, and
clip instances. -/
structure Lacks where
  rx   : List (Nat × Nat)
  sp   : List (Nat × Nat × Nat)
  clip : List Nat
deriving DecidableEq, Repr

/-- A commit's result that an ACTIVE unit sends (R391): rejected with a reason, page and index, or the tick at which it takes
effect. -/
inductive CommitWord
  | rejected (reason page index : Nat)
  | due (tick : Nat)
deriving DecidableEq, Repr

/-- A brace frame (R380). `leadOk` and `restOk` say which segments pass their checks; `role` and `dev` are codes of R409 and
R446; `notice` a self-demotion notice; `time` the sender's media time in ns as it sends the frame; `present` the presence of the sender's inputs of tick `tick` − 1;
`digest` its output digest of that tick, where it has one; `acked` the positions up to which it has taken the mirrored writes and the commit results of
its partner (R391, log entry 140); the rest is what an ACTIVE sender adds, `first` being the positions of the first of `mirror` and of `commits`. -/
structure BraceFrame where
  leadOk  : Bool
  restOk  : Bool
  device  : Nat
  role    : Nat
  dev     : Nat
  tick    : Nat
  time    : Nat
  epoch   : Bool
  notice  : Bool
  present : Lacks
  digest  : Option (BitVec 64)
  acked   : Nat × Nat
  first   : Nat × Nat
  ratios  : List (Fin 32 × Option Nat)
  samples : List (Fin 8 × Nat × List Word)
  requests : List (List Word)
  mirror  : List Mirror
  commits : List CommitWord
  available : Option Nat
deriving DecidableEq, Repr

/-- A received brace frame (R380), with the unit's own media time in ns as it receives it (R175). -/
structure BraceRx where
  frame : BraceFrame
  own   : Nat
deriving DecidableEq, Repr

/-- A network heartbeat (R381): the key slot, the session and count of its REPLAY and the TAG of its Ocdor frame (R437, R438), and its content. -/
structure Heartbeat where
  slot    : Byte
  session : Word
  count   : Word
  tag     : BitVec 64
  device : Nat
  role   : Nat
  dev    : Nat
  tick   : Nat
  notice : Bool
deriving DecidableEq, Repr

/-- A corrected or uncorrectable memory error that is no engine fault (R269, R279): an entry of the crosspoint bank in force, by
its position, or an engine's local memory, where SECDED corrected it. -/
inductive EccErr
  | bank (entry : Nat) (uncorrectable : Bool)
  | localMem (engine : Fin 8)
deriving DecidableEq, Repr

/-- Which flash read did not complete in time (R444): that of the boot ROM or of a LOAD, or a clip prefetch of an instance. -/
inductive FlashRead
  | boot
  | clip (inst : Fin 8192)
deriving DecidableEq, Repr

/-- The commands of the block, one per row of the opcode table, in its order (section 95 lists what each step holds). -/
inductive Instr
  | porstNRise (bootsel : Fin 4) (iob33 : Bool)  -- PORST_N_RISE (R40)
  | porstNLow (powerRemoved : Bool)  -- PORST_N_LOW (R40)
  | vddCoreReset  -- VDD_CORE_RESET (R322)
  | wrstNPulse (bootsel : Fin 4)  -- WRST_N_PULSE (R412)
  | wreset (who : Initiator) (bootsel : Fin 4)  -- WRESET (R412)
  | bootRomStart (flashOk : Bool)  -- BOOT_ROM_START (R416)
  | firmwareLoaded (flashOk : Bool)  -- FIRMWARE_LOADED (R415)
  | serviceFirmwareStart  -- SERVICE_FIRMWARE_START (R416)
  | imageReadDone (flashOk : Bool)  -- IMAGE_READ_DONE (R419)
  | imageValidationDone (us : Nat)  -- IMAGE_VALIDATION_DONE (R426)
  | start (who : Initiator)  -- START (R429)
  | startValidationDone  -- START_VALIDATION_DONE (R429)
  | stop (who : Initiator)  -- STOP (R430)
  | stopDone  -- STOP_DONE (R430)
  | load (who : Initiator)  -- LOAD (R428)
  | loadValidationDone (flashOk : Bool)  -- LOAD_VALIDATION_DONE (R428)
  | sleep (who : Initiator)  -- SLEEP (R432)
  | wakeFilterMatch (port : Fin 8) (frame : FrameIn)  -- WAKE_FILTER_MATCH (R144)
  | gpWake (pin : Fin 16) (level : Bool)  -- GP_WAKE (R433)
  | qspiWake  -- QSPI_WAKE (R435)
  | wakeDone  -- WAKE_DONE (R433)
  | tickBoundary (refs : List RefMeas) (meas : List Meas)  -- TICK_BOUNDARY (R49)
  | evtRawExpiry (event : Fin 96)  -- EVT_RAW_EXPIRY (R451)
  | cutListWindowStart (faults : List EngFault) (ecc : List EccErr)  -- CUT_LIST_WINDOW_START (R49)
  | presenceAgreement  -- PRESENCE_AGREEMENT (R388)
  | engineDeadline (late : List EngLate)  -- ENGINE_DEADLINE (R58)
  | reepoch (who : Initiator)  -- REEPOCH (R47)
  | cntClr (who : Initiator) (page : Fin 256)  -- CNT_CLR (R474)
  | srst (who : Initiator) (page : Fin 256)  -- SRST (R474)
  | arm (who : Initiator) (page : Fin 256)  -- ARM (R62)
  | groupCommit (who : Initiator)  -- GROUP_COMMIT (R62)
  | commitValidated  -- COMMIT_VALIDATED (R64)
  | commitTakeEffect  -- COMMIT_TAKE_EFFECT (R65)
  | fenceStart (who : Initiator)  -- FENCE_START (R71)
  | fenceDone (who : Initiator)  -- FENCE_DONE (R71)
  | registerWrite (who : Initiator) (addr data : Word)  -- REGISTER_WRITE (R475)
  | qspiRead (tx : QspiTx)  -- QSPI_READ (R435)
  | qspiWrite (tx : QspiTx)  -- QSPI_WRITE (R435)
  | qspiQread (tx : QspiTx)  -- QSPI_QREAD (R435)
  | qspiQwrite (tx : QspiTx)  -- QSPI_QWRITE (R435)
  | qspiStatus  -- QSPI_STATUS (R435)
  | ocdorRead (f : OcdorFrame)  -- OCDOR_READ (R439)
  | ocdorWrite (f : OcdorFrame)  -- OCDOR_WRITE (R439)
  | ocdorFence (f : OcdorFrame)  -- OCDOR_FENCE (R439)
  | ocdorSubscribe (f : OcdorFrame)  -- OCDOR_SUBSCRIBE (R439)
  | refLockout (who : Initiator) (slot : Fin 8) (on : Bool)  -- REF_LOCKOUT (R184)
  | refQualified (slot : Fin 8)  -- REF_QUALIFIED (R178)
  | wtrExpiry  -- WTR_EXPIRY (R181)
  | acquireDone  -- ACQUIRE_DONE (R185)
  | holdEstUpdate (bare : Unit)  -- HOLD_EST_UPDATE (R190)
  | ppsInEdge (period : Nat) (offset : Int)  -- PPS_IN_EDGE (R177)
  | ppsInAbsent  -- PPS_IN_ABSENT (R174)
  | wclkInEdge (k : Fin 2) (period : Nat) (offset : Int)  -- WCLK_IN_EDGE (R177)
  | clkoutAlign (who : Initiator) (mask : Fin 64)  -- CLKOUT_ALIGN (R198)
  | pllRefLost (loop : LoopId)  -- PLL_REF_LOST (R210)
  | pllFlockSet (loop : LoopId) (count : Nat)  -- PLL_FLOCK_SET (R211)
  | pllFlockClear (loop : LoopId) (count : Nat)  -- PLL_FLOCK_CLEAR (R213)
  | pllPlockSet (loop : LoopId) (phase : PhaseRun)  -- PLL_PLOCK_SET (R212)
  | pllPlockClear (loop : LoopId) (ps : Int)  -- PLL_PLOCK_CLEAR (R212)
  | pllmCeilingTrip (count : Nat)  -- PLLM_CEILING_TRIP (R214)
  | pllmUngate  -- PLLM_UNGATE (R215)
  | clkMuteRelease  -- CLK_MUTE_RELEASE (R217)
  | pllmCal (who : Initiator)  -- PLLM_CAL (R208)
  | pllmCalDone (ranges : List (Nat × Nat))  -- PLLM_CAL_DONE (R208)
  | pllmBandRetry  -- PLLM_BAND_RETRY (R209)
  | selfReset (bootsel : Fin 4)  -- SELF_RESET (R39)
  | fatalFault (cause : FatalCause)  -- FATAL_FAULT (R458)
  | safeEntry  -- SAFE_ENTRY (R459)
  | autoWarmReset (bootsel : Fin 4)  -- AUTO_WARM_RESET (R462)
  | spWatchdogExpiry  -- SP_WATCHDOG_EXPIRY (R351)
  | macFrameRx (port : Fin 8) (f : FrameIn)  -- MAC_FRAME_RX (R125)
  | pauseRefresh (port : Fin 8)  -- PAUSE_REFRESH (R130)
  | pauseCancel (port : Fin 8)  -- PAUSE_CANCEL (R130)
  | pauseRx (port : Fin 8) (f : PauseFrame)  -- PAUSE_RX (R136)
  | pauseTimerExpiry (port : Fin 8) (prio : Option (Fin 8))  -- PAUSE_TIMER_EXPIRY (R136)
  | linkUp (port : Fin 8) (speed : Fin 7) (pause : Fin 4)  -- LINK_UP (R121)
  | linkDown (port : Fin 8)  -- LINK_DOWN (R121)
  | phyPoll (port : Fin 8) (up : Bool)  -- PHY_POLL (R122)
  | mdioC22Read (who : Initiator) (phy reg : Fin 32)  -- MDIO_C22_READ (R147)
  | mdioC22Write (who : Initiator) (phy reg : Fin 32)  -- MDIO_C22_WRITE (R147)
  | mdioC45Address (who : Initiator) (phy dev : Fin 32)  -- MDIO_C45_ADDRESS (R147)
  | mdioC45Write (who : Initiator) (phy dev : Fin 32)  -- MDIO_C45_WRITE (R147)
  | mdioC45Read (who : Initiator) (phy dev : Fin 32)  -- MDIO_C45_READ (R147)
  | mdioDone (data : BitVec 16)  -- MDIO_DONE (R147)
  | plcaBeaconTx (t1s : Fin 2)  -- PLCA_BEACON_TX (R139)
  | plcaBeaconRx (t1s : Fin 2)  -- PLCA_BEACON_RX (R140)
  | plcaTxOpportunity (t1s : Fin 2)  -- PLCA_TX_OPPORTUNITY (R139)
  | plcaBeaconLost (t1s : Fin 2)  -- PLCA_BEACON_LOST (R140)
  | plcaCollision (t1s : Fin 2)  -- PLCA_COLLISION (R140)
  | fdbLookup (who : Initiator)  -- FDB_LOOKUP (R170)
  | fdbAddStatic (who : Initiator)  -- FDB_ADD_STATIC (R170)
  | fdbDelete (who : Initiator)  -- FDB_DELETE (R170)
  | fdbFlushDynamic (who : Initiator)  -- FDB_FLUSH_DYNAMIC (R170)
  | fdbCmdDone  -- FDB_CMD_DONE (R170)
  | fdbAgeOut (mac : Mac) (vid : Fin 4096)  -- FDB_AGE_OUT (R152)
  | hostFrameSubmit (who : Initiator) (tail : Fin 1024)  -- HOST_FRAME_SUBMIT (R157)
  | tasConfigChange (port : Fin 8)  -- TAS_CONFIG_CHANGE (R159)
  | tasGateAdvance (port : Fin 8)  -- TAS_GATE_ADVANCE (R159)
  | tsnFilterUnblock (who : Initiator) (filter : Fin 512)  -- TSN_FILTER_UNBLOCK (R162)
  | frerResetTimeout (entry : Fin 256)  -- FRER_RESET_TIMEOUT (R163)
  | ptpSyncRx (port : Fin 8) (m : PtpMsg)  -- PTP_SYNC_RX (R167)
  | ptpFollowUpRx (port : Fin 8) (m : PtpMsg)  -- PTP_FOLLOW_UP_RX (R165)
  | ptpAnnounceRx (port : Fin 8) (m : PtpMsg) (v : PtpVector)  -- PTP_ANNOUNCE_RX (R165)
  | ptpPdelayReqRx (port : Fin 8) (m : PdelayReq)  -- PTP_PDELAY_REQ_RX (R165)
  | ptpPdelayRespRx (port : Fin 8) (m : PtpMsg)  -- PTP_PDELAY_RESP_RX (R165)
  | ptpDelayReqRx (port : Fin 8) (m : PtpMsg)  -- PTP_DELAY_REQ_RX (R165)
  | ptpDelayRespRx (port : Fin 8) (m : PtpMsg)  -- PTP_DELAY_RESP_RX (R165)
  | ptpSyncTx (port : Fin 8) (ns : Nat)  -- PTP_SYNC_TX (R165)
  | ptpAnnounceTx (port : Fin 8)  -- PTP_ANNOUNCE_TX (R168)
  | ptpDelayRequestTx (port : Fin 8) (ns : Nat)  -- PTP_DELAY_REQUEST_TX (R165)
  | ptpSyncTimeout  -- PTP_SYNC_TIMEOUT (R167)
  | ptpAnnounceTimeout (port : Fin 8)  -- PTP_ANNOUNCE_TIMEOUT (R165)
  | avtpRx (p : AvtpPacket)  -- AVTP_RX (R93)
  | rtpRx (p : RtpPacket)  -- RTP_RX (R93)
  | rtcpRx  -- RTCP_RX (R87)
  | crfRx (p : CrfPdu)  -- CRF_RX (R86)
  | rxStarved (entry : Fin 512)  -- RX_STARVED (R103)
  | arpRequest (port : Fin 8) (target : Word) (sender : ArpSender)  -- ARP_REQUEST (R87)
  | igmpQuery (port : Fin 8) (v2 : Bool)  -- IGMP_QUERY (R87)
  | sapAnnounce  -- SAP_ANNOUNCE (R88)
  | sapRx (m : SapMsg)  -- SAP_RX (R88)
  | adpEntityAvailable  -- ADP_ENTITY_AVAILABLE (R89)
  | adpEntityDiscover (m : AvdMsg)  -- ADP_ENTITY_DISCOVER (R89)
  | connectTx (m : AvdMsg)  -- CONNECT_TX (R89)
  | disconnectTx (m : AvdMsg)  -- DISCONNECT_TX (R89)
  | getTxState (m : AvdMsg)  -- GET_TX_STATE (R89)
  | getTxConnection (m : AvdMsg)  -- GET_TX_CONNECTION (R89)
  | connectRx (m : AvdMsg)  -- CONNECT_RX (R89)
  | disconnectRx (m : AvdMsg)  -- DISCONNECT_RX (R89)
  | getRxState (m : AvdMsg)  -- GET_RX_STATE (R89)
  | acquireEntity (m : AvdMsg)  -- ACQUIRE_ENTITY (R89)
  | lockEntity (m : AvdMsg)  -- LOCK_ENTITY (R89)
  | aecpEntityAvailable (m : AvdMsg)  -- AECP_ENTITY_AVAILABLE (R89)
  | controllerAvailable (m : AvdMsg)  -- CONTROLLER_AVAILABLE (R89)
  | readDescriptor (m : AvdMsg)  -- READ_DESCRIPTOR (R89)
  | getConfiguration (m : AvdMsg)  -- GET_CONFIGURATION (R89)
  | getStreamFormat (m : AvdMsg)  -- GET_STREAM_FORMAT (R89)
  | getStreamInfo (m : AvdMsg)  -- GET_STREAM_INFO (R89)
  | getName (m : AvdMsg)  -- GET_NAME (R89)
  | setName (m : AvdMsg)  -- SET_NAME (R89)
  | getCounters (m : AvdMsg)  -- GET_COUNTERS (R89)
  | getAvbInfo (m : AvdMsg)  -- GET_AVB_INFO (R89)
  | getAsPath (m : AvdMsg)  -- GET_AS_PATH (R89)
  | registerUnsolicitedNotification (m : AvdMsg)  -- REGISTER_UNSOLICITED_NOTIFICATION (R89)
  | deregisterUnsolicitedNotification (m : AvdMsg)  -- DEREGISTER_UNSOLICITED_NOTIFICATION (R89)
  | aecpUnsupported (m : AvdMsg)  -- AECP_UNSUPPORTED (R89)
  | spFrameRx (f : SpFrame)  -- SP_FRAME_RX (R228)
  | spFrameTxStart (port : Fin 8) (index : Nat)  -- SP_FRAME_TX_START (R238)
  | spClockLoss (port : Fin 8)  -- SP_CLOCK_LOSS (R230)
  | spClockReturn (port : Fin 8)  -- SP_CLOCK_RETURN (R230)
  | asrcLock (group : Fin 32) (ratio : Nat)  -- ASRC_LOCK (R248)
  | asrcUnlock (group : Fin 32) (rangeErr : Bool)  -- ASRC_UNLOCK (R248)
  | xpmCopy (who : Initiator)  -- XPM_COPY (R258)
  | xpmCopyDone  -- XPM_COPY_DONE (R258)
  | dpoolRepack (who : Initiator)  -- DPOOL_REPACK (R272)
  | clipPrefetchDone (inst : Fin 8192) (bytes : Nat)  -- CLIP_PREFETCH_DONE (R295)
  | flashReadTimeout (read : FlashRead)  -- FLASH_READ_TIMEOUT (R444)
  | flashCmdFill (who : Initiator) (opcode : Fin 256) (addrBytes : Fin 3) (len : Fin 257)  -- FLASH_CMD_FILL (R445)
  | flashCmdSend (who : Initiator) (opcode : Fin 256) (addrBytes : Fin 3) (len : Fin 257)  -- FLASH_CMD_SEND (R445)
  | flashCmdDone (data : List Byte) (changed : List (Nat × Byte))  -- FLASH_CMD_DONE (R445)
  | otpCfgSigReq (who : Initiator)  -- OTP_CFG_SIG_REQ (R442)
  | otpCustKeyHash (who : Initiator) (index : Fin 4)  -- OTP_CUST_KEY_HASH (R442)
  | otpRevokeKey (who : Initiator) (index : Fin 4)  -- OTP_REVOKE_KEY (R442)
  | otpIbKey (who : Initiator) (index : Fin 4)  -- OTP_IB_KEY (R442)
  | otpRaiseFwMin (who : Initiator)  -- OTP_RAISE_FW_MIN (R442)
  | otpJtagDisable (who : Initiator)  -- OTP_JTAG_DISABLE (R442)
  | otpCmdDone (ok : Bool)  -- OTP_CMD_DONE (R442)
  | clipCrcCheckDone (id : Fin 4096)  -- CLIP_CRC_CHECK_DONE (R369)
  | svcPlay (r : SvcReq)  -- SVC_PLAY (R360)
  | svcCall (r : SvcReq)  -- SVC_CALL (R371)
  | svcAnswer (r : SvcReq)  -- SVC_ANSWER (R372)
  | svcRelease (r : SvcReq)  -- SVC_RELEASE (R359)
  | svcLock (r : SvcReq)  -- SVC_LOCK (R364)
  | svcUnlock (r : SvcReq)  -- SVC_UNLOCK (R364)
  | serviceCommitArm  -- SERVICE_COMMIT_ARM (R357)
  | svcClipDone (player : Fin 32)  -- SVC_CLIP_DONE (R370)
  | dieLinkFrame (ok : Bool)  -- DIE_LINK_FRAME (R23)
  | dieLinkLoss  -- DIE_LINK_LOSS (R23)
  | dieLinkShutdown  -- DIE_LINK_SHUTDOWN (R315)
  | dacClockLoss  -- DAC_CLOCK_LOSS (R309)
  | gainRampEnd (ch : Fin 8)  -- GAIN_RAMP_END (R306)
  | cmRampEnd (ch : Fin 8) (trim : Option Int)  -- CM_RAMP_END (R306)
  | pchClear (who : Initiator) (ch : Fin 8)  -- PCH_CLEAR (R332)
  | ocpCycleLimit (ch : Fin 8) (cycles : Nat)  -- OCP_CYCLE_LIMIT (R310)
  | ocpSustained (ch : Fin 8)  -- OCP_SUSTAINED (R310)
  | ocpFast (ch : Fin 8)  -- OCP_FAST (R310)
  | retryWaitExpiry (ch : Fin 8)  -- RETRY_WAIT_EXPIRY (R311)
  | retryNumClear (ch : Fin 8)  -- RETRY_NUM_CLEAR (R311)
  | dcFault (ch : Fin 8)  -- DC_FAULT (R313)
  | senseLoss (ch : Fin 8)  -- SENSE_LOSS (R304)
  | syncSlip (ch : Fin 8)  -- SYNC_SLIP (R302)
  | syncRelock (ch : Fin 8)  -- SYNC_RELOCK (R302)
  | ntcWarn (k : Fin 4) (code : Fin 4096)  -- NTC_WARN (R314)
  | ntcShutdown (k : Fin 4) (code : Fin 4096)  -- NTC_SHUTDOWN (R314)
  | ntcWarnEnd (k : Fin 4) (code : Fin 4096)  -- NTC_WARN_END (R314)
  | powerDieOvertemp  -- POWER_DIE_OVERTEMP (R315)
  | logicDieOvertemp  -- LOGIC_DIE_OVERTEMP (R504)
  | tempWarn (die : Fin 2) (temp : Int)  -- TEMP_WARN (R504)
  | vinWarn  -- VIN_WARN (R323)
  | vinWarnClear  -- VIN_WARN_CLEAR (R323)
  | vinReset  -- VIN_RESET (R324)
  | vinRecover  -- VIN_RECOVER (R324)
  | vgdWarn (below : Bool)  -- VGD_WARN (R322)
  | vgdUvlo  -- VGD_UVLO (R325)
  | vgdUvloClear  -- VGD_UVLO_CLEAR (R325)
  | coreWarn (below : Bool)  -- CORE_WARN (R322)
  | ioWarn (rail : Fin 7) (outside stop : Bool)  -- IO_WARN (R487)
  | railSoftStartDone (rail : Fin 2)  -- RAIL_SOFT_START_DONE (R321)
  | boostOvp (rail : Fin 2) (above lasted : Bool) (cycles : Nat)  -- BOOST_OVP (R321)
  | boostUvp (rail : Fin 2)  -- BOOST_UVP (R321)
  | boostPhaseOcp (rail phase : Fin 2)  -- BOOST_PHASE_OCP (R321)
  | boostRetryExpiry (rail : Fin 2)  -- BOOST_RETRY_EXPIRY (R321)
  | bstClear (who : Initiator) (rail : Fin 2)  -- BST_CLEAR (R333)
  | reactiveRailLimit (ch : Fin 8)  -- REACTIVE_RAIL_LIMIT (R320)
  | diagDc (who : Initiator) (mask : Fin 256)  -- DIAG_DC (R338)
  | diagSweep (who : Initiator) (mask : Fin 256)  -- DIAG_SWEEP (R338)
  | diagLearn (who : Initiator) (mask : Fin 256)  -- DIAG_LEARN (R338)
  | dcTestDone (ch : Fin 8) (ohms : Nat)  -- DC_TEST_DONE (R337)
  | sweepToneDone (mag : Nat) (phase : Int)  -- SWEEP_TONE_DONE (R338)
  | diagChannelDone  -- DIAG_CHANNEL_DONE (R339)
  | pilotWindowEnd (ch : Fin 8) (quiet : Bool) (mag : Nat) (phase : Int)  -- PILOT_WINDOW_END (R344)
  | braceFrameRx (r : BraceRx)  -- BRACE_FRAME_RX (R380)
  | bracePathSilent  -- BRACE_PATH_SILENT (R382)
  | networkHeartbeatTx  -- NETWORK_HEARTBEAT_TX (R381)
  | networkHeartbeatRx (h : Heartbeat)  -- NETWORK_HEARTBEAT_RX (R381)
  | netPathSilent  -- NET_PATH_SILENT (R382)
  | formationTimeout  -- FORMATION_TIMEOUT (R383)
  | roleChange  -- ROLE_CHANGE (R384)
  | swap (who : Initiator)  -- SWAP (R387)
  | reseatStart  -- RESEAT_START (R401)
  | reseatRoundDone (dirty : Nat) (seated : List Mirror)  -- RESEAT_ROUND_DONE (R401)
  | sealSend  -- SEAL_SEND (R402)
  | sealRx (inTime : Bool) (seat : Machine.Seat)  -- SEAL_RX (R402)
  | reseatTimeout  -- RESEAT_TIMEOUT (R403)
  | reseatRetry  -- RESEAT_RETRY (R403)
  | coldStartDone  -- COLD_START_DONE (R404)
  | relayTakeover (k : Fin 4)  -- RELAY_TAKEOVER (R406)
  | relayEnergise (k : Fin 4)  -- RELAY_ENERGISE (R406)
  | relaySettled (k : Fin 4)  -- RELAY_SETTLED (R406)
  | relayRelease (k : Fin 4)  -- RELAY_RELEASE (R407)
  | gpioEdge (pin : Fin 16) (level : Bool)  -- GPIO_EDGE (R481)
  | vddCoreResetClear (bootsel : Fin 4)  -- VDD_CORE_RESET_CLEAR (R322)
  | powerDieTempRelease  -- POWER_DIE_TEMP_RELEASE (R315)
  | linkSpeedChange (port : Fin 8) (speed : Fin 7)  -- LINK_SPEED_CHANGE (R121)
  | wclkInAbsent (k : Fin 2)  -- WCLK_IN_ABSENT (R174)
deriving DecidableEq, Repr

end Sys2Proof
end

