-- ==== Sys2Proof/Config.lean ====
section
/-! DEFINITION. What the spec leaves open: free values, and the functions of standards and algorithms that the spec
names and does not restate. Every constant is opaque, so no proof can see its value. -/

namespace Sys2Proof

/-- A fresh 32-bit value that nothing constrains, by the number of values drawn before it. -/
opaque Config.freeWord : Nat → BitVec 32

/-- What an internal algorithm of a block (R281, R515) works on in a tick: BLOCK_TYPE, the record's words, INSTANCE_ID, the tick number, the
controls in force, the state that the algorithm has reached since INIT, and its inputs of the tick. -/
structure AlgIn where
  type   : Nat
  record : List Nat
  id     : Nat
  tick   : Nat
  ctl    : Nat
  state  : Nat
  inputs : List Int
deriving DecidableEq, Repr

/-- The state that an internal algorithm reaches after a tick; TICK_CATREV fixes it and the spec does not state it (R515). -/
opaque Config.algStep : AlgIn → Nat

/-- The k-th 32-bit value that an internal algorithm gives in a tick (R515). -/
opaque Config.algValue : AlgIn → Nat → BitVec 32

/-- The k-th of the 1,024 loop inputs of a tick that the linear-phase interpolation of R299 step 6 gives, whose filter the spec does not state, from
the samples of the tick before and of the tick. -/
opaque Config.interp : List Int → Nat → BitVec 24

/-- The drop of a rail's rectifier in µV (R316). -/
opaque Config.rectDrop : Nat

/-- SHA-256 (R415, R422, R425), a standard the spec names and does not restate. -/
opaque Config.sha256 : List Byte → BitVec 256

/-- ECDSA P-256 verification (R415, R425): public key (X, then Y), signature (r, then s), message hash. -/
opaque Config.ecdsaVerify : List Byte → List Byte → BitVec 256 → Bool

/-- The leftmost 64 bits of AES-CMAC-128 (R437) under a key over bytes. -/
opaque Config.cmac64 : BitVec 128 → List Byte → BitVec 64

end Sys2Proof
end

