-- ==== Sys2Proof/Machine/RegTable.lean ====
section
/-! DEFINITION. The register fields of every page of R483 but the common header, one definition per field of the
spec's register tables: page, number of instance pages, offset, strides, bits, access code, reset value (a negative
reset value in two's complement of the field's width), selector window, the range whose violation R476 ignores. -/

namespace Sys2Proof.Machine

/-- The access codes of R15 and R475. -/
inductive Acc | ro | rw | wo | w1c | sc | rws | rwl
deriving DecidableEq, Repr

/-- The selector windows (R479): which selector register chooses the entry behind a window register. -/
inductive Win
  | none | strx | sttx | brPort | brVlan | tsnPort | tsnGcl | tsnSf | tsnFm | frer | ptpPort | band | asrc
  | siPair | dpool | svcZone | svcCall
deriving DecidableEq, Repr

/-- Which instances of a field have the stated reset value; every other instance resets to the value `Fld.resetAt` gives. -/
inductive RstRule | all | twice | only (i : Nat) | from (i : Nat)
deriving DecidableEq, Repr

/-- One field of a register table of the spec: `npages` pages from `page`, at
`off + s1 * i + s2 * j` (i below `n1`, j below `n2`), bits `hi` down to `lo`. -/
structure Fld where
  page   : Nat
  npages : Nat
  off    : Nat
  s1     : Nat
  n1     : Nat
  s2     : Nat
  n2     : Nat
  hi     : Nat
  lo     : Nat
  acc    : Acc
  rst    : Nat
  rule   : RstRule
  win    : Win
  rng    : Option (Nat × Nat)
deriving DecidableEq, Repr

/-- Bits of the field. -/
def Fld.width (f : Fld) : Nat := f.hi - f.lo + 1

/-- The key of instance (i, j) of the field in the register store: page, offset and low bit name the field, and i and j
(below 65,536) its instance. -/
def Fld.key (f : Fld) (i j : Nat) : Nat :=
  ((f.page * 4096 + f.off) * 32 + f.lo) * 4294967296 + (i % 65536) * 65536 + j % 65536

/-- The reset value of instance i of the field (R416 puts every register at its reset value). -/
def Fld.resetAt (f : Fld) (i : Nat) : Nat :=
  match f.rule with
  | .all => f.rst
  | .twice => 2 * i
  | .only k => if i = k then f.rst else 0
  | .from k => if k ≤ i then f.rst else 0

/-- A field that its table calls reserved: it reads 0, and a 1 written there is discarded with EV_HOST_ERR (R16, R477); only STTX_ENTRY10 and 11 of
R115 have an access code. -/
def Fld.reserved (f : Fld) : Bool := f.page == 0x21 && (f.off == 0xe8 || f.off == 0xec)

namespace R

/-- TICK_NUM_LO, bits [31:0], field NUM (R79). -/
def TICK_NUM_LO_NUM : Fld := ⟨0x48, 1, 0x40, 0, 1, 0, 1, 31, 0, .ro, 0, .all, .none, none⟩
/-- TICK_NUM_HI, bits [15:0], field NUM (R79). -/
def TICK_NUM_HI_NUM : Fld := ⟨0x48, 1, 0x44, 0, 1, 0, 1, 15, 0, .ro, 0, .all, .none, none⟩
/-- TICK_SIDX_LO, bits [31:0], field SIDX (R79). -/
def TICK_SIDX_LO_SIDX : Fld := ⟨0x48, 1, 0x48, 0, 1, 0, 1, 31, 0, .ro, 0, .all, .none, none⟩
/-- TICK_SIDX_HI, bits [31:0], field SIDX (R79). -/
def TICK_SIDX_HI_SIDX : Fld := ⟨0x48, 1, 0x4c, 0, 1, 0, 1, 31, 0, .ro, 0, .all, .none, none⟩
/-- TICK_PHASE, bits [16:0], field CYCLE (R79). -/
def TICK_PHASE_CYCLE : Fld := ⟨0x48, 1, 0x50, 0, 1, 0, 1, 16, 0, .ro, 0, .all, .none, none⟩
/-- TICK_CTRL, bits [0:0], field REEPOCH (R79). -/
def TICK_CTRL_REEPOCH : Fld := ⟨0x48, 1, 0x54, 0, 1, 0, 1, 0, 0, .sc, 0, .all, .none, none⟩
/-- TICK_CTRL, bits [1:1], field CNT_CLR (R79). -/
def TICK_CTRL_CNT_CLR : Fld := ⟨0x48, 1, 0x54, 0, 1, 0, 1, 1, 1, .sc, 0, .all, .none, none⟩
/-- TICK_CTRL, bits [15:8], field STORM_N (R79). -/
def TICK_CTRL_STORM_N : Fld := ⟨0x48, 1, 0x54, 0, 1, 0, 1, 15, 8, .rw, 48, .all, .none, (some (0, 255))⟩
/-- TICK_STATUS, bits [0:0], field EPOCH_VALID (R79). -/
def TICK_STATUS_EPOCH_VALID : Fld := ⟨0x48, 1, 0x58, 0, 1, 0, 1, 0, 0, .ro, 0, .all, .none, none⟩
/-- TICK_STATUS, bits [1:1], field EPOCH_SET (R79). -/
def TICK_STATUS_EPOCH_SET : Fld := ⟨0x48, 1, 0x58, 0, 1, 0, 1, 1, 1, .w1c, 0, .all, .none, none⟩
/-- TICK_STATUS, bits [2:2], field FALLBACK (R79). -/
def TICK_STATUS_FALLBACK : Fld := ⟨0x48, 1, 0x58, 0, 1, 0, 1, 2, 2, .ro, 0, .all, .none, none⟩
/-- TICK_STATUS, bits [3:3], field STORM (R79). -/
def TICK_STATUS_STORM : Fld := ⟨0x48, 1, 0x58, 0, 1, 0, 1, 3, 3, .w1c, 0, .all, .none, none⟩
/-- TICK_CATREV, bits [31:0], field REV (R79). -/
def TICK_CATREV_REV : Fld := ⟨0x48, 1, 0x5c, 0, 1, 0, 1, 31, 0, .ro, 65536, .all, .none, none⟩
/-- TICK_CUT_ADDR, bits [31:0], field ADDR (R79). -/
def TICK_CUT_ADDR_ADDR : Fld := ⟨0x48, 1, 0x60, 0, 1, 0, 1, 31, 0, .rws, 0, .all, .none, none⟩
/-- TICK_CUT_LEN, bits [23:0], field LEN (R79). -/
def TICK_CUT_LEN_LEN : Fld := ⟨0x48, 1, 0x64, 0, 1, 0, 1, 23, 0, .rws, 0, .all, .none, none⟩
/-- TICK_LAST_OVERRUN, bits [2:0], field ENGINE (R79). -/
def TICK_LAST_OVERRUN_ENGINE : Fld := ⟨0x48, 1, 0x68, 0, 1, 0, 1, 2, 0, .ro, 0, .all, .none, none⟩
/-- TICK_LAST_OVERRUN, bits [31:8], field TICK (R79). -/
def TICK_LAST_OVERRUN_TICK : Fld := ⟨0x48, 1, 0x68, 0, 1, 0, 1, 31, 8, .ro, 0, .all, .none, none⟩
/-- ENG_COSTn, bits [16:0], field COST (R79). -/
def ENG_COST_COST : Fld := ⟨0x48, 1, 0x80, 4, 8, 0, 1, 16, 0, .ro, 0, .all, .none, none⟩
/-- ENG_PEAKn, bits [16:0], field PEAK (R79). -/
def ENG_PEAK_PEAK : Fld := ⟨0x48, 1, 0xa0, 4, 8, 0, 1, 16, 0, .ro, 0, .all, .none, none⟩
/-- OVERRUN_CNTn, bits [31:0], field N_CNT (R79). -/
def TICK_OVERRUN_CNT : Fld := ⟨0x48, 1, 0xc0, 4, 8, 0, 1, 31, 0, .ro, 0, .all, .none, none⟩
/-- SYS_FENCE, bits [0:0], field START (R80). -/
def SYS_FENCE_START : Fld := ⟨0x0, 1, 0xc0, 0, 1, 0, 1, 0, 0, .wo, 0, .all, .none, none⟩
/-- SYS_FENCE_DONE, bits [0:0], field DONE (R80). -/
def SYS_FENCE_DONE_DONE : Fld := ⟨0x0, 1, 0xc4, 0, 1, 0, 1, 0, 0, .ro, 1, .all, .none, none⟩
/-- SYS_GROUP_COMMIT, bits [0:0], field GO (R80). -/
def SYS_GROUP_COMMIT_GO : Fld := ⟨0x0, 1, 0xc8, 0, 1, 0, 1, 0, 0, .sc, 0, .all, .none, none⟩
/-- SYS_COMMIT_STATUS, bits [7:0], field REASON (R80). -/
def SYS_COMMIT_STATUS_REASON : Fld := ⟨0x0, 1, 0xcc, 0, 1, 0, 1, 7, 0, .ro, 0, .all, .none, none⟩
/-- SYS_COMMIT_STATUS, bits [15:8], field PAGE (R80). -/
def SYS_COMMIT_STATUS_PAGE : Fld := ⟨0x0, 1, 0xcc, 0, 1, 0, 1, 15, 8, .ro, 0, .all, .none, none⟩
/-- SYS_COMMIT_STATUS, bits [23:16], field QUEUED (R80). -/
def SYS_COMMIT_STATUS_QUEUED : Fld := ⟨0x0, 1, 0xcc, 0, 1, 0, 1, 23, 16, .ro, 0, .all, .none, none⟩
/-- SYS_COMMIT_STATUS, bits [24:24], field LAST_OK (R80). -/
def SYS_COMMIT_STATUS_LAST_OK : Fld := ⟨0x0, 1, 0xcc, 0, 1, 0, 1, 24, 24, .ro, 0, .all, .none, none⟩
/-- SYS_COMMIT_TICK, bits [31:0], field TICK (R80). -/
def SYS_COMMIT_TICK_TICK : Fld := ⟨0x0, 1, 0xd0, 0, 1, 0, 1, 31, 0, .ro, 0, .all, .none, none⟩
/-- PROT_BASEn, bits [0:0], field VALID (R81). -/
def PROT_BASE_VALID : Fld := ⟨0x2, 1, 0x40, 16, 32, 0, 1, 0, 0, .rwl, 0, .all, .none, none⟩
/-- PROT_BASEn, bits [31:12], field BASE (R81). -/
def PROT_BASE_BASE : Fld := ⟨0x2, 1, 0x40, 16, 32, 0, 1, 31, 12, .rwl, 0, .all, .none, none⟩
/-- PROT_SIZEn, bits [20:0], field PAGES (R81). -/
def PROT_SIZE_PAGES : Fld := ⟨0x2, 1, 0x44, 16, 32, 0, 1, 20, 0, .rwl, 0, .all, .none, none⟩
/-- PROT_PERMn, bits [1:0], field HQ (R81). -/
def PROT_PERM_HQ : Fld := ⟨0x2, 1, 0x48, 16, 32, 0, 1, 1, 0, .rwl, 0, .all, .none, none⟩
/-- PROT_PERMn, bits [3:2], field IB (R81). -/
def PROT_PERM_IB : Fld := ⟨0x2, 1, 0x48, 16, 32, 0, 1, 3, 2, .rwl, 0, .all, .none, none⟩
/-- PROT_PERMn, bits [5:4], field SP (R81). -/
def PROT_PERM_SP : Fld := ⟨0x2, 1, 0x48, 16, 32, 0, 1, 5, 4, .rwl, 0, .all, .none, none⟩
/-- PROT_PERMn, bits [7:6], field ENG (R81). -/
def PROT_PERM_ENG : Fld := ⟨0x2, 1, 0x48, 16, 32, 0, 1, 7, 6, .rwl, 0, .all, .none, none⟩
/-- PROT_PERMn, bits [9:8], field SDMA (R81). -/
def PROT_PERM_SDMA : Fld := ⟨0x2, 1, 0x48, 16, 32, 0, 1, 9, 8, .rwl, 0, .all, .none, none⟩
/-- PROT_PERMn, bits [11:10], field FDMA (R81). -/
def PROT_PERM_FDMA : Fld := ⟨0x2, 1, 0x48, 16, 32, 0, 1, 11, 10, .rwl, 0, .all, .none, none⟩
/-- PROT_CTRL, bits [0:0], field LOCK (R81). -/
def PROT_CTRL_LOCK : Fld := ⟨0x2, 1, 0x240, 0, 1, 0, 1, 0, 0, .rwl, 0, .all, .none, none⟩
/-- PROT_DENY_ADDR, bits [31:0], field ADDR (R81). -/
def PROT_DENY_ADDR_ADDR : Fld := ⟨0x2, 1, 0x244, 0, 1, 0, 1, 31, 0, .ro, 0, .all, .none, none⟩
/-- PROT_DENY_INFO, bits [2:0], field CLASS (R81). -/
def PROT_DENY_INFO_CLASS : Fld := ⟨0x2, 1, 0x248, 0, 1, 0, 1, 2, 0, .ro, 0, .all, .none, none⟩
/-- PROT_DENY_INFO, bits [3:3], field WRITE (R81). -/
def PROT_DENY_INFO_WRITE : Fld := ⟨0x2, 1, 0x248, 0, 1, 0, 1, 3, 3, .ro, 0, .all, .none, none⟩
/-- PROT_DENY_INFO, bits [31:31], field VALID (R81). -/
def PROT_DENY_INFO_VALID : Fld := ⟨0x2, 1, 0x248, 0, 1, 0, 1, 31, 31, .w1c, 0, .all, .none, none⟩
/-- PROT_DENY_CNT, bits [31:0], field COUNT (R81). -/
def PROT_DENY_CNT : Fld := ⟨0x2, 1, 0x24c, 0, 1, 0, 1, 31, 0, .ro, 0, .all, .none, none⟩
/-- STRX_CTRL, bits [0:0], field CNT_CLR (R114). -/
def STRX_CTRL_CNT_CLR : Fld := ⟨0x20, 1, 0x40, 0, 1, 0, 1, 0, 0, .sc, 0, .all, .none, none⟩
/-- STRX_CTRL, bits [15:8], field STARVE_TICKS (R114). -/
def STRX_CTRL_STARVE_TICKS : Fld := ⟨0x20, 1, 0x40, 0, 1, 0, 1, 15, 8, .rw, 48, .all, .none, (some (1, 255))⟩
/-- STRX_SEL, bits [8:0], field ENTRY (R114). -/
def STRX_SEL_ENTRY : Fld := ⟨0x20, 1, 0x44, 0, 1, 0, 1, 8, 0, .rw, 0, .all, .none, none⟩
/-- STRX_RING_BASE, bits [31:12], field BASE (R114). -/
def STRX_RING_BASE_BASE : Fld := ⟨0x20, 1, 0x48, 0, 1, 0, 1, 31, 12, .rws, 0, .all, .none, none⟩
/-- STRX_RING_SIZE, bits [12:0], field PAGES (R114). -/
def STRX_RING_SIZE_PAGES : Fld := ⟨0x20, 1, 0x4c, 0, 1, 0, 1, 12, 0, .rws, 0, .all, .none, (some (0, 4096))⟩
/-- STRX_ADMIT_STATUS, bits [8:0], field ENTRY (R114). -/
def STRX_ADMIT_STATUS_ENTRY : Fld := ⟨0x20, 1, 0x50, 0, 1, 0, 1, 8, 0, .ro, 0, .all, .none, none⟩
/-- STRX_ADMIT_STATUS, bits [15:12], field REASON (R114). -/
def STRX_ADMIT_STATUS_REASON : Fld := ⟨0x20, 1, 0x50, 0, 1, 0, 1, 15, 12, .ro, 0, .all, .none, none⟩
/-- STRX_ADMIT_STATUS, bits [31:31], field VALID (R114). -/
def STRX_ADMIT_STATUS_VALID : Fld := ⟨0x20, 1, 0x50, 0, 1, 0, 1, 31, 31, .w1c, 0, .all, .none, none⟩
/-- STRX_USAGE, bits [11:0], field CHANNELS (R114). -/
def STRX_USAGE_CHANNELS : Fld := ⟨0x20, 1, 0x54, 0, 1, 0, 1, 11, 0, .ro, 0, .all, .none, none⟩
/-- STRX_USAGE, bits [24:12], field RING_PAGES (R114). -/
def STRX_USAGE_RING_PAGES : Fld := ⟨0x20, 1, 0x54, 0, 1, 0, 1, 24, 12, .ro, 0, .all, .none, none⟩
/-- STRX_ALIGN_POLICY_LO, bits [31:0], field JOINT (R114). -/
def STRX_ALIGN_POLICY_LO_JOINT : Fld := ⟨0x20, 1, 0x58, 0, 1, 0, 1, 31, 0, .rws, 0, .all, .none, none⟩
/-- STRX_ALIGN_POLICY_HI, bits [31:0], field JOINT (R114). -/
def STRX_ALIGN_POLICY_HI_JOINT : Fld := ⟨0x20, 1, 0x5c, 0, 1, 0, 1, 31, 0, .rws, 0, .all, .none, none⟩
/-- STRX_ALIGN_BREAK_LO, bits [31:0], field BREAK (R114). -/
def STRX_ALIGN_BREAK_LO_BREAK : Fld := ⟨0x20, 1, 0x60, 0, 1, 0, 1, 31, 0, .w1c, 0, .all, .none, none⟩
/-- STRX_ALIGN_BREAK_HI, bits [31:0], field BREAK (R114). -/
def STRX_ALIGN_BREAK_HI_BREAK : Fld := ⟨0x20, 1, 0x64, 0, 1, 0, 1, 31, 0, .w1c, 0, .all, .none, none⟩
/-- STRX_ENTRY0, bits [31:0], field SID_LO (R114). -/
def STRX_ENTRY0_SID_LO : Fld := ⟨0x20, 1, 0x80, 0, 1, 0, 1, 31, 0, .rws, 0, .all, .strx, none⟩
/-- STRX_ENTRY1, bits [31:0], field SID_HI (R114). -/
def STRX_ENTRY1_SID_HI : Fld := ⟨0x20, 1, 0x84, 0, 1, 0, 1, 31, 0, .rws, 0, .all, .strx, none⟩
/-- STRX_ENTRY2, bits [3:0], field FORMAT (R114). -/
def STRX_ENTRY2_FORMAT : Fld := ⟨0x20, 1, 0x88, 0, 1, 0, 1, 3, 0, .rws, 0, .all, .strx, none⟩
/-- STRX_ENTRY2, bits [10:4], field CHANNELS (R114). -/
def STRX_ENTRY2_CHANNELS : Fld := ⟨0x20, 1, 0x88, 0, 1, 0, 1, 10, 4, .rws, 0, .all, .strx, none⟩
/-- STRX_ENTRY2, bits [21:11], field FIRST_CHAN (R114). -/
def STRX_ENTRY2_FIRST_CHAN : Fld := ⟨0x20, 1, 0x88, 0, 1, 0, 1, 21, 11, .rws, 0, .all, .strx, none⟩
/-- STRX_ENTRY2, bits [22:22], field NONAUDIO_EN (R114). -/
def STRX_ENTRY2_NONAUDIO_EN : Fld := ⟨0x20, 1, 0x88, 0, 1, 0, 1, 22, 22, .rws, 0, .all, .strx, none⟩
/-- STRX_ENTRY2, bits [29:23], field ALIGN (R114). -/
def STRX_ENTRY2_ALIGN : Fld := ⟨0x20, 1, 0x88, 0, 1, 0, 1, 29, 23, .rws, 127, .all, .strx, none⟩
/-- STRX_ENTRY2, bits [30:30], field ACMP_BIND (R114). -/
def STRX_ENTRY2_ACMP_BIND : Fld := ⟨0x20, 1, 0x88, 0, 1, 0, 1, 30, 30, .rws, 0, .all, .strx, none⟩
/-- STRX_ENTRY2, bits [31:31], field ENABLE (R114). -/
def STRX_ENTRY2_ENABLE : Fld := ⟨0x20, 1, 0x88, 0, 1, 0, 1, 31, 31, .rws, 0, .all, .strx, none⟩
/-- STRX_ENTRY3, bits [6:0], field DEPTH (R114). -/
def STRX_ENTRY3_DEPTH : Fld := ⟨0x20, 1, 0x8c, 0, 1, 0, 1, 6, 0, .rws, 0, .all, .strx, none⟩
/-- STRX_ENTRY3, bits [12:7], field DUP_WIN (R114). -/
def STRX_ENTRY3_DUP_WIN : Fld := ⟨0x20, 1, 0x8c, 0, 1, 0, 1, 12, 7, .rws, 0, .all, .strx, none⟩
/-- STRX_ENTRY3, bits [16:13], field RATE (R114). -/
def STRX_ENTRY3_RATE : Fld := ⟨0x20, 1, 0x8c, 0, 1, 0, 1, 16, 13, .rws, 0, .all, .strx, none⟩
/-- STRX_ENTRY3, bits [21:17], field ASRC_GROUP (R114). -/
def STRX_ENTRY3_ASRC_GROUP : Fld := ⟨0x20, 1, 0x8c, 0, 1, 0, 1, 21, 17, .rws, 0, .all, .strx, none⟩
/-- STRX_ENTRY3, bits [23:22], field CRF_INDEX (R114). -/
def STRX_ENTRY3_CRF_INDEX : Fld := ⟨0x20, 1, 0x8c, 0, 1, 0, 1, 23, 22, .rws, 0, .all, .strx, none⟩
/-- STRX_ENTRY4, bits [19:0], field PRES_OFFSET (R114). -/
def STRX_ENTRY4_PRES_OFFSET : Fld := ⟨0x20, 1, 0x90, 0, 1, 0, 1, 19, 0, .rws, 0, .all, .strx, none⟩
/-- STRX_ENTRY5, bits [31:0], field TS_OFFSET (R114). -/
def STRX_ENTRY5_TS_OFFSET : Fld := ⟨0x20, 1, 0x94, 0, 1, 0, 1, 31, 0, .rws, 0, .all, .strx, none⟩
/-- STRX_ENTRY6, bits [6:0], field PT (R114). -/
def STRX_ENTRY6_PT : Fld := ⟨0x20, 1, 0x98, 0, 1, 0, 1, 6, 0, .rws, 0, .all, .strx, none⟩
/-- STRX_ENTRY6, bits [7:7], field SSRC_CHK (R114). -/
def STRX_ENTRY6_SSRC_CHK : Fld := ⟨0x20, 1, 0x98, 0, 1, 0, 1, 7, 7, .rws, 0, .all, .strx, none⟩
/-- STRX_ENTRY7, bits [31:0], field SSRC (R114). -/
def STRX_ENTRY7_SSRC : Fld := ⟨0x20, 1, 0x9c, 0, 1, 0, 1, 31, 0, .rws, 0, .all, .strx, none⟩
/-- STRX_STAT0, bits [2:0], field STATE (R114). -/
def STRX_STAT0_STATE : Fld := ⟨0x20, 1, 0xa0, 0, 1, 0, 1, 2, 0, .ro, 0, .all, .strx, none⟩
/-- STRX_STAT0, bits [3:3], field NONAUDIO (R114). -/
def STRX_STAT0_NONAUDIO : Fld := ⟨0x20, 1, 0xa0, 0, 1, 0, 1, 3, 3, .ro, 0, .all, .strx, none⟩
/-- STRX_STAT0, bits [4:4], field ASRC_LOCK (R114). -/
def STRX_STAT0_ASRC_LOCK : Fld := ⟨0x20, 1, 0xa0, 0, 1, 0, 1, 4, 4, .ro, 0, .all, .strx, none⟩
/-- STRX_STAT0, bits [11:8], field REASON (R114). -/
def STRX_STAT0_REASON : Fld := ⟨0x20, 1, 0xa0, 0, 1, 0, 1, 11, 8, .ro, 0, .all, .strx, none⟩
/-- STRX_STAT1, bits [31:0], field RING_ADDR (R114). -/
def STRX_STAT1_RING_ADDR : Fld := ⟨0x20, 1, 0xa4, 0, 1, 0, 1, 31, 0, .ro, 0, .all, .strx, none⟩
/-- STRX_STAT2, bits [31:0], field PKT_CNT (R114). -/
def STRX_STAT2_PKT_CNT : Fld := ⟨0x20, 1, 0xa8, 0, 1, 0, 1, 31, 0, .ro, 0, .all, .strx, none⟩
/-- STRX_STAT3, bits [31:0], field DUP_CNT (R114). -/
def STRX_STAT3_DUP_CNT : Fld := ⟨0x20, 1, 0xac, 0, 1, 0, 1, 31, 0, .ro, 0, .all, .strx, none⟩
/-- STRX_STAT4, bits [15:0], field LATE_CNT (R114). -/
def STRX_STAT4_LATE_CNT : Fld := ⟨0x20, 1, 0xb0, 0, 1, 0, 1, 15, 0, .ro, 0, .all, .strx, none⟩
/-- STRX_STAT4, bits [31:16], field EARLY_CNT (R114). -/
def STRX_STAT4_EARLY_CNT : Fld := ⟨0x20, 1, 0xb0, 0, 1, 0, 1, 31, 16, .ro, 0, .all, .strx, none⟩
/-- STRX_STAT5, bits [31:0], field UNDERRUN_CNT (R114). -/
def STRX_STAT5_UNDERRUN_CNT : Fld := ⟨0x20, 1, 0xb4, 0, 1, 0, 1, 31, 0, .ro, 0, .all, .strx, none⟩
/-- STRX_STAT6, bits [31:0], field MISSING_SMP_CNT (R114). -/
def STRX_STAT6_MISSING_SMP_CNT : Fld := ⟨0x20, 1, 0xb8, 0, 1, 0, 1, 31, 0, .ro, 0, .all, .strx, none⟩
/-- STRX_STAT7, bits [15:0], field DUP_ANOM_CNT (R114). -/
def STRX_STAT7_DUP_ANOM_CNT : Fld := ⟨0x20, 1, 0xbc, 0, 1, 0, 1, 15, 0, .ro, 0, .all, .strx, none⟩
/-- STRX_STAT7, bits [31:16], field FMT_ERR_CNT (R114). -/
def STRX_STAT7_FMT_ERR_CNT : Fld := ⟨0x20, 1, 0xbc, 0, 1, 0, 1, 31, 16, .ro, 0, .all, .strx, none⟩
/-- STTX_CTRL, bits [0:0], field CNT_CLR (R115). -/
def STTX_CTRL_CNT_CLR : Fld := ⟨0x21, 1, 0x40, 0, 1, 0, 1, 0, 0, .sc, 0, .all, .none, none⟩
/-- STTX_SEL, bits [8:0], field ENTRY (R115). -/
def STTX_SEL_ENTRY : Fld := ⟨0x21, 1, 0x44, 0, 1, 0, 1, 8, 0, .rw, 0, .all, .none, none⟩
/-- TX_ADMIT_STATUS, bits [8:0], field ENTRY (R115). -/
def TX_ADMIT_STATUS_ENTRY : Fld := ⟨0x21, 1, 0x50, 0, 1, 0, 1, 8, 0, .ro, 0, .all, .none, none⟩
/-- TX_ADMIT_STATUS, bits [15:12], field REASON (R115). -/
def TX_ADMIT_STATUS_REASON : Fld := ⟨0x21, 1, 0x50, 0, 1, 0, 1, 15, 12, .ro, 0, .all, .none, none⟩
/-- TX_ADMIT_STATUS, bits [18:16], field PORT (R115). -/
def TX_ADMIT_STATUS_PORT : Fld := ⟨0x21, 1, 0x50, 0, 1, 0, 1, 18, 16, .ro, 0, .all, .none, none⟩
/-- TX_ADMIT_STATUS, bits [31:31], field VALID (R115). -/
def TX_ADMIT_STATUS_VALID : Fld := ⟨0x21, 1, 0x50, 0, 1, 0, 1, 31, 31, .w1c, 0, .all, .none, none⟩
/-- STTX_BW_Ap, bits [31:0], field KBPS (R115). -/
def STTX_BW_A_KBPS : Fld := ⟨0x21, 1, 0x60, 4, 8, 0, 1, 31, 0, .ro, 0, .all, .none, none⟩
/-- STTX_BW_Bp, bits [31:0], field KBPS (R115). -/
def STTX_BW_B_KBPS : Fld := ⟨0x21, 1, 0x80, 4, 8, 0, 1, 31, 0, .ro, 0, .all, .none, none⟩
/-- STTX_ENTRY0, bits [31:0], field SID_LO (R115). -/
def STTX_ENTRY0_SID_LO : Fld := ⟨0x21, 1, 0xc0, 0, 1, 0, 1, 31, 0, .rws, 0, .all, .sttx, none⟩
/-- STTX_ENTRY1, bits [31:0], field SID_HI (R115). -/
def STTX_ENTRY1_SID_HI : Fld := ⟨0x21, 1, 0xc4, 0, 1, 0, 1, 31, 0, .rws, 0, .all, .sttx, none⟩
/-- STTX_ENTRY2, bits [31:0], field MAC_LO (R115). -/
def STTX_ENTRY2_MAC_LO : Fld := ⟨0x21, 1, 0xc8, 0, 1, 0, 1, 31, 0, .rws, 0, .all, .sttx, none⟩
/-- STTX_ENTRY3, bits [15:0], field MAC_HI (R115). -/
def STTX_ENTRY3_MAC_HI : Fld := ⟨0x21, 1, 0xcc, 0, 1, 0, 1, 15, 0, .rws, 0, .all, .sttx, none⟩
/-- STTX_ENTRY3, bits [27:16], field VID (R115). -/
def STTX_ENTRY3_VID : Fld := ⟨0x21, 1, 0xcc, 0, 1, 0, 1, 27, 16, .rws, 0, .all, .sttx, none⟩
/-- STTX_ENTRY3, bits [30:28], field PCP (R115). -/
def STTX_ENTRY3_PCP : Fld := ⟨0x21, 1, 0xcc, 0, 1, 0, 1, 30, 28, .rws, 0, .all, .sttx, none⟩
/-- STTX_ENTRY3, bits [31:31], field CLASS (R115). -/
def STTX_ENTRY3_CLASS : Fld := ⟨0x21, 1, 0xcc, 0, 1, 0, 1, 31, 31, .rws, 0, .all, .sttx, none⟩
/-- STTX_ENTRY4, bits [3:0], field FORMAT (R115). -/
def STTX_ENTRY4_FORMAT : Fld := ⟨0x21, 1, 0xd0, 0, 1, 0, 1, 3, 0, .rws, 0, .all, .sttx, none⟩
/-- STTX_ENTRY4, bits [10:4], field CHANNELS (R115). -/
def STTX_ENTRY4_CHANNELS : Fld := ⟨0x21, 1, 0xd0, 0, 1, 0, 1, 10, 4, .rws, 0, .all, .sttx, none⟩
/-- STTX_ENTRY4, bits [21:11], field FIRST_CHAN (R115). -/
def STTX_ENTRY4_FIRST_CHAN : Fld := ⟨0x21, 1, 0xd0, 0, 1, 0, 1, 21, 11, .rws, 0, .all, .sttx, none⟩
/-- STTX_ENTRY4, bits [27:22], field SPP (R115). -/
def STTX_ENTRY4_SPP : Fld := ⟨0x21, 1, 0xd0, 0, 1, 0, 1, 27, 22, .rws, 0, .all, .sttx, none⟩
/-- STTX_ENTRY4, bits [28:28], field PAIR_MODE (R115). -/
def STTX_ENTRY4_PAIR_MODE : Fld := ⟨0x21, 1, 0xd0, 0, 1, 0, 1, 28, 28, .rws, 0, .all, .sttx, none⟩
/-- STTX_ENTRY4, bits [29:29], field SAP_EN (R115). -/
def STTX_ENTRY4_SAP_EN : Fld := ⟨0x21, 1, 0xd0, 0, 1, 0, 1, 29, 29, .rws, 0, .all, .sttx, none⟩
/-- STTX_ENTRY4, bits [31:31], field ENABLE (R115). -/
def STTX_ENTRY4_ENABLE : Fld := ⟨0x21, 1, 0xd0, 0, 1, 0, 1, 31, 31, .rws, 0, .all, .sttx, none⟩
/-- STTX_ENTRY5, bits [19:0], field PRES_OFFSET (R115). -/
def STTX_ENTRY5_PRES_OFFSET : Fld := ⟨0x21, 1, 0xd4, 0, 1, 0, 1, 19, 0, .rws, 0, .all, .sttx, none⟩
/-- STTX_ENTRY5, bits [27:20], field EGRESS (R115). -/
def STTX_ENTRY5_EGRESS : Fld := ⟨0x21, 1, 0xd4, 0, 1, 0, 1, 27, 20, .rws, 0, .all, .sttx, none⟩
/-- STTX_ENTRY6, bits [31:0], field SSRC (R115). -/
def STTX_ENTRY6_SSRC : Fld := ⟨0x21, 1, 0xd8, 0, 1, 0, 1, 31, 0, .rws, 0, .all, .sttx, none⟩
/-- STTX_ENTRY7, bits [15:0], field SEQ_BASE (R115). -/
def STTX_ENTRY7_SEQ_BASE : Fld := ⟨0x21, 1, 0xdc, 0, 1, 0, 1, 15, 0, .rws, 0, .all, .sttx, none⟩
/-- STTX_ENTRY7, bits [22:16], field PT (R115). -/
def STTX_ENTRY7_PT : Fld := ⟨0x21, 1, 0xdc, 0, 1, 0, 1, 22, 16, .rws, 0, .all, .sttx, none⟩
/-- STTX_ENTRY7, bits [28:23], field DSCP (R115). -/
def STTX_ENTRY7_DSCP : Fld := ⟨0x21, 1, 0xdc, 0, 1, 0, 1, 28, 23, .rws, 0, .all, .sttx, none⟩
/-- STTX_ENTRY8, bits [31:0], field TS_OFFSET (R115). -/
def STTX_ENTRY8_TS_OFFSET : Fld := ⟨0x21, 1, 0xe0, 0, 1, 0, 1, 31, 0, .rws, 0, .all, .sttx, none⟩
/-- STTX_ENTRY9, bits [9:0], field CRF_INTERVAL (R115). -/
def STTX_ENTRY9_CRF_INTERVAL : Fld := ⟨0x21, 1, 0xe4, 0, 1, 0, 1, 9, 0, .rws, 0, .all, .sttx, none⟩
/-- STTX_ENTRY9, bits [13:10], field CRF_PER_PDU (R115). -/
def STTX_ENTRY9_CRF_PER_PDU : Fld := ⟨0x21, 1, 0xe4, 0, 1, 0, 1, 13, 10, .rws, 0, .all, .sttx, none⟩
/-- STTX_ENTRY10, bits [31:0], a reserved word: it reads 0 and takes only 0 (R115, R477). -/
def STTX_ENTRY10_RESERVED : Fld := ⟨0x21, 1, 0xe8, 0, 1, 0, 1, 31, 0, .rws, 0, .all, .sttx, none⟩
/-- STTX_ENTRY11, bits [31:0], a reserved word: it reads 0 and takes only 0 (R115, R477). -/
def STTX_ENTRY11_RESERVED : Fld := ⟨0x21, 1, 0xec, 0, 1, 0, 1, 31, 0, .rws, 0, .all, .sttx, none⟩
/-- STTX_STAT0, bits [2:0], field STATE (R115). -/
def STTX_STAT0_STATE : Fld := ⟨0x21, 1, 0x100, 0, 1, 0, 1, 2, 0, .ro, 0, .all, .sttx, none⟩
/-- STTX_STAT0, bits [11:8], field REASON (R115). -/
def STTX_STAT0_REASON : Fld := ⟨0x21, 1, 0x100, 0, 1, 0, 1, 11, 8, .ro, 0, .all, .sttx, none⟩
/-- STTX_STAT1, bits [31:0], field PKT_CNT (R115). -/
def STTX_STAT1_PKT_CNT : Fld := ⟨0x21, 1, 0x104, 0, 1, 0, 1, 31, 0, .ro, 0, .all, .sttx, none⟩
/-- STTX_STAT2, bits [31:0], field SUPPRESSED_CNT (R115). -/
def STTX_STAT2_SUPPRESSED_CNT : Fld := ⟨0x21, 1, 0x108, 0, 1, 0, 1, 31, 0, .ro, 0, .all, .sttx, none⟩
/-- STTX_STAT3, bits [31:0], field PORT_DROP_CNT (R115). -/
def STTX_STAT3_PORT_DROP_CNT : Fld := ⟨0x21, 1, 0x10c, 0, 1, 0, 1, 31, 0, .ro, 0, .all, .sttx, none⟩
/-- STTX_STAT4, bits [15:0], field LAST_SEQ (R115). -/
def STTX_STAT4_LAST_SEQ : Fld := ⟨0x21, 1, 0x110, 0, 1, 0, 1, 15, 0, .ro, 0, .all, .sttx, none⟩
/-- STTX_STAT5, bits [31:0], field LAST_S0 (R115). -/
def STTX_STAT5_LAST_S0 : Fld := ⟨0x21, 1, 0x114, 0, 1, 0, 1, 31, 0, .ro, 0, .all, .sttx, none⟩
/-- AVTP_CTRL, bits [0:0], field RX_EN (R116). -/
def AVTP_CTRL_RX_EN : Fld := ⟨0x22, 1, 0x40, 0, 1, 0, 1, 0, 0, .rw, 1, .all, .none, none⟩
/-- AVTP_CTRL, bits [1:1], field TX_EN (R116). -/
def AVTP_CTRL_TX_EN : Fld := ⟨0x22, 1, 0x40, 0, 1, 0, 1, 1, 1, .rw, 1, .all, .none, none⟩
/-- AVTP_CTRL, bits [2:2], field SPARSE_RX (R116). -/
def AVTP_CTRL_SPARSE_RX : Fld := ⟨0x22, 1, 0x40, 0, 1, 0, 1, 2, 2, .rw, 1, .all, .none, none⟩
/-- AVTP_CTRL, bits [3:3], field CNT_CLR (R116). -/
def AVTP_CTRL_CNT_CLR : Fld := ⟨0x22, 1, 0x40, 0, 1, 0, 1, 3, 3, .sc, 0, .all, .none, none⟩
/-- AVTP_CRF_STATUS, bits [3:0], field LOCK (R116). -/
def AVTP_CRF_STATUS_LOCK : Fld := ⟨0x22, 1, 0x44, 0, 1, 0, 1, 3, 0, .ro, 0, .all, .none, none⟩
/-- AVTP_CRF_STATUS, bits [11:8], field LOCK_CHG (R116). -/
def AVTP_CRF_STATUS_LOCK_CHG : Fld := ⟨0x22, 1, 0x44, 0, 1, 0, 1, 11, 8, .w1c, 0, .all, .none, none⟩
/-- AVTP_UNKNOWN_CNT, bits [31:0], field COUNT (R116). -/
def AVTP_UNKNOWN_CNT : Fld := ⟨0x22, 1, 0x48, 0, 1, 0, 1, 31, 0, .ro, 0, .all, .none, none⟩
/-- AVTP_HDR_ERR_CNT, bits [31:0], field COUNT (R116). -/
def AVTP_HDR_ERR_CNT : Fld := ⟨0x22, 1, 0x4c, 0, 1, 0, 1, 31, 0, .ro, 0, .all, .none, none⟩
/-- AVTP_CRF_TSn, bits [31:0], field TS (R116). -/
def AVTP_CRF_TS_TS : Fld := ⟨0x22, 1, 0x50, 4, 4, 0, 1, 31, 0, .ro, 0, .all, .none, none⟩
/-- AVTP_CRF_WIN, bits [15:0], field NS (R116). -/
def AVTP_CRF_WIN_NS : Fld := ⟨0x22, 1, 0x60, 0, 1, 0, 1, 15, 0, .rw, 1000, .all, .none, none⟩
/-- RTP_CTRL, bits [0:0], field EN (R117). -/
def RTP_CTRL_EN : Fld := ⟨0x23, 1, 0x40, 0, 1, 0, 1, 0, 0, .rw, 0, .all, .none, none⟩
/-- RTP_CTRL, bits [1:1], field SAP_TX_EN (R117). -/
def RTP_CTRL_SAP_TX_EN : Fld := ⟨0x23, 1, 0x40, 0, 1, 0, 1, 1, 1, .rw, 0, .all, .none, none⟩
/-- RTP_CTRL, bits [2:2], field SAP_RX_EN (R117). -/
def RTP_CTRL_SAP_RX_EN : Fld := ⟨0x23, 1, 0x40, 0, 1, 0, 1, 2, 2, .rw, 0, .all, .none, none⟩
/-- RTP_CTRL, bits [3:3], field IGMP_V2 (R117). -/
def RTP_CTRL_IGMP_V2 : Fld := ⟨0x23, 1, 0x40, 0, 1, 0, 1, 3, 3, .rw, 0, .all, .none, none⟩
/-- RTP_CTRL, bits [4:4], field CNT_CLR (R117). -/
def RTP_CTRL_CNT_CLR : Fld := ⟨0x23, 1, 0x40, 0, 1, 0, 1, 4, 4, .sc, 0, .all, .none, none⟩
/-- RTP_IPADDR, bits [31:0], field ADDR (R117). -/
def RTP_IPADDR_ADDR : Fld := ⟨0x23, 1, 0x44, 0, 1, 0, 1, 31, 0, .rws, 0, .all, .none, none⟩
/-- RTP_IPMASK, bits [31:0], field MASK (R117). -/
def RTP_IPMASK_MASK : Fld := ⟨0x23, 1, 0x48, 0, 1, 0, 1, 31, 0, .rws, 0, .all, .none, none⟩
/-- RTP_GATEWAY, bits [31:0], field ADDR (R117). -/
def RTP_GATEWAY_ADDR : Fld := ⟨0x23, 1, 0x4c, 0, 1, 0, 1, 31, 0, .rws, 0, .all, .none, none⟩
/-- RTP_IFMASK, bits [7:0], field PORTS (R117). -/
def RTP_IFMASK_PORTS : Fld := ⟨0x23, 1, 0x50, 0, 1, 0, 1, 7, 0, .rws, 0, .all, .none, none⟩
/-- RTP_IFMASK, bits [15:8], field TTL (R117). -/
def RTP_IFMASK_TTL : Fld := ⟨0x23, 1, 0x50, 0, 1, 0, 1, 15, 8, .rws, 32, .all, .none, none⟩
/-- RTP_SAP_CTRL, bits [15:0], field INTERVAL_S (R117). -/
def RTP_SAP_CTRL_INTERVAL_S : Fld := ⟨0x23, 1, 0x54, 0, 1, 0, 1, 15, 0, .rw, 30, .all, .none, (some (1, 3600))⟩
/-- RTP_DISC_BASE, bits [31:12], field BASE (R117). -/
def RTP_DISC_BASE_BASE : Fld := ⟨0x23, 1, 0x58, 0, 1, 0, 1, 31, 12, .rws, 0, .all, .none, none⟩
/-- RTP_DISC_COUNT, bits [7:0], field COUNT (R117). -/
def RTP_DISC_COUNT : Fld := ⟨0x23, 1, 0x5c, 0, 1, 0, 1, 7, 0, .ro, 0, .all, .none, none⟩
/-- RTP_RX_UNMATCHED_CNT, bits [31:0], field COUNT (R117). -/
def RTP_RX_UNMATCHED_CNT : Fld := ⟨0x23, 1, 0x60, 0, 1, 0, 1, 31, 0, .ro, 0, .all, .none, none⟩
/-- RTP_HDR_ERR_CNT, bits [31:0], field COUNT (R117). -/
def RTP_HDR_ERR_CNT : Fld := ⟨0x23, 1, 0x64, 0, 1, 0, 1, 31, 0, .ro, 0, .all, .none, none⟩
/-- RTP_RTCP_CNT, bits [31:0], field COUNT (R117). -/
def RTP_RTCP_CNT : Fld := ⟨0x23, 1, 0x68, 0, 1, 0, 1, 31, 0, .ro, 0, .all, .none, none⟩
/-- RTP_SSRC_REJ_CNT, bits [31:0], field COUNT (R117). -/
def RTP_SSRC_REJ_CNT : Fld := ⟨0x23, 1, 0x6c, 0, 1, 0, 1, 31, 0, .ro, 0, .all, .none, none⟩
/-- AVD_CTRL, bits [0:0], field EN (R118). -/
def AVD_CTRL_EN : Fld := ⟨0x24, 1, 0x40, 0, 1, 0, 1, 0, 0, .rw, 0, .all, .none, none⟩
/-- AVD_CTRL, bits [1:1], field ADP_EN (R118). -/
def AVD_CTRL_ADP_EN : Fld := ⟨0x24, 1, 0x40, 0, 1, 0, 1, 1, 1, .rw, 1, .all, .none, none⟩
/-- AVD_CTRL, bits [2:2], field ACMP_EN (R118). -/
def AVD_CTRL_ACMP_EN : Fld := ⟨0x24, 1, 0x40, 0, 1, 0, 1, 2, 2, .rw, 1, .all, .none, none⟩
/-- AVD_CTRL, bits [3:3], field AECP_EN (R118). -/
def AVD_CTRL_AECP_EN : Fld := ⟨0x24, 1, 0x40, 0, 1, 0, 1, 3, 3, .rw, 1, .all, .none, none⟩
/-- AVD_CTRL, bits [12:8], field VALID_TIME (R118). -/
def AVD_CTRL_VALID_TIME : Fld := ⟨0x24, 1, 0x40, 0, 1, 0, 1, 12, 8, .rw, 31, .all, .none, none⟩
/-- AVD_ENTITY_ID_LO, bits [31:0], field ID (R118). -/
def AVD_ENTITY_ID_LO_ID : Fld := ⟨0x24, 1, 0x44, 0, 1, 0, 1, 31, 0, .rws, 0, .all, .none, none⟩
/-- AVD_ENTITY_ID_HI, bits [31:0], field ID (R118). -/
def AVD_ENTITY_ID_HI_ID : Fld := ⟨0x24, 1, 0x48, 0, 1, 0, 1, 31, 0, .rws, 0, .all, .none, none⟩
/-- AVD_MODEL_ID_LO, bits [31:0], field ID (R118). -/
def AVD_MODEL_ID_LO_ID : Fld := ⟨0x24, 1, 0x4c, 0, 1, 0, 1, 31, 0, .rws, 0, .all, .none, none⟩
/-- AVD_MODEL_ID_HI, bits [31:0], field ID (R118). -/
def AVD_MODEL_ID_HI_ID : Fld := ⟨0x24, 1, 0x50, 0, 1, 0, 1, 31, 0, .rws, 0, .all, .none, none⟩
/-- AVD_STATUS, bits [0:0], field ACQUIRED (R118). -/
def AVD_STATUS_ACQUIRED : Fld := ⟨0x24, 1, 0x54, 0, 1, 0, 1, 0, 0, .ro, 0, .all, .none, none⟩
/-- AVD_STATUS, bits [1:1], field LOCKED (R118). -/
def AVD_STATUS_LOCKED : Fld := ⟨0x24, 1, 0x54, 0, 1, 0, 1, 1, 1, .ro, 0, .all, .none, none⟩
/-- AVD_STATUS, bits [2:2], field ADVERTISING (R118). -/
def AVD_STATUS_ADVERTISING : Fld := ⟨0x24, 1, 0x54, 0, 1, 0, 1, 2, 2, .ro, 0, .all, .none, none⟩
/-- AVD_AVAIL_INDEX, bits [31:0], field INDEX (R118). -/
def AVD_AVAIL_INDEX_INDEX : Fld := ⟨0x24, 1, 0x58, 0, 1, 0, 1, 31, 0, .ro, 0, .all, .none, none⟩
/-- AVD_OWNER_LO, bits [31:0], field ID (R118). -/
def AVD_OWNER_LO_ID : Fld := ⟨0x24, 1, 0x5c, 0, 1, 0, 1, 31, 0, .ro, 0, .all, .none, none⟩
/-- AVD_OWNER_HI, bits [31:0], field ID (R118). -/
def AVD_OWNER_HI_ID : Fld := ⟨0x24, 1, 0x60, 0, 1, 0, 1, 31, 0, .ro, 0, .all, .none, none⟩
/-- AVD_LAST_ACMP, bits [7:0], field MSG (R118). -/
def AVD_LAST_ACMP_MSG : Fld := ⟨0x24, 1, 0x64, 0, 1, 0, 1, 7, 0, .ro, 0, .all, .none, none⟩
/-- AVD_LAST_ACMP, bits [12:8], field STATUS (R118). -/
def AVD_LAST_ACMP_STATUS : Fld := ⟨0x24, 1, 0x64, 0, 1, 0, 1, 12, 8, .ro, 0, .all, .none, none⟩
/-- AVD_LAST_ACMP, bits [24:16], field ENTRY (R118). -/
def AVD_LAST_ACMP_ENTRY : Fld := ⟨0x24, 1, 0x64, 0, 1, 0, 1, 24, 16, .ro, 0, .all, .none, none⟩
/-- AVD_AECP_UNSUP_CNT, bits [31:0], field COUNT (R118). -/
def AVD_AECP_UNSUP_CNT : Fld := ⟨0x24, 1, 0x68, 0, 1, 0, 1, 31, 0, .ro, 0, .all, .none, none⟩
/-- MAC_CTRL, bits [3:0], field MODE (R145). -/
def MAC_CTRL_MODE : Fld := ⟨0x10, 8, 0x40, 0, 1, 0, 1, 3, 0, .rws, 0, .all, .none, none⟩
/-- MAC_CTRL, bits [4:4], field AN_EN (R145). -/
def MAC_CTRL_AN_EN : Fld := ⟨0x10, 6, 0x40, 0, 1, 0, 1, 4, 4, .rws, 1, .all, .none, none⟩
/-- MAC_CTRL, bits [5:5], field CUT_THRU (R145). -/
def MAC_CTRL_CUT_THRU : Fld := ⟨0x10, 2, 0x40, 0, 1, 0, 1, 5, 5, .rws, 0, .all, .none, none⟩
/-- MAC_CTRL, bits [7:6], field PAUSE_GEN (R145). -/
def MAC_CTRL_PAUSE_GEN : Fld := ⟨0x10, 6, 0x40, 0, 1, 0, 1, 7, 6, .rws, 1, .from 2, .none, (some (0, 2))⟩
/-- MAC_CTRL, bits [9:8], field PAUSE_HONOUR (R145). -/
def MAC_CTRL_PAUSE_HONOUR : Fld := ⟨0x10, 6, 0x40, 0, 1, 0, 1, 9, 8, .rws, 0, .all, .none, (some (0, 2))⟩
/-- MAC_CTRL, bits [10:10], field CNT_CLR (R145). -/
def MAC_CTRL_CNT_CLR : Fld := ⟨0x10, 8, 0x40, 0, 1, 0, 1, 10, 10, .sc, 0, .all, .none, none⟩
/-- MAC_FRAME, bits [13:0], field MAX_LEN (R145). -/
def MAC_FRAME_MAX_LEN : Fld := ⟨0x10, 6, 0x44, 0, 1, 0, 1, 13, 0, .rws, 1518, .all, .none, (some (1518, 9216))⟩
/-- MAC_STATUS, bits [0:0], field LINK (R145). -/
def MAC_STATUS_LINK : Fld := ⟨0x10, 8, 0x48, 0, 1, 0, 1, 0, 0, .ro, 0, .all, .none, none⟩
/-- MAC_STATUS, bits [3:1], field SPEED (R145). -/
def MAC_STATUS_SPEED : Fld := ⟨0x10, 8, 0x48, 0, 1, 0, 1, 3, 1, .ro, 0, .all, .none, none⟩
/-- MAC_STATUS, bits [4:4], field AN_DONE (R145). -/
def MAC_STATUS_AN_DONE : Fld := ⟨0x10, 8, 0x48, 0, 1, 0, 1, 4, 4, .ro, 0, .all, .none, none⟩
/-- MAC_STATUS, bits [5:5], field RX_PAUSED (R145). -/
def MAC_STATUS_RX_PAUSED : Fld := ⟨0x10, 8, 0x48, 0, 1, 0, 1, 5, 5, .ro, 0, .all, .none, none⟩
/-- MAC_STATUS, bits [6:6], field TX_PAUSE_ACTIVE (R145). -/
def MAC_STATUS_TX_PAUSE_ACTIVE : Fld := ⟨0x10, 8, 0x48, 0, 1, 0, 1, 6, 6, .ro, 0, .all, .none, none⟩
/-- MAC_STATUS, bits [7:7], field LINK_CHG (R145). -/
def MAC_STATUS_LINK_CHG : Fld := ⟨0x10, 8, 0x48, 0, 1, 0, 1, 7, 7, .w1c, 0, .all, .none, none⟩
/-- MAC_STATUS, bits [9:8], field PARTNER_PAUSE (R145). -/
def MAC_STATUS_PARTNER_PAUSE : Fld := ⟨0x10, 8, 0x48, 0, 1, 0, 1, 9, 8, .ro, 0, .all, .none, none⟩
/-- MAC_STATUS, bits [23:16], field PFC_PAUSED (R145). -/
def MAC_STATUS_PFC_PAUSED : Fld := ⟨0x10, 8, 0x48, 0, 1, 0, 1, 23, 16, .ro, 0, .all, .none, none⟩
/-- MAC_ADDR_LO, bits [31:0], field ADDR (R145). -/
def MAC_ADDR_LO_ADDR : Fld := ⟨0x10, 8, 0x4c, 0, 1, 0, 1, 31, 0, .rws, 0, .all, .none, none⟩
/-- MAC_ADDR_HI, bits [15:0], field ADDR (R145). -/
def MAC_ADDR_HI_ADDR : Fld := ⟨0x10, 8, 0x50, 0, 1, 0, 1, 15, 0, .rws, 0, .all, .none, none⟩
/-- MAC_PAUSE_CFG, bits [15:0], field QUANTA (R145). -/
def MAC_PAUSE_CFG_QUANTA : Fld := ⟨0x10, 8, 0x54, 0, 1, 0, 1, 15, 0, .rw, 65535, .all, .none, none⟩
/-- MAC_PAUSE_CFG, bits [23:16], field PFC_PRIO (R145). -/
def MAC_PAUSE_CFG_PFC_PRIO : Fld := ⟨0x10, 8, 0x54, 0, 1, 0, 1, 23, 16, .rw, 243, .all, .none, none⟩
/-- MAC_WATERMARK, bits [6:0], field HIGH_PCT (R145). -/
def MAC_WATERMARK_HIGH_PCT : Fld := ⟨0x10, 8, 0x58, 0, 1, 0, 1, 6, 0, .rw, 75, .all, .none, (some (1, 99))⟩
/-- MAC_WATERMARK, bits [14:8], field LOW_PCT (R145). -/
def MAC_WATERMARK_LOW_PCT : Fld := ⟨0x10, 8, 0x58, 0, 1, 0, 1, 14, 8, .rw, 25, .all, .none, (some (0, 98))⟩
/-- MAC_POOL_FILL, bits [6:0], field BE_PCT (R145). -/
def MAC_POOL_FILL_BE_PCT : Fld := ⟨0x10, 8, 0x5c, 0, 1, 0, 1, 6, 0, .ro, 0, .all, .none, none⟩
/-- MAC_POOL_FILL, bits [14:8], field BE_PEAK_PCT (R145). -/
def MAC_POOL_FILL_BE_PEAK_PCT : Fld := ⟨0x10, 8, 0x5c, 0, 1, 0, 1, 14, 8, .ro, 0, .all, .none, none⟩
/-- MAC_ERR_SRC, bits [0:0], field RUNT (R145). -/
def MAC_ERR_SRC_RUNT : Fld := ⟨0x10, 8, 0x60, 0, 1, 0, 1, 0, 0, .w1c, 0, .all, .none, none⟩
/-- MAC_ERR_SRC, bits [1:1], field OVERSIZE (R145). -/
def MAC_ERR_SRC_OVERSIZE : Fld := ⟨0x10, 8, 0x60, 0, 1, 0, 1, 1, 1, .w1c, 0, .all, .none, none⟩
/-- MAC_ERR_SRC, bits [2:2], field FCS (R145). -/
def MAC_ERR_SRC_FCS : Fld := ⟨0x10, 8, 0x60, 0, 1, 0, 1, 2, 2, .w1c, 0, .all, .none, none⟩
/-- MAC_ERR_SRC, bits [3:3], field SYM (R145). -/
def MAC_ERR_SRC_SYM : Fld := ⟨0x10, 8, 0x60, 0, 1, 0, 1, 3, 3, .w1c, 0, .all, .none, none⟩
/-- MAC_ERR_SRC, bits [4:4], field STOMP (R145). -/
def MAC_ERR_SRC_STOMP : Fld := ⟨0x10, 8, 0x60, 0, 1, 0, 1, 4, 4, .w1c, 0, .all, .none, none⟩
/-- MAC_PHY, bits [4:0], field PHY_ADDR (R145). -/
def MAC_PHY_PHY_ADDR : Fld := ⟨0x10, 6, 0x64, 0, 1, 0, 1, 4, 0, .rw, 0, .all, .none, none⟩
/-- MAC_PHY, bits [5:5], field POLL_EN (R145). DESIGN CHOICE (log entry 122): with PHY_ADDR, which the table marks P0 to P5, the rest of MAC_PHY (POLL_EN,
CL45, PHY_LINK) is taken as reserved on P6 and P7. -/
def MAC_PHY_POLL_EN : Fld := ⟨0x10, 6, 0x64, 0, 1, 0, 1, 5, 5, .rw, 0, .all, .none, none⟩
/-- MAC_PHY, bits [6:6], field CL45 (R145). -/
def MAC_PHY_CL45 : Fld := ⟨0x10, 6, 0x64, 0, 1, 0, 1, 6, 6, .rw, 0, .all, .none, none⟩
/-- MAC_PHY, bits [7:7], field PHY_LINK (R145). -/
def MAC_PHY_PHY_LINK : Fld := ⟨0x10, 6, 0x64, 0, 1, 0, 1, 7, 7, .ro, 0, .all, .none, none⟩
/-- RX_OK_CNT, bits [31:0], field COUNT (R145). -/
def RX_OK_CNT : Fld := ⟨0x10, 8, 0x80, 0, 1, 0, 1, 31, 0, .ro, 0, .all, .none, none⟩
/-- TX_OK_CNT, bits [31:0], field COUNT (R145). -/
def TX_OK_CNT : Fld := ⟨0x10, 8, 0x84, 0, 1, 0, 1, 31, 0, .ro, 0, .all, .none, none⟩
/-- RUNT_CNT, bits [31:0], field COUNT (R145). -/
def RUNT_CNT : Fld := ⟨0x10, 8, 0x88, 0, 1, 0, 1, 31, 0, .ro, 0, .all, .none, none⟩
/-- OVERSIZE_CNT, bits [31:0], field COUNT (R145). -/
def OVERSIZE_CNT : Fld := ⟨0x10, 8, 0x8c, 0, 1, 0, 1, 31, 0, .ro, 0, .all, .none, none⟩
/-- FCS_ERR_CNT, bits [31:0], field COUNT (R145). -/
def FCS_ERR_CNT : Fld := ⟨0x10, 8, 0x90, 0, 1, 0, 1, 31, 0, .ro, 0, .all, .none, none⟩
/-- SYM_ERR_CNT, bits [31:0], field COUNT (R145). -/
def SYM_ERR_CNT : Fld := ⟨0x10, 8, 0x94, 0, 1, 0, 1, 31, 0, .ro, 0, .all, .none, none⟩
/-- STOMP_CNT, bits [31:0], field COUNT (R145). -/
def STOMP_CNT : Fld := ⟨0x10, 8, 0x98, 0, 1, 0, 1, 31, 0, .ro, 0, .all, .none, none⟩
/-- PAUSE_TX_CNT, bits [31:0], field COUNT (R145). -/
def PAUSE_TX_CNT : Fld := ⟨0x10, 8, 0x9c, 0, 1, 0, 1, 31, 0, .ro, 0, .all, .none, none⟩
/-- PAUSE_RX_CNT, bits [31:0], field COUNT (R145). -/
def PAUSE_RX_CNT : Fld := ⟨0x10, 8, 0xa0, 0, 1, 0, 1, 31, 0, .ro, 0, .all, .none, none⟩
/-- MACCTL_UNK_CNT, bits [31:0], field COUNT (R145). -/
def MACCTL_UNK_CNT : Fld := ⟨0x10, 8, 0xa4, 0, 1, 0, 1, 31, 0, .ro, 0, .all, .none, none⟩
/-- BE_DROP_CNT, bits [31:0], field COUNT (R145). -/
def BE_DROP_CNT : Fld := ⟨0x10, 8, 0xa8, 0, 1, 0, 1, 31, 0, .ro, 0, .all, .none, none⟩
/-- RES_DROP_CNT, bits [31:0], field COUNT (R145). -/
def RES_DROP_CNT : Fld := ⟨0x10, 8, 0xac, 0, 1, 0, 1, 31, 0, .ro, 0, .all, .none, none⟩
/-- TXERR_CNT, bits [31:0], field COUNT (R145). -/
def TXERR_CNT : Fld := ⟨0x10, 8, 0xb0, 0, 1, 0, 1, 31, 0, .ro, 0, .all, .none, none⟩
/-- STATE_DISC_CNT, bits [31:0], field COUNT (R145). -/
def STATE_DISC_CNT : Fld := ⟨0x10, 8, 0xb4, 0, 1, 0, 1, 31, 0, .ro, 0, .all, .none, none⟩
/-- PLCA_CTRL, bits [0:0], field EN (R146). -/
def PLCA_CTRL_EN : Fld := ⟨0x16, 2, 0x100, 0, 1, 0, 1, 0, 0, .rws, 0, .all, .none, none⟩
/-- PLCA_CTRL, bits [12:8], field NODE_ID (R146). -/
def PLCA_CTRL_NODE_ID : Fld := ⟨0x16, 2, 0x100, 0, 1, 0, 1, 12, 8, .rws, 0, .all, .none, none⟩
/-- PLCA_CTRL, bits [20:16], field STBY_NODE_ID (R146). -/
def PLCA_CTRL_STBY_NODE_ID : Fld := ⟨0x16, 2, 0x100, 0, 1, 0, 1, 20, 16, .rws, 31, .all, .none, none⟩
/-- PLCA_CTRL, bits [29:24], field NODE_COUNT (R146). -/
def PLCA_CTRL_NODE_COUNT : Fld := ⟨0x16, 2, 0x100, 0, 1, 0, 1, 29, 24, .rws, 8, .all, .none, (some (1, 32))⟩
/-- PLCA_TIMERS, bits [7:0], field TO_TIMER (R146). -/
def PLCA_TIMERS_TO_TIMER : Fld := ⟨0x16, 2, 0x104, 0, 1, 0, 1, 7, 0, .rws, 32, .all, .none, (some (1, 255))⟩
/-- PLCA_TIMERS, bits [15:8], field BURST_CNT (R146). -/
def PLCA_TIMERS_BURST_CNT : Fld := ⟨0x16, 2, 0x104, 0, 1, 0, 1, 15, 8, .rws, 0, .all, .none, none⟩
/-- PLCA_TIMERS, bits [23:16], field BURST_TIMER (R146). -/
def PLCA_TIMERS_BURST_TIMER : Fld := ⟨0x16, 2, 0x104, 0, 1, 0, 1, 23, 16, .rws, 128, .all, .none, (some (1, 255))⟩
/-- PLCA_STATUS, bits [0:0], field ACTIVE (R146). -/
def PLCA_STATUS_ACTIVE : Fld := ⟨0x16, 2, 0x108, 0, 1, 0, 1, 0, 0, .ro, 0, .all, .none, none⟩
/-- PLCA_STATUS, bits [1:1], field COORDINATOR (R146). -/
def PLCA_STATUS_COORDINATOR : Fld := ⟨0x16, 2, 0x108, 0, 1, 0, 1, 1, 1, .ro, 0, .all, .none, none⟩
/-- PLCA_STATUS, bits [2:2], field BEACON_LOST (R146). -/
def PLCA_STATUS_BEACON_LOST : Fld := ⟨0x16, 2, 0x108, 0, 1, 0, 1, 2, 2, .w1c, 0, .all, .none, none⟩
/-- PLCA_STATUS, bits [3:3], field UNEXP_COL (R146). -/
def PLCA_STATUS_UNEXP_COL : Fld := ⟨0x16, 2, 0x108, 0, 1, 0, 1, 3, 3, .w1c, 0, .all, .none, none⟩
/-- PLCA_STATUS, bits [4:4], field DUP_COORD (R146). -/
def PLCA_STATUS_DUP_COORD : Fld := ⟨0x16, 2, 0x108, 0, 1, 0, 1, 4, 4, .w1c, 0, .all, .none, none⟩
/-- PLCA_STATUS, bits [12:8], field CUR_NODE_ID (R146). -/
def PLCA_STATUS_CUR_NODE_ID : Fld := ⟨0x16, 2, 0x108, 0, 1, 0, 1, 12, 8, .ro, 0, .all, .none, none⟩
/-- BEACON_LOST_CNT, bits [31:0], field COUNT (R146). -/
def BEACON_LOST_CNT : Fld := ⟨0x16, 2, 0x10c, 0, 1, 0, 1, 31, 0, .ro, 0, .all, .none, none⟩
/-- UNEXP_COL_CNT, bits [31:0], field COUNT (R146). -/
def UNEXP_COL_CNT : Fld := ⟨0x16, 2, 0x110, 0, 1, 0, 1, 31, 0, .ro, 0, .all, .none, none⟩
/-- EXCESS_COL_CNT, bits [31:0], field COUNT (R146). -/
def EXCESS_COL_CNT : Fld := ⟨0x16, 2, 0x114, 0, 1, 0, 1, 31, 0, .ro, 0, .all, .none, none⟩
/-- DUP_COORD_CNT, bits [31:0], field COUNT (R146). -/
def DUP_COORD_CNT : Fld := ⟨0x16, 2, 0x118, 0, 1, 0, 1, 31, 0, .ro, 0, .all, .none, none⟩
/-- MDIO_CMD, bits [2:0], field OP (R147). -/
def MDIO_CMD_OP : Fld := ⟨0x10, 1, 0x140, 0, 1, 0, 1, 2, 0, .rw, 0, .all, .none, (some (0, 4))⟩
/-- MDIO_CMD, bits [7:3], field PHYAD (R147). -/
def MDIO_CMD_PHYAD : Fld := ⟨0x10, 1, 0x140, 0, 1, 0, 1, 7, 3, .rw, 0, .all, .none, none⟩
/-- MDIO_CMD, bits [12:8], field REG_DEV (R147). -/
def MDIO_CMD_REG_DEV : Fld := ⟨0x10, 1, 0x140, 0, 1, 0, 1, 12, 8, .rw, 0, .all, .none, none⟩
/-- MDIO_CMD, bits [30:30], field BUSY (R147). -/
def MDIO_CMD_BUSY : Fld := ⟨0x10, 1, 0x140, 0, 1, 0, 1, 30, 30, .ro, 0, .all, .none, none⟩
/-- MDIO_CMD, bits [31:31], field GO (R147). -/
def MDIO_CMD_GO : Fld := ⟨0x10, 1, 0x140, 0, 1, 0, 1, 31, 31, .sc, 0, .all, .none, none⟩
/-- MDIO_DATA, bits [15:0], field DATA (R147). -/
def MDIO_DATA_DATA : Fld := ⟨0x10, 1, 0x144, 0, 1, 0, 1, 15, 0, .rw, 0, .all, .none, none⟩
/-- WAKE_CTRL, bits [0:0], field EN (R148). -/
def WAKE_CTRL_EN : Fld := ⟨0x1c, 1, 0x40, 0, 1, 0, 1, 0, 0, .rw, 0, .all, .none, none⟩
/-- WAKE_STATUS, bits [3:0], field PATTERN (R148). -/
def WAKE_STATUS_PATTERN : Fld := ⟨0x1c, 1, 0x44, 0, 1, 0, 1, 3, 0, .ro, 0, .all, .none, none⟩
/-- WAKE_STATUS, bits [6:4], field PORT (R148). -/
def WAKE_STATUS_PORT : Fld := ⟨0x1c, 1, 0x44, 0, 1, 0, 1, 6, 4, .ro, 0, .all, .none, none⟩
/-- WAKE_STATUS, bits [31:31], field VALID (R148). -/
def WAKE_STATUS_VALID : Fld := ⟨0x1c, 1, 0x44, 0, 1, 0, 1, 31, 31, .w1c, 0, .all, .none, none⟩
/-- WAKE_HIT, bits [15:0], field HIT (R148). -/
def WAKE_HIT_HIT : Fld := ⟨0x1c, 1, 0x48, 0, 1, 0, 1, 15, 0, .w1c, 0, .all, .none, none⟩
/-- WAKE_PATn_CFG, bits [10:0], field OFFSET (R148). -/
def WAKE_PAT_CFG_OFFSET : Fld := ⟨0x1c, 1, 0x100, 32, 16, 0, 1, 10, 0, .rw, 0, .all, .none, (some (0, 1408))⟩
/-- WAKE_PATn_CFG, bits [11:11], field EN (R148). -/
def WAKE_PAT_CFG_EN : Fld := ⟨0x1c, 1, 0x100, 32, 16, 0, 1, 11, 11, .rw, 0, .all, .none, none⟩
/-- WAKE_PATn_CFG, bits [17:12], field PORTS (R148). -/
def WAKE_PAT_CFG_PORTS : Fld := ⟨0x1c, 1, 0x100, 32, 16, 0, 1, 17, 12, .rw, 0, .all, .none, none⟩
/-- WAKE_PATn_CRC, bits [15:0], field CHECK (R148). -/
def WAKE_PAT_CRC_CHECK : Fld := ⟨0x1c, 1, 0x104, 32, 16, 0, 1, 15, 0, .rw, 0, .all, .none, none⟩
/-- WAKE_PATn_MASK0, bits [31:0], field MASK (R148). -/
def WAKE_PAT_MASK0_MASK : Fld := ⟨0x1c, 1, 0x108, 32, 16, 0, 1, 31, 0, .rw, 0, .all, .none, none⟩
/-- WAKE_PATn_MASK1, bits [31:0], field MASK (R148). -/
def WAKE_PAT_MASK1_MASK : Fld := ⟨0x1c, 1, 0x10c, 32, 16, 0, 1, 31, 0, .rw, 0, .all, .none, none⟩
/-- WAKE_PATn_MASK2, bits [31:0], field MASK (R148). -/
def WAKE_PAT_MASK2_MASK : Fld := ⟨0x1c, 1, 0x110, 32, 16, 0, 1, 31, 0, .rw, 0, .all, .none, none⟩
/-- WAKE_PATn_MASK3, bits [31:0], field MASK (R148). -/
def WAKE_PAT_MASK3_MASK : Fld := ⟨0x1c, 1, 0x114, 32, 16, 0, 1, 31, 0, .rw, 0, .all, .none, none⟩
/-- BR_CTRL, bits [0:0], field LEARN_EN (R170). -/
def BR_CTRL_LEARN_EN : Fld := ⟨0x18, 1, 0x40, 0, 1, 0, 1, 0, 0, .rws, 1, .all, .none, none⟩
/-- BR_CTRL, bits [1:1], field MC_FLOOD (R170). -/
def BR_CTRL_MC_FLOOD : Fld := ⟨0x18, 1, 0x40, 0, 1, 0, 1, 1, 1, .rws, 1, .all, .none, none⟩
/-- BR_CTRL, bits [2:2], field UC_FLOOD (R170). -/
def BR_CTRL_UC_FLOOD : Fld := ⟨0x18, 1, 0x40, 0, 1, 0, 1, 2, 2, .rws, 1, .all, .none, none⟩
/-- BR_CTRL, bits [3:3], field CNT_CLR (R170). -/
def BR_CTRL_CNT_CLR : Fld := ⟨0x18, 1, 0x40, 0, 1, 0, 1, 3, 3, .sc, 0, .all, .none, none⟩
/-- BR_AGE, bits [19:0], field SECONDS (R170). -/
def BR_AGE_SECONDS : Fld := ⟨0x18, 1, 0x44, 0, 1, 0, 1, 19, 0, .rws, 300, .all, .none, none⟩
/-- BR_BUF_BASE, bits [31:12], field BASE (R170). -/
def BR_BUF_BASE_BASE : Fld := ⟨0x18, 1, 0x48, 0, 1, 0, 1, 31, 12, .rws, 0, .all, .none, none⟩
/-- BR_BUF_SIZE, bits [12:0], field PAGES (R170). -/
def BR_BUF_SIZE_PAGES : Fld := ⟨0x18, 1, 0x4c, 0, 1, 0, 1, 12, 0, .rws, 0, .all, .none, none⟩
/-- BR_PCP_MAP, bits [23:0], field MAP (R170). -/
def BR_PCP_MAP_MAP : Fld := ⟨0x18, 1, 0x50, 0, 1, 0, 1, 23, 0, .rws, 15838529, .all, .none, none⟩
/-- BR_CLASS, bits [2:0], field TC_A (R170). -/
def BR_CLASS_TC_A : Fld := ⟨0x18, 1, 0x54, 0, 1, 0, 1, 2, 0, .rws, 6, .all, .none, none⟩
/-- BR_CLASS, bits [6:4], field TC_B (R170). -/
def BR_CLASS_TC_B : Fld := ⟨0x18, 1, 0x54, 0, 1, 0, 1, 6, 4, .rws, 5, .all, .none, none⟩
/-- BR_PORT_SEL, bits [2:0], field PORT (R170). -/
def BR_PORT_SEL_PORT : Fld := ⟨0x18, 1, 0x58, 0, 1, 0, 1, 2, 0, .rw, 0, .all, .none, none⟩
/-- BR_PORT_CFG, bits [11:0], field PVID (R170). -/
def BR_PORT_CFG_PVID : Fld := ⟨0x18, 1, 0x5c, 0, 1, 0, 1, 11, 0, .rws, 1, .all, .brPort, none⟩
/-- BR_PORT_CFG, bits [12:12], field INGRESS_FILT (R170). -/
def BR_PORT_CFG_INGRESS_FILT : Fld := ⟨0x18, 1, 0x5c, 0, 1, 0, 1, 12, 12, .rws, 1, .all, .brPort, none⟩
/-- BR_PORT_CFG, bits [13:13], field LEARN (R170). -/
def BR_PORT_CFG_LEARN : Fld := ⟨0x18, 1, 0x5c, 0, 1, 0, 1, 13, 13, .rws, 1, .all, .brPort, none⟩
/-- BR_PORT_CFG, bits [15:14], field STP_STATE (R170). -/
def BR_PORT_CFG_STP_STATE : Fld := ⟨0x18, 1, 0x5c, 0, 1, 0, 1, 15, 14, .rws, 2, .all, .brPort, (some (0, 2))⟩
/-- BR_PORT_CFG2, bits [9:0], field BE_PAGES (R170). -/
def BR_PORT_CFG2_BE_PAGES : Fld := ⟨0x18, 1, 0x60, 0, 1, 0, 1, 9, 0, .rws, 32, .all, .brPort, none⟩
/-- BR_PORT_CFG2, bits [19:10], field RES_PAGES (R170). -/
def BR_PORT_CFG2_RES_PAGES : Fld := ⟨0x18, 1, 0x60, 0, 1, 0, 1, 19, 10, .rws, 16, .all, .brPort, none⟩
/-- BR_PORT_CFG2, bits [31:20], field BR_EGQ_LIMIT (R170). -/
def BR_PORT_CFG2_BR_EGQ_LIMIT : Fld := ⟨0x18, 1, 0x60, 0, 1, 0, 1, 31, 20, .rws, 128, .all, .brPort, none⟩
/-- BR_STATUS, bits [0:0], field POOL_SHORT (R170). -/
def BR_STATUS_POOL_SHORT : Fld := ⟨0x18, 1, 0x64, 0, 1, 0, 1, 0, 0, .ro, 0, .all, .none, none⟩
/-- BR_VLAN_SEL, bits [11:0], field VID (R170). -/
def BR_VLAN_SEL_VID : Fld := ⟨0x18, 1, 0x70, 0, 1, 0, 1, 11, 0, .rw, 0, .all, .none, none⟩
/-- BR_VLAN_CFG, bits [8:0], field MEMBER (R170). -/
def BR_VLAN_CFG_MEMBER : Fld := ⟨0x18, 1, 0x74, 0, 1, 0, 1, 8, 0, .rws, 511, .only 1, .brVlan, none⟩
/-- BR_VLAN_CFG, bits [24:16], field UNTAG (R170). -/
def BR_VLAN_CFG_UNTAG : Fld := ⟨0x18, 1, 0x74, 0, 1, 0, 1, 24, 16, .rws, 511, .only 1, .brVlan, none⟩
/-- BR_FDB_CMD, bits [1:0], field OP (R170). -/
def BR_FDB_CMD_OP : Fld := ⟨0x18, 1, 0x80, 0, 1, 0, 1, 1, 0, .rw, 0, .all, .none, none⟩
/-- BR_FDB_CMD, bits [30:30], field BUSY (R170). -/
def BR_FDB_CMD_BUSY : Fld := ⟨0x18, 1, 0x80, 0, 1, 0, 1, 30, 30, .ro, 0, .all, .none, none⟩
/-- BR_FDB_CMD, bits [31:31], field GO (R170). -/
def BR_FDB_CMD_GO : Fld := ⟨0x18, 1, 0x80, 0, 1, 0, 1, 31, 31, .sc, 0, .all, .none, none⟩
/-- BR_FDB_MAC_LO, bits [31:0], field MAC (R170). -/
def BR_FDB_MAC_LO_MAC : Fld := ⟨0x18, 1, 0x84, 0, 1, 0, 1, 31, 0, .rw, 0, .all, .none, none⟩
/-- BR_FDB_MAC_HI, bits [15:0], field MAC (R170). -/
def BR_FDB_MAC_HI_MAC : Fld := ⟨0x18, 1, 0x88, 0, 1, 0, 1, 15, 0, .rw, 0, .all, .none, none⟩
/-- BR_FDB_MAC_HI, bits [27:16], field VID (R170). -/
def BR_FDB_MAC_HI_VID : Fld := ⟨0x18, 1, 0x88, 0, 1, 0, 1, 27, 16, .rw, 0, .all, .none, none⟩
/-- BR_FDB_DATA, bits [8:0], field PORTS (R170). -/
def BR_FDB_DATA_PORTS : Fld := ⟨0x18, 1, 0x8c, 0, 1, 0, 1, 8, 0, .rw, 0, .all, .none, none⟩
/-- BR_FDB_DATA, bits [9:9], field STATIC (R170). -/
def BR_FDB_DATA_STATIC : Fld := ⟨0x18, 1, 0x8c, 0, 1, 0, 1, 9, 9, .ro, 0, .all, .none, none⟩
/-- BR_FDB_DATA, bits [10:10], field FOUND (R170). -/
def BR_FDB_DATA_FOUND : Fld := ⟨0x18, 1, 0x8c, 0, 1, 0, 1, 10, 10, .ro, 0, .all, .none, none⟩
/-- BR_FDB_COUNT, bits [13:0], field ENTRIES (R170). -/
def BR_FDB_COUNT_ENTRIES : Fld := ⟨0x18, 1, 0x90, 0, 1, 0, 1, 13, 0, .ro, 0, .all, .none, none⟩
/-- BR_HTX_BASE, bits [31:12], field BASE (R170). -/
def BR_HTX_BASE_BASE : Fld := ⟨0x18, 1, 0xa0, 0, 1, 0, 1, 31, 12, .rws, 0, .all, .none, none⟩
/-- BR_HTX_CTRL, bits [10:0], field ENTRIES (R170). -/
def BR_HTX_CTRL_ENTRIES : Fld := ⟨0x18, 1, 0xa4, 0, 1, 0, 1, 10, 0, .rws, 16, .all, .none, (some (16, 1024))⟩
/-- BR_HTX_CTRL, bits [31:31], field EN (R170). -/
def BR_HTX_CTRL_EN : Fld := ⟨0x18, 1, 0xa4, 0, 1, 0, 1, 31, 31, .rws, 0, .all, .none, none⟩
/-- BR_HTX_TAIL, bits [9:0], field INDEX (R170). -/
def BR_HTX_TAIL_INDEX : Fld := ⟨0x18, 1, 0xa8, 0, 1, 0, 1, 9, 0, .rw, 0, .all, .none, none⟩
/-- BR_HTX_HEAD, bits [9:0], field INDEX (R170). -/
def BR_HTX_HEAD_INDEX : Fld := ⟨0x18, 1, 0xac, 0, 1, 0, 1, 9, 0, .ro, 0, .all, .none, none⟩
/-- BR_HRX_BASE, bits [31:12], field BASE (R170). -/
def BR_HRX_BASE_BASE : Fld := ⟨0x18, 1, 0xb0, 0, 1, 0, 1, 31, 12, .rws, 0, .all, .none, none⟩
/-- BR_HRX_CTRL, bits [10:0], field ENTRIES (R170). -/
def BR_HRX_CTRL_ENTRIES : Fld := ⟨0x18, 1, 0xb4, 0, 1, 0, 1, 10, 0, .rws, 16, .all, .none, (some (16, 1024))⟩
/-- BR_HRX_CTRL, bits [31:31], field EN (R170). -/
def BR_HRX_CTRL_EN : Fld := ⟨0x18, 1, 0xb4, 0, 1, 0, 1, 31, 31, .rws, 0, .all, .none, none⟩
/-- BR_HRX_TAIL, bits [9:0], field INDEX (R170). -/
def BR_HRX_TAIL_INDEX : Fld := ⟨0x18, 1, 0xb8, 0, 1, 0, 1, 9, 0, .rw, 0, .all, .none, none⟩
/-- BR_HRX_HEAD, bits [9:0], field INDEX (R170). -/
def BR_HRX_HEAD_INDEX : Fld := ⟨0x18, 1, 0xbc, 0, 1, 0, 1, 9, 0, .ro, 0, .all, .none, none⟩
/-- BR_LEARN_FULL_CNT, bits [31:0], field COUNT (R170). -/
def BR_LEARN_FULL_CNT : Fld := ⟨0x18, 1, 0xc0, 0, 1, 0, 1, 31, 0, .ro, 0, .all, .none, none⟩
/-- BR_VLAN_DROP_CNT, bits [31:0], field COUNT (R170). -/
def BR_VLAN_DROP_CNT : Fld := ⟨0x18, 1, 0xc4, 0, 1, 0, 1, 31, 0, .ro, 0, .all, .none, none⟩
/-- BR_HRX_DROP_CNT, bits [31:0], field COUNT (R170). -/
def BR_HRX_DROP_CNT : Fld := ⟨0x18, 1, 0xc8, 0, 1, 0, 1, 31, 0, .ro, 0, .all, .none, none⟩
/-- BR_EGR_DROP_CNTp, bits [31:0], field COUNT (R170). -/
def BR_EGR_DROP_CNT : Fld := ⟨0x18, 1, 0xcc, 4, 8, 0, 1, 31, 0, .ro, 0, .all, .none, none⟩
/-- TSN_SEL, bits [2:0], field PORT (R171). -/
def TSN_SEL_PORT : Fld := ⟨0x19, 1, 0x40, 0, 1, 0, 1, 2, 0, .rw, 0, .all, .none, none⟩
/-- TSN_RES_A, bits [23:0], field KBPS (R171). -/
def TSN_RES_A_KBPS : Fld := ⟨0x19, 1, 0x44, 0, 1, 0, 1, 23, 0, .rws, 0, .all, .tsnPort, none⟩
/-- TSN_RES_B, bits [23:0], field KBPS (R171). -/
def TSN_RES_B_KBPS : Fld := ⟨0x19, 1, 0x48, 0, 1, 0, 1, 23, 0, .rws, 0, .all, .tsnPort, none⟩
/-- TSN_EFF_A, bits [23:0], field KBPS (R171). -/
def TSN_EFF_A_KBPS : Fld := ⟨0x19, 1, 0x4c, 0, 1, 0, 1, 23, 0, .ro, 0, .all, .tsnPort, none⟩
/-- TSN_EFF_B, bits [23:0], field KBPS (R171). -/
def TSN_EFF_B_KBPS : Fld := ⟨0x19, 1, 0x50, 0, 1, 0, 1, 23, 0, .ro, 0, .all, .tsnPort, none⟩
/-- TSN_TAS_CTRL, bits [0:0], field EN (R171). -/
def TSN_TAS_CTRL_EN : Fld := ⟨0x19, 1, 0x54, 0, 1, 0, 1, 0, 0, .rws, 0, .all, .tsnPort, none⟩
/-- TSN_TAS_BASE_LO, bits [31:0], field NS (R171). -/
def TSN_TAS_BASE_LO_NS : Fld := ⟨0x19, 1, 0x58, 0, 1, 0, 1, 31, 0, .rws, 0, .all, .tsnPort, none⟩
/-- TSN_TAS_BASE_HI, bits [31:0], field NS (R171). -/
def TSN_TAS_BASE_HI_NS : Fld := ⟨0x19, 1, 0x5c, 0, 1, 0, 1, 31, 0, .rws, 0, .all, .tsnPort, none⟩
/-- TSN_TAS_CYCLE, bits [29:0], field NS (R171). -/
def TSN_TAS_CYCLE_NS : Fld := ⟨0x19, 1, 0x60, 0, 1, 0, 1, 29, 0, .rws, 1000000, .all, .tsnPort, (some (8, 1000000000))⟩
/-- TSN_TAS_LEN, bits [8:0], field ENTRIES (R171). -/
def TSN_TAS_LEN_ENTRIES : Fld := ⟨0x19, 1, 0x64, 0, 1, 0, 1, 8, 0, .rws, 1, .all, .tsnPort, (some (1, 256))⟩
/-- TSN_GCL_SEL, bits [7:0], field ENTRY (R171). -/
def TSN_GCL_SEL_ENTRY : Fld := ⟨0x19, 1, 0x68, 0, 1, 0, 1, 7, 0, .rw, 0, .all, .none, none⟩
/-- TSN_GCL_GATES, bits [7:0], field GATES (R171). -/
def TSN_GCL_GATES_GATES : Fld := ⟨0x19, 1, 0x6c, 0, 1, 0, 1, 7, 0, .rws, 255, .all, .tsnGcl, none⟩
/-- TSN_GCL_INTERVAL, bits [29:0], field NS (R171). -/
def TSN_GCL_INTERVAL_NS : Fld := ⟨0x19, 1, 0x70, 0, 1, 0, 1, 29, 0, .rws, 1000000, .all, .tsnGcl, (some (8, 1000000000))⟩
/-- TSN_TAS_STATUS, bits [0:0], field OPER (R171). -/
def TSN_TAS_STATUS_OPER : Fld := ⟨0x19, 1, 0x74, 0, 1, 0, 1, 0, 0, .ro, 0, .all, .tsnPort, none⟩
/-- TSN_TAS_STATUS, bits [1:1], field PENDING (R171). -/
def TSN_TAS_STATUS_PENDING : Fld := ⟨0x19, 1, 0x74, 0, 1, 0, 1, 1, 1, .ro, 0, .all, .tsnPort, none⟩
/-- TSN_TAS_STATUS, bits [2:2], field NO_TIME (R171). -/
def TSN_TAS_STATUS_NO_TIME : Fld := ⟨0x19, 1, 0x74, 0, 1, 0, 1, 2, 2, .ro, 0, .all, .tsnPort, none⟩
/-- TSN_TAS_STATUS, bits [3:3], field CFG_ERR (R171). -/
def TSN_TAS_STATUS_CFG_ERR : Fld := ⟨0x19, 1, 0x74, 0, 1, 0, 1, 3, 3, .w1c, 0, .all, .tsnPort, none⟩
/-- TSN_TAS_STATUS, bits [15:8], field GATES (R171). -/
def TSN_TAS_STATUS_GATES : Fld := ⟨0x19, 1, 0x74, 0, 1, 0, 1, 15, 8, .ro, 255, .all, .tsnPort, none⟩
/-- TSN_TAS_OVERSIZE_CNT, bits [31:0], field COUNT (R171). -/
def TSN_TAS_OVERSIZE_CNT : Fld := ⟨0x19, 1, 0x80, 0, 1, 0, 1, 31, 0, .ro, 0, .all, .tsnPort, none⟩
/-- TSN_SF_SEL, bits [8:0], field FILTER (R171). -/
def TSN_SF_SEL_FILTER : Fld := ⟨0x19, 1, 0xa0, 0, 1, 0, 1, 8, 0, .rw, 0, .all, .none, none⟩
/-- TSN_SF_MAC_LO, bits [31:0], field MAC (R171). -/
def TSN_SF_MAC_LO_MAC : Fld := ⟨0x19, 1, 0xa4, 0, 1, 0, 1, 31, 0, .rws, 0, .all, .tsnSf, none⟩
/-- TSN_SF_MAC_HI, bits [15:0], field MAC (R171). -/
def TSN_SF_MAC_HI_MAC : Fld := ⟨0x19, 1, 0xa8, 0, 1, 0, 1, 15, 0, .rws, 0, .all, .tsnSf, none⟩
/-- TSN_SF_MAC_HI, bits [27:16], field VID (R171). -/
def TSN_SF_MAC_HI_VID : Fld := ⟨0x19, 1, 0xa8, 0, 1, 0, 1, 27, 16, .rws, 0, .all, .tsnSf, none⟩
/-- TSN_SF_MAC_HI, bits [31:31], field EN (R171). -/
def TSN_SF_MAC_HI_EN : Fld := ⟨0x19, 1, 0xa8, 0, 1, 0, 1, 31, 31, .rws, 0, .all, .tsnSf, none⟩
/-- TSN_SF_CFG, bits [13:0], field MAX_SDU (R171). -/
def TSN_SF_CFG_MAX_SDU : Fld := ⟨0x19, 1, 0xac, 0, 1, 0, 1, 13, 0, .rws, 9216, .all, .tsnSf, none⟩
/-- TSN_SF_CFG, bits [20:14], field METER (R171). -/
def TSN_SF_CFG_METER : Fld := ⟨0x19, 1, 0xac, 0, 1, 0, 1, 20, 14, .rws, 0, .all, .tsnSf, none⟩
/-- TSN_SF_CFG, bits [21:21], field METER_EN (R171). -/
def TSN_SF_CFG_METER_EN : Fld := ⟨0x19, 1, 0xac, 0, 1, 0, 1, 21, 21, .rws, 0, .all, .tsnSf, none⟩
/-- TSN_SF_CFG, bits [22:22], field BLOCK_OVS (R171). -/
def TSN_SF_CFG_BLOCK_OVS : Fld := ⟨0x19, 1, 0xac, 0, 1, 0, 1, 22, 22, .rws, 0, .all, .tsnSf, none⟩
/-- TSN_SF_CFG, bits [31:24], field PORTS (R171). -/
def TSN_SF_CFG_PORTS : Fld := ⟨0x19, 1, 0xac, 0, 1, 0, 1, 31, 24, .rws, 255, .all, .tsnSf, none⟩
/-- TSN_SF_MATCH_CNT, bits [31:0], field COUNT (R171). -/
def TSN_SF_MATCH_CNT : Fld := ⟨0x19, 1, 0xb0, 0, 1, 0, 1, 31, 0, .ro, 0, .all, .tsnSf, none⟩
/-- TSN_SF_SDU_DROP_CNT, bits [31:0], field COUNT (R171). -/
def TSN_SF_SDU_DROP_CNT : Fld := ⟨0x19, 1, 0xb4, 0, 1, 0, 1, 31, 0, .ro, 0, .all, .tsnSf, none⟩
/-- TSN_SF_METER_DROP_CNT, bits [31:0], field COUNT (R171). -/
def TSN_SF_METER_DROP_CNT : Fld := ⟨0x19, 1, 0xb8, 0, 1, 0, 1, 31, 0, .ro, 0, .all, .tsnSf, none⟩
/-- TSN_SF_STATUS, bits [0:0], field BLOCKED (R171). -/
def TSN_SF_STATUS_BLOCKED : Fld := ⟨0x19, 1, 0xbc, 0, 1, 0, 1, 0, 0, .w1c, 0, .all, .tsnSf, none⟩
/-- TSN_FM_SEL, bits [6:0], field METER (R171). -/
def TSN_FM_SEL_METER : Fld := ⟨0x19, 1, 0xc0, 0, 1, 0, 1, 6, 0, .rw, 0, .all, .none, none⟩
/-- TSN_FM_CIR, bits [23:0], field KBPS (R171). -/
def TSN_FM_CIR_KBPS : Fld := ⟨0x19, 1, 0xc4, 0, 1, 0, 1, 23, 0, .rws, 0, .all, .tsnFm, none⟩
/-- TSN_FM_CBS, bits [19:0], field BYTES (R171). -/
def TSN_FM_CBS_BYTES : Fld := ⟨0x19, 1, 0xc8, 0, 1, 0, 1, 19, 0, .rws, 0, .all, .tsnFm, none⟩
/-- FRER_CTRL, bits [0:0], field CNT_CLR (R172). -/
def FRER_CTRL_CNT_CLR : Fld := ⟨0x1a, 1, 0x40, 0, 1, 0, 1, 0, 0, .sc, 0, .all, .none, none⟩
/-- FRER_SEL, bits [7:0], field ENTRY (R172). -/
def FRER_SEL_ENTRY : Fld := ⟨0x1a, 1, 0x44, 0, 1, 0, 1, 7, 0, .rw, 0, .all, .none, none⟩
/-- FRER_ID_LO, bits [31:0], field MAC (R172). -/
def FRER_ID_LO_MAC : Fld := ⟨0x1a, 1, 0x48, 0, 1, 0, 1, 31, 0, .rws, 0, .all, .frer, none⟩
/-- FRER_ID_HI, bits [15:0], field MAC (R172). -/
def FRER_ID_HI_MAC : Fld := ⟨0x1a, 1, 0x4c, 0, 1, 0, 1, 15, 0, .rws, 0, .all, .frer, none⟩
/-- FRER_ID_HI, bits [27:16], field VID (R172). -/
def FRER_ID_HI_VID : Fld := ⟨0x1a, 1, 0x4c, 0, 1, 0, 1, 27, 16, .rws, 0, .all, .frer, none⟩
/-- FRER_ID_HI, bits [31:31], field EN (R172). -/
def FRER_ID_HI_EN : Fld := ⟨0x1a, 1, 0x4c, 0, 1, 0, 1, 31, 31, .rws, 0, .all, .frer, none⟩
/-- FRER_CFG, bits [8:0], field RECOVER (R172). -/
def FRER_CFG_RECOVER : Fld := ⟨0x1a, 1, 0x50, 0, 1, 0, 1, 8, 0, .rws, 0, .all, .frer, none⟩
/-- FRER_CFG, bits [9:9], field POP (R172). -/
def FRER_CFG_POP : Fld := ⟨0x1a, 1, 0x50, 0, 1, 0, 1, 9, 9, .rws, 1, .all, .frer, none⟩
/-- FRER_CFG, bits [31:16], field RESET_MS (R172). -/
def FRER_CFG_RESET_MS : Fld := ⟨0x1a, 1, 0x50, 0, 1, 0, 1, 31, 16, .rws, 500, .all, .frer, (some (1, 65535))⟩
/-- FRER_PASSED_CNT, bits [31:0], field COUNT (R172). -/
def FRER_PASSED_CNT : Fld := ⟨0x1a, 1, 0x54, 0, 1, 0, 1, 31, 0, .ro, 0, .all, .frer, none⟩
/-- FRER_DISCARDED_CNT, bits [31:0], field COUNT (R172). -/
def FRER_DISCARDED_CNT : Fld := ⟨0x1a, 1, 0x58, 0, 1, 0, 1, 31, 0, .ro, 0, .all, .frer, none⟩
/-- FRER_OOO_CNT, bits [31:0], field COUNT (R172). -/
def FRER_OOO_CNT : Fld := ⟨0x1a, 1, 0x5c, 0, 1, 0, 1, 31, 0, .ro, 0, .all, .frer, none⟩
/-- FRER_ROGUE_CNT, bits [31:0], field COUNT (R172). -/
def FRER_ROGUE_CNT : Fld := ⟨0x1a, 1, 0x60, 0, 1, 0, 1, 31, 0, .ro, 0, .all, .frer, none⟩
/-- FRER_LOST_CNT, bits [31:0], field COUNT (R172). -/
def FRER_LOST_CNT : Fld := ⟨0x1a, 1, 0x64, 0, 1, 0, 1, 31, 0, .ro, 0, .all, .frer, none⟩
/-- FRER_RESETS_CNT, bits [31:0], field COUNT (R172). -/
def FRER_RESETS_CNT : Fld := ⟨0x1a, 1, 0x68, 0, 1, 0, 1, 31, 0, .ro, 0, .all, .frer, none⟩
/-- FRER_TAGLESS_CNT, bits [31:0], field COUNT (R172). -/
def FRER_TAGLESS_CNT : Fld := ⟨0x1a, 1, 0x6c, 0, 1, 0, 1, 31, 0, .ro, 0, .all, .frer, none⟩
/-- FRER_EVT, bits [7:0], field ENTRY (R172). -/
def FRER_EVT_ENTRY : Fld := ⟨0x1a, 1, 0x70, 0, 1, 0, 1, 7, 0, .ro, 0, .all, .none, none⟩
/-- FRER_EVT, bits [31:31], field VALID (R172). -/
def FRER_EVT_VALID : Fld := ⟨0x1a, 1, 0x70, 0, 1, 0, 1, 31, 31, .w1c, 0, .all, .none, none⟩
/-- PTP_CTRL, bits [0:0], field EN (R173). -/
def PTP_CTRL_EN : Fld := ⟨0x1b, 1, 0x40, 0, 1, 0, 1, 0, 0, .rws, 0, .all, .none, none⟩
/-- PTP_CTRL, bits [1:1], field PROFILE (R173). -/
def PTP_CTRL_PROFILE : Fld := ⟨0x1b, 1, 0x40, 0, 1, 0, 1, 1, 1, .rws, 0, .all, .none, none⟩
/-- PTP_CTRL, bits [2:2], field GM_CAPABLE (R173). -/
def PTP_CTRL_GM_CAPABLE : Fld := ⟨0x1b, 1, 0x40, 0, 1, 0, 1, 2, 2, .rws, 0, .all, .none, none⟩
/-- PTP_CTRL, bits [3:3], field ONE_STEP (R173). -/
def PTP_CTRL_ONE_STEP : Fld := ⟨0x1b, 1, 0x40, 0, 1, 0, 1, 3, 3, .rws, 0, .all, .none, none⟩
/-- PTP_CTRL, bits [4:4], field CNT_CLR (R173). -/
def PTP_CTRL_CNT_CLR : Fld := ⟨0x1b, 1, 0x40, 0, 1, 0, 1, 4, 4, .sc, 0, .all, .none, none⟩
/-- PTP_DOMAIN, bits [7:0], field DOMAIN (R173). -/
def PTP_DOMAIN_DOMAIN : Fld := ⟨0x1b, 1, 0x44, 0, 1, 0, 1, 7, 0, .rws, 0, .all, .none, none⟩
/-- PTP_DOMAIN, bits [15:8], field PRIORITY1 (R173). -/
def PTP_DOMAIN_PRIORITY1 : Fld := ⟨0x1b, 1, 0x44, 0, 1, 0, 1, 15, 8, .rws, 246, .all, .none, none⟩
/-- PTP_DOMAIN, bits [23:16], field PRIORITY2 (R173). -/
def PTP_DOMAIN_PRIORITY2 : Fld := ⟨0x1b, 1, 0x44, 0, 1, 0, 1, 23, 16, .rws, 248, .all, .none, none⟩
/-- PTP_CLOCKQ, bits [7:0], field CLASS (R173). -/
def PTP_CLOCKQ_CLASS : Fld := ⟨0x1b, 1, 0x48, 0, 1, 0, 1, 7, 0, .rws, 248, .all, .none, none⟩
/-- PTP_CLOCKQ, bits [15:8], field ACCURACY (R173). -/
def PTP_CLOCKQ_ACCURACY : Fld := ⟨0x1b, 1, 0x48, 0, 1, 0, 1, 15, 8, .rws, 254, .all, .none, none⟩
/-- PTP_CLOCKQ, bits [31:16], field VARIANCE (R173). -/
def PTP_CLOCKQ_VARIANCE : Fld := ⟨0x1b, 1, 0x48, 0, 1, 0, 1, 31, 16, .rws, 17258, .all, .none, none⟩
/-- PTP_INTERVALS, bits [3:0], field LOG_SYNC (R173). -/
def PTP_INTERVALS_LOG_SYNC : Fld := ⟨0x1b, 1, 0x4c, 0, 1, 0, 1, 3, 0, .rws, 13, .all, .none, some (9, 0)⟩
/-- PTP_INTERVALS, bits [7:4], field LOG_ANNOUNCE (R173). -/
def PTP_INTERVALS_LOG_ANNOUNCE : Fld := ⟨0x1b, 1, 0x4c, 0, 1, 0, 1, 7, 4, .rws, 0, .all, .none, some (13, 4)⟩
/-- PTP_INTERVALS, bits [11:8], field LOG_DELAY (R173). -/
def PTP_INTERVALS_LOG_DELAY : Fld := ⟨0x1b, 1, 0x4c, 0, 1, 0, 1, 11, 8, .rws, 0, .all, .none, some (13, 5)⟩
/-- PTP_INTERVALS, bits [15:12], field SYNC_TIMEOUT (R173). -/
def PTP_INTERVALS_SYNC_TIMEOUT : Fld := ⟨0x1b, 1, 0x4c, 0, 1, 0, 1, 15, 12, .rws, 3, .all, .none, none⟩
/-- PTP_INTERVALS, bits [19:16], field ANN_TIMEOUT (R173). -/
def PTP_INTERVALS_ANN_TIMEOUT : Fld := ⟨0x1b, 1, 0x4c, 0, 1, 0, 1, 19, 16, .rws, 3, .all, .none, none⟩
/-- PTP_PORT_EN, bits [5:0], field PORTS (R173). -/
def PTP_PORT_EN_PORTS : Fld := ⟨0x1b, 1, 0x50, 0, 1, 0, 1, 5, 0, .rws, 3, .all, .none, none⟩
/-- PTP_LINK_THRESH, bits [19:0], field NS (R173). -/
def PTP_LINK_THRESH_NS : Fld := ⟨0x1b, 1, 0x54, 0, 1, 0, 1, 19, 0, .rws, 10000, .all, .none, none⟩
/-- PTP_PORT_SEL, bits [2:0], field PORT (R173). -/
def PTP_PORT_SEL_PORT : Fld := ⟨0x1b, 1, 0x58, 0, 1, 0, 1, 2, 0, .rw, 0, .all, .none, (some (0, 5))⟩
/-- PTP_LAT_RX, bits [19:0], field DELAY (R173). -/
def PTP_LAT_RX_DELAY : Fld := ⟨0x1b, 1, 0x5c, 0, 1, 0, 1, 19, 0, .rws, 0, .all, .ptpPort, none⟩
/-- PTP_LAT_TX, bits [19:0], field DELAY (R173). -/
def PTP_LAT_TX_DELAY : Fld := ⟨0x1b, 1, 0x60, 0, 1, 0, 1, 19, 0, .rws, 0, .all, .ptpPort, none⟩
/-- PTP_PORT_STATUS, bits [2:0], field STATE (R173). -/
def PTP_PORT_STATUS_STATE : Fld := ⟨0x1b, 1, 0x64, 0, 1, 0, 1, 2, 0, .ro, 0, .all, .ptpPort, none⟩
/-- PTP_PORT_STATUS, bits [3:3], field AS_CAPABLE (R173). -/
def PTP_PORT_STATUS_AS_CAPABLE : Fld := ⟨0x1b, 1, 0x64, 0, 1, 0, 1, 3, 3, .ro, 0, .all, .ptpPort, none⟩
/-- PTP_MEAN_DELAY, bits [31:0], field PS (R173). -/
def PTP_MEAN_DELAY_PS : Fld := ⟨0x1b, 1, 0x68, 0, 1, 0, 1, 31, 0, .ro, 0, .all, .ptpPort, none⟩
/-- PTP_NRR, bits [31:0], field PPB (R173). -/
def PTP_NRR_PPB : Fld := ⟨0x1b, 1, 0x6c, 0, 1, 0, 1, 31, 0, .ro, 0, .all, .ptpPort, none⟩
/-- PTP_GM_ID_LO, bits [31:0], field ID (R173). -/
def PTP_GM_ID_LO_ID : Fld := ⟨0x1b, 1, 0x70, 0, 1, 0, 1, 31, 0, .ro, 0, .all, .none, none⟩
/-- PTP_GM_ID_HI, bits [31:0], field ID (R173). -/
def PTP_GM_ID_HI_ID : Fld := ⟨0x1b, 1, 0x74, 0, 1, 0, 1, 31, 0, .ro, 0, .all, .none, none⟩
/-- PTP_STATUS, bits [0:0], field SYNCED (R173). -/
def PTP_STATUS_SYNCED : Fld := ⟨0x1b, 1, 0x78, 0, 1, 0, 1, 0, 0, .ro, 0, .all, .none, none⟩
/-- PTP_STATUS, bits [1:1], field IS_GM (R173). -/
def PTP_STATUS_IS_GM : Fld := ⟨0x1b, 1, 0x78, 0, 1, 0, 1, 1, 1, .ro, 0, .all, .none, none⟩
/-- PTP_STATUS, bits [15:8], field STEPS_REMOVED (R173). -/
def PTP_STATUS_STEPS_REMOVED : Fld := ⟨0x1b, 1, 0x78, 0, 1, 0, 1, 15, 8, .ro, 0, .all, .none, none⟩
/-- PTP_OFFSET, bits [31:0], field NS (R173). -/
def PTP_OFFSET_NS : Fld := ⟨0x1b, 1, 0x7c, 0, 1, 0, 1, 31, 0, .ro, 0, .all, .none, none⟩
/-- PTP_RATE, bits [31:0], field PPB (R173). -/
def PTP_RATE_PPB : Fld := ⟨0x1b, 1, 0x80, 0, 1, 0, 1, 31, 0, .ro, 0, .all, .none, none⟩
/-- PTP_RX_CNT, bits [31:0], field COUNT (R173). -/
def PTP_RX_CNT : Fld := ⟨0x1b, 1, 0x84, 0, 1, 0, 1, 31, 0, .ro, 0, .all, .none, none⟩
/-- PTP_TX_CNT, bits [31:0], field COUNT (R173). -/
def PTP_TX_CNT : Fld := ⟨0x1b, 1, 0x88, 0, 1, 0, 1, 31, 0, .ro, 0, .all, .none, none⟩
/-- PTP_ERR_CNT, bits [31:0], field COUNT (R173). -/
def PTP_ERR_CNT : Fld := ⟨0x1b, 1, 0x8c, 0, 1, 0, 1, 31, 0, .ro, 0, .all, .none, none⟩
/-- PLUMB_CTRL, bits [1:0], field BW (R200). -/
def PLUMB_CTRL_BW : Fld := ⟨0x8, 1, 0x40, 0, 1, 0, 1, 1, 0, .rws, 1, .all, .none, (some (0, 2))⟩
/-- PLUMB_CTRL, bits [2:2], field REVERTIVE (R200). -/
def PLUMB_CTRL_REVERTIVE : Fld := ⟨0x8, 1, 0x40, 0, 1, 0, 1, 2, 2, .rws, 1, .all, .none, none⟩
/-- PLUMB_CTRL, bits [3:3], field CNT_CLR (R200). -/
def PLUMB_CTRL_CNT_CLR : Fld := ⟨0x8, 1, 0x40, 0, 1, 0, 1, 3, 3, .sc, 0, .all, .none, none⟩
/-- PLUMB_SLOPE, bits [15:0], field PULL_SLOPE (R200). -/
def PLUMB_SLOPE_PULL_SLOPE : Fld := ⟨0x8, 1, 0x44, 0, 1, 0, 1, 15, 0, .rws, 200, .all, .none, (some (5, 5000))⟩
/-- PLUMB_SLOPE, bits [31:16], field IDLE_SLOPE (R200). -/
def PLUMB_SLOPE_IDLE_SLOPE : Fld := ⟨0x8, 1, 0x44, 0, 1, 0, 1, 31, 16, .rws, 5000, .all, .none, (some (5, 5000))⟩
/-- PLUMB_WTR, bits [11:0], field SECONDS (R200). -/
def PLUMB_WTR_SECONDS : Fld := ⟨0x8, 1, 0x48, 0, 1, 0, 1, 11, 0, .rws, 300, .all, .none, (some (0, 3600))⟩
/-- PLUMB_HOLD_CFG, bits [15:0], field MAX_OFFSET (R200). -/
def PLUMB_HOLD_CFG_MAX_OFFSET : Fld := ⟨0x8, 1, 0x4c, 0, 1, 0, 1, 15, 0, .rws, 1000, .all, .none, (some (1, 65535))⟩
/-- PLUMB_HOLD_CFG, bits [23:16], field HOLD_AVG (R200). -/
def PLUMB_HOLD_CFG_HOLD_AVG : Fld := ⟨0x8, 1, 0x4c, 0, 1, 0, 1, 23, 16, .rws, 100, .all, .none, (some (10, 255))⟩
/-- PLUMB_STATUS, bits [2:0], field STATE (R200). -/
def PLUMB_STATUS_STATE : Fld := ⟨0x8, 1, 0x50, 0, 1, 0, 1, 2, 0, .ro, 0, .all, .none, none⟩
/-- PLUMB_STATUS, bits [7:4], field SEL (R200). -/
def PLUMB_STATUS_SEL : Fld := ⟨0x8, 1, 0x50, 0, 1, 0, 1, 7, 4, .ro, 15, .all, .none, none⟩
/-- PLUMB_STATUS, bits [8:8], field HOLD_VALID (R200). -/
def PLUMB_STATUS_HOLD_VALID : Fld := ⟨0x8, 1, 0x50, 0, 1, 0, 1, 8, 8, .ro, 0, .all, .none, none⟩
/-- PLUMB_STATUS, bits [9:9], field SATURATED (R200). -/
def PLUMB_STATUS_SATURATED : Fld := ⟨0x8, 1, 0x50, 0, 1, 0, 1, 9, 9, .ro, 0, .all, .none, none⟩
/-- PLUMB_STATUS, bits [10:10], field IDLE (R200). -/
def PLUMB_STATUS_IDLE : Fld := ⟨0x8, 1, 0x50, 0, 1, 0, 1, 10, 10, .ro, 0, .all, .none, none⟩
/-- PLUMB_PHASE_ERR, bits [31:0], field NS (R200). -/
def PLUMB_PHASE_ERR_NS : Fld := ⟨0x8, 1, 0x54, 0, 1, 0, 1, 31, 0, .ro, 0, .all, .none, none⟩
/-- PLUMB_FREQ, bits [31:0], field Y (R200). -/
def PLUMB_FREQ_Y : Fld := ⟨0x8, 1, 0x58, 0, 1, 0, 1, 31, 0, .ro, 0, .all, .none, none⟩
/-- PLUMB_HOLD_EST, bits [31:0], field EST (R200). -/
def PLUMB_HOLD_EST_EST : Fld := ⟨0x8, 1, 0x5c, 0, 1, 0, 1, 31, 0, .ro, 0, .all, .none, none⟩
/-- PLUMB_HOLD_TIME, bits [31:0], field SECONDS (R200). -/
def PLUMB_HOLD_TIME_SECONDS : Fld := ⟨0x8, 1, 0x60, 0, 1, 0, 1, 31, 0, .ro, 0, .all, .none, none⟩
/-- PLUMB_LAST_CHANGE, bits [3:0], field FROM (R200). -/
def PLUMB_LAST_CHANGE_FROM : Fld := ⟨0x8, 1, 0x64, 0, 1, 0, 1, 3, 0, .ro, 15, .all, .none, none⟩
/-- PLUMB_LAST_CHANGE, bits [7:4], field TO (R200). -/
def PLUMB_LAST_CHANGE_TO : Fld := ⟨0x8, 1, 0x64, 0, 1, 0, 1, 7, 4, .ro, 15, .all, .none, none⟩
/-- PLUMB_LAST_CHANGE, bits [10:8], field CAUSE (R200). -/
def PLUMB_LAST_CHANGE_CAUSE : Fld := ⟨0x8, 1, 0x64, 0, 1, 0, 1, 10, 8, .ro, 0, .all, .none, none⟩
/-- PLUMB_LAST_CHANGE, bits [31:31], field VALID (R200). -/
def PLUMB_LAST_CHANGE_VALID : Fld := ⟨0x8, 1, 0x64, 0, 1, 0, 1, 31, 31, .w1c, 0, .all, .none, none⟩
/-- PLUMB_CHANGE_TICK, bits [31:0], field TICK (R200). -/
def PLUMB_CHANGE_TICK_TICK : Fld := ⟨0x8, 1, 0x68, 0, 1, 0, 1, 31, 0, .ro, 0, .all, .none, none⟩
/-- PLUMB_CHANGE_CNT, bits [31:0], field COUNT (R200). -/
def PLUMB_CHANGE_CNT : Fld := ⟨0x8, 1, 0x6c, 0, 1, 0, 1, 31, 0, .ro, 0, .all, .none, none⟩
/-- PLUMB_HOLD_CNT, bits [31:0], field COUNT (R200). -/
def PLUMB_HOLD_CNT : Fld := ⟨0x8, 1, 0x70, 0, 1, 0, 1, 31, 0, .ro, 0, .all, .none, none⟩
/-- REF_CFGn, bits [3:0], field SOURCE (R201). -/
def REF_CFG_SOURCE : Fld := ⟨0x9, 1, 0x40, 32, 8, 0, 1, 3, 0, .rws, 0, .all, .none, (some (0, 11))⟩
/-- REF_CFGn, bits [6:4], field PRIORITY (R201). -/
def REF_CFG_PRIORITY : Fld := ⟨0x9, 1, 0x40, 32, 8, 0, 1, 6, 4, .rws, 7, .all, .none, none⟩
/-- REF_CFGn, bits [7:7], field EN (R201). -/
def REF_CFG_EN : Fld := ⟨0x9, 1, 0x40, 32, 8, 0, 1, 7, 7, .rws, 0, .all, .none, none⟩
/-- REF_CFGn, bits [8:8], field LOCKOUT (R201). -/
def REF_CFG_LOCKOUT : Fld := ⟨0x9, 1, 0x40, 32, 8, 0, 1, 8, 8, .rw, 0, .all, .none, none⟩
/-- REF_CFGn, bits [9:9], field PHASE_USE (R201). -/
def REF_CFG_PHASE_USE : Fld := ⟨0x9, 1, 0x40, 32, 8, 0, 1, 9, 9, .rws, 1, .all, .none, none⟩
/-- REF_CFGn, bits [14:12], field WCLK_RATE (R201). -/
def REF_CFG_WCLK_RATE : Fld := ⟨0x9, 1, 0x40, 32, 8, 0, 1, 14, 12, .rws, 0, .all, .none, (some (0, 5))⟩
/-- REF_QUALn, bits [9:0], field QUAL_TIME (R201). -/
def REF_QUAL_QUAL_TIME : Fld := ⟨0x9, 1, 0x44, 32, 8, 0, 1, 9, 0, .rws, 10, .all, .none, (some (1, 600))⟩
/-- REF_QUALn, bits [31:16], field FREQ_WIN (R201). -/
def REF_QUAL_FREQ_WIN : Fld := ⟨0x9, 1, 0x44, 32, 8, 0, 1, 31, 16, .rws, 1000, .all, .none, (some (1, 10000))⟩
/-- REF_LIMITSn, bits [15:0], field DRIFT_LIMIT (R201). -/
def REF_LIMITS_DRIFT_LIMIT : Fld := ⟨0x9, 1, 0x48, 32, 8, 0, 1, 15, 0, .rws, 500, .all, .none, (some (1, 65535))⟩
/-- REF_LIMITSn, bits [31:16], field DIV_LIMIT (R201). -/
def REF_LIMITS_DIV_LIMIT : Fld := ⟨0x9, 1, 0x48, 32, 8, 0, 1, 31, 16, .rws, 200, .all, .none, none⟩
/-- REF_PJn, bits [19:0], field PJ_LIMIT (R201). -/
def REF_PJ_PJ_LIMIT : Fld := ⟨0x9, 1, 0x4c, 32, 8, 0, 1, 19, 0, .rws, 1000, .all, .none, (some (0, 1000000))⟩
/-- REF_STATUSn, bits [2:0], field STATE (R201). -/
def REF_STATUS_STATE : Fld := ⟨0x9, 1, 0x50, 32, 8, 0, 1, 2, 0, .ro, 0, .all, .none, none⟩
/-- REF_STATUSn, bits [3:3], field SELECTED (R201). -/
def REF_STATUS_SELECTED : Fld := ⟨0x9, 1, 0x50, 32, 8, 0, 1, 3, 3, .ro, 0, .all, .none, none⟩
/-- REF_STATUSn, bits [6:4], field FAIL_CAUSE (R201). -/
def REF_STATUS_FAIL_CAUSE : Fld := ⟨0x9, 1, 0x50, 32, 8, 0, 1, 6, 4, .ro, 0, .all, .none, none⟩
/-- REF_STATUSn, bits [31:16], field QUAL_REMAIN (R201). -/
def REF_STATUS_QUAL_REMAIN : Fld := ⟨0x9, 1, 0x50, 32, 8, 0, 1, 31, 16, .ro, 0, .all, .none, none⟩
/-- REF_HISTORYn, bits [0:0], field LOS_SEEN (R201). -/
def REF_HISTORY_LOS_SEEN : Fld := ⟨0x9, 1, 0x54, 32, 8, 0, 1, 0, 0, .w1c, 0, .all, .none, none⟩
/-- REF_HISTORYn, bits [1:1], field FREQ_FAULT_SEEN (R201). -/
def REF_HISTORY_FREQ_FAULT_SEEN : Fld := ⟨0x9, 1, 0x54, 32, 8, 0, 1, 1, 1, .w1c, 0, .all, .none, none⟩
/-- REF_HISTORYn, bits [2:2], field DRIFT_SEEN (R201). -/
def REF_HISTORY_DRIFT_SEEN : Fld := ⟨0x9, 1, 0x54, 32, 8, 0, 1, 2, 2, .w1c, 0, .all, .none, none⟩
/-- REF_HISTORYn, bits [3:3], field PHASE_JUMP_SEEN (R201). -/
def REF_HISTORY_PHASE_JUMP_SEEN : Fld := ⟨0x9, 1, 0x54, 32, 8, 0, 1, 3, 3, .w1c, 0, .all, .none, none⟩
/-- REF_HISTORYn, bits [4:4], field LOST_WHILE_SELECTED (R201). -/
def REF_HISTORY_LOST_WHILE_SELECTED : Fld := ⟨0x9, 1, 0x54, 32, 8, 0, 1, 4, 4, .w1c, 0, .all, .none, none⟩
/-- REF_FREQn, bits [31:0], field FREQ (R201). -/
def REF_FREQ_FREQ : Fld := ⟨0x9, 1, 0x58, 32, 8, 0, 1, 31, 0, .ro, 0, .all, .none, none⟩
/-- REF_OFFSETn, bits [31:0], field NS (R201). -/
def REF_OFFSET_NS : Fld := ⟨0x9, 1, 0x5c, 32, 8, 0, 1, 31, 0, .ro, 0, .all, .none, none⟩
/-- CLKOUT_CTRL, bits [5:0], field EN (R202). -/
def CLKOUT_CTRL_EN : Fld := ⟨0xd, 1, 0x40, 0, 1, 0, 1, 5, 0, .rws, 0, .all, .none, none⟩
/-- CLKOUT_CFG, bits [1:0], field WCLK0_RATE (R202). -/
def CLKOUT_CFG_WCLK0_RATE : Fld := ⟨0xd, 1, 0x44, 0, 1, 0, 1, 1, 0, .rws, 0, .all, .none, (some (0, 2))⟩
/-- CLKOUT_CFG, bits [3:2], field WCLK1_RATE (R202). -/
def CLKOUT_CFG_WCLK1_RATE : Fld := ⟨0xd, 1, 0x44, 0, 1, 0, 1, 3, 2, .rws, 0, .all, .none, (some (0, 2))⟩
/-- CLKOUT_CFG, bits [5:4], field MCLK0_DIV (R202). -/
def CLKOUT_CFG_MCLK0_DIV : Fld := ⟨0xd, 1, 0x44, 0, 1, 0, 1, 5, 4, .rws, 0, .all, .none, (some (0, 2))⟩
/-- CLKOUT_CFG, bits [7:6], field MCLK1_DIV (R202). -/
def CLKOUT_CFG_MCLK1_DIV : Fld := ⟨0xd, 1, 0x44, 0, 1, 0, 1, 7, 6, .rws, 0, .all, .none, (some (0, 2))⟩
/-- CLKOUT_CFG, bits [15:8], field PPS_WIDTH (R202). -/
def CLKOUT_CFG_PPS_WIDTH : Fld := ⟨0xd, 1, 0x44, 0, 1, 0, 1, 15, 8, .rws, 100, .all, .none, (some (1, 200))⟩
/-- CLKOUT_CFG, bits [23:16], field TICK_WIDTH (R202). -/
def CLKOUT_CFG_TICK_WIDTH : Fld := ⟨0xd, 1, 0x44, 0, 1, 0, 1, 23, 16, .rws, 64, .all, .none, (some (1, 255))⟩
/-- CLKOUT_ALIGN, bits [5:0], field ALIGN (R202). -/
def CLKOUT_ALIGN_ALIGN : Fld := ⟨0xd, 1, 0x48, 0, 1, 0, 1, 5, 0, .sc, 0, .all, .none, none⟩
/-- CLKOUT_THRESH, bits [19:0], field NS (R202). -/
def CLKOUT_THRESH_NS : Fld := ⟨0xd, 1, 0x4c, 0, 1, 0, 1, 19, 0, .rw, 1000, .all, .none, none⟩
/-- PULSE_OFFSETk, bits [31:0], field NS (R202). -/
def PULSE_OFFSET_NS : Fld := ⟨0xd, 1, 0x50, 4, 6, 0, 1, 31, 0, .ro, 0, .all, .none, none⟩
/-- CLKOUT_STATUS, bits [5:0], field OVER (R202). -/
def CLKOUT_STATUS_OVER : Fld := ⟨0xd, 1, 0x68, 0, 1, 0, 1, 5, 0, .ro, 0, .all, .none, none⟩
/-- CLKOUT_STATUS, bits [13:8], field STEPPED (R202). -/
def CLKOUT_STATUS_STEPPED : Fld := ⟨0xd, 1, 0x68, 0, 1, 0, 1, 13, 8, .w1c, 0, .all, .none, none⟩
/-- CLKOUT_STATUS, bits [21:16], field GATED (R202). -/
def CLKOUT_STATUS_GATED : Fld := ⟨0xd, 1, 0x68, 0, 1, 0, 1, 21, 16, .ro, 0, .all, .none, none⟩
/-- PLL_CTRL, bits [0:0], field CNT_CLR (R221). -/
def PLL_CTRL_CNT_CLR : Fld := ⟨0xa, 3, 0x40, 0, 1, 0, 1, 0, 0, .sc, 0, .all, .none, none⟩
/-- PLL_LOCK_CFG, bits [7:0], field PHASE_WIN (R221). -/
def PLL_LOCK_CFG_PHASE_WIN : Fld := ⟨0xa, 3, 0x44, 0, 1, 0, 1, 7, 0, .rws, 20, .all, .none, (some (1, 255))⟩
/-- PLL_LOCK_CFG, bits [28:16], field PLOCK_N (R221). -/
def PLL_LOCK_CFG_PLOCK_N : Fld := ⟨0xa, 3, 0x44, 0, 1, 0, 1, 28, 16, .rws, 256, .all, .none, (some (16, 4096))⟩
/-- PLL_STATUS, bits [0:0], field FLOCK (R221). -/
def PLL_STATUS_FLOCK : Fld := ⟨0xa, 3, 0x48, 0, 1, 0, 1, 0, 0, .ro, 0, .all, .none, none⟩
/-- PLL_STATUS, bits [1:1], field PLOCK (R221). -/
def PLL_STATUS_PLOCK : Fld := ⟨0xa, 3, 0x48, 0, 1, 0, 1, 1, 1, .ro, 0, .all, .none, none⟩
/-- PLL_STATUS, bits [2:2], field GATED (R221). -/
def PLL_STATUS_GATED : Fld := ⟨0xa, 3, 0x48, 0, 1, 0, 1, 2, 2, .ro, 1, .all, .none, none⟩
/-- PLL_STATUS, bits [3:3], field REF_LOST (R221). -/
def PLL_STATUS_REF_LOST : Fld := ⟨0xa, 3, 0x48, 0, 1, 0, 1, 3, 3, .ro, 0, .all, .none, none⟩
/-- PLL_STATUS, bits [8:8], field UNLOCK_SEEN (R221). -/
def PLL_STATUS_UNLOCK_SEEN : Fld := ⟨0xa, 3, 0x48, 0, 1, 0, 1, 8, 8, .w1c, 0, .all, .none, none⟩
/-- PLL_STATUS, bits [9:9], field REF_LOST_SEEN (R221). -/
def PLL_STATUS_REF_LOST_SEEN : Fld := ⟨0xa, 3, 0x48, 0, 1, 0, 1, 9, 9, .w1c, 0, .all, .none, none⟩
/-- PLL_FCOUNT, bits [19:0], field COUNT (R221). -/
def PLL_FCOUNT : Fld := ⟨0xa, 3, 0x4c, 0, 1, 0, 1, 19, 0, .ro, 0, .all, .none, none⟩
/-- PLL_FEXPECT, bits [19:0], field EXPECT (R221). -/
def PLL_FEXPECT_EXPECT : Fld := ⟨0xa, 3, 0x50, 0, 1, 0, 1, 19, 0, .ro, 0, .all, .none, none⟩
/-- PLL_PHASE, bits [15:0], field PS (R221). -/
def PLL_PHASE_PS : Fld := ⟨0xa, 3, 0x54, 0, 1, 0, 1, 15, 0, .ro, 0, .all, .none, none⟩
/-- PLL_UNLOCK_CNT, bits [31:0], field COUNT (R221). -/
def PLL_UNLOCK_CNT : Fld := ⟨0xa, 3, 0x58, 0, 1, 0, 1, 31, 0, .ro, 0, .all, .none, none⟩
/-- PLL_LOCK_TIME, bits [23:0], field US (R221). -/
def PLL_LOCK_TIME_US : Fld := ⟨0xa, 3, 0x5c, 0, 1, 0, 1, 23, 0, .ro, 0, .all, .none, none⟩
/-- PLLM_CAL, bits [0:0], field CAL (R223). -/
def PLLM_CAL_CAL : Fld := ⟨0xa, 1, 0x80, 0, 1, 0, 1, 0, 0, .sc, 0, .all, .none, none⟩
/-- PLLM_CAL, bits [1:1], field CAL_BUSY (R223). -/
def PLLM_CAL_CAL_BUSY : Fld := ⟨0xa, 1, 0x80, 0, 1, 0, 1, 1, 1, .ro, 0, .all, .none, none⟩
/-- PLLM_FRAC, bits [31:0], field FRAC (R223). -/
def PLLM_FRAC_FRAC : Fld := ⟨0xa, 1, 0x84, 0, 1, 0, 1, 31, 0, .ro, 0, .all, .none, none⟩
/-- PLLM_INT, bits [7:0], field INT (R223). -/
def PLLM_INT_INT : Fld := ⟨0xa, 1, 0x88, 0, 1, 0, 1, 7, 0, .ro, 125, .all, .none, none⟩
/-- PLLM_BAND, bits [4:0], field BAND (R223). -/
def PLLM_BAND_BAND : Fld := ⟨0xa, 1, 0x8c, 0, 1, 0, 1, 4, 0, .ro, 0, .all, .none, none⟩
/-- PLLM_BAND, bits [8:8], field NO_BAND (R223). -/
def PLLM_BAND_NO_BAND : Fld := ⟨0xa, 1, 0x8c, 0, 1, 0, 1, 8, 8, .ro, 0, .all, .none, none⟩
/-- PLLM_BAND, bits [9:9], field VT_LOW (R223). -/
def PLLM_BAND_VT_LOW : Fld := ⟨0xa, 1, 0x8c, 0, 1, 0, 1, 9, 9, .ro, 0, .all, .none, none⟩
/-- PLLM_BAND, bits [10:10], field VT_HIGH (R223). -/
def PLLM_BAND_VT_HIGH : Fld := ⟨0xa, 1, 0x8c, 0, 1, 0, 1, 10, 10, .ro, 0, .all, .none, none⟩
/-- PLLM_SHIM_NET, bits [31:0], field NET (R223). -/
def PLLM_SHIM_NET_NET : Fld := ⟨0xa, 1, 0x90, 0, 1, 0, 1, 31, 0, .ro, 0, .all, .none, none⟩
/-- PLLM_CEIL_CNT, bits [31:0], field COUNT (R223). -/
def PLLM_CEIL_CNT : Fld := ⟨0xa, 1, 0x94, 0, 1, 0, 1, 31, 0, .ro, 0, .all, .none, none⟩
/-- PLLM_FALLBACK_CNT, bits [31:0], field COUNT (R223). -/
def PLLM_FALLBACK_CNT : Fld := ⟨0xa, 1, 0x98, 0, 1, 0, 1, 31, 0, .ro, 0, .all, .none, none⟩
/-- PLLM_BAND_SEL, bits [4:0], field ENTRY (R223). -/
def PLLM_BAND_SEL_ENTRY : Fld := ⟨0xa, 1, 0xa0, 0, 1, 0, 1, 4, 0, .rw, 0, .all, .none, none⟩
/-- PLLM_BAND_CFG, bits [5:0], field CAP (R223). -/
def PLLM_BAND_CFG_CAP : Fld := ⟨0xa, 1, 0xa4, 0, 1, 0, 1, 5, 0, .rws, 2, .twice, .band, none⟩
/-- PLLM_BAND_CFG, bits [6:6], field EN (R223). -/
def PLLM_BAND_CFG_EN : Fld := ⟨0xa, 1, 0xa4, 0, 1, 0, 1, 6, 6, .rws, 1, .all, .band, none⟩
/-- PLLM_BAND_LO, bits [15:0], field MHZ (R223). -/
def PLLM_BAND_LO_MHZ : Fld := ⟨0xa, 1, 0xa8, 0, 1, 0, 1, 15, 0, .ro, 0, .all, .band, none⟩
/-- PLLM_BAND_LO, bits [31:31], field CAL_VALID (R223). -/
def PLLM_BAND_LO_CAL_VALID : Fld := ⟨0xa, 1, 0xa8, 0, 1, 0, 1, 31, 31, .ro, 0, .all, .band, none⟩
/-- PLLM_BAND_HI, bits [15:0], field MHZ (R223). -/
def PLLM_BAND_HI_MHZ : Fld := ⟨0xa, 1, 0xac, 0, 1, 0, 1, 15, 0, .ro, 0, .all, .band, none⟩
/-- PLLS_VCO, bits [0:0], field S1_ON (R224). -/
def PLLS_VCO_S1_ON : Fld := ⟨0xc, 1, 0x80, 0, 1, 0, 1, 0, 0, .ro, 0, .all, .none, none⟩
/-- PLLS_VCO, bits [1:1], field S2_ON (R224). -/
def PLLS_VCO_S2_ON : Fld := ⟨0xc, 1, 0x80, 0, 1, 0, 1, 1, 1, .ro, 0, .all, .none, none⟩
/-- PLLS_VCO, bits [2:2], field S1_PLOCK (R224). -/
def PLLS_VCO_S1_PLOCK : Fld := ⟨0xc, 1, 0x80, 0, 1, 0, 1, 2, 2, .ro, 0, .all, .none, none⟩
/-- PLLS_VCO, bits [3:3], field S2_PLOCK (R224). -/
def PLLS_VCO_S2_PLOCK : Fld := ⟨0xc, 1, 0x80, 0, 1, 0, 1, 3, 3, .ro, 0, .all, .none, none⟩
/-- PLLS_FCOUNT2, bits [19:0], field COUNT (R224). -/
def PLLS_FCOUNT2 : Fld := ⟨0xc, 1, 0x84, 0, 1, 0, 1, 19, 0, .ro, 0, .all, .none, none⟩
/-- PLLS_PHASE2, bits [15:0], field PS (R224). -/
def PLLS_PHASE2_PS : Fld := ⟨0xc, 1, 0x88, 0, 1, 0, 1, 15, 0, .ro, 0, .all, .none, none⟩
/-- SP_CFG, bits [1:0], field MODE (R251). -/
def SP_CFG_MODE : Fld := ⟨0x28, 8, 0x40, 0, 1, 0, 1, 1, 0, .rws, 0, .all, .none, none⟩
/-- SP_CFG, bits [2:2], field MASTER (R251). -/
def SP_CFG_MASTER : Fld := ⟨0x28, 8, 0x40, 0, 1, 0, 1, 2, 2, .rws, 0, .all, .none, none⟩
/-- SP_CFG, bits [3:3], field BCLK_INV (R251). -/
def SP_CFG_BCLK_INV : Fld := ⟨0x28, 8, 0x40, 0, 1, 0, 1, 3, 3, .rws, 0, .all, .none, none⟩
/-- SP_CFG, bits [4:4], field FS_INV (R251). -/
def SP_CFG_FS_INV : Fld := ⟨0x28, 8, 0x40, 0, 1, 0, 1, 4, 4, .rws, 0, .all, .none, none⟩
/-- SP_CFG, bits [5:5], field FS_DELAY (R251). -/
def SP_CFG_FS_DELAY : Fld := ⟨0x28, 8, 0x40, 0, 1, 0, 1, 5, 5, .rws, 1, .all, .none, none⟩
/-- SP_CFG, bits [11:6], field SLOTS (R251). -/
def SP_CFG_SLOTS : Fld := ⟨0x28, 8, 0x40, 0, 1, 0, 1, 11, 6, .rws, 8, .all, .none, none⟩
/-- SP_CFG, bits [13:12], field SLOT_W (R251). -/
def SP_CFG_SLOT_W : Fld := ⟨0x28, 8, 0x40, 0, 1, 0, 1, 13, 12, .rws, 2, .all, .none, (some (0, 2))⟩
/-- SP_CFG, bits [15:14], field WORD_W (R251). -/
def SP_CFG_WORD_W : Fld := ⟨0x28, 8, 0x40, 0, 1, 0, 1, 15, 14, .rws, 2, .all, .none, none⟩
/-- SP_CFG, bits [17:16], field RATE (R251). -/
def SP_CFG_RATE : Fld := ⟨0x28, 8, 0x40, 0, 1, 0, 1, 17, 16, .rws, 0, .all, .none, none⟩
/-- SP_CFG, bits [22:18], field ASRC_GROUP (R251). -/
def SP_CFG_ASRC_GROUP : Fld := ⟨0x28, 8, 0x40, 0, 1, 0, 1, 22, 18, .rws, 0, .all, .none, none⟩
/-- SP_CFG, bits [29:23], field ALIGN (R251). -/
def SP_CFG_ALIGN : Fld := ⟨0x28, 8, 0x40, 0, 1, 0, 1, 29, 23, .rws, 127, .all, .none, none⟩
/-- SP_CFG, bits [30:30], field SDO_IDLE (R251). -/
def SP_CFG_SDO_IDLE : Fld := ⟨0x28, 8, 0x40, 0, 1, 0, 1, 30, 30, .rws, 0, .all, .none, none⟩
/-- SP_RX_MASK, bits [31:0], field MASK (R251). -/
def SP_RX_MASK_MASK : Fld := ⟨0x28, 8, 0x44, 0, 1, 0, 1, 31, 0, .rws, 0, .all, .none, none⟩
/-- SP_TX_MASK, bits [31:0], field MASK (R251). -/
def SP_TX_MASK_MASK : Fld := ⟨0x28, 8, 0x48, 0, 1, 0, 1, 31, 0, .rws, 0, .all, .none, none⟩
/-- SP_CTRL, bits [0:0], field CNT_CLR (R251). -/
def SP_CTRL_CNT_CLR : Fld := ⟨0x28, 8, 0x4c, 0, 1, 0, 1, 0, 0, .sc, 0, .all, .none, none⟩
/-- SP_STATUS, bits [2:0], field STATE (R251). -/
def SP_STATUS_STATE : Fld := ⟨0x28, 8, 0x50, 0, 1, 0, 1, 2, 0, .ro, 0, .all, .none, none⟩
/-- SP_STATUS, bits [3:3], field CLK_PRESENT (R251). -/
def SP_STATUS_CLK_PRESENT : Fld := ⟨0x28, 8, 0x50, 0, 1, 0, 1, 3, 3, .ro, 0, .all, .none, none⟩
/-- SP_STATUS, bits [4:4], field ASRC_SHORT (R251). -/
def SP_STATUS_ASRC_SHORT : Fld := ⟨0x28, 8, 0x50, 0, 1, 0, 1, 4, 4, .ro, 0, .all, .none, none⟩
/-- SP_STATUS, bits [13:8], field RX_CH (R251). -/
def SP_STATUS_RX_CH : Fld := ⟨0x28, 8, 0x50, 0, 1, 0, 1, 13, 8, .ro, 0, .all, .none, none⟩
/-- SP_STATUS, bits [21:16], field TX_CH (R251). -/
def SP_STATUS_TX_CH : Fld := ⟨0x28, 8, 0x50, 0, 1, 0, 1, 21, 16, .ro, 0, .all, .none, none⟩
/-- SP_STATUS, bits [24:24], field CLK_LOSS (R251). -/
def SP_STATUS_CLK_LOSS : Fld := ⟨0x28, 8, 0x50, 0, 1, 0, 1, 24, 24, .w1c, 0, .all, .none, none⟩
/-- SP_STATUS, bits [25:25], field UNDERRUN (R251). -/
def SP_STATUS_UNDERRUN : Fld := ⟨0x28, 8, 0x50, 0, 1, 0, 1, 25, 25, .w1c, 0, .all, .none, none⟩
/-- SP_STATUS, bits [26:26], field OVERRUN (R251). -/
def SP_STATUS_OVERRUN : Fld := ⟨0x28, 8, 0x50, 0, 1, 0, 1, 26, 26, .w1c, 0, .all, .none, none⟩
/-- SP_RATE_MEAS, bits [24:0], field RATE (R251). -/
def SP_RATE_MEAS_RATE : Fld := ⟨0x28, 8, 0x54, 0, 1, 0, 1, 24, 0, .ro, 0, .all, .none, none⟩
/-- UNDERRUN_CNT, bits [31:0], field CNT (R251). -/
def SP_UNDERRUN_CNT : Fld := ⟨0x28, 8, 0x80, 0, 1, 0, 1, 31, 0, .ro, 0, .all, .none, none⟩
/-- OVERRUN_CNT, bits [31:0], field CNT (R251). -/
def SP_OVERRUN_CNT : Fld := ⟨0x28, 8, 0x84, 0, 1, 0, 1, 31, 0, .ro, 0, .all, .none, none⟩
/-- FRAME_ERR_CNT, bits [31:0], field COUNT (R251). -/
def FRAME_ERR_CNT : Fld := ⟨0x28, 8, 0x88, 0, 1, 0, 1, 31, 0, .ro, 0, .all, .none, none⟩
/-- CLK_LOSS_CNT, bits [31:0], field COUNT (R251). -/
def CLK_LOSS_CNT : Fld := ⟨0x28, 8, 0x8c, 0, 1, 0, 1, 31, 0, .ro, 0, .all, .none, none⟩
/-- MISSING_TICK_CNT, bits [31:0], field COUNT (R251). -/
def MISSING_TICK_CNT : Fld := ⟨0x28, 8, 0x90, 0, 1, 0, 1, 31, 0, .ro, 0, .all, .none, none⟩
/-- MISSING_SMP_CNT, bits [31:0], field COUNT (R251). -/
def MISSING_SMP_CNT : Fld := ⟨0x28, 8, 0x94, 0, 1, 0, 1, 31, 0, .ro, 0, .all, .none, none⟩
/-- SP_AREA_BASE, bits [31:12], field BASE (R251). -/
def SP_AREA_BASE_BASE : Fld := ⟨0x28, 1, 0xa0, 0, 1, 0, 1, 31, 12, .rws, 0, .all, .none, none⟩
/-- ASRC_CTRL, bits [0:0], field CNT_CLR (R252). -/
def ASRC_CTRL_CNT_CLR : Fld := ⟨0x30, 1, 0x40, 0, 1, 0, 1, 0, 0, .sc, 0, .all, .none, none⟩
/-- ASRC_USAGE, bits [8:0], field CHANNELS (R252). -/
def ASRC_USAGE_CHANNELS : Fld := ⟨0x30, 1, 0x44, 0, 1, 0, 1, 8, 0, .ro, 0, .all, .none, none⟩
/-- ASRC_LOCK, bits [31:0], field LOCK (R252). -/
def ASRC_LOCK_LOCK : Fld := ⟨0x30, 1, 0x48, 0, 1, 0, 1, 31, 0, .ro, 0, .all, .none, none⟩
/-- ASRC_LOCK_CHG, bits [31:0], field CHG (R252). -/
def ASRC_LOCK_CHG_CHG : Fld := ⟨0x30, 1, 0x4c, 0, 1, 0, 1, 31, 0, .w1c, 0, .all, .none, none⟩
/-- ASRC_SEL, bits [4:0], field GROUP (R252). -/
def ASRC_SEL_GROUP : Fld := ⟨0x30, 1, 0x50, 0, 1, 0, 1, 4, 0, .rw, 0, .all, .none, none⟩
/-- ASRC_GRP_CFG, bits [1:0], field SRC (R252). -/
def ASRC_GRP_CFG_SRC : Fld := ⟨0x30, 1, 0x54, 0, 1, 0, 1, 1, 0, .rws, 0, .all, .asrc, none⟩
/-- ASRC_GRP_CFG, bits [4:2], field PORT (R252). -/
def ASRC_GRP_CFG_PORT : Fld := ⟨0x30, 1, 0x54, 0, 1, 0, 1, 4, 2, .rws, 0, .all, .asrc, none⟩
/-- ASRC_GRP_CFG, bits [22:5], field NOMINAL_HZ (R252). -/
def ASRC_GRP_CFG_NOMINAL_HZ : Fld := ⟨0x30, 1, 0x54, 0, 1, 0, 1, 22, 5, .rws, 48000, .all, .asrc, (some (8000, 192000))⟩
/-- ASRC_GRP_RATIO, bits [31:0], field RATIO (R252). -/
def ASRC_GRP_RATIO_RATIO : Fld := ⟨0x30, 1, 0x58, 0, 1, 0, 1, 31, 0, .ro, 0, .all, .asrc, none⟩
/-- ASRC_GRP_STATUS, bits [0:0], field LOCK (R252). -/
def ASRC_GRP_STATUS_LOCK : Fld := ⟨0x30, 1, 0x5c, 0, 1, 0, 1, 0, 0, .ro, 0, .all, .asrc, none⟩
/-- ASRC_GRP_STATUS, bits [1:1], field RANGE_ERR (R252). -/
def ASRC_GRP_STATUS_RANGE_ERR : Fld := ⟨0x30, 1, 0x5c, 0, 1, 0, 1, 1, 1, .ro, 0, .all, .asrc, none⟩
/-- ASRC_GRP_STATUS, bits [24:16], field CHANNELS (R252). -/
def ASRC_GRP_STATUS_CHANNELS : Fld := ⟨0x30, 1, 0x5c, 0, 1, 0, 1, 24, 16, .ro, 0, .all, .asrc, none⟩
/-- ASRC_GRP_UNLOCK_CNT, bits [31:0], field COUNT (R252). -/
def ASRC_GRP_UNLOCK_CNT : Fld := ⟨0x30, 1, 0x60, 0, 1, 0, 1, 31, 0, .ro, 0, .all, .asrc, none⟩
/-- SI_CFGp, bits [0:0], field SI_MODE (R253). -/
def SI_CFG_SI_MODE : Fld := ⟨0x31, 1, 0x40, 16, 8, 0, 1, 0, 0, .rws, 0, .all, .none, none⟩
/-- SI_CFGp, bits [1:1], field NA_EN (R253). -/
def SI_CFG_NA_EN : Fld := ⟨0x31, 1, 0x40, 16, 8, 0, 1, 1, 1, .rws, 0, .all, .none, none⟩
/-- SI_CFGp, bits [2:2], field VAL_POLICY (R253). -/
def SI_CFG_VAL_POLICY : Fld := ⟨0x31, 1, 0x40, 16, 8, 0, 1, 2, 2, .rws, 0, .all, .none, none⟩
/-- SI_STATUSp, bits [15:0], field NONAUDIO (R253). -/
def SI_STATUS_NONAUDIO : Fld := ⟨0x31, 1, 0x44, 16, 8, 0, 1, 15, 0, .ro, 0, .all, .none, none⟩
/-- SI_STATUSp, bits [16:16], field VALIDITY (R253). -/
def SI_STATUS_VALIDITY : Fld := ⟨0x31, 1, 0x44, 16, 8, 0, 1, 16, 16, .w1c, 0, .all, .none, none⟩
/-- SI_STATUSp, bits [17:17], field MODE_IGNORED (R253). -/
def SI_STATUS_MODE_IGNORED : Fld := ⟨0x31, 1, 0x44, 16, 8, 0, 1, 17, 17, .ro, 0, .all, .none, none⟩
/-- SI_PARITY_CNTp, bits [31:0], field COUNT (R253). -/
def SI_PARITY_CNT : Fld := ⟨0x31, 1, 0x48, 16, 8, 0, 1, 31, 0, .ro, 0, .all, .none, none⟩
/-- SI_BLOCK_ERR_CNTp, bits [31:0], field COUNT (R253). -/
def SI_BLOCK_ERR_CNT : Fld := ⟨0x31, 1, 0x4c, 16, 8, 0, 1, 31, 0, .ro, 0, .all, .none, none⟩
/-- SI_CTRL, bits [0:0], field CNT_CLR (R253). -/
def SI_CTRL_CNT_CLR : Fld := ⟨0x31, 1, 0xc0, 0, 1, 0, 1, 0, 0, .sc, 0, .all, .none, none⟩
/-- SI_SEL, bits [2:0], field PORT (R253). -/
def SI_SEL_PORT : Fld := ⟨0x31, 1, 0xc4, 0, 1, 0, 1, 2, 0, .rw, 0, .all, .none, none⟩
/-- SI_SEL, bits [11:8], field PAIR (R253). -/
def SI_SEL_PAIR : Fld := ⟨0x31, 1, 0xc4, 0, 1, 0, 1, 11, 8, .rw, 0, .all, .none, none⟩
/-- SI_CS_CHG, bits [7:0], field CHG (R253). -/
def SI_CS_CHG_CHG : Fld := ⟨0x31, 1, 0xc8, 0, 1, 0, 1, 7, 0, .w1c, 0, .all, .none, none⟩
/-- SI_CS_RXAk, bits [31:0], field CS (R253). -/
def SI_CS_RXA_CS : Fld := ⟨0x31, 1, 0xd0, 4, 6, 0, 1, 31, 0, .ro, 0, .all, .siPair, none⟩
/-- SI_CS_RXBk, bits [31:0], field CS (R253). -/
def SI_CS_RXB_CS : Fld := ⟨0x31, 1, 0xe8, 4, 6, 0, 1, 31, 0, .ro, 0, .all, .siPair, none⟩
/-- SI_CS_TXk, bits [31:0], field CS (R253). -/
def SI_CS_TX_CS : Fld := ⟨0x31, 1, 0x100, 4, 6, 0, 1, 31, 0, .rws, 0, .all, .siPair, none⟩
/-- XPM_CTRL, bits [0:0], field CNT_CLR (R275). -/
def XPM_CTRL_CNT_CLR : Fld := ⟨0x38, 1, 0x40, 0, 1, 0, 1, 0, 0, .sc, 0, .all, .none, none⟩
/-- XPM_CTRL, bits [1:1], field COPY (R275). -/
def XPM_CTRL_COPY : Fld := ⟨0x38, 1, 0x40, 0, 1, 0, 1, 1, 1, .sc, 0, .all, .none, none⟩
/-- XPM_CTRL, bits [2:2], field SVC_OWN (R275). -/
def XPM_CTRL_SVC_OWN : Fld := ⟨0x38, 1, 0x40, 0, 1, 0, 1, 2, 2, .rw, 0, .all, .none, none⟩
/-- XPM_LEN, bits [14:0], field LEN (R275). -/
def XPM_LEN_LEN : Fld := ⟨0x38, 1, 0x44, 0, 1, 0, 1, 14, 0, .rws, 0, .all, .none, none⟩
/-- XPM_STATUS, bits [0:0], field ACTIVE_BANK (R275). -/
def XPM_STATUS_ACTIVE_BANK : Fld := ⟨0x38, 1, 0x48, 0, 1, 0, 1, 0, 0, .ro, 0, .all, .none, none⟩
/-- XPM_STATUS, bits [1:1], field COPY_BUSY (R275). -/
def XPM_STATUS_COPY_BUSY : Fld := ⟨0x38, 1, 0x48, 0, 1, 0, 1, 1, 1, .ro, 0, .all, .none, none⟩
/-- XPM_STATUS, bits [2:2], field GAIN_CLAMP (R275). -/
def XPM_STATUS_GAIN_CLAMP : Fld := ⟨0x38, 1, 0x48, 0, 1, 0, 1, 2, 2, .w1c, 0, .all, .none, none⟩
/-- XPM_STATUS, bits [3:3], field RSVD_SET (R275). -/
def XPM_STATUS_RSVD_SET : Fld := ⟨0x38, 1, 0x48, 0, 1, 0, 1, 3, 3, .w1c, 0, .all, .none, none⟩
/-- XPM_STATUS, bits [4:4], field BANK_ECC (R275). -/
def XPM_STATUS_BANK_ECC : Fld := ⟨0x38, 1, 0x48, 0, 1, 0, 1, 4, 4, .w1c, 0, .all, .none, none⟩
/-- XPM_USAGE, bits [14:0], field ENABLED (R275). -/
def XPM_USAGE_ENABLED : Fld := ⟨0x38, 1, 0x4c, 0, 1, 0, 1, 14, 0, .ro, 0, .all, .none, none⟩
/-- XPM_USAGE, bits [30:16], field ACTIVE_LEN (R275). -/
def XPM_USAGE_ACTIVE_LEN : Fld := ⟨0x38, 1, 0x4c, 0, 1, 0, 1, 30, 16, .ro, 0, .all, .none, none⟩
/-- XPM_LATE, bits [9:0], field OUT (R275). -/
def XPM_LATE_OUT : Fld := ⟨0x38, 1, 0x50, 0, 1, 0, 1, 9, 0, .ro, 0, .all, .none, none⟩
/-- XPM_LATE, bits [25:16], field FEED (R275). -/
def XPM_LATE_FEED : Fld := ⟨0x38, 1, 0x50, 0, 1, 0, 1, 25, 16, .ro, 0, .all, .none, none⟩
/-- XPM_CLIP_BASE, bits [31:12], field BASE (R275). -/
def XPM_CLIP_BASE_BASE : Fld := ⟨0x38, 1, 0x54, 0, 1, 0, 1, 31, 12, .rws, 0, .all, .none, none⟩
/-- XPM_CLIP_LAST, bits [10:0], field DEST (R275). -/
def XPM_CLIP_LAST_DEST : Fld := ⟨0x38, 1, 0x58, 0, 1, 0, 1, 10, 0, .ro, 0, .all, .none, none⟩
/-- XPM_CLIP_LAST, bits [31:16], field TICK (R275). -/
def XPM_CLIP_LAST_TICK : Fld := ⟨0x38, 1, 0x58, 0, 1, 0, 1, 31, 16, .ro, 0, .all, .none, none⟩
/-- XPM_CLIP_TICKS_CNT, bits [31:0], field COUNT (R275). -/
def XPM_CLIP_TICKS_CNT : Fld := ⟨0x38, 1, 0x5c, 0, 1, 0, 1, 31, 0, .ro, 0, .all, .none, none⟩
/-- XPM_DUCK_ACT, bits [31:1], field ACT (R275). -/
def XPM_DUCK_ACT_ACT : Fld := ⟨0x38, 1, 0x60, 0, 1, 0, 1, 31, 1, .rws, 0, .all, .none, none⟩
/-- XPM_ECC_CNT, bits [31:0], field COUNT (R275). -/
def XPM_ECC_CNT : Fld := ⟨0x38, 1, 0x64, 0, 1, 0, 1, 31, 0, .ro, 0, .all, .none, none⟩
/-- XPM_DUCKg, bits [15:0], field DEPTH (R275). -/
def XPM_DUCK_DEPTH : Fld := ⟨0x38, 1, 0x80, 4, 32, 0, 1, 15, 0, .rws, 0, .all, .none, some (0x8001, 0x7FFF)⟩
/-- XPM_DUCKg, bits [23:16], field RAMP (R275). -/
def XPM_DUCK_RAMP : Fld := ⟨0x38, 1, 0x80, 4, 32, 0, 1, 23, 16, .rws, 12, .all, .none, none⟩
/-- DPOOL_CTRL, bits [0:0], field REPACK (R276). -/
def DPOOL_CTRL_REPACK : Fld := ⟨0x39, 1, 0x40, 0, 1, 0, 1, 0, 0, .sc, 0, .all, .none, none⟩
/-- DPOOL_CTRL, bits [11:8], field XFADE (R276). -/
def DPOOL_CTRL_XFADE : Fld := ⟨0x39, 1, 0x40, 0, 1, 0, 1, 11, 8, .rws, 2, .all, .none, (some (1, 15))⟩
/-- DPOOL_BASE, bits [31:12], field BASE (R276). -/
def DPOOL_BASE_BASE : Fld := ⟨0x39, 1, 0x44, 0, 1, 0, 1, 31, 12, .rws, 0, .all, .none, none⟩
/-- DPOOL_SIZE, bits [11:0], field PAGES (R276). -/
def DPOOL_SIZE_PAGES : Fld := ⟨0x39, 1, 0x48, 0, 1, 0, 1, 11, 0, .rws, 0, .all, .none, (some (0, 2048))⟩
/-- DPOOL_STATUS, bits [15:0], field USED (R276). -/
def DPOOL_STATUS_USED : Fld := ⟨0x39, 1, 0x4c, 0, 1, 0, 1, 15, 0, .ro, 0, .all, .none, none⟩
/-- DPOOL_STATUS, bits [31:16], field LARGEST_FREE (R276). -/
def DPOOL_STATUS_LARGEST_FREE : Fld := ⟨0x39, 1, 0x4c, 0, 1, 0, 1, 31, 16, .ro, 0, .all, .none, none⟩
/-- DPOOL_SEL, bits [10:0], field DEST (R276). -/
def DPOOL_SEL_DEST : Fld := ⟨0x39, 1, 0x50, 0, 1, 0, 1, 10, 0, .rw, 0, .all, .none, none⟩
/-- DPOOL_CFG, bits [13:0], field DELAY (R276). -/
def DPOOL_CFG_DELAY : Fld := ⟨0x39, 1, 0x54, 0, 1, 0, 1, 13, 0, .rws, 0, .all, .dpool, (some (0, 12000))⟩
/-- DPOOL_CFG, bits [23:16], field RESERVE (R276). -/
def DPOOL_CFG_RESERVE : Fld := ⟨0x39, 1, 0x54, 0, 1, 0, 1, 23, 16, .rws, 0, .all, .dpool, (some (0, 188))⟩
/-- DPOOL_LINE, bits [31:0], field ADDR (R276). -/
def DPOOL_LINE_ADDR : Fld := ⟨0x39, 1, 0x58, 0, 1, 0, 1, 31, 0, .ro, 0, .all, .dpool, none⟩
/-- DPOOL_LINE_LEN, bits [15:0], field LINE (R276). -/
def DPOOL_LINE_LEN_LINE : Fld := ⟨0x39, 1, 0x5c, 0, 1, 0, 1, 15, 0, .ro, 0, .all, .dpool, none⟩
/-- DPOOL_EXHAUST, bits [10:0], field DEST (R276). -/
def DPOOL_EXHAUST_DEST : Fld := ⟨0x39, 1, 0x60, 0, 1, 0, 1, 10, 0, .ro, 0, .all, .none, none⟩
/-- DPOOL_EXHAUST, bits [31:31], field VALID (R276). -/
def DPOOL_EXHAUST_VALID : Fld := ⟨0x39, 1, 0x60, 0, 1, 0, 1, 31, 31, .w1c, 0, .all, .none, none⟩
/-- DPOOL_LINES, bits [11:0], field COUNT (R276). -/
def DPOOL_LINES : Fld := ⟨0x39, 1, 0x64, 0, 1, 0, 1, 11, 0, .ro, 0, .all, .none, none⟩
/-- JE_CTRL, bits [0:0], field CNT_CLR (R298). -/
def JE_CTRL_CNT_CLR : Fld := ⟨0x40, 8, 0x40, 0, 1, 0, 1, 0, 0, .sc, 0, .all, .none, none⟩
/-- JE_STATUS, bits [0:0], field HAS_LIST (R298). -/
def JE_STATUS_HAS_LIST : Fld := ⟨0x40, 8, 0x44, 0, 1, 0, 1, 0, 0, .ro, 0, .all, .none, none⟩
/-- JE_STATUS, bits [1:1], field FAULT (R298). -/
def JE_STATUS_FAULT : Fld := ⟨0x40, 8, 0x44, 0, 1, 0, 1, 1, 1, .ro, 0, .all, .none, none⟩
/-- JE_STATUS, bits [4:2], field FAULT_CAUSE (R298). -/
def JE_STATUS_FAULT_CAUSE : Fld := ⟨0x40, 8, 0x44, 0, 1, 0, 1, 4, 2, .ro, 0, .all, .none, none⟩
/-- JE_STATUS, bits [8:8], field FAULT_SEEN (R298). -/
def JE_STATUS_FAULT_SEEN : Fld := ⟨0x40, 8, 0x44, 0, 1, 0, 1, 8, 8, .w1c, 0, .all, .none, none⟩
/-- JE_STATUS, bits [9:9], field ECC_SEEN (R298). -/
def JE_STATUS_ECC_SEEN : Fld := ⟨0x40, 8, 0x44, 0, 1, 0, 1, 9, 9, .w1c, 0, .all, .none, none⟩
/-- JE_FAULT_INFO, bits [12:0], field INSTANCE (R298). -/
def JE_FAULT_INFO_INSTANCE : Fld := ⟨0x40, 8, 0x48, 0, 1, 0, 1, 12, 0, .ro, 0, .all, .none, none⟩
/-- JE_FAULT_INFO, bits [13:13], field NONE (R298). -/
def JE_FAULT_INFO_NONE : Fld := ⟨0x40, 8, 0x48, 0, 1, 0, 1, 13, 13, .ro, 0, .all, .none, none⟩
/-- JE_FAULT_INFO, bits [31:16], field TICK (R298). -/
def JE_FAULT_INFO_TICK : Fld := ⟨0x40, 8, 0x48, 0, 1, 0, 1, 31, 16, .ro, 0, .all, .none, none⟩
/-- JE_INST_COUNT, bits [10:0], field COUNT (R298). -/
def JE_INST_COUNT : Fld := ⟨0x40, 8, 0x4c, 0, 1, 0, 1, 10, 0, .ro, 0, .all, .none, none⟩
/-- JE_LOCAL_USED, bits [19:0], field BYTES (R298). -/
def JE_LOCAL_USED_BYTES : Fld := ⟨0x40, 8, 0x50, 0, 1, 0, 1, 19, 0, .ro, 0, .all, .none, none⟩
/-- JE_FAULT_CNT, bits [31:0], field COUNT (R298). -/
def JE_FAULT_CNT : Fld := ⟨0x40, 8, 0x54, 0, 1, 0, 1, 31, 0, .ro, 0, .all, .none, none⟩
/-- JE_ECC_CORR_CNT, bits [31:0], field COUNT (R298). -/
def JE_ECC_CORR_CNT : Fld := ⟨0x40, 8, 0x58, 0, 1, 0, 1, 31, 0, .ro, 0, .all, .none, none⟩
/-- JE_INIT_CNT, bits [31:0], field COUNT (R298). -/
def JE_INIT_CNT : Fld := ⟨0x40, 8, 0x5c, 0, 1, 0, 1, 31, 0, .ro, 0, .all, .none, none⟩
/-- JE_CLIP_UNDERRUN_CNT, bits [31:0], field COUNT (R298). -/
def JE_CLIP_UNDERRUN_CNT : Fld := ⟨0x40, 8, 0x60, 0, 1, 0, 1, 31, 0, .ro, 0, .all, .none, none⟩
/-- JE_SVC_BASE, bits [31:12], field BASE (R298). -/
def JE_SVC_BASE_BASE : Fld := ⟨0x40, 1, 0x64, 0, 1, 0, 1, 31, 12, .rws, 0, .all, .none, none⟩
/-- JE_PUPD_SRCk, bits [31:5], field ADDR (R298). -/
def JE_PUPD_SRC_ADDR : Fld := ⟨0x40, 8, 0x80, 0, 1, 8, 8, 31, 5, .rws, 0, .all, .none, none⟩
/-- JE_PUPD_CTRLk, bits [12:0], field INSTANCE (R298). -/
def JE_PUPD_CTRL_INSTANCE : Fld := ⟨0x40, 8, 0x84, 0, 1, 8, 8, 12, 0, .rws, 0, .all, .none, none⟩
/-- JE_PUPD_CTRLk, bits [15:15], field EN (R298). -/
def JE_PUPD_CTRL_EN : Fld := ⟨0x40, 8, 0x84, 0, 1, 8, 8, 15, 15, .rws, 0, .all, .none, none⟩
/-- PCH_CTRL, bits [0:0], field ON (R332). -/
def PCH_CTRL_ON : Fld := ⟨0x50, 8, 0x40, 0, 1, 0, 1, 0, 0, .rws, 0, .all, .none, none⟩
/-- PCH_CTRL, bits [1:1], field MUTE (R332). -/
def PCH_CTRL_MUTE : Fld := ⟨0x50, 8, 0x40, 0, 1, 0, 1, 1, 1, .rws, 0, .all, .none, none⟩
/-- PCH_CTRL, bits [2:2], field CLEAR (R332). -/
def PCH_CTRL_CLEAR : Fld := ⟨0x50, 8, 0x40, 0, 1, 0, 1, 2, 2, .sc, 0, .all, .none, none⟩
/-- PCH_CTRL, bits [3:3], field CNT_CLR (R332). -/
def PCH_CTRL_CNT_CLR : Fld := ⟨0x50, 8, 0x40, 0, 1, 0, 1, 3, 3, .sc, 0, .all, .none, none⟩
/-- PCH_CFG, bits [7:0], field FEED (R332). -/
def PCH_CFG_FEED : Fld := ⟨0x50, 8, 0x44, 0, 1, 0, 1, 7, 0, .rws, 0, .all, .none, none⟩
/-- PCH_CFG, bits [8:8], field FEED_EN (R332). -/
def PCH_CFG_FEED_EN : Fld := ⟨0x50, 8, 0x44, 0, 1, 0, 1, 8, 8, .rws, 0, .all, .none, none⟩
/-- PCH_CFG, bits [10:9], field MOD (R332). -/
def PCH_CFG_MOD : Fld := ⟨0x50, 8, 0x44, 0, 1, 0, 1, 10, 9, .rws, 0, .all, .none, none⟩
/-- PCH_CFG, bits [11:11], field AUTO_FB (R332). -/
def PCH_CFG_AUTO_FB : Fld := ⟨0x50, 8, 0x44, 0, 1, 0, 1, 11, 11, .rws, 1, .all, .none, none⟩
/-- PCH_CFG, bits [12:12], field START_TEST (R332). -/
def PCH_CFG_START_TEST : Fld := ⟨0x50, 8, 0x44, 0, 1, 0, 1, 12, 12, .rws, 1, .all, .none, none⟩
/-- PCH_CFG, bits [13:13], field NTC_EN (R332). -/
def PCH_CFG_NTC_EN : Fld := ⟨0x50, 8, 0x44, 0, 1, 0, 1, 13, 13, .rws, 0, .all, .none, none⟩
/-- PCH_CFG, bits [15:14], field NTC_SEL (R332). -/
def PCH_CFG_NTC_SEL : Fld := ⟨0x50, 8, 0x44, 0, 1, 0, 1, 15, 14, .rws, 0, .all, .none, none⟩
/-- PCH_CFG, bits [22:16], field CM_RAMP (R332). -/
def PCH_CFG_CM_RAMP : Fld := ⟨0x50, 8, 0x44, 0, 1, 0, 1, 22, 16, .rws, 16, .all, .none, (some (4, 64))⟩
/-- PCH_LEVEL, bits [9:0], field VFS (R332). -/
def PCH_LEVEL_VFS : Fld := ⟨0x50, 8, 0x48, 0, 1, 0, 1, 9, 0, .rws, 200, .all, .none, (some (50, 490))⟩
/-- PCH_LEVEL, bits [20:16], field LOAD_NOM (R332). -/
def PCH_LEVEL_LOAD_NOM : Fld := ⟨0x50, 8, 0x48, 0, 1, 0, 1, 20, 16, .rws, 4, .all, .none, (some (2, 16))⟩
/-- PCH_PROT, bits [4:0], field CS_LIMIT (R332). -/
def PCH_PROT_CS_LIMIT : Fld := ⟨0x50, 8, 0x4c, 0, 1, 0, 1, 4, 0, .rws, 12, .all, .none, (some (4, 24))⟩
/-- PCH_PROT, bits [12:8], field SHUNT (R332). -/
def PCH_PROT_SHUNT : Fld := ⟨0x50, 8, 0x4c, 0, 1, 0, 1, 12, 8, .rws, 5, .all, .none, (some (1, 20))⟩
/-- PCH_PROT, bits [22:16], field DEADTIME (R332). -/
def PCH_PROT_DEADTIME : Fld := ⟨0x50, 8, 0x4c, 0, 1, 0, 1, 22, 16, .rws, 20, .all, .none, (some (10, 80))⟩
/-- PCH_STATUS, bits [2:0], field STATE (R332). -/
def PCH_STATUS_STATE : Fld := ⟨0x50, 8, 0x50, 0, 1, 0, 1, 2, 0, .ro, 0, .all, .none, none⟩
/-- PCH_STATUS, bits [3:3], field CLK_MUTE (R332). -/
def PCH_STATUS_CLK_MUTE : Fld := ⟨0x50, 8, 0x50, 0, 1, 0, 1, 3, 3, .ro, 0, .all, .none, none⟩
/-- PCH_STATUS, bits [4:4], field OPEN_LOOP (R332). -/
def PCH_STATUS_OPEN_LOOP : Fld := ⟨0x50, 8, 0x50, 0, 1, 0, 1, 4, 4, .ro, 0, .all, .none, none⟩
/-- PCH_STATUS, bits [5:5], field RAIL_LIM (R332). -/
def PCH_STATUS_RAIL_LIM : Fld := ⟨0x50, 8, 0x50, 0, 1, 0, 1, 5, 5, .ro, 0, .all, .none, none⟩
/-- PCH_STATUS, bits [6:6], field BROWN_LIM (R332). -/
def PCH_STATUS_BROWN_LIM : Fld := ⟨0x50, 8, 0x50, 0, 1, 0, 1, 6, 6, .ro, 0, .all, .none, none⟩
/-- PCH_STATUS, bits [7:7], field THERM_LIM (R332). -/
def PCH_STATUS_THERM_LIM : Fld := ⟨0x50, 8, 0x50, 0, 1, 0, 1, 7, 7, .ro, 0, .all, .none, none⟩
/-- PCH_STATUS, bits [8:8], field WAIT_RAIL (R332). -/
def PCH_STATUS_WAIT_RAIL : Fld := ⟨0x50, 8, 0x50, 0, 1, 0, 1, 8, 8, .ro, 0, .all, .none, none⟩
/-- PCH_STATUS, bits [9:9], field CAL_VALID (R332). -/
def PCH_STATUS_CAL_VALID : Fld := ⟨0x50, 8, 0x50, 0, 1, 0, 1, 9, 9, .ro, 0, .all, .none, none⟩
/-- PCH_STATUS, bits [11:10], field RETRY_NUM (R332). -/
def PCH_STATUS_RETRY_NUM : Fld := ⟨0x50, 8, 0x50, 0, 1, 0, 1, 11, 10, .ro, 0, .all, .none, none⟩
/-- PCH_STATUS, bits [15:12], field CAUSE (R332). -/
def PCH_STATUS_CAUSE : Fld := ⟨0x50, 8, 0x50, 0, 1, 0, 1, 15, 12, .ro, 0, .all, .none, none⟩
/-- PCH_STATUS, bits [16:16], field FAULT_SEEN (R332). -/
def PCH_STATUS_FAULT_SEEN : Fld := ⟨0x50, 8, 0x50, 0, 1, 0, 1, 16, 16, .w1c, 0, .all, .none, none⟩
/-- PCH_STATUS, bits [17:17], field FALLBACK_SEEN (R332). -/
def PCH_STATUS_FALLBACK_SEEN : Fld := ⟨0x50, 8, 0x50, 0, 1, 0, 1, 17, 17, .w1c, 0, .all, .none, none⟩
/-- PCH_STATUS, bits [18:18], field SYNC_SLIP (R332). -/
def PCH_STATUS_SYNC_SLIP : Fld := ⟨0x50, 8, 0x50, 0, 1, 0, 1, 18, 18, .w1c, 0, .all, .none, none⟩
/-- PCH_STATUS, bits [19:19], field NTC_FAULT (R332). -/
def PCH_STATUS_NTC_FAULT : Fld := ⟨0x50, 8, 0x50, 0, 1, 0, 1, 19, 19, .w1c, 0, .all, .none, none⟩
/-- PCH_FAULT_INFO, bits [3:0], field CAUSE (R332). -/
def PCH_FAULT_INFO_CAUSE : Fld := ⟨0x50, 8, 0x54, 0, 1, 0, 1, 3, 0, .ro, 0, .all, .none, none⟩
/-- PCH_FAULT_INFO, bits [31:16], field TICK (R332). -/
def PCH_FAULT_INFO_TICK : Fld := ⟨0x50, 8, 0x54, 0, 1, 0, 1, 31, 16, .ro, 0, .all, .none, none⟩
/-- PCH_OL_TRIM, bits [15:0], field TRIM (R332). -/
def PCH_OL_TRIM_TRIM : Fld := ⟨0x50, 8, 0x58, 0, 1, 0, 1, 15, 0, .ro, 0, .all, .none, none⟩
/-- PCH_PEAK, bits [15:0], field PEAK (R332). -/
def PCH_PEAK_PEAK : Fld := ⟨0x50, 8, 0x5c, 0, 1, 0, 1, 15, 0, .ro, 0, .all, .none, none⟩
/-- PCH_STATE_CHG, bits [7:0], field CHG (R332). -/
def PCH_STATE_CHG_CHG : Fld := ⟨0x50, 1, 0x60, 0, 1, 0, 1, 7, 0, .w1c, 0, .all, .none, none⟩
/-- OCP_CYCLE_CNT, bits [31:0], field COUNT (R332). -/
def OCP_CYCLE_CNT : Fld := ⟨0x50, 8, 0x80, 0, 1, 0, 1, 31, 0, .ro, 0, .all, .none, none⟩
/-- SHUTDOWN_CNT, bits [31:0], field COUNT (R332). -/
def SHUTDOWN_CNT : Fld := ⟨0x50, 8, 0x84, 0, 1, 0, 1, 31, 0, .ro, 0, .all, .none, none⟩
/-- RETRY_CNT, bits [31:0], field COUNT (R332). -/
def RETRY_CNT : Fld := ⟨0x50, 8, 0x88, 0, 1, 0, 1, 31, 0, .ro, 0, .all, .none, none⟩
/-- DC_FAULT_CNT, bits [31:0], field COUNT (R332). -/
def DC_FAULT_CNT : Fld := ⟨0x50, 8, 0x8c, 0, 1, 0, 1, 31, 0, .ro, 0, .all, .none, none⟩
/-- RAIL_LIM_CNT, bits [31:0], field COUNT (R332). -/
def RAIL_LIM_CNT : Fld := ⟨0x50, 8, 0x90, 0, 1, 0, 1, 31, 0, .ro, 0, .all, .none, none⟩
/-- SYNC_SLIP_CNT, bits [31:0], field COUNT (R332). -/
def SYNC_SLIP_CNT : Fld := ⟨0x50, 8, 0x94, 0, 1, 0, 1, 31, 0, .ro, 0, .all, .none, none⟩
/-- FALLBACK_CNT, bits [31:0], field COUNT (R332). -/
def FALLBACK_CNT : Fld := ⟨0x50, 8, 0x98, 0, 1, 0, 1, 31, 0, .ro, 0, .all, .none, none⟩
/-- BST_UV_CNT, bits [31:0], field COUNT (R332). -/
def BST_UV_CNT : Fld := ⟨0x50, 8, 0x9c, 0, 1, 0, 1, 31, 0, .ro, 0, .all, .none, none⟩
/-- BST_CTRL, bits [0:0], field EN (R333). -/
def BST_CTRL_EN : Fld := ⟨0x58, 2, 0x40, 0, 1, 0, 1, 0, 0, .rws, 0, .all, .none, none⟩
/-- BST_CTRL, bits [1:1], field CLEAR (R333). -/
def BST_CTRL_CLEAR : Fld := ⟨0x58, 2, 0x40, 0, 1, 0, 1, 1, 1, .sc, 0, .all, .none, none⟩
/-- BST_CTRL, bits [2:2], field CNT_CLR (R333). -/
def BST_CTRL_CNT_CLR : Fld := ⟨0x58, 2, 0x40, 0, 1, 0, 1, 2, 2, .sc, 0, .all, .none, none⟩
/-- BST_CFG, bits [5:0], field VMIN (R333). -/
def BST_CFG_VMIN : Fld := ⟨0x58, 2, 0x44, 0, 1, 0, 1, 5, 0, .rws, 20, .all, .none, (some (20, 56))⟩
/-- BST_CFG, bits [13:8], field VMAX (R333). -/
def BST_CFG_VMAX : Fld := ⟨0x58, 2, 0x44, 0, 1, 0, 1, 13, 8, .rws, 56, .all, .none, (some (20, 56))⟩
/-- BST_CFG, bits [21:16], field IIN_LIMIT (R333). -/
def BST_CFG_IIN_LIMIT : Fld := ⟨0x58, 2, 0x44, 0, 1, 0, 1, 21, 16, .rws, 30, .all, .none, (some (2, 40))⟩
/-- BST_CFG, bits [29:24], field BROWN_IIN (R333). -/
def BST_CFG_BROWN_IIN : Fld := ⟨0x58, 2, 0x44, 0, 1, 0, 1, 29, 24, .rws, 15, .all, .none, (some (1, 40))⟩
/-- BST_SENSE, bits [4:0], field SHUNT (R333). -/
def BST_SENSE_SHUNT : Fld := ⟨0x58, 2, 0x48, 0, 1, 0, 1, 4, 0, .rws, 3, .all, .none, (some (1, 20))⟩
/-- BST_SENSE, bits [12:8], field PHASE_LIMIT (R333). -/
def BST_SENSE_PHASE_LIMIT : Fld := ⟨0x58, 2, 0x48, 0, 1, 0, 1, 12, 8, .rws, 20, .all, .none, (some (2, 25))⟩
/-- BST_SENSE, bits [13:13], field NTC_EN (R333). -/
def BST_SENSE_NTC_EN : Fld := ⟨0x58, 2, 0x48, 0, 1, 0, 1, 13, 13, .rws, 0, .all, .none, none⟩
/-- BST_SENSE, bits [15:14], field NTC_SEL (R333). -/
def BST_SENSE_NTC_SEL : Fld := ⟨0x58, 2, 0x48, 0, 1, 0, 1, 15, 14, .rws, 0, .all, .none, none⟩
/-- BST_STATUS, bits [2:0], field STATE (R333). -/
def BST_STATUS_STATE : Fld := ⟨0x58, 2, 0x4c, 0, 1, 0, 1, 2, 0, .ro, 0, .all, .none, none⟩
/-- BST_STATUS, bits [3:3], field IIN_LIM (R333). -/
def BST_STATUS_IIN_LIM : Fld := ⟨0x58, 2, 0x4c, 0, 1, 0, 1, 3, 3, .ro, 0, .all, .none, none⟩
/-- BST_STATUS, bits [4:4], field OVP (R333). -/
def BST_STATUS_OVP : Fld := ⟨0x58, 2, 0x4c, 0, 1, 0, 1, 4, 4, .ro, 0, .all, .none, none⟩
/-- BST_STATUS, bits [5:5], field PASS (R333). -/
def BST_STATUS_PASS : Fld := ⟨0x58, 2, 0x4c, 0, 1, 0, 1, 5, 5, .ro, 0, .all, .none, none⟩
/-- BST_STATUS, bits [7:6], field RETRY_NUM (R333). -/
def BST_STATUS_RETRY_NUM : Fld := ⟨0x58, 2, 0x4c, 0, 1, 0, 1, 7, 6, .ro, 0, .all, .none, none⟩
/-- BST_STATUS, bits [11:8], field CAUSE (R333). -/
def BST_STATUS_CAUSE : Fld := ⟨0x58, 2, 0x4c, 0, 1, 0, 1, 11, 8, .ro, 0, .all, .none, none⟩
/-- BST_STATUS, bits [12:12], field FAULT_SEEN (R333). -/
def BST_STATUS_FAULT_SEEN : Fld := ⟨0x58, 2, 0x4c, 0, 1, 0, 1, 12, 12, .w1c, 0, .all, .none, none⟩
/-- BST_VSET, bits [15:0], field VOLTS (R333). -/
def BST_VSET_VOLTS : Fld := ⟨0x58, 2, 0x50, 0, 1, 0, 1, 15, 0, .ro, 0, .all, .none, none⟩
/-- BST_VMEAS, bits [15:0], field VOLTS (R333). -/
def BST_VMEAS_VOLTS : Fld := ⟨0x58, 2, 0x54, 0, 1, 0, 1, 15, 0, .ro, 0, .all, .none, none⟩
/-- BST_IIN, bits [15:0], field AMPS (R333). -/
def BST_IIN_AMPS : Fld := ⟨0x58, 2, 0x58, 0, 1, 0, 1, 15, 0, .ro, 0, .all, .none, none⟩
/-- BST_FAULT_INFO, bits [3:0], field CAUSE (R333). -/
def BST_FAULT_INFO_CAUSE : Fld := ⟨0x58, 2, 0x5c, 0, 1, 0, 1, 3, 0, .ro, 0, .all, .none, none⟩
/-- BST_FAULT_INFO, bits [31:16], field TICK (R333). -/
def BST_FAULT_INFO_TICK : Fld := ⟨0x58, 2, 0x5c, 0, 1, 0, 1, 31, 16, .ro, 0, .all, .none, none⟩
/-- BST_FAULT_CNT, bits [31:0], field COUNT (R333). -/
def BST_FAULT_CNT : Fld := ⟨0x58, 2, 0x80, 0, 1, 0, 1, 31, 0, .ro, 0, .all, .none, none⟩
/-- BST_IIN_LIM_CNT, bits [31:0], field COUNT (R333). -/
def BST_IIN_LIM_CNT : Fld := ⟨0x58, 2, 0x84, 0, 1, 0, 1, 31, 0, .ro, 0, .all, .none, none⟩
/-- BST_OVP_CNT, bits [31:0], field COUNT (R333). -/
def BST_OVP_CNT : Fld := ⟨0x58, 2, 0x88, 0, 1, 0, 1, 31, 0, .ro, 0, .all, .none, none⟩
/-- SUP_VIN_MEAS, bits [11:0], field VOLTS (R334). -/
def SUP_VIN_MEAS_VOLTS : Fld := ⟨0x4, 1, 0x80, 0, 1, 0, 1, 11, 0, .ro, 0, .all, .none, none⟩
/-- SUP_VGD_MEAS, bits [11:0], field VOLTS (R334). -/
def SUP_VGD_MEAS_VOLTS : Fld := ⟨0x4, 1, 0x84, 0, 1, 0, 1, 11, 0, .ro, 0, .all, .none, none⟩
/-- SUP_PWR_STATUS, bits [0:0], field VIN_WARN (R334). -/
def SUP_PWR_STATUS_VIN_WARN : Fld := ⟨0x4, 1, 0x88, 0, 1, 0, 1, 0, 0, .ro, 0, .all, .none, none⟩
/-- SUP_PWR_STATUS, bits [1:1], field VIN_RESET (R334). -/
def SUP_PWR_STATUS_VIN_RESET : Fld := ⟨0x4, 1, 0x88, 0, 1, 0, 1, 1, 1, .ro, 0, .all, .none, none⟩
/-- SUP_PWR_STATUS, bits [2:2], field VGD_WARN (R334). -/
def SUP_PWR_STATUS_VGD_WARN : Fld := ⟨0x4, 1, 0x88, 0, 1, 0, 1, 2, 2, .ro, 0, .all, .none, none⟩
/-- SUP_PWR_STATUS, bits [3:3], field VGD_UVLO (R334). -/
def SUP_PWR_STATUS_VGD_UVLO : Fld := ⟨0x4, 1, 0x88, 0, 1, 0, 1, 3, 3, .ro, 0, .all, .none, none⟩
/-- SUP_PWR_STATUS, bits [4:4], field CORE_WARN (R334). -/
def SUP_PWR_STATUS_CORE_WARN : Fld := ⟨0x4, 1, 0x88, 0, 1, 0, 1, 4, 4, .ro, 0, .all, .none, none⟩
/-- SUP_PWR_STATUS, bits [8:8], field VIN_WARN_SEEN (R334). -/
def SUP_PWR_STATUS_VIN_WARN_SEEN : Fld := ⟨0x4, 1, 0x88, 0, 1, 0, 1, 8, 8, .w1c, 0, .all, .none, none⟩
/-- SUP_PWR_STATUS, bits [9:9], field VIN_RESET_SEEN (R334). -/
def SUP_PWR_STATUS_VIN_RESET_SEEN : Fld := ⟨0x4, 1, 0x88, 0, 1, 0, 1, 9, 9, .w1c, 0, .all, .none, none⟩
/-- SUP_PWR_STATUS, bits [10:10], field VGD_WARN_SEEN (R334). -/
def SUP_PWR_STATUS_VGD_WARN_SEEN : Fld := ⟨0x4, 1, 0x88, 0, 1, 0, 1, 10, 10, .w1c, 0, .all, .none, none⟩
/-- SUP_PWR_STATUS, bits [11:11], field VGD_UVLO_SEEN (R334). -/
def SUP_PWR_STATUS_VGD_UVLO_SEEN : Fld := ⟨0x4, 1, 0x88, 0, 1, 0, 1, 11, 11, .w1c, 0, .all, .none, none⟩
/-- SUP_PWR_STATUS, bits [12:12], field CORE_WARN_SEEN (R334). -/
def SUP_PWR_STATUS_CORE_WARN_SEEN : Fld := ⟨0x4, 1, 0x88, 0, 1, 0, 1, 12, 12, .w1c, 0, .all, .none, none⟩
/-- SUP_PWR_STATUS, bits [13:13], field CORE_RESET_SEEN (R334). -/
def SUP_PWR_STATUS_CORE_RESET_SEEN : Fld := ⟨0x4, 1, 0x88, 0, 1, 0, 1, 13, 13, .w1c, 0, .all, .none, none⟩
/-- NTC_CODEk, bits [11:0], field CODE (R334). -/
def NTC_CODE_CODE : Fld := ⟨0x4, 1, 0x90, 4, 4, 0, 1, 11, 0, .ro, 0, .all, .none, none⟩
/-- NTC_THRk, bits [11:0], field WARN_CODE (R334). -/
def NTC_THR_WARN_CODE : Fld := ⟨0x4, 1, 0xa0, 4, 4, 0, 1, 11, 0, .rws, 1024, .all, .none, none⟩
/-- NTC_THRk, bits [27:16], field SHUT_CODE (R334). -/
def NTC_THR_SHUT_CODE : Fld := ⟨0x4, 1, 0xa0, 4, 4, 0, 1, 27, 16, .rws, 768, .all, .none, none⟩
/-- VIN_DIP_CNT, bits [31:0], field COUNT (R334). -/
def VIN_DIP_CNT : Fld := ⟨0x4, 1, 0xb0, 0, 1, 0, 1, 31, 0, .ro, 0, .all, .none, none⟩
/-- DIAG_CMD, bits [1:0], field OP (R347). -/
def DIAG_CMD_OP : Fld := ⟨0x5a, 1, 0x40, 0, 1, 0, 1, 1, 0, .rw, 0, .all, .none, none⟩
/-- DIAG_CMD, bits [2:2], field CNT_CLR (R347). -/
def DIAG_CMD_CNT_CLR : Fld := ⟨0x5a, 1, 0x40, 0, 1, 0, 1, 2, 2, .sc, 0, .all, .none, none⟩
/-- DIAG_CMD, bits [15:8], field CH_MASK (R347). -/
def DIAG_CMD_CH_MASK : Fld := ⟨0x5a, 1, 0x40, 0, 1, 0, 1, 15, 8, .rw, 0, .all, .none, none⟩
/-- DIAG_CMD, bits [30:30], field BUSY (R347). -/
def DIAG_CMD_BUSY : Fld := ⟨0x5a, 1, 0x40, 0, 1, 0, 1, 30, 30, .ro, 0, .all, .none, none⟩
/-- DIAG_CMD, bits [31:31], field GO (R347). -/
def DIAG_CMD_GO : Fld := ⟨0x5a, 1, 0x40, 0, 1, 0, 1, 31, 31, .sc, 0, .all, .none, none⟩
/-- DIAG_CFG, bits [6:0], field SHORT_OHMS (R347). -/
def DIAG_CFG_SHORT_OHMS : Fld := ⟨0x5a, 1, 0x44, 0, 1, 0, 1, 6, 0, .rws, 10, .all, .none, (some (5, 100))⟩
/-- DIAG_CFG, bits [13:8], field SWEEP_LEVEL (R347). -/
def DIAG_CFG_SWEEP_LEVEL : Fld := ⟨0x5a, 1, 0x44, 0, 1, 0, 1, 13, 8, .rws, 20, .all, .none, (some (6, 40))⟩
/-- DIAG_CFG, bits [22:16], field AC_TOL (R347). -/
def DIAG_CFG_AC_TOL : Fld := ⟨0x5a, 1, 0x44, 0, 1, 0, 1, 22, 16, .rws, 25, .all, .none, (some (5, 100))⟩
/-- DIAG_CFG, bits [30:24], field TWEETER_TOL (R347). -/
def DIAG_CFG_TWEETER_TOL : Fld := ⟨0x5a, 1, 0x44, 0, 1, 0, 1, 30, 24, .rws, 25, .all, .none, (some (5, 100))⟩
/-- DIAG_PILOT, bits [11:0], field FREQ (R347). -/
def DIAG_PILOT_FREQ : Fld := ⟨0x5a, 1, 0x48, 0, 1, 0, 1, 11, 0, .rws, 2100, .all, .none, (some (2000, 2200))⟩
/-- DIAG_PILOT, bits [17:12], field LEVEL (R347). -/
def DIAG_PILOT_LEVEL : Fld := ⟨0x5a, 1, 0x48, 0, 1, 0, 1, 17, 12, .rws, 36, .all, .none, (some (30, 48))⟩
/-- DIAG_PILOT, bits [31:24], field EN (R347). -/
def DIAG_PILOT_EN : Fld := ⟨0x5a, 1, 0x48, 0, 1, 0, 1, 31, 24, .rws, 255, .all, .none, none⟩
/-- DIAG_DEV_CFG, bits [6:0], field PILOT_TOL (R347). -/
def DIAG_DEV_CFG_PILOT_TOL : Fld := ⟨0x5a, 1, 0x4c, 0, 1, 0, 1, 6, 0, .rws, 20, .all, .none, (some (5, 100))⟩
/-- DIAG_DEV_CFG, bits [14:8], field PHASE_TOL (R347). -/
def DIAG_DEV_CFG_PHASE_TOL : Fld := ⟨0x5a, 1, 0x4c, 0, 1, 0, 1, 14, 8, .rws, 15, .all, .none, (some (2, 90))⟩
/-- DIAG_DEV_CFG, bits [19:16], field DEV_COUNT (R347). -/
def DIAG_DEV_CFG_DEV_COUNT : Fld := ⟨0x5a, 1, 0x4c, 0, 1, 0, 1, 19, 16, .rws, 4, .all, .none, (some (1, 15))⟩
/-- DIAG_STATUS, bits [7:0], field BASE_VALID (R347). -/
def DIAG_STATUS_BASE_VALID : Fld := ⟨0x5a, 1, 0x50, 0, 1, 0, 1, 7, 0, .ro, 0, .all, .none, none⟩
/-- DIAG_STATUS, bits [15:8], field DEV (R347). -/
def DIAG_STATUS_DEV : Fld := ⟨0x5a, 1, 0x50, 0, 1, 0, 1, 15, 8, .ro, 0, .all, .none, none⟩
/-- DIAG_STATUS, bits [23:16], field DEV_SEEN (R347). -/
def DIAG_STATUS_DEV_SEEN : Fld := ⟨0x5a, 1, 0x50, 0, 1, 0, 1, 23, 16, .w1c, 0, .all, .none, none⟩
/-- DIAG_RESn, bits [1:0], field DC_RESULT (R347). -/
def DIAG_RES_DC_RESULT : Fld := ⟨0x5a, 1, 0x80, 32, 8, 0, 1, 1, 0, .ro, 0, .all, .none, none⟩
/-- DIAG_RESn, bits [4:2], field AC_RESULT (R347). -/
def DIAG_RES_AC_RESULT : Fld := ⟨0x5a, 1, 0x80, 32, 8, 0, 1, 4, 2, .ro, 0, .all, .none, none⟩
/-- DIAG_RESn, bits [6:5], field HF (R347). -/
def DIAG_RES_HF : Fld := ⟨0x5a, 1, 0x80, 32, 8, 0, 1, 6, 5, .ro, 3, .all, .none, none⟩
/-- DIAG_RESn, bits [12:8], field AC_DEV (R347). -/
def DIAG_RES_AC_DEV : Fld := ⟨0x5a, 1, 0x80, 32, 8, 0, 1, 12, 8, .ro, 0, .all, .none, none⟩
/-- DIAG_RESn, bits [17:16], field PILOT_CLASS (R347). -/
def DIAG_RES_PILOT_CLASS : Fld := ⟨0x5a, 1, 0x80, 32, 8, 0, 1, 17, 16, .ro, 0, .all, .none, none⟩
/-- DIAG_DCn, bits [15:0], field OHMS (R347). -/
def DIAG_DC_OHMS : Fld := ⟨0x5a, 1, 0x84, 32, 8, 0, 1, 15, 0, .ro, 0, .all, .none, none⟩
/-- DIAG_ACnf, bits [15:0], field MAG (R347). -/
def DIAG_AC_MAG : Fld := ⟨0x5a, 1, 0x88, 32, 8, 4, 5, 15, 0, .ro, 0, .all, .none, none⟩
/-- DIAG_ACnf, bits [31:16], field PHASE (R347). -/
def DIAG_AC_PHASE : Fld := ⟨0x5a, 1, 0x88, 32, 8, 4, 5, 31, 16, .ro, 0, .all, .none, none⟩
/-- DIAG_PILOTn, bits [15:0], field MAG (R347). -/
def DIAG_PILOT_MAG : Fld := ⟨0x5a, 1, 0x9c, 32, 8, 0, 1, 15, 0, .ro, 0, .all, .none, none⟩
/-- DIAG_PILOTn, bits [31:16], field PHASE (R347). -/
def DIAG_PILOT_PHASE : Fld := ⟨0x5a, 1, 0x9c, 32, 8, 0, 1, 31, 16, .ro, 0, .all, .none, none⟩
/-- DIAG_BASE_DCn, bits [15:0], field OHMS (R347). -/
def DIAG_BASE_DC_OHMS : Fld := ⟨0x5a, 1, 0x180, 32, 8, 0, 1, 15, 0, .rw, 0, .all, .none, none⟩
/-- DIAG_BASE_ACnf, bits [15:0], field MAG (R347). -/
def DIAG_BASE_AC_MAG : Fld := ⟨0x5a, 1, 0x184, 32, 8, 4, 5, 15, 0, .rw, 0, .all, .none, none⟩
/-- DIAG_BASE_ACnf, bits [31:16], field PHASE (R347). -/
def DIAG_BASE_AC_PHASE : Fld := ⟨0x5a, 1, 0x184, 32, 8, 4, 5, 31, 16, .rw, 0, .all, .none, none⟩
/-- DIAG_BASE_PILOTn, bits [15:0], field MAG (R347). -/
def DIAG_BASE_PILOT_MAG : Fld := ⟨0x5a, 1, 0x198, 32, 8, 0, 1, 15, 0, .rw, 0, .all, .none, none⟩
/-- DIAG_BASE_PILOTn, bits [31:16], field PHASE (R347). -/
def DIAG_BASE_PILOT_PHASE : Fld := ⟨0x5a, 1, 0x198, 32, 8, 0, 1, 31, 16, .rw, 0, .all, .none, none⟩
/-- DIAG_BASE_CTRLn, bits [0:0], field VALID (R347). -/
def DIAG_BASE_CTRL_VALID : Fld := ⟨0x5a, 1, 0x19c, 32, 8, 0, 1, 0, 0, .rw, 0, .all, .none, none⟩
/-- PILOT_SKIP_CNTn, bits [31:0], field COUNT (R347). -/
def PILOT_SKIP_CNT : Fld := ⟨0x5a, 1, 0x280, 4, 8, 0, 1, 31, 0, .ro, 0, .all, .none, none⟩
/-- DEV_CNTn, bits [31:0], field COUNT (R347). -/
def DEV_CNT : Fld := ⟨0x5a, 1, 0x2a0, 4, 8, 0, 1, 31, 0, .ro, 0, .all, .none, none⟩
/-- SVC_CTRL, bits [0:0], field EN (R376). -/
def SVC_CTRL_EN : Fld := ⟨0x68, 1, 0x40, 0, 1, 0, 1, 0, 0, .rw, 0, .all, .none, none⟩
/-- SVC_CTRL, bits [1:1], field CNT_CLR (R376). -/
def SVC_CTRL_CNT_CLR : Fld := ⟨0x68, 1, 0x40, 0, 1, 0, 1, 1, 1, .sc, 0, .all, .none, none⟩
/-- SVC_STATUS, bits [0:0], field RUNNING (R376). -/
def SVC_STATUS_RUNNING : Fld := ⟨0x68, 1, 0x44, 0, 1, 0, 1, 0, 0, .ro, 0, .all, .none, none⟩
/-- SVC_STATUS, bits [3:1], field STOP_CAUSE (R376). -/
def SVC_STATUS_STOP_CAUSE : Fld := ⟨0x68, 1, 0x44, 0, 1, 0, 1, 3, 1, .ro, 1, .all, .none, none⟩
/-- SVC_STATUS, bits [12:8], field CALLS (R376). -/
def SVC_STATUS_CALLS : Fld := ⟨0x68, 1, 0x44, 0, 1, 0, 1, 12, 8, .ro, 0, .all, .none, none⟩
/-- SVC_STATUS, bits [21:16], field PLAYERS (R376). -/
def SVC_STATUS_PLAYERS : Fld := ⟨0x68, 1, 0x44, 0, 1, 0, 1, 21, 16, .ro, 0, .all, .none, none⟩
/-- SVC_REQ_BASE, bits [31:12], field BASE (R376). -/
def SVC_REQ_BASE_BASE : Fld := ⟨0x68, 1, 0x48, 0, 1, 0, 1, 31, 12, .rws, 0, .all, .none, none⟩
/-- SVC_REQ_CTRL, bits [10:0], field ENTRIES (R376). -/
def SVC_REQ_CTRL_ENTRIES : Fld := ⟨0x68, 1, 0x4c, 0, 1, 0, 1, 10, 0, .rws, 16, .all, .none, (some (16, 1024))⟩
/-- SVC_REQ_CTRL, bits [31:31], field EN (R376). -/
def SVC_REQ_CTRL_EN : Fld := ⟨0x68, 1, 0x4c, 0, 1, 0, 1, 31, 31, .rws, 0, .all, .none, none⟩
/-- SVC_REQ_TAIL, bits [9:0], field INDEX (R376). -/
def SVC_REQ_TAIL_INDEX : Fld := ⟨0x68, 1, 0x50, 0, 1, 0, 1, 9, 0, .rw, 0, .all, .none, none⟩
/-- SVC_REQ_HEAD, bits [9:0], field INDEX (R376). -/
def SVC_REQ_HEAD_INDEX : Fld := ⟨0x68, 1, 0x54, 0, 1, 0, 1, 9, 0, .ro, 0, .all, .none, none⟩
/-- SVC_STAT_BASE, bits [31:12], field BASE (R376). -/
def SVC_STAT_BASE_BASE : Fld := ⟨0x68, 1, 0x58, 0, 1, 0, 1, 31, 12, .rws, 0, .all, .none, none⟩
/-- SVC_STAT_CTRL, bits [12:0], field ENTRIES (R376). -/
def SVC_STAT_CTRL_ENTRIES : Fld := ⟨0x68, 1, 0x5c, 0, 1, 0, 1, 12, 0, .rws, 256, .all, .none, (some (16, 4096))⟩
/-- SVC_STAT_HEAD, bits [11:0], field INDEX (R376). -/
def SVC_STAT_HEAD_INDEX : Fld := ⟨0x68, 1, 0x60, 0, 1, 0, 1, 11, 0, .ro, 0, .all, .none, none⟩
/-- SVC_STAT_SEQ, bits [31:0], field COUNT (R376). -/
def SVC_STAT_SEQ : Fld := ⟨0x68, 1, 0x64, 0, 1, 0, 1, 31, 0, .ro, 0, .all, .none, none⟩
/-- SVC_LAST_REF_ID, bits [31:0], field ID (R376). -/
def SVC_LAST_REF_ID_ID : Fld := ⟨0x68, 1, 0x68, 0, 1, 0, 1, 31, 0, .ro, 4294967295, .all, .none, none⟩
/-- SVC_LAST_REF_REASON, bits [3:0], field REASON (R376). -/
def SVC_LAST_REF_REASON_REASON : Fld := ⟨0x68, 1, 0x6c, 0, 1, 0, 1, 3, 0, .ro, 0, .all, .none, none⟩
/-- SVC_LAST_PREEMPT_ID, bits [31:0], field ID (R376). -/
def SVC_LAST_PREEMPT_ID_ID : Fld := ⟨0x68, 1, 0x70, 0, 1, 0, 1, 31, 0, .ro, 4294967295, .all, .none, none⟩
/-- SVC_LAST_EVICTOR_ID, bits [31:0], field ID (R376). -/
def SVC_LAST_EVICTOR_ID_ID : Fld := ⟨0x68, 1, 0x74, 0, 1, 0, 1, 31, 0, .ro, 4294967295, .all, .none, none⟩
/-- SVC_LOCK_LO, bits [31:0], field LOCKED (R376). -/
def SVC_LOCK_LO_LOCKED : Fld := ⟨0x68, 1, 0x78, 0, 1, 0, 1, 31, 0, .ro, 0, .all, .none, none⟩
/-- SVC_LOCK_HI, bits [31:0], field LOCKED (R376). -/
def SVC_LOCK_HI_LOCKED : Fld := ⟨0x68, 1, 0x7c, 0, 1, 0, 1, 31, 0, .ro, 0, .all, .none, none⟩
/-- SVC_ANG_BYPASS_LO, bits [31:0], field BYPASS (R376). -/
def SVC_ANG_BYPASS_LO_BYPASS : Fld := ⟨0x68, 1, 0x80, 0, 1, 0, 1, 31, 0, .rw, 0, .all, .none, none⟩
/-- SVC_ANG_BYPASS_HI, bits [31:0], field BYPASS (R376). -/
def SVC_ANG_BYPASS_HI_BYPASS : Fld := ⟨0x68, 1, 0x84, 0, 1, 0, 1, 31, 0, .rw, 0, .all, .none, none⟩
/-- SVC_ZONE_SEL, bits [5:0], field ZONE (R376). -/
def SVC_ZONE_SEL_ZONE : Fld := ⟨0x68, 1, 0x88, 0, 1, 0, 1, 5, 0, .rw, 0, .all, .none, none⟩
/-- SVC_ZONE_STATE, bits [3:0], field QUEUE_LEN (R376). -/
def SVC_ZONE_STATE_QUEUE_LEN : Fld := ⟨0x68, 1, 0x8c, 0, 1, 0, 1, 3, 0, .ro, 0, .all, .svcZone, none⟩
/-- SVC_ZONE_STATE, bits [8:4], field TOP_PRIO (R376). -/
def SVC_ZONE_STATE_TOP_PRIO : Fld := ⟨0x68, 1, 0x8c, 0, 1, 0, 1, 8, 4, .ro, 16, .all, .svcZone, none⟩
/-- SVC_ZONE_STATE, bits [9:9], field BG_DUCKED (R376). -/
def SVC_ZONE_STATE_BG_DUCKED : Fld := ⟨0x68, 1, 0x8c, 0, 1, 0, 1, 9, 9, .ro, 0, .all, .svcZone, none⟩
/-- SVC_ZONE_STATE, bits [10:10], field BG_MUTED (R376). -/
def SVC_ZONE_STATE_BG_MUTED : Fld := ⟨0x68, 1, 0x8c, 0, 1, 0, 1, 10, 10, .ro, 0, .all, .svcZone, none⟩
/-- SVC_ZONE_STATE, bits [11:11], field LOCKED (R376). -/
def SVC_ZONE_STATE_LOCKED : Fld := ⟨0x68, 1, 0x8c, 0, 1, 0, 1, 11, 11, .ro, 0, .all, .svcZone, none⟩
/-- SVC_ZONE_STATE, bits [15:12], field LOCK_PRIO (R376). -/
def SVC_ZONE_STATE_LOCK_PRIO : Fld := ⟨0x68, 1, 0x8c, 0, 1, 0, 1, 15, 12, .ro, 0, .all, .svcZone, none⟩
/-- SVC_CALL_SEL, bits [3:0], field SLOT (R376). -/
def SVC_CALL_SEL_SLOT : Fld := ⟨0x68, 1, 0x90, 0, 1, 0, 1, 3, 0, .rw, 0, .all, .none, none⟩
/-- SVC_CALL_STATE, bits [1:0], field STATE (R376). -/
def SVC_CALL_STATE_STATE : Fld := ⟨0x68, 1, 0x94, 0, 1, 0, 1, 1, 0, .ro, 0, .all, .svcCall, none⟩
/-- SVC_CALL_STATE, bits [5:4], field CONSOLE (R376). -/
def SVC_CALL_STATE_CONSOLE : Fld := ⟨0x68, 1, 0x94, 0, 1, 0, 1, 5, 4, .ro, 0, .all, .svcCall, none⟩
/-- SVC_CALL_REQ, bits [31:0], field ID (R376). -/
def SVC_CALL_REQ_ID : Fld := ⟨0x68, 1, 0x98, 0, 1, 0, 1, 31, 0, .ro, 4294967295, .all, .svcCall, none⟩
/-- SVC_GRANT_CNT, bits [31:0], field COUNT (R376). -/
def SVC_GRANT_CNT : Fld := ⟨0x68, 1, 0xc0, 0, 1, 0, 1, 31, 0, .ro, 0, .all, .none, none⟩
/-- SVC_DUCK_CNT, bits [31:0], field COUNT (R376). -/
def SVC_DUCK_CNT : Fld := ⟨0x68, 1, 0xc4, 0, 1, 0, 1, 31, 0, .ro, 0, .all, .none, none⟩
/-- SVC_DEFER_CNT, bits [31:0], field COUNT (R376). -/
def SVC_DEFER_CNT : Fld := ⟨0x68, 1, 0xc8, 0, 1, 0, 1, 31, 0, .ro, 0, .all, .none, none⟩
/-- SVC_PREEMPT_CNT, bits [31:0], field COUNT (R376). -/
def SVC_PREEMPT_CNT : Fld := ⟨0x68, 1, 0xcc, 0, 1, 0, 1, 31, 0, .ro, 0, .all, .none, none⟩
/-- SVC_REFUSE_CNT, bits [31:0], field COUNT (R376). -/
def SVC_REFUSE_CNT : Fld := ⟨0x68, 1, 0xd0, 0, 1, 0, 1, 31, 0, .ro, 0, .all, .none, none⟩
/-- SVC_EVICT_CNT, bits [31:0], field COUNT (R376). -/
def SVC_EVICT_CNT : Fld := ⟨0x68, 1, 0xd4, 0, 1, 0, 1, 31, 0, .ro, 0, .all, .none, none⟩
/-- SVC_WDT_CNT, bits [31:0], field COUNT (R376). -/
def SVC_WDT_CNT : Fld := ⟨0x68, 1, 0xd8, 0, 1, 0, 1, 31, 0, .ro, 0, .all, .none, none⟩
/-- SVC_DENY_CNT, bits [31:0], field COUNT (R376). -/
def SVC_DENY_CNT : Fld := ⟨0x68, 1, 0xdc, 0, 1, 0, 1, 31, 0, .ro, 0, .all, .none, none⟩
/-- SVC_CLIP_BAD_CNT, bits [11:0], field COUNT (R376). -/
def SVC_CLIP_BAD_CNT : Fld := ⟨0x68, 1, 0xe0, 0, 1, 0, 1, 11, 0, .ro, 0, .all, .none, none⟩
/-- SVC_FW_VERSION, bits [31:0], field VERSION (R376). -/
def SVC_FW_VERSION_VERSION : Fld := ⟨0x68, 1, 0xe4, 0, 1, 0, 1, 31, 0, .ro, 0, .all, .none, none⟩
/-- BRACE_CTRL, bits [0:0], field CNT_CLR (R409). -/
def BRACE_CTRL_CNT_CLR : Fld := ⟨0x60, 1, 0x40, 0, 1, 0, 1, 0, 0, .sc, 0, .all, .none, none⟩
/-- BRACE_CTRL, bits [1:1], field SWAP (R409). -/
def BRACE_CTRL_SWAP : Fld := ⟨0x60, 1, 0x40, 0, 1, 0, 1, 1, 1, .sc, 0, .all, .none, none⟩
/-- BRACE_CFG, bits [0:0], field PAIR_EN (R409). -/
def BRACE_CFG_PAIR_EN : Fld := ⟨0x60, 1, 0x44, 0, 1, 0, 1, 0, 0, .rws, 0, .all, .none, none⟩
/-- BRACE_CFG, bits [25:16], field PARTNER_ID (R409). -/
def BRACE_CFG_PARTNER_ID : Fld := ⟨0x60, 1, 0x44, 0, 1, 0, 1, 25, 16, .rws, 0, .all, .none, none⟩
/-- BRACE_FORM, bits [9:0], field FORM_WAIT (R409). -/
def BRACE_FORM_FORM_WAIT : Fld := ⟨0x60, 1, 0x48, 0, 1, 0, 1, 9, 0, .rws, 500, .all, .none, (some (100, 1000))⟩
/-- BRACE_TALKER_MAC_LO, bits [31:0], field MAC (R409). -/
def BRACE_TALKER_MAC_LO_MAC : Fld := ⟨0x60, 1, 0x4c, 0, 1, 0, 1, 31, 0, .rws, 0, .all, .none, none⟩
/-- BRACE_TALKER_MAC_HI, bits [15:0], field MAC (R409). -/
def BRACE_TALKER_MAC_HI_MAC : Fld := ⟨0x60, 1, 0x50, 0, 1, 0, 1, 15, 0, .rws, 0, .all, .none, none⟩
/-- BRACE_TALKER_IP, bits [31:0], field ADDR (R409). -/
def BRACE_TALKER_IP_ADDR : Fld := ⟨0x60, 1, 0x54, 0, 1, 0, 1, 31, 0, .rws, 0, .all, .none, none⟩
/-- BRACE_HB_MAC_LO, bits [31:0], field MAC (R409). -/
def BRACE_HB_MAC_LO_MAC : Fld := ⟨0x60, 1, 0x58, 0, 1, 0, 1, 31, 0, .rws, 0, .all, .none, none⟩
/-- BRACE_HB_CFG, bits [15:0], field MAC (R409). -/
def BRACE_HB_CFG_MAC : Fld := ⟨0x60, 1, 0x5c, 0, 1, 0, 1, 15, 0, .rws, 0, .all, .none, none⟩
/-- BRACE_HB_CFG, bits [27:16], field VID (R409). -/
def BRACE_HB_CFG_VID : Fld := ⟨0x60, 1, 0x5c, 0, 1, 0, 1, 27, 16, .rws, 0, .all, .none, none⟩
/-- BRACE_HB_CFG, bits [30:28], field PCP (R409). -/
def BRACE_HB_CFG_PCP : Fld := ⟨0x60, 1, 0x5c, 0, 1, 0, 1, 30, 28, .rws, 7, .all, .none, none⟩
/-- BRACE_STATE_BASE, bits [31:12], field BASE (R409). -/
def BRACE_STATE_BASE_BASE : Fld := ⟨0x60, 1, 0x60, 0, 1, 0, 1, 31, 12, .rws, 0, .all, .none, none⟩
/-- BRACE_STATUS, bits [2:0], field ROLE (R409). -/
def BRACE_STATUS_ROLE : Fld := ⟨0x60, 1, 0x64, 0, 1, 0, 1, 2, 0, .ro, 0, .all, .none, none⟩
/-- BRACE_STATUS, bits [6:4], field PARTNER_ROLE (R409). -/
def BRACE_STATUS_PARTNER_ROLE : Fld := ⟨0x60, 1, 0x64, 0, 1, 0, 1, 6, 4, .ro, 0, .all, .none, none⟩
/-- BRACE_STATUS, bits [8:8], field BRACE_PRESENT (R409). -/
def BRACE_STATUS_BRACE_PRESENT : Fld := ⟨0x60, 1, 0x64, 0, 1, 0, 1, 8, 8, .ro, 0, .all, .none, none⟩
/-- BRACE_STATUS, bits [9:9], field NET_PRESENT (R409). -/
def BRACE_STATUS_NET_PRESENT : Fld := ⟨0x60, 1, 0x64, 0, 1, 0, 1, 9, 9, .ro, 0, .all, .none, none⟩
/-- BRACE_STATUS, bits [10:10], field RING_UP (R409). -/
def BRACE_STATUS_RING_UP : Fld := ⟨0x60, 1, 0x64, 0, 1, 0, 1, 10, 10, .ro, 0, .all, .none, none⟩
/-- BRACE_STATUS, bits [16:16], field PARTNER_LOST_SEEN (R409). -/
def BRACE_STATUS_PARTNER_LOST_SEEN : Fld := ⟨0x60, 1, 0x64, 0, 1, 0, 1, 16, 16, .w1c, 0, .all, .none, none⟩
/-- BRACE_STATUS, bits [17:17], field DIVERGENCE_SEEN (R409). -/
def BRACE_STATUS_DIVERGENCE_SEEN : Fld := ⟨0x60, 1, 0x64, 0, 1, 0, 1, 17, 17, .w1c, 0, .all, .none, none⟩
/-- BRACE_STATUS, bits [18:18], field DUAL_ACTIVE_SEEN (R409). -/
def BRACE_STATUS_DUAL_ACTIVE_SEEN : Fld := ⟨0x60, 1, 0x64, 0, 1, 0, 1, 18, 18, .w1c, 0, .all, .none, none⟩
/-- BRACE_ROLE_CHANGE, bits [2:0], field FROM (R409). -/
def BRACE_ROLE_CHANGE_FROM : Fld := ⟨0x60, 1, 0x68, 0, 1, 0, 1, 2, 0, .ro, 0, .all, .none, none⟩
/-- BRACE_ROLE_CHANGE, bits [6:4], field TO (R409). -/
def BRACE_ROLE_CHANGE_TO : Fld := ⟨0x60, 1, 0x68, 0, 1, 0, 1, 6, 4, .ro, 0, .all, .none, none⟩
/-- BRACE_ROLE_CHANGE, bits [11:8], field CAUSE (R409). -/
def BRACE_ROLE_CHANGE_CAUSE : Fld := ⟨0x60, 1, 0x68, 0, 1, 0, 1, 11, 8, .ro, 0, .all, .none, none⟩
/-- BRACE_ROLE_CHANGE, bits [31:31], field VALID (R409). -/
def BRACE_ROLE_CHANGE_VALID : Fld := ⟨0x60, 1, 0x68, 0, 1, 0, 1, 31, 31, .w1c, 0, .all, .none, none⟩
/-- BRACE_ROLE_TICK, bits [31:0], field TICK (R409). -/
def BRACE_ROLE_TICK_TICK : Fld := ⟨0x60, 1, 0x6c, 0, 1, 0, 1, 31, 0, .ro, 0, .all, .none, none⟩
/-- BRACE_SEAT_STATUS, bits [2:0], field PHASE (R409). -/
def BRACE_SEAT_STATUS_PHASE : Fld := ⟨0x60, 1, 0x70, 0, 1, 0, 1, 2, 0, .ro, 0, .all, .none, none⟩
/-- BRACE_SEAT_STATUS, bits [15:8], field ROUND (R409). -/
def BRACE_SEAT_STATUS_ROUND : Fld := ⟨0x60, 1, 0x70, 0, 1, 0, 1, 15, 8, .ro, 0, .all, .none, none⟩
/-- BRACE_SEAT_STATUS, bits [28:16], field DIRTY (R409). -/
def BRACE_SEAT_STATUS_DIRTY : Fld := ⟨0x60, 1, 0x70, 0, 1, 0, 1, 28, 16, .ro, 0, .all, .none, none⟩
/-- BRACE_SEAT_INFO, bits [2:0], field ABORT_CAUSE (R409). -/
def BRACE_SEAT_INFO_ABORT_CAUSE : Fld := ⟨0x60, 1, 0x74, 0, 1, 0, 1, 2, 0, .ro, 0, .all, .none, none⟩
/-- BRACE_SEAT_INFO, bits [31:16], field LAST_MS (R409). -/
def BRACE_SEAT_INFO_LAST_MS : Fld := ⟨0x60, 1, 0x74, 0, 1, 0, 1, 31, 16, .ro, 0, .all, .none, none⟩
/-- BRACE_SEAL_TICK, bits [31:0], field TICK (R409). -/
def BRACE_SEAL_TICK_TICK : Fld := ⟨0x60, 1, 0x78, 0, 1, 0, 1, 31, 0, .ro, 0, .all, .none, none⟩
/-- BRACE_SEAT_SIZE, bits [15:0], field KIB (R409). -/
def BRACE_SEAT_SIZE_KIB : Fld := ⟨0x60, 1, 0x7c, 0, 1, 0, 1, 15, 0, .ro, 0, .all, .none, none⟩
/-- BRACE_DIGEST_OWN_LO, bits [31:0], field DIGEST (R409). -/
def BRACE_DIGEST_OWN_LO_DIGEST : Fld := ⟨0x60, 1, 0x80, 0, 1, 0, 1, 31, 0, .ro, 0, .all, .none, none⟩
/-- BRACE_DIGEST_OWN_HI, bits [31:0], field DIGEST (R409). -/
def BRACE_DIGEST_OWN_HI_DIGEST : Fld := ⟨0x60, 1, 0x84, 0, 1, 0, 1, 31, 0, .ro, 0, .all, .none, none⟩
/-- BRACE_DIGEST_PTN_LO, bits [31:0], field DIGEST (R409). -/
def BRACE_DIGEST_PTN_LO_DIGEST : Fld := ⟨0x60, 1, 0x88, 0, 1, 0, 1, 31, 0, .ro, 0, .all, .none, none⟩
/-- BRACE_DIGEST_PTN_HI, bits [31:0], field DIGEST (R409). -/
def BRACE_DIGEST_PTN_HI_DIGEST : Fld := ⟨0x60, 1, 0x8c, 0, 1, 0, 1, 31, 0, .ro, 0, .all, .none, none⟩
/-- BRACE_MISMATCH, bits [1:0], field RUN (R409). -/
def BRACE_MISMATCH_RUN : Fld := ⟨0x60, 1, 0x90, 0, 1, 0, 1, 1, 0, .ro, 0, .all, .none, none⟩
/-- BRACE_MISMATCH, bits [31:8], field FIRST_TICK (R409). -/
def BRACE_MISMATCH_FIRST_TICK : Fld := ⟨0x60, 1, 0x90, 0, 1, 0, 1, 31, 8, .ro, 0, .all, .none, none⟩
/-- AGREE_MISS_CNT, bits [31:0], field COUNT (R409). -/
def AGREE_MISS_CNT : Fld := ⟨0x60, 1, 0xa0, 0, 1, 0, 1, 31, 0, .ro, 0, .all, .none, none⟩
/-- DIGEST_MISMATCH_CNT, bits [31:0], field COUNT (R409). -/
def DIGEST_MISMATCH_CNT : Fld := ⟨0x60, 1, 0xa4, 0, 1, 0, 1, 31, 0, .ro, 0, .all, .none, none⟩
/-- DIVERGENCE_CNT, bits [31:0], field COUNT (R409). -/
def DIVERGENCE_CNT : Fld := ⟨0x60, 1, 0xa8, 0, 1, 0, 1, 31, 0, .ro, 0, .all, .none, none⟩
/-- ROLE_CHANGE_CNT, bits [31:0], field COUNT (R409). -/
def ROLE_CHANGE_CNT : Fld := ⟨0x60, 1, 0xac, 0, 1, 0, 1, 31, 0, .ro, 0, .all, .none, none⟩
/-- RESEAT_CNT, bits [31:0], field COUNT (R409). -/
def RESEAT_CNT : Fld := ⟨0x60, 1, 0xb0, 0, 1, 0, 1, 31, 0, .ro, 0, .all, .none, none⟩
/-- RESEAT_ABORT_CNT, bits [31:0], field COUNT (R409). -/
def RESEAT_ABORT_CNT : Fld := ⟨0x60, 1, 0xb4, 0, 1, 0, 1, 31, 0, .ro, 0, .all, .none, none⟩
/-- BRACE_FRAME_ERR_CNT, bits [31:0], field COUNT (R409). -/
def BRACE_FRAME_ERR_CNT : Fld := ⟨0x60, 1, 0xb8, 0, 1, 0, 1, 31, 0, .ro, 0, .all, .none, none⟩
/-- NET_HB_RX_CNT, bits [31:0], field COUNT (R409). -/
def NET_HB_RX_CNT : Fld := ⟨0x60, 1, 0xbc, 0, 1, 0, 1, 31, 0, .ro, 0, .all, .none, none⟩
/-- DUAL_ACTIVE_CNT, bits [31:0], field COUNT (R409). -/
def DUAL_ACTIVE_CNT : Fld := ⟨0x60, 1, 0xc0, 0, 1, 0, 1, 31, 0, .ro, 0, .all, .none, none⟩
/-- RELAY_CNT, bits [31:0], field COUNT (R409). -/
def RELAY_CNT : Fld := ⟨0x60, 1, 0xc4, 0, 1, 0, 1, 31, 0, .ro, 0, .all, .none, none⟩
/-- BRACE_RELAYk_CFG, bits [3:0], field GP (R409). -/
def BRACE_RELAY_CFG_GP : Fld := ⟨0x60, 1, 0x100, 8, 4, 0, 1, 3, 0, .rws, 0, .all, .none, none⟩
/-- BRACE_RELAYk_CFG, bits [4:4], field EN (R409). -/
def BRACE_RELAY_CFG_EN : Fld := ⟨0x60, 1, 0x100, 8, 4, 0, 1, 4, 4, .rws, 0, .all, .none, none⟩
/-- BRACE_RELAYk_CFG, bits [5:5], field ACTIVE_HIGH (R409). -/
def BRACE_RELAY_CFG_ACTIVE_HIGH : Fld := ⟨0x60, 1, 0x100, 8, 4, 0, 1, 5, 5, .rws, 1, .all, .none, none⟩
/-- BRACE_RELAYk_CFG, bits [15:8], field TARGET (R409). -/
def BRACE_RELAY_CFG_TARGET : Fld := ⟨0x60, 1, 0x100, 8, 4, 0, 1, 15, 8, .rws, 0, .all, .none, none⟩
/-- BRACE_RELAYk_CFG, bits [22:16], field RELAY_MS (R409). -/
def BRACE_RELAY_CFG_RELAY_MS : Fld := ⟨0x60, 1, 0x100, 8, 4, 0, 1, 22, 16, .rws, 15, .all, .none, (some (5, 100))⟩
/-- BRACE_RELAYk_STATUS, bits [0:0], field ENERGISED (R409). -/
def BRACE_RELAY_STATUS_ENERGISED : Fld := ⟨0x60, 1, 0x104, 8, 4, 0, 1, 0, 0, .ro, 0, .all, .none, none⟩
/-- BRACE_RELAYk_STATUS, bits [2:1], field PHASE (R409). -/
def BRACE_RELAY_STATUS_PHASE : Fld := ⟨0x60, 1, 0x104, 8, 4, 0, 1, 2, 1, .ro, 0, .all, .none, none⟩
/-- BRACE_RELAYk_STATUS, bits [8:8], field TAKEOVER_SEEN (R409). -/
def BRACE_RELAY_STATUS_TAKEOVER_SEEN : Fld := ⟨0x60, 1, 0x104, 8, 4, 0, 1, 8, 8, .w1c, 0, .all, .none, none⟩
/-- SYS_STATE, bits [2:0], field STATE (R446). -/
def SYS_STATE_STATE : Fld := ⟨0x0, 1, 0x40, 0, 1, 0, 1, 2, 0, .ro, 1, .all, .none, none⟩
/-- SYS_CTRL, bits [0:0], field START (R446). -/
def SYS_CTRL_START : Fld := ⟨0x0, 1, 0x44, 0, 1, 0, 1, 0, 0, .sc, 0, .all, .none, none⟩
/-- SYS_CTRL, bits [1:1], field STOP (R446). -/
def SYS_CTRL_STOP : Fld := ⟨0x0, 1, 0x44, 0, 1, 0, 1, 1, 1, .sc, 0, .all, .none, none⟩
/-- SYS_CTRL, bits [2:2], field LOAD (R446). -/
def SYS_CTRL_LOAD : Fld := ⟨0x0, 1, 0x44, 0, 1, 0, 1, 2, 2, .sc, 0, .all, .none, none⟩
/-- SYS_CTRL, bits [3:3], field WRESET (R446). -/
def SYS_CTRL_WRESET : Fld := ⟨0x0, 1, 0x44, 0, 1, 0, 1, 3, 3, .sc, 0, .all, .none, none⟩
/-- SYS_CTRL, bits [4:4], field SLEEP (R446). -/
def SYS_CTRL_SLEEP : Fld := ⟨0x0, 1, 0x44, 0, 1, 0, 1, 4, 4, .sc, 0, .all, .none, none⟩
/-- SYS_HOLD_REASON, bits [7:0], field REASON (R446). -/
def SYS_HOLD_REASON_REASON : Fld := ⟨0x0, 1, 0x48, 0, 1, 0, 1, 7, 0, .ro, 0, .all, .none, none⟩
/-- SYS_HOLD_REASON, bits [15:8], field DETAIL_HI (R446). -/
def SYS_HOLD_REASON_DETAIL_HI : Fld := ⟨0x0, 1, 0x48, 0, 1, 0, 1, 15, 8, .ro, 0, .all, .none, none⟩
/-- SYS_HOLD_REASON, bits [31:16], field DETAIL (R446). -/
def SYS_HOLD_REASON_DETAIL : Fld := ⟨0x0, 1, 0x48, 0, 1, 0, 1, 31, 16, .ro, 0, .all, .none, none⟩
/-- SYS_LOAD_ADDR, bits [31:0], field ADDR (R446). -/
def SYS_LOAD_ADDR_ADDR : Fld := ⟨0x0, 1, 0x4c, 0, 1, 0, 1, 31, 0, .rw, 0, .all, .none, none⟩
/-- SYS_LOAD_LEN, bits [22:0], field LEN (R446). -/
def SYS_LOAD_LEN_LEN : Fld := ⟨0x0, 1, 0x50, 0, 1, 0, 1, 22, 0, .rw, 0, .all, .none, none⟩
/-- SYS_DEVICE_ID, bits [9:0], field ID (R446). -/
def SYS_DEVICE_ID_ID : Fld := ⟨0x0, 1, 0x54, 0, 1, 0, 1, 9, 0, .ro, 0, .all, .none, none⟩
/-- SYS_IMG_INFO, bits [0:0], field AUTOSTART (R446). -/
def SYS_IMG_INFO_AUTOSTART : Fld := ⟨0x0, 1, 0x58, 0, 1, 0, 1, 0, 0, .ro, 0, .all, .none, none⟩
/-- SYS_IMG_INFO, bits [1:1], field PAIR_LATENCY (R446). -/
def SYS_IMG_INFO_PAIR_LATENCY : Fld := ⟨0x0, 1, 0x58, 0, 1, 0, 1, 1, 1, .ro, 0, .all, .none, none⟩
/-- SYS_IMG_INFO, bits [2:2], field SIGNED (R446). -/
def SYS_IMG_INFO_SIGNED : Fld := ⟨0x0, 1, 0x58, 0, 1, 0, 1, 2, 2, .ro, 0, .all, .none, none⟩
/-- SYS_IMG_INFO, bits [3:3], field KEY_INDEX (R446). -/
def SYS_IMG_INFO_KEY_INDEX : Fld := ⟨0x0, 1, 0x58, 0, 1, 0, 1, 3, 3, .ro, 0, .all, .none, none⟩
/-- SYS_IMG_BUILD, bits [31:0], field BUILD (R446). -/
def SYS_IMG_BUILD_BUILD : Fld := ⟨0x0, 1, 0x5c, 0, 1, 0, 1, 31, 0, .ro, 0, .all, .none, none⟩
/-- SYS_IMG_SYSTEM, bits [31:0], field SYSTEM_ID (R446). -/
def SYS_IMG_SYSTEM_SYSTEM_ID : Fld := ⟨0x0, 1, 0x60, 0, 1, 0, 1, 31, 0, .ro, 0, .all, .none, none⟩
/-- SYS_RESET_CAUSE, bits [0:0], field POR (R446). -/
def SYS_RESET_CAUSE_POR : Fld := ⟨0x0, 1, 0x64, 0, 1, 0, 1, 0, 0, .w1c, 1, .all, .none, none⟩
/-- SYS_RESET_CAUSE, bits [1:1], field PORST (R446). -/
def SYS_RESET_CAUSE_PORST : Fld := ⟨0x0, 1, 0x64, 0, 1, 0, 1, 1, 1, .w1c, 0, .all, .none, none⟩
/-- SYS_RESET_CAUSE, bits [2:2], field WRST_PIN (R446). -/
def SYS_RESET_CAUSE_WRST_PIN : Fld := ⟨0x0, 1, 0x64, 0, 1, 0, 1, 2, 2, .w1c, 0, .all, .none, none⟩
/-- SYS_RESET_CAUSE, bits [3:3], field HOST (R446). -/
def SYS_RESET_CAUSE_HOST : Fld := ⟨0x0, 1, 0x64, 0, 1, 0, 1, 3, 3, .w1c, 0, .all, .none, none⟩
/-- SYS_RESET_CAUSE, bits [4:4], field SAFE_SELF (R446). -/
def SYS_RESET_CAUSE_SAFE_SELF : Fld := ⟨0x0, 1, 0x64, 0, 1, 0, 1, 4, 4, .w1c, 0, .all, .none, none⟩
/-- SYS_RESET_CAUSE, bits [5:5], field CORE_UV (R446). -/
def SYS_RESET_CAUSE_CORE_UV : Fld := ⟨0x0, 1, 0x64, 0, 1, 0, 1, 5, 5, .w1c, 0, .all, .none, none⟩
/-- SYS_BOOT_TIME, bits [19:0], field US (R446). -/
def SYS_BOOT_TIME_US : Fld := ⟨0x0, 1, 0x68, 0, 1, 0, 1, 19, 0, .ro, 0, .all, .none, none⟩
/-- SYS_BOOTSEL, bits [1:0], field SEL (R446). -/
def SYS_BOOTSEL_SEL : Fld := ⟨0x0, 1, 0x6c, 0, 1, 0, 1, 1, 0, .ro, 0, .all, .none, none⟩
/-- SYS_GP_WAKE, bits [15:0], field EN (R446). -/
def SYS_GP_WAKE_EN : Fld := ⟨0x0, 1, 0x70, 0, 1, 0, 1, 15, 0, .rw, 0, .all, .none, none⟩
/-- SYS_GP_WAKE, bits [31:16], field LEVEL (R446). -/
def SYS_GP_WAKE_LEVEL : Fld := ⟨0x0, 1, 0x70, 0, 1, 0, 1, 31, 16, .rw, 0, .all, .none, none⟩
/-- SYS_WAKE_CAUSE, bits [1:0], field SRC (R446). -/
def SYS_WAKE_CAUSE_SRC : Fld := ⟨0x0, 1, 0x74, 0, 1, 0, 1, 1, 0, .ro, 0, .all, .none, none⟩
/-- SYS_WAKE_CAUSE, bits [7:4], field GP (R446). -/
def SYS_WAKE_CAUSE_GP : Fld := ⟨0x0, 1, 0x74, 0, 1, 0, 1, 7, 4, .ro, 0, .all, .none, none⟩
/-- SEC_OTP_STATUS, bits [0:0], field CFG_SIG_REQ (R447). -/
def SEC_OTP_STATUS_CFG_SIG_REQ : Fld := ⟨0x3, 1, 0x40, 0, 1, 0, 1, 0, 0, .ro, 0, .all, .none, none⟩
/-- SEC_OTP_STATUS, bits [2:1], field CUST_KEY (R447). -/
def SEC_OTP_STATUS_CUST_KEY : Fld := ⟨0x3, 1, 0x40, 0, 1, 0, 1, 2, 1, .ro, 0, .all, .none, none⟩
/-- SEC_OTP_STATUS, bits [4:3], field REVOKED (R447). -/
def SEC_OTP_STATUS_REVOKED : Fld := ⟨0x3, 1, 0x40, 0, 1, 0, 1, 4, 3, .ro, 0, .all, .none, none⟩
/-- SEC_OTP_STATUS, bits [11:8], field IB_OTP (R447). -/
def SEC_OTP_STATUS_IB_OTP : Fld := ⟨0x3, 1, 0x40, 0, 1, 0, 1, 11, 8, .ro, 0, .all, .none, none⟩
/-- SEC_OTP_STATUS, bits [12:12], field JTAG_DISABLE (R447). -/
def SEC_OTP_STATUS_JTAG_DISABLE : Fld := ⟨0x3, 1, 0x40, 0, 1, 0, 1, 12, 12, .ro, 0, .all, .none, none⟩
/-- SEC_FW_MIN, bits [5:0], field MIN (R447). -/
def SEC_FW_MIN_MIN : Fld := ⟨0x3, 1, 0x44, 0, 1, 0, 1, 5, 0, .ro, 0, .all, .none, none⟩
/-- SEC_UID_LO, bits [31:0], field UID (R447). -/
def SEC_UID_LO_UID : Fld := ⟨0x3, 1, 0x48, 0, 1, 0, 1, 31, 0, .ro, 0, .all, .none, none⟩
/-- SEC_UID_HI, bits [31:0], field UID (R447). -/
def SEC_UID_HI_UID : Fld := ⟨0x3, 1, 0x4c, 0, 1, 0, 1, 31, 0, .ro, 0, .all, .none, none⟩
/-- SEC_OTP_CMD, bits [3:0], field OP (R447). -/
def SEC_OTP_CMD_OP : Fld := ⟨0x3, 1, 0x50, 0, 1, 0, 1, 3, 0, .rw, 0, .all, .none, (some (0, 6))⟩
/-- SEC_OTP_CMD, bits [5:4], field INDEX (R447). -/
def SEC_OTP_CMD_INDEX : Fld := ⟨0x3, 1, 0x50, 0, 1, 0, 1, 5, 4, .rw, 0, .all, .none, none⟩
/-- SEC_OTP_CMD, bits [30:30], field BUSY (R447). -/
def SEC_OTP_CMD_BUSY : Fld := ⟨0x3, 1, 0x50, 0, 1, 0, 1, 30, 30, .ro, 0, .all, .none, none⟩
/-- SEC_OTP_CMD, bits [31:31], field GO (R447). -/
def SEC_OTP_CMD_GO : Fld := ⟨0x3, 1, 0x50, 0, 1, 0, 1, 31, 31, .sc, 0, .all, .none, none⟩
/-- SEC_OTP_RESULT, bits [1:0], field RESULT (R447). -/
def SEC_OTP_RESULT_RESULT : Fld := ⟨0x3, 1, 0x54, 0, 1, 0, 1, 1, 0, .ro, 0, .all, .none, none⟩
/-- SEC_OTP_DATAi, bits [31:0], field DATA (R447). -/
def SEC_OTP_DATA_DATA : Fld := ⟨0x3, 1, 0x60, 4, 8, 0, 1, 31, 0, .wo, 0, .all, .none, none⟩
/-- SEC_IB_CTRL, bits [3:0], field SLOT_EN (R447). -/
def SEC_IB_CTRL_SLOT_EN : Fld := ⟨0x3, 1, 0x80, 0, 1, 0, 1, 3, 0, .rw, 0, .all, .none, none⟩
/-- SEC_IB_CTRL, bits [4:4], field KLOCK (R447). -/
def SEC_IB_CTRL_KLOCK : Fld := ⟨0x3, 1, 0x80, 0, 1, 0, 1, 4, 4, .rw, 0, .all, .none, none⟩
/-- SEC_IB_SESSION, bits [31:0], field SESSION (R447). -/
def SEC_IB_SESSION_SESSION : Fld := ⟨0x3, 1, 0x84, 0, 1, 0, 1, 31, 0, .ro, 0, .all, .none, none⟩
/-- SEC_IB_KEYk, bits [31:0], field KEY (R447). -/
def SEC_IB_KEY_KEY : Fld := ⟨0x3, 1, 0x90, 16, 4, 4, 4, 31, 0, .wo, 0, .all, .none, none⟩
/-- SEC_IB_AUTH_FAIL_CNT, bits [31:0], field COUNT (R447). -/
def SEC_IB_AUTH_FAIL_CNT : Fld := ⟨0x3, 1, 0xd0, 0, 1, 0, 1, 31, 0, .ro, 0, .all, .none, none⟩
/-- SEC_IB_REPLAY_CNT, bits [31:0], field COUNT (R447). -/
def SEC_IB_REPLAY_CNT : Fld := ⟨0x3, 1, 0xd4, 0, 1, 0, 1, 31, 0, .ro, 0, .all, .none, none⟩
/-- HQ_CFG, bits [5:0], field DUMMY (R448). -/
def HQ_CFG_DUMMY : Fld := ⟨0x70, 1, 0x40, 0, 1, 0, 1, 5, 0, .rw, 8, .all, .none, (some (8, 32))⟩
/-- HQ_STATUS, bits [0:0], field LATE (R448). -/
def HQ_STATUS_LATE : Fld := ⟨0x70, 1, 0x44, 0, 1, 0, 1, 0, 0, .w1c, 0, .all, .none, none⟩
/-- HQ_STATUS, bits [1:1], field ALIGN_ERR (R448). -/
def HQ_STATUS_ALIGN_ERR : Fld := ⟨0x70, 1, 0x44, 0, 1, 0, 1, 1, 1, .w1c, 0, .all, .none, none⟩
/-- HQ_STATUS, bits [2:2], field PARTIAL (R448). -/
def HQ_STATUS_PARTIAL : Fld := ⟨0x70, 1, 0x44, 0, 1, 0, 1, 2, 2, .w1c, 0, .all, .none, none⟩
/-- HQ_LATE_CNT, bits [31:0], field COUNT (R448). -/
def HQ_LATE_CNT : Fld := ⟨0x70, 1, 0x48, 0, 1, 0, 1, 31, 0, .ro, 0, .all, .none, none⟩
/-- HQ_ERR_CNT, bits [31:0], field COUNT (R448). -/
def HQ_ERR_CNT : Fld := ⟨0x70, 1, 0x4c, 0, 1, 0, 1, 31, 0, .ro, 0, .all, .none, none⟩
/-- FL_CFG, bits [1:0], field MODE (R449). -/
def FL_CFG_MODE : Fld := ⟨0x71, 1, 0x40, 0, 1, 0, 1, 1, 0, .rw, 0, .all, .none, (some (0, 2))⟩
/-- FL_CFG, bits [7:4], field DUMMY (R449). -/
def FL_CFG_DUMMY : Fld := ⟨0x71, 1, 0x40, 0, 1, 0, 1, 7, 4, .rw, 8, .all, .none, none⟩
/-- FL_CFG, bits [11:8], field DIV (R449). -/
def FL_CFG_DIV : Fld := ⟨0x71, 1, 0x40, 0, 1, 0, 1, 11, 8, .rw, 8, .all, .none, (some (1, 8))⟩
/-- FL_STATUS, bits [0:0], field BUSY (R449). -/
def FL_STATUS_BUSY : Fld := ⟨0x71, 1, 0x44, 0, 1, 0, 1, 0, 0, .ro, 0, .all, .none, none⟩
/-- FL_STATUS, bits [1:1], field ERR (R449). -/
def FL_STATUS_ERR : Fld := ⟨0x71, 1, 0x44, 0, 1, 0, 1, 1, 1, .w1c, 0, .all, .none, none⟩
/-- FL_CMD, bits [7:0], field OPCODE (R449). -/
def FL_CMD_OPCODE : Fld := ⟨0x71, 1, 0x48, 0, 1, 0, 1, 7, 0, .rw, 0, .all, .none, none⟩
/-- FL_CMD, bits [9:8], field ADDR_BYTES (R449). -/
def FL_CMD_ADDR_BYTES : Fld := ⟨0x71, 1, 0x48, 0, 1, 0, 1, 9, 8, .rw, 0, .all, .none, (some (0, 2))⟩
/-- FL_CMD, bits [18:10], field LEN (R449). -/
def FL_CMD_LEN : Fld := ⟨0x71, 1, 0x48, 0, 1, 0, 1, 18, 10, .rw, 0, .all, .none, (some (0, 256))⟩
/-- FL_CMD, bits [19:19], field WRITE (R449). -/
def FL_CMD_WRITE : Fld := ⟨0x71, 1, 0x48, 0, 1, 0, 1, 19, 19, .rw, 0, .all, .none, none⟩
/-- FL_CMD, bits [31:31], field GO (R449). -/
def FL_CMD_GO : Fld := ⟨0x71, 1, 0x48, 0, 1, 0, 1, 31, 31, .sc, 0, .all, .none, none⟩
/-- FL_CMD_ADDR, bits [31:0], field ADDR (R449). -/
def FL_CMD_ADDR_ADDR : Fld := ⟨0x71, 1, 0x4c, 0, 1, 0, 1, 31, 0, .rw, 0, .all, .none, none⟩
/-- FL_READ_CNT, bits [31:0], field COUNT (R449). -/
def FL_READ_CNT : Fld := ⟨0x71, 1, 0x50, 0, 1, 0, 1, 31, 0, .ro, 0, .all, .none, none⟩
/-- FL_ERR_CNT, bits [31:0], field COUNT (R449). -/
def FL_ERR_CNT : Fld := ⟨0x71, 1, 0x54, 0, 1, 0, 1, 31, 0, .ro, 0, .all, .none, none⟩
/-- FL_BUFi, bits [31:0], field DATA (R449). -/
def FL_BUF_DATA : Fld := ⟨0x71, 1, 0x100, 4, 64, 0, 1, 31, 0, .rw, 0, .all, .none, none⟩
/-- EVT_CTRL, bits [0:0], field IRQ0_OD (R468). -/
def EVT_CTRL_IRQ0_OD : Fld := ⟨0x1, 1, 0x40, 0, 1, 0, 1, 0, 0, .rw, 0, .all, .none, none⟩
/-- EVT_CTRL, bits [1:1], field IRQ1_OD (R468). -/
def EVT_CTRL_IRQ1_OD : Fld := ⟨0x1, 1, 0x40, 0, 1, 0, 1, 1, 1, .rw, 0, .all, .none, none⟩
/-- EVT_CTRL, bits [2:2], field FATAL_IRQ (R468). -/
def EVT_CTRL_FATAL_IRQ : Fld := ⟨0x1, 1, 0x40, 0, 1, 0, 1, 2, 2, .rw, 1, .all, .none, none⟩
/-- EVT_CTRL, bits [3:3], field AUTO_WRST (R468). -/
def EVT_CTRL_AUTO_WRST : Fld := ⟨0x1, 1, 0x40, 0, 1, 0, 1, 3, 3, .rw, 0, .all, .none, none⟩
/-- EVT_CTRL, bits [15:8], field AUTO_WRST_S (R468). -/
def EVT_CTRL_AUTO_WRST_S : Fld := ⟨0x1, 1, 0x40, 0, 1, 0, 1, 15, 8, .rw, 30, .all, .none, (some (1, 255))⟩
/-- EVT_IRQ_STATUS, bits [0:0], field IRQ0 (R468). -/
def EVT_IRQ_STATUS_IRQ0 : Fld := ⟨0x1, 1, 0x44, 0, 1, 0, 1, 0, 0, .ro, 0, .all, .none, none⟩
/-- EVT_IRQ_STATUS, bits [1:1], field IRQ1 (R468). -/
def EVT_IRQ_STATUS_IRQ1 : Fld := ⟨0x1, 1, 0x44, 0, 1, 0, 1, 1, 1, .ro, 0, .all, .none, none⟩
/-- EVT_FATAL, bits [3:0], field CAUSE (R468). -/
def EVT_FATAL_CAUSE : Fld := ⟨0x1, 1, 0x48, 0, 1, 0, 1, 3, 0, .ro, 0, .all, .none, none⟩
/-- EVT_FATAL, bits [31:31], field VALID (R468). -/
def EVT_FATAL_VALID : Fld := ⟨0x1, 1, 0x48, 0, 1, 0, 1, 31, 31, .w1c, 0, .all, .none, none⟩
/-- EVT_FATAL_TICK, bits [31:0], field TICK (R468). -/
def EVT_FATAL_TICK_TICK : Fld := ⟨0x1, 1, 0x4c, 0, 1, 0, 1, 31, 0, .ro, 0, .all, .none, none⟩
/-- EVT_LAST, bits [6:0], field EVENT (R468). -/
def EVT_LAST_EVENT : Fld := ⟨0x1, 1, 0x50, 0, 1, 0, 1, 6, 0, .ro, 0, .all, .none, none⟩
/-- EVT_LAST_TICK, bits [31:0], field TICK (R468). -/
def EVT_LAST_TICK_TICK : Fld := ⟨0x1, 1, 0x54, 0, 1, 0, 1, 31, 0, .ro, 0, .all, .none, none⟩
/-- EVT_RAWk, bits [31:0], field RAW (R468). -/
def EVT_RAW_RAW : Fld := ⟨0x1, 1, 0x60, 4, 3, 0, 1, 31, 0, .ro, 0, .all, .none, none⟩
/-- EVT_STICKYk, bits [31:0], field STICKY (R468). -/
def EVT_STICKY_STICKY : Fld := ⟨0x1, 1, 0x70, 4, 3, 0, 1, 31, 0, .w1c, 0, .all, .none, none⟩
/-- EVT_ENABLEk, bits [31:0], field ENABLE (R468). -/
def EVT_ENABLE_ENABLE : Fld := ⟨0x1, 1, 0x80, 4, 3, 0, 1, 31, 0, .rw, 3, .only 0, .none, none⟩
/-- EVT_ROUTEk, bits [31:0], field ROUTE (R468). -/
def EVT_ROUTE_ROUTE : Fld := ⟨0x1, 1, 0x90, 4, 6, 0, 1, 31, 0, .rw, 0, .all, .none, none⟩
/-- EVT_LOG_MASKk, bits [31:0], field MASK (R468). -/
def EVT_LOG_MASK_MASK : Fld := ⟨0x1, 1, 0xb0, 4, 3, 0, 1, 31, 0, .rw, 0, .all, .none, none⟩
/-- EVT_LOG_BASE, bits [31:12], field BASE (R468). -/
def EVT_LOG_BASE_BASE : Fld := ⟨0x1, 1, 0xc0, 0, 1, 0, 1, 31, 12, .rw, 0, .all, .none, none⟩
/-- EVT_LOG_CTRL, bits [12:0], field ENTRIES (R468). -/
def EVT_LOG_CTRL_ENTRIES : Fld := ⟨0x1, 1, 0xc4, 0, 1, 0, 1, 12, 0, .rw, 256, .all, .none, (some (16, 4096))⟩
/-- EVT_LOG_CTRL, bits [31:31], field EN (R468). -/
def EVT_LOG_CTRL_EN : Fld := ⟨0x1, 1, 0xc4, 0, 1, 0, 1, 31, 31, .rw, 0, .all, .none, none⟩
/-- EVT_LOG_HEAD, bits [11:0], field INDEX (R468). -/
def EVT_LOG_HEAD_INDEX : Fld := ⟨0x1, 1, 0xc8, 0, 1, 0, 1, 11, 0, .ro, 0, .all, .none, none⟩
/-- EVT_LOG_SEQ, bits [31:0], field COUNT (R468). -/
def EVT_LOG_SEQ : Fld := ⟨0x1, 1, 0xcc, 0, 1, 0, 1, 31, 0, .ro, 0, .all, .none, none⟩
/-- GPIO_OE, bits [15:0], field OE (R481). -/
def GPIO_OE_OE : Fld := ⟨0x72, 1, 0x40, 0, 1, 0, 1, 15, 0, .rws, 0, .all, .none, none⟩
/-- GPIO_OD, bits [15:0], field OD (R481). -/
def GPIO_OD_OD : Fld := ⟨0x72, 1, 0x44, 0, 1, 0, 1, 15, 0, .rws, 0, .all, .none, none⟩
/-- GPIO_OUT, bits [15:0], field OUT (R481). -/
def GPIO_OUT_OUT : Fld := ⟨0x72, 1, 0x48, 0, 1, 0, 1, 15, 0, .rw, 0, .all, .none, none⟩
/-- GPIO_IN, bits [15:0], field IN (R481). -/
def GPIO_IN_IN : Fld := ⟨0x72, 1, 0x4c, 0, 1, 0, 1, 15, 0, .ro, 0, .all, .none, none⟩
/-- GPIO_EV_CFG, bits [15:0], field RISE (R481). -/
def GPIO_EV_CFG_RISE : Fld := ⟨0x72, 1, 0x50, 0, 1, 0, 1, 15, 0, .rw, 0, .all, .none, none⟩
/-- GPIO_EV_CFG, bits [31:16], field FALL (R481). -/
def GPIO_EV_CFG_FALL : Fld := ⟨0x72, 1, 0x50, 0, 1, 0, 1, 31, 16, .rw, 0, .all, .none, none⟩
/-- GPIO_EV_SRC, bits [15:0], field EDGE (R481). -/
def GPIO_EV_SRC_EDGE : Fld := ⟨0x72, 1, 0x54, 0, 1, 0, 1, 15, 0, .w1c, 0, .all, .none, none⟩
/-- SUP_CORE_MEAS, bits [11:0], field MV (R512). -/
def SUP_CORE_MEAS_MV : Fld := ⟨0x4, 1, 0x40, 0, 1, 0, 1, 11, 0, .ro, 0, .all, .none, none⟩
/-- SUP_SM_MEAS, bits [11:0], field MV (R512). -/
def SUP_SM_MEAS_MV : Fld := ⟨0x4, 1, 0x44, 0, 1, 0, 1, 11, 0, .ro, 0, .all, .none, none⟩
/-- SUP_SD_MEAS, bits [11:0], field SD (R512). -/
def SUP_SD_MEAS_SD : Fld := ⟨0x4, 1, 0x48, 0, 1, 0, 1, 11, 0, .ro, 0, .all, .none, none⟩
/-- SUP_SD_MEAS, bits [27:16], field SDA (R512). -/
def SUP_SD_MEAS_SDA : Fld := ⟨0x4, 1, 0x48, 0, 1, 0, 1, 27, 16, .ro, 0, .all, .none, none⟩
/-- SUP_IO_MEAS, bits [11:0], field IOA (R512). -/
def SUP_IO_MEAS_IOA : Fld := ⟨0x4, 1, 0x4c, 0, 1, 0, 1, 11, 0, .ro, 0, .all, .none, none⟩
/-- SUP_IO_MEAS, bits [27:16], field IOB (R512). -/
def SUP_IO_MEAS_IOB : Fld := ⟨0x4, 1, 0x4c, 0, 1, 0, 1, 27, 16, .ro, 0, .all, .none, none⟩
/-- SUP_LOGIC_STATUS, bits [0:0], field SM_WARN (R512). -/
def SUP_LOGIC_STATUS_SM_WARN : Fld := ⟨0x4, 1, 0x50, 0, 1, 0, 1, 0, 0, .ro, 0, .all, .none, none⟩
/-- SUP_LOGIC_STATUS, bits [1:1], field SD_WARN (R512). -/
def SUP_LOGIC_STATUS_SD_WARN : Fld := ⟨0x4, 1, 0x50, 0, 1, 0, 1, 1, 1, .ro, 0, .all, .none, none⟩
/-- SUP_LOGIC_STATUS, bits [2:2], field PLL_WARN (R512). -/
def SUP_LOGIC_STATUS_PLL_WARN : Fld := ⟨0x4, 1, 0x50, 0, 1, 0, 1, 2, 2, .ro, 0, .all, .none, none⟩
/-- SUP_LOGIC_STATUS, bits [3:3], field IOA_WARN (R512). -/
def SUP_LOGIC_STATUS_IOA_WARN : Fld := ⟨0x4, 1, 0x50, 0, 1, 0, 1, 3, 3, .ro, 0, .all, .none, none⟩
/-- SUP_LOGIC_STATUS, bits [4:4], field IOB_WARN (R512). -/
def SUP_LOGIC_STATUS_IOB_WARN : Fld := ⟨0x4, 1, 0x50, 0, 1, 0, 1, 4, 4, .ro, 0, .all, .none, none⟩
/-- SUP_LOGIC_STATUS, bits [5:5], field T1S_WARN (R512). -/
def SUP_LOGIC_STATUS_T1S_WARN : Fld := ⟨0x4, 1, 0x50, 0, 1, 0, 1, 5, 5, .ro, 0, .all, .none, none⟩
/-- SUP_LOGIC_STATUS, bits [6:6], field VDD5_WARN (R512). -/
def SUP_LOGIC_STATUS_VDD5_WARN : Fld := ⟨0x4, 1, 0x50, 0, 1, 0, 1, 6, 6, .ro, 0, .all, .none, none⟩
/-- SUP_LOGIC_STATUS, bits [7:7], field VDD5_STOP (R512). -/
def SUP_LOGIC_STATUS_VDD5_STOP : Fld := ⟨0x4, 1, 0x50, 0, 1, 0, 1, 7, 7, .ro, 0, .all, .none, none⟩
/-- SUP_LOGIC_STATUS, bits [8:8], field IOB_33 (R512). -/
def SUP_LOGIC_STATUS_IOB_33 : Fld := ⟨0x4, 1, 0x50, 0, 1, 0, 1, 8, 8, .ro, 0, .all, .none, none⟩
/-- SUP_LOGIC_STATUS, bits [22:16], field WARN_SEEN (R512). -/
def SUP_LOGIC_STATUS_WARN_SEEN : Fld := ⟨0x4, 1, 0x50, 0, 1, 0, 1, 22, 16, .w1c, 0, .all, .none, none⟩
/-- SUP_LOGIC_STATUS, bits [23:23], field VDD5_STOP_SEEN (R512). -/
def SUP_LOGIC_STATUS_VDD5_STOP_SEEN : Fld := ⟨0x4, 1, 0x50, 0, 1, 0, 1, 23, 23, .w1c, 0, .all, .none, none⟩
/-- TEMP_LOGIC, bits [10:0], field TEMP (R513). -/
def TEMP_LOGIC_TEMP : Fld := ⟨0x5, 1, 0x40, 0, 1, 0, 1, 10, 0, .ro, 0, .all, .none, none⟩
/-- TEMP_POWER, bits [10:0], field TEMP (R513). -/
def TEMP_POWER_TEMP : Fld := ⟨0x5, 1, 0x44, 0, 1, 0, 1, 10, 0, .ro, 0, .all, .none, none⟩
/-- TEMP_THRESH, bits [7:0], field LOGIC_WARN (R513). -/
def TEMP_THRESH_LOGIC_WARN : Fld := ⟨0x5, 1, 0x48, 0, 1, 0, 1, 7, 0, .rw, 115, .all, .none, (some (85, 130))⟩
/-- TEMP_THRESH, bits [15:8], field POWER_WARN (R513). -/
def TEMP_THRESH_POWER_WARN : Fld := ⟨0x5, 1, 0x48, 0, 1, 0, 1, 15, 8, .rw, 130, .all, .none, (some (85, 145))⟩
/-- TEMP_STATUS, bits [0:0], field LOGIC_WARN (R513). -/
def TEMP_STATUS_LOGIC_WARN : Fld := ⟨0x5, 1, 0x4c, 0, 1, 0, 1, 0, 0, .ro, 0, .all, .none, none⟩
/-- TEMP_STATUS, bits [1:1], field POWER_WARN (R513). -/
def TEMP_STATUS_POWER_WARN : Fld := ⟨0x5, 1, 0x4c, 0, 1, 0, 1, 1, 1, .ro, 0, .all, .none, none⟩
/-- TEMP_STATUS, bits [2:2], field POWER_SHUT (R513). -/
def TEMP_STATUS_POWER_SHUT : Fld := ⟨0x5, 1, 0x4c, 0, 1, 0, 1, 2, 2, .ro, 0, .all, .none, none⟩
/-- TEMP_STATUS, bits [8:8], field WARN_SEEN (R513). -/
def TEMP_STATUS_WARN_SEEN : Fld := ⟨0x5, 1, 0x4c, 0, 1, 0, 1, 8, 8, .w1c, 0, .all, .none, none⟩
/-- TEMP_STATUS, bits [9:9], field LOGIC_CRIT_SEEN (R513). -/
def TEMP_STATUS_LOGIC_CRIT_SEEN : Fld := ⟨0x5, 1, 0x4c, 0, 1, 0, 1, 9, 9, .w1c, 0, .all, .none, none⟩
/-- TEMP_STATUS, bits [10:10], field POWER_CRIT_SEEN (R513). -/
def TEMP_STATUS_POWER_CRIT_SEEN : Fld := ⟨0x5, 1, 0x4c, 0, 1, 0, 1, 10, 10, .w1c, 0, .all, .none, none⟩
/-- Fields of page 0x48 (and its instance pages), part 0. -/
def fields48_0 : List Fld :=
  [TICK_NUM_LO_NUM, TICK_NUM_HI_NUM, TICK_SIDX_LO_SIDX, TICK_SIDX_HI_SIDX, TICK_PHASE_CYCLE, TICK_CTRL_REEPOCH, TICK_CTRL_CNT_CLR, TICK_CTRL_STORM_N, TICK_STATUS_EPOCH_VALID, TICK_STATUS_EPOCH_SET, TICK_STATUS_FALLBACK, TICK_STATUS_STORM, TICK_CATREV_REV, TICK_CUT_ADDR_ADDR, TICK_CUT_LEN_LEN, TICK_LAST_OVERRUN_ENGINE, TICK_LAST_OVERRUN_TICK, ENG_COST_COST, ENG_PEAK_PEAK, TICK_OVERRUN_CNT]
/-- All fields whose instance 0 is on page 0x48. -/
def fields48 : List Fld := fields48_0
/-- Fields of page 0x00 (and its instance pages), part 0. -/
def fields00_0 : List Fld :=
  [SYS_FENCE_START, SYS_FENCE_DONE_DONE, SYS_GROUP_COMMIT_GO, SYS_COMMIT_STATUS_REASON, SYS_COMMIT_STATUS_PAGE, SYS_COMMIT_STATUS_QUEUED, SYS_COMMIT_STATUS_LAST_OK, SYS_COMMIT_TICK_TICK, SYS_STATE_STATE, SYS_CTRL_START, SYS_CTRL_STOP, SYS_CTRL_LOAD, SYS_CTRL_WRESET, SYS_CTRL_SLEEP, SYS_HOLD_REASON_REASON, SYS_HOLD_REASON_DETAIL_HI, SYS_HOLD_REASON_DETAIL, SYS_LOAD_ADDR_ADDR, SYS_LOAD_LEN_LEN, SYS_DEVICE_ID_ID, SYS_IMG_INFO_AUTOSTART, SYS_IMG_INFO_PAIR_LATENCY, SYS_IMG_INFO_SIGNED, SYS_IMG_INFO_KEY_INDEX]
/-- Fields of page 0x00 (and its instance pages), part 1. -/
def fields00_1 : List Fld :=
  [SYS_IMG_BUILD_BUILD, SYS_IMG_SYSTEM_SYSTEM_ID, SYS_RESET_CAUSE_POR, SYS_RESET_CAUSE_PORST, SYS_RESET_CAUSE_WRST_PIN, SYS_RESET_CAUSE_HOST, SYS_RESET_CAUSE_SAFE_SELF, SYS_RESET_CAUSE_CORE_UV, SYS_BOOT_TIME_US, SYS_BOOTSEL_SEL, SYS_GP_WAKE_EN, SYS_GP_WAKE_LEVEL, SYS_WAKE_CAUSE_SRC, SYS_WAKE_CAUSE_GP]
/-- All fields whose instance 0 is on page 0x00. -/
def fields00 : List Fld := fields00_0 ++ fields00_1
/-- Fields of page 0x02 (and its instance pages), part 0. -/
def fields02_0 : List Fld :=
  [PROT_BASE_VALID, PROT_BASE_BASE, PROT_SIZE_PAGES, PROT_PERM_HQ, PROT_PERM_IB, PROT_PERM_SP, PROT_PERM_ENG, PROT_PERM_SDMA, PROT_PERM_FDMA, PROT_CTRL_LOCK, PROT_DENY_ADDR_ADDR, PROT_DENY_INFO_CLASS, PROT_DENY_INFO_WRITE, PROT_DENY_INFO_VALID, PROT_DENY_CNT]
/-- All fields whose instance 0 is on page 0x02. -/
def fields02 : List Fld := fields02_0
/-- Fields of page 0x20 (and its instance pages), part 0. -/
def fields20_0 : List Fld :=
  [STRX_CTRL_CNT_CLR, STRX_CTRL_STARVE_TICKS, STRX_SEL_ENTRY, STRX_RING_BASE_BASE, STRX_RING_SIZE_PAGES, STRX_ADMIT_STATUS_ENTRY, STRX_ADMIT_STATUS_REASON, STRX_ADMIT_STATUS_VALID, STRX_USAGE_CHANNELS, STRX_USAGE_RING_PAGES, STRX_ALIGN_POLICY_LO_JOINT, STRX_ALIGN_POLICY_HI_JOINT, STRX_ALIGN_BREAK_LO_BREAK, STRX_ALIGN_BREAK_HI_BREAK, STRX_ENTRY0_SID_LO, STRX_ENTRY1_SID_HI, STRX_ENTRY2_FORMAT, STRX_ENTRY2_CHANNELS, STRX_ENTRY2_FIRST_CHAN, STRX_ENTRY2_NONAUDIO_EN, STRX_ENTRY2_ALIGN, STRX_ENTRY2_ACMP_BIND, STRX_ENTRY2_ENABLE, STRX_ENTRY3_DEPTH]
/-- Fields of page 0x20 (and its instance pages), part 1. -/
def fields20_1 : List Fld :=
  [STRX_ENTRY3_DUP_WIN, STRX_ENTRY3_RATE, STRX_ENTRY3_ASRC_GROUP, STRX_ENTRY3_CRF_INDEX, STRX_ENTRY4_PRES_OFFSET, STRX_ENTRY5_TS_OFFSET, STRX_ENTRY6_PT, STRX_ENTRY6_SSRC_CHK, STRX_ENTRY7_SSRC, STRX_STAT0_STATE, STRX_STAT0_NONAUDIO, STRX_STAT0_ASRC_LOCK, STRX_STAT0_REASON, STRX_STAT1_RING_ADDR, STRX_STAT2_PKT_CNT, STRX_STAT3_DUP_CNT, STRX_STAT4_LATE_CNT, STRX_STAT4_EARLY_CNT, STRX_STAT5_UNDERRUN_CNT, STRX_STAT6_MISSING_SMP_CNT, STRX_STAT7_DUP_ANOM_CNT, STRX_STAT7_FMT_ERR_CNT]
/-- All fields whose instance 0 is on page 0x20. -/
def fields20 : List Fld := fields20_0 ++ fields20_1
/-- Fields of page 0x21 (and its instance pages), part 0. -/
def fields21_0 : List Fld :=
  [STTX_CTRL_CNT_CLR, STTX_SEL_ENTRY, TX_ADMIT_STATUS_ENTRY, TX_ADMIT_STATUS_REASON, TX_ADMIT_STATUS_PORT, TX_ADMIT_STATUS_VALID, STTX_BW_A_KBPS, STTX_BW_B_KBPS, STTX_ENTRY0_SID_LO, STTX_ENTRY1_SID_HI, STTX_ENTRY2_MAC_LO, STTX_ENTRY3_MAC_HI, STTX_ENTRY3_VID, STTX_ENTRY3_PCP, STTX_ENTRY3_CLASS, STTX_ENTRY4_FORMAT, STTX_ENTRY4_CHANNELS, STTX_ENTRY4_FIRST_CHAN, STTX_ENTRY4_SPP, STTX_ENTRY4_PAIR_MODE, STTX_ENTRY4_SAP_EN, STTX_ENTRY4_ENABLE, STTX_ENTRY5_PRES_OFFSET, STTX_ENTRY5_EGRESS]
/-- Fields of page 0x21 (and its instance pages), part 1. -/
def fields21_1 : List Fld :=
  [STTX_ENTRY6_SSRC, STTX_ENTRY7_SEQ_BASE, STTX_ENTRY7_PT, STTX_ENTRY7_DSCP, STTX_ENTRY8_TS_OFFSET, STTX_ENTRY9_CRF_INTERVAL, STTX_ENTRY9_CRF_PER_PDU, STTX_ENTRY10_RESERVED, STTX_ENTRY11_RESERVED, STTX_STAT0_STATE, STTX_STAT0_REASON, STTX_STAT1_PKT_CNT, STTX_STAT2_SUPPRESSED_CNT, STTX_STAT3_PORT_DROP_CNT, STTX_STAT4_LAST_SEQ, STTX_STAT5_LAST_S0]
/-- All fields whose instance 0 is on page 0x21. -/
def fields21 : List Fld := fields21_0 ++ fields21_1
/-- Fields of page 0x22 (and its instance pages), part 0. -/
def fields22_0 : List Fld :=
  [AVTP_CTRL_RX_EN, AVTP_CTRL_TX_EN, AVTP_CTRL_SPARSE_RX, AVTP_CTRL_CNT_CLR, AVTP_CRF_STATUS_LOCK, AVTP_CRF_STATUS_LOCK_CHG, AVTP_UNKNOWN_CNT, AVTP_HDR_ERR_CNT, AVTP_CRF_TS_TS, AVTP_CRF_WIN_NS]
/-- All fields whose instance 0 is on page 0x22. -/
def fields22 : List Fld := fields22_0
/-- Fields of page 0x23 (and its instance pages), part 0. -/
def fields23_0 : List Fld :=
  [RTP_CTRL_EN, RTP_CTRL_SAP_TX_EN, RTP_CTRL_SAP_RX_EN, RTP_CTRL_IGMP_V2, RTP_CTRL_CNT_CLR, RTP_IPADDR_ADDR, RTP_IPMASK_MASK, RTP_GATEWAY_ADDR, RTP_IFMASK_PORTS, RTP_IFMASK_TTL, RTP_SAP_CTRL_INTERVAL_S, RTP_DISC_BASE_BASE, RTP_DISC_COUNT, RTP_RX_UNMATCHED_CNT, RTP_HDR_ERR_CNT, RTP_RTCP_CNT, RTP_SSRC_REJ_CNT]
/-- All fields whose instance 0 is on page 0x23. -/
def fields23 : List Fld := fields23_0
/-- Fields of page 0x24 (and its instance pages), part 0. -/
def fields24_0 : List Fld :=
  [AVD_CTRL_EN, AVD_CTRL_ADP_EN, AVD_CTRL_ACMP_EN, AVD_CTRL_AECP_EN, AVD_CTRL_VALID_TIME, AVD_ENTITY_ID_LO_ID, AVD_ENTITY_ID_HI_ID, AVD_MODEL_ID_LO_ID, AVD_MODEL_ID_HI_ID, AVD_STATUS_ACQUIRED, AVD_STATUS_LOCKED, AVD_STATUS_ADVERTISING, AVD_AVAIL_INDEX_INDEX, AVD_OWNER_LO_ID, AVD_OWNER_HI_ID, AVD_LAST_ACMP_MSG, AVD_LAST_ACMP_STATUS, AVD_LAST_ACMP_ENTRY, AVD_AECP_UNSUP_CNT]
/-- All fields whose instance 0 is on page 0x24. -/
def fields24 : List Fld := fields24_0
/-- Fields of page 0x10 (and its instance pages), part 0. -/
def fields10_0 : List Fld :=
  [MAC_CTRL_MODE, MAC_CTRL_AN_EN, MAC_CTRL_CUT_THRU, MAC_CTRL_PAUSE_GEN, MAC_CTRL_PAUSE_HONOUR, MAC_CTRL_CNT_CLR, MAC_FRAME_MAX_LEN, MAC_STATUS_LINK, MAC_STATUS_SPEED, MAC_STATUS_AN_DONE, MAC_STATUS_RX_PAUSED, MAC_STATUS_TX_PAUSE_ACTIVE, MAC_STATUS_LINK_CHG, MAC_STATUS_PARTNER_PAUSE, MAC_STATUS_PFC_PAUSED, MAC_ADDR_LO_ADDR, MAC_ADDR_HI_ADDR, MAC_PAUSE_CFG_QUANTA, MAC_PAUSE_CFG_PFC_PRIO, MAC_WATERMARK_HIGH_PCT, MAC_WATERMARK_LOW_PCT, MAC_POOL_FILL_BE_PCT, MAC_POOL_FILL_BE_PEAK_PCT, MAC_ERR_SRC_RUNT]
/-- Fields of page 0x10 (and its instance pages), part 1. -/
def fields10_1 : List Fld :=
  [MAC_ERR_SRC_OVERSIZE, MAC_ERR_SRC_FCS, MAC_ERR_SRC_SYM, MAC_ERR_SRC_STOMP, MAC_PHY_PHY_ADDR, MAC_PHY_POLL_EN, MAC_PHY_CL45, MAC_PHY_PHY_LINK, RX_OK_CNT, TX_OK_CNT, RUNT_CNT, OVERSIZE_CNT, FCS_ERR_CNT, SYM_ERR_CNT, STOMP_CNT, PAUSE_TX_CNT, PAUSE_RX_CNT, MACCTL_UNK_CNT, BE_DROP_CNT, RES_DROP_CNT, TXERR_CNT, STATE_DISC_CNT, MDIO_CMD_OP, MDIO_CMD_PHYAD]
/-- Fields of page 0x10 (and its instance pages), part 2. -/
def fields10_2 : List Fld :=
  [MDIO_CMD_REG_DEV, MDIO_CMD_BUSY, MDIO_CMD_GO, MDIO_DATA_DATA]
/-- All fields whose instance 0 is on page 0x10. -/
def fields10 : List Fld := fields10_0 ++ fields10_1 ++ fields10_2
/-- Fields of page 0x16 (and its instance pages), part 0. -/
def fields16_0 : List Fld :=
  [PLCA_CTRL_EN, PLCA_CTRL_NODE_ID, PLCA_CTRL_STBY_NODE_ID, PLCA_CTRL_NODE_COUNT, PLCA_TIMERS_TO_TIMER, PLCA_TIMERS_BURST_CNT, PLCA_TIMERS_BURST_TIMER, PLCA_STATUS_ACTIVE, PLCA_STATUS_COORDINATOR, PLCA_STATUS_BEACON_LOST, PLCA_STATUS_UNEXP_COL, PLCA_STATUS_DUP_COORD, PLCA_STATUS_CUR_NODE_ID, BEACON_LOST_CNT, UNEXP_COL_CNT, EXCESS_COL_CNT, DUP_COORD_CNT]
/-- All fields whose instance 0 is on page 0x16. -/
def fields16 : List Fld := fields16_0
/-- Fields of page 0x1C (and its instance pages), part 0. -/
def fields1C_0 : List Fld :=
  [WAKE_CTRL_EN, WAKE_STATUS_PATTERN, WAKE_STATUS_PORT, WAKE_STATUS_VALID, WAKE_HIT_HIT, WAKE_PAT_CFG_OFFSET, WAKE_PAT_CFG_EN, WAKE_PAT_CFG_PORTS, WAKE_PAT_CRC_CHECK, WAKE_PAT_MASK0_MASK, WAKE_PAT_MASK1_MASK, WAKE_PAT_MASK2_MASK, WAKE_PAT_MASK3_MASK]
/-- All fields whose instance 0 is on page 0x1C. -/
def fields1C : List Fld := fields1C_0
/-- Fields of page 0x18 (and its instance pages), part 0. -/
def fields18_0 : List Fld :=
  [BR_CTRL_LEARN_EN, BR_CTRL_MC_FLOOD, BR_CTRL_UC_FLOOD, BR_CTRL_CNT_CLR, BR_AGE_SECONDS, BR_BUF_BASE_BASE, BR_BUF_SIZE_PAGES, BR_PCP_MAP_MAP, BR_CLASS_TC_A, BR_CLASS_TC_B, BR_PORT_SEL_PORT, BR_PORT_CFG_PVID, BR_PORT_CFG_INGRESS_FILT, BR_PORT_CFG_LEARN, BR_PORT_CFG_STP_STATE, BR_PORT_CFG2_BE_PAGES, BR_PORT_CFG2_RES_PAGES, BR_PORT_CFG2_BR_EGQ_LIMIT, BR_STATUS_POOL_SHORT, BR_VLAN_SEL_VID, BR_VLAN_CFG_MEMBER, BR_VLAN_CFG_UNTAG, BR_FDB_CMD_OP, BR_FDB_CMD_BUSY]
/-- Fields of page 0x18 (and its instance pages), part 1. -/
def fields18_1 : List Fld :=
  [BR_FDB_CMD_GO, BR_FDB_MAC_LO_MAC, BR_FDB_MAC_HI_MAC, BR_FDB_MAC_HI_VID, BR_FDB_DATA_PORTS, BR_FDB_DATA_STATIC, BR_FDB_DATA_FOUND, BR_FDB_COUNT_ENTRIES, BR_HTX_BASE_BASE, BR_HTX_CTRL_ENTRIES, BR_HTX_CTRL_EN, BR_HTX_TAIL_INDEX, BR_HTX_HEAD_INDEX, BR_HRX_BASE_BASE, BR_HRX_CTRL_ENTRIES, BR_HRX_CTRL_EN, BR_HRX_TAIL_INDEX, BR_HRX_HEAD_INDEX, BR_LEARN_FULL_CNT, BR_VLAN_DROP_CNT, BR_HRX_DROP_CNT, BR_EGR_DROP_CNT]
/-- All fields whose instance 0 is on page 0x18. -/
def fields18 : List Fld := fields18_0 ++ fields18_1
/-- Fields of page 0x19 (and its instance pages), part 0. -/
def fields19_0 : List Fld :=
  [TSN_SEL_PORT, TSN_RES_A_KBPS, TSN_RES_B_KBPS, TSN_EFF_A_KBPS, TSN_EFF_B_KBPS, TSN_TAS_CTRL_EN, TSN_TAS_BASE_LO_NS, TSN_TAS_BASE_HI_NS, TSN_TAS_CYCLE_NS, TSN_TAS_LEN_ENTRIES, TSN_GCL_SEL_ENTRY, TSN_GCL_GATES_GATES, TSN_GCL_INTERVAL_NS, TSN_TAS_STATUS_OPER, TSN_TAS_STATUS_PENDING, TSN_TAS_STATUS_NO_TIME, TSN_TAS_STATUS_CFG_ERR, TSN_TAS_STATUS_GATES, TSN_TAS_OVERSIZE_CNT, TSN_SF_SEL_FILTER, TSN_SF_MAC_LO_MAC, TSN_SF_MAC_HI_MAC, TSN_SF_MAC_HI_VID, TSN_SF_MAC_HI_EN]
/-- Fields of page 0x19 (and its instance pages), part 1. -/
def fields19_1 : List Fld :=
  [TSN_SF_CFG_MAX_SDU, TSN_SF_CFG_METER, TSN_SF_CFG_METER_EN, TSN_SF_CFG_BLOCK_OVS, TSN_SF_CFG_PORTS, TSN_SF_MATCH_CNT, TSN_SF_SDU_DROP_CNT, TSN_SF_METER_DROP_CNT, TSN_SF_STATUS_BLOCKED, TSN_FM_SEL_METER, TSN_FM_CIR_KBPS, TSN_FM_CBS_BYTES]
/-- All fields whose instance 0 is on page 0x19. -/
def fields19 : List Fld := fields19_0 ++ fields19_1
/-- Fields of page 0x1A (and its instance pages), part 0. -/
def fields1A_0 : List Fld :=
  [FRER_CTRL_CNT_CLR, FRER_SEL_ENTRY, FRER_ID_LO_MAC, FRER_ID_HI_MAC, FRER_ID_HI_VID, FRER_ID_HI_EN, FRER_CFG_RECOVER, FRER_CFG_POP, FRER_CFG_RESET_MS, FRER_PASSED_CNT, FRER_DISCARDED_CNT, FRER_OOO_CNT, FRER_ROGUE_CNT, FRER_LOST_CNT, FRER_RESETS_CNT, FRER_TAGLESS_CNT, FRER_EVT_ENTRY, FRER_EVT_VALID]
/-- All fields whose instance 0 is on page 0x1A. -/
def fields1A : List Fld := fields1A_0
/-- Fields of page 0x1B (and its instance pages), part 0. -/
def fields1B_0 : List Fld :=
  [PTP_CTRL_EN, PTP_CTRL_PROFILE, PTP_CTRL_GM_CAPABLE, PTP_CTRL_ONE_STEP, PTP_CTRL_CNT_CLR, PTP_DOMAIN_DOMAIN, PTP_DOMAIN_PRIORITY1, PTP_DOMAIN_PRIORITY2, PTP_CLOCKQ_CLASS, PTP_CLOCKQ_ACCURACY, PTP_CLOCKQ_VARIANCE, PTP_INTERVALS_LOG_SYNC, PTP_INTERVALS_LOG_ANNOUNCE, PTP_INTERVALS_LOG_DELAY, PTP_INTERVALS_SYNC_TIMEOUT, PTP_INTERVALS_ANN_TIMEOUT, PTP_PORT_EN_PORTS, PTP_LINK_THRESH_NS, PTP_PORT_SEL_PORT, PTP_LAT_RX_DELAY, PTP_LAT_TX_DELAY, PTP_PORT_STATUS_STATE, PTP_PORT_STATUS_AS_CAPABLE, PTP_MEAN_DELAY_PS]
/-- Fields of page 0x1B (and its instance pages), part 1. -/
def fields1B_1 : List Fld :=
  [PTP_NRR_PPB, PTP_GM_ID_LO_ID, PTP_GM_ID_HI_ID, PTP_STATUS_SYNCED, PTP_STATUS_IS_GM, PTP_STATUS_STEPS_REMOVED, PTP_OFFSET_NS, PTP_RATE_PPB, PTP_RX_CNT, PTP_TX_CNT, PTP_ERR_CNT]
/-- All fields whose instance 0 is on page 0x1B. -/
def fields1B : List Fld := fields1B_0 ++ fields1B_1
/-- Fields of page 0x08 (and its instance pages), part 0. -/
def fields08_0 : List Fld :=
  [PLUMB_CTRL_BW, PLUMB_CTRL_REVERTIVE, PLUMB_CTRL_CNT_CLR, PLUMB_SLOPE_PULL_SLOPE, PLUMB_SLOPE_IDLE_SLOPE, PLUMB_WTR_SECONDS, PLUMB_HOLD_CFG_MAX_OFFSET, PLUMB_HOLD_CFG_HOLD_AVG, PLUMB_STATUS_STATE, PLUMB_STATUS_SEL, PLUMB_STATUS_HOLD_VALID, PLUMB_STATUS_SATURATED, PLUMB_STATUS_IDLE, PLUMB_PHASE_ERR_NS, PLUMB_FREQ_Y, PLUMB_HOLD_EST_EST, PLUMB_HOLD_TIME_SECONDS, PLUMB_LAST_CHANGE_FROM, PLUMB_LAST_CHANGE_TO, PLUMB_LAST_CHANGE_CAUSE, PLUMB_LAST_CHANGE_VALID, PLUMB_CHANGE_TICK_TICK, PLUMB_CHANGE_CNT, PLUMB_HOLD_CNT]
/-- All fields whose instance 0 is on page 0x08. -/
def fields08 : List Fld := fields08_0
/-- Fields of page 0x09 (and its instance pages), part 0. -/
def fields09_0 : List Fld :=
  [REF_CFG_SOURCE, REF_CFG_PRIORITY, REF_CFG_EN, REF_CFG_LOCKOUT, REF_CFG_PHASE_USE, REF_CFG_WCLK_RATE, REF_QUAL_QUAL_TIME, REF_QUAL_FREQ_WIN, REF_LIMITS_DRIFT_LIMIT, REF_LIMITS_DIV_LIMIT, REF_PJ_PJ_LIMIT, REF_STATUS_STATE, REF_STATUS_SELECTED, REF_STATUS_FAIL_CAUSE, REF_STATUS_QUAL_REMAIN, REF_HISTORY_LOS_SEEN, REF_HISTORY_FREQ_FAULT_SEEN, REF_HISTORY_DRIFT_SEEN, REF_HISTORY_PHASE_JUMP_SEEN, REF_HISTORY_LOST_WHILE_SELECTED, REF_FREQ_FREQ, REF_OFFSET_NS]
/-- All fields whose instance 0 is on page 0x09. -/
def fields09 : List Fld := fields09_0
/-- Fields of page 0x0D (and its instance pages), part 0. -/
def fields0D_0 : List Fld :=
  [CLKOUT_CTRL_EN, CLKOUT_CFG_WCLK0_RATE, CLKOUT_CFG_WCLK1_RATE, CLKOUT_CFG_MCLK0_DIV, CLKOUT_CFG_MCLK1_DIV, CLKOUT_CFG_PPS_WIDTH, CLKOUT_CFG_TICK_WIDTH, CLKOUT_ALIGN_ALIGN, CLKOUT_THRESH_NS, PULSE_OFFSET_NS, CLKOUT_STATUS_OVER, CLKOUT_STATUS_STEPPED, CLKOUT_STATUS_GATED]
/-- All fields whose instance 0 is on page 0x0D. -/
def fields0D : List Fld := fields0D_0
/-- Fields of page 0x0A (and its instance pages), part 0. -/
def fields0A_0 : List Fld :=
  [PLL_CTRL_CNT_CLR, PLL_LOCK_CFG_PHASE_WIN, PLL_LOCK_CFG_PLOCK_N, PLL_STATUS_FLOCK, PLL_STATUS_PLOCK, PLL_STATUS_GATED, PLL_STATUS_REF_LOST, PLL_STATUS_UNLOCK_SEEN, PLL_STATUS_REF_LOST_SEEN, PLL_FCOUNT, PLL_FEXPECT_EXPECT, PLL_PHASE_PS, PLL_UNLOCK_CNT, PLL_LOCK_TIME_US, PLLM_CAL_CAL, PLLM_CAL_CAL_BUSY, PLLM_FRAC_FRAC, PLLM_INT_INT, PLLM_BAND_BAND, PLLM_BAND_NO_BAND, PLLM_BAND_VT_LOW, PLLM_BAND_VT_HIGH, PLLM_SHIM_NET_NET, PLLM_CEIL_CNT]
/-- Fields of page 0x0A (and its instance pages), part 1. -/
def fields0A_1 : List Fld :=
  [PLLM_FALLBACK_CNT, PLLM_BAND_SEL_ENTRY, PLLM_BAND_CFG_CAP, PLLM_BAND_CFG_EN, PLLM_BAND_LO_MHZ, PLLM_BAND_LO_CAL_VALID, PLLM_BAND_HI_MHZ]
/-- All fields whose instance 0 is on page 0x0A. -/
def fields0A : List Fld := fields0A_0 ++ fields0A_1
/-- Fields of page 0x0C (and its instance pages), part 0. -/
def fields0C_0 : List Fld :=
  [PLLS_VCO_S1_ON, PLLS_VCO_S2_ON, PLLS_VCO_S1_PLOCK, PLLS_VCO_S2_PLOCK, PLLS_FCOUNT2, PLLS_PHASE2_PS]
/-- All fields whose instance 0 is on page 0x0C. -/
def fields0C : List Fld := fields0C_0
/-- Fields of page 0x28 (and its instance pages), part 0. -/
def fields28_0 : List Fld :=
  [SP_CFG_MODE, SP_CFG_MASTER, SP_CFG_BCLK_INV, SP_CFG_FS_INV, SP_CFG_FS_DELAY, SP_CFG_SLOTS, SP_CFG_SLOT_W, SP_CFG_WORD_W, SP_CFG_RATE, SP_CFG_ASRC_GROUP, SP_CFG_ALIGN, SP_CFG_SDO_IDLE, SP_RX_MASK_MASK, SP_TX_MASK_MASK, SP_CTRL_CNT_CLR, SP_STATUS_STATE, SP_STATUS_CLK_PRESENT, SP_STATUS_ASRC_SHORT, SP_STATUS_RX_CH, SP_STATUS_TX_CH, SP_STATUS_CLK_LOSS, SP_STATUS_UNDERRUN, SP_STATUS_OVERRUN, SP_RATE_MEAS_RATE]
/-- Fields of page 0x28 (and its instance pages), part 1. -/
def fields28_1 : List Fld :=
  [SP_UNDERRUN_CNT, SP_OVERRUN_CNT, FRAME_ERR_CNT, CLK_LOSS_CNT, MISSING_TICK_CNT, MISSING_SMP_CNT, SP_AREA_BASE_BASE]
/-- All fields whose instance 0 is on page 0x28. -/
def fields28 : List Fld := fields28_0 ++ fields28_1
/-- Fields of page 0x30 (and its instance pages), part 0. -/
def fields30_0 : List Fld :=
  [ASRC_CTRL_CNT_CLR, ASRC_USAGE_CHANNELS, ASRC_LOCK_LOCK, ASRC_LOCK_CHG_CHG, ASRC_SEL_GROUP, ASRC_GRP_CFG_SRC, ASRC_GRP_CFG_PORT, ASRC_GRP_CFG_NOMINAL_HZ, ASRC_GRP_RATIO_RATIO, ASRC_GRP_STATUS_LOCK, ASRC_GRP_STATUS_RANGE_ERR, ASRC_GRP_STATUS_CHANNELS, ASRC_GRP_UNLOCK_CNT]
/-- All fields whose instance 0 is on page 0x30. -/
def fields30 : List Fld := fields30_0
/-- Fields of page 0x31 (and its instance pages), part 0. -/
def fields31_0 : List Fld :=
  [SI_CFG_SI_MODE, SI_CFG_NA_EN, SI_CFG_VAL_POLICY, SI_STATUS_NONAUDIO, SI_STATUS_VALIDITY, SI_STATUS_MODE_IGNORED, SI_PARITY_CNT, SI_BLOCK_ERR_CNT, SI_CTRL_CNT_CLR, SI_SEL_PORT, SI_SEL_PAIR, SI_CS_CHG_CHG, SI_CS_RXA_CS, SI_CS_RXB_CS, SI_CS_TX_CS]
/-- All fields whose instance 0 is on page 0x31. -/
def fields31 : List Fld := fields31_0
/-- Fields of page 0x38 (and its instance pages), part 0. -/
def fields38_0 : List Fld :=
  [XPM_CTRL_CNT_CLR, XPM_CTRL_COPY, XPM_CTRL_SVC_OWN, XPM_LEN_LEN, XPM_STATUS_ACTIVE_BANK, XPM_STATUS_COPY_BUSY, XPM_STATUS_GAIN_CLAMP, XPM_STATUS_RSVD_SET, XPM_STATUS_BANK_ECC, XPM_USAGE_ENABLED, XPM_USAGE_ACTIVE_LEN, XPM_LATE_OUT, XPM_LATE_FEED, XPM_CLIP_BASE_BASE, XPM_CLIP_LAST_DEST, XPM_CLIP_LAST_TICK, XPM_CLIP_TICKS_CNT, XPM_DUCK_ACT_ACT, XPM_ECC_CNT, XPM_DUCK_DEPTH, XPM_DUCK_RAMP]
/-- All fields whose instance 0 is on page 0x38. -/
def fields38 : List Fld := fields38_0
/-- Fields of page 0x39 (and its instance pages), part 0. -/
def fields39_0 : List Fld :=
  [DPOOL_CTRL_REPACK, DPOOL_CTRL_XFADE, DPOOL_BASE_BASE, DPOOL_SIZE_PAGES, DPOOL_STATUS_USED, DPOOL_STATUS_LARGEST_FREE, DPOOL_SEL_DEST, DPOOL_CFG_DELAY, DPOOL_CFG_RESERVE, DPOOL_LINE_ADDR, DPOOL_LINE_LEN_LINE, DPOOL_EXHAUST_DEST, DPOOL_EXHAUST_VALID, DPOOL_LINES]
/-- All fields whose instance 0 is on page 0x39. -/
def fields39 : List Fld := fields39_0
/-- Fields of page 0x40 (and its instance pages), part 0. -/
def fields40_0 : List Fld :=
  [JE_CTRL_CNT_CLR, JE_STATUS_HAS_LIST, JE_STATUS_FAULT, JE_STATUS_FAULT_CAUSE, JE_STATUS_FAULT_SEEN, JE_STATUS_ECC_SEEN, JE_FAULT_INFO_INSTANCE, JE_FAULT_INFO_NONE, JE_FAULT_INFO_TICK, JE_INST_COUNT, JE_LOCAL_USED_BYTES, JE_FAULT_CNT, JE_ECC_CORR_CNT, JE_INIT_CNT, JE_CLIP_UNDERRUN_CNT, JE_SVC_BASE_BASE, JE_PUPD_SRC_ADDR, JE_PUPD_CTRL_INSTANCE, JE_PUPD_CTRL_EN]
/-- All fields whose instance 0 is on page 0x40. -/
def fields40 : List Fld := fields40_0
/-- Fields of page 0x50 (and its instance pages), part 0. -/
def fields50_0 : List Fld :=
  [PCH_CTRL_ON, PCH_CTRL_MUTE, PCH_CTRL_CLEAR, PCH_CTRL_CNT_CLR, PCH_CFG_FEED, PCH_CFG_FEED_EN, PCH_CFG_MOD, PCH_CFG_AUTO_FB, PCH_CFG_START_TEST, PCH_CFG_NTC_EN, PCH_CFG_NTC_SEL, PCH_CFG_CM_RAMP, PCH_LEVEL_VFS, PCH_LEVEL_LOAD_NOM, PCH_PROT_CS_LIMIT, PCH_PROT_SHUNT, PCH_PROT_DEADTIME, PCH_STATUS_STATE, PCH_STATUS_CLK_MUTE, PCH_STATUS_OPEN_LOOP, PCH_STATUS_RAIL_LIM, PCH_STATUS_BROWN_LIM, PCH_STATUS_THERM_LIM, PCH_STATUS_WAIT_RAIL]
/-- Fields of page 0x50 (and its instance pages), part 1. -/
def fields50_1 : List Fld :=
  [PCH_STATUS_CAL_VALID, PCH_STATUS_RETRY_NUM, PCH_STATUS_CAUSE, PCH_STATUS_FAULT_SEEN, PCH_STATUS_FALLBACK_SEEN, PCH_STATUS_SYNC_SLIP, PCH_STATUS_NTC_FAULT, PCH_FAULT_INFO_CAUSE, PCH_FAULT_INFO_TICK, PCH_OL_TRIM_TRIM, PCH_PEAK_PEAK, PCH_STATE_CHG_CHG, OCP_CYCLE_CNT, SHUTDOWN_CNT, RETRY_CNT, DC_FAULT_CNT, RAIL_LIM_CNT, SYNC_SLIP_CNT, FALLBACK_CNT, BST_UV_CNT]
/-- All fields whose instance 0 is on page 0x50. -/
def fields50 : List Fld := fields50_0 ++ fields50_1
/-- Fields of page 0x58 (and its instance pages), part 0. -/
def fields58_0 : List Fld :=
  [BST_CTRL_EN, BST_CTRL_CLEAR, BST_CTRL_CNT_CLR, BST_CFG_VMIN, BST_CFG_VMAX, BST_CFG_IIN_LIMIT, BST_CFG_BROWN_IIN, BST_SENSE_SHUNT, BST_SENSE_PHASE_LIMIT, BST_SENSE_NTC_EN, BST_SENSE_NTC_SEL, BST_STATUS_STATE, BST_STATUS_IIN_LIM, BST_STATUS_OVP, BST_STATUS_PASS, BST_STATUS_RETRY_NUM, BST_STATUS_CAUSE, BST_STATUS_FAULT_SEEN, BST_VSET_VOLTS, BST_VMEAS_VOLTS, BST_IIN_AMPS, BST_FAULT_INFO_CAUSE, BST_FAULT_INFO_TICK, BST_FAULT_CNT]
/-- Fields of page 0x58 (and its instance pages), part 1. -/
def fields58_1 : List Fld :=
  [BST_IIN_LIM_CNT, BST_OVP_CNT]
/-- All fields whose instance 0 is on page 0x58. -/
def fields58 : List Fld := fields58_0 ++ fields58_1
/-- Fields of page 0x04 (and its instance pages), part 0. -/
def fields04_0 : List Fld :=
  [SUP_VIN_MEAS_VOLTS, SUP_VGD_MEAS_VOLTS, SUP_PWR_STATUS_VIN_WARN, SUP_PWR_STATUS_VIN_RESET, SUP_PWR_STATUS_VGD_WARN, SUP_PWR_STATUS_VGD_UVLO, SUP_PWR_STATUS_CORE_WARN, SUP_PWR_STATUS_VIN_WARN_SEEN, SUP_PWR_STATUS_VIN_RESET_SEEN, SUP_PWR_STATUS_VGD_WARN_SEEN, SUP_PWR_STATUS_VGD_UVLO_SEEN, SUP_PWR_STATUS_CORE_WARN_SEEN, SUP_PWR_STATUS_CORE_RESET_SEEN, NTC_CODE_CODE, NTC_THR_WARN_CODE, NTC_THR_SHUT_CODE, VIN_DIP_CNT, SUP_CORE_MEAS_MV, SUP_SM_MEAS_MV, SUP_SD_MEAS_SD, SUP_SD_MEAS_SDA, SUP_IO_MEAS_IOA, SUP_IO_MEAS_IOB, SUP_LOGIC_STATUS_SM_WARN]
/-- Fields of page 0x04 (and its instance pages), part 1. -/
def fields04_1 : List Fld :=
  [SUP_LOGIC_STATUS_SD_WARN, SUP_LOGIC_STATUS_PLL_WARN, SUP_LOGIC_STATUS_IOA_WARN, SUP_LOGIC_STATUS_IOB_WARN, SUP_LOGIC_STATUS_T1S_WARN, SUP_LOGIC_STATUS_VDD5_WARN, SUP_LOGIC_STATUS_VDD5_STOP, SUP_LOGIC_STATUS_IOB_33, SUP_LOGIC_STATUS_WARN_SEEN, SUP_LOGIC_STATUS_VDD5_STOP_SEEN]
/-- All fields whose instance 0 is on page 0x04. -/
def fields04 : List Fld := fields04_0 ++ fields04_1
/-- Fields of page 0x5A (and its instance pages), part 0. -/
def fields5A_0 : List Fld :=
  [DIAG_CMD_OP, DIAG_CMD_CNT_CLR, DIAG_CMD_CH_MASK, DIAG_CMD_BUSY, DIAG_CMD_GO, DIAG_CFG_SHORT_OHMS, DIAG_CFG_SWEEP_LEVEL, DIAG_CFG_AC_TOL, DIAG_CFG_TWEETER_TOL, DIAG_PILOT_FREQ, DIAG_PILOT_LEVEL, DIAG_PILOT_EN, DIAG_DEV_CFG_PILOT_TOL, DIAG_DEV_CFG_PHASE_TOL, DIAG_DEV_CFG_DEV_COUNT, DIAG_STATUS_BASE_VALID, DIAG_STATUS_DEV, DIAG_STATUS_DEV_SEEN, DIAG_RES_DC_RESULT, DIAG_RES_AC_RESULT, DIAG_RES_HF, DIAG_RES_AC_DEV, DIAG_RES_PILOT_CLASS, DIAG_DC_OHMS]
/-- Fields of page 0x5A (and its instance pages), part 1. -/
def fields5A_1 : List Fld :=
  [DIAG_AC_MAG, DIAG_AC_PHASE, DIAG_PILOT_MAG, DIAG_PILOT_PHASE, DIAG_BASE_DC_OHMS, DIAG_BASE_AC_MAG, DIAG_BASE_AC_PHASE, DIAG_BASE_PILOT_MAG, DIAG_BASE_PILOT_PHASE, DIAG_BASE_CTRL_VALID, PILOT_SKIP_CNT, DEV_CNT]
/-- All fields whose instance 0 is on page 0x5A. -/
def fields5A : List Fld := fields5A_0 ++ fields5A_1
/-- Fields of page 0x68 (and its instance pages), part 0. -/
def fields68_0 : List Fld :=
  [SVC_CTRL_EN, SVC_CTRL_CNT_CLR, SVC_STATUS_RUNNING, SVC_STATUS_STOP_CAUSE, SVC_STATUS_CALLS, SVC_STATUS_PLAYERS, SVC_REQ_BASE_BASE, SVC_REQ_CTRL_ENTRIES, SVC_REQ_CTRL_EN, SVC_REQ_TAIL_INDEX, SVC_REQ_HEAD_INDEX, SVC_STAT_BASE_BASE, SVC_STAT_CTRL_ENTRIES, SVC_STAT_HEAD_INDEX, SVC_STAT_SEQ, SVC_LAST_REF_ID_ID, SVC_LAST_REF_REASON_REASON, SVC_LAST_PREEMPT_ID_ID, SVC_LAST_EVICTOR_ID_ID, SVC_LOCK_LO_LOCKED, SVC_LOCK_HI_LOCKED, SVC_ANG_BYPASS_LO_BYPASS, SVC_ANG_BYPASS_HI_BYPASS, SVC_ZONE_SEL_ZONE]
/-- Fields of page 0x68 (and its instance pages), part 1. -/
def fields68_1 : List Fld :=
  [SVC_ZONE_STATE_QUEUE_LEN, SVC_ZONE_STATE_TOP_PRIO, SVC_ZONE_STATE_BG_DUCKED, SVC_ZONE_STATE_BG_MUTED, SVC_ZONE_STATE_LOCKED, SVC_ZONE_STATE_LOCK_PRIO, SVC_CALL_SEL_SLOT, SVC_CALL_STATE_STATE, SVC_CALL_STATE_CONSOLE, SVC_CALL_REQ_ID, SVC_GRANT_CNT, SVC_DUCK_CNT, SVC_DEFER_CNT, SVC_PREEMPT_CNT, SVC_REFUSE_CNT, SVC_EVICT_CNT, SVC_WDT_CNT, SVC_DENY_CNT, SVC_CLIP_BAD_CNT, SVC_FW_VERSION_VERSION]
/-- All fields whose instance 0 is on page 0x68. -/
def fields68 : List Fld := fields68_0 ++ fields68_1
/-- Fields of page 0x60 (and its instance pages), part 0. -/
def fields60_0 : List Fld :=
  [BRACE_CTRL_CNT_CLR, BRACE_CTRL_SWAP, BRACE_CFG_PAIR_EN, BRACE_CFG_PARTNER_ID, BRACE_FORM_FORM_WAIT, BRACE_TALKER_MAC_LO_MAC, BRACE_TALKER_MAC_HI_MAC, BRACE_TALKER_IP_ADDR, BRACE_HB_MAC_LO_MAC, BRACE_HB_CFG_MAC, BRACE_HB_CFG_VID, BRACE_HB_CFG_PCP, BRACE_STATE_BASE_BASE, BRACE_STATUS_ROLE, BRACE_STATUS_PARTNER_ROLE, BRACE_STATUS_BRACE_PRESENT, BRACE_STATUS_NET_PRESENT, BRACE_STATUS_RING_UP, BRACE_STATUS_PARTNER_LOST_SEEN, BRACE_STATUS_DIVERGENCE_SEEN, BRACE_STATUS_DUAL_ACTIVE_SEEN, BRACE_ROLE_CHANGE_FROM, BRACE_ROLE_CHANGE_TO, BRACE_ROLE_CHANGE_CAUSE]
/-- Fields of page 0x60 (and its instance pages), part 1. -/
def fields60_1 : List Fld :=
  [BRACE_ROLE_CHANGE_VALID, BRACE_ROLE_TICK_TICK, BRACE_SEAT_STATUS_PHASE, BRACE_SEAT_STATUS_ROUND, BRACE_SEAT_STATUS_DIRTY, BRACE_SEAT_INFO_ABORT_CAUSE, BRACE_SEAT_INFO_LAST_MS, BRACE_SEAL_TICK_TICK, BRACE_SEAT_SIZE_KIB, BRACE_DIGEST_OWN_LO_DIGEST, BRACE_DIGEST_OWN_HI_DIGEST, BRACE_DIGEST_PTN_LO_DIGEST, BRACE_DIGEST_PTN_HI_DIGEST, BRACE_MISMATCH_RUN, BRACE_MISMATCH_FIRST_TICK, AGREE_MISS_CNT, DIGEST_MISMATCH_CNT, DIVERGENCE_CNT, ROLE_CHANGE_CNT, RESEAT_CNT, RESEAT_ABORT_CNT, BRACE_FRAME_ERR_CNT, NET_HB_RX_CNT, DUAL_ACTIVE_CNT]
/-- Fields of page 0x60 (and its instance pages), part 2. -/
def fields60_2 : List Fld :=
  [RELAY_CNT, BRACE_RELAY_CFG_GP, BRACE_RELAY_CFG_EN, BRACE_RELAY_CFG_ACTIVE_HIGH, BRACE_RELAY_CFG_TARGET, BRACE_RELAY_CFG_RELAY_MS, BRACE_RELAY_STATUS_ENERGISED, BRACE_RELAY_STATUS_PHASE, BRACE_RELAY_STATUS_TAKEOVER_SEEN]
/-- All fields whose instance 0 is on page 0x60. -/
def fields60 : List Fld := fields60_0 ++ fields60_1 ++ fields60_2
/-- Fields of page 0x03 (and its instance pages), part 0. -/
def fields03_0 : List Fld :=
  [SEC_OTP_STATUS_CFG_SIG_REQ, SEC_OTP_STATUS_CUST_KEY, SEC_OTP_STATUS_REVOKED, SEC_OTP_STATUS_IB_OTP, SEC_OTP_STATUS_JTAG_DISABLE, SEC_FW_MIN_MIN, SEC_UID_LO_UID, SEC_UID_HI_UID, SEC_OTP_CMD_OP, SEC_OTP_CMD_INDEX, SEC_OTP_CMD_BUSY, SEC_OTP_CMD_GO, SEC_OTP_RESULT_RESULT, SEC_OTP_DATA_DATA, SEC_IB_CTRL_SLOT_EN, SEC_IB_CTRL_KLOCK, SEC_IB_SESSION_SESSION, SEC_IB_KEY_KEY, SEC_IB_AUTH_FAIL_CNT, SEC_IB_REPLAY_CNT]
/-- All fields whose instance 0 is on page 0x03. -/
def fields03 : List Fld := fields03_0
/-- Fields of page 0x70 (and its instance pages), part 0. -/
def fields70_0 : List Fld :=
  [HQ_CFG_DUMMY, HQ_STATUS_LATE, HQ_STATUS_ALIGN_ERR, HQ_STATUS_PARTIAL, HQ_LATE_CNT, HQ_ERR_CNT]
/-- All fields whose instance 0 is on page 0x70. -/
def fields70 : List Fld := fields70_0
/-- Fields of page 0x71 (and its instance pages), part 0. -/
def fields71_0 : List Fld :=
  [FL_CFG_MODE, FL_CFG_DUMMY, FL_CFG_DIV, FL_STATUS_BUSY, FL_STATUS_ERR, FL_CMD_OPCODE, FL_CMD_ADDR_BYTES, FL_CMD_LEN, FL_CMD_WRITE, FL_CMD_GO, FL_CMD_ADDR_ADDR, FL_READ_CNT, FL_ERR_CNT, FL_BUF_DATA]
/-- All fields whose instance 0 is on page 0x71. -/
def fields71 : List Fld := fields71_0
/-- Fields of page 0x01 (and its instance pages), part 0. -/
def fields01_0 : List Fld :=
  [EVT_CTRL_IRQ0_OD, EVT_CTRL_IRQ1_OD, EVT_CTRL_FATAL_IRQ, EVT_CTRL_AUTO_WRST, EVT_CTRL_AUTO_WRST_S, EVT_IRQ_STATUS_IRQ0, EVT_IRQ_STATUS_IRQ1, EVT_FATAL_CAUSE, EVT_FATAL_VALID, EVT_FATAL_TICK_TICK, EVT_LAST_EVENT, EVT_LAST_TICK_TICK, EVT_RAW_RAW, EVT_STICKY_STICKY, EVT_ENABLE_ENABLE, EVT_ROUTE_ROUTE, EVT_LOG_MASK_MASK, EVT_LOG_BASE_BASE, EVT_LOG_CTRL_ENTRIES, EVT_LOG_CTRL_EN, EVT_LOG_HEAD_INDEX, EVT_LOG_SEQ]
/-- All fields whose instance 0 is on page 0x01. -/
def fields01 : List Fld := fields01_0
/-- Fields of page 0x72 (and its instance pages), part 0. -/
def fields72_0 : List Fld :=
  [GPIO_OE_OE, GPIO_OD_OD, GPIO_OUT_OUT, GPIO_IN_IN, GPIO_EV_CFG_RISE, GPIO_EV_CFG_FALL, GPIO_EV_SRC_EDGE]
/-- All fields whose instance 0 is on page 0x72. -/
def fields72 : List Fld := fields72_0
/-- Fields of page 0x05 (and its instance pages), part 0. -/
def fields05_0 : List Fld :=
  [TEMP_LOGIC_TEMP, TEMP_POWER_TEMP, TEMP_THRESH_LOGIC_WARN, TEMP_THRESH_POWER_WARN, TEMP_STATUS_LOGIC_WARN, TEMP_STATUS_POWER_WARN, TEMP_STATUS_POWER_SHUT, TEMP_STATUS_WARN_SEEN, TEMP_STATUS_LOGIC_CRIT_SEEN, TEMP_STATUS_POWER_CRIT_SEEN]
/-- All fields whose instance 0 is on page 0x05. -/
def fields05 : List Fld := fields05_0
end R

/-- The pages of the index (R483): the page of instance 0 of the block, and how many instances it has. -/
def pageIndex : List (Nat × Nat) :=
  [(0x00, 1), (0x01, 1), (0x02, 1), (0x03, 1), (0x04, 1), (0x05, 1), (0x08, 1), (0x09, 1), (0x0a, 1), (0x0b, 1), (0x0c, 1), (0x0d, 1), (0x10, 8), (0x18, 1), (0x19, 1), (0x1a, 1), (0x1b, 1), (0x1c, 1), (0x20, 1), (0x21, 1)] ++
  [(0x22, 1), (0x23, 1), (0x24, 1), (0x28, 8), (0x30, 1), (0x31, 1), (0x38, 1), (0x39, 1), (0x40, 8), (0x48, 1), (0x50, 8), (0x58, 2), (0x5a, 1), (0x60, 1), (0x68, 1), (0x70, 1), (0x71, 1), (0x72, 1)]

/-- The fields that stand on a page (empty for a reserved page), the common header apart. -/
def pageFields (p : Nat) : List Fld :=
  if p = 0x00 then R.fields00 else
  if p = 0x01 then R.fields01 else
  if p = 0x02 then R.fields02 else
  if p = 0x03 then R.fields03 else
  if p = 0x04 then R.fields04 else
  if p = 0x05 then R.fields05 else
  if p = 0x08 then R.fields08 else
  if p = 0x09 then R.fields09 else
  if p = 0x0a then R.fields0A else
  if p = 0x0b then R.fields0A else
  if p = 0x0c then R.fields0A ++ R.fields0C else
  if p = 0x0d then R.fields0D else
  if 0x10 ≤ p ∧ p < 0x18 then R.fields10 ++ R.fields16 else
  if p = 0x18 then R.fields18 else
  if p = 0x19 then R.fields19 else
  if p = 0x1a then R.fields1A else
  if p = 0x1b then R.fields1B else
  if p = 0x1c then R.fields1C else
  if p = 0x20 then R.fields20 else
  if p = 0x21 then R.fields21 else
  if p = 0x22 then R.fields22 else
  if p = 0x23 then R.fields23 else
  if p = 0x24 then R.fields24 else
  if 0x28 ≤ p ∧ p < 0x30 then R.fields28 else
  if p = 0x30 then R.fields30 else
  if p = 0x31 then R.fields31 else
  if p = 0x38 then R.fields38 else
  if p = 0x39 then R.fields39 else
  if 0x40 ≤ p ∧ p < 0x48 then R.fields40 else
  if p = 0x48 then R.fields48 else
  if 0x50 ≤ p ∧ p < 0x58 then R.fields50 else
  if 0x58 ≤ p ∧ p < 0x5a then R.fields58 else
  if p = 0x5a then R.fields5A else
  if p = 0x60 then R.fields60 else
  if p = 0x68 then R.fields68 else
  if p = 0x70 then R.fields70 else
  if p = 0x71 then R.fields71 else
  if p = 0x72 then R.fields72 else
  []

end Sys2Proof.Machine
end

