-- ==== Sys2Proof/Machine/State.lean ====
section
/-! DEFINITION. The state of the block: every register field of the spec's tables in one sparse store, the shadow
overlay, the memories, and the state the spec gives the block beside its registers. Plain data throughout. -/

namespace Sys2Proof.Machine

/-- The faults a step can end in. No command of this block stops, and nobody raises the one constructor: it is kept as the name for
a command that is not well-formed (`Instr.wf`), which nothing outside can send; every meaning answers a next state all the same.
Safe: a fault that is never raised forbids nothing. -/
inductive Fault
  | illFormed
deriving DecidableEq, Repr

/-- The refusals. `notModelled` stands in an arm of `exec` whose row has no meaning yet, and nowhere else; with every
row given its meaning nobody raises it. Safe. -/
inductive Refusal
  | notModelled (mnemonic : String)
deriving DecidableEq, Repr

/-- The device states of R18. -/
inductive Dev | off | boot | held | ready | run | safe | sleep
deriving DecidableEq, Repr

/-- The pair roles of R19. -/
inductive Role | solo | active | seating | inStep | detached | coldStart
deriving DecidableEq, Repr

/-- The windows of a tick (R49). -/
inductive TickWin | overhead | window | kerf
deriving DecidableEq, Repr

/-- A pending write of a shadowed field (R61): the field, its instance and the shadow value. -/
structure Pend where
  f : Fld
  i : Nat
  j : Nat
  v : Nat
deriving DecidableEq, Repr

/-- Where a queued commit stands (R63, R64): waiting for its validation, or scheduled for the start of a tick
(as run). -/
inductive CommitPhase
  | queued
  | scheduled (due : Nat)
deriving DecidableEq, Repr

/-- One commit of the queue: the pages armed together, whether the services armed it (R357), its phase, and the cut list that
it loads, as validated (R55). -/
structure Commit where
  pages   : List Nat
  service : Bool
  phase   : CommitPhase
  cut     : Option Cut
deriving DecidableEq, Repr

/-- The Ethernet header of a frame of the device's own: destination, source, and the VID and PCP of its tag, if it has one. -/
structure EthHead where
  da  : Nat
  sa  : Nat
  tag : Option (Nat × Nat)
deriving DecidableEq, Repr

/-- The IPv4 and UDP headers of a datagram of the device's own: TTL, DSCP, addresses, UDP ports and UDP checksum (the last three 0
where it carries no UDP). -/
structure IpHead where
  ttl     : Nat
  dscp    : Nat
  src     : Nat
  dst     : Nat
  srcPort : Nat
  dstPort : Nat
  udpSum  : Nat
deriving DecidableEq, Repr

/-- The AVTP AAF header that a transmit entry sends (R84): `nsr` as its rate in Hz. -/
structure AafHead where
  sid      : Nat
  seq      : Nat
  ts       : Nat
  sv       : Bool
  tv       : Bool
  tu       : Bool
  mr       : Bool
  sp       : Bool
  nsr      : Nat
  bitDepth : Nat
  format   : Nat
deriving DecidableEq, Repr

/-- Where an Ocdor peer is reached (R439): its port, MAC address, the VID and PCP of its tag, and its IP address and UDP port where
it uses datagrams. -/
structure Peer where
  port : Nat
  mac  : Nat
  vlan : Option (Nat × Nat)
  udp  : Option (Nat × Nat)
deriving DecidableEq, Repr

/-- A frame that the device puts on a line: one carried as received or submitted by its bytes, its own by their fields. -/
inductive Wire
  | frame (bytes : List Byte)                                     -- a frame carried as received or submitted
  | pause (opcode : Nat) (enable : Nat) (quanta : Nat)            -- R130, R132
  | aaf (entry : Nat) (h : EthHead) (a : AafHead) (payload : List (List Nat))                        -- R84, R104, R105
  | rtp (entry : Nat) (h : EthHead) (ip : IpHead) (seq ts ssrc pt : Nat) (payload : List (List Nat)) -- R87, R104
  | crf (entry : Nat) (h : EthHead) (sid seq interval : Nat) (stamps : List Nat)                     -- R86
  | ptp (h : EthHead) (ip : Option IpHead) (kind seq : Nat) (fields : List Nat)                      -- R165
  | ocdor (h : EthHead) (ip : Option IpHead) (slot op seq status count addr session replay : Nat) (data : List Nat)
      (tag : BitVec 64)                                                                              -- R437 to R440, R381
  | avdecc (h : EthHead) (kind seq status : Nat) (fields : List Nat)                                 -- R89
  | ip (h : EthHead) (ip : Option IpHead) (kind : Nat) (fields : List Nat)                           -- R87, R88: ARP, IGMP, SAP
  | beacon                                                                                           -- R139
deriving DecidableEq, Repr

/-- Pulses of a clock output in a tick (R195, R198), in audio-master cycles from its start: the first rising edge, their period and number,
and how long each is high. -/
structure ClkPulses where
  first  : Nat
  period : Nat
  count  : Nat
  high   : Nat
deriving DecidableEq, Repr

/-- The pilot that a power channel plays in a tick (R343): its full amplitude in µV, its frequency in Hz, its phase at the start of the tick in
1/6,000 of a cycle, and how far it is faded in at the start and the end of the tick, in 1/122,880. -/
structure Pilot where
  peak  : Nat
  hz    : Nat
  phase : Nat
  start : Nat
  stop  : Nat
deriving DecidableEq, Repr

/-- What the loop of a power channel is given in a tick (R299): its 8 samples after the pilot, where 2³¹ · 50,000,000 · 122,880 · 10⁶ is 50.0 V; the
1,024 loop inputs of step 6 between them; the gain of the reactive limiter at the start and the end of the tick in 10⁻⁶ (step 7); the modulation in
use, and in OPEN_LOOP the rail reading in 10 mV by which 50.0 V is divided to scale the duty (R301); and the pilot that step 5 has added. -/
structure Drive where
  exact : List Int
  loop  : List Int
  react : Nat × Nat
  mode  : Nat
  duty  : Option Nat
  pilot : Option Pilot
deriving DecidableEq, Repr

/-- A tone of a sweep (R338): its frequency in Hz, its peak in µV, its length and its raised-cosine edges in ms. -/
structure DiagTone where
  hz   : Nat
  peak : Nat
  ms   : Nat
  edge : Nat
deriving DecidableEq, Repr

/-- Everything the device sends or shows outside, in order. -/
inductive Out
  | net (port : Nat) (w : Wire)              -- a frame leaves a port
  | stomped (port : Nat)                     -- a cut-through copy ended with an inverted CRC (R127)
  | deliver (consumer port : Nat) (bytes : List Byte) (ns : Nat)   -- a frame handed to a consumer of R151
  | qspi (words : List Word)                 -- words a READ returns
  | qspiStatus (b : Byte)                    -- the byte STATUS returns
  | mdio (op phy reg data : Nat)             -- an access of the management master
  | flash (opcode addrBytes addr : Nat) (data : List Byte)         -- a raw flash command
  | spFrame (port : Nat) (slots : List (Option Nat))  -- an output frame of a serial port; none: the slot is not driven
  | speaker (ch : Nat) (d : Drive)           -- what a power channel plays in the tick that begins
  | react (ch gain : Nat)                    -- from here the reactive limiter scales the channel's samples, in 10⁻⁶ (R320)
  | dieHeld (samples : List (List Int)) (setpoints : List Nat)
      -- a die-link frame failed its check: in that DAC cycle the power die uses the samples and setpoints of the frame before (R23)
  | brace (f : BraceFrame)                   -- a brace frame
  | seated (words : List Mirror)             -- words of seated state, by page, that a re-seat sends (R401)
  | seal (tick : Nat) (seat : Seat)          -- SEAL, with what the seat state area holds (R400, R402)
  | relay (k : Nat) (level : Bool)           -- a relay pin
  | tone (ch : Nat) (t : DiagTone)           -- a diagnostic tone starts
  | toneStop (ch : Nat)                      -- it stops at once (R341, R346)
  | toneGain (ch start stop : Nat)           -- the brownout limiter's gain on it over a tick, in 10⁻⁶ (R346)
  | clock (k carry : Nat) (pulses : List ClkPulses)
      -- clock output k in the tick that begins: high for its first `carry` audio-master cycles, then the pulses; an output without
      -- such a record is low throughout
  | clockLow (mask : Nat)                    -- these clock outputs are low from here to the end of the tick
deriving DecidableEq, Repr

/-- A frame waiting in an egress queue (R154): its port and traffic class, its length with FCS, the port whose pool holds it (its
ingress port; for a frame of the device's own in a reserved class its egress port; else 8, none), whether that is the reserved pool, and the number
that its copies share. -/
structure EgrFrame where
  fid     : Nat
  port    : Nat
  tc      : Nat
  len     : Nat
  ingress : Nat
  resv    : Bool
  item    : Wire
deriving DecidableEq, Repr

/-- An entry of the filtering database (R149, R152). -/
structure FdbEntry where
  ports  : Nat
  static : Bool
deriving DecidableEq, Repr

/-- A token bucket of a flow meter (R162), in 10⁻⁶ bit, with the time of its last update in ns. -/
structure Meter where
  tokens : Nat
  ns     : Nat
  full   : Bool
deriving DecidableEq, Repr

/-- The recovery state of a FRER entry (R163): accept any next frame, the highest sequence number, the 32 history bits
(newest first), and whether a rogue frame has been reported since the last reset. -/
structure Frer where
  takeAny : Bool
  seq     : Nat
  hist    : List Bool
  rogue   : Bool
deriving DecidableEq, Repr

/-- The operating schedule of a time-aware shaper (R159): gate states and intervals, base, cycle, the entry in force,
and the config-change time of a waiting admin list. -/
structure Tas where
  oper    : List (Nat × Nat)
  base    : Nat
  cycle   : Nat
  idx     : Nat
  changeAt : Option Nat
deriving DecidableEq, Repr

/-- The state of one port behind its registers: bits its line may still send in the tick (below 0 while a frame is leaving), credits
of classes A and B in 10⁻³ bit, the collided attempts of frames that wait on a T1S port, by frame number (R140), the BURST_CNT of its present PLCA cycle (R146), and
its schedule. -/
structure PortHid where
  line     : Int
  creditA  : Int
  creditB  : Int
  attempts : List (Nat × Nat)
  burst    : Nat
  tas      : Tas
deriving DecidableEq, Repr

/-- A port at reset. -/
def PortHid.init : PortHid := ⟨0, 0, 0, [], 0, ⟨[], 0, 0, 0, none⟩⟩

/-- The bridge and the ports behind their registers. -/
structure Net where
  ports    : Sparse PortHid
  egr      : List EgrFrame
  nextFid  : Nat
  fdb      : Sparse FdbEntry
  meters   : Sparse Meter
  frer     : Sparse Frer
  errTick  : Option Nat            -- the tick in which EV_FRAME_ERR was last raised (R126)
  v2Querier : Bool                 -- an IGMPv2 querier has been seen (R87)
deriving DecidableEq, Repr

/-- One PTP port behind its registers: the best Announce received and its sender, a two-step Sync waiting for its
Follow_Up (sequence, ingress ns, correction), the own delay request (sequence, sent at), the last Sync pair used
for the rate (grandmaster time, ingress), the last Pdelay_Resp pair (response time, ingress), the next sequence number, and whether the port is in
LISTENING (R173). -/
structure PtpPort where
  best    : Option (PtpVector × BitVec 64)
  sync    : Option (Nat × Int × Int)
  delayTx : Option (Nat × Int)
  lastSync : Option (Int × Int)
  lastPd  : Option (Int × Int)
  nextSeq : Nat
  listening : Bool
deriving DecidableEq, Repr

/-- A PTP port at reset. -/
def PtpPort.init : PtpPort := ⟨none, none, none, none, none, 0, true⟩

/-- The PTP instance behind its registers: its ports, the consecutive Syncs counted for SYNCED, and the servo's offset in ns, which
PTP_OFFSET shows saturated (R167, R175). -/
structure Ptp where
  ports  : Sparse PtpPort
  syncs  : Nat
  offset : Int
deriving DecidableEq, Repr

/-- A receive entry behind its registers: the duplicate history of R98 (`seen` holds the tag of sequence h − k at
position k where it has been seen), the last mr bit, the last accepted packet (sequence, first index, samples) for
R84, ticks without a written packet, whether the last tick read missed a sample, the mute count of each channel pair
(R102), the controller bound by ACMP, the CRF run, and the exact end of the last accepted packet: the index that a timestamp last gave and the samples
received since at the stream's own rate (R84). -/
structure RxHid where
  started : Bool
  h       : Nat
  seen    : List (Option Nat)
  oow     : Nat
  mr      : Option Bool
  last    : Option (Nat × Nat × Nat)
  idle    : Nat
  wrote   : Bool
  missing : Bool
  mute    : List Nat
  was     : List Nat
  muteAt  : Nat
  bound   : Option (BitVec 64)
  crfLast : Option Nat
  crfRun  : Nat
  crfIv   : Nat
  grid    : Int × Nat
deriving DecidableEq, Repr

/-- A receive entry at reset. -/
def RxHid.init : RxHid := ⟨false, 0, [], 0, none, none, 0, false, false, [], [], 0, none, none, 0, 0, (0, 0)⟩

/-- The stream engine behind its registers. `txHist` holds the samples of a TX channel that left lately, keyed by
channel × 64 + index mod 64; `txFrom` the first sample
index that a transmit entry may send; `passDue` that a link change waits for its admission pass; `latch` the words that a read of STRX_STAT0, STTX_STAT0 or TICK_NUM_LO latched, by
register key; `announced` the entries that SAP announces, `reported` the groups whose membership
each port has reported (R87, R88); `disc` the discovery table's sessions, oldest first; `unsolicited` the registered controllers. -/
structure Streams where
  rx          : Sparse RxHid
  alignRun    : List Nat
  txHist      : Sparse Int
  txFrom      : Sparse Nat
  passDue     : Bool
  txMr        : Bool
  announced   : List Nat
  reported    : List (Nat × Nat)
  disc        : List (Nat × Nat)
  name        : List Byte
  lockOwner   : Option (BitVec 64)
  unsolicited : List (BitVec 64)
  acmpWait    : Option (Nat × Nat × BitVec 64 × Nat)
deriving DecidableEq, Repr

/-- A reference slot of the Plumb unit behind its registers (R174 to R179): edges present (PPS_IN, WCLK_IN), an offset
taken since the last tick, presence as last evaluated, the last offset and the tick of its update, frequency (ppt), that frequency
filtered at BW (10⁻⁶ ppt), the frequencies of the last 10 s by tick, newest first (R177), the tick at which the checks began to pass and at which the slot became QUALIFIED, and the phase gained
since selection in ppt × ticks. Ticks are as run. -/
structure RefHid where
  edges   : Bool
  fresh   : Option Int
  present : Bool
  offset  : Option Int
  offTick : Nat
  freq    : Int
  fhat    : Int
  freqs   : List Int
  passAt  : Nat
  qualAt  : Nat
  gained  : Int
deriving DecidableEq, Repr

/-- A slot at reset. -/
def RefHid.init : RefHid := ⟨false, none, false, none, 0, 0, 0, [], 0, 0, 0⟩

/-- A clock output behind its registers (R195 to R199): it aligns at its next natural boundary; no boundary before this media time, and the
cycles of the next tick for which it stays high, both in audio-master cycles. -/
structure ClkHid where
  step  : Bool
  quiet : Nat
  carry : Nat
deriving DecidableEq, Repr

/-- A clock output at reset. -/
def ClkHid.init : ClkHid := ⟨false, 0, 0⟩

/-- The Plumb unit behind its registers: slots, y in ppt (10⁻⁶ ppm), f_last, HOLD_EST in ppt, ticks spent LOCKED in all,
the tick at which ACQUIRE began and holdover began, the slots that a commit put into ABSENT since the last selection, the
alignments O_k in audio-master cycles, the outputs whose EV_PULSE_OFFSET has been raised and not yet re-armed, the slot whose wait-to-restore has
ended (R181), a commit has set a history bit (R180), f_hat in ppt over the last LOCKED second, newest first, with the LOCKED ticks since the last
update of HOLD_EST (R190), and the clock outputs. -/
structure Plumb where
  refs      : Sparse RefHid
  y         : Int
  fLast     : Int
  holdEst   : Int
  lockedTicks : Nat
  acqAt     : Nat
  holdAt    : Nat
  byCommit  : List Nat
  align     : Sparse Int
  fired     : List Nat
  wtrDone   : Option Nat
  histRose  : Bool
  fhats     : List Int
  holdTicks : Nat
  clks      : Sparse ClkHid
deriving DecidableEq, Repr

/-- The synthesis loops behind their registers: PLL-M has reached PLOCK and waits for the boundary (R215); the phase of its
dividers against media time in 10⁻¹² × 2⁻³² VCO cycles, and the y that the present tick follows (R207); the Truss clock is gated (R39); PLL-C has regained PLOCK after
that and the self-reset is to come; and by VCO of PLL-S (1, 2) whether it holds FLOCK (1) and PLOCK (2). -/
structure Plls where
  ungateWait : Bool
  residue    : Int
  y          : Int
  clockLost  : Bool
  fatalWait  : Bool
  vco        : Sparse Nat
deriving DecidableEq, Repr

/-- One Ocdor key slot as an initiator (R438, R439): the last replay count accepted, the count of the device's own
frames, the subscription mask and its holder, and the events waiting for the next EVENT frame. -/
structure OcdSlot where
  last   : Option Nat
  sent   : Nat
  mask   : Nat
  peer   : Peer
  waiting : List Nat
deriving DecidableEq, Repr

/-- A slot at reset. -/
def OcdSlot.init : OcdSlot := ⟨none, 0, 0, ⟨0, 0, none, none⟩, []⟩

/-- The host path: fences open per initiator (index 0 host QSPI, 1 to 4 Ocdor slots, 5 service processor) with the
FENCE frames to answer (each as its sequence number and its sender), and the Ocdor slots. -/
structure HostPath where
  fences : Sparse (List (Nat × Peer))
  slots  : Sparse OcdSlot
deriving DecidableEq, Repr

/-- The fuses (R441), each as its stored value: programmed by the factory or by an OTP command. -/
structure Otp where
  yamondHash : BitVec 256
  uid        : BitVec 64
  fwMin      : Nat
  cfgSigReq  : Bool
  custHash   : Sparse (BitVec 256)
  revoke     : Nat
  ibKey      : Sparse (BitVec 128)
  jtag       : Bool
deriving DecidableEq, Repr

/-- What the boot ROM holds while it works (R414 to R417): where it reads from, whether it reads a set that the host
loaded, how far it has come (0 not started, 1 header read, 2 firmware accepted, 3 firmware runs, 4 image past orders 1 to 3 of
R426), whether valid service firmware runs and its version, the offsets and lengths of the boot header in use and the hash of
its bytes (R425), whether a region has been written since PORST_N rose (R514), and whether a VDD_CORE reset is still to be
reported at the end of BOOT (R487). -/
structure Boot where
  base      : Nat
  fromHost  : Bool
  stage     : Nat
  fwValid   : Bool
  fwVersion : Nat
  fwOffset  : Nat
  fwLen     : Nat
  imgOffset : Nat
  imgLen    : Nat
  hdrHash   : BitVec 256
  regions   : Bool
  coreUv    : Bool
deriving DecidableEq, Repr

/-- The boot ROM at a reset. -/
def Boot.init : Boot := ⟨0x40000000, false, 0, false, 0, 0, 0, 0, 0, 0, false, false⟩

/-- The host operation running (R429 to R433): none; START or LOAD validating; RUN comes at the next tick boundary; STOP
ramping, or waking from SLEEP, and what follows: 0 READY (or RUN), 1 a warm reset, with its cause (the bit of SYS_RESET_CAUSE)
and the BOOTSEL level sampled with the request, 2 SLEEP. -/
inductive HostOp
  | none
  | startValidating (cancelled : Bool)
  | starting
  | loading (addr len : Nat)
  | stopping (andThen cause bootsel : Nat)
  | waking (andThen cause bootsel : Nat)
deriving DecidableEq, Repr

/-- A channel pair of a serial port behind its registers (R241, R244): present samples left of a mute, the same before the
tick last examined, and that tick, the sample index of the first governed frame of a mask commit that ends the mute, frames since the last block
start, the C bits of both channels so far, and whether a block has completed before. -/
structure SiPair where
  mute  : Nat
  was   : Nat
  muteAt : Nat
  endAt : Option Nat
  since : Option Nat
  csA   : Nat
  csB   : Nat
  done  : Bool
deriving DecidableEq, Repr

/-- A pair at reset. -/
def SiPair.init : SiPair := ⟨0, 0, 0, none, none, 0, 0, false⟩

/-- A serial port behind its registers: clock lost, refused by admission (R247), good frames while the clock is lost,
whether the last output frame was an underrun and the last input frame an overrun, the masks of the past, newest first, each with the sample index
before which frames begun use it (R236), the index of the first frame whose EV_MASK_COMMIT is still to come, the sample index before which begun
frames are dropped after a change of format (R231), the channels whose last V bit was 1 (R243), the block frame counter of
an output that does not follow the house index (R244), and the end of the tick in which PLL-M gated, for the frame that a master port then had
in progress (R216). -/
structure SpHid where
  clkLost   : Bool
  refused   : Bool
  good      : Nat
  undRun    : Bool
  ovrRun    : Bool
  masks     : List (Nat × Nat × Nat)
  maskWait  : Option Nat
  notBefore : Nat
  vLast     : List Nat
  txFrame   : Nat
  tail      : Option Nat
deriving DecidableEq, Repr

/-- A serial port at reset. -/
def SpHid.init : SpHid := ⟨false, false, 0, false, false, [], none, 0, [], 0, none⟩

/-- The serial ports: one record per port, one per pair (port × 16 + pair), the tick (as run) in which each rate group last lost its lock
(R248), and the non-audio preambles that a V bit hides from the ring (R250), each as its port, pair and sample index. -/
structure Serial where
  ports    : Sparse SpHid
  pairs    : Sparse SiPair
  unlockAt : Sparse Nat
  pre      : List (Nat × Nat × Nat)
deriving DecidableEq, Repr

/-- What a channel's gain ramp leads to when it reaches 0 (R305, R306, R308). -/
inductive GainEnd | stay | toMute | toDown | change
deriving DecidableEq, Repr

/-- A power channel behind its registers (R299 to R314). Ramps in DAC cycles: the state gain of 122,880, the common mode of
`cmTotal`. `dir` is 0 steady, 1 up, 2 down; `gainEnd` what a fall to 0 leads to; `stopTo` the state after RAMP_DOWN (0 OFF, 6
RETRY_WAIT for NTC_SHUT, 7 RETRY_WAIT for RAIL); `test` the DC test running (0 none, 1 start, 2 retry, 3 commanded);
`expired` a retry wait that has run out; `retried` tripped again counts as a failed retry; `ntcShut` its NTC holds it;
`feed` and `mod` what the selector and modulator use (bus, 256 none); the VFS ramp (from, to in µV, ticks run); limiter gains in
10⁻⁶ as the last tick left them: rail, brownout, thermal, reactive; `slipped` a SYNC channel out of lock (R302); `shunt` and `load` the SHUNT and
LOAD_NOM taken at its start (R308); `look` the buffered ticks, newest first, as samples and PEAK; `out` the samples of the tick now playing after the
pilot; `limAt` the last tick limited by R320; `railAt` the tick in which its rail dropped it (R327); `outFrom` the gain from which the ramp before
RAMP_DOWN began (R343); `pilotBad` the pilot window so far is not valid; `winAt` the tick (as run) in which it began; `base` the baseline before a
write in this window (VALID, magnitude, phase; R346); `fade` the ticks left of the pilot's fade-in (R343); runs of windows not OK and OK (R345). -/
structure PchHid where
  gain    : Nat
  dir     : Nat
  gainEnd : GainEnd
  cm      : Nat
  cmTotal : Nat
  stopTo  : Nat
  armed   : Bool
  test    : Nat
  expired : Bool
  retried : Bool
  ntcShut : Bool
  feed    : Nat
  mod     : Nat
  vfsFrom : Nat
  vfsTo   : Nat
  vfsRun  : Nat
  rail    : Nat
  brown   : Nat
  therm   : Nat
  react   : Nat
  slipped : Bool
  shunt   : Nat
  load    : Nat
  look    : List (List Int × Nat)
  out     : List Int
  limAt   : Option Nat
  railAt  : Option Nat
  outFrom : Nat
  pilotBad : Bool
  winAt   : Nat
  base    : Option (Bool × Nat × Int)
  fade    : Nat
  devRun  : Nat
  okRun   : Nat
deriving DecidableEq, Repr

/-- A channel at reset. -/
def PchHid.init : PchHid where
  gain := 0
  dir := 0
  gainEnd := .stay
  cm := 0
  cmTotal := 0
  stopTo := 0
  armed := false
  test := 0
  expired := false
  retried := false
  ntcShut := false
  feed := 256
  mod := 0
  vfsFrom := 20000000
  vfsTo := 20000000
  vfsRun := 120
  rail := 1000000
  brown := 1000000
  therm := 1000000
  react := 1000000
  slipped := false
  shunt := 5
  load := 4
  look := []
  out := []
  limAt := none
  railAt := none
  outFrom := 0
  pilotBad := false
  winAt := 0
  base := none
  fade := 0
  devRun := 0
  okRun := 0

/-- A boost rail behind its registers, voltages in µV: the command, the setpoint, the ticks (as run) of the faults that
count, whether an NTC warning or shutdown holds it. -/
structure RailHid where
  cmd     : Nat
  setp    : Nat
  faults  : List Nat
  ntcWarn : Bool
  ntcShut : Bool
deriving DecidableEq, Repr

/-- A rail at reset. -/
def RailHid.init : RailHid := ⟨0, 0, [], false, false⟩

/-- What the die link's frames carry (R22), as the power die last received it: the samples of each channel in the tick, both rail setpoints in µV, and
the power die's status, as channel states and then rail states. -/
structure DieLink where
  samples   : List (List Int)
  setpoints : List Nat
  status    : List Nat
deriving DecidableEq, Repr

/-- The die link before its first frame. -/
def DieLink.init : DieLink := ⟨[], [0, 0], []⟩

/-- The power stage: channels, rails, the content of the die link, the DAC clock lost from PLL-M, die-link frames failed in a row, the die link lost and
for how many ticks, its 100 ms shutdown, the brownout ceiling in 10⁻⁶ and whether a hold is being counted, and the last
tick in which a channel was limited by R320. -/
structure Power where
  ch       : Sparse PchHid
  rails    : Sparse RailHid
  link     : DieLink
  pllLost  : Bool
  badFrames : Nat
  linkLost : Bool
  linkTicks : Nat
  linkOff  : Bool
  brownCeil : Nat
  hold     : Bool
  limTick  : Option Nat
deriving DecidableEq, Repr

/-- The commanded diagnostic operation (R338, R339): its code (0 none), the channels still to be taken, the channel under
test, its step (0 waiting for the rail, 1 DC test, 2 common mode up, 3 to 8 tones, 9 common mode down, 10 done), and the
tones measured (magnitude, phase). -/
structure Diag where
  op    : Nat
  left  : List Nat
  cur   : Option Nat
  step  : Nat
  tones : List (Nat × Int)
deriving DecidableEq, Repr

/-- A crossover relay behind its registers (R406): 0 idle or held, 1 its targets stop, 2 energised or released and settling, 3
its targets start, 4 a takeover is due; whether it is being released; and the target channels whose commit of ON waits for one that is pending on
their page. -/
structure RelayHid where
  step    : Nat
  release : Bool
  owe     : List Nat
deriving DecidableEq, Repr

/-- A relay at rest. -/
def RelayHid.init : RelayHid := ⟨0, false, []⟩

/-- What a standby held before a re-seat began (R404): the configuration in force, the crosspoint banks, the shadows of the pair-common pages, the
pages of each commit that waited, the mixer and the engines; and, word by word, what the re-seat has overwritten in memory since. -/
structure Saved where
  regs   : Sparse Nat
  mem    : Sparse (BitVec 8)
  shadow : Sparse Pend
  arms   : List (List Nat)
  mix    : Mixer
  je     : Engines
  words  : Sparse Nat
deriving DecidableEq, Repr

/-- What an ACTIVE unit has sent of its seated state (R401): memory and registers as they stood then, and the areas of memory that it sent. -/
structure SeatSent where
  mem    : Sparse (BitVec 8)
  regs   : Sparse Nat
  areas  : List (Nat × Nat)
deriving DecidableEq, Repr

/-- The brace link and its roles behind their registers: role changes waiting for the boundary with their causes (R384), a
self-demotion notice for the next brace frame (R387), the device state that the partner last reported, whether the partner
is declared lost, valid brace frames in a row and the tick (as run) of the last, the partner's presence for the tick now
read (R388), clip instances that agreement holds back in this tick and in the next, those that this unit's own presence bits lack, own and partner's digests by tick (R394), mirrored commit results not yet
used (R391), what stood before a re-seat, the tick (as run) at which round 1 began, the tick at which FINAL begins, whether SEAL
has been sent, what the seal brings (R402), the relays, whether a partition with two ACTIVE units has been counted (R399), whether
the partner has been heard since this unit's last role change (R383), the first tick whose digests are compared (R402), and the session and
count of the last heartbeat that was accepted (R381, R438). Of the mirrored writes and of the commit results (R391): those that the partner has not
acknowledged, oldest first, the positions of the first of each, and the positions up to which this unit has taken its partner's. Then what the
active has sent of its seated state, and the tick (as run) of the seal on a unit in step (R402). -/
structure Brace where
  want    : List (Role × Nat)
  notice  : Bool
  ptnDev  : Nat
  lost    : Bool
  run     : Nat
  last    : Option Nat
  present : Option Lacks
  clips   : List Nat
  clipsTo : List Nat
  mine    : List Nat
  own     : List (Nat × Nat)
  ptn     : List (Nat × Nat)
  results : List CommitWord
  saved   : Option Saved
  seatAt  : Nat
  finalAt : Option Nat
  sealed  : Bool
  seat    : Option Seat
  relays  : Sparse RelayHid
  dual    : Bool
  fresh   : Bool
  cmpFrom : Nat
  beat    : Option (Nat × Nat)
  outMir  : List Mirror
  outRes  : List CommitWord
  base    : Nat × Nat
  got     : Nat × Nat
  sent    : Option SeatSent
  sealAt  : Option Nat
deriving DecidableEq, Repr

/-- A unit that has heard and done nothing. -/
def Brace.init : Brace where
  want := []
  notice := false
  ptnDev := 0
  lost := false
  run := 0
  last := none
  present := none
  clips := []
  clipsTo := []
  mine := []
  own := []
  ptn := []
  results := []
  saved := none
  seatAt := 0
  finalAt := none
  sealed := false
  seat := none
  relays := []
  dual := false
  fresh := false
  cmpFrom := 0
  beat := none
  outMir := []
  outRes := []
  base := (0, 0)
  got := (0, 0)
  sent := none
  sealAt := none

/-- An instance that the device has just created: INIT waits. -/
def Inst.init0 : Inst :=
  ⟨true, none, 0, 0, [], [], (0, 0), none, ⟨0, 0, false, 0, 0, 0, false, 0⟩, ⟨false, false, 0, 0, 0, false, 0⟩, 0, true, 0, 0, 0, false, 0, 0,
    G722.init⟩

/-- A clip of the CLIPIDX section in force (R369): address, length, format, CRC-32, and whether it was checked and found bad. -/
structure Clip where
  addr   : Nat
  len    : Nat
  format : Nat
  crc    : Nat
  bad    : Bool
deriving DecidableEq, Repr

/-- The state of the block. Registers have one home, `regs` (values in force and device values), under the key of
`Fld.key`; a key that is not listed holds the field's reset value. `shadow` lists the pending writes of shadowed
fields, by page. `mem` lists the bytes of every memory of R469 by address. -/
structure State where
  dev      : Dev
  role     : Role
  tickNum  : Nat                    -- R44; meaningful while ticks run
  tg       : Nat                    -- ticks as the generator ran them since reset (R451)
  win      : TickWin
  regs     : Sparse Nat
  shadow   : Sparse Pend
  latch    : Sparse Nat             -- words latched by R478, by register key
  mem      : Sparse (BitVec 8)
  queue    : List Commit            -- R63, oldest first
  repack   : Bool                   -- DPOOL_CTRL.REPACK asked for (R272)
  op       : HostOp
  porst    : Bool                   -- PORST_N is low (R410)
  coreLow  : Bool                   -- VDD_CORE is below its reset level (R322)
  safeWait : Bool                   -- a fatal fault in RUN waits for the next tick start (R459)
  raw      : List (Nat × Nat × Bool) -- events whose raw bit is set, with the tick (as run) of the raise and whether ticks ran (R451)
  logged   : List (Nat × Nat)       -- events logged, with the tick (as run) that holds their record (R456)
  net      : Net
  ptp      : Ptp
  str      : Streams
  plumb    : Plumb
  plls     : Plls
  host     : HostPath
  otp      : Otp
  boot     : Boot
  serial   : Serial
  zeroTick : Option Nat             -- the tick whose inputs read zero after an epoch set in RUN (R46)
  peerEpoch : Bool                  -- the brace partner's last frame reports EPOCH_VALID (R379)
  power    : Power
  diag     : Diag
  brace    : Brace
  mix      : Mixer
  je       : Engines
  clips    : Sparse Clip            -- the CLIPIDX section in force, present clips by CLIP_ID
  svc      : Svc
  free     : Nat                    -- the model's own: how many free values have been drawn
  wire     : List Out               -- the model's own: what the device has sent, newest first
  pending  : List Instr             -- the commands waiting, first in, first out
deriving DecidableEq, Repr

/-- The machine right after reset: no power, every register at its stated reset value (`regs` lists nothing), nothing
pending. What the spec gives no value for is named in notes/assumptions. -/
def State.reset : State where
  dev := .off
  role := .solo
  tickNum := 0
  tg := 0
  win := .overhead
  regs := []
  shadow := []
  latch := []
  mem := []
  queue := []
  repack := false
  op := .none
  porst := true
  coreLow := false
  safeWait := false
  raw := []
  logged := []
  net := ⟨[], [], 0, [], [], [], none, false⟩
  ptp := ⟨[], 0, 0⟩
  str := ⟨[], [], [], [], false, false, [], [], [], [], none, [], none⟩
  plumb := ⟨[], 0, 0, 0, 0, 0, 0, [], [], [], none, false, [], 0, []⟩
  plls := ⟨false, 0, 0, false, false, []⟩
  host := ⟨[], []⟩
  otp := ⟨0, 0, 0, false, [], 0, [], false⟩
  boot := Boot.init
  serial := ⟨[], [], [], []⟩
  zeroTick := none
  peerEpoch := false
  power := ⟨[], [], DieLink.init, false, 0, false, 0, false, 1000000, false, none⟩
  diag := ⟨0, [], none, 0, []⟩
  brace := Brace.init
  mix := ⟨[], [], 0, false, none, false, [], [], [], [], [], (0, 0), none⟩
  je := ⟨⟨[], 0, [], []⟩, [], [], [], false, [], false, [], []⟩
  clips := []
  svc := Svc.init
  free := 0
  wire := []
  pending := []

end Sys2Proof.Machine
end

