-- ==== Sys2Proof/Machine/Ops.lean ====
section
/-! DEFINITION. The named operations over registers and memory: field access, counters, memory bytes and words, the
protection regions, free values, and the small arithmetic of fields and byte orders. -/

namespace Sys2Proof.Machine

/-- What a command answers. -/
abbrev Ans := Host.Outcome State Fault Refusal

/-! ### Fields -/

/-- The value of a register field in force, or the device's value of a status field. -/
def State.get (s : State) (f : Fld) (i : Nat := 0) (j : Nat := 0) : Nat :=
  Sparse.get (f.resetAt i) s.regs (f.key i j)

/-- The field at value v, cut to the field's width. -/
def State.put (s : State) (f : Fld) (v : Nat) (i : Nat := 0) (j : Nat := 0) : State :=
  { s with regs := Sparse.put (f.resetAt i) s.regs (f.key i j) (v % 2 ^ f.width) }

/-- A field read as two's complement. -/
def signedOf (width v : Nat) : Int := if 2 * v < 2 ^ width then (v : Int) else (v : Int) - (2 ^ width : Nat)

/-- A number in two's complement of a width. -/
def toTwos (width : Nat) (x : Int) : Nat := (x % (2 ^ width : Nat)).toNat

/-- A number saturated to the signed range of a width. -/
def satTo (width : Nat) (x : Int) : Int :=
  if x < -((2 ^ (width - 1) : Nat) : Int) then -((2 ^ (width - 1) : Nat) : Int)
  else if ((2 ^ (width - 1) : Nat) : Int) - 1 < x then ((2 ^ (width - 1) : Nat) : Int) - 1
  else x

/-- A signed field. -/
def State.getI (s : State) (f : Fld) (i : Nat := 0) (j : Nat := 0) : Int := signedOf f.width (s.get f i j)

/-- A signed field at x, saturated to the field's range. -/
def State.putI (s : State) (f : Fld) (x : Int) (i : Nat := 0) (j : Nat := 0) : State :=
  s.put f (toTwos f.width (satTo f.width x)) i j

/-- A one-bit field as a Bool. -/
def State.flag (s : State) (f : Fld) (i : Nat := 0) (j : Nat := 0) : Bool := s.get f i j == 1

/-- Bit k of a field that holds one bit per item. -/
def State.bit (s : State) (f : Fld) (k : Nat) (i : Nat := 0) (j : Nat := 0) : Bool := bitAt (s.get f i j) k

/-- A number with bit k at b. -/
def setBit (v k : Nat) (b : Bool) : Nat :=
  if b then (if bitAt v k then v else v + 2 ^ k) else (if bitAt v k then v - 2 ^ k else v)

/-- Bit k of a field at b. -/
def State.putBit (s : State) (f : Fld) (k : Nat) (b : Bool) (i : Nat := 0) (j : Nat := 0) : State :=
  s.put f (setBit (s.get f i j) k b) i j

/-- The page on which instance i of a field stands. -/
def Fld.pageOf (f : Fld) (i : Nat) : Nat := if 1 < f.npages then f.page + i else f.page

/-- PG_CTRL.EN of the common header (R472), by page. -/
def R.PG_CTRL_EN : Fld := ⟨0x00, 256, 0x04, 0, 1, 0, 1, 0, 0, .rws, 1, .all, .none, none⟩
/-- PG_STATUS.SAT_SEEN of the common header (R472), by page. -/
def R.PG_STATUS_SAT_SEEN : Fld := ⟨0x00, 256, 0x08, 0, 1, 0, 1, 8, 8, .w1c, 0, .all, .none, none⟩
/-- PG_SHADOW.REJECTED of the common header (R472, R66), by page. -/
def R.PG_SHADOW_REJECTED : Fld := ⟨0x00, 256, 0x0c, 0, 1, 0, 1, 9, 9, .w1c, 0, .all, .none, none⟩

/-- A counter field of a page n greater: it saturates at its largest value and then sets PG_STATUS.SAT_SEEN of its
page (R480). -/
def State.bumpBy (s : State) (f : Fld) (n : Nat) (i : Nat := 0) (j : Nat := 0) : State :=
  if s.get f i j + n ≥ 2 ^ f.width - 1 then
    (s.put f (2 ^ f.width - 1) i j).put R.PG_STATUS_SAT_SEEN 1 (f.pageOf i)
  else s.put f (s.get f i j + n) i j

/-- A counter one greater (R480). -/
def State.bump (s : State) (f : Fld) (i : Nat := 0) (j : Nat := 0) : State := s.bumpBy f 1 i j

/-! ### The shadow (R61) -/

/-- The key of a pending write: its page above the field's key. -/
def Fld.shadowKey (f : Fld) (i j : Nat) : Nat := f.pageOf i * 2 ^ 64 + f.key i j

/-- What a read of a shadowed field returns: the pending value, else the value in force (R475). -/
def State.shGet (s : State) (f : Fld) (i : Nat := 0) (j : Nat := 0) : Nat :=
  match Sparse.find s.shadow (f.shadowKey i j) with
  | some p => p.v
  | none => s.get f i j

/-- A write of a shadowed field reaches the shadow (R61). -/
def State.shPut (s : State) (f : Fld) (v : Nat) (i : Nat := 0) (j : Nat := 0) : State :=
  { s with shadow := Sparse.set s.shadow (f.shadowKey i j) ⟨f, i, j, v % 2 ^ f.width⟩ }

/-- The pending writes of a page. -/
def State.pendOf (s : State) (p : Nat) : List Pend :=
  (s.shadow.filter (fun e => e.1 / 2 ^ 64 == p)).map (·.2)

/-- Every pending write of the pages in force, the shadow kept (what a commit of the pages would give). -/
def State.withShadow (s : State) (pages : List Nat) : State :=
  (pages.flatMap s.pendOf).foldl (fun t p => t.put p.f p.v p.i p.j) s

/-- The shadow of the pages discarded: afterwards it equals the value in force. -/
def State.dropShadow (s : State) (pages : List Nat) : State :=
  { s with shadow := s.shadow.filter (fun e => !pages.contains (e.1 / 2 ^ 64)) }

/-! ### Memory -/

/-- What a byte that nothing has written reads as: the flash reads erased (R418); every other memory reads 0 (R257 for
the crosspoint banks; DESIGN CHOICE for the memories that R77 leaves unspecified, log entry 3). -/
def memDefault (a : Nat) : BitVec 8 := if 0x40000000 ≤ a ∧ a < 0x60000000 then 0xff else 0

/-- One byte of memory. -/
def State.byte (s : State) (a : Nat) : BitVec 8 := Sparse.get (memDefault a) s.mem a

/-- One byte of memory written. -/
def State.setByte (s : State) (a : Nat) (b : BitVec 8) : State :=
  { s with mem := Sparse.put (memDefault a) s.mem a b }

/-- The memory's canonical form. -/
def Memory.wf (m : Sparse (BitVec 8)) : Bool := Sparse.wf memDefault m

/-- Bytes from an address on, written in order. -/
def State.setBytes (s : State) (a : Nat) : List (BitVec 8) → State
  | [] => s
  | b :: bs => (s.setByte a b).setBytes (a + 1) bs

/-- n bytes from an address on. -/
def State.bytes (s : State) (a : Nat) : Nat → List (BitVec 8)
  | 0 => []
  | n + 1 => s.byte a :: s.bytes (a + 1) n

/-- The little-endian value of bytes (R53, R414, R419). -/
def leVal : List (BitVec 8) → Nat
  | [] => 0
  | b :: bs => b.toNat + 256 * leVal bs

/-- The big-endian value of bytes (network order, R437). -/
def beVal (bs : List (BitVec 8)) : Nat := bs.foldl (fun a b => a * 256 + b.toNat) 0

/-- The n low bytes of a number, little end first. -/
def leBytes : Nat → Nat → List (BitVec 8)
  | 0, _ => []
  | n + 1, v => BitVec.ofNat 8 v :: leBytes n (v / 256)

/-- The n low bytes of a number, big end first. -/
def beBytes (n v : Nat) : List (BitVec 8) := (leBytes n v).reverse

/-- The little-endian number of n bytes at an address. -/
def State.le (s : State) (a n : Nat) : Nat := leVal (s.bytes a n)

/-- A 32-bit word of memory: the byte at the lowest address in bits [7:0] (R449, R419). -/
def State.word (s : State) (a : Nat) : Nat := s.le a 4

/-- A 32-bit word of memory written. -/
def State.setWord (s : State) (a v : Nat) : State := s.setBytes a (leBytes 4 v)

/-- A signed sample (Q1.31) held in a word of memory. -/
def State.sample (s : State) (a : Nat) : Int := signedOf 32 (s.word a)

/-- The ranges of R469 that are memory, the shadow-bank alias apart. -/
def isMemory (a : Nat) : Bool :=
  (0x08000000 ≤ a && a < 0x08040000) || (0x10000000 ≤ a && a < 0x11000000) ||
  (0x20000000 ≤ a && a < 0x20800000 && a % 0x100000 < 0x80000) ||
  (0x30000000 ≤ a && a < 0x30100000) || (0x40000000 ≤ a && a < 0x60000000)

/-- The shared memory of R469. -/
def inShared (a : Nat) : Bool := 0x10000000 ≤ a && a < 0x11000000

/-- The address ranges of R469 that exist: register pages, memories and the shadow-bank alias. -/
def isMapped (a : Nat) : Bool := a < 0x100000 || isMemory a || (0x08040000 ≤ a && a < 0x08060000)

/-! ### Protection regions (R74 to R76, R470, R514) -/

/-- The initiator classes that the regions check, and the boot ROM. -/
inductive Cls | hq | ib | sp | eng | sdma | fdma | boot
deriving DecidableEq, Repr

/-- The class code of PROT_DENY_INFO (R81). -/
def Cls.code : Cls → Nat
  | .hq => 0 | .ib => 1 | .sp => 2 | .eng => 3 | .sdma => 4 | .fdma => 5 | .boot => 0

/-- The class of an initiator (R24). -/
def clsOf : Initiator → Cls
  | .hq => .hq | .ib _ => .ib | .sp => .sp | .boot => .boot

/-- The permission bits of a class in region n: bit 0 read, bit 1 write (R81). -/
def State.permBits (s : State) (c : Cls) (n : Nat) : Nat :=
  match c with
  | .hq => s.get R.PROT_PERM_HQ n
  | .ib => s.get R.PROT_PERM_IB n
  | .sp => s.get R.PROT_PERM_SP n
  | .eng => s.get R.PROT_PERM_ENG n
  | .sdma => s.get R.PROT_PERM_SDMA n
  | .fdma => s.get R.PROT_PERM_FDMA n
  | .boot => 3

/-- Address a lies in valid region n, which ends at the top of the address space at the latest (R74). -/
def State.inRegion (s : State) (n a : Nat) : Bool :=
  s.flag R.PROT_BASE_VALID n && s.get R.PROT_BASE_BASE n * 4096 ≤ a &&
  a < s.get R.PROT_BASE_BASE n * 4096 + s.get R.PROT_SIZE_PAGES n * 4096 && a < 0x100000000

/-- Some region grants the class the access (R74). -/
def State.granted (s : State) (c : Cls) (wr : Bool) (a : Nat) : Bool :=
  (List.range 32).any (fun n => s.inRegion n a && bitAt (s.permBits c n) (if wr then 1 else 0))

/-- The boot rule (R514), in force from PORST_N until the boot ROM first writes a region. -/
def bootRule (c : Cls) (wr : Bool) (a : Nat) : Bool :=
  match c with
  | .boot => true
  | .hq => if wr then a / 4096 == 0x70 else a / 4096 == 0 || a / 4096 == 0x70
  | _ => false

/-- An access is permitted: R74 or the boot rule, and then R470. -/
def State.permits (s : State) (c : Cls) (wr : Bool) (a : Nat) : Bool :=
  (c == .boot || (if s.boot.regions then s.granted c wr a else bootRule c wr a)) &&
  isMapped a && !(wr && 0x40000000 ≤ a && a < 0x60000000) &&
  !(c != .sp && s.get R.PROT_CTRL_LOCK == 1 && 0x30000000 ≤ a && a < 0x30100000)

/-- Every byte of an area is granted to a class (the area checks of R55, R94, R232, R271, R353): whole 4 KiB pages of
the area are looked at, which is exact because regions are made of pages. -/
def State.areaGranted (s : State) (c : Cls) (wr : Bool) (a len : Nat) : Bool :=
  len == 0 || (List.range ((a + len - 1) / 4096 - a / 4096 + 1)).all
    (fun k => s.granted c wr ((a / 4096 + k) * 4096))

/-- An area lies wholly in shared memory (an empty one does). -/
def inSharedArea (a len : Nat) : Bool := len == 0 || (inShared a && inShared (a + len - 1))

/-- The record of a denied access (R76): the first is captured, every one is counted, those of the service-processor class also
on the SERVICE page. -/
def State.denyRecord (s : State) (c : Cls) (wr : Bool) (a : Nat) : State :=
  let t := if s.flag R.PROT_DENY_INFO_VALID then s else
    (((s.put R.PROT_DENY_ADDR_ADDR a).put R.PROT_DENY_INFO_CLASS c.code).put R.PROT_DENY_INFO_WRITE (b2n wr)).put
      R.PROT_DENY_INFO_VALID 1
  let t := if c == .sp then t.bump R.SVC_DENY_CNT else t
  t.bump R.PROT_DENY_CNT

/-! ### Free values, the transcript and time -/

/-- A free value of 32 bits, and the state that has drawn it: nothing constrains it (Config.freeWord). -/
def State.draw (s : State) : Nat × State := ((Config.freeWord s.free).toNat, { s with free := s.free + 1 })

/-- Something leaves the device. -/
def State.send (s : State) (o : Out) : State := { s with wire := o :: s.wire }

/-- The sample index of the first sample of the present tick (R44). -/
def State.sidx (s : State) : Nat := 8 * s.tickNum

/-- The media time at which tick n starts, in ns, rounded down (R44). -/
def tickStartNs (n : Nat) : Nat := n * 1000000 / 6

/-- The device runs ticks: in every state but OFF, BOOT and SLEEP, and from the end of BOOT or of a wake until RUN begins (R46,
R429), unless the Truss clock is gated (R39). -/
def State.ticking (s : State) : Bool :=
  s.dev != .off && ((s.dev != .boot && s.dev != .sleep) || s.op == .starting) && !s.plls.clockLost

/-- In RUN, and not stopping (R430). -/
def State.runs (s : State) : Bool := s.dev == .run && (match s.op with | .stopping _ _ _ => false | _ => true)

/-- The device is powered. -/
def State.powered (s : State) : Bool := s.dev != .off

/-- The device is in READY, RUN or SAFE, the states in which the network functions run (R42). -/
def State.netUp (s : State) : Bool := (s.dev == .ready || s.dev == .run || s.dev == .safe) && !s.plls.clockLost

/-- A unit of a pair: PAIR_EN = 1, whatever its role (R19, R378). -/
def State.paired (s : State) : Bool := s.flag R.BRACE_CFG_PAIR_EN

/-- The mixer, the engines and the services run: in RUN, but on no unit that stores a re-seat or cold-starts (R42, R401, R404). -/
def State.playing (s : State) : Bool :=
  s.dev == .run && s.role != .coldStart && !(s.role == .seating && decide (2 ≤ s.get R.BRACE_SEAT_STATUS_PHASE))

/-- A standby that takes port samples and ratios from the active: in seat phase FINAL or in step (R389, R390). -/
def State.follows (s : State) : Bool :=
  s.role == .inStep || (s.role == .seating && s.get R.BRACE_SEAT_STATUS_PHASE == 3)

/-- The unit and its partner, which is not lost, are in step by the roles that they hold (R387, R388, R394). -/
def State.pairInStep (s : State) : Bool :=
  let r := s.get R.BRACE_STATUS_PARTNER_ROLE
  (s.flag R.BRACE_STATUS_BRACE_PRESENT || s.flag R.BRACE_STATUS_NET_PRESENT) && ((s.role == .inStep && r == 1) || (s.role == .active && r == 3))

/-- Input agreement is applied (R388): the pair is in step, or the active has sent SEAL, from whose boundary on it applies it (R402). -/
def State.agrees (s : State) : Bool := s.pairInStep || (s.role == .active && s.brace.sealed)

/-- A unit that the seal has put in step sends nothing before the outputs that leave two ticks after it (R402). -/
def State.settling (s : State) : Bool := (s.brace.sealAt.map (fun x => decide (s.tg < x + 2))).getD false

/-- Input agreement or the pair-latency flag adds one tick (R33, R34, R96, R106, R378). -/
def State.extraTick (s : State) : Bool := s.paired || s.flag R.SYS_IMG_INFO_PAIR_LATENCY

/-- The lead in ticks (R96). -/
def State.lead (s : State) : Nat := if s.extraTick then 4 else 3

/-- OUT in ticks (R106). -/
def State.out (s : State) : Nat := if s.extraTick then 3 else 2

/-- f applied once for each number below n, in rising order. -/
def State.each (s : State) (n : Nat) (f : State → Nat → State) : State := (List.range n).foldl f s

/-- f applied if b. -/
def State.when (s : State) (b : Bool) (f : State → State) : State := if b then f s else s

/-- f done at the boundary that begins the next tick, before TICK_BOUNDARY does the rest of that boundary's work: f sees the
number of the tick that begins. -/
def State.atBoundary (s : State) (f : State → State) : State :=
  { f { s with tg := s.tg + 1, tickNum := (s.tickNum + 1) % 2 ^ 48 } with tg := s.tg, tickNum := s.tickNum }

end Sys2Proof.Machine
end

