-- ==== Sys2Proof/Machine/Flags.lean ====
section
/-! DEFINITION. Events (R450 to R456): their numbers, raising, holding, signalling, logging and page ownership; and the
denied access, whose further effect is an event (R76). -/

namespace Sys2Proof.Machine

/-- Event 0 (R450). -/
abbrev EV_BOOT_DONE : Nat := 0
/-- Event 1 (R450). -/
abbrev EV_CONFIG_REJECT : Nat := 1
/-- Event 2 (R450). -/
abbrev EV_PROT_WRITE_REJECT : Nat := 2
/-- Event 3 (R450). -/
abbrev EV_FENCE_DONE : Nat := 3
/-- Event 4 (R450). -/
abbrev EV_SM_ECC_CORR : Nat := 4
/-- Event 5 (R450). -/
abbrev EV_SM_ECC_UNCORR : Nat := 5
/-- Event 6 (R450). -/
abbrev EV_TEMP_WARN : Nat := 6
/-- Event 7 (R450). -/
abbrev EV_TEMP_CRIT : Nat := 7
/-- Event 8 (R450). -/
abbrev EV_VIN_WARN : Nat := 8
/-- Event 9 (R450). -/
abbrev EV_VIN_RESET : Nat := 9
/-- Event 10 (R450). -/
abbrev EV_CORE_WARN : Nat := 10
/-- Event 11 (R450). -/
abbrev EV_CORE_RESET : Nat := 11
/-- Event 12 (R450). -/
abbrev EV_VGD_WARN : Nat := 12
/-- Event 13 (R450). -/
abbrev EV_VGD_UVLO : Nat := 13
/-- Event 14 (R450). -/
abbrev EV_IO_WARN : Nat := 14
/-- Event 15 (R450). -/
abbrev EV_RAIL_UV : Nat := 15
/-- Event 16 (R450). -/
abbrev EV_PLUMB_REF_CHANGE : Nat := 16
/-- Event 17 (R450). -/
abbrev EV_HOLDOVER_ENTER : Nat := 17
/-- Event 18 (R450). -/
abbrev EV_HOLDOVER_EXIT : Nat := 18
/-- Event 19 (R450). -/
abbrev EV_REF_HISTORY : Nat := 19
/-- Event 20 (R450). -/
abbrev EV_PULSE_OFFSET : Nat := 20
/-- Event 21 (R450). -/
abbrev EV_PLLM_UNLOCK : Nat := 21
/-- Event 22 (R450). -/
abbrev EV_PLLC_UNLOCK : Nat := 22
/-- Event 23 (R450). -/
abbrev EV_PLLS_UNLOCK : Nat := 23
/-- Event 24 (R450). -/
abbrev EV_LINK_P0 : Nat := 24
/-- Event 25 (R450). -/
abbrev EV_LINK_P1 : Nat := 25
/-- Event 26 (R450). -/
abbrev EV_LINK_P2 : Nat := 26
/-- Event 27 (R450). -/
abbrev EV_LINK_P3 : Nat := 27
/-- Event 28 (R450). -/
abbrev EV_LINK_P4 : Nat := 28
/-- Event 29 (R450). -/
abbrev EV_LINK_P5 : Nat := 29
/-- Event 30 (R450). -/
abbrev EV_LINK_P6 : Nat := 30
/-- Event 31 (R450). -/
abbrev EV_LINK_P7 : Nat := 31
/-- Event 32 (R450). -/
abbrev EV_PAUSE_SENT : Nat := 32
/-- Event 33 (R450). -/
abbrev EV_PAUSE_RCVD : Nat := 33
/-- Event 34 (R450). -/
abbrev EV_FRAME_ERR : Nat := 34
/-- Event 35 (R450). -/
abbrev EV_PTP_STATE : Nat := 35
/-- Event 36 (R450). -/
abbrev EV_FRER_SEQ : Nat := 36
/-- Event 37 (R450). -/
abbrev EV_TAS_ERR : Nat := 37
/-- Event 38 (R450). -/
abbrev EV_WAKE_MATCH : Nat := 38
/-- Event 39 (R450). -/
abbrev EV_PLCA_FAULT : Nat := 39
/-- Event 40 (R450). -/
abbrev EV_RX_UNDERRUN : Nat := 40
/-- Event 41 (R450). -/
abbrev EV_RX_LATE : Nat := 41
/-- Event 42 (R450). -/
abbrev EV_RX_STATE : Nat := 42
/-- Event 43 (R450). -/
abbrev EV_TX_ADMIT_REFUSED : Nat := 43
/-- Event 44 (R450). -/
abbrev EV_DUP_ANOMALY : Nat := 44
/-- Event 45 (R450). -/
abbrev EV_ALIGN_BREAK : Nat := 45
/-- Event 46 (R450). -/
abbrev EV_CRF_LOCK : Nat := 46
/-- Event 47 (R450). -/
abbrev EV_NON_AUDIO_NET : Nat := 47
/-- Event 48 (R450). -/
abbrev EV_PORT_UNDERRUN : Nat := 48
/-- Event 49 (R450). -/
abbrev EV_PORT_OVERRUN : Nat := 49
/-- Event 50 (R450). -/
abbrev EV_ASRC_UNLOCK : Nat := 50
/-- Event 51 (R450). -/
abbrev EV_NON_AUDIO_PORT : Nat := 51
/-- Event 52 (R450). -/
abbrev EV_CSTATUS_CHANGE : Nat := 52
/-- Event 53 (R450). -/
abbrev EV_VALIDITY : Nat := 53
/-- Event 54 (R450). -/
abbrev EV_PORT_CLK_LOSS : Nat := 54
/-- Event 55 (R450). -/
abbrev EV_MASK_COMMIT : Nat := 55
/-- Event 56 (R450). -/
abbrev EV_TICK_OVERRUN : Nat := 56
/-- Event 57 (R450). -/
abbrev EV_COMMIT_DONE : Nat := 57
/-- Event 58 (R450). -/
abbrev EV_COMMIT_REJECTED : Nat := 58
/-- Event 59 (R450). -/
abbrev EV_XPT_CLIP : Nat := 59
/-- Event 60 (R450). -/
abbrev EV_XPT_INVALID : Nat := 60
/-- Event 61 (R450). -/
abbrev EV_ENGINE_FAULT : Nat := 61
/-- Event 62 (R450). -/
abbrev EV_DPOOL_EXHAUST : Nat := 62
/-- Event 63 (R450). -/
abbrev EV_CLIP_UNDERRUN : Nat := 63
/-- Event 64 (R450). -/
abbrev EV_PCH0_FAULT : Nat := 64
/-- Event 65 (R450). -/
abbrev EV_PCH1_FAULT : Nat := 65
/-- Event 66 (R450). -/
abbrev EV_PCH2_FAULT : Nat := 66
/-- Event 67 (R450). -/
abbrev EV_PCH3_FAULT : Nat := 67
/-- Event 68 (R450). -/
abbrev EV_PCH4_FAULT : Nat := 68
/-- Event 69 (R450). -/
abbrev EV_PCH5_FAULT : Nat := 69
/-- Event 70 (R450). -/
abbrev EV_PCH6_FAULT : Nat := 70
/-- Event 71 (R450). -/
abbrev EV_PCH7_FAULT : Nat := 71
/-- Event 72 (R450). -/
abbrev EV_PCH_STATE : Nat := 72
/-- Event 73 (R450). -/
abbrev EV_CLK_MUTE : Nat := 73
/-- Event 74 (R450). -/
abbrev EV_NTC_WARN : Nat := 74
/-- Event 75 (R450). -/
abbrev EV_BOOST_A_FAULT : Nat := 75
/-- Event 76 (R450). -/
abbrev EV_BOOST_B_FAULT : Nat := 76
/-- Event 77 (R450). -/
abbrev EV_DIAG_DONE : Nat := 77
/-- Event 78 (R450). -/
abbrev EV_SUPERVISION_DEVIATION : Nat := 78
/-- Event 79 (R450). -/
abbrev EV_SENSE_FALLBACK : Nat := 79
/-- Event 80 (R450). -/
abbrev EV_PARTNER_LOST : Nat := 80
/-- Event 81 (R450). -/
abbrev EV_ROLE_CHANGE : Nat := 81
/-- Event 82 (R450). -/
abbrev EV_DIVERGENCE : Nat := 82
/-- Event 83 (R450). -/
abbrev EV_RESEAT_DONE : Nat := 83
/-- Event 84 (R450). -/
abbrev EV_RESEAT_ABORTED : Nat := 84
/-- Event 85 (R450). -/
abbrev EV_BRACE_LINK_DOWN : Nat := 85
/-- Event 86 (R450). -/
abbrev EV_NET_HEARTBEAT_LOST : Nat := 86
/-- Event 87 (R450). -/
abbrev EV_RELAY_TAKEOVER : Nat := 87
/-- Event 88 (R450). -/
abbrev EV_REQ_REFUSED : Nat := 88
/-- Event 89 (R450). -/
abbrev EV_REQ_PREEMPTED : Nat := 89
/-- Event 90 (R450). -/
abbrev EV_CALL_STATE : Nat := 90
/-- Event 91 (R450). -/
abbrev EV_QUEUE_FULL : Nat := 91
/-- Event 92 (R450). -/
abbrev EV_INBAND_AUTH_FAIL : Nat := 92
/-- Event 93 (R450). -/
abbrev EV_HOST_ERR : Nat := 93
/-- Event 94 (R450). -/
abbrev EV_SP_WATCHDOG : Nat := 94
/-- Event 95 (R450). -/
abbrev EV_GPIO : Nat := 95

/-- The events a page owns, local bit 0 upward (R455). -/
def pageEvents (p : Nat) : List Nat :=
  if p = 0x00 then [0, 1, 3, 57, 58, 93] else
  if p = 0x01 then [4, 5, 94] else
  if p = 0x02 then [2] else
  if p = 0x03 then [92] else
  if p = 0x04 then [8, 9, 10, 11, 12, 13, 14, 15] else
  if p = 0x05 then [6, 7] else
  if p = 0x08 then [16, 17, 18, 19] else
  if p = 0x0d then [20] else
  if p = 0x0a then [21] else
  if p = 0x0b then [22] else
  if p = 0x0c then [23] else
  if p = 0x10 then [24, 32, 33, 34] else
  if p = 0x16 then [30, 39] else
  if 0x11 ≤ p ∧ p ≤ 0x17 then [24 + (p - 0x10)] else
  if p = 0x1b then [35] else
  if p = 0x1a then [36] else
  if p = 0x19 then [37] else
  if p = 0x1c then [38] else
  if p = 0x20 then [40, 41, 42, 44, 45, 47] else
  if p = 0x21 then [43] else
  if p = 0x22 then [46] else
  if p = 0x28 then [48, 49, 54, 55] else
  if p = 0x30 then [50] else
  if p = 0x31 then [51, 52, 53] else
  if p = 0x48 then [56] else
  if p = 0x38 then [59, 60] else
  if p = 0x40 then [61, 63] else
  if p = 0x39 then [62] else
  if p = 0x50 then [64, 72, 73, 74, 79] else
  if 0x51 ≤ p ∧ p ≤ 0x57 then [64 + (p - 0x50)] else
  if p = 0x58 then [75] else
  if p = 0x59 then [76] else
  if p = 0x5a then [77, 78] else
  if p = 0x60 then [80, 81, 82, 83, 84, 85, 86, 87] else
  if p = 0x68 then [88, 89, 90, 91] else
  if p = 0x72 then [95] else []

/-- The page that owns an event (R455). -/
def eventPage (e : Nat) : Nat := ((List.range 0x73).find? (fun p => (pageEvents p).contains e)).getD 0

/-- The sticky bit of an event (R451). -/
def State.sticky (s : State) (e : Nat) : Bool := s.bit R.EVT_STICKY_STICKY (e % 32) (e / 32)

/-- The raw bit of an event (R451). -/
def State.rawBit (s : State) (e : Nat) : Bool := s.raw.any (fun r => r.1 == e)

/-- The enable bit of an event (R452). -/
def State.enabled (s : State) (e : Nat) : Bool := s.bit R.EVT_ENABLE_ENABLE (e % 32) (e / 32)

/-- The route code of an event (R452). -/
def State.route (s : State) (e : Nat) : Nat :=
  bitsAt (s.get R.EVT_ROUTE_ROUTE (e / 16)) (2 * (e % 16) + 1) (2 * (e % 16))

/-- An event is pending (R452). -/
def State.pendingEv (s : State) (e : Nat) : Bool := s.sticky e && s.enabled e

/-- IRQ0_N (k = 0) or IRQ1_N (k = 1) is asserted (R453, R460). -/
def State.irq (s : State) (k : Nat) : Bool :=
  (List.range 96).any (fun e => s.pendingEv e && s.route e == k) ||
  (k == 0 && s.flag R.EVT_CTRL_FATAL_IRQ && s.flag R.EVT_FATAL_VALID)

/-- One record of the event log (R456): written through the service-processor class, lost where that is denied; the
ring and the sequence advance either way. -/
def State.logRecord (s : State) (e : Nat) (fatalCause : Option Nat) : State :=
  let s1 := { s.bump R.EVT_LOG_SEQ with logged := if s.ticking then (e, s.tg) :: s.logged else s.logged }
  let a := s.get R.EVT_LOG_BASE_BASE * 4096 + 16 * s.get R.EVT_LOG_HEAD_INDEX
  let w0 := e + (match fatalCause with | some c => 128 + 256 * c | none => 0) + 65536 * eventPage e
  let s2 :=
    if s1.permits .sp true a then
      (((s1.setWord a w0).setWord (a + 4) (s1.tickNum % 2 ^ 32)).setWord (a + 8) (s1.tickNum / 2 ^ 32 % 2 ^ 16)).setWord
        (a + 12) (s1.get R.EVT_LOG_SEQ)
    else s1.denyRecord .sp true a
  s2.put R.EVT_LOG_HEAD_INDEX
    (if s.get R.EVT_LOG_HEAD_INDEX + 1 ≥ s.get R.EVT_LOG_CTRL_ENTRIES then 0 else s.get R.EVT_LOG_HEAD_INDEX + 1)

/-- The event counts in the next EVENT frame of every slot whose subscription masks it, if it is raised while enabled
and routed in-band (R454). -/
def State.noteInBand (s : State) (e : Nat) : State :=
  if s.enabled e && s.route e == 2 then
    { s with host := { s.host with slots := s.host.slots.map (fun x =>
        if bitAt x.2.mask e && !x.2.waiting.contains e then (x.1, { x.2 with waiting := e :: x.2.waiting }) else x) } }
  else s

/-- What raising an event does but for the log (R451, R454). -/
def State.note (s : State) (e : Nat) : State :=
  let s1 := { s.putBit R.EVT_STICKY_STICKY (e % 32) true (e / 32) with
    raw := (e, s.tg, s.ticking) :: s.raw.filter (fun r => r.1 != e) }
  ((s1.put R.EVT_LAST_EVENT e).put R.EVT_LAST_TICK_TICK s.tickNum).noteInBand e

/-- The present tick holds a record of the event; while no ticks run, none does (R456). -/
def State.loggedNow (s : State) (e : Nat) : Bool := s.ticking && s.logged.contains (e, s.tg)

/-- An event is raised (R451, R456). -/
def State.raise (s : State) (e : Nat) : State :=
  let t := s.note e
  if t.flag R.EVT_LOG_CTRL_EN && t.bit R.EVT_LOG_MASK_MASK (e % 32) (e / 32) && !t.loggedNow e
  then t.logRecord e none else t

/-- An event is raised for a fatal fault: the fatal record stands for the event's own record (R456). -/
def State.raiseFatal (s : State) (e cause : Nat) : State :=
  let t := s.note e
  if t.flag R.EVT_LOG_CTRL_EN then t.logRecord e (some cause) else t

/-- The raw bits of events raised two ticks ago or earlier clear; of an event raised while no ticks ran, once 333.33 µs have passed in any case
(R451). -/
def State.expireRaw (s : State) : State :=
  { s with raw := s.raw.filter (fun r => decide (s.tg < r.2.1 + if r.2.2 then 2 else 3)) }

/-- The last record but k of the log, if it was written, gets the present tick number. -/
def State.restampRecord (s : State) (k : Nat) : State :=
  let n := max 1 (s.get R.EVT_LOG_CTRL_ENTRIES)
  let a := s.get R.EVT_LOG_BASE_BASE * 4096 + 16 * ((s.get R.EVT_LOG_HEAD_INDEX + n * (k + 1) - 1 - k) % n)
  if s.permits .sp true a then
    (s.setWord (a + 4) (s.tickNum % 2 ^ 32)).setWord (a + 8) (s.tickNum / 2 ^ 32 % 2 ^ 16) else s

/-- An epoch set has changed the number of the tick that begins from `old`: what this boundary has raised is raised after it, and carries the new
number (R464). -/
def State.restamp (s : State) (old : Nat) : State :=
  let t := s.when (s.get R.EVT_LAST_TICK_TICK == old % 2 ^ 32) (fun t => t.put R.EVT_LAST_TICK_TICK s.tickNum)
  t.each ((s.logged.filter (fun r => r.2 == s.tg)).length) State.restampRecord

/-- A denied access of a host or in-band initiator, the service processor or the boot ROM (R76). -/
def State.deny (s : State) (c : Cls) (wr : Bool) (a : Nat) : State :=
  let t := s.denyRecord c wr a
  if c == .hq || c == .ib then t.raise EV_HOST_ERR else t

end Sys2Proof.Machine
end

