-- ==== Sys2Proof/Machine/Operands.lean ====
section
/-! DEFINITION. The operand forms of a register access: which fields an address names, what a read returns and what a
write does by access code (R15, R16, R470 to R480), the common page header (R472), and word access to memory. Actions
that a write of a self-clearing bit starts are the commands of their own rows; HostAccess ties them in. -/

namespace Sys2Proof.Machine

/-! ### Which fields an address names -/

/-- The entry that a selector window shows (R479), as instance i. -/
def State.window (s : State) : Win → Nat
  | .none => 0
  | .strx => s.get R.STRX_SEL_ENTRY
  | .sttx => s.get R.STTX_SEL_ENTRY
  | .brPort => s.get R.BR_PORT_SEL_PORT
  | .brVlan => s.get R.BR_VLAN_SEL_VID
  | .tsnPort => s.get R.TSN_SEL_PORT
  | .tsnGcl => s.get R.TSN_SEL_PORT
  | .tsnSf => s.get R.TSN_SF_SEL_FILTER
  | .tsnFm => s.get R.TSN_FM_SEL_METER
  | .frer => s.get R.FRER_SEL_ENTRY
  | .ptpPort => s.get R.PTP_PORT_SEL_PORT
  | .band => s.get R.PLLM_BAND_SEL_ENTRY
  | .asrc => s.get R.ASRC_SEL_GROUP
  | .siPair => s.get R.SI_SEL_PORT * 16 + s.get R.SI_SEL_PAIR
  | .dpool => s.get R.DPOOL_SEL_DEST
  | .svcZone => s.get R.SVC_ZONE_SEL_ZONE
  | .svcCall => s.get R.SVC_CALL_SEL_SLOT

/-- The instance of a field that stands at an offset d above the field's own, if one does. -/
def Fld.strideMatch (f : Fld) (d : Nat) : Option (Nat × Nat) :=
  let i := if f.s1 = 0 then 0 else d / f.s1
  let r := if f.s1 = 0 then d else d % f.s1
  let j := if f.s2 = 0 then 0 else r / f.s2
  let r' := if f.s2 = 0 then r else r % f.s2
  if r' = 0 ∧ i < f.n1 ∧ j < f.n2 then some (i, j) else none

/-- The instance of a field at a register address, through its window where it has one. -/
def State.matchFld (s : State) (a : Nat) (f : Fld) : Option (Fld × Nat × Nat) :=
  let p := a / 4096
  let off := a % 4096
  if p < f.page ∨ f.page + f.npages ≤ p ∨ off < f.off then none
  else match f.strideMatch (off - f.off) with
    | none => none
    | some (i, j) =>
      if f.page = 0x38 ∧ f.off = 0x80 ∧ i = 0 then none                            -- XPM_DUCKg begins at g = 1
      else if f.page = 0x19 ∧ 0x54 ≤ f.off ∧ f.off ≤ 0x80 ∧ 6 ≤ s.get R.TSN_SEL_PORT then none   -- R171
      else if 1 < f.npages then some (f, p - f.page, j)
      else match f.win with
        | .none => some (f, i, j)
        | .tsnGcl => some (f, s.window .tsnGcl, s.get R.TSN_GCL_SEL_ENTRY)
        | w => some (f, s.window w, i)

/-- The fields at a register address. -/
def State.fieldsAt (s : State) (a : Nat) : List (Fld × Nat × Nat) := (pageFields (a / 4096)).filterMap (s.matchFld a)

/-- A page of the index (R483); every other page is reserved. -/
def pageListed (p : Nat) : Bool := pageIndex.any (fun e => decide (e.1 ≤ p) && decide (p < e.1 + e.2))

/-- The page of instance 0 of a page's block (PG_ID.CLASS). -/
def pageClass (p : Nat) : Nat := ((pageIndex.find? (fun e => decide (e.1 ≤ p) && decide (p < e.1 + e.2))).map (·.1)).getD 0

/-- PG_CTRL.EN is RWS on these pages and RO elsewhere (R472). -/
def enWritable (p : Nat) : Bool :=
  (0x10 ≤ p && p < 0x18) || (0x28 ≤ p && p < 0x30) || (0x40 ≤ p && p < 0x48) || (0x50 ≤ p && p < 0x5a)

/-- The page holds at least one RWS field (R472). -/
def hasRws (p : Nat) : Bool := enWritable p || (pageFields p).any (fun f => f.acc == .rws)

/-- The pair-common pages (R391). -/
def pairCommon (p : Nat) : Bool :=
  p == 0x48 || p == 0x38 || p == 0x39 || (0x40 ≤ p && p < 0x48) || p == 0x20 || p == 0x21 || p == 0x22 ||
  (0x28 ≤ p && p < 0x30) || p == 0x30 || p == 0x31 || p == 0x68

/-- The host or in-band initiators. -/
def isHost : Initiator → Bool
  | .hq => true
  | .ib _ => true
  | _ => false

/-- R391 ignores this initiator's writes and arms of a pair-common page on a standby, DETACHED or COLD_START unit. -/
def State.pairBlocked (s : State) (who : Initiator) (p : Nat) : Bool :=
  pairCommon p && isHost who &&
  (s.role == .seating || s.role == .inStep || s.role == .detached || s.role == .coldStart)

/-- An ACTIVE unit mirrors to its partner, which holds STANDBY_INSTEP, or is being filled in phase FINAL (R391, R401). -/
def State.mirrors (s : State) : Bool := s.role == .active && (s.pairInStep || s.get R.BRACE_SEAT_STATUS_PHASE == 3)

/-- A write or an arm of a pair-common page by a host initiator goes to the standby in the next brace frame, with the entry that it reached. The
service firmware's own do not: the standby's firmware makes them itself (R392). -/
def State.mirrorOut (s : State) (who : Initiator) (addr entry data : Nat) : State :=
  s.when (s.mirrors && isHost who) (fun t =>
    { t with brace := { t.brace with outMir := t.brace.outMir ++ [⟨BitVec.ofNat 32 addr, entry, BitVec.ofNat 32 data⟩] } })

/-- R259 ignores this initiator's writes of the shadow bank and arms of XPM. The boot ROM writes as R258 says. -/
def State.svcBlocked (s : State) (who : Initiator) (p : Nat) : Bool :=
  p == 0x38 && (if s.flag R.XPM_CTRL_SVC_OWN then isHost who else who == .sp)

/-- A commit of the page armed now would be rejected with STATE (R68, R377). -/
def State.stateBlocked (s : State) (p : Nat) : Bool :=
  s.dev == .boot || s.dev == .safe || s.dev == .sleep || (p == 0x60 && s.dev != .ready && s.dev != .held)

/-- PG_SHADOW.PENDING of a page (R62). -/
def State.pagePending (s : State) (p : Nat) : Bool := s.queue.any (fun c => c.pages.contains p)

/-! ### Device values that are computed -/

/-- SYS_STATE.STATE (R446). -/
def devCode : Dev → Nat
  | .off => 0 | .boot => 1 | .held => 2 | .ready => 3 | .run => 4 | .safe => 5 | .sleep => 6

/-- The role code of R409. -/
def roleCode : Role → Nat
  | .solo => 0 | .active => 1 | .seating => 2 | .inStep => 3 | .detached => 4 | .coldStart => 5

/-- The fence index of an initiator. -/
def whoIdx : Initiator → Nat
  | .hq => 0 | .ib k => 1 + k.val | .sp => 5 | .boot => 6

/-- An initiator's fence is open (R71). -/
def State.fenceOpen (s : State) (who : Initiator) : Bool := (Sparse.find s.host.fences (whoIdx who)).isSome

/-- A bit mask of the programmed entries below n of a sparse fuse bank. -/
def fuseMask {α : Type} (m : Sparse α) (n : Nat) : Nat :=
  (List.range n).foldl (fun a k => if (Sparse.find m k).isSome then a + 2 ^ k else a) 0

/-- The raw bits of word k (R451). -/
def State.rawWord (s : State) (k : Nat) : Nat :=
  (List.range 32).foldl (fun a b => if s.rawBit (32 * k + b) then a + 2 ^ b else a) 0

/-- The registers that a latching read latched (R478). -/
def isLatched (f : Fld) : Bool :=
  (f.page == 0x48 && 0x44 ≤ f.off && f.off ≤ 0x4c) || (f.page == 0x20 && 0xa4 ≤ f.off && f.off ≤ 0xbc) ||
  (f.page == 0x21 && 0x104 ≤ f.off && f.off ≤ 0x114)

/-- The device's value of a field that another part of the state holds; none where the register store is its home. -/
def State.view (s : State) (who : Initiator) (f : Fld) (i : Nat) : Option Nat :=
  if isLatched f then some (Sparse.get 0 s.latch (f.key 0 0))
  else if f.page = 0x00 then
    if f = R.SYS_STATE_STATE then some (devCode s.dev)
    else if f = R.SYS_FENCE_DONE_DONE then some (b2n (!s.fenceOpen who))
    else if f = R.SYS_COMMIT_STATUS_QUEUED then some (s.queue.length % 256)
    else none
  else if f.page = 0x48 then
    if f = R.TICK_NUM_LO_NUM then some (s.tickNum % 2 ^ 32)
    else if f = R.TICK_PHASE_CYCLE then
      some (if !s.ticking then 0 else match s.win with
        | .overhead => (Config.freeWord s.free).toNat % 2560
        | .window => 2560 + (Config.freeWord s.free).toNat % 122880
        | .kerf => 125440 + (Config.freeWord s.free).toNat % 2560)
    else none
  else if f.page = 0x01 then
    if f = R.EVT_RAW_RAW then some (s.rawWord i)
    else if f = R.EVT_IRQ_STATUS_IRQ0 then some (b2n (s.irq 0))
    else if f = R.EVT_IRQ_STATUS_IRQ1 then some (b2n (s.irq 1))
    else none
  else if f.page = 0x03 then
    if f = R.SEC_OTP_STATUS_CFG_SIG_REQ then some (b2n s.otp.cfgSigReq)
    else if f = R.SEC_OTP_STATUS_CUST_KEY then some (fuseMask s.otp.custHash 2)
    else if f = R.SEC_OTP_STATUS_REVOKED then some s.otp.revoke
    else if f = R.SEC_OTP_STATUS_IB_OTP then some (fuseMask s.otp.ibKey 4)
    else if f = R.SEC_OTP_STATUS_JTAG_DISABLE then some (b2n s.otp.jtag)
    else if f = R.SEC_FW_MIN_MIN then some s.otp.fwMin
    else if f = R.SEC_UID_LO_UID then some (s.otp.uid.toNat % 2 ^ 32)
    else if f = R.SEC_UID_HI_UID then some (s.otp.uid.toNat / 2 ^ 32)
    else none
  else if f = R.BRACE_STATUS_ROLE then some (roleCode s.role)
  else if f = R.BRACE_STATUS_RING_UP then some (b2n (s.flag R.MAC_STATUS_LINK 0 || s.flag R.MAC_STATUS_LINK 1))
  else if f = R.DIAG_STATUS_BASE_VALID then
    some ((List.range 8).foldl (fun a n => a + s.get R.DIAG_BASE_CTRL_VALID n * 2 ^ n) 0)
  else none

/-- The device's value of a field. -/
def State.devValue (s : State) (who : Initiator) (f : Fld) (i j : Nat) : Nat := (s.view who f i).getD (s.get f i j)

/-- What a read of one field returns, by access code (R475). -/
def State.readField (s : State) (who : Initiator) (f : Fld) (i j : Nat) : Nat :=
  if f.reserved then 0 else match f.acc with
  | .wo => 0
  | .sc => 0
  | .rws => s.shGet f i j
  | _ => s.devValue who f i j

/-! ### The common header (R472) -/

/-- The local event bits of a page as a number (R455). -/
def localBits (p : Nat) (b : Nat → Bool) : Nat :=
  ((pageEvents p).zipIdx).foldl (fun a e => if b e.1 then a + 2 ^ e.2 else a) 0

/-- The local route fields of a page (R455). -/
def State.localRoutes (s : State) (p : Nat) : Nat :=
  ((pageEvents p).zipIdx).foldl (fun a e => a + s.route e.1 * 4 ^ e.2) 0

/-- A read of a header register of a listed page. -/
def State.readHeader (s : State) (who : Initiator) (p off : Nat) : Nat :=
  if off = 0x00 then pageClass p * 2 ^ 24 + (p - pageClass p) * 2 ^ 16 + 0x100
  else if off = 0x04 then (if enWritable p then s.shGet R.PG_CTRL_EN p else s.get R.PG_CTRL_EN p)
  else if off = 0x08 then s.get R.PG_CTRL_EN p + 2 * b2n (hasRws p) + 256 * s.get R.PG_STATUS_SAT_SEEN p
  else if off = 0x0c then 256 * b2n (s.pagePending p) + 512 * s.get R.PG_SHADOW_REJECTED p
  else if off = 0x10 then localBits p s.rawBit
  else if off = 0x14 then localBits p s.sticky
  else if off = 0x18 then localBits p s.enabled
  else if off = 0x1c then s.localRoutes p
  else if off = 0x20 then
    b2n (p == 0x02 && s.get R.PROT_CTRL_LOCK == 1) + 2 * b2n (s.pairBlocked who p) + 4 * b2n (s.svcBlocked who p) +
      8 * b2n (s.stateBlocked p)
  else 0

/-- The route code of event e at v. -/
def State.putRoute (s : State) (e v : Nat) : State :=
  let w := s.get R.EVT_ROUTE_ROUTE (e / 16)
  s.put R.EVT_ROUTE_ROUTE (w - s.route e * 4 ^ (e % 16) + v % 4 * 4 ^ (e % 16)) (e / 16)

/-- A write of a header register of a listed page by the access codes, ARM and SRST apart; the second component says
that a position without a field, or an ignored RWS write, makes the device raise EV_HOST_ERR. -/
def State.writeHeader (s : State) (who : Initiator) (p off v : Nat) : State × Bool :=
  let n := (pageEvents p).length
  if off = 0x04 then
    if enWritable p then
      if s.pagePending p || s.pairBlocked who p then (s, true)
      else (s.shPut R.PG_CTRL_EN (v % 2) p, decide (4 ≤ v))
    else (s, decide (4 ≤ v))
  else if off = 0x08 then
    (if bitAt v 8 then s.put R.PG_STATUS_SAT_SEEN 0 p else s, v % 256 / 4 != 0 || decide (512 ≤ v))
  else if off = 0x0c then
    (if bitAt v 9 then s.put R.PG_SHADOW_REJECTED 0 p else s, v % 256 / 2 != 0 || decide (1024 ≤ v))
  else if off = 0x14 then
    (((pageEvents p).zipIdx).foldl (fun t e => if bitAt v e.2 then t.putBit R.EVT_STICKY_STICKY (e.1 % 32) false (e.1 / 32) else t) s,
      decide (2 ^ n ≤ v))
  else if off = 0x18 then
    (((pageEvents p).zipIdx).foldl (fun t e => t.putBit R.EVT_ENABLE_ENABLE (e.1 % 32) (bitAt v e.2) (e.1 / 32)) s,
      decide (2 ^ n ≤ v))
  else if off = 0x1c then
    (((pageEvents p).zipIdx).foldl (fun t e => t.putRoute e.1 (v / 4 ^ e.2)) s, decide (4 ^ n ≤ v))
  else if off = 0x00 || off = 0x10 then (s, off = 0x10 && decide (2 ^ n ≤ v))
  else if off = 0x20 then (s, decide (16 ≤ v))
  else (s, v != 0)

/-! ### Reads -/

/-- A read of a register word (R475, R477): 0 on a reserved page and at an offset without a register. -/
def State.regWord (s : State) (who : Initiator) (a : Nat) : Nat :=
  if !pageListed (a / 4096) then 0
  else if a % 4096 < 0x40 then s.readHeader who (a / 4096) (a % 4096)
  else if (a / 4096 = 0x16 ∨ a / 4096 = 0x17) ∧ a % 4096 = 0x44 then 1522      -- MAC_FRAME on P6 and P7 (R145)
  else (s.fieldsAt a).foldl (fun w x => w + s.readField who x.1 x.2.1 x.2.2 * 2 ^ x.1.lo) 0

/-- The latches of R478, taken by a read of TICK_NUM_LO, STRX_STAT0 or STTX_STAT0. -/
def State.latchRead (s : State) (a : Nat) : State :=
  let put (t : State) (f : Fld) (v : Nat) : State := { t with latch := Sparse.put 0 t.latch (f.key 0 0) v }
  if a = 0x48040 then
    put (put (put s R.TICK_NUM_HI_NUM (s.tickNum / 2 ^ 32 % 2 ^ 16)) R.TICK_SIDX_LO_SIDX (s.sidx % 2 ^ 32))
      R.TICK_SIDX_HI_SIDX (s.sidx / 2 ^ 32 % 2 ^ 32)
  else if a = 0x200a0 then
    (R.fields20.filter (fun f => decide (0xa4 ≤ f.off) && decide (f.off ≤ 0xbc))).foldl
      (fun t f => put t f (s.get f (s.window .strx))) s
  else if a = 0x21100 then
    (R.fields21.filter (fun f => decide (0x104 ≤ f.off) && decide (f.off ≤ 0x114))).foldl
      (fun t f => put t f (s.get f (s.window .sttx))) s
  else s

/-! ### Writes -/

/-- The bits of a register's fields, its reserved ones apart (R477). -/
def fieldMask (fs : List (Fld × Nat × Nat)) (v : Nat) : Nat :=
  fs.foldl (fun w x => if x.1.reserved then w else w + bitsAt v x.1.hi x.1.lo * 2 ^ x.1.lo) 0

/-- A field value stands in the range stated for the field (R476); the range of a signed field, a to b in two's complement with b < a, wraps
around 0. -/
def Fld.inRange (f : Fld) (v : Nat) : Bool :=
  match f.rng with
  | none => true
  | some (a, b) => if a ≤ b then a ≤ v && v ≤ b else a ≤ v || v ≤ b

/-- Fields that a write changes or starts. -/
def Acc.written : Acc → Bool
  | .ro => false
  | _ => true

/-- The value that a write of v carries for a field. -/
def Fld.cut (f : Fld) (v : Nat) : Nat := bitsAt v f.hi f.lo

/-- The value of some field of the write, or its value in force where the write does not carry the field. -/
def cutOr (fs : List (Fld × Nat × Nat)) (f : Fld) (v d : Nat) : Nat :=
  if fs.any (fun x => x.1 == f) then f.cut v else d

/-- MODE codes per port (R119). -/
def modeAllowed (port m : Nat) : Bool :=
  m == 0 || (port < 2 && 1 ≤ m && m ≤ 4) || (2 ≤ port && port < 6 && 3 ≤ m && m ≤ 5) || (6 ≤ port && m == 6)

/-- Bits of a slot, and of a word, of a serial port by code (R251). -/
def slotBits : Nat → Nat
  | 0 => 16 | 1 => 24 | _ => 32

/-- Bits of a word of a serial port by code (R251). -/
def wordBits : Nat → Nat
  | 0 => 16 | 1 => 20 | 2 => 24 | _ => 32

/-- Frame rate of a master port by code, in Hz (R251). -/
def masterHz : Nat → Nat
  | 0 => 48000 | 1 => 16000 | 2 => 32000 | _ => 96000

/-- A value of SP_CFG that R229 or R240 does not allow. -/
def spCfgBad (v : Nat) : Bool :=
  let mode := bitsAt v 1 0
  let slots := if mode = 3 then bitsAt v 11 6 else 2
  decide (slotBits (bitsAt v 13 12) < wordBits (bitsAt v 15 14)) ||
  (mode == 3 && !(decide (2 ≤ slots) && decide (slots ≤ 32))) ||
  (mode != 0 && bitAt v 2 && decide (50000000 < masterHz (bitsAt v 17 16) * slots * slotBits (bitsAt v 13 12))) ||
  (!bitAt v 2 && bitsAt v 17 16 != 0) || (decide (64 ≤ bitsAt v 29 23) && bitsAt v 29 23 != 127)

/-- Rules of the owning chapters that make the device ignore a whole write and raise EV_HOST_ERR, beyond the range of
one field: watermarks (R145), port modes (R119), serial-port formats (R229), thermistor thresholds (R334), ageing (R170), log
placement while the log runs (R468), the bank's owner while a commit is pending (R259), commands while busy (R147, R170, R449),
the load area (R446) and in-band keys (R443). -/
def State.wholeWriteIgnored (s : State) (a v : Nat) (fs : List (Fld × Nat × Nat)) : Bool :=
  let p := a / 4096
  let has (f : Fld) : Bool := fs.any (fun x => x.1 == f)
  fs.any (fun x => x.1.acc.written && !x.1.inRange (x.1.cut v)) ||
  (has R.MAC_WATERMARK_HIGH_PCT && decide (R.MAC_WATERMARK_HIGH_PCT.cut v ≤ R.MAC_WATERMARK_LOW_PCT.cut v)) ||
  (has R.MAC_CTRL_MODE && !modeAllowed (p - 0x10) (R.MAC_CTRL_MODE.cut v)) ||
  (has R.SP_CFG_MODE && spCfgBad v) ||
  (has R.NTC_THR_WARN_CODE && decide (R.NTC_THR_WARN_CODE.cut v < R.NTC_THR_SHUT_CODE.cut v)) ||
  (has R.BR_AGE_SECONDS && (let x := R.BR_AGE_SECONDS.cut v; decide (1 ≤ x) && decide (x < 10))) ||
  (has R.EVT_LOG_BASE_BASE && s.flag R.EVT_LOG_CTRL_EN) ||
  (has R.XPM_CTRL_SVC_OWN && s.pagePending 0x38) ||
  (has R.MDIO_CMD_OP && (s.flag R.MDIO_CMD_BUSY || decide (5 ≤ R.MDIO_CMD_OP.cut v))) ||
  (has R.BR_FDB_CMD_OP && s.flag R.BR_FDB_CMD_BUSY && bitAt v 31) ||
  (has R.FL_CMD_OPCODE && s.flag R.FL_STATUS_BUSY) ||
  (has R.SYS_LOAD_ADDR_ADDR && v % 64 != 0) ||
  (has R.SYS_LOAD_LEN_LEN && decide (0x600000 < R.SYS_LOAD_LEN_LEN.cut v)) ||
  (has R.SEC_IB_KEY_KEY && (s.flag R.SEC_IB_CTRL_KLOCK ||
    fs.any (fun x => x.1 == R.SEC_IB_KEY_KEY && (Sparse.find s.otp.ibKey x.2.1).isSome)))

/-- One field of a write, by its access code (R475). RWS: pending pages (R62) and blocked initiators (R391) are judged
before; RWL: writeFields itself gives it to the boot ROM (R75); SC: the action is its own command. -/
def State.writeField (s : State) (f : Fld) (i j v : Nat) : State :=
  if f.reserved then s else match f.acc with
  | .rw => s.put f v i j
  | .wo => if f = R.SYS_FENCE_START then s else s.put f v i j
  | .w1c => s.put f (s.get f i j - fieldAnd (s.get f i j) v) i j
  | .rws => s.shPut f v i j
  | _ => s
where
  /-- The bits set in both numbers. -/
  fieldAnd (x y : Nat) : Nat := x &&& y

/-- The bits of a register that a write may carry: those of its fields, and MAX_LEN of MAC_FRAME on P6 and P7, which reads 1,522 and takes no value,
so that writing back what was read is safe (R145, R477; DEDUCED, log entry 110). -/
def writable (a : Nat) (fs : List (Fld × Nat × Nat)) (v : Nat) : Nat :=
  if a = 0x16044 ∨ a = 0x17044 then v % 2 ^ 14 else fieldMask fs v

/-- A write of a register at offset 0x040 or above of a listed page. -/
def State.writeFields (s : State) (who : Initiator) (a v : Nat) : State :=
  let fs := s.fieldsAt a
  let p := a / 4096
  let rws := fs.any (fun x => x.1.acc == .rws)
  let blocked := rws && (s.pagePending p || s.pairBlocked who p)
  if fs.any (fun x => x.1.acc == .rwl) then
    (if who = Initiator.boot ∧ !s.flag R.PROT_CTRL_LOCK then
      { fs.foldl (fun t x => t.put x.1 (x.1.cut v) x.2.1 x.2.2) s with boot := { s.boot with regions := true } }
     else s.raise EV_PROT_WRITE_REJECT)
  else if s.wholeWriteIgnored a v fs then s.raise EV_HOST_ERR
  else
    let t := fs.foldl (fun t x =>
      if x.1.acc == .rws && blocked then t
      else if x.1 == R.SEC_IB_CTRL_KLOCK then (if x.1.cut v = 1 then t.put x.1 1 else t)
      else t.writeField x.1 x.2.1 x.2.2 (x.1.cut v)) s
    if blocked || writable a fs v != v then t.raise EV_HOST_ERR else t

/-- A write of a register word (R475 to R477), the actions of SC bits apart: a reserved page ignores it with EV_HOST_ERR
(R16). -/
def State.regWrite (s : State) (who : Initiator) (a v : Nat) : State :=
  if !pageListed (a / 4096) then s.raise EV_HOST_ERR
  else if a % 4096 < 0x40 then
    let r := s.writeHeader who (a / 4096) (a % 4096) v
    if r.2 then r.1.raise EV_HOST_ERR else r.1
  else s.writeFields who a v

/-- The SC bits of fields that a write sets to 1, each with its instance. -/
def State.scActions (s : State) (a v : Nat) : List (Fld × Nat × Nat) :=
  (s.fieldsAt a).filter (fun x => x.1.acc == .sc && x.1.cut v != 0)

/-! ### Whether an initiator reaches the device now -/

/-- The device takes accesses from this initiator in its present state (R42, R433): none while the Truss clock is gated. -/
def State.hears (s : State) (who : Initiator) : Bool :=
  !s.plls.clockLost && match who with
  | .hq => s.dev != .off && s.dev != .sleep
  | .ib _ => s.netUp
  | .sp => s.dev != .off && s.dev != .sleep
  | .boot => s.dev != .off

/-- Without valid firmware the boot ROM, in BOOT and in HELD, serves only the SYS, SEC, HQSPI and FLASH pages (R417). -/
def State.pageServed (s : State) (a : Nat) : Bool :=
  !((s.dev == .held || s.dev == .boot) && !s.boot.fwValid && a < 0x100000) ||
  a / 4096 == 0x00 || a / 4096 == 0x03 || a / 4096 == 0x70 || a / 4096 == 0x71

/-- A command that an initiator gives by writing the register at address a: nothing where the device does not hear the
initiator, a denied access where protection denies it (R76), EV_HOST_ERR on a page that is not served (R417); else f. -/
def State.command (s : State) (who : Initiator) (a : Nat) (f : State → State) : State :=
  if !s.hears who then s
  else if !s.permits (clsOf who) true a then s.deny (clsOf who) true a
  else if !s.pageServed a then s.raise EV_HOST_ERR
  else f s

/-- A command write that an open commit of its page does not touch but that is ignored with EV_HOST_ERR. -/
def State.hostErr (s : State) : State := s.raise EV_HOST_ERR

end Sys2Proof.Machine
end

