-- ==== Sys2Proof/Machine/Ports.lean ====
section
/-! DEFINITION. The MAC layer of the ports (R119 to R148): PAUSE generation and reception, the MDIO master, PLCA, and the
shapers' egress, with the commands of that family. -/

namespace Sys2Proof.Machine

/-! ### A frame's fields -/

/-- n bytes of a frame from an offset, as a number in network order. -/
def fieldAt (bs : List Byte) (off n : Nat) : Nat := beVal ((bs.drop off).take n)

/-- VLAN tags as R124 counts them. -/
def tagCount (bs : List Byte) : Nat :=
  let t := fieldAt bs 12 2
  if t = 0x8100 then 1
  else if t = 0x88A8 then (if fieldAt bs 16 2 = 0x8100 then 2 else 1)
  else 0

/-- The size limit of a port for a frame with so many tags (R124). -/
def State.sizeLimit (s : State) (p tags : Nat) : Nat :=
  if p < 6 then min (s.get R.MAC_FRAME_MAX_LEN p + 4 * tags) 9216 else 1522

/-- What the bridge reads from a frame (R150): a first tag with TPID 0x8100 gives VID, PCP and DEI; a frame whose first TPID
is 0x88A8 is bridged as untagged. `body` is the offset of the EtherType that follows the tag. -/
structure Hdr where
  da     : Nat
  sa     : Nat
  tagged : Bool
  vid    : Nat
  pcp    : Nat
  dei    : Nat
  body   : Nat
  et     : Nat
deriving DecidableEq, Repr

/-- The PVID of a port (R150). DESIGN CHOICE (log entry 87): the internal port, through which the host's frames come, has none, and
its untagged frames take VID 1. -/
def State.pvid (s : State) (p : Nat) : Nat := if p < 8 then s.get R.BR_PORT_CFG_PVID p else 1

/-- The header of a frame received on a port; port 8 is the internal port (R150). -/
def State.hdr (s : State) (p : Nat) (bs : List Byte) : Hdr :=
  let tagged := fieldAt bs 12 2 == 0x8100
  let tci := fieldAt bs 14 2
  let vid := if tagged && tci % 4096 != 0 then tci % 4096 else s.pvid p
  let body := if tagged then 16 else 12
  ⟨fieldAt bs 0 6, fieldAt bs 6 6, tagged, vid, if tagged then tci / 8192 else 0, if tagged then tci / 4096 % 2 else 0, body, fieldAt bs body 2⟩

/-- UDP destination or source port of an IPv4 frame without options, by offset from the EtherType (2: source). -/
def udpPort (bs : List Byte) (h : Hdr) (dst : Bool) : Option Nat :=
  if h.et = 0x0800 ∧ fieldAt bs (h.body + 11) 1 = 17 then
    let ihl := fieldAt bs (h.body + 2) 1 % 16 * 4
    some (fieldAt bs (h.body + 2 + ihl + (if dst then 2 else 0)) 2)
  else none

/-- The destination and the protocol of an IPv4 frame, by offset from the EtherType. -/
def ipDst (bs : List Byte) (h : Hdr) : Nat := fieldAt bs (h.body + 18) 4

/-- A PTP message (R150). -/
def isPtp (bs : List Byte) (h : Hdr) : Bool :=
  h.et == 0x88F7 || udpPort bs h true == some 319 || udpPort bs h true == some 320

/-- The traffic class of a PCP (R150, BR_PCP_MAP). -/
def State.tcOf (s : State) (pcp : Nat) : Nat := bitsAt (s.get R.BR_PCP_MAP_MAP) (3 * pcp + 2) (3 * pcp)

/-- The traffic class of a frame (R150). -/
def State.frameTc (s : State) (bs : List Byte) (h : Hdr) : Nat := if isPtp bs h then 7 else s.tcOf h.pcp

/-- A group address. -/
def isGroup (da : Nat) : Bool := da / 2 ^ 40 % 2 == 1

/-- An address of R151's first sentence. -/
def isReservedDa (da : Nat) : Bool := 0x0180C2000000 ≤ da && da ≤ 0x0180C200000F

/-! ### Ports -/

/-- The MODE in force; a port page with EN = 0 behaves as MODE 0 (R473). -/
def State.portMode (s : State) (p : Nat) : Nat :=
  if s.get R.PG_CTRL_EN (0x10 + p) = 0 then 0 else s.get R.MAC_CTRL_MODE p

/-- MAC_STATUS.LINK. -/
def State.link (s : State) (p : Nat) : Bool := s.flag R.MAC_STATUS_LINK p

/-- The speed of a MAC_STATUS.SPEED code in kbit/s (R145). -/
def speedKbps : Nat → Nat
  | 1 => 10000 | 2 => 100000 | 3 => 1000000 | 4 => 2500000 | 5 => 5000000 | 6 => 10000000 | _ => 0

/-- The present speed of a port in kbit/s; 0 while its link is down. -/
def State.kbps (s : State) (p : Nat) : Nat := if s.link p then speedKbps (s.get R.MAC_STATUS_SPEED p) else 0

/-- Class A or class B traffic class (R150). -/
def State.isAudioTc (s : State) (tc : Nat) : Bool := tc == s.get R.BR_CLASS_TC_A || tc == s.get R.BR_CLASS_TC_B

/-- The hidden state of a port. -/
def State.ph (s : State) (p : Nat) : PortHid := Sparse.get PortHid.init s.net.ports p

/-- The hidden state of a port at h. -/
def State.setPh (s : State) (p : Nat) (h : PortHid) : State :=
  { s with net := { s.net with ports := Sparse.put PortHid.init s.net.ports p h } }

/-- EV_FRAME_ERR is raised in each tick in which a bit of MAC_ERR_SRC goes from 0 to 1 (R126). -/
def State.frameErr (s : State) (f : Fld) (p : Nat) : State :=
  if s.flag f p then s
  else
    let t := s.put f 1 p
    if t.net.errTick = some t.tg then t
    else { t.raise EV_FRAME_ERR with net := { (t.raise EV_FRAME_ERR).net with errTick := some t.tg } }

/-! ### Receive pools (R129, R155) -/

/-- The reserved and best-effort pool of each port in pages, carved from the buffer area in port order (R155). -/
def State.carve (s : State) : Nat → Nat → List (Nat × Nat)
  | 0, _ => []
  | n + 1, left =>
    let p := 8 - (n + 1)
    let r := min (s.get R.BR_PORT_CFG2_RES_PAGES p) left
    let b := min (s.get R.BR_PORT_CFG2_BE_PAGES p) (left - r)
    (r, b) :: s.carve n (left - r - b)

/-- Bytes of a port's pool. -/
def State.poolSize (s : State) (p : Nat) (resv : Bool) : Nat :=
  let c := ((s.carve 8 (s.get R.BR_BUF_SIZE_PAGES))[p]?).getD (0, 0)
  (if resv then c.1 else c.2) * 4096

/-- Some pool did not fit fully (R155). -/
def State.poolShort (s : State) : Bool :=
  (s.carve 8 (s.get R.BR_BUF_SIZE_PAGES)).zipIdx.any
    (fun c => c.1.1 != s.get R.BR_PORT_CFG2_RES_PAGES c.2 || c.1.2 != s.get R.BR_PORT_CFG2_BE_PAGES c.2)

/-- The frames of a list with each frame number once. -/
def distinctFids : List EgrFrame → List Nat → List EgrFrame
  | [], _ => []
  | e :: es, seen => if seen.contains e.fid then distinctFids es seen else e :: distinctFids es (e.fid :: seen)

/-- Bytes in use of a port's pool: a frame occupies it until its last egress copy has left (R155). -/
def State.poolUsed (s : State) (p : Nat) (resv : Bool) : Nat :=
  ((distinctFids (s.net.egr.filter (fun e => e.ingress == p && e.resv == resv)) []).map (·.len)).sum

/-- A pool of a port has no room for so many bytes more (R129). -/
def State.poolFull (s : State) (p : Nat) (resv : Bool) (len : Nat) : Bool :=
  decide (s.poolSize p resv < s.poolUsed p resv + len)

/-- The fill of a port's best-effort pool stands at LOW_PCT or below (R130), exactly and not as BE_PCT rounds it. -/
def State.poolLow (s : State) (p : Nat) : Bool :=
  decide (s.poolUsed p false * 100 ≤ s.get R.MAC_WATERMARK_LOW_PCT p * s.poolSize p false)

/-- The fill of a port's best-effort pool in percent, rounded down (R145); a pool of no pages counts as full when
anything is in it and as empty otherwise. -/
def State.bePct (s : State) (p : Nat) : Nat :=
  let c := s.poolSize p false
  if c = 0 then 0 else min 100 (s.poolUsed p false * 100 / c)

/-! ### PAUSE generation (R130 to R133) -/

/-- The class-enable vector of a per-priority frame: PFC_PRIO without the priorities of classes A and B (R132). -/
def State.pfcVector (s : State) (p : Nat) : Nat :=
  (List.range 8).foldl (fun v k =>
    if s.bit R.MAC_PAUSE_CFG_PFC_PRIO k p && !s.isAudioTc (s.tcOf k) then v + 2 ^ k else v) 0

/-- The pause frame of a port with a pause time, if the port sends one (R130, R132). -/
def State.pauseFrame (s : State) (p quanta : Nat) : Option Wire :=
  match s.get R.MAC_CTRL_PAUSE_GEN p with
  | 1 => if p < 6 then some (.pause 1 0 quanta) else none
  | 2 => if p < 6 && s.pfcVector p != 0 then some (.pause 0x101 (s.pfcVector p) quanta) else none
  | _ => none

/-- A pause frame leaves, ahead of every queued frame (R130). -/
def State.sendPause (s : State) (p quanta : Nat) : State :=
  match s.pauseFrame p quanta with
  | none => s
  | some w => ((s.send (.net p w)).bump R.PAUSE_TX_CNT p).bump R.TX_OK_CNT p

/-- The fill of a best-effort pool is reported, and a pause is asserted when it has risen to HIGH_PCT (R130, R145). -/
def State.poolUpdate (s : State) (p : Nat) : State :=
  let pct := s.bePct p
  let t := s.put R.MAC_POOL_FILL_BE_PCT pct p
  let t := if t.get R.MAC_POOL_FILL_BE_PEAK_PCT p < pct then t.put R.MAC_POOL_FILL_BE_PEAK_PCT pct p else t
  if t.netUp && t.link p && s.get R.MAC_WATERMARK_HIGH_PCT p ≤ pct && !t.flag R.MAC_STATUS_TX_PAUSE_ACTIVE p &&
      (t.pauseFrame p (t.get R.MAC_PAUSE_CFG_QUANTA p)).isSome then
    ((t.sendPause p (t.get R.MAC_PAUSE_CFG_QUANTA p)).put R.MAC_STATUS_TX_PAUSE_ACTIVE 1 p).raise EV_PAUSE_SENT
  else t

/-- PAUSE_REFRESH (R130): half the pause time after the last pause frame, with a pause asserted and the fill above
LOW_PCT, the same frame is sent again. -/
def execPauseRefresh (port : Fin 8) (s : State) : Ans := .next <|
  let p := port.val
  if s.netUp && s.link p && s.flag R.MAC_STATUS_TX_PAUSE_ACTIVE p && !s.poolLow p
  then s.sendPause p (s.get R.MAC_PAUSE_CFG_QUANTA p) else s

/-- PAUSE_CANCEL (R130): with a pause asserted and the fill at LOW_PCT or below, a pause frame with quanta 0 is sent and
the pause is cancelled. -/
def execPauseCancel (port : Fin 8) (s : State) : Ans := .next <|
  let p := port.val
  if s.netUp && s.link p && s.flag R.MAC_STATUS_TX_PAUSE_ACTIVE p && s.poolLow p
  then (s.sendPause p 0).put R.MAC_STATUS_TX_PAUSE_ACTIVE 0 p else s

/-! ### Received PAUSE (R134 to R137) -/

/-- The port's own MAC address (R145). -/
def State.portMac (s : State) (p : Nat) : Nat := s.get R.MAC_ADDR_LO_ADDR p + s.get R.MAC_ADDR_HI_ADDR p * 2 ^ 32

/-- The destination of R134: 01-80-C2-00-00-01 or the port's own address. -/
def State.macControlDa (s : State) (p da : Nat) : Bool := da == 0x0180C2000001 || da == s.portMac p

/-- One priority paused or released (R136). -/
def State.pfcPrio (s : State) (p k quanta : Nat) : State :=
  if quanta = 0 then s.putBit R.MAC_STATUS_PFC_PAUSED k false p
  else if s.bit R.MAC_STATUS_PFC_PAUSED k p then s
  else (s.putBit R.MAC_STATUS_PFC_PAUSED k true p).raise EV_PAUSE_RCVD

/-- A received pause frame acts on egress as PAUSE_HONOUR selects (R136, R137). -/
def State.pauseAct (s : State) (p : Nat) (f : PauseFrame) : State :=
  if s.get R.MAC_CTRL_PAUSE_HONOUR p = 2 then s
  else if f.opcode = 1 then
    if f.quanta.headD 0 = 0 then s.put R.MAC_STATUS_RX_PAUSED 0 p
    else if s.flag R.MAC_STATUS_RX_PAUSED p then s
    else (s.put R.MAC_STATUS_RX_PAUSED 1 p).raise EV_PAUSE_RCVD
  else (List.range 8).foldl (fun t k =>
    if bitAt f.enable.toNat k then t.pfcPrio p k ((f.quanta[k]?).getD 0) else t) s

/-- A MAC control frame (R134 to R137): P6 and P7 count every one as unknown (R145). -/
def State.macControl (s : State) (p : Nat) (f : PauseFrame) : State :=
  if p < 6 && s.macControlDa p f.da.toNat && (f.opcode == 1 || f.opcode == 0x101) then
    (s.bump R.PAUSE_RX_CNT p).pauseAct p f
  else s.bump R.MACCTL_UNK_CNT p

/-- PAUSE_RX (R136): a MAC control frame of accepted size and FCS is received on a port whose link is up. It counts as every accepted
frame does (R125), or is discarded where the device state says so (R123). -/
def execPauseRx (port : Fin 8) (f : PauseFrame) (s : State) : Ans := .next <|
  let p := port.val
  if s.dev == .off || s.dev == .sleep || s.plls.clockLost || !s.link p then s
  else if !s.netUp then s.bump R.STATE_DISC_CNT p
  else (s.bump R.RX_OK_CNT p).macControl p f

/-- PAUSE_TIMER_EXPIRY (R136): the received pause time of the port, or of one priority, expires and egress resumes. -/
def execPauseTimerExpiry (port : Fin 8) (prio : Option (Fin 8)) (s : State) : Ans := .next <|
  if !s.powered then s
  else match prio with
    | none => s.put R.MAC_STATUS_RX_PAUSED 0 port.val
    | some k => s.putBit R.MAC_STATUS_PFC_PAUSED k.val false port.val

/-! ### Egress: strict priority under credit and gates (R154, R158 to R161) -/

/-- A queue of a port is stopped by a received pause (R136, R137). -/
def State.pausedQueue (s : State) (p tc : Nat) : Bool :=
  !(s.get R.MAC_CTRL_PAUSE_HONOUR p == 1 && s.isAudioTc tc) &&
  (s.flag R.MAC_STATUS_RX_PAUSED p ||
   (List.range 8).any (fun k => s.bit R.MAC_STATUS_PFC_PAUSED k p && s.tcOf k == tc))

/-- The length of the leading run of a gate list in which a gate stands at b. -/
def gateRun (tc : Nat) (b : Bool) : List (Nat × Nat) → Nat
  | [] => 0
  | e :: es => if bitAt e.1 tc == b then e.2 + gateRun tc b es else 0

/-- The gate of a class at a place of a gate list, and how long it stays so. -/
def gateFrom (tc : Nat) : List (Nat × Nat) → Nat → Bool × Nat
  | [], _ => (true, 0)
  | e :: es, pos => if pos < e.2 then (bitAt e.1 tc, e.2 - pos + gateRun tc (bitAt e.1 tc) es) else gateFrom tc es (pos - e.2)

/-- The gate of a traffic class at a media time in ns, and for how many ns more it stays so; none where it does not change: always open
where no schedule operates (R159, R160). -/
def State.gateAt (s : State) (p tc ns : Nat) : Bool × Option Nat :=
  let l := (s.ph p).tas.oper
  if !s.flag R.TSN_TAS_STATUS_OPER p || l.all (fun e => bitAt e.1 tc) then (true, none)
  else
    let r := gateFrom tc (l ++ l) ((ns - (s.ph p).tas.base) % (s.ph p).tas.cycle)
    (r.1, some r.2)

/-- Bits of a frame on the wire with preamble and gap (R160). -/
def wireBits (len : Nat) : Nat := (len + 20) * 8

/-- The gate of a class is open at a media time and stays open for a frame of so many bytes (R160). -/
def State.gateFits (s : State) (p tc len ns : Nat) : Bool :=
  let g := s.gateAt p tc ns
  g.1 && (match g.2 with | none => true | some r => decide (wireBits len * 1000000 ≤ r * s.kbps p))

/-- The idle slope of class A (true) or B on a port in kbit/s (R158). -/
def State.idleSlope (s : State) (p : Nat) (a : Bool) : Nat := s.get (if a then R.TSN_EFF_A_KBPS else R.TSN_EFF_B_KBPS) p

/-- hiCredit of a class in 10⁻³ bit by Annex L (R158), from the port limit and 20 bytes of preamble and gap: class A waits for one frame
of another class, class B for one and then for class A to run out of its credit. PRESUMED: Annex L's formulas (log entry 88). -/
def State.hiCredit (s : State) (p : Nat) (a : Bool) : Int :=
  let m := wireBits (s.sizeLimit p 1) * 1000
  let r := s.kbps p
  if a then ((m * s.idleSlope p true / r : Nat) : Int)
  else ((m * s.idleSlope p false / (r - s.idleSlope p true) + m * s.idleSlope p false / r : Nat) : Int)

/-- loCredit of a class in 10⁻³ bit by Annex L (R158): one frame of the port limit at sendSlope. -/
def State.loCredit (s : State) (p : Nat) (a : Bool) : Int :=
  -((wireBits (s.sizeLimit p 1) * 1000 * (s.kbps p - s.idleSlope p a) / s.kbps p : Nat) : Int)

/-- The credit of a class after a gain: frozen while its gate is closed (R161), at most hiCredit while its queue waits or sends, and none kept
by an empty queue. -/
def creditStep (credit gain hi : Int) (isOpen busy : Bool) : Int :=
  if !isOpen then credit else if busy then min (credit + gain) hi else if credit < 0 then min (credit + gain) 0 else 0

/-- A frame of a class is queued on a port. -/
def State.waits (s : State) (p tc : Nat) : Bool := s.net.egr.any (fun e => e.port == p && e.tc == tc)

/-- The credit of a class once the line of a port has run for so many bits from a media time on; `sent` says that it sent a frame of that class. -/
def State.creditRun (s : State) (p : Nat) (a sent : Bool) (now bits : Nat) (credit : Int) : Int :=
  let tc := s.get (if a then R.BR_CLASS_TC_A else R.BR_CLASS_TC_B)
  let gain : Int := (bits * 1000 * s.idleSlope p a / s.kbps p : Nat)
  let c := creditStep credit gain (s.hiCredit p a) (s.gateAt p tc now).1 (sent || s.waits p tc)
  if sent then max (c - (bits * 1000 : Nat)) (s.loCredit p a) else c

/-- The line of a port has run for so many bits from a media time on, with a frame of traffic class `tc` if one left (R158, R161). -/
def State.lineUse (s : State) (p now bits : Nat) (tc : Option Nat) : State :=
  let h := s.ph p
  let isA := tc == some (s.get R.BR_CLASS_TC_A)
  let isB := !isA && tc == some (s.get R.BR_CLASS_TC_B)
  s.setPh p { h with
    line := h.line - (bits : Nat)
    creditA := s.creditRun p true isA now bits h.creditA
    creditB := s.creditRun p false isB now bits h.creditB }

/-- Bits that the line of a port carries in a tick. -/
def State.tickBits (s : State) (p : Nat) : Nat := s.kbps p * 1000 / 6000

/-- The media time at which the line of a port stands within the tick that has passed. -/
def State.lineNs (s : State) (p : Nat) : Nat :=
  tickStartNs (s.tickNum - 1) + ((s.tickBits p : Nat) - (s.ph p).line).toNat * 1000000 / s.kbps p

/-- A class may send: it is of neither shaped class, or its credit is not negative (R158). -/
def State.hasCredit (s : State) (p tc : Nat) : Bool :=
  !(tc == s.get R.BR_CLASS_TC_A && decide ((s.ph p).creditA < 0)) &&
  !(tc != s.get R.BR_CLASS_TC_A && tc == s.get R.BR_CLASS_TC_B && decide ((s.ph p).creditB < 0))

/-- A queued frame may start at a media time: its queue is not paused and has credit, and the frame ends before its gate closes (R136, R158,
R160). -/
def State.mayStart (s : State) (p now : Nat) (e : EgrFrame) : Bool :=
  e.port == p && !s.pausedQueue p e.tc && s.gateFits p e.tc e.len now && s.hasCredit p e.tc

/-- The first frame of the highest class that may start on a port at a media time; only the head of a queue can (R154). -/
def State.nextEgress (s : State) (p now : Nat) : Option EgrFrame :=
  (List.range 8).reverse.findSome? (fun tc =>
    (s.net.egr.find? (fun e => e.port == p && e.tc == tc)).bind (fun e => if s.mayStart p now e then some e else none))

/-- The first element that satisfies q removed. -/
def eraseFirst {α : Type} (q : α → Bool) : List α → List α
  | [] => []
  | x :: xs => if q x then xs else x :: eraseFirst q xs

/-- The place of the PTP header in a frame that an end-to-end transparent clock corrects (R165): an event message (Sync, Delay_Req, Pdelay_Req or
Pdelay_Resp) over UDP port 319; with the place of its UDP checksum. -/
def eventMsg (bs : List Byte) : Option (Nat × Nat) :=
  let body := if fieldAt bs 12 2 = 0x8100 then 16 else 12
  let udp := body + 2 + fieldAt bs (body + 2) 1 % 16 * 4
  if fieldAt bs body 2 = 0x0800 ∧ fieldAt bs (body + 11) 1 = 17 ∧ fieldAt bs (udp + 2) 2 = 319 ∧ fieldAt bs (udp + 8) 1 % 16 < 4
  then some (udp + 8, udp + 6) else none

/-- Bytes of a frame replaced from an offset on. -/
def patch (bs : List Byte) (off : Nat) (new : List Byte) : List Byte := bs.take off ++ new ++ bs.drop (off + new.length)

/-- A frame as it leaves (R165): in the AES67 profile the device is an end-to-end transparent clock for the event messages that it forwards,
and adds their residence time to the correction field, in 2⁻¹⁶ ns. The residence time is a free value, and the UDP checksum is left out
as 0 (log entry 89). -/
def State.outgoing (s : State) (e : EgrFrame) : Wire × State :=
  match e.item with
  | .frame bs =>
    match eventMsg bs with
    | some (off, sum) =>
      if s.flag R.PTP_CTRL_EN && s.flag R.PTP_CTRL_PROFILE && decide (e.ingress < 8) then
        let d := s.draw
        let corr := (fieldAt bs (off + 8) 8 + d.1 * 2 ^ 16) % 2 ^ 64
        (.frame (patch (patch bs (off + 8) (beBytes 8 corr)) sum [0, 0]), d.2)
      else (e.item, s)
    | none => (e.item, s)
  | _ => (e.item, s)

/-- A frame leaves its port at a media time: counted, and its class pays credit (R158). -/
def State.depart (s : State) (p now : Nat) (e : EgrFrame) : State :=
  let t := { s with net := { s.net with egr := eraseFirst (fun x => x == e) s.net.egr } }
  let t := t.lineUse p now (wireBits e.len) (some e.tc)
  let r := (t.setPh p { t.ph p with attempts := (t.ph p).attempts.filter (fun a => a.1 != e.fid) }).outgoing e
  let t := (r.2.send (.net p r.1)).bump R.TX_OK_CNT p
  match e.item with
  | .ptp _ _ _ _ _ => t.bump R.PTP_TX_CNT
  | _ => t

/-- Bits of line time until something may change for the frames that wait on a port: a class has its credit back, or a gate opens or
closes; at most what is left of the tick, and at least one. -/
def State.egressWait (s : State) (p now : Nat) : Nat :=
  let left := (s.ph p).line.toNat
  let back (a : Bool) (c : Int) : List Nat :=
    if c < 0 && decide (0 < s.idleSlope p a) then [(c.natAbs * s.kbps p + 1000 * s.idleSlope p a - 1) / (1000 * s.idleSlope p a)] else []
  let gates := ((List.range 8).filter (s.waits p)).filterMap (fun tc => (s.gateAt p tc now).2.map (fun r => (r * s.kbps p + 999999) / 1000000))
  max 1 ((back true (s.ph p).creditA ++ back false (s.ph p).creditB ++ gates).foldl min left)

/-- The line of a port runs through the tick that has passed, in at most n steps: a frame leaves where one may start, else the line idles. -/
def State.drain (s : State) (p : Nat) : Nat → State
  | 0 => s
  | n + 1 =>
    if (s.ph p).line ≤ 0 then s
    else
      let now := s.lineNs p
      match s.nextEgress p now with
      | none => (s.lineUse p now (s.egressWait p now) none).drain p n
      | some e => (s.depart p now e).drain p n

/-- One tick of a port's egress, in READY, RUN and SAFE (R42; DESIGN CHOICE, log entry 12: evaluated once per tick, over the line time of the
tick that has passed). A port under PLCA sends in its opportunities (R139). -/
def State.egressTick (s : State) (p : Nat) : State :=
  if !s.netUp || !s.link p then s
  else if 6 ≤ p && s.flag R.PLCA_STATUS_ACTIVE (p - 6) then
    let t := s.lineUse p (s.lineNs p) (s.tickBits p) none
    t.setPh p { t.ph p with line := (s.tickBits p : Nat) }
  else
    let bits : Int := (s.tickBits p : Nat)
    (s.setPh p { s.ph p with line := min ((s.ph p).line + bits) bits }).drain p (4 * s.net.egr.length + 64)

/-- One tick of the egress of every port; the pools then report their fill. -/
def State.egressAll (s : State) : State :=
  (s.each 8 State.egressTick).each 8 (fun t p => t.poolUpdate p)

/-! ### MDIO (R122, R147) -/

/-- An MDIO access starts: ignored with EV_HOST_ERR while one runs. -/
def State.mdioStart (s : State) (op phy reg : Nat) : State :=
  if s.flag R.MDIO_CMD_BUSY then s.hostErr
  else
    ((((s.put R.MDIO_CMD_OP op).put R.MDIO_CMD_PHYAD phy).put R.MDIO_CMD_REG_DEV reg).put R.MDIO_CMD_BUSY 1).send
      (.mdio op phy reg (s.get R.MDIO_DATA_DATA))

/-- The address of MDIO_CMD. -/
def mdioCmdAddr : Nat := 0x10140

/-- MDIO_C22_READ (R147). -/
def execMdioC22Read (who : Initiator) (phy reg : Fin 32) (s : State) : Ans := .next <|
  s.command who mdioCmdAddr (fun t => t.mdioStart 0 phy.val reg.val)

/-- MDIO_C22_WRITE (R147). -/
def execMdioC22Write (who : Initiator) (phy reg : Fin 32) (s : State) : Ans := .next <|
  s.command who mdioCmdAddr (fun t => t.mdioStart 1 phy.val reg.val)

/-- MDIO_C45_ADDRESS (R147). -/
def execMdioC45Address (who : Initiator) (phy dev : Fin 32) (s : State) : Ans := .next <|
  s.command who mdioCmdAddr (fun t => t.mdioStart 2 phy.val dev.val)

/-- MDIO_C45_WRITE (R147). -/
def execMdioC45Write (who : Initiator) (phy dev : Fin 32) (s : State) : Ans := .next <|
  s.command who mdioCmdAddr (fun t => t.mdioStart 3 phy.val dev.val)

/-- MDIO_C45_READ (R147). -/
def execMdioC45Read (who : Initiator) (phy dev : Fin 32) (s : State) : Ans := .next <|
  s.command who mdioCmdAddr (fun t => t.mdioStart 4 phy.val dev.val)

/-- MDIO_DONE (R147): the running access completes; a read result appears in MDIO_DATA. -/
def execMdioDone (data : BitVec 16) (s : State) : Ans := .next <|
  if !s.flag R.MDIO_CMD_BUSY then s
  else
    let t := s.put R.MDIO_CMD_BUSY 0
    if s.get R.MDIO_CMD_OP = 0 ∨ s.get R.MDIO_CMD_OP = 4 then t.put R.MDIO_DATA_DATA data.toNat else t

/-! ### PLCA (R138 to R141) -/

/-- The node ID a T1S port uses by pair role (R141). -/
def State.plcaNode (s : State) (k : Nat) : Nat :=
  if s.role = .active ∨ s.role = .solo then s.get R.PLCA_CTRL_NODE_ID k
  else if s.get R.PLCA_CTRL_STBY_NODE_ID k = 0 then 31 else s.get R.PLCA_CTRL_STBY_NODE_ID k

/-- The port is the coordinator: node ID 0 on an ACTIVE or SOLO unit, PLCA enabled, in READY, RUN or SAFE (R139, R141). -/
def State.plcaCoordinator (s : State) (k : Nat) : Bool :=
  s.netUp && s.portMode (6 + k) == 6 && s.flag R.PLCA_CTRL_EN k &&
  (s.role == .active || s.role == .solo) && s.plcaNode k == 0

/-- A PLCA cycle begins: the roles, the node ID and the burst count of a changed configuration apply from here (R141, R146). -/
def State.plcaCycle (s : State) (k : Nat) : State :=
  let t := ((s.put R.PLCA_STATUS_CUR_NODE_ID (s.plcaNode k) k).put R.PLCA_STATUS_COORDINATOR (b2n (s.plcaCoordinator k)) k).put
    R.PLCA_STATUS_ACTIVE (b2n (s.flag R.PLCA_CTRL_EN k)) k
  t.setPh (6 + k) { t.ph (6 + k) with burst := s.get R.PLCA_TIMERS_BURST_CNT k }

/-- A T1S port that PLCA can operate on: in READY, RUN or SAFE with MODE 6. -/
def State.plcaPort (s : State) (k : Nat) : Bool := s.netUp && s.portMode (6 + k) == 6

/-- PLCA does not operate on a T1S port any more: it is off, or the device sends nothing; what is left is CSMA/CD (R138, R146). -/
def State.plcaStop (s : State) (k : Nat) : State :=
  if s.plcaPort k && s.flag R.PLCA_CTRL_EN k then s
  else (s.put R.PLCA_STATUS_ACTIVE 0 k).put R.PLCA_STATUS_COORDINATOR 0 k

/-- PLCA_BEACON_TX (R139): the coordinator sends a BEACON at the start of a cycle. -/
def execPlcaBeaconTx (t1s : Fin 2) (s : State) : Ans := .next <|
  if s.plcaCoordinator t1s.val then (s.plcaCycle t1s.val).send (.net (6 + t1s.val) .beacon)
  else if s.powered then (s.plcaStop t1s.val).put R.PLCA_STATUS_COORDINATOR 0 t1s.val else s

/-- A PLCA fault: sticky bit, counter, EV_PLCA_FAULT (R140). -/
def State.plcaFault (s : State) (bitF cntF : Fld) (k : Nat) : State := ((s.put bitF 1 k).bump cntF k).raise EV_PLCA_FAULT

/-- PLCA_BEACON_RX (R140): a BEACON starts a cycle for a follower, and reveals a duplicate coordinator to one that
sends BEACONs itself. A follower that PLCA has been switched off for leaves it here, at the cycle boundary (R146). -/
def execPlcaBeaconRx (t1s : Fin 2) (s : State) : Ans := .next <|
  let k := t1s.val
  if !s.plcaPort k then s
  else if s.plcaCoordinator k || s.flag R.PLCA_STATUS_COORDINATOR k then s.plcaFault R.PLCA_STATUS_DUP_COORD R.DUP_COORD_CNT k
  else if s.flag R.PLCA_CTRL_EN k then s.plcaCycle k else s.plcaStop k

/-- Frames of a T1S port leave in its opportunity: at most n. -/
def State.t1sSend (s : State) (p : Nat) : Nat → State
  | 0 => s
  | n + 1 =>
    match s.nextEgress p (s.lineNs p) with
    | none => s
    | some e => (s.depart p (s.lineNs p) e).t1sSend p n

/-- PLCA_TX_OPPORTUNITY (R139): the port sends a pending frame and up to BURST_CNT more. -/
def execPlcaTxOpportunity (t1s : Fin 2) (s : State) : Ans := .next <|
  let k := t1s.val
  if s.netUp && s.portMode (6 + k) == 6 && s.flag R.PLCA_STATUS_ACTIVE k then
    (s.t1sSend (6 + k) (1 + (s.ph (6 + k)).burst)).each 8 (fun t p => t.poolUpdate p)
  else s

/-- PLCA_BEACON_LOST (R140): a follower falls back to CSMA/CD. -/
def execPlcaBeaconLost (t1s : Fin 2) (s : State) : Ans := .next <|
  let k := t1s.val
  if s.netUp && s.portMode (6 + k) == 6 && s.flag R.PLCA_STATUS_ACTIVE k && !(s.plcaCoordinator k || s.flag R.PLCA_STATUS_COORDINATOR k) then
    (s.put R.PLCA_STATUS_ACTIVE 0 k).plcaFault R.PLCA_STATUS_BEACON_LOST R.BEACON_LOST_CNT k
  else s

/-- The collided attempts of a frame that waits on a port (R140). -/
def PortHid.tries (h : PortHid) (fid : Nat) : Nat := ((h.attempts.find? (fun a => a.1 == fid)).map (·.2)).getD 0

/-- A frame's collided attempts at n; 0 forgets the frame. -/
def PortHid.setTries (h : PortHid) (fid n : Nat) : PortHid :=
  let rest := h.attempts.filter (fun a => a.1 != fid)
  { h with attempts := if n = 0 then rest else (fid, n) :: rest }

/-- A frame that waits on a port is dropped. -/
def State.dropFrame (s : State) (p : Nat) (e : EgrFrame) : State :=
  let t := s.setPh p ((s.ph p).setTries e.fid 0)
  { t with net := { t.net with egr := eraseFirst (fun x => x == e) t.net.egr } }

/-- PLCA_COLLISION (R140): an unexpected collision while PLCA is active; the frame that was being sent is retried within 16 attempts of
its own and dropped when the 16th collides. -/
def execPlcaCollision (t1s : Fin 2) (s : State) : Ans := .next <|
  let k := t1s.val
  let p := 6 + k
  if !s.netUp || s.portMode p != 6 then s
  else
    let t := if s.flag R.PLCA_STATUS_ACTIVE k then s.plcaFault R.PLCA_STATUS_UNEXP_COL R.UNEXP_COL_CNT k else s
    match t.nextEgress p (t.lineNs p) with
    | none => t
    | some e =>
      let n := (t.ph p).tries e.fid
      if 15 ≤ n then (t.bump R.EXCESS_COL_CNT k).dropFrame p e
      else t.setPh p ((t.ph p).setTries e.fid (n + 1))

/-! ### PHY poll -/

/-- The link of a port goes down: pauses end, speed and autonegotiation clear, queued frames of the port are lost
(log entry 13), EV_LINK and the sticky change bit (R121, R130, R136). The admission pass is the caller's. -/
def State.linkGone (s : State) (p : Nat) : State :=
  if !s.link p then s
  else
    let t := (((((s.put R.MAC_STATUS_LINK 0 p).put R.MAC_STATUS_SPEED 0 p).put R.MAC_STATUS_AN_DONE 0 p).put
      R.MAC_STATUS_RX_PAUSED 0 p).put R.MAC_STATUS_TX_PAUSE_ACTIVE 0 p).put R.MAC_STATUS_PFC_PAUSED 0 p
    let t := { t with net := { t.net with egr := t.net.egr.filter (fun e => e.port != p) } }
    let t := t.setPh p { t.ph p with attempts := [] }
    (t.put R.MAC_STATUS_LINK_CHG 1 p).raise (EV_LINK_P0 + p)

/-- Every queued frame is lost: nothing is sent in HELD, BOOT and SLEEP (R42, R123; log entry 13). -/
def State.egrClear (s : State) : State :=
  [0, 1].foldl (fun u k => (u.setPh (6 + k) { u.ph (6 + k) with attempts := [] }).plcaStop k) { s with net := { s.net with egr := [] } }

end Sys2Proof.Machine
end

