-- ==== Sys2Proof/Machine/Bridge.lean ====
section
/-! DEFINITION. The bridge (R124 to R128, R149 to R164): judging a received frame, classification, filtering database,
stream filters, sequence recovery, forwarding, host frame rings, reservations and time-aware shaping, with the commands
of that family. -/

namespace Sys2Proof.Machine

/-! ### Filtering database (R152, R170) -/

/-- The key of an address and VID. -/
def fdbKey (vid mac : Nat) : Nat := vid * 2 ^ 48 + mac

/-- The entry of an address in a VID. -/
def State.fdbFind (s : State) (vid mac : Nat) : Option FdbEntry := Sparse.find s.net.fdb (fdbKey vid mac)

/-- The database with another content; BR_FDB_COUNT follows. -/
def State.setFdb (s : State) (m : Sparse FdbEntry) : State :=
  { s with net := { s.net with fdb := m } }.put R.BR_FDB_COUNT_ENTRIES m.length

/-- A source address is learned, refreshed or counted as not learnable (R152). -/
def State.fdbLearn (s : State) (p : Nat) (h : Hdr) : State :=
  if !(s.flag R.BR_CTRL_LEARN_EN && s.flag R.BR_PORT_CFG_LEARN p && 1 ≤ s.get R.BR_PORT_CFG_STP_STATE p) || isGroup h.sa
  then s
  else match s.fdbFind h.vid h.sa with
    | some e => if e.static then s else s.setFdb (Sparse.set s.net.fdb (fdbKey h.vid h.sa) ⟨2 ^ p, false⟩)
    | none =>
      if 8192 ≤ s.net.fdb.length then s.bump R.BR_LEARN_FULL_CNT
      else s.setFdb (Sparse.set s.net.fdb (fdbKey h.vid h.sa) ⟨2 ^ p, false⟩)

/-- The address of BR_FDB_CMD. -/
def fdbCmdAddr : Nat := 0x18080

/-- The MAC and VID of the database command registers. -/
def State.fdbArg (s : State) : Nat × Nat :=
  (s.get R.BR_FDB_MAC_HI_VID, s.get R.BR_FDB_MAC_LO_MAC + s.get R.BR_FDB_MAC_HI_MAC * 2 ^ 32)

/-- A database command starts; ignored with EV_HOST_ERR while one runs (R170). -/
def State.fdbStart (s : State) (op : Nat) : State :=
  if s.flag R.BR_FDB_CMD_BUSY then s.hostErr
  else (s.put R.BR_FDB_CMD_OP op).put R.BR_FDB_CMD_BUSY 1

/-- FDB_LOOKUP (R170). -/
def execFdbLookup (who : Initiator) (s : State) : Ans := .next <| s.command who fdbCmdAddr (fun t => t.fdbStart 0)

/-- FDB_ADD_STATIC (R170). -/
def execFdbAddStatic (who : Initiator) (s : State) : Ans := .next <| s.command who fdbCmdAddr (fun t => t.fdbStart 1)

/-- FDB_DELETE (R170). -/
def execFdbDelete (who : Initiator) (s : State) : Ans := .next <| s.command who fdbCmdAddr (fun t => t.fdbStart 2)

/-- FDB_FLUSH_DYNAMIC (R170). -/
def execFdbFlushDynamic (who : Initiator) (s : State) : Ans := .next <| s.command who fdbCmdAddr (fun t => t.fdbStart 3)

/-- What the running database command does: look up, add a static entry (only while the database has room), delete,
flush the dynamic entries (R170). -/
def State.fdbRun (s : State) : State :=
  let k := fdbKey s.fdbArg.1 s.fdbArg.2
  match s.get R.BR_FDB_CMD_OP with
  | 0 => match Sparse.find s.net.fdb k with
    | some e => ((s.put R.BR_FDB_DATA_PORTS e.ports).put R.BR_FDB_DATA_STATIC (b2n e.static)).put R.BR_FDB_DATA_FOUND 1
    | none => (s.put R.BR_FDB_DATA_STATIC 0).put R.BR_FDB_DATA_FOUND 0
  | 1 => if (Sparse.find s.net.fdb k).isSome || s.net.fdb.length < 8192
      then s.setFdb (Sparse.set s.net.fdb k ⟨s.get R.BR_FDB_DATA_PORTS, true⟩) else s
  | 2 => s.setFdb (Sparse.erase s.net.fdb k)
  | _ => s.setFdb (s.net.fdb.filter (fun e => e.2.static))

/-- FDB_CMD_DONE (R170): the running database command has its effect and BUSY clears. -/
def execFdbCmdDone (s : State) : Ans := .next <|
  if s.flag R.BR_FDB_CMD_BUSY then s.fdbRun.put R.BR_FDB_CMD_BUSY 0 else s

/-- FDB_AGE_OUT (R152): a dynamic entry that has not been refreshed for BR_AGE seconds leaves the database. -/
def execFdbAgeOut (mac : Mac) (vid : Fin 4096) (s : State) : Ans := .next <|
  match s.fdbFind vid.val mac.toNat with
  | some e =>
    if e.static || s.get R.BR_AGE_SECONDS = 0 || !s.powered then s
    else s.setFdb (Sparse.erase s.net.fdb (fdbKey vid.val mac.toNat))
  | none => s

/-! ### Stream filters and flow meters (R162) -/

/-- The first enabled filter that matches destination, VID and ingress port. -/
def State.streamFilter (s : State) (p : Nat) (h : Hdr) : Option Nat :=
  (List.range 512).find? (fun n =>
    s.flag R.TSN_SF_MAC_HI_EN n && s.get R.TSN_SF_MAC_LO_MAC n + s.get R.TSN_SF_MAC_HI_MAC n * 2 ^ 32 == h.da &&
    s.get R.TSN_SF_MAC_HI_VID n == h.vid && s.bit R.TSN_SF_CFG_PORTS p n)

/-- A flow meter takes a frame of a length at a time: green, and the bucket afterwards. Tokens count 10⁻⁶ bit, so CIR in
kbit/s times ns gives tokens exactly; a meter not used before holds its whole burst (log entry 14). -/
def meterTake (m : Meter) (cir cbs len ns : Nat) : Bool × Meter :=
  let cap := cbs * 8000000
  let tok := if m.full then cap else min cap (m.tokens + cir * (ns - m.ns))
  let need := len * 8000000
  if need ≤ tok then (true, ⟨tok - need, ns, false⟩) else (false, ⟨tok, ns, false⟩)

/-- A frame passes the stream filters (R162); the state counts what they do. `len` is without FCS, as R162 counts MAX_SDU. DESIGN CHOICE (log
entry 90): the flow meters count the same length; R162 does not say which bytes they count. -/
def State.filterPass (s : State) (p : Nat) (h : Hdr) (len ns : Nat) : Bool × State :=
  match s.streamFilter p h with
  | none => (true, s)
  | some n =>
    let t := s.bump R.TSN_SF_MATCH_CNT n
    if t.flag R.TSN_SF_STATUS_BLOCKED n then (false, t.bump R.TSN_SF_SDU_DROP_CNT n)
    else if t.get R.TSN_SF_CFG_MAX_SDU n < len then
      (false, (t.bump R.TSN_SF_SDU_DROP_CNT n).when (t.flag R.TSN_SF_CFG_BLOCK_OVS n)
        (fun u => u.put R.TSN_SF_STATUS_BLOCKED 1 n))
    else if t.flag R.TSN_SF_CFG_METER_EN n then
      let k := t.get R.TSN_SF_CFG_METER n
      let r := meterTake (Sparse.get ⟨0, 0, true⟩ t.net.meters k) (t.get R.TSN_FM_CIR_KBPS k) (t.get R.TSN_FM_CBS_BYTES k) len ns
      let u := { t with net := { t.net with meters := Sparse.put ⟨0, 0, true⟩ t.net.meters k r.2 } }
      if r.1 then (true, u) else (false, u.bump R.TSN_SF_METER_DROP_CNT n)
    else (true, t)

/-- TSN_FILTER_UNBLOCK (R162): the host clears TSN_SF_STATUS.BLOCKED of a filter. -/
def execTsnFilterUnblock (who : Initiator) (filter : Fin 512) (s : State) : Ans := .next <|
  s.command who 0x190bc (fun t => t.put R.TSN_SF_STATUS_BLOCKED 0 filter.val)

/-! ### Sequence recovery (R163, R164) -/

/-- The recovery entry of a frame. -/
def State.frerEntry (s : State) (h : Hdr) : Option Nat :=
  (List.range 256).find? (fun n =>
    s.flag R.FRER_ID_HI_EN n && s.get R.FRER_ID_LO_MAC n + s.get R.FRER_ID_HI_MAC n * 2 ^ 32 == h.da &&
    s.get R.FRER_ID_HI_VID n == h.vid)

/-- A recovery entry that accepts any frame: after reset, and after its reset timer. -/
def Frer.init : Frer := ⟨true, 0, [], false⟩

/-- The state of a recovery entry. -/
def State.frerSt (s : State) (n : Nat) : Frer := Sparse.get Frer.init s.net.frer n

/-- The state of a recovery entry at x. -/
def State.setFrer (s : State) (n : Nat) (x : Frer) : State :=
  { s with net := { s.net with frer := Sparse.put Frer.init s.net.frer n x } }

/-- EV_FRER_SEQ with the entry recorded (R164). -/
def State.frerEvent (s : State) (n : Nat) : State := ((s.put R.FRER_EVT_ENTRY n).put R.FRER_EVT_VALID 1).raise EV_FRER_SEQ

/-- The vector recovery algorithm of IEEE 802.1CB with a history of 32 (R163): the frame passes or not. PRESUMED (log entry 91): the first frame
after a reset marks the 31 numbers before it as seen, so that none of them counts as lost and an older frame is discarded. -/
def State.frerRecover (s : State) (n seq : Nat) : Bool × State :=
  let x := s.frerSt n
  if x.takeAny then
    (true, (s.setFrer n { x with takeAny := false, seq := seq, hist := true :: List.replicate 31 true }).bump
      R.FRER_PASSED_CNT n)
  else
    let d := signedOf 16 ((seq + 65536 - x.seq % 65536) % 65536)
    if 32 ≤ d ∨ d ≤ -32 then
      let t := s.bump R.FRER_ROGUE_CNT n
      (false, if x.rogue then t else (t.setFrer n { x with rogue := true }).frerEvent n)
    else if d ≤ 0 then
      let k := (-d).toNat
      if (x.hist[k]?).getD true then (false, s.bump R.FRER_DISCARDED_CNT n)
      else (true, ((s.setFrer n { x with hist := x.hist.set k true }).bump R.FRER_PASSED_CNT n).bump R.FRER_OOO_CNT n)
    else
      let k := d.toNat
      let lost := ((x.hist.drop (32 - k)).filter (fun b => !b)).length
      let hist := (true :: List.replicate (k - 1) false ++ x.hist).take 32
      let t := ((s.setFrer n { x with seq := seq, hist := hist }).bump R.FRER_PASSED_CNT n).bumpBy R.FRER_LOST_CNT lost n
      (true, if k = 1 then t else t.bump R.FRER_OOO_CNT n)

/-- FRER_RESET_TIMEOUT (R163): RESET_MS without a passed frame restarts the history of an enabled entry. -/
def execFrerResetTimeout (entry : Fin 256) (s : State) : Ans := .next <|
  if s.netUp && s.flag R.FRER_ID_HI_EN entry.val && !(s.frerSt entry.val).takeAny then
    ((s.setFrer entry.val Frer.init).bump R.FRER_RESETS_CNT entry.val).frerEvent entry.val
  else s

/-! ### Forwarding (R151 to R156) -/

/-- VLAN membership of a port (8: the internal port). -/
def State.member (s : State) (vid p : Nat) : Bool := s.bit R.BR_VLAN_CFG_MEMBER p vid

/-- The group address of an IPv4 group (R87, R151). -/
def ipGroupMac (ip : Nat) : Nat := 0x01005E000000 + ip % 2 ^ 23

/-- The multicast groups in use by the device, static entries apart (R151). PRESUMED: the SAP group is 239.255.255.255
or 224.2.127.254 (log entry 15). -/
def State.ownGroup (s : State) (da : Nat) : Bool :=
  (s.flag R.AVD_CTRL_EN && da == 0x91E0F0010000) ||
  (s.flag R.RTP_CTRL_EN &&
    ((List.range 512).any (fun n => s.flag R.STRX_ENTRY2_ENABLE n &&
        (s.get R.STRX_ENTRY2_FORMAT n == 5 || s.get R.STRX_ENTRY2_FORMAT n == 6) &&
        s.get R.STRX_ENTRY1_SID_HI n / 2 ^ 28 == 14 && ipGroupMac (s.get R.STRX_ENTRY1_SID_HI n) == da) ||
     da == ipGroupMac 0xE0000001 || (s.flag R.RTP_CTRL_SAP_RX_EN && (da == ipGroupMac 0xEFFFFFFF || da == ipGroupMac 0xE0027FFE)))) ||
  (s.flag R.PTP_CTRL_EN && s.flag R.PTP_CTRL_PROFILE && (da == ipGroupMac 0xE0000181 || da == ipGroupMac 0xE000006B)) ||
  (s.flag R.BRACE_CFG_PAIR_EN && da == s.get R.BRACE_HB_MAC_LO_MAC + s.get R.BRACE_HB_CFG_MAC * 2 ^ 32)

/-- The internal port takes the frame (R151). -/
def State.toInternal (s : State) (h : Hdr) : Bool :=
  s.member h.vid 8 &&
  ((List.range 8).any (fun p => s.portMac p == h.da) || h.da == 0xFFFFFFFFFFFF ||
   (isGroup h.da && (s.ownGroup h.da ||
     (match s.fdbFind h.vid h.da with | some e => e.static && bitAt e.ports 8 | none => false))))

/-- The ports a frame is forwarded to by the database (R152, R153): members of the VID in FORWARDING with link up, the
ingress port apart; none unless the ingress port forwards. PTP messages ignore STP_STATE; the internal port (8) has none. -/
def State.forwardSet (s : State) (p : Nat) (bs : List Byte) (h : Hdr) : List Nat :=
  let ptp := isPtp bs h
  let hit := s.fdbFind h.vid h.da
  let cand (q : Nat) : Bool :=
    match hit with
    | some e => bitAt e.ports q
    | none => if isGroup h.da then s.flag R.BR_CTRL_MC_FLOOD else s.flag R.BR_CTRL_UC_FLOOD
  if isReservedDa h.da || !(ptp || p == 8 || s.get R.BR_PORT_CFG_STP_STATE p == 2) then []
  else (List.range 8).filter (fun q =>
    q != p && cand q && s.member h.vid q && s.link q && (ptp || s.get R.BR_PORT_CFG_STP_STATE q == 2))

/-- The longest frame a class may send in one opening of its gates on a port, in ns of line time: the longest run of
consecutive entries with the gate open (R160). -/
def longestWindow (l : List (Nat × Nat)) (tc : Nat) : Nat :=
  let step (acc : Nat × Nat) (e : Nat × Nat) : Nat × Nat :=
    if bitAt e.1 tc then (acc.1 + e.2, max acc.2 (acc.1 + e.2)) else (0, acc.2)
  ((l ++ l).foldl step (0, 0)).2

/-- Time-aware shaping drops a frame longer than every open window of its class (R160). -/
def State.tasOversize (s : State) (p tc len : Nat) : Bool :=
  s.flag R.TSN_TAS_STATUS_OPER p &&
  !(s.ph p).tas.oper.all (fun e => bitAt e.1 tc) &&
  decide (longestWindow (s.ph p).tas.oper tc * s.kbps p < wireBits len * 1000000)

/-- A frame too long for every open window is dropped: counted, and EV_TAS_ERR (R160). -/
def State.tasDropped (s : State) (p : Nat) : State :=
  ((s.bump R.TSN_TAS_OVERSIZE_CNT p).put R.TSN_TAS_STATUS_CFG_ERR 1 p).raise EV_TAS_ERR

/-- The frames that wait on a port are held against its operating list and its speed as these stand now (R160). -/
def State.tasPurge (s : State) (p : Nat) : State :=
  let long := s.net.egr.filter (fun e => e.port == p && s.tasOversize p e.tc e.len)
  if long.isEmpty then s
  else
    let t := { s with net := { s.net with egr := s.net.egr.filter (fun e => !(e.port == p && s.tasOversize p e.tc e.len)) } }
    long.foldl (fun u _ => u.tasDropped p) t

/-- A class that the best-effort limit does not hold: A, B and TC 7 (R154). -/
def State.isReserved (s : State) (tc : Nat) : Bool := s.isAudioTc tc || tc == 7

/-- A best-effort queue that already holds BR_EGQ_LIMIT KiB (R154). -/
def State.queueFull (s : State) (p tc : Nat) : Bool :=
  decide (s.get R.BR_PORT_CFG2_BR_EGQ_LIMIT p * 1024 ≤ ((s.net.egr.filter (fun x => x.port == p && x.tc == tc)).map (·.len)).sum)

/-- A frame joins an egress queue, or is dropped for that port alone (R106, R154, R160). A received frame of a reserved class has been held
against its pool as it came in (R129). DESIGN CHOICE (log entry 92): R154 limits reserved queues by "their reserved pool" and a frame of the
device's own has no ingress port, so in classes A, B and TC 7 such a frame is held in the reserved pool of its egress port, and the queue is full where that has
no room. -/
def State.enqueue (s : State) (e : EgrFrame) : Bool × State :=
  let put (x : EgrFrame) : State := { s with net := { s.net with egr := s.net.egr ++ [x] } }
  if !s.netUp || !s.link e.port then (false, s)
  else if s.tasOversize e.port e.tc e.len then
    (false, s.tasDropped e.port)
  else if s.isReserved e.tc then
    if e.ingress = 8 then
      if s.poolFull e.port true e.len then (false, s) else (true, put { e with ingress := e.port, resv := true })
    else (true, put e)
  else if s.queueFull e.port e.tc then (false, s.bump R.BR_EGR_DROP_CNT e.port)
  else (true, put e)

/-- The next frame number. -/
def State.newFid (s : State) : Nat × State :=
  (s.net.nextFid, { s with net := { s.net with nextFid := s.net.nextFid + 1 } })

/-- A frame (without FCS) as port q of the VLAN sends it, 8 being the internal port: without its first 802.1Q tag, and tagged anew unless the
port is in the VID's untagged mask (R149, R170). -/
def State.egressBytes (s : State) (q : Nat) (bs : List Byte) (h : Hdr) : List Byte :=
  let body := bs.drop (if h.tagged then 16 else 12)
  if s.bit R.BR_VLAN_CFG_UNTAG q h.vid then bs.take 12 ++ body
  else bs.take 12 ++ beBytes 2 0x8100 ++ beBytes 2 (h.pcp * 8192 + h.dei * 4096 + h.vid) ++ body

/-- A frame without its FCS. -/
def noFcs (bs : List Byte) : List Byte := bs.take (bs.length - 4)

/-- The R-TAG of a frame: its sequence number (R163). -/
def rtagSeq (bs : List Byte) (h : Hdr) : Option Nat := if h.et = 0xF1C1 then some (fieldAt bs (h.body + 4) 2) else none

/-- A frame with its R-TAG removed. -/
def popRtag (bs : List Byte) (h : Hdr) : List Byte := bs.take h.body ++ bs.drop (h.body + 6)

/-- A frame (without FCS) for the host is written into the host receive ring, or dropped when the ring is full (R157). DESIGN CHOICE (log
entry 93): R157 does not say when the ring is full; the model keeps one descriptor free, so that head = tail is the empty ring. DESIGN CHOICE (log entry 124): head and tail alone say which receive descriptors
the device may fill; their OWN is not read. DESIGN CHOICE (log entry 129): a buffer outside the shared memory that host QSPI may write takes no byte;
its descriptor gets status 3, as on transmit, and the frame counts as dropped. -/
def State.hostDeliver (s : State) (p : Nat) (fr : List Byte) (ns : Nat) : State :=
  if !s.flag R.BR_HRX_CTRL_EN then s
  else
    let n := s.get R.BR_HRX_CTRL_ENTRIES
    let hd := s.get R.BR_HRX_HEAD_INDEX
    let nx := if hd + 1 ≥ n then 0 else hd + 1
    if nx = s.get R.BR_HRX_TAIL_INDEX then s.bump R.BR_HRX_DROP_CNT
    else
      let d := s.get R.BR_HRX_BASE_BASE * 4096 + 16 * hd
      let ok := inSharedArea (s.word d) fr.length && s.areaGranted .hq true (s.word d) fr.length
      let t := if ok then s.setBytes (s.word d) fr else s.bump R.BR_HRX_DROP_CNT
      let t := t.setWord (d + 4) (fr.length % 16384 + p * 65536)
      let t := (t.setWord (d + 8) (ns % 2 ^ 32)).setWord (d + 12) (if ok then 0 else 3)
      t.put R.BR_HRX_HEAD_INDEX nx

/-- The ingress timestamp that a port takes, in 0.1 ns of media time (R166): of 0.8 ns resolution and corrected by PTP_LAT_RX on P0 to P5, of
5 ns resolution on P6 and P7. DESIGN CHOICE (log entry 94): a timestamp is the last instant of its grid. -/
def State.ingress10 (s : State) (p ns : Nat) : Int :=
  if p < 6 then ((10 * ns / 8 * 8 : Nat) : Int) - s.getI R.PTP_LAT_RX_DELAY p else ((10 * ns / 50 * 50 : Nat) : Int)

/-- The ingress timestamp in whole ns. -/
def State.ingressNs (s : State) (p ns : Nat) : Nat := ((s.ingress10 p ns).fdiv 10).toNat

/-- What consumer 4 takes of R87 and R88, with RTP_CTRL.EN = 1 (R151): ARP for RTP_IPADDR, or on an ACTIVE unit for the pair's talker address
(R379); IGMP; UDP datagrams to a group or to RTP_IPADDR, SAP's only with SAP_RX_EN. -/
def State.rtpTakes (s : State) (fr : List Byte) (h : Hdr) : Bool :=
  let own (ip : Nat) : Bool := ip == s.get R.RTP_IPADDR_ADDR
  s.flag R.RTP_CTRL_EN &&
  ((h.et == 0x0806 &&
      (own (fieldAt fr (h.body + 26) 4) ||
       (s.paired && s.role == .active && fieldAt fr (h.body + 26) 4 == s.get R.BRACE_TALKER_IP_ADDR))) ||
   (h.et == 0x0800 &&
      (fieldAt fr (h.body + 11) 1 == 2 ||
       ((udpPort fr h true).isSome && (ipDst fr h / 2 ^ 28 == 14 || own (ipDst fr h)) &&
        (udpPort fr h true != some 9875 || s.flag R.RTP_CTRL_SAP_RX_EN)))))

/-- A PTP message outside the profile (R165): a management or signalling message, or the delay message of the other profile; counted as it is
handed over, since no command of its own follows. DESIGN CHOICE (log entry 127): signalling messages (type 12) are outside both profiles; R165 names
management messages and unicast negotiation. -/
def State.ptpForeign (s : State) (fr : List Byte) (h : Hdr) : State :=
  let at' := if h.et = 0x88F7 then h.body + 2 else h.body + 2 + fieldAt fr (h.body + 2) 1 % 16 * 4 + 8
  let ty := fieldAt fr at' 1 % 16
  s.when (s.flag R.PTP_CTRL_EN && s.netUp && (ty == 12 || ty == 13)) (fun t => (t.bump R.PTP_RX_CNT).bump R.PTP_ERR_CNT)

/-- The internal port hands a frame (without FCS) to the first matching consumer (R151): 1 PTP, 2 stream engine and AVDECC, 3 Ocdor,
4 RTP, ARP, IGMP and SAP; else the host frame interface. What a consumer then does is its own command. -/
def State.consume (s : State) (p : Nat) (fr : List Byte) (ns : Nat) : State :=
  let h := s.hdr p fr
  let udp := udpPort fr h true
  let ptpUdp := s.flag R.PTP_CTRL_PROFILE && (udp == some 319 || udp == some 320)
  if h.et = 0x88F7 || ptpUdp then (s.ptpForeign fr h).send (.deliver 1 p fr ns)
  else if h.et = 0x22F0 then s.send (.deliver 2 p fr ns)
  else if h.et = 0x88B5 || udp == some 47740 then s.send (.deliver 3 p fr ns)
  else if s.rtpTakes fr h then s.send (.deliver 4 p fr ns)
  else s.hostDeliver p fr ns

/-- Cut-through conditions of R156 for a frame whose only egress port is q, at a media time. -/
def State.cutsThrough (s : State) (p q tc ns : Nat) : Bool :=
  p < 2 && q < 2 && p != q && s.flag R.MAC_CTRL_CUT_THRU p && s.isAudioTc tc && s.kbps p == s.kbps q && s.kbps p != 0 &&
  !s.waits q tc && decide (0 ≤ (s.ph q).line) && !s.pausedQueue q tc && s.gateFits q tc (s.sizeLimit q 1) ns

/-- Egress copies of one frame (without FCS). -/
def State.copies (s : State) (p : Nat) (bs : List Byte) (h : Hdr) (tc : Nat) (resv : Bool) (fid : Nat) : List Nat → State
  | [] => s
  | q :: qs =>
    let out := s.egressBytes q bs h
    ((s.enqueue ⟨fid, q, tc, out.length + 4, p, resv, .frame out⟩).2).copies p bs h tc resv fid qs

/-- The egress ports and the internal port of a frame after sequence recovery (R163): recovering ports lose duplicates
and frames without an R-TAG; the frame as recovering ports send it. -/
def State.recover (s : State) (p : Nat) (bs : List Byte) (h : Hdr) : List Nat × List Nat × Bool × State :=
  let fw := s.forwardSet p bs h
  let int := s.toInternal h
  match s.frerEntry h with
  | none => (fw, [], int, s)
  | some n =>
    let rec' := s.get R.FRER_CFG_RECOVER n
    let plain := fw.filter (fun q => !bitAt rec' q)
    let rcv := fw.filter (fun q => bitAt rec' q)
    if rcv.isEmpty && !(int && bitAt rec' 8) then (plain, [], int, s)
    else match rtagSeq bs h with
      | none => (plain, [], int && !bitAt rec' 8, s.bump R.FRER_TAGLESS_CNT n)
      | some q =>
        let r := s.frerRecover n q
        if r.1 then (plain, rcv, int, r.2) else (plain, [], int && !bitAt rec' 8, r.2)

/-- A frame that the bridge may not forward (R151's first sentence): dropped where its pool is full (R129), else handed to PTP or to the host
frame interface; what stands at 01 and is no MAC control frame goes nowhere. -/
def State.reservedFrame (s : State) (p : Nat) (bs : List Byte) (h : Hdr) (ns : Nat) : State :=
  let t := s.fdbLearn p h
  let resv := s.isAudioTc (s.frameTc bs h) || isPtp bs h
  if t.poolFull p resv bs.length then t.bump (if resv then R.RES_DROP_CNT else R.BE_DROP_CNT) p
  else if h.da % 16 = 1 then t
  else if h.da % 16 = 14 then (t.ptpForeign (noFcs bs) h).send (.deliver 1 p (noFcs bs) ns)
  else t.hostDeliver p (noFcs bs) ns

/-- The frame that recovering ports send: without its R-TAG where POP is set (R163). -/
def State.recovered (s : State) (fr : List Byte) (h : Hdr) : List Byte :=
  match s.frerEntry h with
  | some k => if s.flag R.FRER_CFG_POP k then popRtag fr h else fr
  | none => fr

/-- A frame past the stream filters and its pool: its copies join the egress queues, and the internal port takes it without its R-TAG, as the
VID's untagged mask says (R149, R151, R163). -/
def State.forward (s : State) (p : Nat) (bs : List Byte) (h : Hdr) (ns : Nat) : State :=
  let fr := noFcs bs
  let tc := s.frameTc bs h
  let resv := s.isAudioTc tc || isPtp bs h
  let r := s.recover p bs h
  let n := r.2.2.2.newFid
  let u := n.2.copies p fr h tc resv n.1 r.1
  let u := u.copies p (u.recovered fr h) h tc resv n.1 r.2.1
  let u := u.poolUpdate p
  u.when r.2.2.1 (fun v => v.consume p (v.egressBytes 8 (if (rtagSeq bs h).isSome then popRtag fr h else fr) h) ns)

/-- An accepted frame in the bridge (R150 to R156, R162, R163); `ns` is its ingress timestamp. DESIGN CHOICE (log entry 120): a frame whose EtherType
behind a VLAN tag is 0x8808 is a MAC control frame too (R134). -/
def State.bridgeFrame (s : State) (p : Nat) (bs : List Byte) (ns : Nat) : State :=
  let h := s.hdr p bs
  if h.et = 0x8808 then
    s.macControl p ⟨BitVec.ofNat 48 h.da, BitVec.ofNat 16 (fieldAt bs (h.body + 2) 2),
      BitVec.ofNat 8 (fieldAt bs (h.body + 5) 1),
      if fieldAt bs (h.body + 2) 2 = 1 then [fieldAt bs (h.body + 4) 2]
      else (List.range 8).map (fun k => fieldAt bs (h.body + 6 + 2 * k) 2)⟩
  else if s.flag R.BR_PORT_CFG_INGRESS_FILT p && !s.member h.vid p then s.bump R.BR_VLAN_DROP_CNT
  else if isReservedDa h.da then s.reservedFrame p bs h ns
  else
    let f := s.filterPass p h (bs.length - 4) ns
    if !f.1 then f.2
    else
      let resv := s.isAudioTc (s.frameTc bs h) || isPtp bs h
      let t := f.2.fdbLearn p h
      if t.poolFull p resv bs.length then t.bump (if resv then R.RES_DROP_CNT else R.BE_DROP_CNT) p
      else t.forward p bs h ns

/-- The egress copy of a frame that is being cut through, if it is (R127, R156): where the device forwards, the ingress port and the stream
filters let the frame in, and its only egress after recovery is the other ring port. -/
def State.cutPort (s : State) (p : Nat) (bs : List Byte) (ns : Nat) : Option Nat :=
  let h := s.hdr p bs
  let r := s.recover p bs h
  if !s.netUp || isReservedDa h.da || h.et = 0x8808 || r.2.2.1 || !(s.filterPass p h 0 ns).1 ||
      (s.flag R.BR_PORT_CFG_INGRESS_FILT p && !s.member h.vid p) then none
  else match r.1 ++ r.2.1 with
    | [q] => if s.cutsThrough p q (s.frameTc bs h) ns then some q else none
    | _ => none

/-- A bad frame is counted; its cut-through copy, if one is leaving, is stomped (R126, R127). -/
def State.badFrame (s : State) (p : Nat) (f : FrameIn) (cnt src : Fld) (stomp : Bool) : State :=
  let t := (s.bump cnt p).frameErr src p
  if stomp then
    match s.cutPort p f.bytes (s.ingressNs p f.ns) with
    | some q => ((t.bump R.STOMP_CNT q).frameErr R.MAC_ERR_SRC_STOMP q).send (.stomped q)
    | none => t
  else t

/-- MAC_FRAME_RX (R125, R126): a received frame is judged by code errors, size and FCS; an accepted frame goes to the
bridge, or is discarded where the device state says so (R123). DESIGN CHOICE (log entry 95): in SLEEP a lane that stays up serves the wake
filters alone and counts nothing; R123 names no counter there. -/
def execMacFrameRx (port : Fin 8) (f : FrameIn) (s : State) : Ans := .next <|
  let p := port.val
  let len := f.bytes.length
  if s.dev == .off || s.dev == .sleep || s.plls.clockLost || !s.link p then s
  else if f.symErr then s.badFrame p f R.SYM_ERR_CNT R.MAC_ERR_SRC_SYM false
  else if len < 64 then s.badFrame p f R.RUNT_CNT R.MAC_ERR_SRC_RUNT false
  else if s.sizeLimit p (tagCount f.bytes) < len then s.badFrame p f R.OVERSIZE_CNT R.MAC_ERR_SRC_OVERSIZE true
  else if !f.fcsOk then s.badFrame p f R.FCS_ERR_CNT R.MAC_ERR_SRC_FCS true
  else if !s.netUp then s.bump R.STATE_DISC_CNT p
  else (s.bump R.RX_OK_CNT p).bridgeFrame p f.bytes (s.ingressNs p f.ns)

/-! ### Frames of the device's own (R128, R157) -/

/-- The ports in a mask. -/
def portsOf (mask : Nat) : List Nat := (List.range 8).filter (fun p => bitAt mask p)

/-- The bytes that a header of the device's own adds: Ethernet with its tag, IP and UDP. -/
def headLen (h : EthHead) (ip : Bool) : Nat := 14 + (if h.tag.isSome then 4 else 0) + (if ip then 28 else 0)

/-- The length of a frame with FCS, at least 64 (R128). Stream packets are built by admission with the length of R112. PRESUMED (log entry
96): what the standards of PTP, IEEE 1722.1, ARP, IGMP and SAP lay out is counted by their fixed sizes. -/
def Wire.len : Wire → Nat
  | .frame bs => max 64 (bs.length + 4)
  | .ptp h q kind _ _ => max 64 (headLen h q.isSome + (if kind = 2 then 64 else if kind = 3 ∨ kind = 4 ∨ kind = 7 then 54 else 44) + 4)
  | .ocdor h q _ _ _ _ _ _ _ _ data _ => max 64 (headLen h q.isSome + 28 + 4 * data.length + 4)
  | .avdecc h _ _ _ fields => max 64 (headLen h false + 68 + 4 * fields.length + 4)
  | .ip h q kind fields => max 64 (headLen h q.isSome + (if 3 ≤ kind then 280 else 8 * fields.length) + 4)
  | _ => 64

/-- The tags of a frame of the device's own. -/
def Wire.tags : Wire → Nat
  | .ocdor h _ _ _ _ _ _ _ _ _ _ _ => b2n h.tag.isSome
  | _ => 0

/-- Ocdor, the service firmware and the protocol blocks submit a frame on a port through an internal ring, under the checks of R128 and R157:
too long, it counts in TXERR_CNT and is never sent; else it joins the queue of its class, where the port has link. -/
def State.submit (s : State) (p tc : Nat) (w : Wire) : State :=
  if s.sizeLimit p w.tags < w.len then s.bump R.TXERR_CNT p
  else
    let n := s.newFid
    (n.2.enqueue ⟨n.1, p, tc, w.len, 8, false, w⟩).2

/-- The traffic class of a frame of the device's own by its tag: PCP 0 without one (R150). -/
def State.tagTc (s : State) (h : EthHead) : Nat := s.tcOf ((h.tag.map (·.2)).getD 0)

/-! ### Host frame submission (R128, R157) -/

/-- One submitted frame (R128): the status it gets. With mask 0 the database forwards it as it forwards a received one: tagged or untagged by
the VID's masks, and to the internal port where R151 delivers it. DESIGN CHOICE (log entry 87): the internal port counts as FORWARDING, and
an untagged frame of the host is in VID 1. DESIGN CHOICE (log entry 125): a frame for which the database gives neither a port nor the internal port gets
TXERR_LINK, an empty egress set counting as one whose every port is down. DESIGN CHOICE (log entry 126): sequence recovery (R163) takes no frame of the
host's. -/
def State.submitFrame (s : State) (bs : List Byte) (mask tc ns : Nat) : Nat × State :=
  let h := s.hdr 8 bs
  let egress := if mask = 0 then s.forwardSet 8 bs h else portsOf mask
  let int := mask == 0 && s.toInternal h && !isReservedDa h.da
  let tooLong := egress.filter (fun p => decide (s.sizeLimit p (tagCount bs) < bs.length + 4))
  if !tooLong.isEmpty then (1, tooLong.foldl (fun t p => t.bump R.TXERR_CNT p) s)
  else if !int && egress.all (fun p => !s.link p) then (2, s)
  else
    let n := s.newFid
    let body (p : Nat) : List Byte :=
      let b := if mask = 0 then s.egressBytes p bs h else bs
      b ++ List.replicate (60 - b.length) 0
    let t := egress.foldl (fun t p => (t.enqueue ⟨n.1, p, tc, (body p).length + 4, 8, false, .frame (body p)⟩).2) n.2
    (0, t.when int (fun u => u.consume 8 (u.egressBytes 8 bs h) ns))

/-- One transmit descriptor of the host ring (R157). -/
def State.hostDescriptor (s : State) (d : Nat) : State :=
  let buf := s.word d
  let w1 := s.word (d + 4)
  let len := w1 % 16384
  let r := if !s.areaGranted .hq false buf len then (3, s)
    else s.submitFrame (s.bytes buf len) (bitsAt w1 23 16) (bitsAt w1 26 24) (tickStartNs s.tickNum)
  r.2.setWord (d + 12) r.1

/-- A descriptor is the device's: OWN is 1 (R157). -/
def State.owned (s : State) (d : Nat) : Bool := bitAt (s.word (d + 12)) 31

/-- The device takes the descriptors that it owns up to the tail: at most n of them. -/
def State.hostTx (s : State) : Nat → State
  | 0 => s
  | n + 1 =>
    let hd := s.get R.BR_HTX_HEAD_INDEX
    let d := s.get R.BR_HTX_BASE_BASE * 4096 + 16 * hd
    if hd = s.get R.BR_HTX_TAIL_INDEX || !s.owned d then s
    else
      let t := s.hostDescriptor d
      (t.put R.BR_HTX_HEAD_INDEX (if hd + 1 ≥ s.get R.BR_HTX_CTRL_ENTRIES then 0 else hd + 1)).hostTx n

/-- The transmit ring is served while it is enabled and the device sends. -/
def State.hostPoll (s : State) : State := if s.flag R.BR_HTX_CTRL_EN && s.netUp then s.hostTx 1024 else s

/-- The host advances BR_HTX_TAIL (R157). -/
def State.htxTail (s : State) (tail : Nat) : State := (s.put R.BR_HTX_TAIL_INDEX tail).hostPoll

/-- HOST_FRAME_SUBMIT (R157): the host advances BR_HTX_TAIL, and the device checks and sends each transmit descriptor
and clears OWN. -/
def execHostFrameSubmit (who : Initiator) (tail : Fin 1024) (s : State) : Ans := .next <|
  s.command who 0x180a8 (fun t => t.htxTail tail.val)

/-! ### Reservations (R158) -/

/-- EFF_A and EFF_B of a port from its reservations and its present speed (R158). -/
def State.effPort (s : State) (p : Nat) : State :=
  let cap := s.kbps p * 3 / 4
  let a := min (s.get R.TSN_RES_A_KBPS p) cap
  let b := min (s.get R.TSN_RES_B_KBPS p) (cap - a)
  (s.put R.TSN_EFF_A_KBPS a p).put R.TSN_EFF_B_KBPS b p

/-- EFF_A and EFF_B of every port. -/
def State.effAll (s : State) : State := s.each 8 State.effPort

/-! ### Time-aware shaping (R159 to R161) -/

/-- The admin list of a port, cut at the cycle end, the last entry held to it (R159). -/
def State.adminList (s : State) (p : Nat) : List (Nat × Nat) :=
  let cycle := s.get R.TSN_TAS_CYCLE_NS p
  let n := s.get R.TSN_TAS_LEN_ENTRIES p
  let raw := (List.range n).map (fun k => (s.get R.TSN_GCL_GATES_GATES p k, s.get R.TSN_GCL_INTERVAL_NS p k))
  let step (acc : Nat × List (Nat × Nat)) (x : (Nat × Nat) × Nat) : Nat × List (Nat × Nat) :=
    let d := min x.1.2 (cycle - acc.1)
    let d := if x.2 + 1 = n then cycle - acc.1 else d
    if d = 0 then acc else (acc.1 + d, acc.2 ++ [(x.1.1, d)])
  (raw.zipIdx.foldl step (0, [])).2

/-- Without an epoch a port with the shaper enabled holds every gate open, shows NO_TIME and raises EV_TAS_ERR once (R160). -/
def State.tasNoTime (s : State) (p : Nat) : State :=
  if s.flag R.TICK_STATUS_EPOCH_VALID || !s.flag R.TSN_TAS_CTRL_EN p || s.flag R.TSN_TAS_STATUS_NO_TIME p then s
  else
    let u := ((s.put R.TSN_TAS_STATUS_NO_TIME 1 p).put R.TSN_TAS_STATUS_OPER 0 p).put R.TSN_TAS_STATUS_GATES 255 p
    (u.put R.TSN_TAS_STATUS_CFG_ERR 1 p).raise EV_TAS_ERR

/-- A commit of the TSN page sets the config-change time of a port with the shaper enabled: the base time, or the first
base + k × cycle still to come (R159). Without an epoch every gate is held open (R160). -/
def State.tasCommit (s : State) (p : Nat) : State :=
  if !s.flag R.TSN_TAS_CTRL_EN p then
    let t := (((s.put R.TSN_TAS_STATUS_OPER 0 p).put R.TSN_TAS_STATUS_PENDING 0 p).put R.TSN_TAS_STATUS_NO_TIME 0 p).put
      R.TSN_TAS_STATUS_GATES 255 p
    t.setPh p { t.ph p with tas := ⟨[], 0, 0, 0, none⟩ }
  else
    let base := s.get R.TSN_TAS_BASE_LO_NS p + s.get R.TSN_TAS_BASE_HI_NS p * 2 ^ 32
    let cycle := s.get R.TSN_TAS_CYCLE_NS p
    let now := tickStartNs s.tickNum
    let at' := if now ≤ base then base else base + (now - base + cycle - 1) / cycle * cycle
    let t := (s.setPh p { s.ph p with tas := { (s.ph p).tas with changeAt := some at' } }).put R.TSN_TAS_STATUS_PENDING 1 p
    t.tasNoTime p

/-- Every port's schedule after a commit of the TSN page or an epoch set (R159, R161). -/
def State.tasAll (s : State) : State := s.each 6 State.tasCommit

/-- TAS_CONFIG_CHANGE (R159): at the config-change time the admin list replaces the operating list, and frames too long for it go (R160). -/
def execTasConfigChange (port : Fin 8) (s : State) : Ans := .next <|
  let p := port.val
  let h := s.ph p
  if s.netUp && s.flag R.TICK_STATUS_EPOCH_VALID && p < 6 && h.tas.changeAt.isSome then
    let l := s.adminList p
    let base := h.tas.changeAt.getD 0
    let t := s.setPh p { h with tas := ⟨l, base, s.get R.TSN_TAS_CYCLE_NS p, 0, none⟩ }
    ((((t.put R.TSN_TAS_STATUS_OPER 1 p).put R.TSN_TAS_STATUS_PENDING 0 p).put R.TSN_TAS_STATUS_NO_TIME 0 p).put
      R.TSN_TAS_STATUS_GATES ((l.head?.map (·.1)).getD 255) p).tasPurge p
  else s

/-- TAS_GATE_ADVANCE (R159): an interval of the operating list ends and the next entry's gates apply. -/
def execTasGateAdvance (port : Fin 8) (s : State) : Ans := .next <|
  let p := port.val
  let h := s.ph p
  if s.powered && s.flag R.TSN_TAS_STATUS_OPER p && !h.tas.oper.isEmpty then
    let k := if h.tas.idx + 1 ≥ h.tas.oper.length then 0 else h.tas.idx + 1
    (s.setPh p { h with tas := { h.tas with idx := k } }).put R.TSN_TAS_STATUS_GATES
      (((h.tas.oper[k]?).map (·.1)).getD 255) p
  else s

end Sys2Proof.Machine
end

