-- ==== Sys2Proof/Machine/StreamRx.lean ====
section
/-! DEFINITION. Stream reception (R82 to R103): formats, duplicate elimination, placement by sample index, rings, CRF and
RTCP, and what the mixer reads at a tick. -/

namespace Sys2Proof.Machine

/-! ### Entries and states -/

/-- Receive states (R103). -/
def rxOff : Nat := 0
/-- REFUSED (R103). -/
def rxRefused : Nat := 1
/-- LISTENING (R103). -/
def rxListening : Nat := 2
/-- RUNNING (R103). -/
def rxRunning : Nat := 3
/-- STARVED (R103). -/
def rxStarved : Nat := 4

/-- The hidden state of a receive entry. -/
def State.rx (s : State) (n : Nat) : RxHid := Sparse.get RxHid.init s.str.rx n

/-- The hidden state of a receive entry at x. -/
def State.setRx (s : State) (n : Nat) (x : RxHid) : State :=
  { s with str := { s.str with rx := Sparse.put RxHid.init s.str.rx n x } }

/-- STRX_STAT0.STATE of an entry. -/
def State.rxState (s : State) (n : Nat) : Nat := s.get R.STRX_STAT0_STATE n

/-- STREAM_ID of a receive entry. -/
def State.rxSid (s : State) (n : Nat) : Nat := s.get R.STRX_ENTRY0_SID_LO n + s.get R.STRX_ENTRY1_SID_HI n * 2 ^ 32

/-- DEPTH + 8, the tick slots of a ring (R94). -/
def State.rxSlots (s : State) (n : Nat) : Nat := s.get R.STRX_ENTRY3_DEPTH n + 8

/-- The ring size of an entry: CHANNELS × 32 × (DEPTH + 8) bytes and the bitmap, rounded up to 64 (R94). -/
def State.ringSize (s : State) (n : Nat) : Nat :=
  (s.get R.STRX_ENTRY2_CHANNELS n * 32 * s.rxSlots n + s.rxSlots n + 63) / 64 * 64

/-- The address of the sample of channel c at index x (R94). -/
def State.ringAddr (s : State) (n x c : Nat) : Nat :=
  s.get R.STRX_STAT1_RING_ADDR n + (x % (8 * s.rxSlots n) * s.get R.STRX_ENTRY2_CHANNELS n + c) * 4

/-- The address of the valid byte of index x (R94). -/
def State.validAddr (s : State) (n x : Nat) : Nat :=
  s.get R.STRX_STAT1_RING_ADDR n + s.get R.STRX_ENTRY2_CHANNELS n * 32 * s.rxSlots n + x / 8 % s.rxSlots n

/-- Index x of an entry has been written (R95). -/
def State.rxValid (s : State) (n x : Nat) : Bool := bitAt (s.byte (s.validAddr n x)).toNat (x % 8)

/-- The valid bitmap of an entry cleared. -/
def State.clearBitmap (s : State) (n : Nat) : State :=
  s.setBytes (s.get R.STRX_STAT1_RING_ADDR n + s.get R.STRX_ENTRY2_CHANNELS n * 32 * s.rxSlots n)
    (List.replicate (s.rxSlots n) 0)

/-- An entry changes state: EV_RX_STATE at every change; entry into LISTENING clears the bitmap and restarts the
duplicate history (R99, R103). -/
def State.rxEnter (s : State) (n st : Nat) : State :=
  let t := if s.rxState n = st then s else (s.put R.STRX_STAT0_STATE st n).raise EV_RX_STATE
  if st = rxListening then
    ((t.clearBitmap n).setRx n
      { t.rx n with started := false, idle := 0, wrote := false, missing := false, last := none, mute := [], was := [] }).put
      R.STRX_STAT0_NONAUDIO 0 n
  else t

/-- Bytes per sample of a FORMAT code (R83). -/
def fmtBytes (f : Nat) : Nat := if f = 1 ∨ f = 5 then 2 else if f = 2 ∨ f = 6 then 3 else 4

/-- The rate in Hz of a RATE code (R91); 0 for a code that is an error. -/
def rateHz : Nat → Nat
  | 0 => 48000 | 1 => 8000 | 2 => 16000 | 3 => 32000 | 4 => 44100 | 5 => 88200 | 6 => 96000 | 7 => 176400 | 8 => 192000
  | _ => 0

/-! ### Sample formats (R85) -/

/-- Round half towards plus infinity at bit k (R13, R266). -/
def roundShift (x : Int) (k : Nat) : Int := (x + (2 ^ k / 2 : Nat)).fdiv (2 ^ k : Nat)

/-- x / 2^k rounded to nearest even. -/
def roundEven (x : Int) (k : Nat) : Int :=
  let q := x.fdiv (2 ^ k : Nat)
  let r := x - q * (2 ^ k : Nat)
  let half : Int := (2 ^ k / 2 : Nat)
  if k = 0 then x else if r < half then q else if half < r then q + 1 else if q % 2 = 0 then q else q + 1

/-- A 32-bit float times 2³¹, rounded to nearest even and saturated to Q1.31; NaN is 0 (R85). -/
def floatToQ31 (w : Nat) : Int :=
  let sign := bitAt w 31
  let e := bitsAt w 30 23
  let m := bitsAt w 22 0
  if e = 255 ∧ m ≠ 0 then 0
  else
    let mant : Int := if e = 0 then (m : Nat) else (m + 2 ^ 23 : Nat)
    -- value × 2³¹ = mant × 2^(max e 1 − 150 + 31)
    let x : Int := max (e : Int) 1 - 119
    let v : Int := if 0 ≤ x then (if e = 255 ∨ 40 < x then (2 ^ 40 : Nat) else mant * (2 ^ x.toNat : Nat))
      else roundEven mant (-x).toNat
    satTo 32 (if sign then -v else v)

/-- A sample of the house format as a 32-bit float, rounded to nearest even (R85). -/
def q31ToFloat (x : Int) : Nat :=
  let a := x.natAbs
  if a = 0 then 0
  else
    let top := Nat.log2 a
    let m := if top ≤ 23 then a * 2 ^ (23 - top) else (roundEven (a : Int) (top - 23)).toNat
    let e := top + 127 - 31
    let (m, e) := if 2 ^ 24 ≤ m then (m / 2, e + 1) else (m, e)
    (if x < 0 then 2 ^ 31 else 0) + e * 2 ^ 23 + (m - 2 ^ 23)

/-- A payload word of a FORMAT in house format (R85). -/
def fromPayload (f w : Nat) : Int :=
  match f with
  | 1 => signedOf 32 (w % 2 ^ 16 * 2 ^ 16)
  | 5 => signedOf 32 (w % 2 ^ 16 * 2 ^ 16)
  | 2 => signedOf 32 (w % 2 ^ 24 * 2 ^ 8)
  | 6 => signedOf 32 (w % 2 ^ 24 * 2 ^ 8)
  | 4 => floatToQ31 w
  | _ => signedOf 32 w

/-- A house sample as a payload word of a FORMAT: rounded to nearest at bit 16 or 8 and saturated (R85). -/
def toPayload (f : Nat) (x : Int) : Nat :=
  match f with
  | 1 => toTwos 16 (satTo 16 (roundShift x 16))
  | 5 => toTwos 16 (satTo 16 (roundShift x 16))
  | 2 => toTwos 24 (satTo 24 (roundShift x 8))
  | 6 => toTwos 24 (satTo 24 (roundShift x 8))
  | 4 => q31ToFloat x
  | _ => toTwos 32 x

/-! ### Time (R93) -/

/-- The value x with x mod 2³² = v and −2³¹ ≤ x − ref < 2³¹ (R93). -/
def extend32 (v : Nat) (ref : Int) : Int := ref + signedOf 32 ((((v : Int) - ref) % (2 ^ 32 : Nat)).toNat)

/-- The house sample index of a packet's first sample before PRES_OFFSET, from an AVTP timestamp (R93). -/
def avtpS0 (ts ns : Nat) : Int := (extend32 ts ns * 48000 + 500000000).fdiv 1000000000

/-- The sample index at a media time in ns (R44). -/
def sidxAt (ns : Nat) : Nat := ns * 48000 / 1000000000

/-- The house sample index of an RTP packet's first sample before PRES_OFFSET: the extended timestamp minus TS_OFFSET,
scaled to 48 kHz and rounded to nearest (R93). -/
def rtpS0 (ts off ns hz : Nat) : Int :=
  let x := extend32 ((ts + 2 ^ 32 - off % 2 ^ 32) % 2 ^ 32) (ns * hz / 1000000000 : Nat)
  if hz = 48000 then x else (x * 48000 * 2 + hz).fdiv (2 * hz)

/-- An arrival in 0.1 ns as tick units of 1/6,000 s times 10⁷ (so that comparisons are exact). -/
def arr6 (a : Int) : Int := 6 * a

/-! ### Duplicate elimination (R98, R99) -/

/-- The outcome of R98 for a packet. -/
inductive Dup | accept | duplicate | anomaly
deriving DecidableEq, Repr

/-- A new history at a packet. -/
def RxHid.start (x : RxHid) (w q tag : Nat) : RxHid :=
  { x with started := true, h := q, seen := (some tag :: List.replicate (w - 1) none).take w }

/-- The procedure of R98 for sequence q of a space of m numbers, a window w and a tag. After the restart by the 4th old packet oow_run stays
at 4, as the rule's text leaves it. -/
def RxHid.judge (x : RxHid) (m w q tag : Nat) : Dup × RxHid :=
  let seen := (x.seen ++ List.replicate w none).take w
  if !x.started then (.accept, x.start w q tag)
  else
    let d := (q + m - x.h % m) % m
    if d ≠ 0 ∧ 2 * d < m then
      let moved := if w ≤ d then List.replicate w none else (List.replicate d none ++ seen).take w
      (.accept, { x with h := q, seen := moved.set 0 (some tag), oow := 0 })
    else
      let k := (m - d) % m
      if w ≤ k then
        if x.oow + 1 = 4 then (.accept, { x.start w q tag with oow := 4 })
        else (.anomaly, { x with oow := x.oow + 1 })
      else match (seen[k]?).getD none with
        | some t => if t = tag then (.duplicate, x) else (.anomaly, x)
        | none => (.accept, { x with seen := seen.set k (some tag), oow := 0 })

/-- A duplicate or an anomaly is counted (R98). -/
def State.dupCount (s : State) (n : Nat) : Dup → State
  | .accept => s
  | .duplicate => s.bump R.STRX_STAT3_DUP_CNT n
  | .anomaly => (s.bump R.STRX_STAT7_DUP_ANOM_CNT n).raise EV_DUP_ANOMALY

/-! ### Writing samples (R94 to R97) -/

/-- A word written by stream DMA where its region grants it; a denied write is recorded (R76). -/
def State.dmaWrite (s : State) (a v : Nat) : State :=
  if s.permits .sdma true a then s.setWord a v else s.denyRecord .sdma true a

/-- One sample index of a packet written into the ring, unless its valid bit is set (R97); false where it was set. Each denied access leaves
its word, or the valid bit, unwritten (R76). -/
def State.writeIndex (s : State) (n x : Nat) (smp : List Int) : Bool × State :=
  if s.rxValid n x then (false, s)
  else
    let a := s.ringAddr n x 0
    let t := (smp.zipIdx).foldl (fun t e => t.dmaWrite (a + 4 * e.2) (toTwos 32 e.1)) s
    let va := s.validAddr n x
    (true, if t.permits .sdma true va then t.setByte va (BitVec.ofNat 8 (setBit (t.byte va).toNat (x % 8) true))
      else t.denyRecord .sdma true va)

/-- The tick of a sample index is late for an arrival in 0.1 ns (R96): arrival > start(T) − lead. -/
def State.isLate (s : State) (arr : Int) (tick : Nat) : Bool := decide (((tick : Int) - s.lead) * 10000000 < arr6 arr)

/-- The tick of a sample index is early for an arrival in 0.1 ns (R96): arrival < start(T) − (lead + DEPTH). -/
def State.isEarly (s : State) (n : Nat) (arr : Int) (tick : Nat) : Bool :=
  decide (arr6 arr < ((tick : Int) - (s.lead + s.get R.STRX_ENTRY3_DEPTH n : Nat)) * 10000000)

/-- What placing a packet met: late, early, a taken index, a written sample. -/
structure Placed where
  late  : Bool
  early : Bool
  taken : Bool
  wrote : Bool
deriving DecidableEq, Repr

/-- The samples of a packet from index s0 on, each judged by its tick (R96). -/
def State.place (s : State) (n : Nat) (arr s0 : Int) : List (List Int) → Placed → Placed × State
  | [], p => (p, s)
  | smp :: rest, p =>
    let x := s0.toNat
    if s0 < 0 || s.isLate arr (x / 8) then s.place n arr (s0 + 1) rest { p with late := true }
    else if s.isEarly n arr (x / 8) then s.place n arr (s0 + 1) rest { p with early := true }
    else
      let r := s.writeIndex n x smp
      r.2.place n arr (s0 + 1) rest (if r.1 then { p with wrote := true } else { p with taken := true })

/-- The counters of a placed packet, and the entry's state after a written packet (R96, R97, R103). -/
def State.placedCounts (s : State) (n : Nat) (p : Placed) : State :=
  let t := s.when p.late (fun u => (u.bump R.STRX_STAT4_LATE_CNT n).raise EV_RX_LATE)
  let t := t.when p.early (fun u => u.bump R.STRX_STAT4_EARLY_CNT n)
  let t := t.when p.taken (fun u => u.bump R.STRX_STAT7_DUP_ANOM_CNT n)
  if p.wrote then
    let u := (t.bump R.STRX_STAT2_PKT_CNT n).setRx n { t.rx n with wrote := true, idle := 0 }
    u.rxEnter n rxRunning
  else t

/-- Samples of a packet at a stream's own rate, converted by the rate group: the converted values are the ASRC's, which
the spec does not state bit for bit, so each is a free value (log entry 20). -/
def State.convert (s : State) (ch : Nat) : Nat → List (List Int) × State
  | 0 => ([], s)
  | n + 1 =>
    let one := (List.range ch).foldl (fun (a : List Int × State) _ =>
      let d := a.2.draw; (a.1 ++ [signedOf 32 d.1], d.2)) ([], s)
    let r := one.2.convert ch n
    (one.1 :: r.1, r.2)

/-- The entry can take a packet: admitted, in a device state that receives (R42). -/
def State.rxOpen (s : State) (n : Nat) : Bool :=
  (s.dev == .ready || s.dev == .run) && 2 ≤ s.rxState n

/-- The house index, to nearest, that lies n samples of a stream at `hz` after an index: exact from a timestamp on, so that continuity does not
drift at any rate (R84, R93). -/
def gridIndex (g : Int × Nat) (hz : Nat) : Int := g.1 + ((2 * g.2 * 48000 + hz) / (2 * hz) : Nat)

/-- The house indices that a packet from `s0` to `stop` covers once it is converted. One that continues the last accepted packet begins where
that one ended, so no index is lost or claimed twice where both round (R82, R93). -/
def convertedSpan (last : Option (Nat × Nat × Nat)) (contiguous : Bool) (s0 stop : Int) : Int × Nat :=
  match last with
  | some (_, x, m) =>
    let next : Int := (x + m : Nat)
    if contiguous && decide ((s0 - next).natAbs ≤ 1) then (next, (stop - next).toNat) else (s0, (stop - s0).toNat)
  | none => (s0, (stop - s0).toNat)

/-- An accepted packet is placed; `space` is the number of its sequence numbers, `arr` its arrival in 0.1 ns, `g` its first index as an index and
the stream's samples since. A stream at another rate passes through its rate group: while the group is unlocked its channels read zero (R248), and
locked it gives converted samples, 32 house samples behind their indices (R93, R245). -/
def State.acceptPacket (s : State) (n : Nat) (arr : Int) (g : Int × Nat) (seq space : Nat) (smp : List (List Int)) : State :=
  let rate := s.get R.STRX_ENTRY3_RATE n
  let old := (s.rx n).last
  let s0 := gridIndex g (rateHz rate)
  let fin := (g.1, g.2 + smp.length)
  let span := if rate = 0 then (s0, smp.length)
    else convertedSpan old (match old with | some l => (l.1 + 1) % space == seq | none => false) s0 (gridIndex fin (rateHz rate))
  let t := s.setRx n { s.rx n with last := some (seq, span.1.toNat, span.2), grid := fin }
  if rate = 0 then
    let r := t.place n arr s0 smp ⟨false, false, false, false⟩
    r.2.placedCounts n r.1
  else if s.flag R.ASRC_GRP_STATUS_LOCK (s.get R.STRX_ENTRY3_ASRC_GROUP n) then
    let c := t.convert (s.get R.STRX_ENTRY2_CHANNELS n) span.2
    let r := c.2.place n arr (span.1 + 32) c.1 ⟨false, false, false, false⟩
    r.2.placedCounts n r.1
  else t

/-- The enabled AVTP receive entry whose STREAM_ID is the frame's (R90), whatever its format. -/
def State.avtpEntry (s : State) (sid : Nat) : Option Nat :=
  (List.range 512).find? (fun n =>
    let f := s.get R.STRX_ENTRY2_FORMAT n
    s.flag R.STRX_ENTRY2_ENABLE n && s.rxSid n == sid && (f == 7 || (decide (1 ≤ f) && decide (f ≤ 4))))

/-- The first index of an AAF packet: by its timestamp, or by continuity where tv is 0 or tu is 1 (R84, R93); as an index and the stream's
samples since. -/
def State.aafS0 (s : State) (n : Nat) (p : AvtpPacket) : Option (Int × Nat) :=
  if p.tv && !p.tu then some (avtpS0 p.ts.toNat (s.ingressNs p.port.val p.ns) + s.getI R.STRX_ENTRY4_PRES_OFFSET n, 0)
  else if !s.flag R.AVTP_CTRL_SPARSE_RX then none
  else match (s.rx n).last with
    | some (q, _, _) => if (q + 1) % 256 = p.seq.toNat then some (s.rx n).grid else none
    | none => none

/-- An AAF packet that matches an entry (R84, R98, R99). DESIGN CHOICE (log entry 118): the spec gives no order between the check of the format and the
duplicate procedure; a packet whose format does not fit is counted first, and neither enters nor moves the history of R98. -/
def State.aafPacket (s : State) (n : Nat) (p : AvtpPacket) : State :=
  let ch := s.get R.STRX_ENTRY2_CHANNELS n
  if p.format ≠ s.get R.STRX_ENTRY2_FORMAT n || p.rate ≠ rateHz (s.get R.STRX_ENTRY3_RATE n) ||
      p.frames.any (fun f => f.length != ch) || p.frames.isEmpty || 96 < p.frames.length then
    s.bump R.STRX_STAT7_FMT_ERR_CNT n
  else
    let x := s.rx n
    let x := if x.mr = some p.mr ∨ x.mr = none then { x with mr := some p.mr } else { x with mr := some p.mr, started := false }
    let j := x.judge 256 (s.get R.STRX_ENTRY3_DUP_WIN n) p.seq.toNat (p.ts.toNat % 65536)
    let t := (s.setRx n j.2).dupCount n j.1
    if j.1 ≠ .accept then t
    else match t.aafS0 n p with
      | none => t.bump R.STRX_STAT7_FMT_ERR_CNT n
      | some g => t.acceptPacket n (s.ingress10 p.port.val p.ns) g p.seq.toNat 256
          (p.frames.map (fun f => f.map (fun w => fromPayload p.format w.toNat)))

/-- AVTP_RX (R93): an AAF packet is matched, de-duplicated, placed by sample index and judged late or early. -/
def execAvtpRx (p : AvtpPacket) (s : State) : Ans := .next <|
  if !s.netUp || !s.flag R.AVTP_CTRL_RX_EN then s
  else if !p.subtypeOk then s.bump R.AVTP_HDR_ERR_CNT
  else match s.avtpEntry p.sid.toNat with
    | none => s.bump R.AVTP_UNKNOWN_CNT
    | some n => if s.rxOpen n then s.aafPacket n p else s

/-- The enabled receive entry of an RTP datagram by destination address and port, and by SSRC where SSRC_CHK is 1
(R90); unicast only to RTP_IPADDR (R87). -/
def State.rtpEntry (s : State) (p : RtpPacket) (ssrc : Bool) : Option Nat :=
  if p.dstIp.toNat / 2 ^ 28 ≠ 14 ∧ p.dstIp.toNat ≠ s.get R.RTP_IPADDR_ADDR then none
  else (List.range 512).find? (fun n =>
    s.flag R.STRX_ENTRY2_ENABLE n && (s.get R.STRX_ENTRY2_FORMAT n == 5 || s.get R.STRX_ENTRY2_FORMAT n == 6) &&
    s.rxSid n == p.dstIp.toNat * 2 ^ 32 + p.dstPort.toNat * 2 ^ 16 &&
    (!ssrc || !s.flag R.STRX_ENTRY6_SSRC_CHK n || s.get R.STRX_ENTRY7_SSRC n == p.ssrc.toNat))

/-- An RTP datagram that matches an entry (R87, R93, R98). DESIGN CHOICE (log entry 118): payload type and format are checked, and counted, before the
duplicate procedure, which such a datagram does not enter. -/
def State.rtpPacket (s : State) (n : Nat) (p : RtpPacket) : State :=
  let ch := s.get R.STRX_ENTRY2_CHANNELS n
  if p.pt ≠ s.get R.STRX_ENTRY6_PT n then s.bump R.RTP_HDR_ERR_CNT
  else if p.format ≠ s.get R.STRX_ENTRY2_FORMAT n || p.frames.any (fun f => f.length != ch) || p.frames.isEmpty then
    s.bump R.STRX_STAT7_FMT_ERR_CNT n
  else
    let j := (s.rx n).judge 65536 (s.get R.STRX_ENTRY3_DUP_WIN n) p.seq.toNat (p.ts.toNat % 65536)
    let t := (s.setRx n j.2).dupCount n j.1
    if j.1 ≠ .accept then t
    else
      let s0 := rtpS0 p.ts.toNat (s.get R.STRX_ENTRY5_TS_OFFSET n) (s.ingressNs p.port.val p.ns) (rateHz (s.get R.STRX_ENTRY3_RATE n)) +
        s.getI R.STRX_ENTRY4_PRES_OFFSET n
      t.acceptPacket n (s.ingress10 p.port.val p.ns) (s0, 0) p.seq.toNat 65536 (p.frames.map (fun f => f.map (fun w => fromPayload p.format w.toNat)))

/-- RTP_RX (R93): an RTP datagram is matched, de-duplicated, placed and written. DESIGN CHOICE (log entry 119): one that SSRC_CHK refuses counts in
RTP_SSRC_REJ_CNT alone; the spec does not say that it counts in RTP_RX_UNMATCHED_CNT too. -/
def execRtpRx (p : RtpPacket) (s : State) : Ans := .next <|
  if !s.netUp || !s.flag R.RTP_CTRL_EN then s
  else if p.version ≠ 2 then s.bump R.RTP_HDR_ERR_CNT
  else match s.rtpEntry p true with
    | some n => if s.rxOpen n then s.rtpPacket n p else s
    | none => if (s.rtpEntry p false).isSome then s.bump R.RTP_SSRC_REJ_CNT else s.bump R.RTP_RX_UNMATCHED_CNT

/-- RTCP_RX (R87): a received RTCP packet is counted and ignored. -/
def execRtcpRx (s : State) : Ans := .next <| if s.netUp && s.flag R.RTP_CTRL_EN then s.bump R.RTP_RTCP_CNT else s

/-! ### CRF (R86) -/

/-- The lock of CRF stream k changes: sticky change bit and EV_CRF_LOCK (R86). -/
def State.crfLock (s : State) (k : Nat) (on : Bool) : State :=
  if s.bit R.AVTP_CRF_STATUS_LOCK k = on then s
  else ((s.putBit R.AVTP_CRF_STATUS_LOCK k on).putBit R.AVTP_CRF_STATUS_LOCK_CHG k true).raise EV_CRF_LOCK

/-- The hidden state of a Plumb slot. -/
def State.ref (s : State) (n : Nat) : RefHid := Sparse.get RefHid.init s.plumb.refs n

/-- The hidden state of a Plumb slot at x. -/
def State.setRef (s : State) (n : Nat) (x : RefHid) : State :=
  { s with plumb := { s.plumb with refs := Sparse.put RefHid.init s.plumb.refs n x } }

/-- A source brings a new offset to every slot that names it (R177). -/
def State.refOffer (s : State) (src : Nat) (offset : Int) : State :=
  s.each 8 (fun t n => if t.get R.REF_CFG_SOURCE n = src then t.setRef n { t.ref n with fresh := some offset } else t)

/-- One timestamp of a CRF stream: locked at the 16th consecutive one that differs from its predecessor by
timestamp_interval / 48,000 s within ± AVTP_CRF_WIN, unlocked at the first outside (R86). Both sides are compared
times 3, where interval / 48,000 s is interval × 62,500 / 3 ns exactly. DEDUCED (log entry 101): the timestamp, which is PTP time, names a
boundary of the reference's period, so the reference's offset is PTP_OFFSET less the timestamp, wrapped (R175). -/
def State.crfStamp (s : State) (n interval ts : Nat) : State :=
  let k := s.get R.STRX_ENTRY3_CRF_INDEX n
  let x := s.rx n
  let ok := match x.crfLast with
    | none => false
    | some l =>
      let e : Int := 3 * ((ts : Int) - l) - (interval * 62500 : Nat)
      decide (e.natAbs ≤ 3 * s.get R.AVTP_CRF_WIN_NS)
  let run := if ok then min 16 (x.crfRun + 1) else 0
  let t := (s.setRx n { x with crfLast := some ts, crfRun := run, crfIv := interval }).put R.AVTP_CRF_TS_TS (ts % 2 ^ 32) k
  let t := t.refOffer (2 + k) (s.ptp.offset - ts)
  if run = 16 then t.crfLock k true
  else if !ok && x.crfLast.isSome then t.crfLock k false
  else t

/-- An accepted CRF PDU: its timestamps, and the entry's state (R86, R103). -/
def State.crfTake (s : State) (n : Nat) (p : CrfPdu) : State :=
  let t := p.stamps.foldl (fun t w => t.crfStamp n p.interval w.toNat) s
  ((t.bump R.STRX_STAT2_PKT_CNT n).setRx n { t.rx n with wrote := true, idle := 0 }).rxEnter n rxRunning

/-- CRF_RX (R86, R90, R98): a CRF PDU is matched and de-duplicated, and updates its stream's timestamps and lock state. -/
def execCrfRx (p : CrfPdu) (s : State) : Ans := .next <|
  if !s.netUp || !s.flag R.AVTP_CTRL_RX_EN then s
  else match s.avtpEntry p.sid.toNat with
    | none => s.bump R.AVTP_UNKNOWN_CNT
    | some n =>
      if !s.rxOpen n then s
      else if s.get R.STRX_ENTRY2_FORMAT n ≠ 7 || !p.audioSample || p.baseHz ≠ 48000 || !p.pullOne || p.interval = 0 then
        s.bump R.STRX_STAT7_FMT_ERR_CNT n
      else
        let j := (s.rx n).judge 256 (s.get R.STRX_ENTRY3_DUP_WIN n) p.seq.toNat ((p.stamps.headD 0).toNat % 65536)
        let t := (s.setRx n j.2).dupCount n j.1
        if j.1 = .accept then t.crfTake n p else t

/-! ### Starvation (R103) -/

/-- RX_STARVED (R103): STARVE_TICKS ticks have passed without a written packet, and a RUNNING entry becomes STARVED. -/
def execRxStarved (entry : Fin 512) (s : State) : Ans := .next <|
  if s.rxState entry.val = rxRunning ∧ s.get R.STRX_CTRL_STARVE_TICKS ≤ (s.rx entry.val).idle then
    s.rxEnter entry.val rxStarved
  else s

/-- The ticks without a written packet of every RUNNING entry, counted as a tick starts. -/
def State.rxIdleTick (s : State) : State :=
  { s with str := { s.str with rx := s.str.rx.map (fun e =>
      (e.1, if e.2.wrote then { e.2 with wrote := false, idle := 0 } else { e.2 with idle := e.2.idle + 1 })) } }

/-! ### What a tick reads (R95, R100 to R102) -/

/-- A receive entry's samples are heard: those of an entry behind a rate group are missing from the tick after the group's unlock (R248). -/
def State.rxHeard (s : State) (n : Nat) : Bool :=
  let g := s.get R.STRX_ENTRY3_ASRC_GROUP n
  s.get R.STRX_ENTRY3_RATE n == 0 || s.flag R.ASRC_GRP_STATUS_LOCK g || Sparse.get 0 s.serial.unlockAt g == s.tg + 1

/-- The mixer finds the sample of index x present. -/
def State.rxPresent (s : State) (n x : Nat) : Bool := s.rxHeard n && s.rxValid n x

/-- A RUNNING entry misses index x. -/
def State.rxMisses (s : State) (n x : Nat) : Bool := s.rxState n == rxRunning && !s.rxPresent n x

/-- Receive entries that own RX channels: enabled audio entries. -/
def State.audioEntries (s : State) : List Nat :=
  (List.range 512).filter (fun n => s.flag R.STRX_ENTRY2_ENABLE n && 1 ≤ s.get R.STRX_ENTRY2_FORMAT n &&
    s.get R.STRX_ENTRY2_FORMAT n ≤ 6 && 2 ≤ s.rxState n)

/-- The entry and its channel that carry network source c. -/
def State.entryOfChan (s : State) (c : Nat) : Option (Nat × Nat) :=
  (s.audioEntries.find? (fun n => decide (s.get R.STRX_ENTRY2_FIRST_CHAN n ≤ c) &&
    decide (c < s.get R.STRX_ENTRY2_FIRST_CHAN n + s.get R.STRX_ENTRY2_CHANNELS n))).map
    (fun n => (n, c - s.get R.STRX_ENTRY2_FIRST_CHAN n))

/-- The pair of channel c of an entry is muted in tick T by non-audio detection: the samples of a tick follow what stood before
that tick was examined (R102). -/
def State.rxPairMuted (s : State) (n c T : Nat) : Bool :=
  s.flag R.STRX_ENTRY2_NONAUDIO_EN n &&
  decide (0 < ((if T = (s.rx n).muteAt then (s.rx n).was else (s.rx n).mute)[c / 2]?).getD 0)

/-- Members of an alignment group among the RUNNING entries (R101). -/
def State.groupEntries (s : State) (g : Nat) : List Nat :=
  s.audioEntries.filter (fun n => s.get R.STRX_ENTRY2_ALIGN n == g && s.rxState n == rxRunning)

/-- JOINT_MUTE of a group (R101). -/
def State.joint (s : State) (g : Nat) : Bool :=
  if g < 32 then s.bit R.STRX_ALIGN_POLICY_LO_JOINT g else g < 64 && s.bit R.STRX_ALIGN_POLICY_HI_JOINT (g - 32)

/-- A ring sample as the mixer reads it on its fixed path (R24, R25): one that stream DMA was not permitted to write reads zero (R76). -/
def State.dmaRead (s : State) (a : Nat) : Int := if s.permits .sdma true a then s.sample a else 0

/-- The value of network source c at index x before alignment: zero where the entry does not run, the sample is missing
(R100), its pair is muted (R102), or it was not written (R76). -/
def State.netSample (s : State) (c x : Nat) : Int :=
  match s.entryOfChan c with
  | none => 0
  | some (n, k) =>
    if s.rxState n = rxRunning ∧ s.rxPresent n x ∧ !s.rxPairMuted n k (x / 8) then s.dmaRead (s.ringAddr n x k) else 0

/-- Preamble words of IEC 61937 at one index of a pair (R102). -/
def isPreamble (a b : Nat) : Bool := a / 2 ^ 16 == 0xF872 && b / 2 ^ 16 == 0x4E1F

/-- The mute count of a pair after index x was read: 4,096 present samples without a preamble end it (R102). -/
def muteAfter (count : Nat) (present pre : Bool) : Nat :=
  if !present then count else if pre then 4096 else count - 1

/-- Non-audio detection of one entry over the 8 indices of tick T, as the mixer has read them (R102). -/
def State.nonAudioEntry (s : State) (T n : Nat) : State :=
  if !s.flag R.STRX_ENTRY2_NONAUDIO_EN n || s.rxState n ≠ rxRunning then s
  else
    let old := s.rx n
    let pairs := s.get R.STRX_ENTRY2_CHANNELS n / 2
    let one (k : Nat) : Nat × Bool := (List.range 8).foldl (fun (a : Nat × Bool) j =>
      let x := 8 * T + j
      let v := s.rxPresent n x
      let pre := v && isPreamble (s.word (s.ringAddr n x (2 * k))) (s.word (s.ringAddr n x (2 * k + 1)))
      (muteAfter a.1 v pre, a.2 || pre)) ((old.mute[k]?).getD 0, false)
    let r := (List.range pairs).map one
    let mute := r.map (·.1)
    let t := s.setRx n { old with mute := if mute.all (· == 0) then [] else mute, was := old.mute, muteAt := T }
    let t := t.put R.STRX_STAT0_NONAUDIO (b2n (mute.any (fun m => decide (0 < m)))) n
    if r.any (fun e => e.2) then t.raise EV_NON_AUDIO_NET else t

/-- Missing samples of one entry at the read of tick T (R100). -/
def State.underrunEntry (s : State) (T n : Nat) : State :=
  if s.rxState n ≠ rxRunning then (if (s.rx n).missing then s.setRx n { s.rx n with missing := false } else s)
  else
    let miss := ((List.range 8).filter (fun j => !s.rxPresent n (8 * T + j))).length
    let x := s.rx n
    if miss = 0 then (if x.missing then s.setRx n { x with missing := false } else s)
    else
      let t := (s.setRx n { x with missing := true }).bump R.STRX_STAT5_UNDERRUN_CNT n
      let t := t.bumpBy R.STRX_STAT6_MISSING_SMP_CNT miss n
      if x.missing then t else t.raise EV_RX_UNDERRUN

/-- The valid byte of tick T cleared in every entry that holds a ring, once its last read is over (R95). -/
def State.clearValidTick (s : State) (T : Nat) : State :=
  s.audioEntries.foldl (fun t n => t.setByte (t.validAddr n (8 * T)) 0) s

end Sys2Proof.Machine
end

