-- ==== Sys2Proof/Machine/Serial.lean ====
section
/-! DEFINITION. Serial audio ports, the ASRC pool's groups and side information (R225 to R253), with the commands of that
family. -/

namespace Sys2Proof.Machine

/-! ### Ports -/

/-- The hidden state of a serial port. -/
def State.spPort (s : State) (p : Nat) : SpHid := Sparse.get SpHid.init s.serial.ports p

/-- The hidden state of a serial port at x. -/
def State.setSp (s : State) (p : Nat) (x : SpHid) : State :=
  { s with serial := { s.serial with ports := Sparse.put SpHid.init s.serial.ports p x } }

/-- The hidden state of a channel pair of a serial port. -/
def State.siPair (s : State) (p k : Nat) : SiPair := Sparse.get SiPair.init s.serial.pairs (p * 16 + k)

/-- The hidden state of a channel pair at x. -/
def State.setSi (s : State) (p k : Nat) (x : SiPair) : State :=
  { s with serial := { s.serial with pairs := Sparse.put SiPair.init s.serial.pairs (p * 16 + k) x } }

/-- MODE in force; EN = 0 behaves as MODE 0 (R473). -/
def State.spMode (s : State) (p : Nat) : Nat :=
  if s.get R.PG_CTRL_EN (0x28 + p) = 0 then 0 else s.get R.SP_CFG_MODE p

/-- Slots per frame (R225, R234). -/
def State.spSlots (s : State) (p : Nat) : Nat :=
  if s.spMode p = 1 ∨ s.spMode p = 2 then 2 else s.get R.SP_CFG_SLOTS p

/-- The port is a master at 48 kHz, which needs no rate group (R227). -/
def State.spDirect (s : State) (p : Nat) : Bool := s.flag R.SP_CFG_MASTER p && s.get R.SP_CFG_RATE p == 0

/-- The set slots of a mask below n, in ascending order: the port's channels (R234). -/
def maskSlots (mask n : Nat) : List Nat := (List.range (min n 32)).filter (fun k => bitAt mask k)

/-- Input channels of a port as slots (R234). -/
def State.rxSlotsOf (s : State) (p : Nat) : List Nat := maskSlots (s.get R.SP_RX_MASK_MASK p) (s.spSlots p)

/-- Output channels of a port as slots (R234). -/
def State.txSlotsOf (s : State) (p : Nat) : List Nat := maskSlots (s.get R.SP_TX_MASK_MASK p) (s.spSlots p)

/-- The CX5210 slot format is in use (R242). -/
def State.siOn (s : State) (p : Nat) : Bool := s.flag R.SI_CFG_SI_MODE p && s.get R.SP_CFG_SLOT_W p == 2

/-- PLL-M's outputs are gated. -/
def State.pllmGated (s : State) : Bool := s.flag R.PLL_STATUS_GATED 0

/-- A port's state by R231 and R247: what its mode, its clock, the admission pass and the device state make it. -/
def State.spWanted (s : State) (p : Nat) : Nat :=
  if s.spMode p = 0 then 0
  else if s.dev = .boot ∨ s.dev = .held ∨ s.dev = .sleep ∨ s.dev = .off then 1
  else if (s.spPort p).refused then 5
  else if (s.spPort p).clkLost then 4
  else if s.dev = .run then 3 else 2

/-- The state of a port follows; every entry into CLK_LOST is counted and raises EV_PORT_CLK_LOSS (R231). -/
def State.spRefresh (s : State) (p : Nat) : State :=
  let w := s.spWanted p
  if w = s.get R.SP_STATUS_STATE p then s
  else
    let t := s.put R.SP_STATUS_STATE w p
    let t := if w = 3 then t.setSp p { t.spPort p with txFrame := 0, undRun := false } else t
    if w = 4 then ((t.put R.SP_STATUS_CLK_LOSS 1 p).bump R.CLK_LOSS_CNT p).raise EV_PORT_CLK_LOSS else t

/-- Every port's state follows the device state. -/
def State.spRefreshAll (s : State) : State := s.each 8 State.spRefresh

/-! ### Rings (R232) -/

/-- The base of a port's ring. -/
def State.spRing (s : State) (p : Nat) : Nat := s.get R.SP_AREA_BASE_BASE * 4096 + p * 36864

/-- The address of an input sample. -/
def State.spInAddr (s : State) (p x k : Nat) : Nat := s.spRing p + (x % 128 * 32 + k) * 4

/-- The address of an output sample. -/
def State.spOutAddr (s : State) (p x k : Nat) : Nat := s.spRing p + 0x4000 + (x % 128 * 32 + k) * 4

/-- The address of the input valid word of an index. -/
def State.spInValid (s : State) (p x : Nat) : Nat := s.spRing p + 0x8000 + x % 128 * 4

/-- The address of the output valid word of an index. -/
def State.spOutValid (s : State) (p x : Nat) : Nat := s.spRing p + 0x8200 + x % 128 * 4

/-- An input slot of an index has its valid bit set. -/
def State.spValid (s : State) (p x k : Nat) : Bool := bitAt (s.word (s.spInValid p x)) k

/-- One input sample stored with its valid bit; a denied stream DMA access stores nothing (R76, R233). -/
def State.spStore (s : State) (p x k : Nat) (v : Int) : State :=
  if !s.permits .sdma true (s.spInAddr p x k) then s.denyRecord .sdma true (s.spInAddr p x k)
  else if !s.permits .sdma true (s.spInValid p x) then s.denyRecord .sdma true (s.spInValid p x)
  else
    let t := s.setWord (s.spInAddr p x k) (toTwos 32 v)
    t.setWord (t.spInValid p x) (setBit (t.word (t.spInValid p x)) k true)

/-- The ring of a port lies in shared memory; until a commit places the area there, no ring exists (R232). -/
def State.spPlaced (s : State) (p : Nat) : Bool := inSharedArea (s.spRing p) 36864

/-- One output sample stored by the mixer with its valid bit (R232, R235): its path is fixed, and no region applies (R24, R25). -/
def State.spOutStore (s : State) (p x k : Nat) (v : Int) : State :=
  let t := s.setWord (s.spOutAddr p x k) (toTwos 32 v)
  t.setWord (t.spOutValid p x) (setBit (t.word (t.spOutValid p x)) k true)

/-- A word that stream DMA reads: a denied read gives 0 and is recorded (R76). -/
def State.dmaTake (s : State) (a : Nat) : Nat × State :=
  if s.permits .sdma false a then (s.word a, s) else (0, s.denyRecord .sdma false a)

/-! ### Rate groups (R245 to R248) -/

/-- STRX_STAT0.ASRC_LOCK of an entry: it is enabled at another rate, and its group is locked (R114). -/
def State.asrcLockShow (s : State) (n : Nat) : State :=
  s.put R.STRX_STAT0_ASRC_LOCK (b2n (s.flag R.STRX_ENTRY2_ENABLE n && s.get R.STRX_ENTRY3_RATE n != 0 &&
    s.flag R.ASRC_GRP_STATUS_LOCK (s.get R.STRX_ENTRY3_ASRC_GROUP n))) n

/-- The lock of a rate group changes: lock bits, sticky change, EV_ASRC_UNLOCK at every entry into unlock (R248). -/
def State.asrcSet (s : State) (g : Nat) (on : Bool) : State :=
  if s.flag R.ASRC_GRP_STATUS_LOCK g = on then s
  else
    let t := (((s.put R.ASRC_GRP_STATUS_LOCK (b2n on) g).putBit R.ASRC_LOCK_LOCK g on).putBit R.ASRC_LOCK_CHG_CHG g true)
    let t := t.each 512 (fun u n =>
      if u.get R.STRX_ENTRY3_RATE n != 0 && u.get R.STRX_ENTRY3_ASRC_GROUP n == g then u.asrcLockShow n else u)
    let gone := { t with serial := { t.serial with unlockAt := Sparse.put 0 t.serial.unlockAt g (t.tg + 1) } }
    if on then t else (gone.bump R.ASRC_GRP_UNLOCK_CNT g).raise EV_ASRC_UNLOCK

/-- The fixed-ratio groups follow PLL-M's gate: locked whenever it is ungated (R248). -/
def State.asrcFixed (s : State) : State :=
  s.each 32 (fun t g =>
    if t.get R.ASRC_GRP_CFG_SRC g = 3 then
      (t.put R.ASRC_GRP_RATIO_RATIO (48000 * 2 ^ 28 / t.get R.ASRC_GRP_CFG_NOMINAL_HZ g) g).asrcSet g (!t.pllmGated)
    else if t.get R.ASRC_GRP_CFG_SRC g = 0 then t.asrcSet g false else t)

/-- A commit of the ASRC page (R246, R248): a group that then takes its ratio from another clock has measured none yet, and one whose measured
rate lies outside the window of a new NOMINAL_HZ leaves it; both unlock. -/
def State.asrcCommit (s old : State) : State :=
  (s.each 32 (fun t g =>
    let src := t.get R.ASRC_GRP_CFG_SRC g
    let nominal := t.get R.ASRC_GRP_CFG_NOMINAL_HZ g
    let moved := src != old.get R.ASRC_GRP_CFG_SRC g || (src == 1 && t.get R.ASRC_GRP_CFG_PORT g != old.get R.ASRC_GRP_CFG_PORT g)
    let ratio := t.get R.ASRC_GRP_RATIO_RATIO g
    let off := decide (48000 * 2 ^ 28 * 1000 < nominal * 999 * ratio) || decide (nominal * 1001 * ratio < 48000 * 2 ^ 28 * 1000)
    if src ≠ 1 ∧ src ≠ 2 then t
    else if moved then t.asrcSet g false
    else if nominal ≠ old.get R.ASRC_GRP_CFG_NOMINAL_HZ g ∧ off then (t.put R.ASRC_GRP_STATUS_RANGE_ERR 1 g).asrcSet g false
    else t)).asrcFixed

/-- Every group loses its lock (R216: PLL-M gates). -/
def State.asrcAllUnlock (s : State) : State := s.each 32 (fun t g => t.asrcSet g false)

/-- ASRC_LOCK (R248): a group with a tracked ratio has held its ratio within 0.1 ppm for 100 ms; it cannot lock while
PLL-M is gated or its input clock is lost. -/
def execAsrcLock (group : Fin 32) (ratio : Nat) (s : State) : Ans := .next <|
  let g := group.val
  let src := s.get R.ASRC_GRP_CFG_SRC g
  if !s.ticking || s.pllmGated || s.follows || !(src == 1 || src == 2) ||
      (src == 1 && (s.spPort (s.get R.ASRC_GRP_CFG_PORT g)).clkLost) then s
  else ((s.put R.ASRC_GRP_RATIO_RATIO ratio g).put R.ASRC_GRP_STATUS_RANGE_ERR 0 g).asrcSet g true

/-- ASRC_UNLOCK (R248): the input of a group with a tracked ratio leaves its window or its clock is lost. -/
def execAsrcUnlock (group : Fin 32) (rangeErr : Bool) (s : State) : Ans := .next <|
  let g := group.val
  if s.ticking && !s.follows && (s.get R.ASRC_GRP_CFG_SRC g == 1 || s.get R.ASRC_GRP_CFG_SRC g == 2) then
    (s.put R.ASRC_GRP_STATUS_RANGE_ERR (b2n rangeErr) g).asrcSet g false
  else s

/-- The rate group of a port gives samples now: a port without one always does. -/
def State.spLocked (s : State) (p : Nat) : Bool :=
  s.spDirect p || s.flag R.ASRC_GRP_STATUS_LOCK (s.get R.SP_CFG_ASRC_GROUP p)

/-- The mixer has a port's input samples: those of a rate group are missing from the tick after an unlock (R248). -/
def State.spHeard (s : State) (p : Nat) : Bool :=
  s.spLocked p || Sparse.get 0 s.serial.unlockAt (s.get R.SP_CFG_ASRC_GROUP p) == s.tg + 1

/-! ### Clock loss (R230) -/

/-- A port loses its clock. -/
def State.spLose (s : State) (p : Nat) : State :=
  if (s.spPort p).clkLost then s
  else ((s.setSp p { s.spPort p with clkLost := true, good := 0 }).put R.SP_STATUS_CLK_PRESENT 0 p).spRefresh p

/-- The groups that take their ratio from a port's frame clock unlock with it (R248). -/
def State.spGroupsLose (s : State) (p : Nat) : State :=
  s.each 32 (fun t g =>
    if t.get R.ASRC_GRP_CFG_SRC g = 1 ∧ t.get R.ASRC_GRP_CFG_PORT g = p ∧ !t.follows then t.asrcSet g false else t)

/-- SP_CLOCK_LOSS (R230): a slave port misses FSYNC for 2 periods or BCLK for 1 µs and enters CLK_LOST. -/
def execSpClockLoss (port : Fin 8) (s : State) : Ans := .next <|
  let p := port.val
  if s.ticking && s.spMode p != 0 && !s.flag R.SP_CFG_MASTER p then (s.spLose p).spGroupsLose p else s

/-- SP_CLOCK_RETURN (R230, R231): after 8 good frames a slave port, or once PLL-M is ungated a master port, leaves CLK_LOST
at its next frame boundary. -/
def execSpClockReturn (port : Fin 8) (s : State) : Ans := .next <|
  let p := port.val
  let x := s.spPort p
  if s.ticking && x.clkLost && (if s.flag R.SP_CFG_MASTER p then !s.pllmGated else decide (8 ≤ x.good)) then
    ((s.setSp p { x with clkLost := false, good := 0, tail := none }).put R.SP_STATUS_CLK_PRESENT (b2n (!s.flag R.SP_CFG_MASTER p)) p).spRefresh p
  else s

/-- PLL-M gates: every master port stops, once the frame in progress is complete (R216). -/
def State.spPllmGates (s : State) : State :=
  s.each 8 (fun t p =>
    if t.spMode p != 0 && t.flag R.SP_CFG_MASTER p then
      let st := t.get R.SP_STATUS_STATE p
      let u := t.spLose p
      if st == 2 || st == 3 then u.setSp p { u.spPort p with tail := some (u.sidx + 8) } else u
    else t)

/-- PLL-M ungates at a tick boundary: a 48 kHz master port has a frame boundary there and re-enters at once (R217); the
others re-enter by SP_CLOCK_RETURN. -/
def State.spPllmUngates (s : State) : State :=
  s.each 8 (fun t p =>
    if t.spDirect p then (t.setSp p { t.spPort p with clkLost := false, tail := none }).spRefresh p else t)

/-! ### Input frames (R228, R233, R239, R242 to R244) -/

/-- The masks (input, output) in force for a frame that began at a sample index (R236). -/
def State.spMasks (s : State) (p began : Nat) : Nat × Nat :=
  match ((s.spPort p).masks.filter (fun m => decide (began < m.2.2))).getLast? with
  | some m => (m.1, m.2.1)
  | none => (s.get R.SP_RX_MASK_MASK p, s.get R.SP_TX_MASK_MASK p)

/-- A frame that began at a sample index: the first one the new masks govern raises EV_MASK_COMMIT (R236). -/
def State.spGoverned (s : State) (p began : Nat) : State :=
  let x := s.spPort p
  match x.maskWait with
  | some gov => if gov ≤ began then (s.setSp p { x with maskWait := none }).raise EV_MASK_COMMIT else s
  | none => s

/-- Even parity over bits 31 to 4 of a CX5210 slot (R242). -/
def parityOk (w : Nat) : Bool := ((List.range 28).foldl (fun a k => a + b2n (bitAt w (k + 4))) 0) % 2 == 0

/-- A received slot in house format (R226, R242). -/
def State.slotSample (s : State) (p w : Nat) : Int :=
  if s.siOn p then signedOf 32 (w / 256 % 2 ^ 24 * 256)
  else
    let sw := slotBits (s.get R.SP_CFG_SLOT_W p)
    let ww := wordBits (s.get R.SP_CFG_WORD_W p)
    signedOf 32 (w % 2 ^ sw / 2 ^ (sw - ww) * 2 ^ (32 - ww))

/-- Parity and validity of a received slot on port channel c (R243): the sample that counts. -/
def State.siSlot (s : State) (p c w : Nat) : Int × State :=
  if !s.siOn p then (s.slotSample p w, s)
  else if !parityOk w then (0, s.bump R.SI_PARITY_CNT p)
  else
    let v := bitAt w 7
    let x := s.spPort p
    let was := x.vLast.contains c
    let t := if v && !was then ((s.setSp p { x with vLast := c :: x.vLast }).put R.SI_STATUS_VALIDITY 1 p).raise EV_VALIDITY
      else if !v && was then s.setSp p { x with vLast := x.vLast.filter (· != c) } else s
    (if v && !s.flag R.SI_CFG_VAL_POLICY p then 0 else s.slotSample p w, t)

/-- The collected blocks of a pair are complete: stored, and compared with the previous ones (R244). -/
def State.siStoreBlock (s : State) (p k : Nat) (x : SiPair) : State :=
  let i := p * 16 + k
  let same := (List.range 6).all (fun j =>
    s.get R.SI_CS_RXA_CS i j == x.csA / 2 ^ (32 * j) % 2 ^ 32 && s.get R.SI_CS_RXB_CS i j == x.csB / 2 ^ (32 * j) % 2 ^ 32)
  let t := s.each 6 (fun t j => (t.put R.SI_CS_RXA_CS (x.csA / 2 ^ (32 * j)) i j).put R.SI_CS_RXB_CS (x.csB / 2 ^ (32 * j)) i j)
  let t := t.setSi p k { x with done := true }
  if x.done && !same then (t.putBit R.SI_CS_CHG_CHG p true).raise EV_CSTATUS_CHANGE else t

/-- The channel-status bits of one frame of a pair (R244). -/
def State.siCollect (s : State) (p k a b : Nat) : State :=
  let x := s.siPair p k
  let start := bitAt a 3
  let t := if start && x.since.isSome && x.since != some 192 then s.bump R.SI_BLOCK_ERR_CNT p else s
  let n := if start then some 0 else x.since
  match n with
  | none => t
  | some n =>
    if 192 ≤ n then t.setSi p k { x with since := some 193 }
    else
      let base := if n = 0 then { x with csA := 0, csB := 0 } else x
      let y := { base with
        since := some (n + 1)
        csA := base.csA + b2n (bitAt a 5) * 2 ^ n
        csB := base.csB + b2n (bitAt b 5) * 2 ^ n }
      if n = 191 then (t.setSi p k y).siStoreBlock p k y else t.setSi p k y

/-- The pairs of a port's channels: (pair, first slot, second slot). -/
def chanPairs (slots : List Nat) : List (Nat × Nat × Nat) :=
  (List.range (slots.length / 2)).map (fun k => (k, (slots[2 * k]?).getD 0, (slots[2 * k + 1]?).getD 0))

/-- Side information of one frame (R244): the channel-status bits of every pair. -/
def State.siFrame (s : State) (p : Nat) (slots : List Nat) (ws : List Word) : State :=
  if !s.siOn p then s
  else (chanPairs slots).foldl (fun t x =>
    t.siCollect p x.1 ((ws[x.2.1]?).getD 0).toNat ((ws[x.2.2]?).getD 0).toNat) s

/-- The mute count of a pair at n, with its bit in SI_STATUS (R241). -/
def State.siMute (s : State) (p k n : Nat) : State :=
  (s.setSi p k { s.siPair p k with mute := n }).putBit R.SI_STATUS_NONAUDIO k (decide (0 < n)) p

/-- A pair is muted at index x: the samples of a tick follow what stood before that tick was examined (R102, R241), or behind a rate group,
where the port side is examined, before the present tick (R250). From the first governed frame of a mask commit that moves the pair its mute has ended. -/
def State.siMutedAt (s : State) (p k x : Nat) : Bool :=
  let m := s.siPair p k
  let tick := if s.spDirect p then x / 8 else s.tickNum
  decide (0 < (if tick = m.muteAt then m.was else m.mute)) && !(m.endAt.any (fun e => s.spDirect p && decide (e ≤ x)))

/-- The samples of a tick follow what stands for a pair now. -/
def State.siTick (s : State) (p k tick : Nat) : State :=
  let m := s.siPair p k
  if m.muteAt = tick then s else s.setSi p k { m with was := m.mute, muteAt := tick }

/-- The first governed frame of a mask commit, at index x or before, ends the mute of a pair that the commit moves and restarts its count (R241). -/
def State.siEnd (s : State) (p k x : Nat) : State :=
  if (s.siPair p k).endAt.any (fun e => decide (e ≤ x)) then (s.setSi p k { s.siPair p k with endAt := none }).siMute p k 0 else s

/-- The first governed frame of a mask commit on a port behind a rate group ends the mutes that it ends (R241); the house-side pair follows from
the next tick (R250). -/
def State.siEndAll (s : State) (p began : Nat) : State :=
  if s.spDirect p then s
  else s.each 16 (fun t k => if (t.siPair p k).endAt.isSome then (t.siTick p k t.tickNum).siEnd p k began else t)

/-- Non-audio detection of one index of a pair (R241): both samples are present, and they form a preamble. -/
def State.siDetect (s : State) (p k : Nat) (present pre : Bool) : State :=
  let t := s.siMute p k (muteAfter (s.siPair p k).mute present (present && pre))
  if present && pre then t.raise EV_NON_AUDIO_PORT else t

/-- Non-audio detection of one frame on the port side, where a slot whose parity failed is zero (R242, R250). -/
def State.siPortSide (s : State) (p : Nat) (f : SpFrame) (slots : List Nat) : State :=
  let word (k : Nat) : Nat :=
    let w := ((f.slots[k]?).getD 0).toNat
    if s.siOn p && !parityOk w then 0 else toTwos 32 (s.slotSample p w)
  (chanPairs slots).foldl (fun t x =>
    ((t.siTick p x.1 t.tickNum).siDetect p x.1 true (isPreamble (word x.2.1) (word x.2.2)))) s

/-- The preambles of a frame whose slots read zero for their V bit (R243, R250). -/
def State.siHidden (s : State) (p : Nat) (f : SpFrame) (slots : List Nat) : State :=
  if !s.siOn p || s.flag R.SI_CFG_VAL_POLICY p then s
  else
    let w (k : Nat) : Nat := ((f.slots[k]?).getD 0).toNat
    let ks := (chanPairs slots).filter (fun x => parityOk (w x.2.1) && parityOk (w x.2.2) && (bitAt (w x.2.1) 7 || bitAt (w x.2.2) 7) &&
      isPreamble (toTwos 32 (s.slotSample p (w x.2.1))) (toTwos 32 (s.slotSample p (w x.2.2))))
    { s with serial := { s.serial with pre := ks.map (fun x => (p, x.1, f.began)) ++ s.serial.pre } }

/-- A frame's set slots stored at its house index, or behind a locked rate group as converted samples from the capture
instant's index plus 32 on, each converted value free (R245, log entry 20); a standby takes the active's samples instead
(R389). -/
def State.spWrite (s : State) (p : Nat) (f : SpFrame) (slots : List Nat) : State :=
  if s.follows then s
  else if s.spDirect p then
    (slots.zipIdx).foldl (fun t k =>
      let r := t.siSlot p k.2 ((f.slots[k.1]?).getD 0).toNat
      r.2.spStore p f.began k.1 r.1) (s.siHidden p f slots)
  else
    let t := (slots.zipIdx).foldl (fun t k => (t.siSlot p k.2 ((f.slots[k.1]?).getD 0).toNat).2) s
    let t := if t.flag R.SI_CFG_NA_EN p then t.siPortSide p f slots else t
    if !t.spLocked p then t
    else t.each f.count (fun u n => slots.foldl (fun u k =>
      let d := u.draw
      d.2.spStore p (f.began + 32 + n) k (signedOf 32 d.1)) u)

/-- A frame that completes with 4 waiting is dropped whole (R239). -/
def State.spOverrun (s : State) (p : Nat) : State :=
  let x := s.spPort p
  let t := ((s.setSp p { x with ovrRun := true }).bump R.SP_OVERRUN_CNT p).put R.SP_STATUS_OVERRUN 1 p
  if x.ovrRun then t else t.raise EV_PORT_OVERRUN

/-- A frame kept or dropped whole by the overrun rule (R228, R239). -/
def State.spTake (s : State) (f : SpFrame) : State :=
  let p := f.port.val
  if 4 ≤ f.waiting then s.spOverrun p
  else
    let t := s.setSp p { s.spPort p with ovrRun := false }
    let slots := maskSlots (t.spMasks p f.began).1 (t.spSlots p)
    ((t.put R.SP_STATUS_CLK_PRESENT (b2n (!s.flag R.SP_CFG_MASTER p)) p).siFrame p slots f.slots).spWrite p f slots

/-- SP_FRAME_RX (R228): an input frame completes, and its enabled slots are written into the port ring at its house
index; a wrong length, an overrun, a lost clock or a stop leaves its samples missing (R230, R231, R239). A master port that PLL-M's gate stops
completes the frame in progress (R216). The first frame that a mask commit governs is reported, kept or not (R236). -/
def State.spFrameIn (s : State) (f : SpFrame) : State :=
  let p := f.port.val
  let st := s.get R.SP_STATUS_STATE p
  let slave := !s.flag R.SP_CFG_MASTER p
  let t := if 2 ≤ st && st ≤ 4 then s.put R.SP_RATE_MEAS_RATE f.rate p else s
  let t := if slave && 2 ≤ st && st ≤ 4 && !f.lengthOk then t.bump R.FRAME_ERR_CNT p else t
  if st = 4 then
    if slave then t.setSp p { t.spPort p with good := if f.lengthOk then (t.spPort p).good + 1 else 0 }
    else if (t.spPort p).tail.any (fun e => decide (f.began < e)) && decide ((t.spPort p).notBefore ≤ f.began) then
      (t.setSp p { t.spPort p with tail := none }).spTake f
    else t
  else if !(st == 2 || st == 3) || decide (f.began < (t.spPort p).notBefore) then t
  else
    let u := (t.spGoverned p f.began).siEndAll p f.began
    if slave && !f.lengthOk then u else u.spTake f

/-- SP_FRAME_RX (R228). -/
def execSpFrameRx (f : SpFrame) (s : State) : Ans := .next <| if s.ticking then s.spFrameIn f else s

/-! ### Output frames (R226, R235, R238, R242, R244) -/

/-- A sample as the bits of a slot (R226). -/
def State.slotWord (s : State) (p : Nat) (x : Int) : Nat :=
  let sw := slotBits (s.get R.SP_CFG_SLOT_W p)
  let ww := wordBits (s.get R.SP_CFG_WORD_W p)
  toTwos ww (satTo ww (roundShift x (32 - ww))) * 2 ^ (sw - ww)

/-- A CX5210 slot of channel c at block frame n (R242, R244). -/
def State.siWord (s : State) (p c n : Nat) (zero : Bool) (x : Int) : Nat :=
  let cs := bitAt (s.get R.SI_CS_TX_CS (p * 16 + c / 2) (n / 32)) (n % 32)
  let w := toTwos 24 (satTo 24 (roundShift (if zero then 0 else x) 8)) * 256 + b2n zero * 128 + b2n cs * 32
  w + b2n (!parityOk w) * 16 + b2n (n == 0) * 8

/-- The slots of an output frame: set slots carry their sample, the others are driven zero or left undriven (R235). -/
def State.spOutSlots (s : State) (p idx : Nat) (slots : List Nat) (zero : Bool) (vals : List Int) : List (Option Nat) :=
  let n := if s.spDirect p then idx % 192 else (s.spPort p).txFrame % 192
  (List.range (s.spSlots p)).map (fun k =>
    match slots.idxOf? k with
    | some c =>
      let x := (vals[c]?).getD 0
      some (if s.siOn p then s.siWord p c n zero x else s.slotWord p (if zero then 0 else x))
    | none => if s.flag R.SP_CFG_SDO_IDLE p then none else some 0)

/-- The values of the set slots of a house index, read by stream DMA (R24); behind a rate group each converted value is free (log entry 20). -/
def State.spOutVals (s : State) (p idx : Nat) (slots : List Nat) : List Int × State :=
  if s.spDirect p then slots.foldl (fun (a : List Int × State) k =>
    let d := a.2.dmaTake (s.spOutAddr p idx k)
    (a.1 ++ [signedOf 32 d.1], d.2)) ([], s)
  else slots.foldl (fun (a : List Int × State) _ => let d := a.2.draw; (a.1 ++ [signedOf 32 d.1], d.2)) ([], s)

/-- A zero frame for want of a sample (R238). -/
def State.spUnderrun (s : State) (p : Nat) : State :=
  let x := s.spPort p
  let t := ((s.setSp p { x with undRun := true }).bump R.SP_UNDERRUN_CNT p).put R.SP_STATUS_UNDERRUN 1 p
  if x.undRun then t else t.raise EV_PORT_UNDERRUN

/-- The sample index of media time at which the output frame of a house index begins (R228, R245). -/
def State.spBegin (s : State) (p idx : Nat) : Nat := idx + 8 * s.out + (if s.spDirect p then 0 else 32)

/-- SP_FRAME_TX_START (R238): an output frame starts; it goes out as zero when a sample is missing, in ZERO, while the
rate group is unlocked and on a seating or cold-starting unit (R395) or one just sealed (R402). The index's output valid bits clear after this last read. -/
def State.spFrameOut (s : State) (p idx : Nat) : State :=
  let st := s.get R.SP_STATUS_STATE p
  let began := s.spBegin p idx
  if !(st == 2 || st == 3) || decide (began < (s.spPort p).notBefore) then s
  else
    let g := s.spGoverned p began
    let slots := maskSlots (s.spMasks p began).2 (s.spSlots p)
    let v := g.dmaTake (s.spOutValid p idx)
    let t := v.2
    let missing := slots.any (fun k => !bitAt v.1 k)
    let quiet := s.role == .seating || s.role == .coldStart || s.settling
    let zero := st == 2 || quiet || missing || !s.spLocked p
    let t := if st = 3 && !quiet && s.spLocked p && missing then t.spUnderrun p else t.setSp p { t.spPort p with undRun := false }
    let r := if zero then ([], t) else t.spOutVals p idx slots
    let u := (r.2.send (.spFrame p (r.2.spOutSlots p idx slots zero r.1))).setWord (s.spOutValid p idx) 0
    if st = 3 then u.setSp p { u.spPort p with txFrame := (u.spPort p).txFrame + 1 } else u

/-- SP_FRAME_TX_START (R238). -/
def execSpFrameTxStart (port : Fin 8) (index : Nat) (s : State) : Ans := .next <|
  if s.ticking then s.spFrameOut port.val index else s

/-! ### What a tick reads from a port (R235, R240, R241) -/

/-- The input sample of port channel c at index x, through a mask, as the mixer reads it on its fixed path (R24, R25): zero where its valid bit is
clear, its port does not deliver, its group has lost its lock before this tick or its pair is muted. -/
def State.spSample (s : State) (mask p c x : Nat) : Int :=
  match (maskSlots mask (s.spSlots p))[c]? with
  | none => 0
  | some k =>
    let st := s.get R.SP_STATUS_STATE p
    if (2 ≤ st && st ≤ 4) && s.spHeard p && s.spValid p x k && !s.siMutedAt p (c / 2) x
    then s.sample (s.spInAddr p x k) else 0

/-- The port counts in its alignment group and for its missing counters: in RUN and in CLK_LOST (R240). -/
def State.spCounts (s : State) (p : Nat) : Bool := s.get R.SP_STATUS_STATE p == 3 || s.get R.SP_STATUS_STATE p == 4

/-- The RX slots set for index x: those of the mask that governed its frame (R236). -/
def State.spSlotsAt (s : State) (p x : Nat) : List Nat :=
  maskSlots (s.spMasks p (if s.spDirect p then x else x - 32)).1 (s.spSlots p)

/-- The port misses index x (R240). -/
def State.spMisses (s : State) (p x : Nat) : Bool :=
  s.spCounts p && (!s.spHeard p || (s.spSlotsAt p x).any (fun k => !s.spValid p x k)) && !(s.spSlotsAt p x).isEmpty

/-- Missing samples of a port at the read of tick T (R240). -/
def State.spMissTick (s : State) (T p : Nat) : State :=
  let miss := ((List.range 8).filter (fun j => s.spMisses p (8 * T + j))).length
  if miss = 0 then s else (s.bump R.MISSING_TICK_CNT p).bumpBy R.MISSING_SMP_CNT miss p

/-- Non-audio detection of a 48 kHz port over tick T (R241); behind a rate group it runs on the port side (R250). -/
def State.spNonAudio (s : State) (T p : Nat) : State :=
  if !s.spDirect p then s
  else
    let s := s.each 16 (fun t k => if (s.siPair p k).endAt.isSome then (t.siTick p k T).siEnd p k (8 * T) else t)
    if !s.flag R.SI_CFG_NA_EN p || !s.spCounts p then s
    else (chanPairs (s.spSlotsAt p (8 * T))).foldl (fun t x =>
      (t.siTick p x.1 T).each 8 (fun u j =>
        let i := 8 * T + j
        u.siDetect p x.1 (u.spValid p i x.2.1 && u.spValid p i x.2.2)
          (isPreamble (u.word (u.spInAddr p i x.2.1)) (u.word (u.spInAddr p i x.2.2)) || u.serial.pre.contains (p, x.1, i)))) s

/-- The valid words of each index cleared once its last read is over (R232), at the start of a tick: input indices of tick T, which the mixer has
read in every pass, and output indices whose frames began in the tick before, behind a rate group 32 indices later (R245). -/
def State.spClearTick (s : State) (T : Nat) : State :=
  let t := s.each 8 (fun t p =>
    if !t.spPlaced p then t
    else t.each 8 (fun u j =>
      let back := 8 * (s.out + 1) + (if t.spDirect p then 0 else 32)
      let v := u.setWord (u.spInValid p (8 * T + j)) 0
      if s.sidx < back then v else v.setWord (v.spOutValid p (s.sidx - back + j)) 0))
  { t with serial := { t.serial with pre := t.serial.pre.filter (fun e => decide (8 * T + 8 ≤ e.2.2)) } }

/-! ### Commits (R229, R231, R236, R242) -/

/-- SP_CFG fields whose change stops a port (R231). -/
def spStopFields : List Fld :=
  [R.SP_CFG_MODE, R.SP_CFG_MASTER, R.SP_CFG_BCLK_INV, R.SP_CFG_FS_INV, R.SP_CFG_FS_DELAY, R.SP_CFG_SLOTS, R.SP_CFG_SLOT_W,
   R.SP_CFG_WORD_W, R.SP_CFG_RATE, R.SP_CFG_SDO_IDLE]

/-- A port after a commit that takes effect at the start of the present tick; `old` is the state before it. A new format starts at the first
frame boundary after that instant (R231): a master port, which may have a boundary at the instant itself, at the next one. -/
def State.spCommit (s old : State) (p : Nat) : State :=
  let fmt := spStopFields.any (fun f => s.get f p != old.get f p) ||
    s.get R.PG_CTRL_EN (0x28 + p) != old.get R.PG_CTRL_EN (0x28 + p)
  let masks := s.get R.SP_RX_MASK_MASK p != old.get R.SP_RX_MASK_MASK p || s.get R.SP_TX_MASK_MASK p != old.get R.SP_TX_MASK_MASK p
  let x := s.spPort p
  let x := if fmt then
      { x with notBefore := if s.flag R.SP_CFG_MASTER p then s.sidx + 1 else s.sidx, undRun := false, ovrRun := false, tail := none } else x
  let x := if fmt && s.flag R.SP_CFG_MASTER p then { x with clkLost := s.pllmGated } else x
  let x := if masks then
      { x with
        masks := (old.get R.SP_RX_MASK_MASK p, old.get R.SP_TX_MASK_MASK p, s.sidx) :: x.masks.filter (fun m => decide (s.sidx < m.2.2 + 128))
        maskWait := some s.sidx } else x
  let t := s.setSp p x
  let moved := (chanPairs (t.rxSlotsOf p)) != (chanPairs (old.rxSlotsOf p))
  let t := if masks && moved then t.each 16 (fun u k =>
      if ((chanPairs (u.rxSlotsOf p))[k]?) == ((chanPairs (old.rxSlotsOf p))[k]?) then u
      else if s.dev == .run then u.setSi p k { u.siPair p k with endAt := some s.sidx }
      else u.siMute p k 0) else t
  let t := if t.flag R.SI_CFG_NA_EN p then t else t.each 16 (fun u k => if (u.siPair p k).mute = 0 then u else u.siMute p k 0)
  let t := (t.put R.SP_STATUS_RX_CH (t.rxSlotsOf p).length p).put R.SP_STATUS_TX_CH (t.txSlotsOf p).length p
  (t.put R.SI_STATUS_MODE_IGNORED (b2n (t.flag R.SI_CFG_SI_MODE p && t.get R.SP_CFG_SLOT_W p != 2)) p).spRefresh p

/-- An epoch set steps the sample index, and each port keeps its frame phase (R250): what it holds by index steps with it, and its rings are
empty. -/
def State.spEpoch (s : State) (by8 : Int) : State :=
  let move (n : Nat) : Nat := ((n : Int) + by8).toNat
  let t := { s with serial := { s.serial with pre := [] } }
  let t := t.each 8 (fun u p =>
    let x := u.spPort p
    u.setSp p { x with
      masks := x.masks.map (fun m => (m.1, m.2.1, move m.2.2)), maskWait := x.maskWait.map move, notBefore := move x.notBefore
      tail := x.tail.map move })
  { t with serial := { t.serial with pairs := t.serial.pairs.map (fun e => (e.1, { e.2 with endAt := e.2.endAt.map move })) } }

/-- Every port after a commit. -/
def State.spCommitAll (s old : State) : State := s.each 8 (fun t p => t.spCommit old p)

end Sys2Proof.Machine
end

