-- ==== Sys2Proof/Machine/Admission.lean ====
section
/-! DEFINITION. The admission pass and ring placement (R94, R110 to R113, R246, R247), and transmission (R84, R86, R104
to R109). -/

namespace Sys2Proof.Machine

/-! ### The admission pass -/

/-- What a pass has given away: pool channels in all and by group, ring bytes, receive channels, and bit/s by port and
class (index 2 × port + class). -/
structure Pass where
  asrc  : Nat
  group : List Nat
  ring  : Nat
  chans : Nat
  bw    : List Nat
deriving DecidableEq, Repr

/-- Nothing given away. -/
def Pass.init : Pass := ⟨0, List.replicate 32 0, 0, 0, List.replicate 16 0⟩

/-- A list with n added at place k. -/
def addAt (l : List Nat) (k n : Nat) : List Nat := l.modify k (· + n)

/-- A port behind a rate group is admitted: its group has the source and rate it needs, and its channels fit (R246,
R247). -/
def State.spFits (s : State) (p : Nat) (a : Pass) : Bool :=
  let g := s.get R.SP_CFG_ASRC_GROUP p
  (if s.flag R.SP_CFG_MASTER p then
    s.get R.ASRC_GRP_CFG_SRC g == 3 && s.get R.ASRC_GRP_CFG_NOMINAL_HZ g == masterHz (s.get R.SP_CFG_RATE p)
  else s.get R.ASRC_GRP_CFG_SRC g == 1) &&
  decide (a.asrc + (s.rxSlotsOf p).length + (s.txSlotsOf p).length ≤ 256)

/-- A serial port in the pass (R247): one that finds room again starts at its next frame boundary. -/
def State.passPort (x : Pass × State) (p : Nat) : Pass × State :=
  let s := x.2
  let g := s.get R.SP_CFG_ASRC_GROUP p
  let taken := s.setSp p { s.spPort p with
    refused := false, notBefore := if (s.spPort p).refused then s.sidx else (s.spPort p).notBefore }
  if s.spMode p = 0 ∨ s.spDirect p then (x.1, taken.put R.SP_STATUS_ASRC_SHORT 0 p)
  else if s.spFits p x.1 then
    let n := (s.rxSlotsOf p).length + (s.txSlotsOf p).length
    ({ x.1 with asrc := x.1.asrc + n, group := addAt x.1.group g n },
      taken.put R.SP_STATUS_ASRC_SHORT 0 p)
  else
    let t := (s.setSp p { s.spPort p with refused := true }).put R.SP_STATUS_ASRC_SHORT 1 p
    (x.1, if (s.spPort p).refused then t else t.raise EV_ASRC_UNLOCK)

/-- The refusal reason of a receive entry, 0 if it is admitted (R110, R111, R246). -/
def State.rxReason (s : State) (a : Pass) (n : Nat) : Nat :=
  let g := s.get R.STRX_ENTRY3_ASRC_GROUP n
  let ch := s.get R.STRX_ENTRY2_CHANNELS n
  if s.get R.STRX_RING_SIZE_PAGES * 4096 < a.ring + s.ringSize n then 2
  else if s.get R.STRX_ENTRY3_RATE n ≠ 0 ∧
      (s.get R.ASRC_GRP_CFG_SRC g ≠ 2 ∨ s.get R.ASRC_GRP_CFG_NOMINAL_HZ g ≠ rateHz (s.get R.STRX_ENTRY3_RATE n) ∨
        256 < a.asrc + ch) then 3
  else 0

/-- A refusal of a receive entry recorded (R110). -/
def State.rxRefuse (s : State) (n reason : Nat) : State :=
  let t := (((s.put R.STRX_STAT0_STATE rxRefused n).put R.STRX_STAT0_REASON reason n).put R.STRX_STAT0_NONAUDIO 0 n).put
    R.STRX_STAT1_RING_ADDR 0 n
  (((t.put R.STRX_ADMIT_STATUS_ENTRY n).put R.STRX_ADMIT_STATUS_REASON reason).put R.STRX_ADMIT_STATUS_VALID 1).raise EV_RX_STATE

/-- The fields of a receive entry whose change puts it into LISTENING (R103). -/
def listenFields : List Fld :=
  [R.STRX_ENTRY0_SID_LO, R.STRX_ENTRY1_SID_HI, R.STRX_ENTRY2_FORMAT, R.STRX_ENTRY2_CHANNELS, R.STRX_ENTRY2_FIRST_CHAN,
   R.STRX_ENTRY3_DEPTH, R.STRX_ENTRY3_RATE, R.STRX_ENTRY4_PRES_OFFSET]

/-- Non-audio detection is off for an entry: none of its pairs is muted (R102). -/
def State.nonAudioOff (s : State) (n : Nat) : State :=
  if s.flag R.STRX_ENTRY2_NONAUDIO_EN n then s
  else (s.setRx n { s.rx n with mute := [], was := [] }).put R.STRX_STAT0_NONAUDIO 0 n

/-- A receive entry in the pass: the admitted ones are listed. -/
def State.passRx (x : (Pass × List Nat) × State) (n : Nat) : (Pass × List Nat) × State :=
  let s := x.2
  let a := x.1.1
  if !s.flag R.STRX_ENTRY2_ENABLE n then
    (x.1, if s.rxState n = rxOff then s else (((s.rxEnter n rxOff).put R.STRX_STAT0_REASON 0 n).put R.STRX_STAT0_NONAUDIO 0 n).put
      R.STRX_STAT1_RING_ADDR 0 n)
  else
    let r := s.rxReason a n
    if r ≠ 0 then (x.1, s.rxRefuse n r)
    else
      let ch := s.get R.STRX_ENTRY2_CHANNELS n
      let a := { a with ring := a.ring + s.ringSize n, chans := a.chans + ch }
      let a := if s.get R.STRX_ENTRY3_RATE n = 0 then a
        else { a with asrc := a.asrc + ch, group := addAt a.group (s.get R.STRX_ENTRY3_ASRC_GROUP n) ch }
      ((a, x.1.2 ++ [n]), (s.put R.STRX_STAT0_REASON 0 n).nonAudioOff n)

/-- Rings do not overlap: (address, size) against a placed one. -/
def ringFree (placed : List (Nat × Nat × Nat)) (a size : Nat) : Bool :=
  placed.all (fun r => decide (a + size ≤ r.2.1) || decide (r.2.1 + r.2.2 ≤ a))

/-- The lowest place for a ring among placed ones (R94): the area's base, or the end of a placed ring, all aligned to 64. -/
def ringSpot (placed : List (Nat × Nat × Nat)) (base limit size : Nat) : Option Nat :=
  let cands := (base :: placed.map (fun r => r.2.1 + r.2.2)).filter (fun a => decide (a + size ≤ limit) && ringFree placed a size)
  cands.foldl (fun (m : Option Nat) a => match m with | none => some a | some b => some (min a b)) none

/-- Entries still without a ring, placed one after another; none where one has no room. -/
def placeRings (base limit : Nat) : List (Nat × Nat) → List (Nat × Nat × Nat) → Option (List (Nat × Nat × Nat))
  | [], placed => some placed
  | (n, size) :: rest, placed =>
    match ringSpot placed base limit size with
    | none => none
    | some a => placeRings base limit rest ((n, a, size) :: placed)

/-- Every ring packed from the base upwards. -/
def packRings (a : Nat) : List (Nat × Nat) → List (Nat × Nat × Nat)
  | [] => []
  | (n, size) :: rest => (n, a, size) :: packRings (a + size) rest

/-- The rings of the admitted entries (R94): kept where the ring (its CHANNELS and DEPTH) is unchanged and its ring still lies in the area, else
placed, else every ring packed. `old` is the state before the change. -/
def State.ringPlan (s old : State) (admitted : List Nat) : List (Nat × Nat × Nat) :=
  let base := s.get R.STRX_RING_BASE_BASE * 4096
  let limit := base + s.get R.STRX_RING_SIZE_PAGES * 4096
  let keep (n : Nat) : Bool :=
    2 ≤ old.rxState n && s.rxSlots n == old.rxSlots n && s.get R.STRX_ENTRY2_CHANNELS n == old.get R.STRX_ENTRY2_CHANNELS n &&
    base ≤ s.get R.STRX_STAT1_RING_ADDR n && s.get R.STRX_STAT1_RING_ADDR n + s.ringSize n ≤ limit
  let kept := (admitted.filter keep).map (fun n => (n, s.get R.STRX_STAT1_RING_ADDR n, s.ringSize n))
  let rest := (admitted.filter (fun n => !keep n)).map (fun n => (n, s.ringSize n))
  match placeRings base limit rest kept with
  | some l => l
  | none => packRings base (admitted.map (fun n => (n, s.ringSize n)))

/-- An admitted entry takes its ring; it enters LISTENING if it was not admitted, if its ring moves, or if a field of
R103 changed. -/
def State.ringTake (s old : State) (r : Nat × Nat × Nat) : State :=
  let n := r.1
  let moved := s.get R.STRX_STAT1_RING_ADDR n != r.2.1
  let t := s.put R.STRX_STAT1_RING_ADDR r.2.1 n
  if old.rxState n < 2 || moved || listenFields.any (fun f => t.get f n != old.get f n) then t.rxEnter n rxListening else t

/-- Frame bytes on the wire of a transmit entry (R112). -/
def State.txWire (s : State) (n : Nat) : Nat :=
  let f := s.get R.STTX_ENTRY4_FORMAT n
  max 84 ((if f = 5 ∨ f = 6 then 82 else 66) + s.get R.STTX_ENTRY4_CHANNELS n * s.get R.STTX_ENTRY4_SPP n * fmtBytes f)

/-- Bandwidth of a transmit entry in bit/s (R112); a CRF entry has no figure there and counts nothing. -/
def State.txBps (s : State) (n : Nat) : Nat :=
  if s.get R.STTX_ENTRY4_FORMAT n = 7 then 0 else s.txWire n * 384000 / s.get R.STTX_ENTRY4_SPP n

/-- MIN of R107. -/
def State.txMin (s : State) (n : Nat) : Nat := s.get R.STTX_ENTRY4_SPP n + 8 * (s.out + s.lead)

/-- The effective reservation of a class (0 A, 1 B) on a port in bit/s (R158). -/
def State.effBps (s : State) (p cls : Nat) : Nat :=
  (if cls = 0 then s.get R.TSN_EFF_A_KBPS p else s.get R.TSN_EFF_B_KBPS p) * 1000

/-- The refusal of a transmit entry: reason and port, reason 0 if it is admitted (R112). -/
def State.txReason (s : State) (a : Pass) (n : Nat) : Nat × Nat :=
  let f := s.get R.STTX_ENTRY4_FORMAT n
  let cls := s.get R.STTX_ENTRY3_CLASS n
  if 1535 < s.get R.STTX_ENTRY4_FIRST_CHAN n + s.get R.STTX_ENTRY4_CHANNELS n - 1 then (3, 0)
  else if (f ≤ 4 || f == 7) && decide (s.get R.STTX_ENTRY5_PRES_OFFSET n < s.txMin n) then (4, 0)
  else match (List.range 8).find? (fun p => s.bit R.STTX_ENTRY5_EGRESS p n && s.link p &&
      decide (s.effBps p cls < (a.bw[2 * p + cls]?).getD 0 + s.txBps n)) with
    | some p => (2, p)
    | none => (0, 0)

/-- A refusal of a transmit entry recorded (R110). -/
def State.txRefuse (s : State) (n : Nat) (r : Nat × Nat) : State :=
  let t := (s.put R.STTX_STAT0_STATE 1 n).put R.STTX_STAT0_REASON r.1 n
  ((((t.put R.TX_ADMIT_STATUS_ENTRY n).put R.TX_ADMIT_STATUS_REASON r.1).put R.TX_ADMIT_STATUS_PORT r.2).put
    R.TX_ADMIT_STATUS_VALID 1).raise EV_TX_ADMIT_REFUSED

/-- What an admitted transmit entry does in the present state and role (R108, R109); streams stop with SYS_STOP (R430). -/
def State.txRole (s : State) (n : Nat) : Nat :=
  if !s.runs then 2
  else if s.role = .solo ∨ s.role = .active then 3
  else if s.role = .inStep then (if s.flag R.STTX_ENTRY4_PAIR_MODE n then 4 else 3)
  else 2

/-- A transmit entry that begins to send does so at the next packet boundary: no packet holds an earlier index (R113), nor, on a unit
that the seal has put in step, one that leaves before the second tick after it (R402). -/
def State.txBegin (s : State) (n : Nat) : State :=
  let wait := (s.brace.sealAt.map (fun x => x + 2 - s.tg)).getD 0
  { s with str := { s.str with txFrom := Sparse.put 0 s.str.txFrom n (8 * (s.tickNum + wait - s.out)) } }

/-- An admitted transmit entry takes the state that the device state and the role give it (R108, R109). -/
def State.txTakeRole (s : State) (n : Nat) : State :=
  let t := s.put R.STTX_STAT0_STATE (s.txRole n) n
  t.when (decide (s.get R.STTX_STAT0_STATE n < 3)) (fun u => u.txBegin n)

/-- A transmit entry in the pass. -/
def State.passTx (x : Pass × State) (n : Nat) : Pass × State :=
  let s := x.2
  if !s.flag R.STTX_ENTRY4_ENABLE n then
    (x.1, if s.get R.STTX_STAT0_STATE n = 0 then s else (s.put R.STTX_STAT0_STATE 0 n).put R.STTX_STAT0_REASON 0 n)
  else
    let r := s.txReason x.1 n
    if r.1 ≠ 0 then (x.1, s.txRefuse n r)
    else
      let bw := (List.range 8).foldl (fun l p =>
        if s.bit R.STTX_ENTRY5_EGRESS p n then addAt l (2 * p + s.get R.STTX_ENTRY3_CLASS n) (s.txBps n) else l) x.1.bw
      ({ x.1 with bw := bw }, (s.txTakeRole n).put R.STTX_STAT0_REASON 0 n)

/-- The serial ports of an admission pass, in rising order. -/
def State.passPorts (s : State) : Pass × State := (List.range 8).foldl State.passPort (Pass.init, s)

/-- The receive entries of an admission pass, in rising order. -/
def State.passRxAll (x : Pass × State) : (Pass × List Nat) × State := (List.range 512).foldl State.passRx ((x.1, []), x.2)

/-- The transmit entries of an admission pass, in rising order. -/
def State.passTxAll (x : (Pass × List Nat) × State) : Pass × State := (List.range 512).foldl State.passTx (x.1.1, x.2)

/-- The admission pass (R110, R247): serial ports, then receive entries, then transmit entries, then the rings. `old` is
the state before the change that starts the pass. -/
def State.admission (s old : State) : State :=
  let a := s.passPorts
  let b := State.passRxAll a
  let c := State.passTxAll b
  let plan := c.2.ringPlan old b.1.2
  let t := plan.foldl (fun t r => t.ringTake old r) c.2
  let t := (t.put R.STRX_USAGE_CHANNELS c.1.chans).put R.STRX_USAGE_RING_PAGES ((c.1.ring + 4095) / 4096)
  let t := t.put R.ASRC_USAGE_CHANNELS c.1.asrc
  let t := (t.each 512 (fun u n => if u.get R.STRX_ENTRY3_RATE n = 0 ∧ !u.flag R.STRX_STAT0_ASRC_LOCK n then u else u.asrcLockShow n))
  let t := t.each 32 (fun u g => u.put R.ASRC_GRP_STATUS_CHANNELS ((c.1.group[g]?).getD 0) g)
  let t := t.each 8 (fun u p => (u.put R.STTX_BW_A_KBPS ((((c.1.bw[2 * p]?).getD 0) + 999) / 1000) p).put R.STTX_BW_B_KBPS
    ((((c.1.bw[2 * p + 1]?).getD 0) + 999) / 1000) p)
  { t with str := { t.str with passDue := false } }.spRefreshAll

/-- The transmit entries follow the device state and role (R108, R109). -/
def State.txStates (s : State) : State :=
  s.each 512 (fun t n => if 2 ≤ t.get R.STTX_STAT0_STATE n then t.txTakeRole n else t)

/-! ### Transmission (R84 to R86, R104 to R108) -/

/-- The sample of a TX channel at an index, as the mixer left it. -/
def State.txSample (s : State) (c x : Nat) : Int := Sparse.get 0 s.str.txHist (c * 64 + x % 64)

/-- A sample of a TX channel at an index. -/
def State.setTxSample (s : State) (c x : Nat) (v : Int) : State :=
  { s with str := { s.str with txHist := Sparse.put 0 s.str.txHist (c * 64 + x % 64) v } }

/-- The media time of a sample index plus an offset in ns, rounded to nearest (R105). -/
def idxNs (x : Nat) : Nat := (x * 125000 + 3) / 6

/-- First indices of the packets of a length W whose last sample lies in tick T (R104, R106). -/
def packetStarts (w T : Nat) : List Nat :=
  if w = 0 then [] else
  ((List.range 8).filterMap (fun j =>
    let last := 8 * T + j
    if (last + 1) % w = 0 ∧ w ≤ last + 1 then some (last + 1 - w) else none))

/-- A stream packet handed to the egress queues of a port mask, `w` giving what each port sends: whether some port took it, and how many
could not (R106). -/
def State.handOver (s : State) (mask tc len : Nat) (w : Nat → Wire) : Bool × Nat × State :=
  let f := s.newFid
  (portsOf mask).foldl (fun (a : Bool × Nat × State) p =>
    let r := a.2.2.enqueue ⟨f.1, p, tc, len, 8, false, w p⟩
    (a.1 || r.1, a.2.1 + (if r.1 then 0 else 1), r.2)) (false, 0, f.2)

/-- The pair's talker address (R379). -/
def State.talkerMac (s : State) : Nat := s.get R.BRACE_TALKER_MAC_LO_MAC + s.get R.BRACE_TALKER_MAC_HI_MAC * 2 ^ 32

/-- The Ethernet header of a stream packet on a port (R87, R112, R115, R379): every one is tagged with the entry's VID and PCP, VID 0 giving a
priority tag; an RTP packet goes to the group's address, any other to the entry's. -/
def State.streamHead (s : State) (n p : Nat) : EthHead :=
  let f := s.get R.STTX_ENTRY4_FORMAT n
  ⟨if f = 5 ∨ f = 6 then ipGroupMac (s.get R.STTX_ENTRY1_SID_HI n) else s.get R.STTX_ENTRY2_MAC_LO n + s.get R.STTX_ENTRY3_MAC_HI n * 2 ^ 32,
   if s.paired then s.talkerMac else s.portMac p,
   some (s.get R.STTX_ENTRY3_VID n, s.get R.STTX_ENTRY3_PCP n)⟩

/-- The sum of bytes as 16-bit words in network order. -/
def sum16 : List Byte → Nat
  | [] => 0
  | [a] => a.toNat * 256
  | a :: b :: rest => a.toNat * 256 + b.toNat + sum16 rest

/-- The UDP checksum over IPv4 of a datagram (R87): the complement of the one's-complement sum of pseudo-header, header and data, sent as
0xFFFF where it is 0. -/
def udpSum (src dst sport dport : Nat) (data : List Byte) : Nat :=
  let len := 8 + data.length
  let x := src / 65536 + src % 65536 + dst / 65536 + dst % 65536 + 17 + len + sport + dport + len + sum16 data
  let c := 65535 - (if x % 65535 = 0 then 65535 else x % 65535)
  if c = 0 then 65535 else c

/-- An RTP packet as bytes: version 2, neither padding nor extension nor CSRC nor marker (R87). -/
def rtpBytes (seq ts ssrc pt bps : Nat) (pay : List (List Nat)) : List Byte :=
  [0x80#8, BitVec.ofNat 8 pt] ++ beBytes 2 seq ++ beBytes 4 ts ++ beBytes 4 ssrc ++ pay.flatMap (fun l => l.flatMap (beBytes bps))

/-- The IP and UDP headers of an RTP packet (R87, R90, R117, R379). -/
def State.rtpHead (s : State) (n : Nat) (data : List Byte) : IpHead :=
  let src := if s.paired then s.get R.BRACE_TALKER_IP_ADDR else s.get R.RTP_IPADDR_ADDR
  let dst := s.get R.STTX_ENTRY1_SID_HI n
  let sport := s.get R.STTX_ENTRY0_SID_LO n % 2 ^ 16
  let dport := s.get R.STTX_ENTRY0_SID_LO n / 2 ^ 16
  ⟨s.get R.RTP_IFMASK_TTL, s.get R.STTX_ENTRY7_DSCP n, src, dst, sport, dport, udpSum src dst sport dport data⟩

/-- The AAF header of a transmit entry's packet (R84, R104, R105). -/
def State.aafHead (s : State) (n s0 : Nat) : AafHead where
  sid := s.get R.STTX_ENTRY0_SID_LO n + s.get R.STTX_ENTRY1_SID_HI n * 2 ^ 32
  seq := s0 / s.get R.STTX_ENTRY4_SPP n % 256
  ts := idxNs (s0 + s.get R.STTX_ENTRY5_PRES_OFFSET n) % 2 ^ 32
  sv := true
  tv := true
  tu := !s.flag R.TICK_STATUS_EPOCH_VALID
  mr := s.str.txMr
  sp := false
  nsr := 48000
  bitDepth := 8 * fmtBytes (s.get R.STTX_ENTRY4_FORMAT n)
  format := s.get R.STTX_ENTRY4_FORMAT n

/-- The packet of a transmit entry whose first index is s0 (R84, R85, R87, R104, R105), as each port sends it. -/
def State.txPacket (s : State) (n s0 : Nat) : Nat × (Nat → Wire) :=
  let f := s.get R.STTX_ENTRY4_FORMAT n
  let w := s.get R.STTX_ENTRY4_SPP n
  let first := s.get R.STTX_ENTRY4_FIRST_CHAN n
  let pay := (List.range w).map (fun k =>
    (List.range (s.get R.STTX_ENTRY4_CHANNELS n)).map (fun c => toPayload f (s.txSample (first + c) (s0 + k))))
  if f = 5 ∨ f = 6 then
    let seq := (s0 / w + s.get R.STTX_ENTRY7_SEQ_BASE n) % 65536
    let ts := (s0 + s.get R.STTX_ENTRY8_TS_OFFSET n) % 2 ^ 32
    let ssrc := s.get R.STTX_ENTRY6_SSRC n
    let pt := s.get R.STTX_ENTRY7_PT n
    let ip := s.rtpHead n (rtpBytes seq ts ssrc pt (fmtBytes f) pay)
    (seq, fun p => .rtp n (s.streamHead n p) ip seq ts ssrc pt pay)
  else ((s.aafHead n s0).seq, fun p => .aaf n (s.streamHead n p) (s.aafHead n s0) pay)

/-- A PDU of the CRF transmit entry whose first timestamp stands at index s0 (R86). DESIGN CHOICE (log entry 97): R104 gives sequence numbers
for AAF and RTP alone; a PDU's is its place on the grid of PDUs, s0 / (CRF_INTERVAL × CRF_PER_PDU) mod 256, which STTX_STAT4.LAST_SEQ
shows too. -/
def State.crfPdu (s : State) (n s0 : Nat) : Nat × (Nat → Wire) :=
  let iv := s.get R.STTX_ENTRY9_CRF_INTERVAL n
  let k := s.get R.STTX_ENTRY9_CRF_PER_PDU n
  let seq := s0 / (iv * k) % 256
  (seq, fun p => .crf n (s.streamHead n p) (s.get R.STTX_ENTRY0_SID_LO n + s.get R.STTX_ENTRY1_SID_HI n * 2 ^ 32) seq iv
    ((List.range k).map (fun j => idxNs (s0 + j * iv + s.get R.STTX_ENTRY5_PRES_OFFSET n))))

/-- The protocol of an entry may send (R116, R117). -/
def State.txProtocol (s : State) (n : Nat) : Bool :=
  let f := s.get R.STTX_ENTRY4_FORMAT n
  if f = 5 ∨ f = 6 then s.flag R.RTP_CTRL_EN else s.flag R.AVTP_CTRL_TX_EN

/-- One packet is handed over, or built and not sent (R106, R108). DESIGN CHOICE (log entry 98): R112 gives frame sizes for AAF and RTP alone; a CRF
frame counts 18 bytes of Ethernet header and tag, 28 of CRF header, 4 of FCS and 8 for each timestamp, and at least 64. -/
def State.txSend (s : State) (n s0 : Nat) : State :=
  let crf := s.get R.STTX_ENTRY4_FORMAT n == 7
  let k := if crf then s.crfPdu n s0 else s.txPacket n s0
  let t := (s.put R.STTX_STAT4_LAST_SEQ k.1 n).put R.STTX_STAT5_LAST_S0 (s0 % 2 ^ 32) n
  if s.get R.STTX_STAT0_STATE n = 4 then t.bump R.STTX_STAT2_SUPPRESSED_CNT n
  else if !s.txProtocol n then s
  else
    let len := if crf then max 64 (50 + 8 * s.get R.STTX_ENTRY9_CRF_PER_PDU n) else s.txWire n - 20
    let r := t.handOver (s.get R.STTX_ENTRY5_EGRESS n) (s.tcOf (s.get R.STTX_ENTRY3_PCP n)) len k.2
    (r.2.2.bumpBy R.STTX_STAT3_PORT_DROP_CNT r.2.1 n).when r.1 (fun u => u.bump R.STTX_STAT1_PKT_CNT n)

/-- The starts of the packets that become eligible at the start of the present tick (R106); a CRF PDU is taken as a packet
from its first to its last timestamp (log entry 21). -/
def State.txEligible (s : State) (n : Nat) : List Nat :=
  if s.tickNum < s.out then []
  else
    let T := s.tickNum - s.out
    if s.get R.STTX_ENTRY4_FORMAT n = 7 then
      let iv := s.get R.STTX_ENTRY9_CRF_INTERVAL n
      let k := s.get R.STTX_ENTRY9_CRF_PER_PDU n
      (packetStarts (iv * k) (T + (iv - 1) / 8)).filter (fun s0 => (s0 + iv * (k - 1)) / 8 == T)
    else packetStarts (s.get R.STTX_ENTRY4_SPP n) T

/-- Packets that become eligible at the start of a tick, in ascending entry, then ascending first index (R106). -/
def State.txTick (s : State) : State :=
  if s.dev ≠ .run then s
  else s.each 512 (fun t n =>
    if t.get R.STTX_STAT0_STATE n = 3 ∨ t.get R.STTX_STAT0_STATE n = 4 then
      ((t.txEligible n).filter (fun x => Sparse.get 0 t.str.txFrom n ≤ x)).foldl (fun u x => u.txSend n x) t
    else t)

end Sys2Proof.Machine
end

