-- ==== Sys2Proof/Machine/Ptp.lean ====
section
/-! DEFINITION. Network time (R165 to R168, R173): the PTP instance, its servo and port roles, with the commands of that
family. -/

namespace Sys2Proof.Machine

/-- The hidden state of a PTP port. -/
def State.ptpSt (s : State) (p : Nat) : PtpPort := Sparse.get PtpPort.init s.ptp.ports p

/-- The hidden state of a PTP port at x. -/
def State.setPtp (s : State) (p : Nat) (x : PtpPort) : State :=
  { s with ptp := { s.ptp with ports := Sparse.put PtpPort.init s.ptp.ports p x } }

/-- The device's clock identity: the EUI-64 of P0's MAC address (PRESUMED, log entry 22). -/
def State.clockId (s : State) : Nat :=
  let m := s.portMac 0
  m / 2 ^ 24 * 2 ^ 40 + 0xFFFE * 2 ^ 24 + m % 2 ^ 24

/-- The device may become grandmaster (R42, R168). -/
def State.canGm (s : State) : Bool :=
  s.flag R.PTP_CTRL_EN && s.flag R.PTP_CTRL_GM_CAPABLE && (s.dev == .ready || s.dev == .run) &&
  (s.role == .solo || s.role == .active)

/-- The Plumb unit follows a reference: neither FREERUN nor HOLDOVER (R185). -/
def State.plumbFollows (s : State) : Bool :=
  s.get R.PLUMB_STATUS_STATE != 0 && s.get R.PLUMB_STATUS_STATE != 4

/-- The device's own announcing fields (R168), traceable as R168 and R466 let it be. DESIGN CHOICE (log entry 111): in every other case both flags
are TRUE. -/
def State.ownVector (s : State) : PtpVector where
  priority1 := if s.canGm then s.get R.PTP_DOMAIN_PRIORITY1 else 255
  clkClass := if s.flag R.TICK_STATUS_EPOCH_VALID then s.get R.PTP_CLOCKQ_CLASS else 248
  accuracy := s.get R.PTP_CLOCKQ_ACCURACY
  variance := s.get R.PTP_CLOCKQ_VARIANCE
  priority2 := s.get R.PTP_DOMAIN_PRIORITY2
  gmId := BitVec.ofNat 64 s.clockId
  steps := 0
  traceable := b2n (s.flag R.TICK_STATUS_EPOCH_VALID && s.plumbFollows) + 2 * b2n s.plumbFollows

/-- The fields in the order of the comparison, the sender last. -/
def annKey (v : PtpVector) (sender : Nat) : List Nat :=
  [v.priority1, v.clkClass, v.accuracy, v.variance, v.priority2, v.gmId.toNat, v.steps, sender]

/-- The first list is the lower one: the better clock (BMCA, R165). -/
def lexLt : List Nat → List Nat → Bool
  | [], _ => false
  | _, [] => false
  | a :: as, b :: bs => decide (a < b) || (a == b && lexLt as bs)

/-- A port takes part: enabled, link up, in a state that permits PTP (R42). -/
def State.ptpPortOn (s : State) (p : Nat) : Bool :=
  s.flag R.PTP_CTRL_EN && s.netUp && decide (p < 6) && s.bit R.PTP_PORT_EN_PORTS p && s.link p

/-- The port with the best Announce, with that Announce. -/
def State.ptpBest (s : State) : Option (Nat × PtpVector × Nat) :=
  (List.range 6).foldl (fun (a : Option (Nat × PtpVector × Nat)) p =>
    match s.ptpPortOn p, (s.ptpSt p).best with
    | true, some (v, src) =>
      (match a with
      | none => some (p, v, src.toNat)
      | some b => if lexLt (annKey v src.toNat) (annKey b.2.1 b.2.2) then some (p, v, src.toNat) else a)
    | _, _ => a) none

/-- The foreign master that is better than the device, if any. -/
def State.ptpMaster (s : State) : Option (Nat × PtpVector × Nat) :=
  match s.ptpBest with
  | none => none
  | some b => if lexLt (annKey b.2.1 b.2.2) (annKey s.ownVector s.clockId) then some b else none

/-- The state a port takes by BMCA (R165, R173): 0 disabled, 1 listening until its first Announce or its announce timeout, 2 master, 3 slave,
4 passive. The spec names no fault of a PTP port, and code 5 (faulty) is never taken. -/
def State.ptpRole (s : State) (p : Nat) : Nat :=
  if !s.ptpPortOn p then 0
  else if (s.ptpSt p).listening then 1
  else match s.ptpMaster with
    | none => 2
    | some b =>
      if b.1 = p then 3
      else match (s.ptpSt p).best with
        | none => 2
        | some (v, src) =>
          if lexLt (annKey v src.toNat) (annKey { b.2.1 with steps := b.2.1.steps + 1 } s.clockId) then 4 else 2

/-- The servo loses its lock: SYNCED falls to 0 (R167). -/
def State.ptpUnsync (s : State) : State :=
  let t := { s with ptp := { s.ptp with syncs := 0 } }
  if t.flag R.PTP_STATUS_SYNCED then (t.put R.PTP_STATUS_SYNCED 0).raise EV_PTP_STATE else t

/-- A port enters a state; EV_PTP_STATE at every change (R167). -/
def State.ptpEnter (s : State) (p st : Nat) : State :=
  if s.get R.PTP_PORT_STATUS_STATE p = st then s else (s.put R.PTP_PORT_STATUS_STATE st p).raise EV_PTP_STATE

/-- Port roles are selected again (R165). A change of grandmaster ends SYNCED (R167); a change of the slave port alone only begins the count of its
consecutive Syncs anew. -/
def State.ptpSelect (s : State) : State :=
  let on := (List.range 6).any (fun p => s.ptpPortOn p && !(s.ptpSt p).listening)
  let gm := match s.ptpMaster with
    | some b => b.2.1.gmId.toNat
    | none => if on && s.canGm then s.clockId else 0
  let isGm := on && s.ptpMaster.isNone && s.canGm
  let slaveWas := (List.range 6).find? (fun p => s.get R.PTP_PORT_STATUS_STATE p == 3)
  let t := s.each 6 (fun u p => u.ptpEnter p (s.ptpRole p))
  let t := (t.put R.PTP_STATUS_IS_GM (b2n isGm)).put R.PTP_STATUS_STEPS_REMOVED
    (match s.ptpMaster with | some b => b.2.1.steps + 1 | none => 0)
  let old := s.get R.PTP_GM_ID_LO_ID + s.get R.PTP_GM_ID_HI_ID * 2 ^ 32
  let t := if old = gm then t
    else ((t.put R.PTP_GM_ID_LO_ID (gm % 2 ^ 32)).put R.PTP_GM_ID_HI_ID (gm / 2 ^ 32)).raise EV_PTP_STATE
  if old ≠ gm then t.ptpUnsync
  else t.when (slaveWas != s.ptpMaster.map (·.1) && !t.flag R.PTP_STATUS_SYNCED) (fun u => { u with ptp := { u.ptp with syncs := 0 } })

/-- The instance follows a commit, the device state, the pair role or a link: ports that take part start in LISTENING
and are then selected. -/
def State.ptpRefresh (s : State) : State :=
  let t := s.each 6 (fun u p => if u.ptpPortOn p then u else u.setPtp p PtpPort.init)
  t.ptpSelect

/-- A received PTP message on a port that takes part (R165): counted, refused outside the profile, ignored in another
domain. -/
def State.ptpTake (s : State) (p : Nat) (m : PtpMsg) (profileOk : Bool) (f : State → State) : State :=
  if !s.ptpPortOn p then s
  else
    let t := s.bump R.PTP_RX_CNT
    if m.profile ≠ s.get R.PTP_CTRL_PROFILE || !profileOk then t.bump R.PTP_ERR_CNT
    else if m.domain ≠ s.get R.PTP_DOMAIN_DOMAIN then t
    else f t

/-- The ingress timestamp of a message in ns (R166). -/
def State.ptpIn (s : State) (p ns : Nat) : Int := (s.ingress10 p ns).fdiv 10

/-- The egress timestamp of a message in ns, of 0.8 ns resolution and corrected by PTP_LAT_TX (units of 0.1 ns, R166). -/
def State.ptpOut (s : State) (p ns : Nat) : Int := (((10 * ns / 8 * 8 : Nat) : Int) + s.getI R.PTP_LAT_TX_DELAY p).fdiv 10

/-- The port may count Syncs: asCapable in gPTP; the AES67 profile has no asCapable. -/
def State.ptpCapable (s : State) (p : Nat) : Bool := s.flag R.PTP_CTRL_PROFILE || s.flag R.PTP_PORT_STATUS_AS_CAPABLE p

/-- A complete Sync on the slave port (R167): grandmaster time `gm` at ingress `at'`, path delay included; the servo
reports offset and rate, and the eighth consecutive one sets SYNCED. -/
def State.ptpServo (s : State) (p : Nat) (origin at' : Int) : State :=
  let gm := origin + s.getI R.PTP_MEAN_DELAY_PS p / 1000
  let x := s.ptpSt p
  let t := s.setPtp p { x with lastSync := some (origin, at'), sync := none }
  let t := ({ t with ptp := { t.ptp with offset := gm - at' } }.putI R.PTP_OFFSET_NS (gm - at')).refOffer 1 (gm - at')
  let t := match x.lastSync with
    | some (o, a) => if a < at' then t.putI R.PTP_RATE_PPB (((origin - o) - (at' - a)) * 1000000000 / (at' - a)) else t
    | none => t
  if !t.ptpCapable p then { t with ptp := { t.ptp with syncs := 0 } }
  else
    let n := min 8 (t.ptp.syncs + 1)
    let t := { t with ptp := { t.ptp with syncs := n } }
    if n = 8 && !t.flag R.PTP_STATUS_SYNCED then (t.put R.PTP_STATUS_SYNCED 1).raise EV_PTP_STATE else t

/-- PTP_SYNC_RX (R167): a Sync on the slave port feeds the servo, at once if it is one-step. -/
def execPtpSyncRx (port : Fin 8) (m : PtpMsg) (s : State) : Ans := .next <|
  let p := port.val
  s.ptpTake p m true (fun t =>
    if t.get R.PTP_PORT_STATUS_STATE p ≠ 3 then t
    else if m.twoStep then t.setPtp p { t.ptpSt p with sync := some (m.seq.toNat, t.ptpIn p m.ns, m.corr) }
    else t.ptpServo p ((m.ts : Int) + m.corr) (t.ptpIn p m.ns))

/-- PTP_FOLLOW_UP_RX (R165): a Follow_Up completes the two-step Sync of its sequence number. -/
def execPtpFollowUpRx (port : Fin 8) (m : PtpMsg) (s : State) : Ans := .next <|
  let p := port.val
  s.ptpTake p m true (fun t =>
    match (t.ptpSt p).sync with
    | some (q, at', corr) =>
      if q = m.seq.toNat && t.get R.PTP_PORT_STATUS_STATE p = 3 then t.ptpServo p ((m.ts : Int) + m.corr + corr) at' else t
    | none => t)

/-- PTP_ANNOUNCE_RX (R165): an Announce feeds the BMCA; one of the device's own is ignored. -/
def execPtpAnnounceRx (port : Fin 8) (m : PtpMsg) (v : PtpVector) (s : State) : Ans := .next <|
  let p := port.val
  s.ptpTake p m true (fun t =>
    if m.srcId.toNat = t.clockId then t
    else
      let x := { t.ptpSt p with listening := false }
      let take := match x.best with
        | none => true
        | some (b, src) => src == m.srcId || lexLt (annKey v m.srcId.toNat) (annKey b src.toNat)
      (t.setPtp p (if take then { x with best := some (v, m.srcId) } else x)).ptpSelect)

/-- The headers of a PTP message (R165): over Ethernet to 01-80-C2-00-00-0E, or over UDP/IPv4 to 224.0.1.129, event messages (Sync, Delay_Req) on port
319 and the others on 320. -/
def State.ptpHead (s : State) (p kind : Nat) : EthHead × Option IpHead :=
  if s.flag R.PTP_CTRL_PROFILE then
    let port := if kind = 0 ∨ kind = 5 then 319 else 320
    (⟨ipGroupMac 0xE0000181, s.portMac p, none⟩, some ⟨1, 0, s.get R.RTP_IPADDR_ADDR, 0xE0000181, port, port, 0⟩)
  else (⟨0x0180C200000E, s.portMac p, none⟩, none)

/-- A PTP message joins the queue of TC 7 of its port (R150, R161) and counts as it leaves. -/
def State.ptpSend (s : State) (p kind seq : Nat) (fields : List Nat) : State :=
  let h := s.ptpHead p kind
  s.submit p 7 (.ptp h.1 h.2 kind seq fields)

/-- A time as the unsigned number a message carries. -/
def tsField (x : Int) : Nat := toTwos 80 x

/-- PTP_PDELAY_REQ_RX (R165): answered in gPTP by a Pdelay_Resp with the time of receipt and its follow-up with the response's own egress time. -/
def execPtpPdelayReqRx (port : Fin 8) (m : PdelayReq) (s : State) : Ans := .next <|
  let p := port.val
  let q := m.msg
  s.ptpTake p q (!s.flag R.PTP_CTRL_PROFILE) (fun t =>
    (t.ptpSend p 3 q.seq.toNat [q.srcId.toNat, q.srcPort, tsField (t.ptpIn p q.ns)]).ptpSend p 7 q.seq.toNat
      [q.srcId.toNat, q.srcPort, tsField (t.ptpOut p m.sent)])

/-- PTP_PDELAY_RESP_RX (R165): the response to the port's own request updates the mean link delay, the neighbour rate
ratio and asCapable (PTP_LINK_THRESH). -/
def execPtpPdelayRespRx (port : Fin 8) (m : PtpMsg) (s : State) : Ans := .next <|
  let p := port.val
  s.ptpTake p m (!s.flag R.PTP_CTRL_PROFILE) (fun t =>
    let x := t.ptpSt p
    match x.delayTx with
    | some (q, sent) =>
      if q ≠ m.seq.toNat || m.reqId.toNat ≠ t.clockId then t
      else
        let at' := t.ptpIn p m.ns
        let ps := ((at' - sent) - m.corr) * 500
        let u := (t.setPtp p { x with delayTx := none, lastPd := some ((m.ts : Int), at') }).putI R.PTP_MEAN_DELAY_PS ps p
        let u := match x.lastPd with
          | some (o, a) => if a < at' then u.putI R.PTP_NRR_PPB (((m.ts : Int) - o - (at' - a)) * 1000000000 / (at' - a)) p else u
          | none => u
        u.put R.PTP_PORT_STATUS_AS_CAPABLE (b2n (decide (ps ≤ (t.get R.PTP_LINK_THRESH_NS * 1000 : Nat)))) p
    | none => t)

/-- PTP_DELAY_REQ_RX (R165): answered by a master port in the AES67 profile. -/
def execPtpDelayReqRx (port : Fin 8) (m : PtpMsg) (s : State) : Ans := .next <|
  let p := port.val
  s.ptpTake p m (s.flag R.PTP_CTRL_PROFILE) (fun t =>
    if t.get R.PTP_PORT_STATUS_STATE p = 2 then
      t.ptpSend p 6 m.seq.toNat [m.srcId.toNat, m.srcPort, tsField (t.ptpIn p m.ns)] else t)

/-- PTP_DELAY_RESP_RX (R165): the response to the port's own request updates the mean path delay in the AES67 profile. -/
def execPtpDelayRespRx (port : Fin 8) (m : PtpMsg) (s : State) : Ans := .next <|
  let p := port.val
  s.ptpTake p m (s.flag R.PTP_CTRL_PROFILE) (fun t =>
    let x := t.ptpSt p
    match x.delayTx, x.lastSync with
    | some (q, sent), some (o, a) =>
      if q ≠ m.seq.toNat || m.reqId.toNat ≠ t.clockId then t
      else (t.setPtp p { x with delayTx := none }).putI R.PTP_MEAN_DELAY_PS (((a - o) + ((m.ts : Int) - m.corr - sent)) * 500) p
    | _, _ => t)

/-- The next sequence number of a port's own messages. -/
def State.ptpSeq (s : State) (p : Nat) : Nat × State :=
  let x := s.ptpSt p
  (x.nextSeq, s.setPtp p { x with nextSeq := (x.nextSeq + 1) % 65536 })

/-- PTP_SYNC_TX (R165, R168): a master port sends Sync while the device is grandmaster, or relays grandmaster time in
gPTP; with ONE_STEP = 0 a Follow_Up carries the egress time. -/
def execPtpSyncTx (port : Fin 8) (ns : Nat) (s : State) : Ans := .next <|
  let p := port.val
  let gm := s.flag R.PTP_STATUS_IS_GM
  if s.ptpPortOn p && s.get R.PTP_PORT_STATUS_STATE p == 2 &&
      (gm || (!s.flag R.PTP_CTRL_PROFILE && s.flag R.PTP_STATUS_SYNCED)) then
    let q := s.ptpSeq p
    let at' := s.ptpOut p ns + (if gm then 0 else s.ptp.offset)
    if s.flag R.PTP_CTRL_ONE_STEP then q.2.ptpSend p 0 q.1 [tsField at', 0]
    else (q.2.ptpSend p 0 q.1 [0, 1]).ptpSend p 1 q.1 [tsField at']
  else s

/-- PTP_ANNOUNCE_TX (R168): a master port sends Announce: the device's own fields, or in gPTP those of the grandmaster it
follows, with its traceable flags behind them. -/
def execPtpAnnounceTx (port : Fin 8) (s : State) : Ans := .next <|
  let p := port.val
  if s.ptpPortOn p && s.get R.PTP_PORT_STATUS_STATE p == 2 then
    let q := s.ptpSeq p
    match s.ptpMaster with
    | none => q.2.ptpSend p 2 q.1 (annKey s.ownVector s.clockId ++ [s.ownVector.traceable])
    | some b =>
      if s.flag R.PTP_CTRL_PROFILE then s
      else q.2.ptpSend p 2 q.1 (annKey { b.2.1 with steps := b.2.1.steps + 1 } s.clockId ++ [b.2.1.traceable])
  else s

/-- PTP_DELAY_REQUEST_TX (R165): a port sends its Pdelay_Req, or in the AES67 profile the slave port its Delay_Req. -/
def execPtpDelayRequestTx (port : Fin 8) (ns : Nat) (s : State) : Ans := .next <|
  let p := port.val
  if s.ptpPortOn p && (!s.flag R.PTP_CTRL_PROFILE || s.get R.PTP_PORT_STATUS_STATE p == 3) then
    let q := s.ptpSeq p
    let t := q.2.setPtp p { q.2.ptpSt p with delayTx := some (q.1, s.ptpOut p ns) }
    t.ptpSend p (if s.flag R.PTP_CTRL_PROFILE then 5 else 4) q.1 []
  else s

/-- PTP_SYNC_TIMEOUT (R167): SYNC_TIMEOUT intervals pass without a Sync on the slave port, and SYNCED falls to 0. -/
def execPtpSyncTimeout (s : State) : Ans := .next <| if s.flag R.PTP_CTRL_EN && s.netUp then s.ptpUnsync else s

/-- PTP_ANNOUNCE_TIMEOUT (R165): ANN_TIMEOUT intervals pass without an Announce on a port, and roles are reselected. -/
def execPtpAnnounceTimeout (port : Fin 8) (s : State) : Ans := .next <|
  let p := port.val
  if s.ptpPortOn p then (s.setPtp p { s.ptpSt p with best := none, listening := false }).ptpSelect else s

end Sys2Proof.Machine
end

