-- ==== Sys2Proof/Machine/Links.lean ====
section
/-! DEFINITION. Links of the ports (R121, R122): up, down, change of speed and PHY poll, each with the admission pass that it
starts. -/

namespace Sys2Proof.Machine

/-! ### Links (R121, R122) -/

/-- A change of link state or speed: EFF_A and EFF_B are recomputed, frames too long for a schedule at the new speed go (R160), PTP selects its port roles again (R121, R158), and the
pass is due at the next tick boundary (R113). -/
def State.linkPass (s : State) : State :=
  let t := s.effAll.each 6 State.tasPurge
  { t with str := { t.str with passDue := true } }.ptpRefresh

/-- The pass that a link change has made due (R113). -/
def State.passIfDue (s : State) : State := if s.str.passDue then s.admission s else s

/-- The SPEED code at which a port runs (R119, R120): that of its mode; in SGMII with AN_EN = 1 what the PHY's control word reports, 0 where that is
no speed of SGMII. -/
def State.modeSpeed (s : State) (p reported : Nat) : Nat :=
  match s.portMode p with
  | 1 => 6
  | 2 => 5
  | 3 => 4
  | 4 => 3
  | 5 => if !s.flag R.MAC_CTRL_AN_EN p then 3 else if 1 ≤ reported ∧ reported ≤ 3 then reported else 0
  | 6 => 1
  | _ => 0

/-- A wake pattern names a port whose MODE is not 0 (R123, R148, R466). -/
def State.wakeNamed (s : State) (p : Nat) : Bool :=
  decide (2 ≤ p) && s.portMode p != 0 && (List.range 16).any (fun n => s.flag R.WAKE_PAT_CFG_EN n && s.bit R.WAKE_PAT_CFG_PORTS (p - 2) n)

/-- The PHY or lane of a port is powered and clocked (R123, R205, R219): in SLEEP only where a wake pattern names the port, and on P0 to P5 only
while PLL-S is not gated. -/
def State.laneOn (s : State) (p : Nat) : Bool :=
  !(s.dev == .sleep && !s.wakeNamed p) && !(decide (p < 6) && s.flag R.PLL_STATUS_GATED 2)

/-- LINK_UP (R121): lock has held, autonegotiation is complete and the PHY poll, where enabled, reads up. `reported` is the
SPEED code of R145 that a PHY reports and `pause` the partner's advertised ability. -/
def State.linkUp (s : State) (p reported pause : Nat) : State :=
  let speed := s.modeSpeed p reported
  if s.link p || !s.laneOn p || speed = 0 || (s.flag R.MAC_PHY_POLL_EN p && !s.flag R.MAC_PHY_PHY_LINK p) then s
  else
    let an := s.flag R.MAC_CTRL_AN_EN p && (s.portMode p == 4 || s.portMode p == 5)
    let t := ((s.put R.MAC_STATUS_LINK 1 p).put R.MAC_STATUS_SPEED speed p).put R.MAC_STATUS_AN_DONE (b2n an) p
    let t := t.put R.MAC_STATUS_PARTNER_PAUSE (if s.portMode p = 4 && an then pause else 0) p
    ((t.put R.MAC_STATUS_LINK_CHG 1 p).raise (EV_LINK_P0 + p)).linkPass

/-- LINK_UP (R121). -/
def execLinkUp (port : Fin 8) (speed : Fin 7) (pause : Fin 4) (s : State) : Ans := .next <|
  if s.powered then s.linkUp port.val speed.val pause.val else s

/-- A link goes down: pauses are cancelled and the pass runs (R121, R130, R136). -/
def State.linkDown (s : State) (p : Nat) : State := if s.link p then (s.linkGone p).linkPass else s

/-- LINK_DOWN (R121). -/
def execLinkDown (port : Fin 8) (s : State) : Ans := .next <| if s.powered then s.linkDown port.val else s

/-- LINK_SPEED_CHANGE (R120, R121): the speed that an SGMII PHY reports changes without the link going down. -/
def execLinkSpeedChange (port : Fin 8) (speed : Fin 7) (s : State) : Ans := .next <|
  let p := port.val
  let v := s.modeSpeed p speed.val
  if !s.powered || !s.link p || v = 0 || s.get R.MAC_STATUS_SPEED p = v then s
  else (s.put R.MAC_STATUS_SPEED v p).linkPass

/-- The T1S ports have link while MODE is 6 (R121). -/
def State.t1sLinks (s : State) : State :=
  [6, 7].foldl (fun u p => if u.portMode p = 6 then u.linkUp p 1 0 else u) s

/-- The accesses of a poll (R122): Clause 22 register 1, or Clause 45 device 1 register 1, which takes an address frame before the read. -/
def State.pollSend (s : State) (p : Nat) : State :=
  let a := s.get R.MAC_PHY_PHY_ADDR p
  if s.flag R.MAC_PHY_CL45 p then (s.send (.mdio 2 a 1 1)).send (.mdio 4 a 1 0) else s.send (.mdio 0 a 1 0)

/-- PHY_POLL (R122): a port with POLL_EN reads its PHY's link status; a poll that reads down takes the link down. A poll waits while an access of
the host runs. DESIGN CHOICE (log entry 123): no PHY is polled in SLEEP; R122 names no device state. -/
def execPhyPoll (port : Fin 8) (up : Bool) (s : State) : Ans := .next <|
  let p := port.val
  if s.powered && s.dev != .sleep && decide (p < 6) && s.flag R.MAC_PHY_POLL_EN p && !s.flag R.MDIO_CMD_BUSY then
    let t := s.pollSend p
    let t := t.put R.MAC_PHY_PHY_LINK (b2n up) p
    if up then t else t.linkDown p
  else s

end Sys2Proof.Machine
end

