-- ==== Sys2Proof/Machine/Avdecc.lean ====
section
/-! DEFINITION. IEEE 1722.1, RTP's own protocols and SAP (R87 to R89, R379): the entity, ACMP, AECP, ARP, IGMP and the
discovery table, with the commands of that family. What the standards lay out byte by byte is sent as the fields it
carries; their numeric codes are PRESUMED (log entry 23). -/

namespace Sys2Proof.Machine

/-! ### The entity -/

/-- AVD_ENTITY_ID. -/
def State.entityId (s : State) : Nat := s.get R.AVD_ENTITY_ID_LO_ID + s.get R.AVD_ENTITY_ID_HI_ID * 2 ^ 32

/-- This unit speaks for the device: SOLO or ACTIVE (R89, R379). -/
def State.speaks (s : State) : Bool := s.role == .solo || s.role == .active

/-- The entity answers now: enabled, speaking, in READY or RUN (an entity that has departed for SAFE or SLEEP is silent). -/
def State.avdOn (s : State) : Bool := s.flag R.AVD_CTRL_EN && s.speaks && (s.dev == .ready || s.dev == .run)

/-- An IEEE 1722.1 message joins the queue of a port, untagged, from the port's own address (R128, R379); `da` is the destination. -/
def State.avdSend (s : State) (p da kind seq status : Nat) (fields : List Nat) : State :=
  let h : EthHead := ⟨da, s.portMac p, none⟩
  s.submit p (s.tagTc h) (.avdecc h kind seq status fields)

/-- The group address of ADP and ACMP. PRESUMED (log entry 23). -/
def avdGroup : Nat := 0x91E0F0010000

/-- ENTITY_AVAILABLE on P0 and P1, available_index one more than the last (R89). -/
def State.entityAvailable (s : State) : State :=
  let i := (s.get R.AVD_AVAIL_INDEX_INDEX + 1) % 2 ^ 32
  let t := (s.put R.AVD_AVAIL_INDEX_INDEX i).put R.AVD_STATUS_ADVERTISING 1
  ([0, 1].filter t.link).foldl (fun u p =>
    u.avdSend p avdGroup 0 0 0 [t.entityId, i, t.get R.AVD_CTRL_VALID_TIME,
      t.get R.AVD_MODEL_ID_LO_ID + t.get R.AVD_MODEL_ID_HI_ID * 2 ^ 32]) t

/-- ENTITY_DEPARTING, by an entity that advertises (R89: on SYS_STOP and on entry into SAFE or SLEEP). -/
def State.entityDeparting (s : State) : State :=
  if !s.flag R.AVD_STATUS_ADVERTISING then s
  else
    let t := s.put R.AVD_STATUS_ADVERTISING 0
    ([0, 1].filter t.link).foldl (fun u p => u.avdSend p avdGroup 1 0 0 [t.entityId]) t

/-- An entity that is switched off advertises no more (R118): AVD_CTRL written with EN or ADP_EN 0. -/
def State.avdCtrlWritten (s : State) : State :=
  if s.flag R.AVD_CTRL_EN && s.flag R.AVD_CTRL_ADP_EN then s else s.put R.AVD_STATUS_ADVERTISING 0

/-- ADP_ENTITY_AVAILABLE (R89): at a quarter of valid_time the speaking unit advertises. -/
def execAdpEntityAvailable (s : State) : Ans := .next <|
  if s.avdOn && s.flag R.AVD_CTRL_ADP_EN then s.entityAvailable else s

/-- ADP_ENTITY_DISCOVER (R89): a discovery of any entity (0) or of this one is answered. -/
def execAdpEntityDiscover (m : AvdMsg) (s : State) : Ans := .next <|
  if s.avdOn && s.flag R.AVD_CTRL_ADP_EN && (m.entity == 0 || m.entity.toNat == s.entityId) then s.entityAvailable else s

/-! ### ACMP -/

/-- An enabled AAF receive entry. -/
def State.aafRx (s : State) (n : Nat) : Bool :=
  s.flag R.STRX_ENTRY2_ENABLE n && 1 ≤ s.get R.STRX_ENTRY2_FORMAT n && s.get R.STRX_ENTRY2_FORMAT n ≤ 4

/-- An enabled AAF transmit entry. -/
def State.aafTx (s : State) (n : Nat) : Bool :=
  s.flag R.STTX_ENTRY4_ENABLE n && 1 ≤ s.get R.STTX_ENTRY4_FORMAT n && s.get R.STTX_ENTRY4_FORMAT n ≤ 4

/-- An ACMP command reaches the entity. -/
def State.acmpOn (s : State) (m : AvdMsg) : Bool :=
  s.avdOn && s.flag R.AVD_CTRL_ACMP_EN && m.entity.toNat == s.entityId

/-- An ACMP response: recorded in AVD_LAST_ACMP and sent to the port the command came from. -/
def State.acmpAnswer (s : State) (port msg seq entry status : Nat) (fields : List Nat) : State :=
  (((s.put R.AVD_LAST_ACMP_MSG msg).put R.AVD_LAST_ACMP_STATUS status).put R.AVD_LAST_ACMP_ENTRY entry).avdSend
    port avdGroup (16 + msg) seq status fields

/-- NO_ENTRY of a transmit entry recorded (R112). -/
def State.txNoEntry (s : State) (n : Nat) : State :=
  (((s.put R.TX_ADMIT_STATUS_ENTRY n).put R.TX_ADMIT_STATUS_REASON 1).put R.TX_ADMIT_STATUS_VALID 1).raise EV_TX_ADMIT_REFUSED

/-- NO_ENTRY of a receive entry recorded (R111). -/
def State.rxNoEntry (s : State) (n : Nat) : State :=
  (((s.put R.STRX_ADMIT_STATUS_ENTRY n).put R.STRX_ADMIT_STATUS_REASON 1).put R.STRX_ADMIT_STATUS_VALID 1).raise EV_RX_STATE

/-- What a talker answers of an entry: STREAM_ID, destination, VID. -/
def State.talkerFields (s : State) (n : Nat) : List Nat :=
  [s.get R.STTX_ENTRY0_SID_LO n + s.get R.STTX_ENTRY1_SID_HI n * 2 ^ 32,
   s.get R.STTX_ENTRY2_MAC_LO n + s.get R.STTX_ENTRY3_MAC_HI n * 2 ^ 32, s.get R.STTX_ENTRY3_VID n]

/-- A talker command on an entry: answered, or refused with NO_ENTRY. -/
def State.acmpTalker (s : State) (m : AvdMsg) (msg : Nat) (refuse : Bool) : State :=
  if !s.acmpOn m then s
  else if s.aafTx m.entry.val then s.acmpAnswer m.port.val msg m.seq.toNat m.entry.val 0 (s.talkerFields m.entry.val)
  else (if refuse then s.txNoEntry m.entry.val else s).acmpAnswer m.port.val msg m.seq.toNat m.entry.val 4 []

/-- CONNECT_TX (R89, R112). -/
def execConnectTx (m : AvdMsg) (s : State) : Ans := .next <| s.acmpTalker m 0 true

/-- DISCONNECT_TX (R89). -/
def execDisconnectTx (m : AvdMsg) (s : State) : Ans := .next <| s.acmpTalker m 2 false

/-- GET_TX_STATE (R89). -/
def execGetTxState (m : AvdMsg) (s : State) : Ans := .next <| s.acmpTalker m 4 false

/-- GET_TX_CONNECTION (R89). -/
def execGetTxConnection (m : AvdMsg) (s : State) : Ans := .next <| s.acmpTalker m 12 false

/-- CONNECT_RX (R89): an enabled, unbound AAF receive entry with ACMP_BIND = 1 gets the STREAM_ID through a normal commit of
the STRX page, which an ACTIVE unit mirrors as any other (R391); the response follows the commit. While that page has a commit pending, or another binding waits, the
answer is STATE_UNAVAILABLE (log entry 23). -/
def State.connectRx (s : State) (m : AvdMsg) : State :=
  let n := m.entry.val
  if !s.acmpOn m then s
  else if !s.aafRx n || !s.flag R.STRX_ENTRY2_ACMP_BIND n || (s.rx n).bound.isSome then
    (s.rxNoEntry n).acmpAnswer m.port.val 6 m.seq.toNat n 16 []
  else if s.pagePending 0x20 || s.str.acmpWait.isSome then s.acmpAnswer m.port.val 6 m.seq.toNat n 9 []
  else
    let t := (s.shPut R.STRX_ENTRY0_SID_LO (m.stream.toNat % 2 ^ 32) n).shPut R.STRX_ENTRY1_SID_HI (m.stream.toNat / 2 ^ 32) n
    let t := ((t.mirrorOut .hq (0x20000 + R.STRX_ENTRY0_SID_LO.off) n (m.stream.toNat % 2 ^ 32)).mirrorOut .hq
      (0x20000 + R.STRX_ENTRY1_SID_HI.off) n (m.stream.toNat / 2 ^ 32)).mirrorOut .hq 0x2000c 0 1
    { t with
      queue := t.queue ++ [⟨[0x20], false, .queued, none⟩]
      str := { t.str with acmpWait := some (n, m.seq.toNat, m.controller, m.port.val) } }

/-- CONNECT_RX (R89). -/
def execConnectRx (m : AvdMsg) (s : State) : Ans := .next <| s.connectRx m

/-- The commit that an ACMP binding waited for has taken effect or has been rejected (R89). -/
def State.acmpDone (s : State) (pages : List Nat) (ok : Bool) : State :=
  match s.str.acmpWait with
  | some (n, seq, c, port) =>
    if !pages.contains 0x20 then s
    else
      let t := { s with str := { s.str with acmpWait := none } }
      let t := if ok then t.setRx n { t.rx n with bound := some c } else t
      t.acmpAnswer port 6 seq n (if ok then 0 else 14) [t.rxSid n]
  | none => s

/-- A host commit to a bound entry overrides the binding (R89): `pend` holds the committed writes of the page, and one of them names a
field of the entry. -/
def State.acmpOverride (s : State) (pend : List Pend) : State :=
  s.each 512 (fun t n =>
    if (t.rx n).bound.isSome && pend.any (fun w => w.f.n1 == 512 && w.i == n) then t.setRx n { t.rx n with bound := none } else t)

/-- DISCONNECT_RX (R89): a bound receive entry is released. -/
def execDisconnectRx (m : AvdMsg) (s : State) : Ans := .next <|
  let n := m.entry.val
  if !s.acmpOn m then s
  else if (s.rx n).bound.isSome then
    (s.setRx n { s.rx n with bound := none }).acmpAnswer m.port.val 8 m.seq.toNat n 0 [s.rxSid n]
  else s.acmpAnswer m.port.val 8 m.seq.toNat n 10 []

/-- GET_RX_STATE (R89). -/
def execGetRxState (m : AvdMsg) (s : State) : Ans := .next <|
  let n := m.entry.val
  if !s.acmpOn m then s
  else if s.aafRx n then s.acmpAnswer m.port.val 10 m.seq.toNat n 0 [s.rxSid n, b2n (s.rx n).bound.isSome]
  else s.acmpAnswer m.port.val 10 m.seq.toNat n 1 []

/-! ### AECP -/

/-- An AECP command reaches the entity. -/
def State.aecpOn (s : State) (m : AvdMsg) : Bool :=
  s.avdOn && s.flag R.AVD_CTRL_AECP_EN && m.entity.toNat == s.entityId

/-- An AECP response by command code. -/
def State.aecpAnswer (s : State) (m : AvdMsg) (cmd status : Nat) (fields : List Nat) : State :=
  s.avdSend m.port.val m.src.toNat (256 + cmd) m.seq.toNat status (m.controller.toNat :: fields)

/-- The acquiring controller. -/
def State.avdOwner (s : State) : Nat := s.get R.AVD_OWNER_LO_ID + s.get R.AVD_OWNER_HI_ID * 2 ^ 32

/-- Why a controller may not change the entity: 4 acquired by another, 3 locked by another, else 0. -/
def State.avdBarred (s : State) (c : BitVec 64) : Nat :=
  if s.flag R.AVD_STATUS_ACQUIRED && s.avdOwner != c.toNat then 4
  else match s.str.lockOwner with
    | some o => if o = c then 0 else 3
    | none => 0

/-- ACQUIRE_ENTITY (R89): bit 31 of the flags releases. -/
def execAcquireEntity (m : AvdMsg) (s : State) : Ans := .next <|
  if !s.aecpOn m then s
  else if s.avdBarred m.controller ≠ 0 then s.aecpAnswer m 0 (s.avdBarred m.controller) [s.avdOwner]
  else
    let rel := bitAt m.flags 31
    let o := if rel then 0 else m.controller.toNat
    let t := ((s.put R.AVD_STATUS_ACQUIRED (b2n (!rel))).put R.AVD_OWNER_LO_ID (o % 2 ^ 32)).put R.AVD_OWNER_HI_ID (o / 2 ^ 32)
    t.aecpAnswer m 0 0 [o]

/-- LOCK_ENTITY (R89): bit 0 of the flags unlocks. -/
def execLockEntity (m : AvdMsg) (s : State) : Ans := .next <|
  if !s.aecpOn m then s
  else if s.avdBarred m.controller ≠ 0 then s.aecpAnswer m 1 (s.avdBarred m.controller) []
  else
    let rel := bitAt m.flags 0
    let t := { s with str := { s.str with lockOwner := if rel then none else some m.controller } }
    (t.put R.AVD_STATUS_LOCKED (b2n (!rel))).aecpAnswer m 1 0 []

/-- A command that only asks: answered with fields. -/
def State.aecpAsk (s : State) (m : AvdMsg) (cmd : Nat) (r : Nat × List Nat) : State :=
  if s.aecpOn m then s.aecpAnswer m cmd r.1 r.2 else s

/-- AECP ENTITY_AVAILABLE (R89). -/
def execAecpEntityAvailable (m : AvdMsg) (s : State) : Ans := .next <| s.aecpAsk m 2 (0, [])

/-- CONTROLLER_AVAILABLE (R89). -/
def execControllerAvailable (m : AvdMsg) (s : State) : Ans := .next <| s.aecpAsk m 3 (0, [])

/-- A descriptor that the entity has (R89): ENTITY, one CONFIGURATION, AUDIO_UNIT, STREAM_INPUT per AAF receive entry,
STREAM_OUTPUT per AAF transmit entry, AVB_INTERFACE of P0 and P1, CLOCK_SOURCE, LOCALE, STRINGS, CLOCK_DOMAIN. -/
def State.hasDescriptor (s : State) (ty n : Nat) : Bool :=
  ((ty == 0 || ty == 1 || ty == 2 || ty == 10 || ty == 12 || ty == 13 || ty == 36) && n == 0) ||
  (ty == 5 && s.aafRx n) || (ty == 6 && s.aafTx n) || (ty == 9 && decide (n < 2))

/-- The fields of a descriptor. -/
def State.descriptor (s : State) (ty n : Nat) : Nat × List Nat :=
  if !s.hasDescriptor ty n then (2, [ty, n])
  else (0, [ty, n] ++ (match ty with
    | 0 => [s.entityId, s.get R.AVD_MODEL_ID_LO_ID + s.get R.AVD_MODEL_ID_HI_ID * 2 ^ 32, s.get R.AVD_AVAIL_INDEX_INDEX] ++
        s.str.name.map (·.toNat)
    | 5 => [s.get R.STRX_ENTRY2_FORMAT n, s.get R.STRX_ENTRY2_CHANNELS n, rateHz (s.get R.STRX_ENTRY3_RATE n)]
    | 6 => [s.get R.STTX_ENTRY4_FORMAT n, s.get R.STTX_ENTRY4_CHANNELS n, 48000]
    | 9 => [s.portMac n]
    | _ => []))

/-- READ_DESCRIPTOR (R89). -/
def execReadDescriptor (m : AvdMsg) (s : State) : Ans := .next <| s.aecpAsk m 4 (s.descriptor m.descType m.entry.val)

/-- GET_CONFIGURATION (R89): the one configuration. -/
def execGetConfiguration (m : AvdMsg) (s : State) : Ans := .next <| s.aecpAsk m 7 (0, [0])

/-- The stream descriptor that a command names answers, any other is refused. -/
def State.streamAsk (s : State) (m : AvdMsg) (cmd : Nat) (rx tx : List Nat) : State :=
  let n := m.entry.val
  s.aecpAsk m cmd (if m.descType == 5 && s.aafRx n then (0, rx) else if m.descType == 6 && s.aafTx n then (0, tx) else (2, []))

/-- GET_STREAM_FORMAT (R89). -/
def execGetStreamFormat (m : AvdMsg) (s : State) : Ans := .next <|
  let n := m.entry.val
  s.streamAsk m 9 [s.get R.STRX_ENTRY2_FORMAT n, s.get R.STRX_ENTRY2_CHANNELS n, rateHz (s.get R.STRX_ENTRY3_RATE n)]
    [s.get R.STTX_ENTRY4_FORMAT n, s.get R.STTX_ENTRY4_CHANNELS n, 48000]

/-- GET_STREAM_INFO (R89). -/
def execGetStreamInfo (m : AvdMsg) (s : State) : Ans := .next <|
  let n := m.entry.val
  s.streamAsk m 15 [s.rxSid n, s.rxState n] (s.talkerFields n ++ [s.get R.STTX_STAT0_STATE n])

/-- GET_NAME (R89). -/
def execGetName (m : AvdMsg) (s : State) : Ans := .next <|
  s.aecpAsk m 17 (if m.descType = 0 then (0, s.str.name.map (·.toNat)) else (11, []))

/-- SET_NAME (R89): the entity name only, by a controller that is not barred. -/
def execSetName (m : AvdMsg) (s : State) : Ans := .next <|
  if !s.aecpOn m then s
  else if s.avdBarred m.controller ≠ 0 then s.aecpAnswer m 16 (s.avdBarred m.controller) []
  else if m.descType ≠ 0 then s.aecpAnswer m 16 11 []
  else { s with str := { s.str with name := m.name.take 64 } }.aecpAnswer m 16 0 []

/-- GET_COUNTERS (R89). -/
def execGetCounters (m : AvdMsg) (s : State) : Ans := .next <|
  let n := m.entry.val
  s.streamAsk m 41 [s.get R.STRX_STAT2_PKT_CNT n, s.get R.STRX_STAT4_LATE_CNT n, s.get R.STRX_STAT4_EARLY_CNT n,
      s.get R.STRX_STAT5_UNDERRUN_CNT n, s.get R.STRX_STAT7_FMT_ERR_CNT n]
    [s.get R.STTX_STAT1_PKT_CNT n, s.get R.STTX_STAT3_PORT_DROP_CNT n]

/-- GET_AVB_INFO (R89): grandmaster, path delay and gPTP ability of an AVB interface. -/
def execGetAvbInfo (m : AvdMsg) (s : State) : Ans := .next <|
  let n := m.entry.val
  s.aecpAsk m 39 (if m.descType == 9 && decide (n < 2) then
    (0, [s.get R.PTP_GM_ID_LO_ID + s.get R.PTP_GM_ID_HI_ID * 2 ^ 32, s.get R.PTP_MEAN_DELAY_PS n, s.get R.PTP_DOMAIN_DOMAIN,
      s.get R.PTP_PORT_STATUS_AS_CAPABLE n]) else (2, []))

/-- GET_AS_PATH (R89). -/
def execGetAsPath (m : AvdMsg) (s : State) : Ans := .next <|
  s.aecpAsk m 40 (if m.entry.val < 2 then (0, [s.get R.PTP_GM_ID_LO_ID + s.get R.PTP_GM_ID_HI_ID * 2 ^ 32]) else (2, []))

/-- REGISTER_UNSOLICITED_NOTIFICATION (R89). -/
def execRegisterUnsolicitedNotification (m : AvdMsg) (s : State) : Ans := .next <|
  if !s.aecpOn m then s
  else
    let l := s.str.unsolicited
    { s with str := { s.str with unsolicited := if l.contains m.controller then l else l ++ [m.controller] } }.aecpAnswer m 36 0 []

/-- DEREGISTER_UNSOLICITED_NOTIFICATION (R89). -/
def execDeregisterUnsolicitedNotification (m : AvdMsg) (s : State) : Ans := .next <|
  if !s.aecpOn m then s
  else { s with str := { s.str with unsolicited := s.str.unsolicited.filter (· != m.controller) } }.aecpAnswer m 37 0 []

/-- AECP_UNSUPPORTED (R89): any other AECP command is answered NOT_IMPLEMENTED and counted. -/
def execAecpUnsupported (m : AvdMsg) (s : State) : Ans := .next <|
  if s.aecpOn m then (s.bump R.AVD_AECP_UNSUP_CNT).aecpAnswer m m.descType 1 [] else s

/-! ### ARP and IGMP (R87, R379) -/

/-- An ARP, IGMP or SAP frame joins the queue of a port, untagged, from the port's own address (R128, R379). -/
def State.ipSend (s : State) (p da : Nat) (q : Option IpHead) (kind : Nat) (fields : List Nat) : State :=
  let h : EthHead := ⟨da, s.portMac p, none⟩
  s.submit p (s.tagTc h) (.ip h q kind fields)

/-- The IP header of a datagram of the device's own to a group, with the TTL of RTP_IFMASK (R117) where `ttl` is none. -/
def State.groupHead (s : State) (dst port : Nat) (ttl : Option Nat) : Option IpHead :=
  some ⟨ttl.getD (s.get R.RTP_IFMASK_TTL), 0, s.get R.RTP_IPADDR_ADDR, dst, port, port, 0⟩

/-- ARP_REQUEST (R87, R379): a request for RTP_IPADDR, or on an ACTIVE unit for the pair's talker address, is answered to the sender on
the ports of RTP_IFMASK. -/
def execArpRequest (port : Fin 8) (target : Word) (sender : ArpSender) (s : State) : Ans := .next <|
  let p := port.val
  if !s.netUp || !s.flag R.RTP_CTRL_EN || !s.bit R.RTP_IFMASK_PORTS p || !s.link p then s
  else if target.toNat = s.get R.RTP_IPADDR_ADDR then
    s.ipSend p sender.mac.toNat none 0 [target.toNat, s.portMac p, sender.ip.toNat, sender.mac.toNat]
  else if s.paired && s.role == .active && target.toNat = s.get R.BRACE_TALKER_IP_ADDR then
    s.ipSend p sender.mac.toNat none 0 [target.toNat, s.talkerMac, sender.ip.toNat, sender.mac.toNat]
  else s

/-- The multicast groups of the enabled RTP receive entries (R87). -/
def State.groups (s : State) : List Nat :=
  ((List.range 512).filterMap (fun n =>
    let ip := s.get R.STRX_ENTRY1_SID_HI n
    if s.flag R.STRX_ENTRY2_ENABLE n && (s.get R.STRX_ENTRY2_FORMAT n == 5 || s.get R.STRX_ENTRY2_FORMAT n == 6) && ip / 2 ^ 28 == 14
    then some ip else none)).eraseDups

/-- The ports of RTP_IFMASK whose link is up. -/
def State.ifPorts (s : State) : List Nat := (portsOf (s.get R.RTP_IFMASK_PORTS)).filter s.link

/-- The device sends IGMP, ARP and SAP frames: RTP is enabled where the network sends. -/
def State.rtpOn (s : State) : Bool := s.netUp && s.flag R.RTP_CTRL_EN

/-- Membership reports for groups on a port (R87): IGMPv3 to 224.0.0.22, or IGMPv2 to each group after a v2 querier or with IGMP_V2 = 1, with
IP TTL 1 (PRESUMED, log entry 23). -/
def State.igmpReport (s : State) (p : Nat) (groups : List Nat) : State :=
  if groups.isEmpty then s
  else if s.net.v2Querier || s.flag R.RTP_CTRL_IGMP_V2 then
    groups.foldl (fun u g => u.ipSend p (ipGroupMac g) (u.groupHead g 0 (some 1)) 2 [g]) s
  else s.ipSend p (ipGroupMac 0xE0000016) (s.groupHead 0xE0000016 0 (some 1)) 1 groups

/-- The groups of each port that are in use now. -/
def State.memberships (s : State) : List (Nat × Nat) :=
  if s.rtpOn then s.ifPorts.flatMap (fun p => s.groups.map (fun g => (p, g))) else []

/-- A group that comes into use on a port is reported there (R87): by a commit, a link, RTP_CTRL.EN or entry into READY. -/
def State.igmpTick (s : State) : State :=
  let now := s.memberships
  if now == s.str.reported then s
  else
    let fresh := now.filter (fun x => !s.str.reported.contains x)
    let t := s.each 8 (fun t p => t.igmpReport p ((fresh.filter (fun x => x.1 == p)).map (·.2)))
    { t with str := { t.str with reported := now } }

/-- IGMP_QUERY (R87): reports for the groups in use are sent. -/
def execIgmpQuery (port : Fin 8) (v2 : Bool) (s : State) : Ans := .next <|
  if !s.rtpOn || !s.bit R.RTP_IFMASK_PORTS port.val then s
  else
    let t := if v2 then { s with net := { s.net with v2Querier := true } } else s
    t.ifPorts.foldl (fun u p => u.igmpReport p u.groups) t

/-! ### SAP (R88) -/

/-- An RTP transmit entry that SAP announces: enabled, SAP_EN, not refused. -/
def State.sapEntry (s : State) (n : Nat) : Bool :=
  s.flag R.STTX_ENTRY4_ENABLE n && s.flag R.STTX_ENTRY4_SAP_EN n &&
  (s.get R.STTX_ENTRY4_FORMAT n == 5 || s.get R.STTX_ENTRY4_FORMAT n == 6) && 2 ≤ s.get R.STTX_STAT0_STATE n

/-- The fields of a session's SDP (R88). -/
def State.sdp (s : State) (n : Nat) : List Nat :=
  [n, s.get R.STTX_ENTRY1_SID_HI n, s.get R.STTX_ENTRY0_SID_LO n / 2 ^ 16, s.get R.STTX_ENTRY7_PT n,
   s.get R.STTX_ENTRY4_FORMAT n, 48000, s.get R.STTX_ENTRY4_CHANNELS n, s.get R.STTX_ENTRY4_SPP n,
   s.get R.PTP_GM_ID_LO_ID + s.get R.PTP_GM_ID_HI_ID * 2 ^ 32, s.get R.PTP_DOMAIN_DOMAIN, s.get R.STTX_ENTRY8_TS_OFFSET n]

/-- A SAP message on every port of RTP_IFMASK with link: to 239.255.255.255 and UDP port 9875 (PRESUMED, log entry 23), with the TTL of
RTP_IFMASK (R117). -/
def State.sapSend (s : State) (kind : Nat) (fields : List Nat) : State :=
  s.ifPorts.foldl (fun u p => u.ipSend p (ipGroupMac 0xEFFFFFFF) (u.groupHead 0xEFFFFFFF 9875 none) kind fields) s

/-- Announcements of entries that are disabled or refused now are withdrawn (R88), as soon as the device can send. -/
def State.sapWithdraw (s : State) : State :=
  let gone := s.str.announced.filter (fun n => !s.sapEntry n)
  if gone.isEmpty || !s.rtpOn || !s.speaks then s
  else
    let t := gone.foldl (fun t n => t.sapSend 4 [n]) s
    { t with str := { t.str with announced := s.str.announced.filter s.sapEntry } }

/-- SAP_ANNOUNCE (R88, R379): each RTP transmit entry with SAP_EN is announced, after what is to be withdrawn has been. -/
def execSapAnnounce (s : State) : Ans := .next <|
  if !s.rtpOn || !s.flag R.RTP_CTRL_SAP_TX_EN || !s.speaks then s
  else
    let v := s.sapWithdraw
    let l := (List.range 512).filter v.sapEntry
    let t := l.foldl (fun t n => t.sapSend 3 (t.sdp n)) v
    { t with str := { t.str with announced := l } }

/-- A record of the discovery table written through stream DMA. -/
def State.discStore (s : State) (slot : Nat) (record : List Byte) : State :=
  let a := s.get R.RTP_DISC_BASE_BASE * 4096 + 256 * slot
  if s.permits .sdma true a then s.setBytes a ((record ++ List.replicate 256 0).take 256) else s.denyRecord .sdma true a

/-- SAP_RX (R88): a received session is recorded; a full table replaces its oldest record. A deletion removes the
session. -/
def execSapRx (m : SapMsg) (s : State) : Ans := .next <|
  if !s.rtpOn || !s.flag R.RTP_CTRL_SAP_RX_EN then s
  else
    let key := m.origin.toNat * 65536 + m.hash.toNat
    let old := s.str.disc
    let rest := old.filter (fun r => r.1 != key)
    if m.deletes then
      { s with str := { s.str with disc := rest } }.put R.RTP_DISC_COUNT rest.length
    else
      let slot := match old.find? (fun r => r.1 == key) with
        | some r => r.2
        | none =>
          if 128 ≤ old.length then (old.head?.map (·.2)).getD 0
          else ((List.range 128).find? (fun k => old.all (fun r => r.2 != k))).getD 0
      let kept := rest.filter (fun r => r.2 != slot)
      let t := { s with str := { s.str with disc := kept ++ [(key, slot)] } }.put R.RTP_DISC_COUNT (kept.length + 1)
      t.discStore slot m.record

end Sys2Proof.Machine
end

