-- ==== Sys2Proof/Machine/Plumb.lean ====
section
/-! DEFINITION. The Plumb unit and the clock outputs (R174 to R202), and the epoch set (R46 to R48), with the commands of
that family. Frequencies are held in ppt (10⁻⁶ ppm), offsets in ns. -/

namespace Sys2Proof.Machine

/-- The kinds of a reference (R174). -/
inductive RefKind | time | phase | freq
deriving DecidableEq, Repr

/-- The rate in Hz of a WCLK_RATE code (R201). -/
def wclkHz : Nat → Nat
  | 0 => 48000 | 1 => 96000 | 2 => 192000 | 3 => 44100 | 4 => 88200 | _ => 176400

/-- The receive entry of CRF stream k. -/
def State.crfEntry (s : State) (k : Nat) : Option Nat :=
  (List.range 512).find? (fun n =>
    s.flag R.STRX_ENTRY2_ENABLE n && s.get R.STRX_ENTRY2_FORMAT n == 7 && s.get R.STRX_ENTRY3_CRF_INDEX n == k)

/-- The kind of a slot's reference, and its phase period as a fraction of ns (numerator, denominator) (R174, R175). -/
def State.refKind (s : State) (n : Nat) : RefKind × Nat × Nat :=
  let src := s.get R.REF_CFG_SOURCE n
  let use := s.flag R.REF_CFG_PHASE_USE n
  if src = 1 ∨ src = 8 then (.time, 0, 1)
  else if 2 ≤ src ∧ src ≤ 5 then
    if use then (.phase, 1000000000 * ((s.crfEntry (src - 2)).map (fun e => (s.rx e).crfIv)).getD 0, 48000) else (.freq, 0, 1)
  else if src = 9 ∨ src = 10 then
    let r := wclkHz (s.get R.REF_CFG_WCLK_RATE n)
    if use && r % 48000 == 0 then (.phase, 1000000000, r) else (.freq, 0, 1)
  else if src = 11 then (if use then (.phase, 1000000000, 1) else (.freq, 0, 1))
  else (.freq, 0, 1)

/-- x ns wrapped into −P/2 to +P/2 for a period P = num / den ns (R175); unchanged where there is no period. -/
def wrapP (num den : Nat) (x : Int) : Int :=
  if num = 0 then x
  else
    let y := (x * den * 2 + num) % (2 * num : Nat)
    (y - num).fdiv (2 * den : Nat)

/-- SyncE of port p is offered (R169). -/
def State.synce (s : State) (p : Nat) : Bool := s.link p && 1 ≤ s.portMode p && s.portMode p ≤ 4

/-- The brace partner offers its media time (R174): the brace path is present and the partner reports EPOCH_VALID. -/
def State.partnerTime (s : State) : Bool := s.flag R.BRACE_STATUS_BRACE_PRESENT && s.peerEpoch

/-- A slot's source is present (R174). -/
def State.srcPresent (s : State) (n : Nat) : Bool :=
  match s.get R.REF_CFG_SOURCE n with
  | 1 => s.flag R.PTP_STATUS_SYNCED
  | 2 => s.bit R.AVTP_CRF_STATUS_LOCK 0
  | 3 => s.bit R.AVTP_CRF_STATUS_LOCK 1
  | 4 => s.bit R.AVTP_CRF_STATUS_LOCK 2
  | 5 => s.bit R.AVTP_CRF_STATUS_LOCK 3
  | 6 => s.synce 0
  | 7 => s.synce 1
  | 8 => s.partnerTime
  | 9 => (s.ref n).edges
  | 10 => (s.ref n).edges
  | 11 => (s.ref n).edges
  | _ => false

/-- The slot is in use and no lower enabled slot names its source (R176). -/
def State.slotUsed (s : State) (n : Nat) : Bool :=
  s.flag R.REF_CFG_EN n && s.get R.REF_CFG_SOURCE n != 0 &&
  !(List.range n).any (fun k => s.flag R.REF_CFG_EN k && s.get R.REF_CFG_SOURCE k == s.get R.REF_CFG_SOURCE n)

/-- Ticks as run at the evaluation now going on: the tick that starts. -/
def State.tgNow (s : State) : Nat := s.tg

/-! ### Edges (R174, R177) -/

/-- The nominal rate in Hz of the edges that a slot expects (R174): 1 of PPS_IN, WCLK_RATE of a word clock. -/
def State.edgeHz (s : State) (n : Nat) : Nat :=
  if s.get R.REF_CFG_SOURCE n = 11 then 1 else wclkHz (s.get R.REF_CFG_WCLK_RATE n)

/-- `period` ps after the last edge lies within ±1,000 ppm of the slot's period (R174). -/
def State.edgeOk (s : State) (n period : Nat) : Bool :=
  decide ((((period * s.edgeHz n : Nat) : Int) - 1000000000000).natAbs * 1000 ≤ 1000000000000)

/-- An edge of a source updates every slot that names it: the source is present where `period`, the time in ps since its last edge, is right
for the slot (R174), and the offset is a new one (R177). -/
def State.refEdge (s : State) (src period : Nat) (offset : Int) : State :=
  s.each 8 (fun t n =>
    if t.get R.REF_CFG_SOURCE n = src then
      t.setRef n { t.ref n with edges := t.edgeOk n period, fresh := some offset }
    else t)

/-- The edges of a source have stopped. -/
def State.refSilent (s : State) (src : Nat) : State :=
  s.each 8 (fun t n => if t.get R.REF_CFG_SOURCE n = src then t.setRef n { t.ref n with edges := false, fresh := none } else t)

/-- The Plumb unit measures: in every state but OFF and SLEEP (R192). -/
def State.plumbOn (s : State) : Bool := s.dev != .off && s.dev != .sleep

/-- PPS_IN_EDGE (R177): a rising edge on PPS_IN updates that reference's offset and presence. -/
def execPpsInEdge (period : Nat) (offset : Int) (s : State) : Ans := .next <|
  if s.plumbOn then s.refEdge 11 period offset else s

/-- PPS_IN_ABSENT (R174): 2 s after its last edge PPS_IN is absent. -/
def execPpsInAbsent (s : State) : Ans := .next <| if s.plumbOn then s.refSilent 11 else s

/-- WCLK_IN_EDGE (R177): a rising edge on WCLK_INk updates that reference's offset and presence. -/
def execWclkInEdge (k : Fin 2) (period : Nat) (offset : Int) (s : State) : Ans := .next <|
  if s.plumbOn then s.refEdge (9 + k.val) period offset else s

/-- WCLK_IN_ABSENT (R174): WCLK_INk misses edges for 2 periods. -/
def execWclkInAbsent (k : Fin 2) (s : State) : Ans := .next <| if s.plumbOn then s.refSilent (9 + k.val) else s

/-! ### Evaluation of a slot (R177 to R180) -/

/-- A history bit of a slot set; true where it was 0. -/
def State.hist (s : State) (f : Fld) (n : Nat) : Bool × State := (!s.flag f n, s.put f 1 n)

/-- The new offset of a slot at this tick, if there is one (R175, R177): what its source has brought since the last tick; a slot for PTP that has
none yet takes PTP_OFFSET as it stands, its baseline (R179). -/
def State.refOffset (s : State) (n : Nat) : Option Int :=
  let k := s.refKind n
  let x := s.ref n
  if k.1 = .freq then none
  else (if s.get R.REF_CFG_SOURCE n == 1 && x.offset.isNone then some (x.fresh.getD s.ptp.offset) else x.fresh).map (wrapP k.2.1 k.2.2)

/-- The drift rate of a slot exceeds its limit (R177, R179): the change of its frequency over the last 10 s, or over the time for which it has
been present where that is at least 1 s, against the limit in ppt per second times that time. -/
def State.drifts (s : State) (n : Nat) (freqs : List Int) : Bool :=
  let ticks := freqs.length - 1
  decide (6000 ≤ ticks) &&
  decide (s.get R.REF_LIMITS_DRIFT_LIMIT n * 1000 * ticks < ((freqs.headD 0 - freqs.getLastD 0) * 6000).natAbs)

/-- 2π × BW / 6,000 in 10⁻⁹ for BW in tenths of Hz: how far f_hat moves in a tick towards the frequency. -/
def fhatStep (bw10 : Nat) : Int := 104720 * bw10

/-- BW in tenths of Hz (R200). -/
def State.bw10 (s : State) : Nat :=
  match s.get R.PLUMB_CTRL_BW with
  | 0 => 1 | 1 => 10 | _ => 100

/-- f_hat one tick on, in 10⁻⁶ ppt (R186). DESIGN CHOICE (log entry 102): the filter of bandwidth BW is of the first order and starts at the
first frequency measured. -/
def State.fhatNext (s : State) (x : RefHid) (freq : Int) : Int :=
  if x.freqs.isEmpty then freq * 1000000
  else x.fhat + ((freq * 1000000 - x.fhat) * fhatStep s.bw10).fdiv 1000000000

/-- f_hat of a slot in ppt. -/
def State.fhatOf (s : State) (n : Nat) : Int := (s.ref n).fhat.fdiv 1000000

/-- Δ of R179 in ns: the change of offset since its last update, less what the reference's frequency accounts for over the
ticks since then (read in consistent units, log entry 24). -/
def jumpOf (num den : Nat) (new old : Int) (freq y : Int) (ticks : Nat) : Int :=
  wrapP num den ((new - old) - ((freq - y) * ticks).fdiv 6000000)

/-- The checks of R179 that a present reference fails, in order; `jump` is Δ where an offset has been updated before. -/
def State.refFails (s : State) (n : Nat) (x : RefHid) (jump : Option Int) : List Nat :=
  (if (s.get R.REF_QUAL_FREQ_WIN n * 10000 : Nat) < x.freq.natAbs then [1] else []) ++
  (if s.drifts n x.freqs then [2] else []) ++
  (if s.flag R.PLUMB_STATUS_HOLD_VALID && decide ((s.get R.REF_LIMITS_DIV_LIMIT n * 10000 : Nat) < (x.freq - s.plumb.holdEst).natAbs)
    then [3] else []) ++
  (match jump with
    | some d => if s.get R.REF_PJ_PJ_LIMIT n ≠ 0 ∧ s.get R.REF_PJ_PJ_LIMIT n < d.natAbs then [4] else []
    | none => []) ++
  (if (s.refKind n).1 = .time && s.flag R.TICK_STATUS_EPOCH_VALID &&
      decide (s.get R.PLUMB_HOLD_CFG_MAX_OFFSET * 1000 < (x.offset.getD 0).natAbs) then [5] else [])

/-- The history bit of a failed check (R179). -/
def failBit : Nat → Fld
  | 2 => R.REF_HISTORY_DRIFT_SEEN
  | 4 => R.REF_HISTORY_PHASE_JUMP_SEEN
  | 5 => R.REF_HISTORY_PHASE_JUMP_SEEN
  | _ => R.REF_HISTORY_FREQ_FAULT_SEEN

/-- Slot states (R178). -/
def refAbsent : Nat := 0

/-- The selected slot, 15 none (R200). -/
def State.sel (s : State) : Nat := s.get R.PLUMB_STATUS_SEL

/-- A slot that was in state `st` leaves it for ABSENT or FAILED: LOST_WHILE_SELECTED where it was the selected reference and QUALIFIED
(R180). -/
def State.lostSelected (s : State) (n st : Nat) : Bool × State :=
  if st == 2 && s.sel == n then s.hist R.REF_HISTORY_LOST_WHILE_SELECTED n else (false, s)

/-- A slot's source is lost or the slot is unused: ABSENT, LOS_SEEN where the source was lost (R178, R180). DESIGN CHOICE (log entry 128): LOCKOUT = 1 takes
an unused slot into LOCKED_OUT too, as R178's "from any state" has it, where R176 says that an unused slot reads ABSENT. -/
def State.refLose (s : State) (n : Nat) : Bool × State :=
  let st := s.get R.REF_STATUS_STATE n
  let t := (s.setRef n { RefHid.init with edges := (s.ref n).edges, fresh := none }).put R.REF_OFFSET_NS 0 n
  if s.flag R.REF_CFG_LOCKOUT n then (false, t.put R.REF_STATUS_STATE 4 n)
  else if st = 0 then (false, t)
  else
    let t := t.put R.REF_STATUS_STATE 0 n
    let a := if st = 4 || !s.slotUsed n then (false, t) else t.hist R.REF_HISTORY_LOS_SEEN n
    let b := a.2.lostSelected n st
    (a.1 || b.1, b.2)

/-- A present reference in its state by the checks (R178): `fails` are the failed ones. -/
def State.refJudge (s : State) (n : Nat) (fails : List Nat) : Bool × State :=
  let st := s.get R.REF_STATUS_STATE n
  let x := s.ref n
  let marked := fails.foldl (fun (a : Bool × State) c => let h := a.2.hist (failBit c) n; (a.1 || h.1, h.2)) (false, s)
  let t := if fails.isEmpty then marked.2 else marked.2.put R.REF_STATUS_FAIL_CAUSE (fails.headD 0) n
  let restart (u : State) : State := (u.setRef n { x with passAt := u.tgNow }).put R.REF_STATUS_STATE 1 n
  if s.flag R.REF_CFG_LOCKOUT n then (marked.1, t.put R.REF_STATUS_STATE 4 n)
  else if !fails.isEmpty then
    let b := (t.put R.REF_STATUS_STATE 3 n).lostSelected n st
    (marked.1 || b.1, b.2)
  else if st = 0 || st = 3 || st = 4 then (marked.1, restart t)
  else if st = 1 && decide (s.get R.REF_QUAL_QUAL_TIME n * 6000 ≤ s.tgNow - x.passAt) then
    (marked.1, (t.setRef n { x with qualAt := t.tgNow }).put R.REF_STATUS_STATE 2 n)
  else (marked.1, t)

/-- The evaluation of one slot (R177 to R180): true where a history bit rose. -/
def State.refEval (s : State) (refs : List RefMeas) (n : Nat) : Bool × State :=
  if !(s.slotUsed n && s.srcPresent n) then s.refLose n
  else
    let k := s.refKind n
    let old := s.ref n
    let freq := ((refs.find? (fun r => r.slot.val == n)).map (·.freq)).getD old.freq
    let x := { old with
      present := true
      fresh := none
      freq := freq
      freqs := (freq :: old.freqs).take 60001
      fhat := s.fhatNext old freq }
    let jump := match s.refOffset n, old.offset with
      | some o, some p => some (jumpOf k.2.1 k.2.2 o p x.freq s.plumb.y (s.tgNow - old.offTick))
      | _, _ => none
    let x := match s.refOffset n with
      | some o => { x with offset := some o, offTick := s.tgNow }
      | none => x
    let t := (s.setRef n x).putI R.REF_FREQ_FREQ (x.freq.fdiv 100) n
    let t := t.putI R.REF_OFFSET_NS (if k.1 = .freq then 0 else x.offset.getD 0) n
    t.refJudge n (t.refFails n x jump)

/-- Seconds left in QUALIFYING (R201). -/
def State.refRemain (s : State) (n : Nat) : State :=
  s.put R.REF_STATUS_QUAL_REMAIN
    (if s.get R.REF_STATUS_STATE n = 1 then (s.get R.REF_QUAL_QUAL_TIME n * 6000 - (s.tgNow - (s.ref n).passAt) + 5999) / 6000 else 0) n

/-- Every slot evaluated; EV_REF_HISTORY once where a bit rose, a commit of this tick included (R180). -/
def State.refEvalAll (s : State) (refs : List RefMeas) : State :=
  let r := (List.range 8).foldl (fun (a : Bool × State) n =>
    let e := a.2.refEval refs n; (a.1 || e.1, e.2.refRemain n))
    (s.plumb.histRose, { s with plumb := { s.plumb with histRose := false } })
  if r.1 then r.2.raise EV_REF_HISTORY else r.2

/-! ### Selection (R181 to R183) -/

/-- A time reference. -/
def State.isTimeRef (s : State) (n : Nat) : Bool := s.get R.REF_CFG_SOURCE n == 1 || s.get R.REF_CFG_SOURCE n == 8

/-- A standby that seats or is in step. -/
def State.standby (s : State) : Bool := s.role == .seating || s.role == .inStep

/-- The slots that may be selected (R181, R183). -/
def State.cands (s : State) : List Nat :=
  let q := (List.range 8).filter (fun n =>
    s.get R.REF_STATUS_STATE n == 2 && (s.get R.REF_CFG_SOURCE n != 8 || s.standby))
  let p := q.filter (fun n => s.get R.REF_CFG_SOURCE n == 8)
  let times := q.filter s.isTimeRef
  if !p.isEmpty then p
  else if !s.flag R.TICK_STATUS_EPOCH_VALID && !times.isEmpty then times
  else q

/-- The lowest PRIORITY, then the lowest slot (R181). -/
def State.bestRef (s : State) (c : List Nat) : Option Nat :=
  c.foldl (fun (a : Option Nat) n =>
    match a with
    | none => some n
    | some b => if s.get R.REF_CFG_PRIORITY n < s.get R.REF_CFG_PRIORITY b then some n else a) none

/-- The best slot b has been QUALIFIED for the wait-to-restore at tick `now` (R181). -/
def State.wtrOver (s : State) (b now : Nat) : Bool := decide (s.get R.PLUMB_WTR_SECONDS * 6000 ≤ now - (s.ref b).qualAt)

/-- The selection (R181): a slot, or 15 for none; none outside READY, RUN and SAFE (R192). -/
def State.selectRef (s : State) : Nat :=
  let c := s.cands
  let cur := s.sel
  if !s.netUp then 15
  else match s.bestRef c with
    | none => 15
    | some b =>
      if cur = 15 || !c.contains cur then b
      else if !s.flag R.PLUMB_CTRL_REVERTIVE then cur
      else if s.get R.REF_CFG_PRIORITY b < s.get R.REF_CFG_PRIORITY cur ∧ (s.plumb.wtrDone == some b || s.wtrOver b s.tgNow) = true then b
      else cur

/-- The cause of a change of selection (R200). -/
def State.selCause (s : State) (new : Nat) : Nat :=
  let cur := s.sel
  if cur = 15 then 6
  else if s.plumb.byCommit.contains cur then 5
  else match s.get R.REF_STATUS_STATE cur with
    | 4 => 3
    | 0 => 2
    | 3 => 1
    | _ => if s.get R.REF_CFG_SOURCE cur = 8 ∨ (new ≠ 15 ∧ s.get R.REF_CFG_SOURCE new = 8) then 4 else 0

/-- A change of selection recorded (R194), the gain of a frequency reference started at 0 (R187), and the ACQUIRE timer
restarted (R185). -/
def State.selChange (s : State) (new : Nat) : State :=
  let cur := s.sel
  if new = cur then s
  else
    let cause := s.selCause new
    let t := if cur = 15 then s else s.put R.REF_STATUS_SELECTED 0 cur
    let t := if new = 15 then t else (t.put R.REF_STATUS_SELECTED 1 new).setRef new { t.ref new with gained := 0 }
    let t := if t.get R.PLUMB_STATUS_STATE = 1 then { t with plumb := { t.plumb with acqAt := t.tgNow } } else t
    let t := ((((t.put R.PLUMB_STATUS_SEL new).put R.PLUMB_LAST_CHANGE_FROM cur).put R.PLUMB_LAST_CHANGE_TO new).put
      R.PLUMB_LAST_CHANGE_CAUSE cause).put R.PLUMB_LAST_CHANGE_VALID 1
    ((t.put R.PLUMB_CHANGE_TICK_TICK (t.tickNum % 2 ^ 32)).bump R.PLUMB_CHANGE_CNT).raise EV_PLUMB_REF_CHANGE

/-! ### The epoch set (R46, R103, R182, R196) -/

/-- Periods of the outputs in audio-master cycles (R195). -/
def State.outPeriod (s : State) (k : Nat) : Nat :=
  match k with
  | 0 => 49152000
  | 1 => 1024 / 2 ^ s.get R.CLKOUT_CFG_WCLK0_RATE
  | 2 => 1024 / 2 ^ s.get R.CLKOUT_CFG_WCLK1_RATE
  | 3 => 8192
  | 4 => 2 * 2 ^ s.get R.CLKOUT_CFG_MCLK0_DIV
  | _ => 2 * 2 ^ s.get R.CLKOUT_CFG_MCLK1_DIV

/-- O_k of an output. -/
def State.alignOf (s : State) (k : Nat) : Int := Sparse.get 0 s.plumb.align k

/-- A clock output's hidden state. -/
def State.clk (s : State) (k : Nat) : ClkHid := Sparse.get ClkHid.init s.plumb.clks k

/-- A clock output's hidden state at x. -/
def State.setClk (s : State) (k : Nat) (x : ClkHid) : State :=
  { s with plumb := { s.plumb with clks := Sparse.put ClkHid.init s.plumb.clks k x } }

/-- O_k at x, within one period. -/
def State.setAlign (s : State) (k : Nat) (x : Int) : State :=
  { s with plumb := { s.plumb with align := Sparse.put 0 s.plumb.align k (x % (s.outPeriod k : Nat)) } }

/-- Every receive ring loses its written samples at an epoch set (R103), and every entry its history (R99). -/
def State.ringsEpoch (s : State) : State :=
  s.each 512 (fun t n =>
    let u := t.when (t.rxState n == rxRunning || t.rxState n == rxStarved) (fun v => v.clearBitmap n)
    u.setRx n { u.rx n with started := false, last := none })

/-- In RUN, all inputs read zero for the first tick after the set, and the delay lines discard what they hold (R46). -/
def State.zeroNext (s : State) : State :=
  { s with
    zeroTick := some s.tickNum
    mix := { s.mix with earlyOut := [], earlyFeed := [], lines := s.mix.lines.map (fun l => (l.1, { l.2 with run := none })) }
    je := { s.je with insts := s.je.insts.map (fun x => (x.1, { x.2 with run := none })) } }

/-- Every port ring loses its written samples. -/
def State.portRingsEpoch (s : State) : State :=
  s.each 8 (fun t p => t.each 128 (fun u x => (u.setWord (u.spInValid p x) 0).setWord (u.spOutValid p x) 0))

/-- The offsets that a step of media time by ns changes (log entry 24): those of time references, and of phase references
within their period; PTP_OFFSET and the servo's pairs follow. -/
def State.stepOffsets (s : State) (ns : Int) : State :=
  let t := s.each 8 (fun t n =>
    let k := t.refKind n
    match (t.ref n).offset with
    | some o => if k.1 = .freq then t else
        (t.setRef n { t.ref n with offset := some (wrapP k.2.1 k.2.2 (o - ns)) }).putI R.REF_OFFSET_NS (wrapP k.2.1 k.2.2 (o - ns)) n
    | none => t)
  let t := { t with ptp := { t.ptp with offset := t.ptp.offset - ns } }.putI R.PTP_OFFSET_NS (t.ptp.offset - ns)
  t.each 6 (fun u p => u.setPtp p { u.ptpSt p with lastSync := none, sync := none, lastPd := none, delayTx := none })

/-- The epoch set by a step in ticks (R46, R182): the tick number steps, EPOCH_VALID becomes 1, the rings lose their
contents, the outputs keep their phase, and the gate schedules take up media time (R161). -/
def State.epochSet (s : State) (step : Int) : State :=
  let t := { s with tickNum := ((s.tickNum : Int) + step).toNat % 2 ^ 48, str := { s.str with txMr := !s.str.txMr, txHist := [] } }
  let t := (t.put R.TICK_STATUS_EPOCH_VALID 1).put R.TICK_STATUS_EPOCH_SET 1
  let t := t.stepOffsets ((step * 1000000000).fdiv 6000)
  let t := t.each 6 (fun u k =>
    (u.setAlign k (u.alignOf k + step * 8192)).setClk k { u.clk k with quiet := ((u.clk k).quiet + step * 8192).toNat })
  let t := t.ringsEpoch.spEpoch (8 * step)
  let t := t.when (s.dev == .run) (fun u => u.portRingsEpoch.zeroNext)
  let t := t.each 512 State.txBegin
  t.tasAll.raise EV_PLUMB_REF_CHANGE

/-- The epoch set that a selected time reference makes while EPOCH_VALID is 0 (R182): the whole number of ticks nearest to
its offset. -/
def State.epochIfDue (s : State) : State :=
  let n := s.sel
  if n = 15 || s.flag R.TICK_STATUS_EPOCH_VALID || !s.isTimeRef n then s
  else s.epochSet ((((s.ref n).offset.getD 0) * 6000 * 2 + 1000000000).fdiv 2000000000)

/-! ### Following (R185, R186, R190) -/

/-- e of the selected reference in ns (R175, R186). -/
def State.phaseErr (s : State) : Int :=
  let n := s.sel
  if n = 15 then 0
  else if (s.refKind n).1 = .freq then (s.ref n).gained.fdiv 6000000
  else (s.ref n).offset.getD 0

/-- x clamped to −b … b. -/
def clamp (b x : Int) : Int := max (-b) (min b x)

/-- IDLE_SLOPE is in use: outside RUN and for a seating standby (R186). -/
def State.idles (s : State) : Bool := s.dev != .run || s.role == .seating

/-- The slope in ppt. -/
def State.slope (s : State) : Int :=
  ((if s.idles then s.get R.PLUMB_SLOPE_IDLE_SLOPE else s.get R.PLUMB_SLOPE_PULL_SLOPE) * 10000 : Nat)

/-- The correction term c in ppt: 2π × BW × e / 1000 ppm, 2π taken as 6.283185307 (DESIGN CHOICE, log entry 25). -/
def State.corrTerm (s : State) : Int :=
  clamp s.slope ((s.bw10 * s.phaseErr * 6283185307).fdiv 10000000)

/-- The state of the unit after this tick's selection (R185). -/
def State.plumbNext (s : State) : Nat :=
  let st := s.get R.PLUMB_STATUS_STATE
  let sat := s.corrTerm.natAbs == s.slope.natAbs
  if !s.netUp then 0
  else if s.sel = 15 then (if 1 ≤ st ∧ st ≤ 3 then 4 else st)
  else if st = 0 ∨ (st = 4 ∧ !s.flag R.PLUMB_STATUS_HOLD_VALID) then 1
  else if st = 1 ∧ s.tgNow - s.plumb.acqAt < 240000 / s.bw10 then 1
  else if sat then 3 else 2

/-- The unit enters a state (R185, R190). -/
def State.plumbEnter (s : State) (new : Nat) : State :=
  let st := s.get R.PLUMB_STATUS_STATE
  let t := s.put R.PLUMB_STATUS_STATE new
  let t := if new = 1 ∧ st ≠ 1 then { t with plumb := { t.plumb with acqAt := t.tgNow } } else t
  if new = 4 ∧ st ≠ 4 then
    ({ t with plumb := { t.plumb with holdAt := t.tgNow } }.bump R.PLUMB_HOLD_CNT).raise EV_HOLDOVER_ENTER
  else if st = 4 ∧ new ≠ 4 then t.raise EV_HOLDOVER_EXIT
  else t

/-- y moves towards its target by at most 0.05 ppm (R186, R206), in HELD towards 0 (DEDUCED, log entry 130). -/
def State.plumbY (s : State) : State :=
  let st := s.get R.PLUMB_STATUS_STATE
  let target : Int :=
    if st = 0 then 0
    else if s.sel = 15 then (if s.flag R.PLUMB_STATUS_HOLD_VALID then s.plumb.holdEst else s.plumb.fLast)
    else s.fhatOf s.sel + s.corrTerm
  let y := s.plumb.y + clamp 50000 (target - s.plumb.y)
  let fl := if s.sel = 15 then s.plumb.fLast else s.fhatOf s.sel
  { s with plumb := { s.plumb with y := y, fLast := fl } }.putI R.PLUMB_FREQ_Y (y.fdiv 100)

/-- HOLD_VALID becomes 1 after HOLD_AVG seconds LOCKED in total (R190). -/
def State.holdValid (s : State) : State :=
  if s.get R.PLUMB_HOLD_CFG_HOLD_AVG * 6000 ≤ s.plumb.lockedTicks then s.put R.PLUMB_STATUS_HOLD_VALID 1 else s

/-- The loop of one tick (R185, R186) and what the unit reports. -/
def State.plumbLoop (s : State) : State :=
  let sat := s.sel ≠ 15 ∧ s.corrTerm.natAbs = s.slope.natAbs
  let t := (((s.putI R.PLUMB_PHASE_ERR_NS s.phaseErr).put R.PLUMB_STATUS_SATURATED (b2n (decide sat))).put
    R.PLUMB_STATUS_IDLE (b2n s.idles)).plumbEnter s.plumbNext
  let t := t.plumbY
  let t := if t.get R.PLUMB_STATUS_STATE = 2 then
      { t with plumb := { t.plumb with lockedTicks := t.plumb.lockedTicks + 1, holdTicks := t.plumb.holdTicks + 1,
                                       fhats := (t.fhatOf t.sel :: t.plumb.fhats).take 6000 } }.holdValid
    else { t with plumb := { t.plumb with holdTicks := 0, fhats := [] } }
  let t := if t.get R.PLUMB_STATUS_STATE = 4 then t.put R.PLUMB_HOLD_TIME_SECONDS ((t.tgNow - t.plumb.holdAt) / 6000) else t
  let n := t.sel
  if n ≠ 15 ∧ (t.refKind n).1 = .freq then
    t.setRef n { t.ref n with gained := (t.ref n).gained + ((t.ref n).freq - t.plumb.y) } else t

/-! ### Clock outputs (R195 to R199) -/

/-- PULSE_OFFSETk in ns (R197): wrap_P (O_k + e), O_k alone with a frequency reference or none. -/
def State.pulseOffset (s : State) (k : Nat) : Int :=
  let e := if s.sel = 15 ∨ (s.refKind s.sel).1 = .freq then 0 else s.phaseErr
  let P : Int := s.outPeriod k * 15625
  let x := s.alignOf k * 15625 + e * 768
  (((2 * x + P) % (2 * P)) - P).fdiv 1536

/-- One output's offset reported, and EV_PULSE_OFFSET where it rises above the threshold (R197). -/
def State.pulseTick (s : State) (k : Nat) : State :=
  let o := s.pulseOffset k
  let thr := s.get R.CLKOUT_THRESH_NS
  let high := s.bit R.CLKOUT_CTRL_EN k && decide (thr < o.natAbs)
  let fired := s.plumb.fired.contains k
  let t := (s.putI R.PULSE_OFFSET_NS o k).putBit R.CLKOUT_STATUS_OVER k high
  if high && !fired then { t with plumb := { t.plumb with fired := k :: t.plumb.fired } }.raise EV_PULSE_OFFSET
  else if fired && decide (2 * o.natAbs ≤ thr) then { t with plumb := { t.plumb with fired := t.plumb.fired.filter (· != k) } }
  else t

/-- For how many audio-master cycles a pulse of an output is high (R195): PPS_WIDTH ms, TICK_WIDTH cycles, or half the period. -/
def State.clkHigh (s : State) (k : Nat) : Nat :=
  match k with
  | 0 => s.get R.CLKOUT_CFG_PPS_WIDTH * 49152
  | 3 => s.get R.CLKOUT_CFG_TICK_WIDTH
  | _ => s.outPeriod k / 2

/-- The first boundary of an output at or after media time `lo`, in audio-master cycles (R196). -/
def State.clkNext (s : State) (k lo : Nat) : Nat := lo + ((s.alignOf k - lo) % (s.outPeriod k : Nat)).toNat

/-- The step of an output at its natural boundary `a` (R198): the first aligned boundary is the first multiple of the period at least half a
period on, so at most one and a half (DESIGN CHOICE where both ends of that range are multiples: the earlier, log entry 103), and a pulse
that does not fit in the interval is cut to half of it. -/
def State.clkStep (s : State) (k a : Nat) : Nat × Nat :=
  let P := s.outPeriod k
  let b := (a + P / 2 + P - 1) / P * P
  (b, if s.clkHigh k < b - a then s.clkHigh k else (b - a) / 2)

/-- The boundaries of an output in a tick from `t0` on, from boundary `a`: as pulses, and the end of the last one. -/
def State.clkGroup (s : State) (k t0 a : Nat) : List ClkPulses :=
  if a < t0 + 8192 then [⟨a - t0, s.outPeriod k, (t0 + 8191 - a) / s.outPeriod k + 1, s.clkHigh k⟩] else []

/-- For how long an output is still high when the tick has ended: the last pulse, or what the tick began with. -/
def clkCarry (carry : Nat) (l : List ClkPulses) : Nat :=
  match l.getLast? with
  | some g => g.first + (g.count - 1) * g.period + g.high - 8192
  | none => carry - 8192

/-- A clock output through the tick that begins (R195 to R199): its boundaries in media time, a step that CLKOUT_ALIGN asked for at the first of
them, and its level, low while it is disabled or PLL-M is gated and outside READY, RUN and SAFE. -/
def State.clkTick (s : State) (k : Nat) : State :=
  let t0 := 8192 * s.tickNum
  let x := s.clk k
  let a := s.clkNext k (max t0 x.quiet)
  let steps := x.step && decide (a < t0 + 8192)
  let r := s.clkStep k a
  let t := s.when steps (fun u =>
    ((u.setAlign k 0).setClk k { x with step := false, quiet := r.1 }).putBit R.CLKOUT_STATUS_STEPPED k true)
  let l := if steps then ⟨a - t0, s.outPeriod k, 1, r.2⟩ :: t.clkGroup k t0 r.1 else s.clkGroup k t0 a
  if s.netUp && s.bit R.CLKOUT_CTRL_EN k && !s.pllmGated then
    (t.setClk k { t.clk k with carry := clkCarry x.carry l }).send (.clock k x.carry l)
  else t.setClk k { t.clk k with carry := 0 }

/-- The outputs are low from here to the end of the tick. -/
def State.clkoutLow (s : State) : State :=
  (s.each 6 (fun t k => t.setClk k { t.clk k with carry := 0 })).send (.clockLow (s.get R.CLKOUT_CTRL_EN))

/-- The outputs held low while PLL-M is gated (R199). -/
def State.clkoutGate (s : State) : State :=
  let t := s.when (s.pllmGated && s.get R.CLKOUT_CTRL_EN != 0) State.clkoutLow
  t.put R.CLKOUT_STATUS_GATED (if s.pllmGated then s.get R.CLKOUT_CTRL_EN else 0)

/-- CLKOUT_ALIGN (R198): each selected output steps once, at its next natural boundary, to O_k = 0. -/
def execClkoutAlign (who : Initiator) (mask : Fin 64) (s : State) : Ans := .next <|
  s.command who 0x0d048 (fun t => t.each 6 (fun u k =>
    if bitAt mask.val k then u.setClk k { u.clk k with step := true } else u))

/-- A commit of the CLKOUT page: an output that is enabled starts with O_k = 0 (R196). -/
def State.clkoutCommit (s old : State) : State :=
  (s.each 6 (fun t k =>
    if t.bit R.CLKOUT_CTRL_EN k && !old.bit R.CLKOUT_CTRL_EN k then (t.setAlign k 0).setClk k ClkHid.init else t)).clkoutGate

/-! ### The unit's tick and its own commands -/

/-- Selection, epoch set and loop after the slots have been evaluated (R181, R182, R186). -/
def State.plumbDecide (s : State) : State :=
  let t := (s.selChange s.selectRef).epochIfDue
  let t := { t with plumb := { t.plumb with byCommit := [], wtrDone := none } }
  t.plumbLoop.each 6 State.pulseTick

/-- Once per tick the unit evaluates every slot, selects and follows (R177 to R186). -/
def State.plumbTick (s : State) (refs : List RefMeas) : State := (s.refEvalAll refs).plumbDecide

/-- REF_LOCKOUT (R184): a write of REF_CFG.LOCKOUT, which the next tick's evaluation takes up. -/
def execRefLockout (who : Initiator) (slot : Fin 8) (on : Bool) (s : State) : Ans := .next <|
  s.command who (0x09040 + 32 * slot.val) (fun t => t.put R.REF_CFG_LOCKOUT (b2n on) slot.val)

/-- REF_QUALIFIED (R178): a slot that has passed every check for QUAL_TIME seconds becomes QUALIFIED. The row comes before
the TICK_BOUNDARY of its tick, hence the tick counted in. -/
def execRefQualified (slot : Fin 8) (s : State) : Ans := .next <|
  let n := slot.val
  if s.plumbOn && s.get R.REF_STATUS_STATE n = 1 && !s.flag R.REF_CFG_LOCKOUT n &&
      decide (s.get R.REF_QUAL_QUAL_TIME n * 6000 ≤ s.tg + 1 - (s.ref n).passAt) then
    ((s.setRef n { s.ref n with qualAt := s.tg + 1 }).put R.REF_STATUS_STATE 2 n).put R.REF_STATUS_QUAL_REMAIN 0 n
  else s

/-- WTR_EXPIRY (R181, R188): the wait-to-restore of the best reference ends. The row comes before the TICK_BOUNDARY whose selection, which
follows the evaluation of every slot, returns to it. -/
def execWtrExpiry (s : State) : Ans := .next <|
  match s.bestRef s.cands with
  | some b => if s.netUp && s.wtrOver b (s.tg + 1) then { s with plumb := { s.plumb with wtrDone := some b } } else s
  | none => s

/-- ACQUIRE_DONE (R185): 4 / BW seconds after the selection the unit leaves ACQUIRE for LOCKED or PULLING. -/
def execAcquireDone (s : State) : Ans := .next <|
  if s.netUp && s.get R.PLUMB_STATUS_STATE = 1 && s.sel != 15 && decide (240000 / s.bw10 ≤ s.tg + 1 - s.plumb.acqAt) then
    s.plumbEnter (if s.corrTerm.natAbs = s.slope.natAbs then 3 else 2)
  else s

/-- HOLD_EST_UPDATE (R190): once per second in LOCKED, HOLD_EST moves by 1 / HOLD_AVG of its distance from the mean of f_hat
over the last 6,000 ticks. The row brings nothing with it. -/
def execHoldEstUpdate (_bare : Unit) (s : State) : Ans := .next <|
  if s.get R.PLUMB_STATUS_STATE = 2 && s.netUp && decide (6000 ≤ s.plumb.holdTicks) then
    let mean := s.plumb.fhats.sum.fdiv s.plumb.fhats.length
    let h := s.plumb.holdEst + (mean - s.plumb.holdEst).fdiv (s.get R.PLUMB_HOLD_CFG_HOLD_AVG : Nat)
    ({ s with plumb := { s.plumb with holdEst := h, holdTicks := 0 } }.putI R.PLUMB_HOLD_EST_EST (h.fdiv 100)).holdValid
  else s

/-- REEPOCH (R47, R160, R193): in READY or HELD EPOCH_VALID becomes 0, far-offset failures clear, and the gates of shaped ports open; in any other state the write
is ignored with EV_HOST_ERR. -/
def execReepoch (who : Initiator) (s : State) : Ans := .next <|
  s.command who 0x48054 (fun t =>
    if t.dev = .ready ∨ t.dev = .held then
      ((t.put R.TICK_STATUS_EPOCH_VALID 0).each 8 (fun u n =>
        if u.get R.REF_STATUS_STATE n = 3 ∧ u.get R.REF_STATUS_FAIL_CAUSE n = 5 then u.put R.REF_STATUS_FAIL_CAUSE 0 n else u)).each
        6 State.tasNoTime
    else t.hostErr)

/-- A commit of the PLUMB_TABLE page (R180, R184): a slot whose SOURCE, PHASE_USE or WCLK_RATE changed goes to ABSENT. -/
def State.plumbCommit (s old : State) : State :=
  s.each 8 (fun t n =>
    if [R.REF_CFG_SOURCE, R.REF_CFG_PHASE_USE, R.REF_CFG_WCLK_RATE].any (fun f => t.get f n != old.get f n) then
      let b := (((t.setRef n RefHid.init).put R.REF_STATUS_STATE 0 n).put R.REF_OFFSET_NS 0 n).lostSelected n (t.get R.REF_STATUS_STATE n)
      { b.2 with plumb := { b.2.plumb with byCommit := n :: b.2.plumb.byCommit, histRose := b.1 || b.2.plumb.histRose } }
    else t)

/-- Media time starts at 0 in FREERUN with y = 0 (R46, R48): the outputs begin with it, and every offset against it is new. -/
def State.mediaStart (s : State) : State :=
  let t := s.each 8 (fun t n => t.setRef n { t.ref n with offset := none, fresh := none })
  let t := { t with tickNum := 0, plumb := { t.plumb with y := 0, fLast := 0, byCommit := [], clks := [] } }
  ((((t.plumbEnter 0).put R.PLUMB_PHASE_ERR_NS 0).put R.PLUMB_FREQ_Y 0).put R.TICK_STATUS_EPOCH_VALID 0).each 6 State.tasNoTime

/-- The unit starts again at a wake, in FREERUN with every slot ABSENT; HOLD_EST, HOLD_VALID and the history bits are kept. A selection and a
holdover that SLEEP cut short end here, as any other does (R185, R192, R194). -/
def State.plumbStart (s : State) : State :=
  let t := s.each 8 (fun t n => (t.setRef n RefHid.init).put R.REF_STATUS_STATE 0 n)
  ({ t with tickNum := 0 }.selChange 15).mediaStart

end Sys2Proof.Machine
end

