-- ==== Sys2Proof/Machine/Power.lean ====
section
/-! DEFINITION. The power stage (R299 to R327): channel states, gain and common-mode ramps, trips and retries, clock error,
boost rails, limiters and the tick's part in them. Ramp positions are kept to a tick (log entry 27). -/

namespace Sys2Proof.Machine

/-! ### Access -/

/-- The hidden state of a channel. -/
def State.ch (s : State) (n : Nat) : PchHid := Sparse.get PchHid.init s.power.ch n

/-- The hidden state of a channel at x. -/
def State.setCh (s : State) (n : Nat) (x : PchHid) : State :=
  { s with power := { s.power with ch := Sparse.put PchHid.init s.power.ch n x } }

/-- The hidden state of a channel changed. -/
def State.modCh (s : State) (n : Nat) (f : PchHid → PchHid) : State := s.setCh n (f (s.ch n))

/-- The hidden state of a rail. -/
def State.rail (s : State) (r : Nat) : RailHid := Sparse.get RailHid.init s.power.rails r

/-- The hidden state of a rail changed. -/
def State.modRail (s : State) (r : Nat) (f : RailHid → RailHid) : State :=
  { s with power := { s.power with rails := Sparse.put RailHid.init s.power.rails r (f (s.rail r)) } }

/-- Channel states (R305). -/
abbrev chOff : Nat := 0
/-- Under diagnostics. -/
abbrev chDiag : Nat := 1
/-- The common mode rises. -/
abbrev chUp : Nat := 2
/-- Programme. -/
abbrev chPlay : Nat := 3
/-- Muted. -/
abbrev chMute : Nat := 4
/-- The common mode falls. -/
abbrev chDown : Nat := 5
/-- Waiting for a retry. -/
abbrev chRetry : Nat := 6
/-- Latched. -/
abbrev chLatched : Nat := 7

/-- A channel's state. -/
def State.chState (s : State) (n : Nat) : Nat := s.get R.PCH_STATUS_STATE n

/-- The bridges of the state switch. -/
def switching (st : Nat) : Bool := 2 ≤ st && st ≤ 5

/-- DAC cycles of a full gain ramp, 20 ms (R306). -/
abbrev gainFull : Nat := 122880

/-- ON in force; EN = 0 of the page behaves as ON = 0 (R473). -/
def State.chOn (s : State) (n : Nat) : Bool := s.flag R.PCH_CTRL_ON n && s.flag R.PG_CTRL_EN (0x50 + n)

/-- The channel is to be muted: by its field, or by a seating or cold-starting role (R395), or until the outputs of a
unit just sealed begin (R402). -/
def State.muteWanted (s : State) (n : Nat) : Bool :=
  s.flag R.PCH_CTRL_MUTE n || s.role == .seating || s.role == .coldStart || s.settling

/-- The DAC clock is lost (R309): PLL-M, or the die link. -/
def State.clockError (s : State) : Bool := s.power.pllLost || s.power.linkLost

/-- A forced stop holds every gate off (R315, R324, R325, R487). -/
def State.gatesHeld (s : State) : Bool :=
  s.flag R.SUP_PWR_STATUS_VIN_RESET || s.flag R.SUP_PWR_STATUS_VGD_UVLO || s.flag R.SUP_LOGIC_STATUS_VDD5_STOP ||
  s.flag R.TEMP_STATUS_POWER_SHUT || s.power.linkOff || s.power.linkLost

/-- The rail of a channel is in TRACK (R316). -/
def State.railTracks (s : State) (n : Nat) : Bool := s.get R.BST_STATUS_STATE (n / 4) == 2

/-! ### State changes (R305) -/

/-- A channel enters a state: EV_PCH_STATE, the change bit, the clock-error flag, and the pilot window, which survives a
change between PLAY and MUTE alone (R344). -/
def State.enterCh (s : State) (n st : Nat) : State :=
  let old := s.chState n
  if old = st then s
  else
    let keeps := (old == chPlay || old == chMute) && (st == chPlay || st == chMute)
    let t := s.modCh n (fun x => { x with pilotBad := x.pilotBad || !keeps })
    (((t.put R.PCH_STATUS_STATE st n).putBit R.PCH_STATE_CHG_CHG n true).put R.PCH_STATUS_CLK_MUTE
      (b2n (switching st && s.clockError)) n).raise EV_PCH_STATE

/-- Feed or modulation in force is not what the selector and modulator use. -/
def State.feedMoved (s : State) (n : Nat) : Bool :=
  (if s.flag R.PCH_CFG_FEED_EN n then s.get R.PCH_CFG_FEED n else 256) != (s.ch n).feed || s.get R.PCH_CFG_MOD n != (s.ch n).mod

/-- Feed and modulation that a commit left waiting are applied (R308), and the channel is in closed loop again unless it
is configured open (R304); a pilot window that spans a change of modulation is not valid (R344). -/
def State.applyFeed (s : State) (n : Nat) : State :=
  let t := s.modCh n (fun x => { x with
    feed := if s.flag R.PCH_CFG_FEED_EN n then s.get R.PCH_CFG_FEED n else 256
    mod := s.get R.PCH_CFG_MOD n
    slipped := x.slipped && s.get R.PCH_CFG_MOD n == x.mod
    pilotBad := x.pilotBad || s.get R.PCH_CFG_MOD n != x.mod })
  if t.get R.PCH_CFG_MOD n = (s.ch n).mod then t else t.put R.PCH_STATUS_OPEN_LOOP (b2n (t.get R.PCH_CFG_MOD n == 2)) n

/-- The bridges stop: every ramp and test of the channel ends, and it is in state st. -/
def State.chDead (s : State) (n st : Nat) : State :=
  let t := s.modCh n (fun x => { x with
    gain := 0, dir := 0, gainEnd := .stay, cm := 0, stopTo := 0, test := 0, expired := false, slipped := false, react := 1000000 })
  (((t.applyFeed n).put R.PCH_STATUS_WAIT_RAIL 0 n).enterCh n st)

/-- The cause of a stop recorded. -/
def State.chMark (s : State) (n cause : Nat) : State :=
  (s.put R.PCH_STATUS_CAUSE cause n).put R.PCH_STATUS_FAULT_SEEN 1 n

/-- A fault of a channel: cause, tick and event (R310). -/
def State.chFault (s : State) (n cause : Nat) : State :=
  (((s.chMark n cause).put R.PCH_FAULT_INFO_CAUSE cause n).put R.PCH_FAULT_INFO_TICK (s.tickNum % 65536) n).raise
    (EV_PCH0_FAULT + n)

/-- A failed retry (R311): LATCHED at the third, else RETRY_WAIT. -/
def State.retryFails (s : State) (n : Nat) : State :=
  let k := s.get R.PCH_STATUS_RETRY_NUM n + 1
  let t := s.put R.PCH_STATUS_RETRY_NUM (min 3 k) n
  if 3 ≤ k then
    (((t.bump R.RETRY_CNT n).raise (EV_PCH0_FAULT + n)).modCh n (fun x => { x with retried := false })).chDead n chLatched
  else t.chDead n chRetry

/-- The operation on a channel ends early, its tone at once (R341). -/
def State.diagCut (s : State) (n : Nat) : State :=
  if s.diag.cur = some n then
    ({ s with diag := { s.diag with step := 10 } }.put R.DIAG_RES_AC_RESULT 3 n).when
      (decide (3 ≤ s.diag.step) && decide (s.diag.step ≤ 8)) (fun t => t.send (.toneStop n))
  else s

/-- A trip (R310, R311, R341). -/
def State.chTrip (s : State) (n cause : Nat) : State :=
  let t := ((s.diagCut n).chFault n cause).bump R.SHUTDOWN_CNT n
  if (t.ch n).retried then t.retryFails n else t.chDead n chRetry

/-! ### Ramps (R306) -/

/-- The gain ramp runs in a direction. -/
def State.gainRun (s : State) (n dir : Nat) (e : GainEnd) : State :=
  s.modCh n (fun x => { x with
    dir := dir, gainEnd := e, pilotBad := x.pilotBad || e == .toDown, outFrom := if e == .toDown then x.gain else x.outFrom })

/-- The common-mode ramp down begins from the level reached. -/
def State.rampDown (s : State) (n : Nat) : State :=
  let total := s.get R.PCH_CFG_CM_RAMP n * 30720
  let t := s.modCh n (fun x => { x with
    cm := if s.chState n = chUp ∨ s.chState n = chDiag then x.cm * total / (max 1 x.cmTotal) else total
    cmTotal := total, gain := 0, dir := 0, gainEnd := .stay })
  t.enterCh n chDown

/-- RAMP_UP begins (R303 to R305, R314): a channel whose NTC holds it waits in RETRY_WAIT. Here it starts, and takes SHUNT and LOAD_NOM (R308). -/
def State.rampUp (s : State) (n : Nat) : State :=
  if (s.ch n).ntcShut then (s.chFault n 5).chDead n chRetry
  else
    let t := (s.applyFeed n).put R.PCH_STATUS_OPEN_LOOP (b2n (s.get R.PCH_CFG_MOD n == 2)) n
    let t := t.modCh n (fun x => { x with
      gain := 0, dir := 0, gainEnd := .stay, cm := 0, cmTotal := s.get R.PCH_CFG_CM_RAMP n * 30720, stopTo := 0, test := 0
      armed := false, slipped := false, shunt := s.get R.PCH_PROT_SHUNT n, load := s.get R.PCH_LEVEL_LOAD_NOM n })
    (t.put R.PCH_STATUS_WAIT_RAIL 0 n).enterCh n chUp

/-- The gain ramp has ended (R305, R306, R308). -/
def State.gainDone (s : State) (n : Nat) : State :=
  let x := s.ch n
  if x.dir = 1 then s.setCh n { x with gain := gainFull, dir := 0, gainEnd := .stay }
  else
    let t := (s.setCh n { x with gain := 0, dir := 0, gainEnd := .stay }).applyFeed n
    if x.gainEnd = .toDown then t.rampDown n
    else if t.muteWanted n then t.enterCh n chMute
    else t.gainRun n 1 .stay

/-- GAIN_RAMP_END (R306): the 20 ms gain ramp of a channel ends; a clock error pauses it. -/
def execGainRampEnd (ch : Fin 8) (s : State) : Ans := .next <|
  if s.powered && (s.ch ch.val).dir != 0 && !s.clockError && (s.chState ch.val == chPlay || s.chState ch.val == chMute) then s.gainDone ch.val else s

/-! ### Starting (R307, R311, R321) -/

/-- The DC test of a channel begins (R336): 1 start, 2 retry, 3 commanded. -/
def State.dcTest (s : State) (n kind : Nat) : State :=
  let t := s.modCh n (fun x => { x with test := kind, retried := x.retried || kind == 2 })
  (t.put R.PCH_STATUS_WAIT_RAIL 0 n).enterCh n chDiag

/-- An armed channel in OFF starts once its rail is in TRACK (R307). -/
def State.chStart (s : State) (n : Nat) : State :=
  if !s.runs ∨ s.chState n ≠ chOff ∨ !(s.ch n).armed then s
  else if !s.railTracks n || s.gatesHeld then s.put R.PCH_STATUS_WAIT_RAIL 1 n
  else if s.flag R.PCH_CFG_START_TEST n then (s.modCh n (fun x => { x with armed := false })).dcTest n 1
  else s.rampUp n

/-- A forced stop after which a channel may not yet be armed (R315, R325, R487). -/
def State.armBarred (s : State) : Bool :=
  s.flag R.TEMP_STATUS_POWER_SHUT || s.flag R.SUP_PWR_STATUS_VGD_UVLO || s.flag R.SUP_LOGIC_STATUS_VDD5_STOP

/-- A channel in OFF with ON = 1 is armed (R307). -/
def State.chArm (s : State) (n : Nat) : State :=
  if s.chState n = chOff && s.chOn n && s.runs && !s.armBarred then (s.modCh n (fun x => { x with armed := true })).chStart n else s

/-- Every channel is armed: entry into RUN (R307). -/
def State.armAll (s : State) : State := s.each 8 State.chArm

/-- A channel in RETRY_WAIT whose 500 ms are over (R311, R327): the retry test, once its rail is in TRACK. -/
def State.retryGo (s : State) (n : Nat) : State :=
  if !s.runs ∨ !s.chOn n then s.chDead n chOff
  else if !s.railTracks n then (s.modCh n (fun x => { x with expired := true })).put R.PCH_STATUS_WAIT_RAIL 1 n
  else (s.modCh n (fun x => { x with expired := false })).dcTest n 2

/-- A channel that waits for its rail or its NTC starts through RAMP_UP, RETRY_NUM unchanged (R314, R321). -/
def State.chResume (s : State) (n : Nat) : State :=
  if !s.runs ∨ !s.chOn n then s.chDead n chOff
  else if !s.railTracks n then s.put R.PCH_STATUS_WAIT_RAIL 1 n
  else s.rampUp n

/-- RETRY_WAIT_EXPIRY (R311). -/
def execRetryWaitExpiry (ch : Fin 8) (s : State) : Ans := .next <|
  let n := ch.val
  let c := s.get R.PCH_STATUS_CAUSE n
  if s.powered && s.chState n == chRetry && c != 5 && c != 6 then s.retryGo n else s

/-- RETRY_NUM_CLEAR (R311): 60 s of continuous PLAY. -/
def execRetryNumClear (ch : Fin 8) (s : State) : Ans := .next <|
  if s.powered && s.chState ch.val == chPlay then
    (s.put R.PCH_STATUS_RETRY_NUM 0 ch.val).modCh ch.val (fun x => { x with retried := false })
  else s

/-- A commanded test whose rail reaches TRACK begins (R339). -/
def State.diagRail (s : State) : State :=
  match s.diag.cur with
  | some n => if s.diag.step = 0 && s.railTracks n then { s with diag := { s.diag with step := 1 } }.dcTest n 3 else s
  | none => s

/-- What waits on a rail that reaches TRACK (R307, R321, R327, R339). -/
def State.railReached (s : State) (r : Nat) : State :=
  (s.each 4 (fun t k =>
    let n := 4 * r + k
    let st := t.chState n
    if st = chOff && (t.ch n).armed then t.chStart n
    else if st = chRetry && (t.get R.PCH_STATUS_CAUSE n == 6) then t.chResume n
    else if st = chRetry && (t.get R.PCH_STATUS_CAUSE n == 5) && !(t.ch n).ntcShut then t.chResume n
    else if st = chRetry && (t.ch n).expired then t.retryGo n else t)).diagRail

/-! ### Rails (R316 to R321) -/

/-- VMIN in µV. -/
def State.vmin (s : State) (r : Nat) : Nat := s.get R.BST_CFG_VMIN r * 1000000

/-- The rail's command reported (R333), and whether it lies below VIN less the rectifier's drop (R316). DESIGN CHOICE (log entry 135): a rail whose
gates are off has no command, and PASS is 0. -/
def State.railShow (s : State) (r : Nat) : State :=
  let cmd := (s.rail r).cmd
  let vin := s.get R.SUP_VIN_MEAS_VOLTS * 10000
  let runs := s.get R.BST_STATUS_STATE r == 1 || s.get R.BST_STATUS_STATE r == 2
  (s.put R.BST_VSET_VOLTS (cmd / 10000) r).put R.BST_STATUS_PASS (b2n (runs && decide (cmd < vin) && decide (cmd + Config.rectDrop < vin))) r

/-- A rail enters TRACK with its command at VMIN (R321). -/
def State.railTrack (s : State) (r : Nat) : State :=
  (((s.modRail r (fun x => { x with cmd := s.vmin r, setp := s.vmin r })).put R.BST_STATUS_STATE 2 r).railShow r).railReached r

/-- Soft start from VIN (R321); at once complete where VIN stands above VMIN. -/
def State.railSoft (s : State) (r : Nat) : State :=
  let vin := s.get R.SUP_VIN_MEAS_VOLTS * 10000
  let t := (s.modRail r (fun x => { x with cmd := vin, setp := s.vmin r })).put R.BST_STATUS_STATE 1 r
  if s.vmin r ≤ vin then t.railTrack r else t.railShow r

/-- A rail is OFF, for a cause or without one (0). -/
def State.railOff (s : State) (r cause : Nat) : State :=
  let t := (s.modRail r (fun x => { x with cmd := 0, setp := 0 })).put R.BST_STATUS_STATE 0 r
  let t := if cause = 0 then t else (t.put R.BST_STATUS_CAUSE cause r).put R.BST_STATUS_FAULT_SEEN 1 r
  t.railShow r

/-- The rail runs or soft-starts. -/
def State.railRuns (s : State) (r : Nat) : Bool := s.get R.BST_STATUS_STATE r == 1 || s.get R.BST_STATUS_STATE r == 2

/-- The rail may run (R321, R473): enabled, no forced stop, in RUN or for a channel in DIAG. A rail that runs is kept until its
channels have ramped down (R459). -/
def State.railPermitted (s : State) (r : Nat) : Bool :=
  s.flag R.BST_CTRL_EN r && s.flag R.PG_CTRL_EN (0x58 + r) && !s.gatesHeld &&
  (s.dev == .run || (List.range 4).any (fun k =>
    let st := s.chState (4 * r + k)
    st == chDiag || (s.railRuns r && switching st)))

/-- A rail whose last channel has come to rest stops where it may not run (R321, R459), and one that waits for a retry does so no longer. -/
def State.railRest (s : State) (r : Nat) : State :=
  if (s.railRuns r || s.get R.BST_STATUS_STATE r == 3) && !s.railPermitted r && !s.power.linkLost then s.railOff r 0 else s

/-- The rail follows its permission (R321). -/
def State.railEval (s : State) (r : Nat) : State :=
  if (s.railRuns r || s.get R.BST_STATUS_STATE r == 3) && !s.railPermitted r then s.railRest r
  else if s.get R.BST_STATUS_STATE r = 0 && s.railPermitted r && !(s.rail r).ntcShut then s.railSoft r
  else s

/-- Both rails follow their permission. -/
def State.railsEval (s : State) : State := s.each 2 State.railEval

/-- The faults of the last 60 s (R321). -/
def State.railRecent (s : State) (r : Nat) : List Nat := (s.rail r).faults.filter (fun f => decide (s.tg < f + 360000))

/-- Channels of a faulted rail (R321), with the tick of it (R327). -/
def State.railDrops (s : State) (r : Nat) (latched : Bool) : State :=
  s.each 4 (fun t k =>
    let n := 4 * r + k
    if switching (t.chState n) then
      let u := ((t.chMark n 6).modCh n (fun x => { x with railAt := some t.tg })).chDead n (if latched then chOff else chRetry)
      if latched then u else u.put R.PCH_STATUS_WAIT_RAIL 1 n
    else if latched && t.chState n = chRetry && t.get R.PCH_STATUS_CAUSE n == 6 then t.chDead n chOff
    else t)

/-- A rail fault (R321): both gates stop; LATCHED at the third within 60 s, NTC_SHUT excluded. -/
def State.railFault (s : State) (r cause : Nat) : State :=
  let f := if cause = 4 then s.railRecent r else s.tg :: s.railRecent r
  let latched := cause != 4 && decide (3 ≤ f.length)
  let t := s.modRail r (fun x => { x with cmd := 0, setp := 0, faults := f })
  let t := ((t.put R.BST_STATUS_CAUSE cause r).put R.BST_STATUS_FAULT_SEEN 1 r).put R.BST_STATUS_RETRY_NUM (min 3 f.length) r
  let t := ((t.put R.BST_FAULT_INFO_CAUSE cause r).put R.BST_FAULT_INFO_TICK (s.tickNum % 65536) r).bump R.BST_FAULT_CNT r
  let t := ((t.raise (EV_BOOST_A_FAULT + r)).put R.BST_STATUS_STATE (if latched then 4 else 3) r).railShow r
  t.railDrops r latched

/-- A rail that NTC_SHUT stops faults once none of its channels switches (R314). -/
def State.railNtc (s : State) (r : Nat) : State :=
  if (s.rail r).ntcShut && s.railRuns r && !(List.range 4).any (fun k => switching (s.chState (4 * r + k))) then s.railFault r 4
  else s

/-- RAIL_SOFT_START_DONE (R321). -/
def execRailSoftStartDone (rail : Fin 2) (s : State) : Ans := .next <|
  if s.get R.BST_STATUS_STATE rail.val = 1 then s.railTrack rail.val else s

/-- BOOST_OVP (R321, R333): VB rises above VMAX + 4 V or is back below it; a running rail's cycles are stopped above, and 1 ms of it is a fault. -/
def execBoostOvp (rail : Fin 2) (above lasted : Bool) (cycles : Nat) (s : State) : Ans := .next <|
  let r := rail.val
  if !s.powered then s
  else
    let t := s.put R.BST_STATUS_OVP (b2n above) r
    if !t.railRuns r then t
    else if lasted then (t.bumpBy R.BST_OVP_CNT cycles r).railFault r 1 else t.bumpBy R.BST_OVP_CNT cycles r

/-- BOOST_UVP (R321): VB below VIN − 3 V for 1 ms while switching. -/
def execBoostUvp (rail : Fin 2) (s : State) : Ans := .next <| if s.railRuns rail.val then s.railFault rail.val 2 else s

/-- BOOST_PHASE_OCP (R321): 256 consecutive cycles limited on one phase. -/
def execBoostPhaseOcp (rail _phase : Fin 2) (s : State) : Ans := .next <|
  if s.railRuns rail.val then s.railFault rail.val 3 else s

/-- BOOST_RETRY_EXPIRY (R321): 500 ms after a fault the rail soft-starts again, if it is still permitted. -/
def execBoostRetryExpiry (rail : Fin 2) (s : State) : Ans := .next <|
  let r := rail.val
  if s.get R.BST_STATUS_STATE r = 3 && s.get R.BST_STATUS_CAUSE r != 4 then
    let t := s.railOff r 0
    t.railEval r
  else s

/-- BST_CLEAR (R333): LATCHED to OFF; an enabled and permitted rail starts. -/
def execBstClear (who : Initiator) (rail : Fin 2) (s : State) : Ans := .next <|
  s.command who (0x58040 + 0x1000 * rail.val) (fun t =>
    if t.get R.BST_STATUS_STATE rail.val = 4 then
      ((t.modRail rail.val (fun x => { x with faults := [] })).railOff rail.val 0).railEval rail.val
    else t)

/-! ### Stops -/

/-- A channel stops (R305 to R307): to OFF (0), or to RETRY_WAIT for NTC_SHUT (6) or for its rail (7). In MUTE the 20 ms gain ramp runs for the pilot
alone (R343, R459). An operation on the channel goes on (R339), but for NTC_SHUT, which ends it as a trip does (R314, R341). -/
def State.chStop (s : State) (n goal : Nat) : State :=
  let t := s.modCh n (fun x => { x with armed := false })
  let st := t.chState n
  let u := t.modCh n (fun x => { x with stopTo := goal })
  if st = chPlay then (if (u.ch n).gain = 0 then u.rampDown n else u.gainRun n 2 .toDown)
  else if st = chMute then
    (if (u.ch n).gainEnd == .toDown then u else (u.modCh n (fun x => { x with gain := gainFull })).gainRun n 2 .toDown)
  else if st = chUp then u.rampDown n
  else if st = chDown then u
  else if st = chDiag && s.diag.cur == some n then
    (if goal = 0 then t else if 2 ≤ s.diag.step ∧ s.diag.step ≤ 9 then (u.diagCut n).rampDown n else (t.diagCut n).chDead n chRetry)
  else if st = chDiag then (if goal = 0 then t.chDead n chOff else t.chDead n chRetry)
  else if st = chOff then t.put R.PCH_STATUS_WAIT_RAIL 0 n
  else t

/-- Every channel stops (R307, R430, R459); in SAFE a clock error leaves no ramp, and the channel is forced off (R43). -/
def State.stopAll (s : State) : State :=
  s.each 8 (fun t n =>
    if t.dev = .safe && t.clockError && switching (t.chState n) then t.chDead n chOff else t.chStop n 0)

/-- Every channel not in OFF or LATCHED goes to OFF with a cause (R315, R324, R325); one that waits in OFF for its rail waits on (R307). -/
def State.forceOff (s : State) (cause : Nat) : State :=
  s.each 8 (fun t n =>
    let st := t.chState n
    if st = chOff || st = chLatched then t
    else (((t.diagCut n).chMark n cause).modCh n (fun x => { x with armed := false })).chDead n chOff)

/-- Both rails to OFF with a cause, a LATCHED one apart. -/
def State.railsOff (s : State) (cause : Nat) : State :=
  s.each 2 (fun t r => if t.get R.BST_STATUS_STATE r = 4 then t else t.railOff r cause)

/-- The forced stop of channels and rails; the causes of R332 and of R333 differ by 2. -/
def State.forcedStop (s : State) (cause : Nat) : State := (s.forceOff cause).railsOff (cause - 2)

/-- Mute as it is now wanted (R305, R395). -/
def State.muteEval (s : State) (n : Nat) : State :=
  let x := s.ch n
  let st := s.chState n
  let want := s.muteWanted n
  if st = chPlay && want && x.gainEnd == .stay then
    (if x.gain = 0 && x.dir = 0 then s.enterCh n chMute else s.gainRun n 2 .toMute)
  else if st = chPlay && !want && x.gainEnd == .toMute then (if s.feedMoved n then s.gainRun n 2 .change else s.gainRun n 1 .stay)
  else if st = chMute && !want && x.gainEnd == .stay then (s.enterCh n chPlay).gainRun n 1 .stay
  else s

/-- Every channel's mute follows the role (R395). -/
def State.muteAll (s : State) : State := s.each 8 State.muteEval

/-- PCH_CLEAR (R305, R307, R311). -/
def execPchClear (who : Initiator) (ch : Fin 8) (s : State) : Ans := .next <|
  s.command who (0x50040 + 0x1000 * ch.val) (fun t =>
    let n := ch.val
    let u := (t.put R.PCH_STATUS_RETRY_NUM 0 n).modCh n (fun x => { x with retried := false })
    let u := if u.chState n = chLatched then u.chDead n chOff else u
    u.chArm n)

/-- A commit of a channel's page (R307, R308). -/
def State.pchCommit (s old : State) (n : Nat) : State :=
  let x := s.ch n
  let st := s.chState n
  let vfs := s.get R.PCH_LEVEL_VFS n * 100000
  let t := if vfs = x.vfsTo then s else
    s.setCh n { x with vfsFrom := (if st = chPlay then (x.vfsFrom * (120 - x.vfsRun) + x.vfsTo * x.vfsRun) / 120 else vfs), vfsTo := vfs, vfsRun := 0 }
  let t := if !s.feedMoved n then t
    else if st != chPlay then t.applyFeed n
    else if (t.ch n).gainEnd == .stay then t.gainRun n 2 .change else t
  let t := if old.chOn n && !t.chOn n then t.chStop n 0
    else if !old.chOn n && t.chOn n then t.chArm n else t
  t.muteEval n

/-- A commit of a rail's page (R321). -/
def State.bstCommit (s : State) (r : Nat) : State := s.railEval r

/-! ### Protection (R302, R304, R310, R313) -/

/-- The channel's bridges are driven: switching, or under a commanded sweep. -/
def State.chDriven (s : State) (n : Nat) : Bool :=
  switching (s.chState n) || (s.chState n == chDiag && s.diag.cur == some n && 2 ≤ s.diag.step && s.diag.step ≤ 9)

/-- A trip of the channel is taken: its bridges are driven, or were in this tick until its rail faulted (R327). -/
def State.chTrips (s : State) (n : Nat) : Bool :=
  s.chDriven n || (s.chState n == chRetry && s.get R.PCH_STATUS_CAUSE n == 6 && (s.ch n).railAt == some s.tg)

/-- OCP_CYCLE_LIMIT (R310, R341): limited cycles are counted; on a channel under a commanded test the tone stops and the
channel returns to OFF through RAMP_DOWN. -/
def execOcpCycleLimit (ch : Fin 8) (cycles : Nat) (s : State) : Ans := .next <|
  let n := ch.val
  let st := s.chState n
  if !s.powered || !s.chDriven n then s
  else if switching st then s.bumpBy R.OCP_CYCLE_CNT cycles n
  else ((s.bumpBy R.OCP_CYCLE_CNT cycles n).diagCut n).rampDown n

/-- OCP_SUSTAINED (R310): 64 consecutive cycles limited. -/
def execOcpSustained (ch : Fin 8) (s : State) : Ans := .next <|
  if s.powered && s.chTrips ch.val then s.chTrip ch.val 1 else s

/-- OCP_FAST (R310): the current reaches 1.25 × CS_LIMIT. -/
def execOcpFast (ch : Fin 8) (s : State) : Ans := .next <|
  if s.powered && s.chTrips ch.val then s.chTrip ch.val 2 else s

/-- DC_FAULT (R313): LATCHED at once, no retry. -/
def execDcFault (ch : Fin 8) (s : State) : Ans := .next <|
  let n := ch.val
  if s.powered && s.chTrips n then
    ((((s.diagCut n).chFault n 3).bump R.DC_FAULT_CNT n).modCh n (fun x => { x with retried := false })).chDead n chLatched
  else s

/-- SENSE_LOSS (R304): a closed-loop channel falls back to OPEN_LOOP, or trips where AUTO_FB is 0. -/
def execSenseLoss (ch : Fin 8) (s : State) : Ans := .next <|
  let n := ch.val
  if !s.powered || !s.chDriven n || s.flag R.PCH_STATUS_OPEN_LOOP n || (s.ch n).mod == 2 then s
  else if s.flag R.PCH_CFG_AUTO_FB n then
    ((((s.modCh n (fun x => { x with pilotBad := true })).put R.PCH_STATUS_OPEN_LOOP 1 n).put R.PCH_STATUS_FALLBACK_SEEN 1 n).bump
      R.FALLBACK_CNT n).raise EV_SENSE_FALLBACK
  else s.chTrip n 1

/-- SYNC_SLIP (R302): a SYNC channel in lock leaves it above a modulation index of 0.85; a fallback has stopped the count
(R466). -/
def execSyncSlip (ch : Fin 8) (s : State) : Ans := .next <|
  let n := ch.val
  if s.powered && s.chDriven n && (s.ch n).mod == 1 && !s.flag R.PCH_STATUS_OPEN_LOOP n && !(s.ch n).slipped then
    ((s.bump R.SYNC_SLIP_CNT n).put R.PCH_STATUS_SYNC_SLIP 1 n).modCh n (fun x => { x with slipped := true })
  else s

/-- SYNC_RELOCK (R302): the channel locks to the carrier again; audio, counter and flag are as before. -/
def execSyncRelock (ch : Fin 8) (s : State) : Ans := .next <| s.modCh ch.val (fun x => { x with slipped := false })

/-- Peak of a diagnostic tone, L dB below 50.0 V, in µV, for L from 6 to 48 (R338, R343). -/
def tonePeak (l : Nat) : Nat :=
  ([25059361, 22334179, 19905358, 17740669, 15811388, 14091914, 12559432, 11193605, 9976311, 8891397, 7924465, 7062687,
    6294627, 5610092, 5000000, 4456254, 3971641, 3539728, 3154786, 2811706, 2505936, 2233417, 1990535, 1774066, 1581138,
    1409191, 1255943, 1119360, 997631, 889139, 792446, 706268, 629462, 561009, 500000, 445625, 397164, 353972, 315478,
    281170, 250593, 223341, 199053][l - 6]?).getD 0

/-- Tone k of a sweep (R338): 0.5, 2, 8, 16 and 20 kHz at SWEEP_LEVEL, then PILOT_FREQ at the pilot's level. -/
def State.toneSpec (s : State) (k : Nat) : DiagTone :=
  ⟨([500, 2000, 8000, 16000, 20000][k]?).getD (s.get R.DIAG_PILOT_FREQ * 10),
    tonePeak (if k < 5 then s.get R.DIAG_CFG_SWEEP_LEVEL else s.get R.DIAG_PILOT_LEVEL), 100, 5⟩

/-- The tone that a channel's sweep plays now, in µV; 0 without one (R339). -/
def State.toneNow (s : State) (n : Nat) : Nat :=
  if s.diag.cur != some n then 0
  else if 3 ≤ s.diag.step ∧ s.diag.step ≤ 8 then (s.toneSpec (s.diag.step - 3)).peak else 0

/-! ### Clock error and the die link (R23, R309, R315) -/

/-- The clock error of every channel shows as it now stands: at its start EV_CLK_MUTE once; at its end paused ramps resume,
channels in PLAY return through the gain ramp (R217, R309), and a sweep's tone is repeated (R346). -/
def State.clockChange (s : State) (was : Bool) : State :=
  if was = s.clockError then s
  else if s.clockError then
    (s.each 8 (fun t n =>
      if switching (t.chState n) then
        (if t.dev = .safe then t.chDead n chOff
         else (t.modCh n (fun x => { x with pilotBad := true })).put R.PCH_STATUS_CLK_MUTE 1 n)
      else t.when (decide (t.toneNow n ≠ 0)) (fun v => v.send (.toneStop n)))).raise EV_CLK_MUTE
  else
    s.each 8 (fun t n =>
      let u := (t.put R.PCH_STATUS_CLK_MUTE 0 n).when (decide (t.toneNow n ≠ 0)) (fun v => v.send (.tone n (v.toneSpec (v.diag.step - 3))))
      if u.chState n = chPlay && (u.ch n).gainEnd == .stay then (u.modCh n (fun x => { x with gain := 0 })).gainRun n 1 .stay
      else u)

/-- DAC_CLOCK_LOSS (R309): within 4 µs of PLL-M's gating the power die mutes every channel. -/
def execDacClockLoss (s : State) : Ans := .next <|
  if s.powered && s.pllmGated && !s.power.pllLost then
    { s with power := { s.power with pllLost := true } }.clockChange s.clockError
  else s

/-- The die link is lost (R23). -/
def State.linkLoss (s : State) : State :=
  if s.power.linkLost then s
  else { s with power := { s.power with linkLost := true, linkTicks := 0 } }.clockChange s.clockError

/-- What the die link's frames carry now (R22). -/
def State.linkContent (s : State) : DieLink :=
  ⟨(List.range 8).map (fun n =>
      if switching (s.chState n) && !s.clockError then (s.ch n).out else List.replicate 8 0),
    (List.range 2).map (fun r => (s.rail r).setp),
    (List.range 8).map s.chState ++ (List.range 2).map (fun r => s.get R.BST_STATUS_STATE r)⟩

/-- A good frame reaches the power die: its content is the one that a bad frame after it repeats. -/
def State.linkTake (s : State) : State := { s with power := { s.power with link := s.linkContent } }

/-- DIE_LINK_FRAME (R22, R23): a frame that fails its check is replaced by the previous one; 16 failures in a row are a loss of the
DAC clock. DESIGN CHOICE (log entry 106): the rule names no end of the loss; one good frame ends it, and a shutdown after 100 ms with it. -/
def execDieLinkFrame (ok : Bool) (s : State) : Ans := .next <|
  if !s.powered then s
  else if ok then
    let t := { s with power := { s.power with badFrames := 0, linkLost := false, linkOff := false, linkTicks := 0 } }
    (((t.clockChange s.clockError).railsEval).each 8 State.chStart).linkTake
  else
    let t := { s with power := { s.power with badFrames := s.power.badFrames + 1 } }.send
      (.dieHeld s.power.link.samples s.power.link.setpoints)
    if 16 ≤ t.power.badFrames then t.linkLoss else t

/-- DIE_LINK_LOSS (R23): 16 consecutive frames have failed. -/
def execDieLinkLoss (s : State) : Ans := .next <| if s.powered then s.linkLoss else s

/-- DIE_LINK_SHUTDOWN (R315): the die link has failed for 100 ms, and every gate goes off without a ramp. -/
def execDieLinkShutdown (s : State) : Ans := .next <|
  if s.powered && s.power.linkLost then { s with power := { s.power with linkOff := true } }.forcedStop 10 else s

/-! ### The tick (R299, R318 to R320) -/

/-- What a channel needs of its rail in µV for a PEAK (R318, R320), without the 3.0 V margin. -/
def State.peakVolts (s : State) (n peak : Nat) : Nat := peak * s.get R.PCH_LEVEL_VFS n * 108000 / 65535

/-- The setpoint of a rail in µV (R318, R339). -/
def State.setpoint (s : State) (r : Nat) : Nat :=
  let needs := (List.range 4).filterMap (fun k =>
    let n := 4 * r + k
    if s.chState n = chPlay then
      some (s.peakVolts n (((s.ch n).look.take 4).foldl (fun a l => max a l.2) 0) + 3000000)
    else if s.toneNow n ≠ 0 then some (s.toneNow n * 108 / 100 + 3000000) else none)
  let vmax := s.get R.BST_CFG_VMAX r * 1000000
  if needs.isEmpty then s.vmin r else max (s.vmin r) (min vmax (needs.foldl max 0))

/-- The command moves towards its setpoint over one tick: 40 V/ms up, 1 V/ms down (R319). -/
def slew (cmd setp : Nat) : Nat := if cmd < setp then min setp (cmd + 6666666) else max setp (cmd - 166667)

/-- One tick of a rail (R318, R319, R321, R23). -/
def State.railTick (s : State) (r : Nat) : State :=
  let st := s.get R.BST_STATUS_STATE r
  let t :=
    if st = 2 then
      s.modRail r (fun x => { x with
        cmd := slew x.cmd x.setp
        setp := if s.power.linkLost then (if s.power.linkTicks = 0 then (s.power.link.setpoints[r]?).getD x.setp else 20000000) else s.setpoint r })
    else if st = 1 then s.modRail r (fun x => { x with cmd := min (s.vmin r) (x.cmd + 833333) })
    else s
  let t := t.put R.BST_STATUS_RETRY_NUM (min 3 (t.railRecent r).length) r
  let t := if t.flag R.BST_STATUS_IIN_LIM r then t.bump R.BST_IIN_LIM_CNT r else t
  t.railShow r

/-- A channel was limited by R320 in this tick: counted once, EV_RAIL_UV in the first tick of a run. -/
def State.railLimited (s : State) (n : Nat) : State :=
  if (s.ch n).limAt = some s.tg then s
  else
    let t := ((s.modCh n (fun x => { x with limAt := some s.tg })).bump R.RAIL_LIM_CNT n).put R.PCH_STATUS_RAIL_LIM 1 n
    let run := match s.power.limTick with | some k => decide (s.tg ≤ k + 1) | none => false
    let u := { t with power := { t.power with limTick := some s.tg } }
    if run then u else u.raise EV_RAIL_UV

/-- The gain of the reactive limiter in 10⁻⁶ at the measured rail (R320). DEDUCED (log entry 136): its `need` is the predictive limiter's, without
the margin. -/
def State.reactGain (s : State) (n : Nat) : Nat :=
  let need := s.peakVolts n (s.get R.PCH_PEAK_PEAK n)
  if need = 0 then 1000000 else min 1000000 ((s.get R.BST_VMEAS_VOLTS (n / 4) * 10000 - 3000000) * 1000000 / need)

/-- REACTIVE_RAIL_LIMIT (R317, R320): the measured rail falls below the need of the tick playing, and the channel's samples are scaled from here to
the end of the tick. -/
def execReactiveRailLimit (ch : Fin 8) (s : State) : Ans := .next <|
  if s.powered && s.chState ch.val == chPlay then
    let g := s.reactGain ch.val
    ((s.modCh ch.val (fun x => { x with pilotBad := true, react := g })).railLimited ch.val).send (.react ch.val g)
  else s

/-- The engine bus and PEAK of the last tick enter the lookahead of a channel (R26, R32). -/
def State.feedPush (s : State) (n : Nat) (x : List Int) (peak : Nat) : State :=
  s.modCh n (fun c => { c with look := (x, peak) :: c.look.take 4 })

/-- Ramps of a channel move over one tick, unless a clock error pauses them (R306, R308, R309). -/
def PchHid.advance (x : PchHid) (st : Nat) (up down : Bool) : PchHid :=
  { x with
    gain := if x.dir = 1 then min gainFull (x.gain + 1024) else if x.dir = 2 then x.gain - 1024 else x.gain
    cm := if st = chUp || up then min x.cmTotal (x.cm + 1024) else if st = chDown || down then x.cm - 1024 else x.cm
    vfsRun := min 120 (x.vfsRun + 1)
    fade := x.fade - 1 }

/-- The gain in 10⁻⁶ that holds a peak sample to a ceiling in 10⁻⁶. -/
def ceilGain (ceil : Nat) (x : List Int) : Nat :=
  let pk := x.foldl (fun a v => max a v.natAbs) 0
  if pk * 1000000 ≤ ceil * 2 ^ 31 then 1000000 else ceil * 2 ^ 31 / pk

/-- What the limiters of the lookahead hold a tick's samples to in 10⁻⁶: the thermal limiter at −3 dBFS, the brownout limiter at its ceiling, which
acts on a sweep's tone as on programme (R314, R323, R346). -/
def State.limitOf (s : State) (n : Nat) (x : List Int) : Nat × Nat :=
  let pk := s.toneNow n
  let top := s.power.brownCeil * s.get R.PCH_LEVEL_VFS n * 100000
  (if s.flag R.PCH_STATUS_THERM_LIM n then ceilGain 707946 x else 1000000,
    if pk = 0 then ceilGain s.power.brownCeil x else if pk * 1000000 ≤ top then 1000000 else top / pk)

/-- The limiters of the lookahead at the end of a tick (R314, R323): they attack over the tick before the one that needs it; the thermal one releases
at 20 dB/s. DESIGN CHOICE (log entry 137): the brownout limiter's gain, whose release the spec does not state, follows its ceiling over a tick. -/
def State.limitEnd (s : State) (n : Nat) (c : PchHid) : Nat × Nat :=
  let tick (k : Nat) : List Int := ((c.look[k]?).getD (List.replicate 8 0, 0)).1
  let a := s.limitOf n (tick 4)
  let b := s.limitOf n (tick 3)
  (min (min a.1 b.1) ((c.therm * 1000383838 + 999999999) / 1000000000), min a.2 b.2)

/-- The predictive rail gain of a tick in 10⁻⁶ (R320). -/
def State.railGain (s : State) (n peak : Nat) : Nat :=
  let need := s.peakVolts n peak
  let cmd := (s.rail (n / 4)).cmd
  if s.chState n ≠ chPlay ∨ need = 0 then 1000000 else min 1000000 ((cmd - 3000000) * 1000000 / need)

/-- The pilot of a channel over a tick (R343), with its hidden state at the start and the end: in PLAY and MUTE, faded in over 20 ms on entry to PLAY and
out with the gain ramp that precedes RAMP_DOWN; phase-continuous on house time. -/
def State.pilotNow (s : State) (n : Nat) (c d : PchHid) : Option Pilot :=
  let st := s.chState n
  let level (x : PchHid) : Nat := let f := (120 - x.fade) * 1024; if c.gainEnd == .toDown then f * x.gain / max 1 c.outFrom else f
  if s.bit R.DIAG_PILOT_EN n && (st == chPlay || st == chMute) && !s.clockError then
    let hz := s.get R.DIAG_PILOT_FREQ * 10
    some ⟨tonePeak (s.get R.DIAG_PILOT_LEVEL), hz, hz * s.tickNum % 6000, level c, level d⟩
  else none

/-- A number that moves linearly from a to b over a tick, at sample k. -/
def tickRamp (a b k : Nat) : Nat := (a * (8 - k) + b * k) / 8

/-- The sine generator at a phase in 1/48,000 of a cycle: 0 at its zero crossings, else of its half-wave's sign and free (R515). -/
def sineAt (phase : Nat) : Int :=
  if phase % 24000 = 0 then 0
  else
    let m : Int := ((Config.algValue ⟨0x0B, [], 0, 0, 0, 0, [(phase : Int)]⟩ 0).toNat % 2 ^ 31 : Nat)
    if phase < 24000 then m else -m

/-- Steps 3 and 4 of R299 at sample k of a tick, whose start is c and whose end d: VFS in µV, times the state gain in 1/122,880, times the smallest of
the rail, brownout and thermal gains in 10⁻⁶. -/
def chainGain (c d : PchHid) (k : Nat) : Nat :=
  let j := min 960 (8 * c.vfsRun + k)
  (c.vfsFrom * (960 - j) + c.vfsTo * j) / 960 *
  (if c.dir = 1 then min gainFull (c.gain + 128 * k) else if c.dir = 2 then c.gain - 128 * k else c.gain) *
  min (tickRamp c.rail d.rail k) (min (tickRamp c.brown d.brown k) (tickRamp c.therm d.therm k))

/-- A pilot at sample k of a tick, on the scale of `Drive.exact` (R299 step 5). -/
def Pilot.at (p : Pilot) (k : Nat) : Int :=
  sineAt ((8 * p.phase + p.hz * k) % 48000) * ((p.peak * tickRamp p.start p.stop k * 1000000 : Nat) : Int)

/-- The loop inputs of a tick (R299 step 6): silence stays silence. -/
def loopInputs (before now : List Int) : List Int :=
  if (before ++ now).all (· == 0) then List.replicate 1024 0
  else (List.range 1024).map (fun k => signedOf 24 (Config.interp (before ++ now) k).toNat)

/-- What the loop of a channel is given in a tick (R299): programme in PLAY alone, nothing under a clock error. -/
def State.drive (s : State) (n : Nat) (x : List Int) (c d : PchHid) : Drive :=
  let p := s.pilotNow n c d
  let y := (if s.chState n = chPlay && !s.clockError then x.zipIdx.map (fun v => v.1 * ((chainGain c d v.2 : Nat) : Int)) else List.replicate 8 0).zipIdx.map
    (fun v => v.1 + ((p.map (fun q => q.at v.2)).getD 0))
  let mode := if s.flag R.PCH_STATUS_OPEN_LOOP n then 2 else d.mod
  ⟨y, loopInputs c.out y, (c.react, 1000000), mode, if mode = 2 then some (s.get R.BST_VMEAS_VOLTS (n / 4)) else none, p⟩

/-- One tick of a channel: its ramps, the tick that now plays, its limiters (R299, R314, R320, R323). The reactive limiter releases over the tick. -/
def State.pchTick (s : State) (n : Nat) : State :=
  let c := s.ch n
  let st := s.chState n
  let e := (c.look[4]?).getD (List.replicate 8 0, 0)
  let g := s.railGain n e.2
  let l := s.limitEnd n c
  let diagOn := st == chDiag && s.diag.cur == some n
  let d := { (if s.clockError then c else c.advance st (diagOn && s.diag.step == 2) (diagOn && s.diag.step == 9)) with
    rail := g, therm := l.1, brown := l.2, react := 1000000 }
  let w := s.drive n e.1 c d
  let t := ((s.setCh n { d with out := w.exact }).put R.PCH_PEAK_PEAK e.2 n).put R.PCH_STATUS_RAIL_LIM 0 n
  let t := t.put R.PCH_STATUS_BROWN_LIM (b2n (decide (s.power.brownCeil < 1000000))) n
  let t := if switching st then t.send (.speaker n w)
    else t.when (decide (s.toneNow n ≠ 0 ∧ (c.brown, d.brown) ≠ (1000000, 1000000))) (fun u => u.send (.toneGain n c.brown d.brown))
  if g < 1000000 ∨ c.rail < 1000000 ∨ c.react < 1000000 then t.railLimited n else t

/-- The brownout ceiling lifts over 20 ms, and the hold is counted when it is over (R323). -/
def State.brownTick (s : State) : State :=
  if s.power.hold || s.power.brownCeil = 1000000 then s
  else if 995843 ≤ s.power.brownCeil then { s with power := { s.power with brownCeil := 1000000 } }.bump R.VIN_DIP_CNT
  else { s with power := { s.power with brownCeil := s.power.brownCeil + 4157 } }

/-- The power stage's part of a tick boundary, after the feeds have been pushed. The good die-link frames that no row names carry the content of the
tick (log entry 106). -/
def State.powerTick (s : State) : State :=
  let t := s.brownTick
  let t := t.each 2 (fun u r => (u.railTick r).railRest r)
  let t := if t.power.linkLost then { t with power := { t.power with linkTicks := t.power.linkTicks + 1 } } else t
  let t := (t.each 8 State.pchTick).each 2 State.railNtc
  t.when (!t.power.linkLost && t.power.badFrames == 0) State.linkTake

end Sys2Proof.Machine
end

