-- ==== Sys2Proof/Machine/Diag.lean ====
section
/-! DEFINITION. Load diagnostics and line supervision (R335 to R347), and the end of a common-mode ramp, which serves channel
states and sweeps alike (R306, R338). -/

namespace Sys2Proof.Machine

/-! ### The commanded operation (R338, R339, R341) -/

/-- The operation at x. -/
def State.setDiag (s : State) (x : Diag) : State := { s with diag := x }

/-- Every channel of the mask is done (R339). -/
def State.diagOver (s : State) : State :=
  ((s.setDiag ⟨0, [], none, 0, []⟩).put R.DIAG_CMD_BUSY 0).raise EV_DIAG_DONE

/-- The next channel of the mask that is in OFF enters DIAG and waits for its rail; the others are skipped (R339). -/
def State.diagNext (s : State) : State :=
  match s.diag.left.dropWhile (fun n => s.chState n != chOff) with
  | [] => s.diagOver
  | n :: rest =>
    (((s.setDiag { s.diag with left := rest, cur := some n, step := 0, tones := [] }).enterCh n chDiag).railsEval).diagRail

/-- A GO (R339): accepted in READY and RUN while no operation runs, else ignored with EV_HOST_ERR. -/
def State.diagGo (s : State) (op mask : Nat) : State :=
  let t := (s.put R.DIAG_CMD_OP op).put R.DIAG_CMD_CH_MASK mask
  if s.flag R.DIAG_CMD_BUSY || !(s.dev == .ready || s.dev == .run) then t.hostErr
  else if op = 0 then t
  else ((t.put R.DIAG_CMD_BUSY 1).setDiag ⟨op, (List.range 8).filter (fun n => bitAt mask n), none, 0, []⟩).diagNext

/-- DIAG_DC (R338). -/
def execDiagDc (who : Initiator) (mask : Fin 256) (s : State) : Ans := .next <|
  s.command who 0x5a040 (fun t => t.diagGo 1 mask.val)

/-- DIAG_SWEEP (R338). -/
def execDiagSweep (who : Initiator) (mask : Fin 256) (s : State) : Ans := .next <|
  s.command who 0x5a040 (fun t => t.diagGo 2 mask.val)

/-- DIAG_LEARN (R338). -/
def execDiagLearn (who : Initiator) (mask : Fin 256) (s : State) : Ans := .next <|
  s.command who 0x5a040 (fun t => t.diagGo 3 mask.val)

/-- The device leaves READY and RUN (R341): the channel under test is aborted, the others are skipped. -/
def State.diagAbort (s : State) : State :=
  match s.diag.cur with
  | some n => ((s.put R.DIAG_RES_AC_RESULT 3 n).chDead n chOff).diagOver
  | none => s

/-! ### The DC test (R336, R337) -/

/-- A supervision deviation of a channel reported (R337, R340, R345). -/
def State.deviation (s : State) (n : Nat) : State :=
  ((s.putBit R.DIAG_STATUS_DEV_SEEN n true).bump R.DEV_CNT n).raise EV_SUPERVISION_DEVIATION

/-- A relay takeover or release has the channel as its target (R346, R406). -/
def State.relayHas (s : State) (n : Nat) : Bool :=
  (List.range 4).any (fun k =>
    s.flag R.BRACE_RELAY_CFG_EN k && s.bit R.BRACE_RELAY_CFG_TARGET n k &&
    (s.get R.BRACE_RELAY_STATUS_PHASE k == 1 || s.get R.BRACE_RELAY_STATUS_PHASE k == 3))

/-- DC_RESULT of a resistance in 0.01 Ω (R337); a LEARN has no baseline, and a relay's test judges SHORT only (R346). -/
def State.dcClass (s : State) (n ohms : Nat) (bare : Bool) : Nat :=
  if ohms < s.get R.DIAG_CFG_SHORT_OHMS * 10 then 2
  else if s.relayHas n then 1
  else if 6400 < ohms then 3
  else if !bare && s.flag R.DIAG_BASE_CTRL_VALID n && decide (2 * s.get R.DIAG_BASE_DC_OHMS n < ohms) then 3
  else 1

/-- The start or retry that a DC test let through (R305, R311). -/
def State.testPassed (s : State) (n : Nat) : State :=
  if !s.runs ∨ !s.chOn n then s.chDead n chOff
  else if s.railTracks n then s.rampUp n
  else ((s.chDead n chOff).modCh n (fun x => { x with armed := true })).put R.PCH_STATUS_WAIT_RAIL 1 n

/-- DC_TEST_DONE (R337): the 2 ms test of a channel ends with a resistance in 0.01 Ω. -/
def State.dcDone (s : State) (n ohms : Nat) : State :=
  let kind := (s.ch n).test
  let learn := kind == 3 && s.diag.op == 3
  let c := s.dcClass n ohms learn
  let t := (s.put R.DIAG_DC_OHMS (if 6400 < ohms then 0xffff else ohms) n).put R.DIAG_RES_DC_RESULT c n
  let t := t.modCh n (fun x => { x with test := 0 })
  if kind = 1 then
    if c = 2 then t.chTrip n 4 else (t.when (c == 3) (fun u => u.deviation n)).testPassed n
  else if kind = 2 then
    if c = 2 then t.retryFails n else (t.when (c == 3) (fun u => u.deviation n)).testPassed n
  else if s.diag.op = 1 || c = 2 || (learn && c == 3) then t.setDiag { t.diag with step := 10 }
  else
    (t.setDiag { t.diag with step := 2 }).modCh n (fun x => { x with cm := 0, cmTotal := s.get R.PCH_CFG_CM_RAMP n * 30720 })

/-- DC_TEST_DONE (R337). -/
def execDcTestDone (ch : Fin 8) (ohms : Nat) (s : State) : Ans := .next <|
  if s.powered && s.chState ch.val == chDiag && (s.ch ch.val).test != 0 then s.dcDone ch.val ohms else s

/-! ### Sweeps (R338, R340) -/

/-- SWEEP_TONE_DONE (R338): a tone of the sweep has been measured. A tone that a clock error stopped is repeated (R346). -/
def execSweepToneDone (mag : Nat) (phase : Int) (s : State) : Ans := .next <|
  match s.diag.cur with
  | some n =>
    let k := s.diag.step - 3
    if s.powered && 3 ≤ s.diag.step && s.diag.step ≤ 8 && s.chState n == chDiag && !s.clockError then
      let t := if k < 5 then (s.put R.DIAG_AC_MAG mag n k).putI R.DIAG_AC_PHASE phase n k
        else (s.put R.DIAG_PILOT_MAG mag n).putI R.DIAG_PILOT_PHASE phase n
      let t := t.setDiag { t.diag with step := t.diag.step + 1, tones := t.diag.tones ++ [(mag, phase)] }
      if k < 5 then t.send (.tone n (t.toneSpec (k + 1))) else t
    else s
  | none => s

/-- CM_RAMP_END (R306): the common-mode ramp of a channel ends, in RAMP_UP with the measured trim of R303 where sense is
valid; a clock error pauses it. -/
def execCmRampEnd (ch : Fin 8) (trim : Option Int) (s : State) : Ans := .next <|
  let n := ch.val
  let st := s.chState n
  if !s.powered || s.clockError then s
  else if st = chUp then
    let t := match trim with
      | some x => (s.put R.PCH_STATUS_CAL_VALID 1 n).putI R.PCH_OL_TRIM_TRIM x n
      | none => s
    let t := (t.enterCh n chPlay).modCh n (fun x => { x with cm := x.cmTotal, gain := 0, fade := 120 })
    if t.muteWanted n then t.enterCh n chMute else t.gainRun n 1 .stay
  else if st = chDown then
    let goal := (s.ch n).stopTo
    let held := (s.ch n).ntcShut
    let t := s.chDead n (if goal = 0 then chOff else chRetry)
    if goal = 6 && !held then t.chResume n
    else if goal = 7 then (t.chMark n 6).railNtc (n / 4)
    else t.railNtc (n / 4)
  else if st = chDiag && s.diag.cur == some n && s.diag.step == 2 then
    ((s.setDiag { s.diag with step := 3 }).modCh n (fun x => { x with cm := x.cmTotal })).send (.tone n (s.toneSpec 0))
  else if st = chDiag && s.diag.cur == some n && s.diag.step == 9 then s.setDiag { s.diag with step := 10 }
  else s

/-- A magnitude above or below a baseline by more than tol per cent. -/
def above (mag base tol : Nat) : Bool := base * (100 + tol) < mag * 100
/-- Below by more than tol per cent. -/
def below (mag base tol : Nat) : Bool := mag * 100 < base * (100 - tol)

/-- PILOT_CLASS of a result against a baseline (R345). -/
def State.pilotClass (s : State) (b : Nat) (basePhase : Int) (mag : Nat) (phase : Int) : Nat :=
  let tol := s.get R.DIAG_DEV_CFG_PILOT_TOL
  if above mag b tol then 1
  else if below mag b tol then 2
  else if s.get R.DIAG_DEV_CFG_PHASE_TOL * 100 < (phase - basePhase).natAbs then 3
  else 0

/-- AC_DEV of a sweep's five tones and HF (R340). -/
def State.acDev (s : State) (n : Nat) (z : Nat → Nat) : Nat × Nat :=
  let b (f : Nat) : Nat := s.get R.DIAG_BASE_AC_MAG n f
  let ac := s.get R.DIAG_CFG_AC_TOL
  let tw := s.get R.DIAG_CFG_TWEETER_TOL
  let out (f tol : Nat) : Bool := above (z f) (b f) tol || below (z f) (b f) tol
  let dev := (List.range 5).foldl (fun a f => if out f (if f < 3 then ac else tw) then a + 2 ^ f else a) 0
  (dev, if above (z 3) (b 3) tw && above (z 4) (b 4) tw then 1 else if below (z 3) (b 3) tw && below (z 4) (b 4) tw then 2 else 0)

/-- A finished sweep is judged (R340), or its results become the baseline (R338). -/
def State.sweepJudge (s : State) (n : Nat) : State :=
  let tone (k : Nat) : Nat × Int := (s.diag.tones[k]?).getD (0, 0)
  if s.diag.op = 3 then
    let t := s.put R.DIAG_BASE_DC_OHMS (s.get R.DIAG_DC_OHMS n) n
    let t := t.each 5 (fun u f => (u.put R.DIAG_BASE_AC_MAG (tone f).1 n f).putI R.DIAG_BASE_AC_PHASE (tone f).2 n f)
    let t := (t.put R.DIAG_BASE_PILOT_MAG (tone 5).1 n).putI R.DIAG_BASE_PILOT_PHASE (tone 5).2 n
    (t.put R.DIAG_BASE_CTRL_VALID 1 n).modCh n (fun x => { x with devRun := 0, okRun := 0 })
  else if !s.flag R.DIAG_BASE_CTRL_VALID n then (s.put R.DIAG_RES_AC_RESULT 4 n).put R.DIAG_RES_HF 3 n
  else
    let d := s.acDev n (fun f => (tone f).1)
    let c := s.pilotClass (s.get R.DIAG_BASE_PILOT_MAG n) (s.getI R.DIAG_BASE_PILOT_PHASE n) (tone 5).1 (tone 5).2
    let t := ((s.put R.DIAG_RES_AC_DEV d.1 n).put R.DIAG_RES_HF d.2 n).put R.DIAG_RES_PILOT_CLASS c n
    if d.1 = 0 ∧ c = 0 then t.put R.DIAG_RES_AC_RESULT 1 n else (t.put R.DIAG_RES_AC_RESULT 2 n).deviation n

/-- DIAG_CHANNEL_DONE (R339): a channel's operation ends, the channel returns to OFF, where it starts if it is armed, and the next of the mask is
taken. -/
def execDiagChannelDone (s : State) : Ans := .next <|
  match s.diag.cur with
  | some n =>
    if s.diag.step = 10 && !switching (s.chState n) then
      let t := if s.diag.tones.length = 6 && s.chState n == chDiag then s.sweepJudge n else s
      let t := if t.chState n = chDiag then t.chDead n chOff else t
      ({ t with diag := { t.diag with cur := none } }.chStart n).diagNext.railsEval
    else s
  | none => s

/-! ### The pilot (R343 to R345) -/

/-- A pilot window of a channel begins: not valid from the start unless the pilot stands at full level (R344). -/
def State.pilotOpen (s : State) (n : Nat) : State :=
  let st := s.chState n
  s.modCh n (fun x => { x with
    winAt := s.tg, base := none
    pilotBad := !((st == chPlay || st == chMute) && decide (x.fade = 0) && !s.clockError && x.gainEnd != .toDown) })

/-- The pilot's baseline of a channel (VALID, magnitude, phase). -/
def State.pilotBase (s : State) (n : Nat) : Bool × Nat × Int :=
  (s.flag R.DIAG_BASE_CTRL_VALID n, s.get R.DIAG_BASE_PILOT_MAG n, s.getI R.DIAG_BASE_PILOT_PHASE n)

/-- A valid window is classified (R345), against the baseline that stood before a write in the window (R346). -/
def State.pilotJudge (s : State) (n mag : Nat) (phase : Int) : State :=
  let t := (s.put R.DIAG_PILOT_MAG mag n).putI R.DIAG_PILOT_PHASE phase n
  let b := (s.ch n).base.getD (s.pilotBase n)
  if !b.1 then t
  else
    let c := s.pilotClass b.2.1 b.2.2 mag phase
    let x := s.ch n
    let need := s.get R.DIAG_DEV_CFG_DEV_COUNT
    let t := t.put R.DIAG_RES_PILOT_CLASS c n
    if c = 0 then
      let u := t.setCh n { x with devRun := 0, okRun := x.okRun + 1 }
      if need ≤ x.okRun + 1 then u.putBit R.DIAG_STATUS_DEV n false else u
    else
      let u := t.setCh n { x with devRun := x.devRun + 1, okRun := 0 }
      if need ≤ x.devRun + 1 && !s.bit R.DIAG_STATUS_DEV n then (u.putBit R.DIAG_STATUS_DEV n true).deviation n else u

/-- PILOT_WINDOW_END (R344): a 256 ms window has ended where a tick begins whose number is a multiple of 1,536, once for each channel; `quiet` says that
the programme near the pilot stayed 20 dB below it. A window of another length, which an epoch set makes, is not valid. -/
def execPilotWindowEnd (ch : Fin 8) (quiet : Bool) (mag : Nat) (phase : Int) (s : State) : Ans := .next <|
  let n := ch.val
  if !s.ticking || !s.bit R.DIAG_PILOT_EN n || s.tickNum % 1536 != 0 || (s.ch n).winAt == s.tg then s
  else
    let st := s.chState n
    let t := if quiet && !(s.ch n).pilotBad && s.tg == (s.ch n).winAt + 1536 && (st == chPlay || st == chMute) && !s.clockError then s.pilotJudge n mag phase
      else s.bump R.PILOT_SKIP_CNT n
    t.pilotOpen n

/-- A commit of the DIAG page (R344, R346): PILOT_FREQ restarts the consecutive counts, and a window in which the pilot comes or goes is not valid. -/
def State.diagCommit (s old : State) : State :=
  let t := s.each 8 (fun u n =>
    if u.bit R.DIAG_PILOT_EN n == old.bit R.DIAG_PILOT_EN n then u else u.modCh n (fun x => { x with pilotBad := true }))
  if s.get R.DIAG_PILOT_FREQ = old.get R.DIAG_PILOT_FREQ then t
  else t.each 8 (fun u n => u.modCh n (fun x => { x with devRun := 0, okRun := 0 }))

/-- A register write of a baseline is about to be made: it restarts the counts of its channel, whose window under way keeps the baseline (R346). -/
def State.baselineWrite (s : State) (a : Nat) : State :=
  if 0x5a180 ≤ a ∧ a < 0x5a280 then
    let n := (a - 0x5a180) / 32
    s.modCh n (fun x => { x with devRun := 0, okRun := 0, base := some (x.base.getD (s.pilotBase n)) })
  else s

end Sys2Proof.Machine
end

