-- ==== Sys2Proof/Machine/Supply.lean ====
section
/-! DEFINITION. Fatal faults (R458 to R461), supply monitors, thermistors and die temperatures (R314, R315, R322 to R325,
R487, R504), and the measurements of a tick. -/

namespace Sys2Proof.Machine

/-! ### Fatal faults -/

/-- The cause code of R458. -/
def causeCode : FatalCause → Nat
  | .smCorrected => 0 | .sharedMem => 1 | .storm => 2 | .watchdog => 3 | .lockstep => 4 | .clockLoss => 5 | .overTemp => 6

/-- The event of a fatal fault (R458). -/
def causeEvent : FatalCause → Nat
  | .smCorrected => EV_SM_ECC_CORR | .sharedMem => EV_SM_ECC_UNCORR | .storm => EV_TICK_OVERRUN | .watchdog => EV_SP_WATCHDOG | .lockstep => EV_SP_WATCHDOG
  | .clockLoss => EV_PLLC_UNLOCK | .overTemp => EV_TEMP_CRIT

/-- The key of an Ocdor slot: its fuses where they are programmed, else what the host has written (R443). A slot that holds no key has
none. -/
def State.ibKey (s : State) (k : Nat) : Option (BitVec 128) :=
  match Sparse.find s.otp.ibKey k with
  | some x => some x
  | none =>
    let v := (List.range 4).foldl (fun a i => a + s.get R.SEC_IB_KEY_KEY k i * 2 ^ (32 * i)) 0
    if v = 0 then none else some (BitVec.ofNat 128 v)

/-- The state of an Ocdor slot. -/
def State.slot (s : State) (k : Nat) : OcdSlot := (Sparse.find s.host.slots k).getD OcdSlot.init

/-- The state of an Ocdor slot replaced. -/
def State.setSlot (s : State) (k : Nat) (x : OcdSlot) : State :=
  { s with host := { s.host with slots := Sparse.set s.host.slots k x } }

/-- The count that the device's next frame on a slot carries, one more than the last (R438). -/
def State.slotCount (s : State) (k : Nat) : Nat × State :=
  let n := ((s.slot k).sent + 1) % 2 ^ 32
  (n, s.setSlot k { s.slot k with sent := n })

/-- The slot under which a heartbeat is authenticated. DESIGN CHOICE (log entry 99): R381 names none; the lowest slot that is enabled and holds
a key, else slot 0. -/
def State.hbSlot (s : State) : Nat :=
  ((List.range 4).find? (fun k => s.bit R.SEC_IB_CTRL_SLOT_EN k && (s.ibKey k).isSome)).getD 0

/-- The bytes of an Ocdor frame from VERSION to the end of DATA, which its TAG covers, in network byte order (R437). -/
def ocdorBytes (version op seq slot status count addr session replay : Nat) (data : List Nat) : List Byte :=
  [BitVec.ofNat 8 version, BitVec.ofNat 8 op] ++ beBytes 2 seq ++ [BitVec.ofNat 8 slot, BitVec.ofNat 8 status] ++ beBytes 2 count ++
  beBytes 4 addr ++ beBytes 4 session ++ beBytes 4 replay ++ data.flatMap (beBytes 4)

/-- An Ocdor frame of the device's own under a slot's key (R437, R438): VERSION 1, and the TAG over its bytes. -/
def State.ocdorWire (s : State) (h : EthHead) (ip : Option IpHead) (k op seq status addr count : Nat) (data : List Nat) : Wire :=
  let session := s.get R.SEC_IB_SESSION_SESSION
  .ocdor h ip k op seq status data.length addr session count data
    (Config.cmac64 ((s.ibKey k).getD 0) (ocdorBytes 1 op seq k status data.length addr session count data))

/-- The words of a heartbeat's content (R381). DESIGN CHOICE (log entry 99): R381 names what it carries and lays nothing out; one word each in
its order, the tick number in two, low word first. -/
def beatWords (device role dev tick : Nat) (notice : Bool) : List Nat := [device, role, dev, tick % 2 ^ 32, tick / 2 ^ 32, b2n notice]

/-- The ADDRESS of a heartbeat (R439). -/
def beatAddr : Nat := 0x00060000

/-- A network heartbeat, an Ocdor EVENT frame, is sent to the group of BRACE_HB_MAC with the VID and PCP of BRACE_HB_CFG, on every ring port
with link up (R381, R439). -/
def State.heartbeat (s : State) (notice : Bool) : State :=
  if !(s.link 0 || s.link 1) then s
  else
    let k := s.hbSlot
    let n := s.slotCount k
    let da := s.get R.BRACE_HB_MAC_LO_MAC + s.get R.BRACE_HB_CFG_MAC * 2 ^ 32
    ([0, 1].filter s.link).foldl (fun u p =>
      let h : EthHead := ⟨da, u.portMac p, some (u.get R.BRACE_HB_CFG_VID, u.get R.BRACE_HB_CFG_PCP)⟩
      u.submit p (u.tagTc h) (u.ocdorWire h none k 5 0 0 beatAddr n.1
        (beatWords (u.get R.SYS_DEVICE_ID_ID) (roleCode u.role) (devCode u.dev) u.tickNum notice))) n.2

/-- An ACTIVE unit demotes itself (R387): the notice in its next brace frame and an immediate heartbeat, and STANDBY_SEATING
at the next boundary. -/
def State.demote (s : State) : State :=
  if s.role ≠ .active then s
  else { s with brace := { s.brace with notice := true, want := s.brace.want ++ [(Role.seating, 3)] } }.heartbeat true

/-- A fatal fault is recorded, logged and signalled (R458, R459 step 1, R461): an ACTIVE unit in RUN or READY demotes itself,
and a device in RUN enters SAFE at the next tick start. -/
def State.fatal (s : State) (c : FatalCause) : State :=
  let t := if s.get R.EVT_FATAL_CAUSE = 0 then
      (s.put R.EVT_FATAL_CAUSE (causeCode c)).put R.EVT_FATAL_TICK_TICK (s.tickNum % 2 ^ 32) else s
  let t := (t.put R.EVT_FATAL_VALID 1).raiseFatal (causeEvent c) (causeCode c)
  let t := if t.dev = .run ∨ t.dev = .ready then t.demote else t
  if t.dev = .run then { t with safeWait := true } else t

/-- FATAL_FAULT (R458). A Truss clock loss is recorded when PLL-C regains PLOCK and not here (R459); a shared-memory error that
SECDED corrects raises its event and nothing more (R39). -/
def execFatalFault (cause : FatalCause) (s : State) : Ans := .next <|
  if s.dev == .off || cause == .clockLoss then s
  else if cause == .smCorrected then s.raise EV_SM_ECC_CORR
  else (if cause == .overTemp then s.put R.TEMP_STATUS_LOGIC_CRIT_SEEN 1 else s).fatal cause

/-! ### Supply monitors (R322 to R325, R487) -/

/-- The input-current limit of a rail in force (R314, R321, R323). -/
def State.railAmps (s : State) (r : Nat) : Nat :=
  if s.flag R.SUP_PWR_STATUS_VIN_WARN || (s.rail r).ntcWarn then s.get R.BST_CFG_BROWN_IIN r else s.get R.BST_CFG_IIN_LIMIT r

/-- A brownout hold that is over counts (R323). -/
def State.holdOver (s : State) : State :=
  if s.power.brownCeil < 1000000 then
    { s with power := { s.power with hold := false, brownCeil := 1000000 } }.bump R.VIN_DIP_CNT else s

/-- VIN_WARN (R323): VIN falls below 16.0 V and a brownout hold begins. -/
def execVinWarn (s : State) : Ans := .next <|
  if !s.powered || s.flag R.SUP_PWR_STATUS_VIN_WARN then s
  else
    let t := (s.holdOver.put R.SUP_PWR_STATUS_VIN_WARN 1).put R.SUP_PWR_STATUS_VIN_WARN_SEEN 1
    { t with power := { t.power with hold := true, brownCeil := 501187 } }.raise EV_VIN_WARN

/-- VIN_WARN_CLEAR (R323): 10 ms above 16.5 V the current limit returns and the ceiling begins to lift. -/
def execVinWarnClear (s : State) : Ans := .next <|
  if !s.powered || !s.flag R.SUP_PWR_STATUS_VIN_WARN || s.flag R.SUP_PWR_STATUS_VIN_RESET then s
  else { s with power := { s.power with hold := false } }.put R.SUP_PWR_STATUS_VIN_WARN 0

/-- VIN_RESET (R324): VIN falls below 13.5 V; every gate goes off, and a hold ends (R327). -/
def execVinReset (s : State) : Ans := .next <|
  if !s.powered || s.flag R.SUP_PWR_STATUS_VIN_RESET then s
  else
    let t := (s.holdOver.put R.SUP_PWR_STATUS_VIN_RESET 1).put R.SUP_PWR_STATUS_VIN_RESET_SEEN 1
    (t.raise EV_VIN_RESET).forcedStop 7

/-- VIN_RECOVER (R324): above 16.5 V the rails restart by themselves. -/
def execVinRecover (s : State) : Ans := .next <|
  if !s.powered || !s.flag R.SUP_PWR_STATUS_VIN_RESET then s else (s.put R.SUP_PWR_STATUS_VIN_RESET 0).railsEval

/-- VGD_WARN (R322): VGD below 9.0 V, or back above 9.5 V. -/
def execVgdWarn (below : Bool) (s : State) : Ans := .next <|
  if !s.powered || s.flag R.SUP_PWR_STATUS_VGD_WARN == below then s
  else if below then ((s.put R.SUP_PWR_STATUS_VGD_WARN 1).put R.SUP_PWR_STATUS_VGD_WARN_SEEN 1).raise EV_VGD_WARN
  else s.put R.SUP_PWR_STATUS_VGD_WARN 0

/-- VGD_UVLO (R325): VGD below 8.0 V. -/
def execVgdUvlo (s : State) : Ans := .next <|
  if !s.powered || s.flag R.SUP_PWR_STATUS_VGD_UVLO then s
  else (((s.put R.SUP_PWR_STATUS_VGD_UVLO 1).put R.SUP_PWR_STATUS_VGD_UVLO_SEEN 1).raise EV_VGD_UVLO).forcedStop 8

/-- VGD_UVLO_CLEAR (R325): VGD above 8.5 V. -/
def execVgdUvloClear (s : State) : Ans := .next <|
  if !s.powered || !s.flag R.SUP_PWR_STATUS_VGD_UVLO then s else (s.put R.SUP_PWR_STATUS_VGD_UVLO 0).railsEval

/-- CORE_WARN (R322): VDD_CORE below 0.720 V, or back above −3 %. -/
def execCoreWarn (below : Bool) (s : State) : Ans := .next <|
  if !s.powered || s.flag R.SUP_PWR_STATUS_CORE_WARN == below then s
  else if below then ((s.put R.SUP_PWR_STATUS_CORE_WARN 1).put R.SUP_PWR_STATUS_CORE_WARN_SEEN 1).raise EV_CORE_WARN
  else s.put R.SUP_PWR_STATUS_CORE_WARN 0

/-- The live bits of SUP_LOGIC_STATUS in bit order (R512). -/
def ioWarnBit : Nat → Fld
  | 0 => R.SUP_LOGIC_STATUS_SM_WARN
  | 1 => R.SUP_LOGIC_STATUS_SD_WARN
  | 2 => R.SUP_LOGIC_STATUS_PLL_WARN
  | 3 => R.SUP_LOGIC_STATUS_IOA_WARN
  | 4 => R.SUP_LOGIC_STATUS_IOB_WARN
  | 5 => R.SUP_LOGIC_STATUS_T1S_WARN
  | _ => R.SUP_LOGIC_STATUS_VDD5_WARN

/-- IO_WARN (R487): a rail leaves its window or has returned to it; `stop` says that VDD5 stands below 4.25 V, or has not yet
risen above 4.50 V. -/
def execIoWarn (rail : Fin 7) (outside stop : Bool) (s : State) : Ans := .next <|
  if !s.powered then s
  else
    let f := ioWarnBit rail.val
    let t := if outside && !s.flag f then ((s.put f 1).putBit R.SUP_LOGIC_STATUS_WARN_SEEN rail.val true).raise EV_IO_WARN
      else s.put f (b2n outside)
    if rail.val ≠ 6 ∨ stop = t.flag R.SUP_LOGIC_STATUS_VDD5_STOP then t
    else if stop then ((t.put R.SUP_LOGIC_STATUS_VDD5_STOP 1).put R.SUP_LOGIC_STATUS_VDD5_STOP_SEEN 1).forcedStop 8
    else (t.put R.SUP_LOGIC_STATUS_VDD5_STOP 0).railsEval

/-! ### Thermistors (R314) -/

/-- An open or shorted sensor. -/
def ntcBad (code : Nat) : Bool := decide (4000 < code) || decide (code < 40)

/-- A channel follows input k. -/
def State.chNtc (s : State) (n k : Nat) : Bool := s.flag R.PCH_CFG_NTC_EN n && s.get R.PCH_CFG_NTC_SEL n == k

/-- A rail follows input k. -/
def State.railNtcOn (s : State) (r k : Nat) : Bool := s.flag R.BST_SENSE_NTC_EN r && s.get R.BST_SENSE_NTC_SEL r == k

/-- The warning of a channel (R314). -/
def State.ntcWarnCh (s : State) (n code : Nat) : State :=
  let t := if ntcBad code then s.put R.PCH_STATUS_NTC_FAULT 1 n else s
  if t.flag R.PCH_STATUS_THERM_LIM n then t else (t.put R.PCH_STATUS_THERM_LIM 1 n).raise EV_NTC_WARN

/-- The warning of a rail (R314). -/
def State.ntcWarnRail (s : State) (r : Nat) : State :=
  if (s.rail r).ntcWarn then s else (s.modRail r (fun x => { x with ntcWarn := true })).raise EV_NTC_WARN

/-- The shutdown of a channel (R314). -/
def State.ntcShutCh (s : State) (n : Nat) : State :=
  if (s.ch n).ntcShut then s
  else
    let t := s.modCh n (fun x => { x with ntcShut := true })
    if switching (t.chState n) || t.chState n == chDiag then (t.chFault n 5).chStop n 6 else t

/-- The shutdown of a rail, whose channels stop first (R314). -/
def State.ntcShutRail (s : State) (r : Nat) : State :=
  if (s.rail r).ntcShut then s
  else
    let t := s.modRail r (fun x => { x with ntcShut := true })
    (t.each 4 (fun w j => if switching (w.chState (4 * r + j)) then w.chStop (4 * r + j) 7 else w)).railNtc r

/-- The warning of a channel ends, and what the shutdown held starts again (R314). -/
def State.ntcEndCh (s : State) (n : Nat) : State :=
  let t := (s.modCh n (fun x => { x with ntcShut := false })).put R.PCH_STATUS_THERM_LIM 0 n
  if t.chState n = chRetry && t.get R.PCH_STATUS_CAUSE n == 5 then t.chResume n else t

/-- The warning of a rail ends (R314). -/
def State.ntcEndRail (s : State) (r : Nat) : State :=
  let t := s.modRail r (fun x => { x with ntcShut := false, ntcWarn := false })
  if t.get R.BST_STATUS_STATE r = 3 && t.get R.BST_STATUS_CAUSE r == 4 then (t.railOff r 0).railEval r else t.railEval r

/-- NTC_WARN (R314): the code is at or below WARN_CODE, or the sensor is open or shorted. -/
def State.ntcWarns (s : State) (k code : Nat) : State :=
  let t := s.put R.NTC_CODE_CODE code k
  if code ≤ s.get R.NTC_THR_WARN_CODE k || ntcBad code then
    (t.each 8 (fun u n => u.when (u.chNtc n k) (fun v => v.ntcWarnCh n code))).each 2 (fun u r => u.when (u.railNtcOn r k) (fun v => v.ntcWarnRail r))
  else t

/-- NTC_WARN (R314). -/
def execNtcWarn (k : Fin 4) (code : Fin 4096) (s : State) : Ans := .next <| if s.powered then s.ntcWarns k.val code.val else s

/-- NTC_SHUTDOWN (R314): the code is at or below SHUT_CODE; channels stop into RETRY_WAIT, and a rail stops its channels first. -/
def execNtcShutdown (k : Fin 4) (code : Fin 4096) (s : State) : Ans := .next <|
  if !s.powered then s
  else
    let t := s.ntcWarns k.val code.val
    if s.get R.NTC_THR_SHUT_CODE k.val < code.val then t
    else
      (t.each 8 (fun u n => u.when (u.chNtc n k.val) (fun v => v.ntcShutCh n))).each 2 (fun u r => u.when (u.railNtcOn r k.val) (fun v => v.ntcShutRail r))

/-- NTC_WARN_END (R314): 64 codes above WARN_CODE the warning ends, and what the shutdown held starts again. -/
def execNtcWarnEnd (k : Fin 4) (code : Fin 4096) (s : State) : Ans := .next <|
  let t := s.put R.NTC_CODE_CODE code.val k.val
  if !s.powered then s
  else if code.val < s.get R.NTC_THR_WARN_CODE k.val + 64 || ntcBad code.val then t
  else
    (t.each 8 (fun u n => u.when (u.chNtc n k.val) (fun v => v.ntcEndCh n))).each 2 (fun u r => u.when (u.railNtcOn r k.val) (fun v => v.ntcEndRail r))

/-- What R314 says of the code that an input shows now: it warns, it shuts down, or its warning is over. -/
def State.ntcView (s : State) (k : Nat) : Bool × Bool × Bool :=
  let code := s.get R.NTC_CODE_CODE k
  (code ≤ s.get R.NTC_THR_WARN_CODE k || ntcBad code, code ≤ s.get R.NTC_THR_SHUT_CODE k,
    s.get R.NTC_THR_WARN_CODE k + 64 ≤ code && !ntcBad code)

/-- A commit of NTC_EN, NTC_SEL or a threshold (R314): what follows an input is judged by its present code; what follows none is held by none. -/
def State.ntcCommit (s old : State) : State :=
  let thr (k : Nat) : Bool := s.get R.NTC_THR_WARN_CODE k != old.get R.NTC_THR_WARN_CODE k || s.get R.NTC_THR_SHUT_CODE k != old.get R.NTC_THR_SHUT_CODE k
  let t := s.each 8 (fun u n =>
    let k := u.get R.PCH_CFG_NTC_SEL n
    if u.flag R.PCH_CFG_NTC_EN n == old.flag R.PCH_CFG_NTC_EN n && k == old.get R.PCH_CFG_NTC_SEL n && !thr k then u
    else if !u.flag R.PCH_CFG_NTC_EN n then u.when (old.flag R.PCH_CFG_NTC_EN n) (fun v => v.ntcEndCh n)
    else
      let w := u.ntcView k
      if w.2.2 then u.ntcEndCh n
      else (u.when w.1 (fun v => v.ntcWarnCh n (v.get R.NTC_CODE_CODE k))).when w.2.1 (fun v => v.ntcShutCh n))
  t.each 2 (fun u r =>
    let k := u.get R.BST_SENSE_NTC_SEL r
    if u.flag R.BST_SENSE_NTC_EN r == old.flag R.BST_SENSE_NTC_EN r && k == old.get R.BST_SENSE_NTC_SEL r && !thr k then u
    else if !u.flag R.BST_SENSE_NTC_EN r then u.when (old.flag R.BST_SENSE_NTC_EN r) (fun v => v.ntcEndRail r)
    else
      let w := u.ntcView k
      if w.2.2 then u.ntcEndRail r
      else (u.when w.1 (fun v => v.ntcWarnRail r)).when w.2.1 (fun v => v.ntcShutRail r))

/-! ### Die temperatures (R315, R504) -/

/-- POWER_DIE_OVERTEMP (R315): 150 °C. -/
def execPowerDieOvertemp (s : State) : Ans := .next <|
  if !s.powered || s.flag R.TEMP_STATUS_POWER_SHUT then s
  else (((s.put R.TEMP_STATUS_POWER_SHUT 1).put R.TEMP_STATUS_POWER_CRIT_SEEN 1).raise EV_TEMP_CRIT).forcedStop 9

/-- POWER_DIE_TEMP_RELEASE (R315, R504): below 135 °C. -/
def execPowerDieTempRelease (s : State) : Ans := .next <|
  if !s.powered || !s.flag R.TEMP_STATUS_POWER_SHUT then s else (s.put R.TEMP_STATUS_POWER_SHUT 0).railsEval

/-- LOGIC_DIE_OVERTEMP (R504): 140 °C, fatal cause 6. -/
def execLogicDieOvertemp (s : State) : Ans := .next <|
  if s.powered then (s.put R.TEMP_STATUS_LOGIC_CRIT_SEEN 1).fatal .overTemp else s

/-- TEMP_WARN (R504): a die (0 logic, 1 power) reads a temperature in quarters of a degree; its warning rises at the threshold
and clears 5 °C below it. -/
def execTempWarn (die : Fin 2) (temp : Int) (s : State) : Ans := .next <|
  if !s.powered then s
  else
    let f := if die.val = 0 then R.TEMP_STATUS_LOGIC_WARN else R.TEMP_STATUS_POWER_WARN
    let thr : Int := 4 * (if die.val = 0 then s.get R.TEMP_THRESH_LOGIC_WARN else s.get R.TEMP_THRESH_POWER_WARN : Nat)
    let t := s.putI (if die.val = 0 then R.TEMP_LOGIC_TEMP else R.TEMP_POWER_TEMP) temp
    let w := decide (thr < temp) || (s.flag f && decide (thr - 20 < temp))
    let u := t.put f (b2n w)
    if w && !s.flag f then (u.put R.TEMP_STATUS_WARN_SEEN 1).raise EV_TEMP_WARN else u

/-! ### The measurements of a tick -/

/-- One measured quantity takes its register. -/
def State.measure (s : State) : Meas → State
  | .vin v => s.put R.SUP_VIN_MEAS_VOLTS v
  | .vgd v => s.put R.SUP_VGD_MEAS_VOLTS v
  | .core v => s.put R.SUP_CORE_MEAS_MV v
  | .sm v => s.put R.SUP_SM_MEAS_MV v
  | .sd v => s.put R.SUP_SD_MEAS_SD v
  | .sda v => s.put R.SUP_SD_MEAS_SDA v
  | .ioa v => s.put R.SUP_IO_MEAS_IOA v
  | .iob v => s.put R.SUP_IO_MEAS_IOB v
  | .vb r v => s.put R.BST_VMEAS_VOLTS v r.val
  | .iin r v => s.put R.BST_IIN_AMPS v r.val
  | .iinHeld r on => s.put R.BST_STATUS_IIN_LIM (b2n on) r.val
  | .ntc k c => s.put R.NTC_CODE_CODE c k.val
  | .tempLogic t => s.putI R.TEMP_LOGIC_TEMP t
  | .tempPower t => s.putI R.TEMP_POWER_TEMP t
  | .bootLow ch n => s.bumpBy R.BST_UV_CNT n ch.val
  | .tuning e => (s.put R.PLLM_BAND_VT_LOW (e.val % 2)).put R.PLLM_BAND_VT_HIGH (e.val / 2)

/-- SP_WATCHDOG_EXPIRY (R39, R351): the firmware restarts and goes on with its tables; a second expiry within 10 s (60,000 ticks)
is fatal. -/
def execSpWatchdogExpiry (s : State) : Ans := .next <|
  if !s.boot.fwValid || !s.powered then s
  else
    let again := (s.svc.wdt.map (fun t => decide (s.tg < t + 60000))).getD false
    let t := { s.bump R.SVC_WDT_CNT with svc := { s.svc with wdt := some s.tg } }
    if again then t.fatal .watchdog else t.raise EV_SP_WATCHDOG

end Sys2Proof.Machine
end

