-- ==== Sys2Proof/Machine/Mixer.lean ====
section
/-! DEFINITION. The crosspoint mixer and the delay pool (R49 to R51, R254 to R276): coefficients and ramps, the table and
its banks, the early and late passes, clipping, delay lines, with the commands of that family. -/

namespace Sys2Proof.Machine

/-! ### Gain coefficients (R263) -/

/-- n is at most 2²⁸ · 10^(g/5120) + 1/2, decided in integers. -/
def gainFits (g : Int) (n : Nat) : Bool :=
  decide ((2 * n - 1) ^ 5120 * 10 ^ (-g).toNat ≤ 2 ^ (29 * 5120) * 10 ^ g.toNat)

/-- The largest n below 2^b above `lo` that fits, bit by bit from the top. -/
def gainSearch (g : Int) : Nat → Nat → Nat
  | 0, lo => lo
  | b + 1, lo => gainSearch g b (if gainFits g (lo + 2 ^ b) then lo + 2 ^ b else lo)

/-- G(g) = round(2²⁸ · 10^(g / 5120)), g in 1/256 dB. -/
def gainCoef (g : Int) : Int := (gainSearch g 31 0 : Nat)

/-- Unity gain. -/
def unity : Int := 2 ^ 28

/-- A GAIN field is taken as +12 dB (R262). -/
def gainClamped (gain : Nat) : Bool := 0x0C01 ≤ gain && gain ≤ 0x7FFF

/-- The coefficient of a 16-bit gain code and its polarity: 0x8000 is mute (R256, R262, R263). -/
def codeCoef (gain : Nat) (invert : Bool) : Int :=
  if gain = 0x8000 then 0
  else
    let g := gainCoef (if gainClamped gain then 3072 else signedOf 16 gain)
    if invert then -g else g

/-- An entry's target coefficient (R263). -/
def XEntry.target (e : XEntry) : Int := if e.enable then codeCoef e.gain e.invert else 0

/-! ### Ramps (R264) -/

/-- A ramp after p of its samples. -/
def Ramp.after (r : Ramp) (p : Nat) : Int :=
  if p = 0 then r.a else if r.n ≤ p then r.b else r.a + ((r.b - r.a) * p).tdiv r.n

/-- The coefficient of sample k of batch m. -/
def Ramp.value (r : Ramp) (m k : Nat) : Int := r.after (8 * (m - r.start) + k + 1)

/-- The coefficient reached when batch m begins. -/
def Ramp.reached (r : Ramp) (m : Nat) : Int := r.after (8 * (m - r.start))

/-- The ramp of a duck group that has never been active. -/
def Ramp.unity : Ramp := ⟨Machine.unity, Machine.unity, 0, 0⟩

/-! ### The banks and the table (R256 to R258) -/

/-- The base of bank b. -/
def bankBase (b : Nat) : Nat := 0x08000000 + b * 0x20000

/-- The entry of 64 bits w. -/
def parseEntry (w : Nat) : XEntry :=
  ⟨bitsAt w 63 52, bitsAt w 51 41, bitsAt w 40 25, bitsAt w 24 17, bitsAt w 16 12, bitAt w 11, bitAt w 10⟩

/-- The raw bits of entry i of a bank. -/
def State.entryBits (s : State) (bank i : Nat) : Nat := s.le (bankBase bank + 8 * i) 8

/-- The first len entries of a bank. -/
def State.bankTable (s : State) (bank len : Nat) : List XEntry :=
  (List.range len).map (fun i => parseEntry (s.entryBits bank i))

/-- The bank in force. -/
def State.activeBank (s : State) : Nat := s.get R.XPM_STATUS_ACTIVE_BANK

/-- The bank that a commit of the XPM page would put in force: the shadow bank if it has been written (R258). -/
def State.commitBank (s : State) : Nat := if s.mix.written then 1 - s.activeBank else s.activeBank

/-- The table that a commit of the XPM page with these register values would put in force. -/
def State.commitTable (s : State) : List XEntry := s.bankTable s.commitBank (s.get R.XPM_LEN_LEN)

/-- The table in force. -/
def State.forceTable (s : State) : List XEntry := s.bankTable s.activeBank (s.get R.XPM_LEN_LEN)

/-- A late entry (R50, R261): true second component for an output destination. -/
def XEntry.late (e : XEntry) : Option Bool :=
  if e.dst < 1792 then (if 2304 ≤ e.src then some true else none) else (if 2048 ≤ e.src then some false else none)

/-- Late entries of a table for outputs and for engine feeds: enabled ones, and disabled ones whose pair is enabled in the
table in force (R261). -/
def lateCounts (new old : List XEntry) : Nat × Nat :=
  let live := new.filter (fun e => e.late.isSome &&
    (e.enable || old.any (fun o => o.enable && o.src == e.src && o.dst == e.dst)))
  ((live.filter (fun e => e.late == some true)).length, (live.filter (fun e => e.late == some false)).length)

/-- What becomes of the table's ramps as batch m takes a new table (R264): a swapped bank starts every entry's ramp from the
coefficient its pair had reached; without a swap pairs kept run on and new ones start from 0. -/
def retable (old : List (XEntry × Ramp)) (new : List XEntry) (swap : Bool) (m : Nat) : List (XEntry × Ramp) :=
  new.map (fun e =>
    let prev := (old.find? (fun o => o.1.src == e.src && o.1.dst == e.dst)).map (·.2)
    match prev with
    | some r => (e, if swap then ⟨r.reached m, e.target, 8 * e.ramp, m⟩ else r)
    | none => (e, ⟨0, e.target, 8 * e.ramp, m⟩))

/-- The coefficient that duck group g goes to (R266); a DEPTH above 0 is taken as 0 dB (R262). -/
def State.duckTo (s : State) (g : Nat) : Int :=
  if s.bit R.XPM_DUCK_ACT_ACT (g - 1) then gainCoef (min 0 (s.getI R.XPM_DUCK_DEPTH g)) else unity

/-- The present ramp of a duck group. -/
def State.duckRamp (s : State) (g : Nat) : Ramp := Sparse.get Ramp.unity s.mix.ducks g

/-- The duck groups after a commit with the register values of v, from batch m on: a group whose goal changes ramps to it. -/
def State.duckTake (s v : State) (m : Nat) : Sparse Ramp :=
  (List.range 31).foldl (fun (d : Sparse Ramp) k =>
    let g := k + 1
    let r := Sparse.get Ramp.unity d g
    if r.b = v.duckTo g then d
    else Sparse.put Ramp.unity d g ⟨r.reached m, v.duckTo g, 8 * v.get R.XPM_DUCK_RAMP g, m⟩) s.mix.ducks

/-! ### Delay lines (R271 to R273) -/

/-- LINE of a destination with its DELAY and RESERVE; 0 for none (R271). -/
def lineLen (delay reserve : Nat) : Nat :=
  if delay = 0 ∧ reserve = 0 then 0 else 64 * max ((delay + 8 + 63) / 64) reserve

/-- The destinations that own a line by the registers, each with its LINE. -/
def State.lineWant (s : State) : List (Nat × Nat) :=
  (List.range 2048).filterMap (fun d =>
    let l := lineLen (s.get R.DPOOL_CFG_DELAY d) (s.get R.DPOOL_CFG_RESERVE d)
    if l = 0 then none else some (d, l))

/-- The lowest free granule where n granules fit into a pool beside those taken. -/
def firstFit (taken : List (Nat × Nat)) (total n : Nat) : Option Nat :=
  ((0 :: taken.map (·.2)).filter (fun g =>
    decide (g + n ≤ total) && taken.all (fun o => decide (g + n ≤ o.1) || decide (o.2 ≤ g)))).min?

/-- The pool of the registers: base address and granules of 256 bytes. -/
def State.poolGeom (s : State) : Nat × Nat := (s.get R.DPOOL_BASE_BASE * 4096, s.get R.DPOOL_SIZE_PAGES)

/-- The placement of R272 for the register values of s over the lines in force: each placed line (destination, address,
length, whether it keeps its contents), and the first destination that does not fit. -/
def State.dpoolPlan (s : State) : List (Nat × Nat × Nat × Bool) × Option Nat :=
  let geom := s.poolGeom
  let moved := s.repack || geom != s.mix.geom
  let want := s.lineWant
  let old (d : Nat) : Option DLine := Sparse.find s.mix.lines d
  let kept := if moved then [] else want.filterMap (fun w =>
    match old w.1 with
    | some l => if l.len = w.2 then some (w.1, l.addr, l.len, true) else none
    | none => none)
  let taken := kept.map (fun k => ((k.2.1 - geom.1) / 256, (k.2.1 - geom.1) / 256 + k.2.2.1 / 64))
  let r := want.foldl (fun (a : List (Nat × Nat × Nat × Bool) × List (Nat × Nat) × Option Nat) w =>
    if a.2.2.isSome || kept.any (fun k => k.1 == w.1) then a
    else match firstFit a.2.1 (geom.2 * 16) (w.2 / 64) with
      | none => (a.1, a.2.1, some w.1)
      | some g =>
        let addr := geom.1 + 256 * g
        let same := moved && !s.repack && (match old w.1 with | some l => l.len == w.2 && l.addr == addr | none => false)
        (a.1 ++ [(w.1, addr, w.2, same)], (g, g + w.2 / 64) :: a.2.1, none)) (kept, taken, none)
  (r.1, r.2.2)

/-- The lines that a commit of the DPOOL page with the register values of v puts in force (R272, R273). -/
def State.linesTake (s v : State) : Sparse DLine :=
  (v.dpoolPlan.1).foldl (fun (m : Sparse DLine) p =>
    let delay := v.get R.DPOOL_CFG_DELAY p.1
    let old := Sparse.find s.mix.lines p.1
    let line : DLine := match old with
      | some l =>
        if p.2.2.2 then
          if l.delay = delay then l
          else { l with delay := delay, tap := .fade l.tap delay 0 (8 * v.get R.DPOOL_CTRL_XFADE) }
        else ⟨p.2.1, p.2.2.1, delay, none, .back delay⟩
      | none => ⟨p.2.1, p.2.2.1, delay, none, .back delay⟩
    Sparse.set m p.1 line) []

/-- The sample of a line at index x: zero outside the run written (R78). -/
def State.lineAt (s : State) (l : DLine) (x : Int) : Int :=
  match l.run with
  | some (a, b) => if (a : Int) ≤ x ∧ x ≤ (b : Int) then s.sample (l.addr + 4 * (x.toNat % l.len)) else 0
  | none => 0

/-- What a tap plays at index x, and the tap for the next sample (R273). -/
def State.tapPlay (s : State) (l : DLine) (x : Nat) : DTap → Int × DTap
  | .back d => (s.lineAt l ((x : Int) - d), .back d)
  | .fade o d k n =>
    let r := s.tapPlay l x o
    let new := s.lineAt l ((x : Int) - d)
    let v := r.1 + ((new - r.1) * (k + 1 : Nat)).tdiv n
    (v, if n ≤ k + 1 then .back d else .fade r.2 d (k + 1) n)

/-- The run of indices written after a write from index x on of n samples (R78). -/
def runAfter (run : Option (Nat × Nat)) (x n : Nat) : Option (Nat × Nat) :=
  match run with
  | some (a, b) => if x = b + 1 then some (a, x + n - 1) else some (x, x + n - 1)
  | none => some (x, x + n - 1)

/-- A destination's result y at indices from x on passes through its line, where it has one (R267, R271). -/
def State.lineRun (s : State) (d x : Nat) (y : List Int) : List Int × State :=
  match Sparse.find s.mix.lines d with
  | none => (y, s)
  | some l =>
    let t := y.zipIdx.foldl (fun (u : State) e => u.setWord (l.addr + 4 * ((x + e.2) % l.len)) (toTwos 32 e.1)) s
    let l' := { l with run := runAfter l.run x y.length }
    let r := (List.range y.length).foldl (fun (a : List Int × DTap) k =>
      let p := t.tapPlay l' (x + k) a.2
      (a.1 ++ [p.1], p.2)) ([], l.tap)
    (r.1, { t with mix := { t.mix with lines := Sparse.set t.mix.lines d { l' with tap := r.2 } } })

/-! ### Taking over committed content (R65) -/

/-- The commits scheduled for the start of a tick (as run); their pages are disjoint, since a pending page is not armed. -/
def State.dueAt (s : State) (tick : Nat) : List Commit := s.queue.filter (fun c => c.phase == .scheduled tick)

/-- The pages of the commits scheduled for a tick (as run). -/
def State.duePages (s : State) (tick : Nat) : List Nat := (s.dueAt tick).flatMap (·.pages)

/-- A commit places delay lines: one of the DPOOL page, and after DPOOL_REPACK the next one of any pages (R272). -/
def State.placesLines (s : State) (pages : List Nat) : Bool := pages.contains 0x39 || s.repack

/-- The table, the duck groups and the delay lines take the content of a commit of these pages, from batch m on. -/
def State.mixTake (s : State) (pages : List Nat) (m : Nat) : State :=
  let v := s.withShadow pages
  let mix := s.mix
  let mix := if pages.contains 0x38 then
      { mix with table := retable mix.table v.commitTable mix.written m, ducks := s.duckTake v m } else mix
  let mix := if s.placesLines pages then { mix with lines := s.linesTake v, geom := v.poolGeom } else mix
  { s with mix := mix }

/-- The registers and the banks after a commit of these pages, now in force; `old` is the state before it (R258, R262, R272,
R275, R276). -/
def State.mixPublish (s old : State) (pages : List Nat) : State :=
  let t := if !pages.contains 0x38 then s else
    let new := s.commitTable
    let late := lateCounts new old.forceTable
    let ducks := (List.range 31).map (· + 1)
    let clamp := new.any (fun e => gainClamped e.gain) || ducks.any (fun g => decide (0 < s.getI R.XPM_DUCK_DEPTH g))
    let rsvd := (List.range (s.get R.XPM_LEN_LEN)).any (fun i => s.entryBits s.commitBank i % 1024 != 0)
    let u := { s.put R.XPM_STATUS_ACTIVE_BANK s.commitBank with mix := { s.mix with written := false } }
    let u := (u.put R.XPM_USAGE_ENABLED (new.filter (·.enable)).length).put R.XPM_USAGE_ACTIVE_LEN new.length
    let u := (u.put R.XPM_LATE_OUT late.1).put R.XPM_LATE_FEED late.2
    let u := u.when clamp (fun w => w.put R.XPM_STATUS_GAIN_CLAMP 1)
    let u := u.when rsvd (fun w => w.put R.XPM_STATUS_RSVD_SET 1)
    u.when (clamp || rsvd) (fun w => w.raise EV_XPT_INVALID)
  if !old.placesLines pages then t else
    let lines := t.mix.lines
    let taken := lines.map (fun l => ((l.2.addr - t.mix.geom.1) / 256, (l.2.addr - t.mix.geom.1) / 256 + l.2.len / 64))
    let total := t.mix.geom.2 * 16
    let starts := 0 :: taken.map (·.2)
    let free := starts.map (fun g =>
      if taken.any (fun o => decide (o.1 ≤ g) && decide (g < o.2)) then 0
      else (((taken.filter (fun o => decide (g ≤ o.1))).map (·.1)).min?.getD total) - g)
    let u := { t with repack := false }
    let u := u.each 2048 (fun w d =>
      let l := Sparse.find lines d
      (w.put R.DPOOL_LINE_ADDR ((l.map (·.addr)).getD 0) d).put R.DPOOL_LINE_LEN_LINE ((l.map (·.len)).getD 0) d)
    ((u.put R.DPOOL_STATUS_USED ((lines.map (fun l => l.2.len / 64)).sum)).put R.DPOOL_STATUS_LARGEST_FREE
      (free.max?.getD 0)).put R.DPOOL_LINES lines.length

/-- The mixer at a commit that takes effect at the start of the present tick; what the early passes took ahead is not taken
again. -/
def State.mixCommit (s old : State) (pages : List Nat) : State :=
  let mix := if old.mix.ahead.isSome then { old.mix with ahead := none } else (old.mixTake pages (old.mix.step + 1)).mix
  { s with mix := mix }.mixPublish old pages

/-- What the early passes took ahead goes back: the commit has been rejected (R68). -/
def State.mixBack (s : State) : State :=
  match s.mix.ahead with
  | some h => { s with mix := { s.mix with table := h.table, ducks := h.ducks, lines := h.lines, geom := h.geom, ahead := none } }
  | none => s

/-- On every entry into RUN each pair ramps from 0 under its RAMP (R265); no pass has run. -/
def State.mixStart (s : State) : State :=
  { s with mix := { s.mix with
      table := s.mix.table.map (fun e => (e.1, ⟨0, e.1.target, 8 * e.1.ramp, s.mix.step + 1⟩))
      early := false, ahead := none, earlyOut := [], earlyFeed := [], bad := [], feeds := [] } }

/-! ### What the passes read (R30, R31, R50, R235) -/

/-- Eight samples of zero. -/
def zeros8 : List Int := List.replicate 8 0

/-- Ports of an alignment group that count (R101, R240). -/
def State.groupPorts (s : State) (g : Nat) : List Nat :=
  (List.range 8).filter (fun p => s.get R.SP_CFG_ALIGN p == g && s.spCounts p && !(s.rxSlotsOf p).isEmpty)

/-- Some member of a group misses index x. -/
def State.groupMisses (s : State) (g x : Nat) : Bool :=
  (s.groupEntries g).any (fun n => s.rxMisses n x) || (s.groupPorts g).any (fun p => s.spMisses p x)

/-- JOINT_MUTE silences index x in group g (R101, R240). -/
def State.jointMuted (s : State) (g x : Nat) : Bool := s.joint g && s.groupMisses g x

/-- The alignment group of an input source, 127 for none. -/
def State.srcGroup (s : State) (src : Nat) : Nat :=
  if src < 2048 then ((s.entryOfChan src).map (fun n => s.get R.STRX_ENTRY2_ALIGN n.1)).getD 127
  else s.get R.SP_CFG_ALIGN ((src - 2048) / 32)

/-- The 8 samples of an input source in tick T, before alignment; port channels resolve through the masks of v. -/
def State.srcRead (s v : State) (T src : Nat) : List Int :=
  if s.zeroTick = some T then zeros8
  else (List.range 8).map (fun j =>
    if src < 2048 then s.netSample src (8 * T + j)
    else s.spSample (v.get R.SP_RX_MASK_MASK ((src - 2048) / 32)) ((src - 2048) / 32) ((src - 2048) % 32) (8 * T + j))

/-- Samples with those that JOINT_MUTE silences at zero. -/
def State.jointCut (s : State) (T src : Nat) (x : List Int) : List Int :=
  x.zipIdx.map (fun e => if s.jointMuted (s.srcGroup src) (8 * T + e.2) then 0 else e.1)

/-- The sources of a table that an early pass reads (R50). -/
def earlySources (tab : List (XEntry × Ramp)) (out : Bool) : List Nat :=
  ((tab.filter (fun e => decide (e.1.dst < 1792) == out && e.1.late == none)).map (·.1.src)).eraseDups

/-- The judgement of the alignment groups over tick T (R101, R240). -/
def State.alignTick (s : State) (T : Nat) : State :=
  let miss (f : Nat → Bool) : Bool := (List.range 8).any (fun j => f (8 * T + j))
  let broke := (List.range 64).filter (fun g =>
    let m := (s.groupEntries g).map (fun n => miss (s.rxMisses n)) ++ (s.groupPorts g).map (fun p => miss (s.spMisses p))
    m.contains true && m.contains false)
  let t := broke.foldl (fun u g =>
    if g < 32 then u.putBit R.STRX_ALIGN_BREAK_LO_BREAK g true else u.putBit R.STRX_ALIGN_BREAK_HI_BREAK (g - 32) true) s
  let t := { t with str := { t.str with alignRun := broke } }
  t.when (broke.any (fun g => !s.str.alignRun.contains g)) (fun u => u.raise EV_ALIGN_BREAK)

/-! ### Accumulation (R267, R268) -/

/-- One product added to an accumulator of 48 bits; the flag says that it saturated. -/
def accStep (a : Int × Bool) (x coef duck : Int) : Int × Bool :=
  let p := roundShift (x * roundShift (coef * duck) 28) 20
  let v := a.1 + p
  (satTo 48 v, a.2 || decide (satTo 48 v ≠ v))

/-- The result of a destination in batch m: 8 samples and whether each clipped. `read` gives a source's samples. -/
def State.mixDest (s : State) (d m : Nat) (read : Nat → List Int) : List (Int × Bool) :=
  let es := s.mix.table.zipIdx.filter (fun e => e.1.1.dst == d && !s.mix.bad.contains e.2)
  let xs := es.map (fun e => (e.1, read e.1.1.src))
  (List.range 8).map (fun k =>
    let a := xs.foldl (fun (a : Int × Bool) e =>
      accStep a ((e.2[k]?).getD 0) (e.1.2.value m k)
        (if e.1.1.duck = 0 then unity else (s.duckRamp e.1.1.duck).value m k)) ((0, false) : Int × Bool)
    let v := roundShift a.1 8
    (satTo 32 v, a.2 || decide (satTo 32 v ≠ v)))

/-- The n clipped samples of a destination, counted in the tick to which it belongs (R268). -/
def State.clipRecord (s : State) (d tick n : Nat) : State :=
  if n = 0 then s
  else
    let base := s.get R.XPM_CLIP_BASE_BASE * 4096
    let t := if base = 0 then s else s.setWord (base + 4 * d) (min (2 ^ 32 - 1) (s.word (base + 4 * d) + n))
    let t := (t.put R.XPM_CLIP_LAST_DEST d).put R.XPM_CLIP_LAST_TICK (tick % 65536)
    if t.mix.clipAt = some tick then t
    else
      let u := { t.bump R.XPM_CLIP_TICKS_CNT with mix := { t.mix with clipAt := some tick } }
      if t.mix.clipAt = some (tick - 1) then u else u.raise EV_XPT_CLIP

/-- One destination formed: mixed, its clips counted in `tick`, through its delay line at indices from x on. -/
def State.formDest (s : State) (d m tick x : Nat) (read : Nat → List Int) : List Int × State :=
  let y := s.mixDest d m read
  let t := s.clipRecord d tick (y.filter (·.2)).length
  t.lineRun d x (y.map (·.1))

/-- The destinations from lo to hi that an entry names or that own a line; every other one is zero (R255). -/
def State.liveDests (s : State) (lo hi : Nat) : List Nat :=
  (List.range (hi - lo)).filterMap (fun k =>
    let d := lo + k
    if s.mix.table.any (fun e => e.1.dst == d) || (Sparse.find s.mix.lines d).isSome then some d else none)

/-! ### The passes of a tick (R49, R50) -/

/-- Port channels resolve through the mask committed with the bank in use (R235): the masks of a commit due at the next tick
during this tick's passes. -/
def State.maskView (s : State) : State := s.withShadow (s.duePages (s.tg + 1))

/-- Bank errors found in this tick (R269): corrected ones count; an entry with an uncorrectable one contributes nothing in
this tick and its coefficient holds. -/
def State.bankErrors (s : State) (errs : List EccErr) : State :=
  errs.foldl (fun t e =>
    match e with
    | .bank i true =>
      let mix := { t.mix with
        bad := i :: t.mix.bad
        table := t.mix.table.mapIdx (fun k x => if k = i then (x.1, { x.2 with start := x.2.start + 1 }) else x) }
      ({ t with mix := mix }.put R.XPM_STATUS_BANK_ECC 1).raise EV_XPT_INVALID
    | .bank _ false => t.bump R.XPM_ECC_CNT
    | .localMem _ => t) s

/-- The early passes of a tick open (R65, R269): they take the content of a commit due at its end, and the bank errors that they meet stand in the
table so taken. -/
def State.earlyOpen (s : State) (errs : List EccErr) : State :=
  let m := s.mix.step + 1
  let t := { s with mix := { s.mix with step := m } }
  let due := s.duePages (s.tg + 1)
  let held : MixHeld := ⟨s.mix.table, s.mix.ducks, s.mix.lines, s.mix.geom⟩
  let t := t.when (!(s.dueAt (s.tg + 1)).isEmpty) (fun t => let u := t.mixTake due m; { u with mix := { u.mix with ahead := some held } })
  t.bankErrors errs

/-- The early feed pass for tick N + 1 and the early output pass for outputs leaving in tick N + 1 (R49, R50): they
read the network and port sources that they use, and judge missing samples of receive
entries at this first read (R100, R102). -/
def State.earlyPasses (s : State) : State :=
  if !s.playing || s.mix.early then s
  else
    let t := { s with mix := { s.mix with early := true } }
    let v := s.maskView
    let Tf := s.tickNum + 2 - s.out
    let To := s.tickNum + 1 - s.out
    let latch (T : Nat) (out : Bool) : Sparse (List Int) :=
      (earlySources t.mix.table out).foldl (fun (a : Sparse (List Int)) src =>
        let x := t.srcRead v T src
        Sparse.put zeros8 a src (if out then t.jointCut T src x else x)) []
    let eo := latch To true
    let ef := latch Tf false
    let u := { t with mix := { t.mix with earlyOut := eo, earlyFeed := ef } }
    u.audioEntries.foldl (fun w n => (w.underrunEntry Tf n).nonAudioEntry Tf n) u

/-- The late feed pass at the start of a tick (R49, R50): every engine input bus is completed with its port and engine-bus
entries; without an early pass in the tick before, the buses are zero. Missing samples of ports and the alignment groups are
judged at this read (R240), those of ports that have lost their clock in every device state. The early passes' network samples take JOINT_MUTE here, when the ports of the tick are known. -/
def State.lateFeed (s : State) : State :=
  let T := s.tickNum + 1 - s.out
  let s := s.each 8 (fun u p => u.spMissTick T p)
  if !s.playing || !s.mix.early then { s with mix := { s.mix with feeds := [], early := false, bad := [] } }
  else
    let t := s.alignTick T
    let read (src : Nat) : List Int :=
      if src < 2048 then t.jointCut T src (Sparse.get zeros8 t.mix.earlyFeed src)
      else if src < 2304 then t.jointCut T src (t.srcRead t T src)
      else Sparse.get zeros8 t.je.outs src
    let m := t.mix.step
    let r := (t.liveDests 1792 2048).foldl (fun (a : Sparse (List Int) × State) d =>
      let y := a.2.formDest d m s.tickNum (8 * T) read
      (Sparse.put zeros8 a.1 d y.1, y.2)) ([], t)
    let u := { r.2 with mix := { r.2.mix with feeds := r.1, early := false, earlyFeed := [], bad := [] } }
    u.each 8 (fun w p => w.spNonAudio T p)

/-- The late output pass in the kerf (R49, R50, R255): outputs leaving in the next tick are completed with their engine-bus
entries and written: network TX channels, and port outputs below each port's TX_CH with their valid bits. The outputs formed,
by destination, come first. -/
def State.lateOutput (s : State) : Sparse (List Int) × State :=
  if !s.playing || !s.mix.early then ([], s)
  else
    let T := s.tickNum + 1 - s.out
    let read (src : Nat) : List Int :=
      if src < 2304 then Sparse.get zeros8 s.mix.earlyOut src else Sparse.get zeros8 s.je.outs src
    let m := s.mix.step
    let r := (s.liveDests 0 1792).foldl (fun (a : Sparse (List Int) × State) d =>
      let y := a.2.formDest d m (s.tickNum + 1) (8 * T) read
      (Sparse.put zeros8 a.1 d y.1, y.2)) ([], s)
    let outs := r.1
    let t := { r.2 with str := { r.2.str with
      txHist := r.2.str.txHist.filter (fun e => !(decide (8 * T % 64 ≤ e.1 % 64) && decide (e.1 % 64 < 8 * T % 64 + 8))) } }
    let t := (outs.filter (fun o => decide (o.1 < 1536))).foldl (fun u o =>
      u.each 8 (fun w k => w.setTxSample o.1 (8 * T + k) ((o.2[k]?).getD 0))) t
    let v := s.maskView
    let t := t.each 8 (fun u p =>
      if !u.spPlaced p then u
      else (v.txSlotsOf p).zipIdx.foldl (fun w c =>
        let y := Sparse.get zeros8 outs (1536 + 32 * p + c.2)
        w.each 8 (fun z k => z.spOutStore p (8 * T + k) c.1 ((y[k]?).getD 0))) u)
    (outs, { t with mix := { t.mix with earlyOut := [] } })

/-- The valid bits of the tick whose last read is over are cleared (R95, R232). -/
def State.clearRead (s : State) : State :=
  if s.tickNum < s.out then s else (s.clearValidTick (s.tickNum - s.out)).spClearTick (s.tickNum - s.out)

/-! ### Commands -/

/-- XPM_COPY (R258): the copy of the active bank to the shadow begins, unless it runs, the page's commit is pending (R62) or
another writer owns the bank (R259). It writes the shadow bank, so an ACTIVE unit mirrors it (R391). -/
def execXpmCopy (who : Initiator) (s : State) : Ans := .next <|
  s.command who 0x38040 (fun t =>
    if t.flag R.XPM_STATUS_COPY_BUSY || t.pagePending 0x38 || t.svcBlocked who 0x38 || t.pairBlocked who 0x38 then t.hostErr
    else (t.put R.XPM_STATUS_COPY_BUSY 1).mirrorOut who 0x38040 0 2)

/-- A bank's bytes copied to the other bank. -/
def State.copyBank (s : State) (a b : Nat) : State :=
  let src := s.mem.filter (fun e => decide (bankBase a ≤ e.1) && decide (e.1 < bankBase a + 0x20000))
  let rest := s.mem.eraseRange (bankBase b) 0x20000
  { s with mem := src.foldl (fun m e => let k := e.1 - bankBase a + bankBase b; Sparse.put (memDefault k) m k e.2) rest }

/-- XPM_COPY_DONE (R258): the shadow bank holds the active bank's content and counts as written. -/
def execXpmCopyDone (s : State) : Ans := .next <|
  if !s.flag R.XPM_STATUS_COPY_BUSY then s
  else
    let t := s.copyBank s.activeBank (1 - s.activeBank)
    { t with mix := { t.mix with written := true } }.put R.XPM_STATUS_COPY_BUSY 0

/-- DPOOL_REPACK (R272): the next commit packs every line; READY and HELD only. -/
def execDpoolRepack (who : Initiator) (s : State) : Ans := .next <|
  s.command who 0x39040 (fun t =>
    if (t.dev == .ready || t.dev == .held) && !t.pairBlocked who 0x39 then { t with repack := true } else t.hostErr)

end Sys2Proof.Machine
end

