-- ==== Sys2Proof/Machine/CutList.lean ====
section
/-! DEFINITION. Cut lists (R53 to R57, R282 to R288): the block catalogue, parameter records, reading a cut-list section and
its checks, and what a load does. -/

namespace Sys2Proof.Machine

/-! ### The catalogue (R285) -/

/-- What the catalogue gives a block at its CHANNELS and SIZE_PARAM: cost without the call overhead, bytes of state and of
the parameter record, whether it uses AUX_BUS, whether it may carry the SERVICE flag (R288). -/
structure Cat where
  cost    : Nat
  state   : Nat
  params  : Nat
  aux     : Bool
  service : Bool
deriving DecidableEq, Repr

/-- A block without channels or size to choose. -/
def Cat.fixed (c s : Nat) (cost state params : Nat) (aux service : Bool) : Option Cat :=
  if c = 1 ∧ s = 0 then some ⟨cost, state, params, aux, service⟩ else none

/-- The catalogue: none for a BLOCK_TYPE, CHANNELS or SIZE_PARAM outside it. -/
def catalogue (ty c s : Nat) : Option Cat :=
  match ty with
  | 0x01 => if 1 ≤ c ∧ c ≤ 32 ∧ s = 0 then some ⟨12 * c, 8 * c, 4 + 4 * c, false, false⟩ else none
  | 0x02 => if 1 ≤ c ∧ c ≤ 32 ∧ 1 ≤ s ∧ s ≤ 16 then some ⟨18 * s * c, 16 * s * c, 4 + 20 * s, false, false⟩ else none
  | 0x03 => if 1 ≤ c ∧ c ≤ 8 ∧ 1 ≤ s ∧ s ≤ 512 then
      some ⟨(c * (400 + 22 * s) + 9) / 10, 4 * c * (s + 8), 4 + 4 * s, false, false⟩ else none
  | 0x04 => Cat.fixed c s 30 64 16 false false
  | 0x05 => Cat.fixed c s 60 64 8 false false
  | 0x06 => Cat.fixed c s 90 64 20 false false
  | 0x07 => Cat.fixed c s 90 64 20 false false
  | 0x08 => Cat.fixed c s 400 512 28 true true
  | 0x09 => Cat.fixed c s 9600 32768 16 true true
  | 0x0A => Cat.fixed c s 3200 8192 4 false false
  | 0x0B => Cat.fixed c s 40 64 36 false true
  | 0x0C => Cat.fixed c s 300 1024 16 false true
  | 0x0D => Cat.fixed c s 1800 2048 16 false true
  | 0x0E => Cat.fixed c s 2100 1024 12 false true
  | 0x0F => Cat.fixed c s 30 64 8 false false
  | 0x10 => Cat.fixed c s 20 64 4 false false
  | _ => none

/-- A record's length padded to 32 bytes (R282). -/
def pad32 (n : Nat) : Nat := (n + 31) / 32 * 32

/-! ### Parameter records (R286, R289, R291) -/

/-- A signed 16-bit level alone in its word, from a to b. -/
def levelIn (w : Nat) (a b : Int) : Bool := w < 65536 && decide (a ≤ signedOf 16 w) && decide (signedOf 16 w ≤ b)

/-- A number from a to b. -/
def numIn (w a b : Nat) : Bool := a ≤ w && w ≤ b

/-- The words of a TONE's notes from note k on; `ended` after the note whose FREQ is 0 (R286). -/
def notesOk : List Nat → Bool → Bool
  | f :: d :: rest, ended =>
    (if ended || f == 0 then f == 0 && d == 0
     else numIn f 20 20000 && numIn (d % 65536) 1 65535 && numIn (d / 65536) 0 240) && notesOk rest (ended || f == 0)
  | _, _ => true

/-- Every field of a record lies in the range that the catalogue gives, reserved bits zero (R286). -/
def recordOk (ty : Nat) (w : List Nat) : Bool :=
  let g (k : Nat) : Nat := (w[k]?).getD 0
  match ty with
  | 0x01 => g 0 < 256 && (w.drop 1).all (fun x => x < 2 ^ 17 && !gainClamped (x % 65536))
  | 0x02 => g 0 == 0
  | 0x03 => g 0 == 0
  | 0x04 => g 0 % 64 == 0 && numIn (g 1) 64 16384 && g 1 % 64 == 0 && g 2 + 8 ≤ g 1 && g 2 ≤ 12000 && g 3 == 0
  | 0x05 => levelIn (g 0) (-12288) 0 && numIn (g 1) 1 1000
  | 0x06 => levelIn (g 0) (-15360) 0 && numIn (g 1) 10 200 && numIn (g 2 % 65536) 1 1000 && numIn (g 2 / 65536) 10 50000 &&
      numIn (g 3) 0 6144 && g 4 == 0
  | 0x07 => levelIn (g 0) (-10240) (-1536) && numIn (g 1 % 65536) 0 7680 && levelIn (g 1 / 65536) (-7680) 0 &&
      numIn (g 2) 1 200 && levelIn (g 3) (-23040) (-7680) && g 4 == 0
  | 0x08 => levelIn (g 0) (-23040) 0 && numIn (g 1) 0 200 && numIn (g 2) 0 5120 && numIn (g 3 % 65536) 1 1000 &&
      numIn (g 3 / 65536) 1 1000 && levelIn (g 4) (-15360) 5120 && g 5 % 16 == 0 && g 6 == 0
  | 0x09 => numIn (g 0 % 512) 0 480 && numIn (bitsAt (g 0) 14 13) 0 2 && g 0 < 2 ^ 15 &&
      (levelIn (g 1) (-23040) (-12800) || g 1 == 0x8000) && g 2 % 16 == 0 && g 3 == 0
  | 0x0A => numIn (g 0) 0 6144
  | 0x0B => levelIn (g 0) (-23040) 0 && notesOk (w.drop 1) false
  | 0x0C => g 0 % 4096 == 0 && levelIn (g 1) (-23040) 3072 && g 2 % 16 == 0 && g 3 == 0
  | 0x0D => g 0 % 4096 == 0 && levelIn (g 1) (-23040) 3072 && g 2 % 16 == 0 && g 3 == 0
  | 0x0E => g 0 % 256 == 0 && ((List.range 9).map (fun k => 256 * 2 ^ k)).contains (g 1) && g 2 % 16 == 0
  | 0x0F => numIn (g 0) 1 6000 && g 1 % 16 == 0
  | 0x10 => g 0 ≤ 7
  | _ => false

/-- Little-endian words of bytes. -/
def wordsOf : List Byte → List Nat
  | a :: b :: c :: d :: rest => leVal [a, b, c, d] :: wordsOf rest
  | _ => []

/-! ### The section (R53, R54, R55) -/

/-- Reasons of R67. -/
abbrev XPT_ORDER : Nat := 0x01
/-- R67. -/
abbrev XPT_RANGE : Nat := 0x02
/-- R67. -/
abbrev XPT_LATE_CAP : Nat := 0x03
/-- R67. -/
abbrev XPT_SIZE : Nat := 0x04
/-- R67. -/
abbrev CUT_BUDGET : Nat := 0x05
/-- R67. -/
abbrev CUT_FORMAT : Nat := 0x06
/-- R67. -/
abbrev CUT_MEMORY : Nat := 0x07
/-- R67. -/
abbrev STREAM_TABLE : Nat := 0x08
/-- R67. -/
abbrev ZONE_REF : Nat := 0x09
/-- R67. -/
abbrev PIN_CONFLICT : Nat := 0x0A
/-- R67. -/
abbrev POWER_LIMIT : Nat := 0x0B
/-- R67. -/
abbrev DPOOL_FULL : Nat := 0x0C
/-- R67. -/
abbrev PROT_AREA : Nat := 0x0D
/-- R67. -/
abbrev STATE_REASON : Nat := 0x0E

/-- The index for the section as a whole (R418). -/
def wholeCut : Nat := 0xFFFFFF

/-- A failing check: its reason and index (R418). -/
abbrev Bad := Nat × Nat

/-- The descriptors of one engine's list from offset `at_` on, records from `rec` on: each with whether its reserved bytes,
its flags and its padding are as they must be; none where they do not fill the list exactly. Where a block is outside the catalogue its record has no
length: the list is judged at that descriptor, in its engine's turn (R55), and what follows it is not read. -/
def cutDescs (rd : Nat → Nat → Nat) (byteAt : Nat → Byte) (n stop : Nat) : Nat → Nat → Nat → Except Bad (List (Desc × Bool))
  | 0, _, rec => if rec = stop then .ok [] else .error (CUT_FORMAT, wholeCut)
  | k + 1, at_, rec =>
    let ty := rd at_ 1
    let c := rd (at_ + 4) 1
    let sz := rd (at_ + 6) 2
    let flags := rd (at_ + 1) 1
    let desc (bytes : List Byte) : Desc := ⟨n, ty, bitAt flags 1, rd (at_ + 2) 2, c, sz, rd (at_ + 8) 2, rd (at_ + 0x0A) 2, rd (at_ + 0x0C) 4,
      rd (at_ + 0x10) 4, rd (at_ + 0x14) 4, rd (at_ + 0x18) 4, rd (at_ + 0x1C) 2, bytes⟩
    match catalogue ty c sz with
    | none => if stop < rec then .error (CUT_FORMAT, wholeCut) else .ok [(desc [], false)]
    | some cat =>
      if stop < rec + pad32 cat.params then .error (CUT_FORMAT, wholeCut)
      else
        let padZero := (List.range (pad32 cat.params - cat.params)).all (fun j => byteAt (rec + cat.params + j) == 0)
        let d := desc ((List.range cat.params).map (fun j => byteAt (rec + j)))
        let clean := padZero && flags < 4 && rd (at_ + 5) 1 == 0 && rd (at_ + 0x1E) 2 == 0
        match cutDescs rd byteAt n stop k (at_ + 32) (rec + pad32 cat.params) with
        | .error e => .error e
        | .ok ds => .ok ((d, clean) :: ds)

/-- The header rules of R53, with the engine fields: offset, count, reserved, cost, local memory. -/
def cutHeaderOk (rd : Nat → Nat → Nat) (len rev : Nat) (eng : List (Nat × Nat × Nat × Nat × Nat)) : Bool :=
  let mask := rd 0x06 1
  0xA0 ≤ len && rd 0 4 == 0x4355544C && rd 4 2 == 0x0100 && rd 7 1 == 0 && rd 8 4 == rev && rd 0x0C 4 == len &&
  rd 0x10 4 == (eng.map (fun e => e.2.1)).sum && rd 0x14 12 == 0 &&
  eng.zipIdx.all (fun e =>
    e.1.2.2.1 == 0 && e.1.2.1 ≤ 1024 &&
    (if bitAt mask e.2 then e.1.1 % 32 == 0 && 0xA0 ≤ e.1.1 && e.1.1 ≤ len && e.1.2.2.2.2 ≤ 524288
     else e.1.1 == 0 && e.1.2.1 == 0 && e.1.2.2.2.1 == 0 && e.1.2.2.2.2 == 0))

/-- Where an engine's list ends (R282): at the next list, or the section's end. Lists at one offset follow one another, the empty ones, by engine
number, before one with instances. A list is its offset, its count and its engine. -/
def listEnd (lists : List (Nat × Nat × Nat)) (e : Nat × Nat × Nat) (len : Nat) : Nat :=
  ((lists.filter (fun o => decide (e.1 < o.1) ||
    (o.1 == e.1 && o.2.2 != e.2.2 && (o.2.1 != 0 || (e.2.1 == 0 && decide (e.2.2 < o.2.2)))))).map (·.1)).min?.getD len

/-- A section read as a cut list: its descriptors with their form flags, or the first rule of the header and layout that it
breaks. -/
def parseCut (rd : Nat → Nat → Nat) (byteAt : Nat → Byte) (len rev : Nat) : Except Bad (Cut × List (Desc × Bool)) :=
  let eng := (List.range 8).map (fun n =>
    (rd (0x20 + 16 * n) 4, rd (0x24 + 16 * n) 2, rd (0x26 + 16 * n) 2, rd (0x28 + 16 * n) 4, rd (0x2C + 16 * n) 4))
  if !cutHeaderOk rd len rev eng then .error (CUT_FORMAT, wholeCut)
  else
    let mask := rd 0x06 1
    let held := eng.zipIdx.filter (fun e => bitAt mask e.2)
    let lists := held.foldl (fun (a : Except Bad (List (Desc × Bool))) e =>
      match a with
      | .error x => .error x
      | .ok ds =>
        let stop := listEnd (held.map (fun o => (o.1.1, o.1.2.1, o.2))) (e.1.1, e.1.2.1, e.2) len
        match cutDescs rd byteAt e.2 stop e.1.2.1 e.1.1 (e.1.1 + 32 * e.1.2.1) with
        | .error x => .error x
        | .ok l => .ok (ds ++ l)) (.ok [])
    match lists with
    | .error x => .error x
    | .ok ds => .ok (⟨ds.map (·.1), mask, eng.map (·.2.2.2.1), eng.map (·.2.2.2.2)⟩, ds)

/-- A bus range of an instance's own engine, or output buses that an earlier instance wrote (R54). -/
def busOk (n first width : Nat) (written : List Nat) : Bool :=
  (1792 + 32 * n ≤ first && first + width ≤ 1824 + 32 * n) || (List.range width).all (fun k => written.contains (first + k))

/-- The rules of R54, R282, R285 and R288 for one descriptor. -/
def descOk (d : Desc) (clean : Bool) (written ids : List Nat) : Bool :=
  match catalogue d.type d.chans d.size with
  | none => false
  | some cat =>
    clean && 24 + cat.cost ≤ d.cost && (!d.service || cat.service) && d.id ≤ 8191 && !ids.contains d.id &&
    busOk d.engine d.inBus d.chans written &&
    (2304 + 32 * d.engine ≤ d.outBus && d.outBus + d.chans ≤ 2336 + 32 * d.engine) &&
    (if cat.aux then busOk d.engine d.aux 1 written else d.aux == 0xFFFF) &&
    d.stateOff % 64 == 0 && d.paramOff % 32 == 0 && cat.state ≤ d.stateLen && recordOk d.type (wordsOf d.record)

/-- Local-memory areas (start, end) of a descriptor (R55). -/
def Desc.areas (d : Desc) : List (Nat × Nat) :=
  [(d.stateOff, d.stateOff + d.stateLen), (d.paramOff, d.paramOff + pad32 d.record.length)]

/-- Two areas of a list overlap. -/
def overlap : List (Nat × Nat) → Bool
  | [] => false
  | a :: rest => rest.any (fun b => decide (a.1 < b.2) && decide (b.1 < a.2)) || overlap rest

/-- The check of one engine's list (R55); `ids` are the instances of earlier lists. -/
def listCheck (c : Cut) (ds : List (Desc × Bool)) (n : Nat) (ids : List Nat) : Option Bad :=
  let own := ds.filter (fun d => d.1.engine == n)
  let r := own.zipIdx.foldl (fun (a : Option Bad × List Nat × List Nat) d =>
    if a.1.isSome then a
    else if descOk d.1.1 d.1.2 a.2.1 a.2.2 then
      (none, a.2.1 ++ (List.range d.1.1.chans).map (fun k => d.1.1.outBus + k), d.1.1.id :: a.2.2)
    else (some (CUT_FORMAT, n * 65536 + d.2), a.2)) (none, [], ids)
  let total := (own.map (fun d => d.1.cost)).sum
  let areas := own.flatMap (fun d => d.1.areas)
  match r.1 with
  | some b => some b
  | none =>
    if total ≠ (c.costs[n]?).getD 0 then some (CUT_FORMAT, n * 65536 + 0xFFFF)
    else if 122880 < total then some (CUT_BUDGET, n * 65536 + 0xFFFF)
    else if overlap areas || areas.any (fun a => decide ((c.mems[n]?).getD 0 < a.2)) then some (CUT_MEMORY, n * 65536 + 0xFFFF)
    else none

/-- The check of R55 in engine order. -/
def cutCheck (c : Cut) (ds : List (Desc × Bool)) : Option Bad :=
  (List.range 8).foldl (fun (a : Option Bad) n =>
    match a with
    | some b => some b
    | none => if bitAt c.mask n then listCheck c ds n ((ds.filter (fun d => decide (d.1.engine < n))).map (·.1.id)) else none) none

/-- A section at an address of memory, read and checked (R53 to R55, R282). -/
def State.cutAt (s : State) (base len : Nat) : Except Bad Cut :=
  let rd (o n : Nat) : Nat := s.le (base + o) n
  match parseCut rd (fun o => s.byte (base + o)) len (s.get R.TICK_CATREV_REV) with
  | .error b => .error b
  | .ok c => match cutCheck c.1 c.2 with
    | some b => .error b
    | none => .ok c.1

/-! ### Shared-memory areas of blocks (R286) -/

/-- The shared-memory area of an instance (base, bytes) and whether the flash DMA writes it. -/
def Desc.area (d : Desc) : Option (Nat × Nat × Bool) :=
  let w := wordsOf d.record
  let g (k : Nat) : Nat := (w[k]?).getD 0
  if d.type = 0x04 then some (g 0, 4 * g 1, false)
  else if d.type = 0x0C ∨ d.type = 0x0D then some (g 0, 4096, true)
  else if d.type = 0x0E then some (g 0, g 1, false)
  else none

/-- The position of a descriptor in its engine's list, as an index of R418. -/
def Cut.index (c : Cut) (d : Desc) : Nat :=
  d.engine * 65536 + ((c.descs.filter (fun x => x.engine == d.engine)).findIdx (fun x => x.id == d.id))

/-- The area rules of R286 for a cut list beside a delay pool (base, bytes); no pool where it is empty. -/
def State.cutAreas (s : State) (c : Cut) (pool : Nat × Nat) : Option Bad :=
  let areas := c.descs.filterMap (fun d => d.area.map (fun a => (d, a)))
  match areas.find? (fun a =>
      !(inSharedArea a.2.1 a.2.2.1 && s.areaGranted .eng false a.2.1 a.2.2.1 && s.areaGranted .eng true a.2.1 a.2.2.1 &&
        (!a.2.2.2 || s.areaGranted .fdma true a.2.1 a.2.2.1))) with
  | some a => some (PROT_AREA, c.index a.1)
  | none =>
    match areas.zipIdx.find? (fun a =>
        (pool.2 != 0 && overlap [(a.1.2.1, a.1.2.1 + a.1.2.2.1), (pool.1, pool.1 + pool.2)]) ||
        (areas.take a.2).any (fun b => overlap [(a.1.2.1, a.1.2.1 + a.1.2.2.1), (b.2.1, b.2.1 + b.2.2.1)])) with
    | some a => some (CUT_MEMORY, c.index a.1.1)
    | none => none

/-- The list with the records that the update slots of these JE pages bring (R287). -/
def State.pupdCut (v : State) (on : Nat → Bool) (c : Cut) : Cut :=
  { c with descs := c.descs.map (fun (d : Desc) =>
    match (List.range 8).reverse.find? (fun k =>
        on (0x40 + d.engine) && v.flag R.JE_PUPD_CTRL_EN d.engine k && v.get R.JE_PUPD_CTRL_INSTANCE d.engine k == d.id) with
    | some k => { d with record := v.bytes (v.get R.JE_PUPD_SRC_ADDR d.engine k * 32) d.record.length }
    | none => d) }

/-- The rules of R294 that concern the list alone. -/
def envelopeCheck (c : Cut) : Option Bad :=
  let env := c.descs.filter (fun d => d.type == 0x10)
  let pch (d : Desc) : Nat := ((wordsOf d.record)[0]?).getD 0
  match env.zipIdx.find? (fun d =>
      (env.take d.2).any (fun e => pch e == pch d.1) ||
      ((c.descs.dropWhile (fun x => x.id != d.1.id)).drop 1).any (fun x =>
        x.engine == d.1.engine && decide (x.outBus ≤ d.1.outBus) && decide (d.1.outBus < x.outBus + x.chans))) with
  | some d => some (CUT_FORMAT, c.index d.1)
  | none => none

/-! ### Loading (R57, R282, R283, R287, R296) -/

/-- The base of an engine's local memory (R279). -/
def localBase (n : Nat) : Nat := 0x20000000 + n * 0x100000

/-- A record copied to its PARAM_OFFSET, padded (R282). -/
def State.copyRecord (s : State) (d : Desc) : State :=
  s.setBytes (localBase d.engine + d.paramOff) (d.record ++ List.replicate (pad32 d.record.length - d.record.length) 0)

/-- An instance's state. -/
def State.inst (s : State) (id : Nat) : Inst := Sparse.get Inst.init0 s.je.insts id

/-- An instance's state at x. -/
def State.setInst (s : State) (id : Nat) (x : Inst) : State :=
  { s with je := { s.je with insts := Sparse.put Inst.init0 s.je.insts id x } }

/-- INIT waits for every instance of an engine (R296, R473). -/
def State.initEngine (s : State) (n : Nat) : State :=
  (s.je.cut.descs.filter (fun d => d.engine == n)).foldl (fun t d => t.setInst d.id { t.inst d.id with init := true }) s

/-- A cut list comes into force (R57, R282): an instance keeps its state and its last sequence only where its identity is
unchanged; every record is copied to local memory. DESIGN CHOICE (log entry 107): R57 names INSTANCE_ID, BLOCK_TYPE, STATE_OFFSET and STATE_SIZE, and
STATE_OFFSET is an offset in the local memory of one engine; an instance that moves to another engine with all four unchanged is initialised. -/
def State.loadCut (s : State) (c : Cut) : State :=
  let old := s.je.cut.descs
  let keeps (d : Desc) : Bool := old.any (fun o =>
    o.id == d.id && o.engine == d.engine && o.type == d.type && o.stateOff == d.stateOff && o.stateLen == d.stateLen)
  let t := { s with je := { s.je with
    cut := c, insts := s.je.insts.filter (fun x => c.descs.any (fun d => d.id == x.1 && keeps d)) } }
  let t := c.descs.foldl State.copyRecord t
  t.each 8 (fun u n =>
    let has := bitAt c.mask n
    (((u.put R.ENG_COST_COST (if has then (c.costs[n]?).getD 0 else 0) n).put R.JE_STATUS_HAS_LIST (b2n has) n).put
      R.JE_INST_COUNT ((c.descs.filter (fun d => d.engine == n)).length) n).put
      R.JE_LOCAL_USED_BYTES (if has then (c.mems[n]?).getD 0 else 0) n)

/-- A parameter-update slot takes effect (R287): its record goes to local memory and into the kept copy; EN clears. -/
def State.paramUpdate (s : State) (n k : Nat) : State :=
  if !s.flag R.JE_PUPD_CTRL_EN n k then s
  else
    let id := s.get R.JE_PUPD_CTRL_INSTANCE n k
    let t := s.put R.JE_PUPD_CTRL_EN 0 n k
    match t.je.cut.descs.find? (fun d => d.engine == n && d.id == id) with
    | none => t
    | some d =>
      let d' := { d with record := t.bytes (t.get R.JE_PUPD_SRC_ADDR n k * 32) d.record.length }
      { t with je := { t.je with cut := { t.je.cut with
        descs := t.je.cut.descs.map (fun (x : Desc) => if x.id = d.id then d' else x) } } }.copyRecord d'

/-- A faulted engine restarts at a commit that takes effect (R296). -/
def State.restartEngine (s : State) (n : Nat) : State :=
  if !s.flag R.JE_STATUS_FAULT n then s
  else
    let t := (s.je.cut.descs.filter (fun d => d.engine == n)).foldl State.copyRecord s
    ((t.put R.JE_STATUS_FAULT 0 n).put R.JE_STATUS_FAULT_CAUSE 0 n).initEngine n

/-- The engines at a commit that takes effect now; `old` is the state before it, `cut` the list that it loads (R57, R287,
R296, R473). -/
def State.engineCommit (s old : State) (pages : List Nat) (cut : Option Cut) : State :=
  let t := match cut with | some c => s.loadCut c | none => s
  let t := t.each 8 (fun u n =>
    if !pages.contains (0x40 + n) then u
    else
      let w := u.each 8 (fun x k => x.paramUpdate n k)
      w.when (w.flag R.PG_CTRL_EN (0x40 + n) && !old.flag R.PG_CTRL_EN (0x40 + n)) (fun x => x.initEngine n))
  t.each 8 State.restartEngine

end Sys2Proof.Machine
end

