-- ==== Sys2Proof/Machine/G722.lean ====
section
/-! DEFINITION. The G.722 coding at 64 kbit/s of CLIP_G722 and G722_ENC (R515): the two ADPCM bands and the quadrature mirror filters.
PRESUMED (log entry 132): the spec names ITU-T G.722 and does not restate it; tables and procedures are the Recommendation's. -/

namespace Sys2Proof.Machine

/-- The scale-factor steps of the lower band. -/
def g722WL : List Int := [-60, -30, 58, 172, 334, 538, 1198, 3042]

/-- The place in `g722WL` of a 4-bit code of the lower band. -/
def g722RL : List Nat := [0, 7, 6, 5, 4, 3, 2, 1, 7, 6, 5, 4, 3, 2, 1, 0]

/-- The inverse logarithm table. -/
def g722ILB : List Nat :=
  [2048, 2093, 2139, 2186, 2233, 2282, 2332, 2383, 2435, 2489, 2543, 2599, 2656, 2714, 2774, 2834] ++
  [2896, 2960, 3025, 3091, 3158, 3228, 3298, 3371, 3444, 3520, 3597, 3676, 3756, 3838, 3922, 4008]

/-- The scale-factor steps of a 2-bit code of the higher band. -/
def g722WH : List Int := [798, -214, 798, -214]

/-- The inverse quantiser of the higher band. -/
def g722Q2 : List Int := [-7408, -1616, 7408, 1616]

/-- The 4-bit inverse quantiser of the lower band, which drives its adaptation. -/
def g722Q4 : List Int :=
  [0, -20456, -12896, -8968, -6288, -4240, -2584, -1200, 20456, 12896, 8968, 6288, 4240, 2584, 1200, 0]

/-- The magnitudes of the 6-bit inverse quantiser of the lower band that carry 28 of its levels. -/
def g722Q6Levels : List Int :=
  [24808, 21904, 19008, 16704, 14984, 13512, 12280, 11192, 10232, 9360, 8576, 7856, 7192, 6576] ++
  [6000, 5456, 4944, 4464, 4008, 3576, 3168, 2776, 2400, 2032, 1688, 1360, 1040, 728]

/-- The 6-bit inverse quantiser of the lower band. -/
def g722Q6 : List Int := [-136, -136, -136, -136] ++ g722Q6Levels.map (fun x => -x) ++ g722Q6Levels ++ [432, 136, -432, -136]

/-- The decision levels of the lower band's quantiser. -/
def g722Levels : List Int :=
  [35, 72, 110, 150, 190, 233, 276, 323, 370, 422, 473, 530, 587, 650, 714, 786, 858, 940, 1023, 1121, 1219, 1339, 1458, 1612] ++
  [1765, 1980, 2195, 2557, 2919]

/-- The coefficients of the quadrature mirror filters. -/
def g722Qmf : List Int := [3, -11, 12, 32, -210, 951, 3876, -805, 362, -156, 53, -11]

/-- An entry of a table. -/
def tab (l : List Int) (k : Nat) : Int := (l[k]?).getD 0

/-- Both numbers are negative, or neither is. -/
def sameSign (u v : Int) : Bool := decide (u < 0) == decide (v < 0)

/-- The predictor of a band adapts to a quantised difference and predicts the next sample. -/
def G722Band.adapt (x : G722Band) (d : Int) : G722Band :=
  let r0 := satTo 16 (x.s + d)
  let p0 := satTo 16 (x.sz + d)
  let grow := satTo 16 (4 * tab x.a 0)
  let w := min 32767 (if sameSign p0 (tab x.p 0) then -grow else grow)
  let a2 := max (-12288) (min 12288
    ((if sameSign p0 (tab x.p 1) then 128 else -128) + w.fdiv 128 + (tab x.a 1 * 32512).fdiv 32768))
  let lim := satTo 16 (15360 - a2)
  let a1 := max (-lim) (min lim (satTo 16 ((if sameSign p0 (tab x.p 0) then 192 else -192) + (tab x.a 0 * 32640).fdiv 32768)))
  let b := List.zipWith (fun b e =>
    satTo 16 ((b * 32640).fdiv 32768 + (if d = 0 then 0 else if sameSign e d then 128 else -128))) x.b x.d
  let ds := (d :: x.d).take 6
  let sp := satTo 16 ((a1 * satTo 16 (2 * r0)).fdiv 32768 + (a2 * satTo 16 (2 * tab x.r 0)).fdiv 32768)
  let sz := satTo 16 (List.zipWith (fun b e => (b * satTo 16 (2 * e)).fdiv 32768) b ds).sum
  { x with s := satTo 16 (sp + sz), sz := sz, r := [r0, tab x.r 0], p := [p0, tab x.p 0], a := [a1, a2], d := ds, b := b }

/-- The quantiser step of a logarithmic scale factor; `base` is 8 in the lower band and 10 in the higher. -/
def g722Scale (nb : Int) (base : Nat) : Int :=
  let n := nb.toNat
  let w := (g722ILB[n / 64 % 32]?).getD 0
  ((if base < n / 2048 then w * 2 ^ (n / 2048 - base) else w / 2 ^ (base - n / 2048)) * 4 : Nat)

/-- The scale factor one step on, at most `top`. -/
def g722Log (nb step top : Int) : Int := max 0 (min top ((nb * 127).fdiv 128 + step))

/-- The lower band after a 4-bit code. -/
def G722Band.low (x : G722Band) (code : Nat) : G722Band :=
  let nb := g722Log x.nb (tab g722WL ((g722RL[code]?).getD 0)) 18432
  { x with nb := nb, det := g722Scale nb 8 }.adapt ((x.det * tab g722Q4 code).fdiv 32768)

/-- The higher band after a 2-bit code. -/
def G722Band.high (x : G722Band) (code : Nat) : G722Band :=
  let nb := g722Log x.nb (tab g722WH code) 22528
  { x with nb := nb, det := g722Scale nb 10 }.adapt ((x.det * tab g722Q2 code).fdiv 32768)

/-- The two sums of a quadrature mirror filter over 24 numbers, oldest first. -/
def qmfSums (x : List Int) : Int × Int :=
  (((List.range 12).map (fun i => tab x (2 * i) * tab g722Qmf i)).sum,
    ((List.range 12).map (fun i => tab x (2 * i + 1) * tab g722Qmf (11 - i))).sum)

/-- A number held to 15 bits. -/
def lim15 (x : Int) : Int := satTo 15 x

/-- One octet decoded into two samples at 16 kHz. -/
def G722.decode (g : G722) (code : Nat) : List Int × G722 :=
  let rl := lim15 (g.low.s + (g.low.det * tab g722Q6 (code % 64)).fdiv 32768)
  let rh := lim15 (g.high.s + (g.high.det * tab g722Q2 (code / 64 % 4)).fdiv 32768)
  let x := g.qmf.drop 2 ++ [rl + rh, rl - rh]
  let o := qmfSums x
  ([satTo 16 (o.2.fdiv 2048), satTo 16 (o.1.fdiv 2048)], ⟨g.low.low (code % 64 / 4), g.high.high (code / 64 % 4), x⟩)

/-- How many levels a magnitude reaches, of at most 29. -/
def g722Level (det m : Int) : Nat := ((g722Levels.takeWhile (fun q => decide ((q * det).fdiv 4096 ≤ m)))).length

/-- The 6-bit code of the lower band for a difference. -/
def g722Low (det e : Int) : Nat :=
  let k := g722Level det (if 0 ≤ e then e else -(e + 1))
  if 0 ≤ e then 61 - k else if k < 2 then 63 - k else 33 - k

/-- The 2-bit code of the higher band for a difference. -/
def g722High (det e : Int) : Nat :=
  let far := decide ((564 * det).fdiv 4096 ≤ (if 0 ≤ e then e else -(e + 1)))
  if 0 ≤ e then (if far then 2 else 3) else (if far then 0 else 1)

/-- Two samples at 16 kHz coded into an octet. -/
def G722.encode (g : G722) (s0 s1 : Int) : Nat × G722 :=
  let x := g.qmf.drop 2 ++ [s0, s1]
  let o := qmfSums x
  let il := g722Low g.low.det (satTo 16 (lim15 ((o.2 + o.1).fdiv 16384) - g.low.s))
  let ih := g722High g.high.det (satTo 16 (lim15 ((o.2 - o.1).fdiv 16384) - g.high.s))
  (ih * 64 + il, ⟨g.low.low (il / 4), g.high.high ih, x⟩)

end Sys2Proof.Machine
end

