-- ==== Sys2Proof/Machine/Engine.lean ====
section
/-! DEFINITION. The Joiner engines (R58 to R60, R277 to R298): block instances, control records, clip players, faults,
deadline and overruns. What TICK_CATREV fixes and the spec does not state bit for bit (R515) is a free value. -/

namespace Sys2Proof.Machine

/-! ### Faults (R296, R297) -/

/-- An engine faults: it stops, its buses carry zero, and the fault is recorded; a stopped engine cannot fault again. An ACTIVE
unit whose partner is in step demotes itself (R387). -/
def State.engineFault (s : State) (n cause : Nat) (inst : Option Nat) : State :=
  if s.flag R.JE_STATUS_FAULT n then s
  else
    let t := ((s.put R.JE_STATUS_FAULT 1 n).put R.JE_STATUS_FAULT_CAUSE cause n).put R.JE_STATUS_FAULT_SEEN 1 n
    let t := ((t.put R.JE_FAULT_INFO_INSTANCE (inst.getD 0) n).put R.JE_FAULT_INFO_NONE (b2n inst.isNone) n).put
      R.JE_FAULT_INFO_TICK (t.tickNum % 65536) n
    ((t.bump R.JE_FAULT_CNT n).raise EV_ENGINE_FAULT).when t.pairInStep State.demote

/-- An engine runs its list: enabled, not faulted, and the list in force is not empty (R473, R296). -/
def State.engineRuns (s : State) (n : Nat) : Bool :=
  s.flag R.PG_CTRL_EN (0x40 + n) && !s.flag R.JE_STATUS_FAULT n && s.je.cut.descs.any (fun d => d.engine == n)

/-- The descriptors of an engine in list order. -/
def State.listOf (s : State) (n : Nat) : List Desc := s.je.cut.descs.filter (fun d => d.engine == n)

/-- The parameter record of an instance as local memory holds it, in words (R282, R286). -/
def State.paramWords (s : State) (d : Desc) : List Nat :=
  (List.range (d.record.length / 4)).map (fun k => s.word (localBase d.engine + d.paramOff + 4 * k))

/-! ### Blocks: what they hold -/

/-- The target coefficients of a GAIN record (R263, R286). -/
def gainTargets (w : List Nat) : List Int := (w.drop 1).map (fun x => codeCoef (x % 65536) (bitAt x 16))

/-- INIT of an instance (R285, INIT column); the last applied sequence and its controls, a G722_ENC's write index stay. -/
def instInit (d : Desc) (w : List Nat) (x : Inst) : Inst :=
  let hist := if d.type = 0x02 then 4 * d.size * d.chans else if d.type = 0x03 then d.size * d.chans else 0
  { Inst.init0 with
    init := false
    seq := x.seq
    ctl := x.ctl
    ring := x.ring
    hist := List.replicate hist 0
    ramps := if d.type = 0x01 then (gainTargets w).map (fun t => ⟨t, t, 0, 0⟩) else [] }

/-- INIT runs where it waits, and counts (R57, R59). -/
def State.runInit (s : State) (d : Desc) (w : List Nat) : State :=
  if (s.inst d.id).init then (s.setInst d.id (instInit d w (s.inst d.id))).bump R.JE_INIT_CNT d.engine else s

/-! ### Control records (R288) -/

/-- A present clip of the library (R295, R369). -/
def State.clipOf (s : State) (id : Nat) : Option Clip := Sparse.find s.clips id

/-- Controls applied to an instance in this tick. DEDUCED (log entry 133): START decodes its clip from a reset decoder. -/
def State.control (s : State) (d : Desc) (w : List Nat) (c : Nat) : State :=
  let x := { s.inst d.id with ctl := c }
  let g (k : Nat) : Nat := (w[k]?).getD 0
  if d.type = 0x09 ∧ bitAt c 1 then
    (s.setInst d.id (instInit d w x)).bump R.JE_INIT_CNT d.engine
  else if d.type = 0x0B then
    let t := if bitAt c 0 then (⟨g 1 != 0, bitAt c 2, 0, 8 * (g 2 % 65536), 0, false, 0⟩ : Tone) else x.tone
    s.setInst d.id { x with tone := if bitAt c 1 then { t with stop := true } else t }
  else if d.type = 0x0C ∨ d.type = 0x0D then
    let id := bitsAt c 27 16
    let p := if bitAt c 0 then
        (⟨if (s.clipOf id).isSome then 1 else 3, id, bitAt c 2, 0, 0, 0, false, s.tg⟩ : Player) else x.play
    let x := if d.type = 0x0D ∧ bitAt c 0 = true then { x with g722 := G722.init, alg := 0 } else x
    s.setInst d.id { x with play := if bitAt c 1 then { p with stop := true } else p }
  else s.setInst d.id x

/-- A SERVICE instance reads its control record in the tick overhead; it applies one whose two sequence numbers agree and
are new. A denied read is an engine fault outside every run (R76, R296). -/
def State.readControl (s : State) (d : Desc) : State :=
  if !d.service || s.flag R.JE_STATUS_FAULT d.engine then s
  else
    let a := s.get R.JE_SVC_BASE_BASE * 4096 + 32 * d.id
    if !s.permits .eng false a then (s.denyRecord .eng false a).engineFault d.engine 3 none
    else
      let w := s.paramWords d
      let t := s.runInit d w
      let q := s.word a % 65536
      if q ≠ s.word (a + 28) % 65536 ∨ (t.inst d.id).seq = some q then t
      else (t.setInst d.id { t.inst d.id with seq := some q }).control d w (s.word (a + 4))

/-- The control records of every running engine (R288). -/
def State.readControls (s : State) : State :=
  if s.dev != .run then s
  else s.je.cut.descs.foldl (fun t d => if t.engineRuns d.engine then t.readControl d else t) s

/-! ### Blocks: what they compute -/

/-- What one instance did: its output channels, its state, the machine, and whether protection denied an access. -/
structure BlockOut where
  ys     : List (List Int)
  x      : Inst
  s      : State
  denied : Bool
deriving DecidableEq, Repr

/-- A word written by an engine to shared memory, or denied (R76, R280). -/
def State.engWrite (s : State) (a v : Nat) : Bool × State :=
  if s.permits .eng true a then (false, s.setWord a v) else (true, s.denyRecord .eng true a)

/-- Words written from an address on, up to the first denial. -/
def State.engWrites (s : State) (a : Nat) : List Nat → Bool × State
  | [] => (false, s)
  | v :: vs =>
    let r := s.engWrite a v
    if r.1 then r else r.2.engWrites (a + 4) vs

/-- What an internal algorithm works on in a tick where it depends on neither the identity of the instance nor the tick (R281, R515): a code for what it
computes, the record, the state reached, and its inputs. Two devices that agree in these agree in its values. -/
def algIn (ty : Nat) (w : List Nat) (state : Nat) (inputs : List Int) : AlgIn := ⟨ty, w, 0, 0, 0, state, inputs⟩

/-- Eight samples of an internal algorithm. -/
def algSamples (a : AlgIn) : List Int := (List.range 8).map (fun k => signedOf 32 (Config.algValue a k).toNat)

/-- An instance after a tick of its internal algorithm. -/
def Inst.algNext (x : Inst) (a : AlgIn) : Inst := { x with alg := Config.algStep a }

/-- G(g) of R263 for gains beyond the range of a crosspoint entry: above +12 dB, and below −174 dB, where it is 0. -/
def coefOf (g : Int) : Int := if g < -44697 then 0 else (gainSearch g 36 0 : Nat)

/-- The coefficient of a gain in 1/9,600,000 dB. Between two steps of 1/256 dB its rounding is not stated: a free value from the coefficient of
the lower step to that of the upper (R515). -/
def coefFine (g : Int) : Int :=
  let lo := coefOf (g.fdiv 37500)
  let hi := coefOf (g.fdiv 37500 + 1)
  if g % 37500 = 0 then lo else lo + ((Config.algValue (algIn 0x100 [] 0 [g]) 0).toNat : Int) % (hi - lo + 1)

/-- A sample at a coefficient (R266). -/
def atCoef (v c : Int) : Int := satTo 32 (roundShift (v * c) 28)

/-- GAIN: each channel times its coefficient, ramped by R264 to a new target (R286). -/
def blockGain (w : List Nat) (s : State) (x : Inst) (xs : List (List Int)) : BlockOut :=
  let ramps := (gainTargets w).zipIdx.map (fun e =>
    let r := (x.ramps[e.2]?).getD ⟨e.1, e.1, 0, 0⟩
    if r.b = e.1 then r else (⟨r.reached x.ran, e.1, 8 * ((w[0]?).getD 0), x.ran⟩ : Ramp))
  ⟨xs.zipIdx.map (fun c => c.1.zipIdx.map (fun v =>
      satTo 32 (roundShift (v.1 * ((ramps[c.2]?).getD Ramp.unity).value x.ran v.2) 28))), { x with ramps := ramps }, s, false⟩

/-- One BIQUAD section: coefficients b0, b1, b2, a1, a2, history x₁, x₂, y₁, y₂, one sample (R515). -/
def biquadStep (c : List Int) (h : List Int) (v : Int) : Int × List Int :=
  match c, h with
  | [b0, b1, b2, a1, a2], [x1, x2, y1, y2] =>
    let y := satTo 32 (roundShift (b0 * v + b1 * x1 + b2 * x2 - a1 * y1 - a2 * y2) 29)
    (y, [v, x1, y, y1])
  | _, _ => (v, h)

/-- The sections of a channel in order, over one sample. -/
def biquadChain (v : Int) : List (List Int) → List Int → Int × List Int
  | [], _ => (v, [])
  | c :: cs, h =>
    let r := biquadStep c (h.take 4) v
    let q := biquadChain r.1 cs (h.drop 4)
    (q.1, r.2 ++ q.2)

/-- Samples through a function with memory. -/
def overSamples (f : Int → List Int → Int × List Int) (h : List Int) (xs : List Int) : List Int × List Int :=
  xs.foldl (fun (a : List Int × List Int) v => let r := f v a.2; (a.1 ++ [r.1], r.2)) ([], h)

/-- Each channel through a function with a memory of len numbers per channel. -/
def overChans (f : Int → List Int → Int × List Int) (len : Nat) (x : Inst) (xs : List (List Int)) : List (List Int) × List Int :=
  let r := xs.zipIdx.map (fun c => overSamples f ((x.hist.drop (c.2 * len)).take len) c.1)
  (r.map (·.1), r.flatMap (·.2))

/-- BIQUAD (R286, R515): coefficients are signed Q3.29. -/
def blockBiquad (d : Desc) (w : List Nat) (s : State) (x : Inst) (xs : List (List Int)) : BlockOut :=
  let cs := (List.range d.size).map (fun k => ((w.drop (1 + 5 * k)).take 5).map (signedOf 32))
  let r := overChans (fun v h => biquadChain v cs h) (4 * d.size) x xs
  ⟨r.1, { x with hist := r.2 }, s, false⟩

/-- FIR (R286, R515): taps in Q1.31 over the newest samples, rounded once. -/
def blockFir (d : Desc) (w : List Nat) (s : State) (x : Inst) (xs : List (List Int)) : BlockOut :=
  let taps := (w.drop 1).map (signedOf 32)
  let r := overChans (fun v h =>
    let h' := (v :: h).take d.size
    (satTo 32 (roundShift ((List.zipWith (· * ·) taps h').sum) 31), h')) d.size x xs
  ⟨r.1, { x with hist := r.2 }, s, false⟩

/-- DELAY (R286, R78): the line holds the sample of index s at position s mod LINE_LEN; a line whose place or length changes
starts empty. -/
def blockDelay (w : List Nat) (s : State) (x : Inst) (xs : List (List Int)) : BlockOut :=
  let base := (w[0]?).getD 0
  let len := (w[1]?).getD 64
  let delay := (w[2]?).getD 0
  let x0 := if x.line = (base, len) then x else { x with line := (base, len), run := none }
  let i0 := s.sidx
  let r := ((xs[0]?).getD zeros8).zipIdx.foldl (fun (a : Bool × State) v =>
    if a.1 then a else a.2.engWrite (base + 4 * ((i0 + v.2) % len)) (toTwos 32 v.1)) (false, s)
  let run := runAfter x0.run i0 8
  let o := (List.range 8).foldl (fun (a : List Int × Bool × State) k =>
    let at_ := base + 4 * ((i0 + k - delay) % len)
    if !run.any (fun e => decide (e.1 + delay ≤ i0 + k)) || a.2.1 then (a.1 ++ [0], a.2)
    else if !a.2.2.permits .eng false at_ then (a.1 ++ [0], true, a.2.2.denyRecord .eng false at_)
    else (a.1 ++ [a.2.2.sample at_], a.2)) ([], r.1, r.2)
  ⟨[o.1], { x0 with run := run }, o.2.2, o.2.1⟩

/-- The 8 samples of a tick, each at a gain that `step` moves from sample to sample, in 1/9,600,000 dB: the samples and the gain reached. -/
def gainRun (step : Int → Nat → Int × Int) (g : Int) (xs : List Int) : List Int × Int :=
  xs.zipIdx.foldl (fun (a : List Int × Int) v => let r := step a.2 v.2; (a.1 ++ [atCoef v.1 (coefFine r.1)], r.2)) ([], g)

/-- LIMITER (R285, R286): its gain reduction, 0 dB at INIT, is at once as large as the algorithm wants it, which is free (R515), and falls at
RELEASE. -/
def blockLimiter (w : List Nat) (s : State) (x : Inst) (xs : List Int) : BlockOut :=
  let a := algIn 0x05 w x.alg xs
  let fall : Int := 200 * (((w[1]?).getD 0 : Nat) : Int)
  let r := gainRun (fun g k => let n := max (g - fall) ((Config.algValue a k).toNat : Int); (-n, n)) x.boost xs
  ⟨[r.1], { x.algNext a with boost := r.2 }, s, false⟩

/-- COMPRESSOR (R285, R286): MAKEUP less a gain reduction that starts at 0 dB at INIT; how it moves is free (R515). -/
def blockCompressor (w : List Nat) (s : State) (x : Inst) (xs : List Int) : BlockOut :=
  let a := algIn 0x06 w x.alg xs
  let make : Int := 37500 * signedOf 16 ((w[3]?).getD 0 % 65536)
  let r := gainRun (fun g k => (make - g, ((Config.algValue a k).toNat : Int))) x.boost xs
  ⟨[r.1], { x.algNext a with boost := r.2 }, s, false⟩

/-- AGC (R285, R286): a gain that starts at 0 dB at INIT, moves at RATE at most between MIN_GAIN and MAX_GAIN, and holds while the input level is below
GATE; level and aim are free (R515), but an input of zeros alone is below every GATE. -/
def blockAgc (w : List Nat) (s : State) (x : Inst) (xs : List Int) : BlockOut :=
  let g (k : Nat) : Nat := (w[k]?).getD 0
  let a := algIn 0x07 w x.alg xs
  let quiet := x.quiet && xs.all (· == 0)
  let hold := quiet || decide (signedOf 16 ((Config.algValue a 8).toNat % 65536) < signedOf 16 (g 3 % 65536))
  let rate : Int := 20 * (g 2 % 65536 : Nat)
  let step (v : Int) (k : Nat) : Int × Int :=
    let n := v + max (-rate) (min rate (signedOf 32 (Config.algValue a k).toNat))
    (v, if hold then v else max (37500 * signedOf 16 (g 1 / 65536)) (min (37500 * signedOf 16 (g 1 % 65536)) n))
  let r := gainRun step x.boost xs
  ⟨[r.1], { x.algNext a with boost := r.2, quiet := quiet }, s, false⟩

/-- NOISE_SUPP: no suppression for 1 s after INIT (R285), nor with DEPTH 0; then its samples are free (R515). DESIGN CHOICE (log entry 134): DEPTH bounds
the suppression of the noise, which bounds no sample by itself. -/
def blockNoise (w : List Nat) (s : State) (x : Inst) (xs : List (List Int)) : BlockOut :=
  let a := algIn 0x0A w x.alg xs.flatten
  ⟨if x.ran < 6000 || (w[0]?).getD 0 == 0 then xs else [algSamples a], x.algNext a, s, false⟩

/-- ANG (R292): the noise estimate is a free value from −90 dBFS on, and −90 dBFS once the sensor has carried zero for the whole window; the
boost follows from it and is applied to the programme, linearly in gain over the tick. -/
def blockAng (w : List Nat) (aux : List Int) (s : State) (x : Inst) (xs : List (List Int)) : BlockOut :=
  let g (k : Nat) : Nat := (w[k]?).getD 0
  let a := algIn 0x08 w x.alg (xs.flatten ++ aux)
  let still := if aux.all (· == 0) then x.still + 1 else 0
  let n : Int := if 6000 ≤ still then -23040 else max (-23040) (min 0 (signedOf 16 ((Config.algValue a 8).toNat % 65536)))
  let b := max 0 (min ((g 1 : Int) * (n - signedOf 16 (g 0)) * 375) ((g 2 : Int) * 37500))
  let step := max (-((g 3 / 65536 : Nat) : Int) * 16) (min (b - x.boost) (((g 3 % 65536 : Nat) : Int) * 16))
  let boost := if x.ran < 6000 then 0 else if bitAt x.ctl 0 then x.boost else x.boost + step
  let ramp : Ramp := ⟨coefFine x.boost, coefFine boost, 8, 0⟩
  let y := if bitAt x.ctl 1 then xs else xs.map (fun c => c.zipIdx.map (fun v => atCoef v.1 (ramp.value 0 v.2)))
  let r := s.engWrites (g 5) [toTwos 32 n, toTwos 32 (b.fdiv 37500), toTwos 32 (boost.fdiv 37500), s.tickNum % 2 ^ 32]
  ⟨y, { x.algNext a with still := still, boost := boost }, r.2, r.1⟩

/-- The modelled echo of the samples of a tick (R289): none while the filter is zero or the delayed reference of its 3,072 samples is, else free. -/
def aecEcho (w : List Nat) (filter : Nat) (ref : List Int) (k : Nat) : Int :=
  let win := (ref.drop (7 - k + (w[0]?).getD 0 % 512)).take 3072
  if filter = 0 ∨ win.all (· == 0) = true then 0 else signedOf 32 (Config.algValue (algIn 0x09 w filter win) 0).toNat

/-- The most that NLP suppresses, in 1/256 dB (R289): nothing, 12 dB, 30 dB. -/
def aecDepth (w : List Nat) : Nat :=
  match bitsAt ((w[0]?).getD 0) 14 13 with
  | 0 => 0
  | 1 => 3072
  | _ => 7680

/-- What NLP leaves of a sample (R289, R290): the suppression is free within its depth, and comfort noise at CN_LEVEL from the generator of R281 fills
the gaps that it makes. -/
def aecNlp (d : Desc) (w : List Nat) (tick sense k : Nat) (v : Int) : Int :=
  let g := (Config.algValue (algIn 0x209 w sense [v]) k).toNat % (aecDepth w + 1)
  let cn := (w[1]?).getD 0 % 65536
  let noise := if g = 0 ∨ cn = 0x8000 then 0
    else roundShift (signedOf 32 (Config.algValue ⟨0x309, [], d.id, tick, 0, 0, []⟩ k).toNat * coefOf (signedOf 16 cn)) 28
  satTo 32 (atCoef v (coefOf (-(g : Int))) + noise)

/-- AEC (R288 to R290): the microphone less the echo modelled from the delayed reference, NLP, comfort noise. The filter adapts, as the algorithm
has it, but for FREEZE and double talk; BYPASS passes the microphone; estimate and detectors are free, and CONVERGED follows the estimate once it
has stayed above 20 dB for 500 ms. -/
def blockAec (d : Desc) (w : List Nat) (aux : List Int) (s : State) (x : Inst) (xs : List (List Int)) : BlockOut :=
  let mic := (xs[0]?).getD zeros8
  let ref := (aux.reverse ++ x.hist).take 3592
  let see := algIn 0x109 w x.sense (mic ++ aux)
  let flags := (Config.algValue see 9).toNat % 4
  let y := mic.zipIdx.map (fun v => aecNlp d w s.tickNum x.sense v.2 (satTo 32 (v.1 - aecEcho w x.alg ref v.2)))
  let est := signedOf 16 ((Config.algValue see 8).toNat % 65536)
  let above := if 5120 < est then x.above + 1 else 0
  let conv := x.conv || 3000 ≤ above
  let r := s.engWrites ((w[2]?).getD 0) [toTwos 32 est, b2n conv + 2 * flags, s.tickNum % 2 ^ 32]
  let adapts := !bitAt x.ctl 0 && !bitAt flags 0
  ⟨[if bitAt x.ctl 2 then mic else y], { x with
    alg := if adapts then Config.algStep (algIn 0x09 w x.alg (mic ++ ref)) else x.alg
    sense := Config.algStep see, hist := ref, above := above, conv := conv }, r.2, r.1⟩

/-- The next state of a tone after one sample (R516). -/
def Tone.next (t : Tone) (w : List Nat) : Tone :=
  let g (k : Nat) : Nat := (w[k]?).getD 0
  let t' := { t with prev := t.phase, phase := (t.phase + g (1 + 2 * t.note)) % 48000 }
  if t.sine then t'
  else if 1 < t.left then { t' with left := t.left - 1 }
  else if t.note < 3 ∧ g (3 + 2 * t.note) ≠ 0 then { t' with note := t.note + 1, left := 8 * (g (4 + 2 * t.note) % 65536) }
  else { t' with on := false }

/-- A tone stands at a zero crossing: its phase is 0 or a half, or has passed one since the sample before (R288). -/
def Tone.crossing (t : Tone) : Bool := t.phase % 24000 == 0 || t.phase / 24000 != t.prev / 24000

/-- The level of a tone's present sample in 1/9,600,000 dB (R516): each note starts at LEVEL and falls at its DECAY, a continuous sine stays at LEVEL. -/
def Tone.level (t : Tone) (w : List Nat) : Int :=
  let g (k : Nat) : Nat := (w[k]?).getD 0
  37500 * signedOf 16 (g 0 % 65536) -
    (if t.sine then 0 else 200 * (g (2 + 2 * t.note) / 65536 : Nat) * ((8 * (g (2 + 2 * t.note) % 65536) : Nat) - (t.left : Int)))

/-- TONE (R288, R516): adds its sine at the present level while it plays; STOP ends it at the next zero crossing. -/
def blockTone (w : List Nat) (s : State) (x : Inst) (xs : List (List Int)) : BlockOut :=
  let r := ((xs[0]?).getD zeros8).foldl (fun (a : List Int × Tone) v =>
    let t := if a.2.on && a.2.stop && a.2.crossing then { a.2 with on := false } else a.2
    if t.on then (a.1 ++ [satTo 32 (v + roundShift (sineAt t.phase * coefFine (t.level w)) 28)], t.next w)
    else (a.1 ++ [v], { t with stop := false })) ([], x.tone)
  ⟨[r.1], { x with tone := r.2 }, s, false⟩

/-- Samples of a clip (at 48 kHz) in a number of its bytes: 16-bit PCM, or G.722 at 64 kbit/s (R369). -/
def clipSamples (ty bytes : Nat) : Nat := if ty = 0x0C then bytes / 2 else 6 * bytes

/-- Bytes of a clip that hold its first samples. -/
def clipBytes (ty samples : Nat) : Nat := if ty = 0x0C then 2 * samples else samples / 6

/-- A player may begin: 512 samples are in its buffer, or the whole clip where it is shorter (R295). -/
def Player.ready (p : Player) (ty len : Nat) : Bool := 512 ≤ clipSamples ty p.got || (!p.loop && len ≤ p.got)

/-- The code bytes of a G.722 clip whose samples begin in this tick, read from the buffer in order under the Engines class (R280), up to the first
denied read. -/
def State.clipCodes (s : State) (base : Nat) : List Nat → List Int × Bool × State
  | [] => ([], false, s)
  | i :: is =>
    let at_ := base + i % 4096
    if !s.permits .eng false at_ then ([], true, s.denyRecord .eng false at_)
    else let r := s.clipCodes base is; (((s.byte at_).toNat : Int) :: r.1, r.2)

/-- Octets decoded in order into samples at 16 kHz. -/
def G722.decodeAll (g : G722) : List Int → List Int × G722
  | [] => ([], g)
  | c :: cs =>
    let r := g.decode c.toNat
    let q := r.2.decodeAll cs
    (r.1 ++ q.1, q.2)

/-- CLIP_PCM and CLIP_G722 (R295): adds the clip at LEVEL while it plays; samples not in the buffer, or held back by the
pair's bitmaps (R388), play zero; the position does not wait. In step, a player begins once presence bits have reported it ready. A G.722 clip is decoded exactly; its samples at 48 kHz come by way of a conversion that
the spec does not state (R515): they are free, as a function of the samples decoded since START and of their phase (log entry 109). -/
def blockClip (d : Desc) (w : List Nat) (s : State) (x : Inst) (xs : List (List Int)) : BlockOut :=
  let g (k : Nat) : Nat := (w[k]?).getD 0
  let p := x.play
  let len := ((s.clipOf p.clip).map (·.len)).getD 0
  let held := s.brace.clips.contains d.id
  let p := if p.phase = 1 ∧ p.ready d.type len ∧ !held ∧ (!s.agrees || decide (p.since < s.tg)) = true then { p with phase := 2, first := s.sidx } else p
  let total := clipSamples d.type len
  let have_ := clipSamples d.type p.got
  let coef := gainCoef (signedOf 16 (g 1))
  let ends (k : Nat) : Bool := !p.loop && decide (total ≤ p.pos + k)
  let present (k : Nat) : Bool := decide (p.pos + k < have_) && !held
  let xin := (xs[0]?).getD zeros8
  let codes := if d.type = 0x0C ∨ p.phase ≠ 2 then ([], false, s)
    else s.clipCodes (g 0) (((List.range 8).filter (fun k => !ends k && present k && (p.pos + k) % 6 == 0)).map (fun k => (p.pos + k) / 6))
  let dec := x.g722.decodeAll codes.1
  let alg : AlgIn := algIn 0x0D [] x.alg (((p.pos % 6 : Nat) : Int) :: dec.1)
  let r := xin.zipIdx.foldl (fun (a : List Int × Bool × Bool × State) v =>
    if p.phase ≠ 2 ∨ ends v.2 then (a.1 ++ [v.1], a.2)
    else if !present v.2 then (a.1 ++ [v.1], true, a.2.2)
    else if d.type = 0x0C then
      let at_ := g 0 + 2 * (p.pos + v.2) % 4096
      if !a.2.2.2.permits .eng false at_ then (a.1 ++ [v.1], a.2.1, true, a.2.2.2.denyRecord .eng false at_)
      else (a.1 ++ [satTo 32 (v.1 + roundShift (signedOf 16 (a.2.2.2.le at_ 2) * 65536 * coef) 28)], a.2)
    else
      (a.1 ++ [satTo 32 (v.1 + roundShift (signedOf 32 (Config.algValue alg v.2).toNat * coef) 28)], a.2)) ([], false, codes.2.1, codes.2.2)
  let q := if p.phase = 2 then
      { p with pos := p.pos + 8, phase := if !p.loop && decide (total ≤ p.pos + 8) then 3 else 2 } else p
  let q := if q.stop then { q with phase := 0, stop := false } else q
  let t := if r.2.1 && !r.2.2.2.je.short.contains (d.engine + 8) then
      { r.2.2.2 with je := { r.2.2.2.je with short := (d.engine + 8) :: r.2.2.2.je.short } } else r.2.2.2
  let pos := if q.loop && 0 < total then q.pos % total else min total q.pos
  let u := if x.play.phase = 0 then (false, t)
    else t.engWrites (g 2) [b2n (decide (q.phase = 2)) + 2 * b2n (decide (q.phase = 3)), pos, q.first % 2 ^ 32, q.first / 2 ^ 32 % 2 ^ 32]
  ⟨[r.1], { (if d.type = 0x0D ∧ p.phase = 2 then { x.algNext alg with g722 := dec.2 } else x) with play := q }, u.2, r.2.2.1 || u.1⟩

/-- The octets of n pairs of samples at 16 kHz, given by their place in the tick. -/
def G722.encodeAll (g : G722) (sample : Nat → Int) (n : Nat) : List Nat × G722 :=
  (List.range n).foldl (fun (a : List Nat × G722) k =>
    let r := a.2.encode (sample (2 * k)) (sample (2 * k + 1)); (a.1 ++ [r.1], r.2)) ([], g)

/-- G722_ENC (R286, R288): while RUN is 1, 8 code bytes in every 6 ticks go into the ring; the write
index is stored once per tick. The coding is exact; the spec does not state how its samples at 16 kHz come from those at 48 kHz: they are free, as a
function of the inputs since INIT (R515, log entry 109). -/
def blockEncoder (w : List Nat) (s : State) (x : Inst) (xs : List (List Int)) : BlockOut :=
  let g (k : Nat) : Nat := (w[k]?).getD 0
  let run := bitAt x.ctl 0
  let n := if run then (x.still + 1) * 4 / 3 - x.still * 4 / 3 else 0
  let alg := algIn 0x0E [] x.alg xs.flatten
  let code := x.g722.encodeAll (fun k => signedOf 16 ((Config.algValue alg k).toNat % 65536)) n
  let r := (List.range n).foldl (fun (a : Bool × Nat × State) k =>
    let at_ := g 0 + a.2.1 % g 1
    if a.1 then a
    else if !a.2.2.permits .eng true at_ then (true, a.2.1, a.2.2.denyRecord .eng true at_)
    else (false, (a.2.1 + 1) % g 1, a.2.2.setByte at_ (BitVec.ofNat 8 ((code.1[k]?).getD 0)))) (false, x.ring, s)
  let u := if r.1 then (true, r.2.2) else r.2.2.engWrites (g 2) [r.2.1]
  ⟨xs, { (if run then { x.algNext alg with g722 := code.2 } else x) with ring := r.2.1, still := if run then x.still + 1 else x.still }, u.2, u.1⟩

/-- METER (R286): passes its input and stores the levels of each window: free, as a function of the inputs of the window (R515), but for a window of
zeros; from −32,767 to 0 dBFS for any other. -/
def blockMeter (w : List Nat) (s : State) (x : Inst) (xs : List (List Int)) : BlockOut :=
  let a := algIn 0x0F [] x.alg xs.flatten
  let quiet := x.quiet && ((xs[0]?).getD zeros8).all (· == 0)
  if x.still + 1 < (w[0]?).getD 0 then ⟨xs, { x.algNext a with quiet := quiet, still := x.still + 1 }, s, false⟩
  else
    let l (k : Nat) : Nat := if quiet then 0x8000 else toTwos 16 (-(((Config.algValue a k).toNat % 32768 : Nat) : Int))
    let r := s.engWrites ((w[1]?).getD 0) [l 0, l 1, s.tickNum % 2 ^ 32, s.tickNum / 2 ^ 32 % 2 ^ 16]
    ⟨xs, { x with quiet := true, still := 0, alg := 0 }, r.2, r.1⟩

/-- ENVELOPE (R293): passes its input and reports the peak of its 8 samples. -/
def blockEnvelope (w : List Nat) (s : State) (x : Inst) (xs : List (List Int)) : BlockOut :=
  let peak := min 0xFFFF ((((xs[0]?).getD zeros8).map (fun v => v.natAbs / 32768)).foldl max 0)
  ⟨xs, x, { s with je := { s.je with peaks := Sparse.set s.je.peaks ((w[0]?).getD 0) peak } }, false⟩

/-- One block over one tick. -/
def blockRun (d : Desc) (w : List Nat) (aux : List Int) (s : State) (x : Inst) (xs : List (List Int)) : BlockOut :=
  let x0 := (xs[0]?).getD zeros8
  match d.type with
  | 0x01 => blockGain w s x xs
  | 0x02 => blockBiquad d w s x xs
  | 0x03 => blockFir d w s x xs
  | 0x04 => blockDelay w s x xs
  | 0x05 => blockLimiter w s x x0
  | 0x06 => blockCompressor w s x x0
  | 0x07 => blockAgc w s x x0
  | 0x08 => blockAng w aux s x xs
  | 0x09 => blockAec d w aux s x xs
  | 0x0A => blockNoise w s x xs
  | 0x0B => blockTone w s x xs
  | 0x0C => blockClip d w s x xs
  | 0x0D => blockClip d w s x xs
  | 0x0E => blockEncoder w s x xs
  | 0x0F => blockMeter w s x xs
  | 0x10 => blockEnvelope w s x xs
  | _ => ⟨xs, x, s, false⟩

/-! ### The run of an engine (R49, R54, R58, R59, R278) -/

/-- A bus as an instance reads it: an input bus of the tick, or an output bus written so far. -/
def State.busRead (s : State) (buses : Sparse (List Int)) (b : Nat) : List Int :=
  if b < 2304 then Sparse.get zeros8 s.mix.feeds b else Sparse.get zeros8 buses b

/-- One instance runs: its record is judged, INIT runs if it waits, and its output range is replaced. A fault stops the
engine. -/
def State.instRun (s : State) (d : Desc) (buses : Sparse (List Int)) : Sparse (List Int) × State :=
  let w := s.paramWords d
  if !recordOk d.type w then (buses, s.engineFault d.engine 4 (some d.id))
  else
    let t := s.runInit d w
    let xs := (List.range d.chans).map (fun c => t.busRead buses (d.inBus + c))
    let o := blockRun d w (t.busRead buses d.aux) t (t.inst d.id) xs
    if o.denied then (buses, o.s.engineFault d.engine 3 (some d.id))
    else
      (o.ys.zipIdx.foldl (fun b y => Sparse.put zeros8 b (d.outBus + y.2) y.1) buses,
        o.s.setInst d.id { o.x with ran := o.x.ran + 1 })

/-- The instances of a list in order, until a fault. -/
def State.instsRun (s : State) (n : Nat) : List Desc → Sparse (List Int) → Sparse (List Int) × State
  | [], buses => (buses, s)
  | d :: ds, buses =>
    let r := s.instRun d buses
    if r.2.flag R.JE_STATUS_FAULT n then ([], r.2) else r.2.instsRun n ds r.1

/-- The peaks that an engine's taps report in a tick in which it overran or faulted: 0 (R294). -/
def State.dropPeaks (s : State) (n : Nat) : State :=
  let env := (s.listOf n).filter (fun d => d.type == 0x10)
  { s with je := { s.je with peaks := env.foldl (fun p d => Sparse.erase p (((wordsOf d.record)[0]?).getD 8)) s.je.peaks } }

/-- An engine's tick: its run up to the instance that meets a fault of this tick, or that the deadline interrupts, if it missed it (R58, R59, R296, R297). Its
output buses, all zero after an overrun or a fault, are added. -/
def State.engineTick (s : State) (late : List EngLate) (n : Nat) : State :=
  if !s.engineRuns n then s
  else
    let l := late.find? (fun e => e.engine.val == n)
    let missed := l.bind (·.missed)
    let ds := s.listOf n
    let hit := ds.findIdx? (fun d => s.je.meets.any (fun f => f.1 == (n, d.id)))
    let stop := match missed, hit with
      | some k, some j => if j ≤ k then hit else none
      | _, _ => hit
    let r := s.instsRun n (match stop.or missed with | some k => ds.take k | none => ds) []
    let met := stop.bind (fun j => (ds[j]?).bind (fun d => s.je.meets.find? (fun f => f.1 == (n, d.id))))
    let t := match met with
      | some f => r.2.engineFault n f.2 (some f.1.2)
      | none => r.2
    let t := match l with
      | some e => t.when (decide (t.get R.ENG_PEAK_PEAK n < e.cycles)) (fun u => u.put R.ENG_PEAK_PEAK (min e.cycles 131071) n)
      | none => t
    if t.flag R.JE_STATUS_FAULT n then t.dropPeaks n
    else match missed with
      | none => { t with je := { t.je with outs := r.1.foldl (fun m e => Sparse.set m e.1 e.2) t.je.outs } }
      | some k =>
        let t := match ds[k]? with
          | some d => t.setInst d.id { t.inst d.id with init := true }
          | none => t
        let t := ((t.bump R.TICK_OVERRUN_CNT n).put R.TICK_LAST_OVERRUN_ENGINE n).put R.TICK_LAST_OVERRUN_TICK (t.tickNum % 2 ^ 24)
        let t := { t with je := { t.je with overruns := if t.je.overruns.contains t.tg then t.je.overruns else t.tg :: t.je.overruns } }
        (t.raise EV_TICK_OVERRUN).dropPeaks n

/-- The overrun storm (R60): a fatal fault when the count among the last 6,000 ticks reaches STORM_N. -/
def State.stormCheck (s : State) : State :=
  let recent := s.je.overruns.filter (fun t => decide (s.tg < t + 6000))
  let n := s.get R.TICK_CTRL_STORM_N
  let on := n != 0 && decide (n ≤ recent.length)
  let t := { s with je := { s.je with overruns := recent, storm := on } }
  t.when (on && !s.je.storm) (fun u => (u.put R.TICK_STATUS_STORM 1).fatal .storm)

/-- Ticks with clip samples missing, by engine: counted, and reported in the first of a run (R295). -/
def State.clipShort (s : State) : State :=
  let now := (s.je.short.filter (fun k => decide (8 ≤ k))).map (· - 8)
  let t := s.each 8 (fun u n => u.when (now.contains n) (fun w => w.bump R.JE_CLIP_UNDERRUN_CNT n))
  let t := { t with je := { t.je with short := now } }
  t.when (now.any (fun n => !s.je.short.contains n)) (fun u => u.raise EV_CLIP_UNDERRUN)

/-- Engine faults and corrected errors found in a tick (R279, R284, R296): a fault in the fetch or run of an instance of the engine's list stops the
engine there, any other at once. -/
def State.engineFaults (s : State) (faults : List EngFault) (ecc : List EccErr) : State :=
  let t := faults.foldl (fun (u : State) f =>
    let cause := if f.ecc then 2 else 1
    match (s.listOf f.engine.val).find? (fun d => f.inst.map (·.val) == some d.id) with
    | some d => { u with je := { u.je with meets := u.je.meets ++ [((f.engine.val, d.id), cause)] } }
    | none => u.engineFault f.engine.val cause (f.inst.map (·.val))) s
  ecc.foldl (fun u e =>
    match e with
    | .localMem n => (u.bump R.JE_ECC_CORR_CNT n.val).put R.JE_STATUS_ECC_SEEN 1 n.val
    | .bank _ _ => u) t

/-- The deadline (R49, R58): every engine's run of this tick is over and its output buses are final. -/
def State.enginesRun (s : State) (late : List EngLate) : State :=
  let t := { s with je := { s.je with outs := [], peaks := [], live := false } }
  let u := (((List.range 8).foldl (fun u n => u.engineTick late n) t).clipShort).stormCheck
  { u with je := { u.je with meets := [] } }

/-- An epoch set or any stop leaves the engines without buses. -/
def State.enginesStop (s : State) : State := { s with je := { s.je with outs := [], peaks := [], live := false, meets := [] } }

/-! ### Clip prefetches (R295, R444) -/

/-- The next bytes of a player's clip reach its buffer, as many as fit: the flash DMA reads the clip through the XIP window
and writes the buffer. -/
def State.prefetch (s : State) (d : Desc) (c : Clip) (bytes : Nat) : State :=
  let x := s.inst d.id
  let p := x.play
  let base := ((s.paramWords d)[0]?).getD 0
  let used := min p.got (clipBytes d.type p.pos)
  let room := 4096 - (p.got - used)
  let n := if c.len = 0 then 0 else min bytes (if p.loop then room else min room (c.len - p.got))
  let src (j : Nat) : Nat := c.addr + (p.got + j) % c.len
  let dst (j : Nat) : Nat := base + (p.got + j) % 4096
  match (List.range n).find? (fun j => !s.permits .fdma false (src j) || !s.permits .fdma true (dst j)) with
  | some j =>
    (if s.permits .fdma false (src j) then s.denyRecord .fdma true (dst j) else s.denyRecord .fdma false (src j)).raise EV_CLIP_UNDERRUN
  | none =>
    let t := (List.range n).foldl (fun u j => u.setByte (dst j) (s.byte (src j))) s
    (t.setInst d.id { x with play := { p with got := p.got + n } }).bump R.FL_READ_CNT

/-- CLIP_PREFETCH_DONE (R295): a prefetch of a player's clip brings its next bytes. -/
def execClipPrefetchDone (inst : Fin 8192) (bytes : Nat) (s : State) : Ans := .next <|
  match s.je.cut.descs.find? (fun d => d.id == inst.val && (d.type == 0x0C || d.type == 0x0D)) with
  | none => s
  | some d =>
    let p := (s.inst d.id).play
    match s.clipOf p.clip with
    | none => s
    | some c => if p.phase = 1 ∨ p.phase = 2 then s.prefetch d c bytes else s

end Sys2Proof.Machine
end

