-- ==== Sys2Proof/Machine/ZonePlan.lean ====
section
/-! DEFINITION. CRC-32 (R421), the zone plan of the ZONES section (R352) and its checks (R353). -/

namespace Sys2Proof.Machine

/-! ### CRC-32 (R421) -/

/-- One bit step of the reflected CRC-32. -/
def crc32Step (c : BitVec 32) : BitVec 32 := if c.getLsbD 0 then (c >>> 1) ^^^ 0xEDB88320#32 else c >>> 1

/-- One byte. -/
def crc32Byte (c : BitVec 32) (b : Byte) : BitVec 32 :=
  (List.range 8).foldl (fun x _ => crc32Step x) (c ^^^ b.setWidth 32)

/-- The IEEE 802.3 CRC of bytes: all ones at the start, the complement at the end (R421). -/
def crc32 (bs : List Byte) : BitVec 32 := bs.foldl crc32Byte 0xFFFFFFFF#32 ^^^ 0xFFFFFFFF#32

/-! ### A sort by insertion -/

/-- x put before the first element that must not stand before it. -/
def insertBy {α : Type} (le : α → α → Bool) (x : α) : List α → List α
  | [] => [x]
  | y :: l => if le x y then x :: y :: l else y :: insertBy le x l

/-- A list in order. -/
def sortBy {α : Type} (le : α → α → Bool) : List α → List α
  | [] => []
  | x :: l => insertBy le x (sortBy le l)

/-! ### Reading the plan (R352) -/

/-- Words k to k + n − 1 of a section as records of `size` words each. -/
def recordsAt (w : List Nat) (k n size : Nat) : List (List Nat) :=
  (List.range n).map (fun i => (w.drop (k + i * size)).take size)

/-- A class record. -/
def parseClass (r : List Nat) : SvcClass :=
  let a := (r[0]?).getD 0
  ⟨bitsAt a 1 0, bitsAt a 3 2, bitAt a 4, bitsAt a 15 8, signedOf 16 (bitsAt ((r[1]?).getD 0) 15 0)⟩

/-- A source record. -/
def parseSource (r : List Nat) : SvcSource :=
  let a := (r[0]?).getD 0
  let b := (r[1]?).getD 0
  ⟨bitsAt a 11 0, bitsAt a 14 12, bitsAt a 19 16, bitsAt a 23 20, bitsAt b 12 0, bitsAt b 10 0⟩

/-- A zone record: its destinations with their gains, and the ANG instances that it names. -/
def parseZone (r : List Nat) : SvcZone :=
  let g (k : Nat) : Nat := (r[k]?).getD 0
  ⟨bitsAt (g 0) 4 0, bitsAt (g 0) 15 8,
    (List.range (bitsAt (g 0) 20 16)).map (fun k => (bitsAt (g (1 + k)) 10 0, signedOf 16 (bitsAt (g (1 + k)) 31 16))),
    ([bitsAt (g 25) 12 0, bitsAt (g 25) 28 16, bitsAt (g 26) 12 0, bitsAt (g 26) 28 16]).filter (· != 0x1FFF)⟩

/-- The plan that a ZONES section holds; none where a MAGIC, count, field or reserved word is wrong (R352, R353 row 1). -/
def parsePlan (w : List Nat) : Option Plan :=
  let g (k : Nat) : Nat := (w[k]?).getD 0
  let zones := bitsAt (g 2) 6 0
  let players := bitsAt (g 2) 15 8
  let slots := bitsAt (g 2) 20 16
  let consoles := bitsAt (g 2) 26 24
  let sources := bitsAt (g 3) 8 0
  let oz := 40 + 2 * sources
  let op := oz + 32 * zones
  let os := op + players
  let oc := os + slots
  if g 0 = 0x5A4F4E45 ∧ bitsAt (g 1) 15 0 = 0x0100 ∧ 1 ≤ zones ∧ zones ≤ 64 ∧ players ≤ 32 ∧ slots ≤ 16 ∧ consoles ≤ 4 ∧
      1 ≤ sources ∧ sources ≤ 256 ∧ (w.drop 4).take 4 = [0, 0, 0, 0] ∧ w.length = oc + 2 * consoles then
    let zr := recordsAt w oz zones 32
    let p : Plan := ⟨(recordsAt w 8 16 2).map parseClass, (recordsAt w 40 sources 2).map parseSource, zr.map parseZone,
      (recordsAt w op players 1).map (fun r => bitsAt ((r[0]?).getD 0) 12 0),
      (recordsAt w os slots 1).map (fun r => bitsAt ((r[0]?).getD 0) 12 0),
      (recordsAt w oc consoles 2).map (fun r => (bitsAt ((r[0]?).getD 0) 11 0, bitsAt ((r[1]?).getD 0) 10 0))⟩
    if p.classes.all (fun c => decide (c.policy ≤ 2) && decide (c.wait ≤ 2) && decide (-32767 ≤ c.depth) && decide (c.depth ≤ 0)) &&
        p.sources.all (fun x => decide (1 ≤ x.kind) && decide (x.kind ≤ 4)) &&
        p.zones.all (fun z => decide (1 ≤ z.dests.length) && decide (z.dests.length ≤ 24)) &&
        zr.all (fun r => (r.drop 27).all (· == 0))
    then some p else none
  else none

/-! ### The checks (R353) -/

/-- A crosspoint source that the plan may name: in range, and a port channel below the port's committed count. -/
def State.srcNamed (s : State) (x : Nat) : Bool :=
  x < 2560 && (!(2048 ≤ x && x < 2304) || decide ((x - 2048) % 32 < (s.rxSlotsOf ((x - 2048) / 32)).length))

/-- A crosspoint destination that the plan may name. -/
def State.dstNamed (s : State) (x : Nat) : Bool :=
  x < 2048 && (!(1536 ≤ x && x < 1792) || decide ((x - 1536) % 32 < (s.txSlotsOf ((x - 1536) / 32)).length))

/-- An instance of the list of one of these block types, with the SERVICE flag. -/
def Cut.serves (c : Cut) (id : Nat) (types : List Nat) : Bool :=
  c.descs.any (fun d => d.id == id && types.contains d.type && d.service)

/-- The checks of R353 in the state v that would be in force, against a cut list and a static table. -/
def State.planCheck (v : State) (p : Plan) (c : Cut) (table : List XEntry) : Option Bad :=
  let tones := (p.sources.filter (fun x => x.kind == 3)).map (·.inst)
  let named := tones ++ p.players ++ p.slots
  if !(p.zones.all (fun z => z.dests.all (fun d => v.dstNamed d.1)) && p.sources.all (fun x => v.srcNamed x.src) &&
      p.sources.all (fun x => x.kind != 4 || v.dstNamed x.spk) &&
      p.consoles.all (fun k => v.srcNamed k.1 && v.dstNamed k.2)) then some (ZONE_REF, 0)
  else if !(tones.all (fun i => c.serves i [0x0B]) && p.players.all (fun i => c.serves i [0x0C, 0x0D]) &&
      p.slots.all (fun i => c.serves i [0x09])) then some (ZONE_REF, 0)
  else if named.eraseDups.length ≠ named.length then some (ZONE_REF, 0)
  else
    let top := p.sources.filter (fun x => x.prio == 0 && x.kind != 4)
    let extra := top.flatMap (fun x => p.zones.flatMap (fun z => z.dests.map (fun d =>
      (⟨if x.kind = 1 then x.src else 2304, d.1, 0, 0, 0, false, true⟩ : XEntry))))
    let late := lateCounts (table ++ extra) v.forceTable
    if 16384 < table.length + extra.length ∨ 640 < late.1 ∨ 640 < late.2 then some (XPT_SIZE, 0) else none

end Sys2Proof.Machine
end

