-- ==== Sys2Proof/Machine/Services.lean ====
section
/-! DEFINITION. The zone services (R348 to R375): requests, arbitration, locks, capacity and eviction, queues, clips and
tones, calls, the crosspoint commits that put decisions in force, and the status ring. -/

namespace Sys2Proof.Machine

/-! ### The plan's records -/

/-- Source i of the plan. -/
def Plan.source (p : Plan) (i : Nat) : SvcSource := (p.sources[i]?).getD ⟨0, 0, 0, 15, 0, 0⟩

/-- The class of source i. -/
def Plan.cls (p : Plan) (i : Nat) : SvcClass := (p.classes[(p.source i).cls]?).getD ⟨0, 0, false, 0, 0⟩

/-- The plan in force; an empty one where there is none. -/
def State.plan (s : State) : Plan := s.svc.plan.getD ⟨[], [], [], [], [], []⟩

/-- The zones of the plan that a request names. -/
def Plan.zoneList (p : Plan) (r : SvcReq) : List Nat := (List.range p.zones.length).filter (fun z => r.zones.getLsbD z)

/-- The priority of a live request. -/
def Grant.prio (g : Grant) (p : Plan) : Nat := (p.source g.req.source.val).prio

/-- The class of a live request. -/
def Grant.cls (g : Grant) (p : Plan) : SvcClass := p.cls g.req.source.val

/-- A plays in zone z. -/
def Grant.plays (g : Grant) (z : Nat) : Bool := !g.call && g.req.zones.getLsbD z

/-- a is the higher of two live requests: the lower priority number, the earlier grant between equals (R360). -/
def Grant.higher (a b : Grant) (p : Plan) : Bool :=
  a.prio p < b.prio p || (a.prio p == b.prio p && a.order < b.order)

/-- The deepest of several ducks. -/
def deepest (l : List Int) : Option Int := l.min?

/-- The duck depth in force for a live request in zone z: the deepest DUCK_DEPTH of the higher requests of DUCK class that
play there (R360). -/
def duckIn (p : Plan) (gs : List Grant) (g : Grant) (z : Nat) : Option Int :=
  deepest ((gs.filter (fun h => h.plays z && h.higher g p && (h.cls p).policy == 1)).map (fun h => (h.cls p).depth))

/-- A live request is ducked in some zone. -/
def Grant.isDucked (g : Grant) (p : Plan) (gs : List Grant) : Bool :=
  !g.call && (p.zoneList g.req).any (fun z => (duckIn p gs g z).isSome)

/-! ### Status records and control records (R356, R288) -/

/-- Words written through the service-processor class (R76). -/
def State.svcWrite (s : State) (a : Nat) (ws : List Nat) : State :=
  if s.permits .sp true a then ws.zipIdx.foldl (fun t w => t.setWord (a + 4 * w.2) w.1) s else s.denyRecord .sp true a

/-- A status record with its counters, its last-of-kind registers and its event (R356, R358). -/
def State.svcRecord (s : State) (id outcome reason pos endCode other : Nat) : State :=
  let h := s.get R.SVC_STAT_HEAD_INDEX
  let t := s.svcWrite (s.get R.SVC_STAT_BASE_BASE * 4096 + 16 * h)
    [id, outcome + 16 * reason + 256 * pos + 65536 * endCode, other, s.tickNum % 2 ^ 32]
  let t := (t.put R.SVC_STAT_HEAD_INDEX (if h + 1 ≥ s.get R.SVC_STAT_CTRL_ENTRIES then 0 else h + 1)).bump R.SVC_STAT_SEQ
  match outcome with
  | 0 => t.bump R.SVC_GRANT_CNT
  | 1 => t.bump R.SVC_DUCK_CNT
  | 2 => t.bump R.SVC_DEFER_CNT
  | 3 => (((t.bump R.SVC_PREEMPT_CNT).put R.SVC_LAST_PREEMPT_ID_ID id).put R.SVC_LAST_EVICTOR_ID_ID other).raise EV_REQ_PREEMPTED
  | 4 => (((t.bump R.SVC_REFUSE_CNT).put R.SVC_LAST_REF_ID_ID id).put R.SVC_LAST_REF_REASON_REASON reason).raise EV_REQ_REFUSED
  | _ => t

/-- No other request (R356). -/
def noId : Nat := 0xFFFFFFFF

/-- REFUSED, in the tick of the decision. -/
def State.refuse (s : State) (id : Word) (reason : Nat) : State := s.svcRecord id.toNat 4 reason 0 0 noId

/-- A control record for an instance: the sequence number one higher in words 0 and 7, the controls in word 1 (R288). -/
def State.svcControl (s : State) (inst word : Nat) : State :=
  match s.je.cut.descs.find? (fun d => d.id == inst) with
  | none => s
  | some _ =>
    let a := s.get R.JE_SVC_BASE_BASE * 4096 + 32 * inst
    let q := (s.word a + 1) % 65536
    s.svcWrite a [q, word, 0, 0, 0, 0, 0, q]

/-- A call slot's registers at a new state, with EV_CALL_STATE (R372). -/
def State.callSet (s : State) (slot state console id : Nat) : State :=
  (((s.put R.SVC_CALL_STATE_STATE state slot).put R.SVC_CALL_STATE_CONSOLE console slot).put R.SVC_CALL_REQ_ID id slot).raise
    EV_CALL_STATE

/-- An act of R357 step 3 carried out. A request whose GRANTED or DUCKED record is written is in effect from this tick. -/
def State.svcAct (s : State) : SvcAct → State
  | .record id outcome reason e other =>
    let t := s.svcRecord id outcome reason 0 e other
    if 2 ≤ outcome then t
    else
      let start (g : Grant) : Grant := if g.req.id.toNat = id ∧ g.since = none then { g with since := some t.tg } else g
      { t with svc := { t.svc with
        grants := t.svc.grants.map start, leaving := t.svc.leaving.map (fun (l : Leaving) => { l with grant := start l.grant }) } }
  | .control i w => s.svcControl i w
  | .call k st c id => s.callSet k st c id

/-- Something is decided that waits for the next arm (R357 step 2). -/
def State.svcDo (s : State) (a : SvcAct) : State :=
  { s with svc := { s.svc with out := s.svc.out ++ [a], outBy := s.svc.outBy ++ [s.svc.cur], dirty := true } }

/-- f, as the work of a request. -/
def State.asReq (s : State) (id : Nat) (f : State → State) : State :=
  let t := f { s with svc := { s.svc with cur := some id } }
  { t with svc := { t.svc with cur := s.svc.cur } }

/-! ### Service entries (R362, R372) -/

/-- The first bus that an instance reads, its AUX_BUS and the first that it writes. -/
def State.busesOf (s : State) (inst : Nat) : Nat × Nat × Nat :=
  match s.je.cut.descs.find? (fun d => d.id == inst) with
  | some d => (d.inBus, d.aux, d.outBus)
  | none => (0, 0, 0)

/-- A raw crosspoint entry with gain in 1/256 dB (R256). -/
def rawEntry (src dst : Nat) (gain : Int) (ramp : Nat) (enable : Bool) : Nat :=
  src * 2 ^ 52 + dst * 2 ^ 41 + toTwos 16 gain * 2 ^ 25 + ramp * 2 ^ 17 + b2n enable * 2 ^ 10

/-- The order of the table: by destination, then source (R260). -/
def rawKey (w : Nat) : Nat := bitsAt w 51 41 * 4096 + bitsAt w 63 52

/-- The crosspoint source of a live PLAY (R352). -/
def State.grantSrc (s : State) (g : Grant) : Nat :=
  let p := s.plan
  let x := p.source g.req.source.val
  if x.kind = 2 then (s.busesOf (((p.players[g.player.getD 0]?)).getD 0)).2.2
  else if x.kind = 3 then (s.busesOf x.inst).2.2
  else x.src

/-- The service entries of a live request as raw entries (R362, R372). A call's entries count from its grant (R365); they are
carried from its answer. -/
def State.grantEntries (s : State) (gs : List Grant) (g : Grant) : List Nat :=
  let p := s.plan
  let x := p.source g.req.source.val
  let ramp := (g.cls p).ramp
  if g.call then
    let b := s.busesOf ((p.slots[g.slot.getD 0]?).getD 0)
    let c := (p.consoles[g.req.console.val]?).getD (0, 0)
    [rawEntry x.src b.1 0 ramp true, rawEntry c.1 b.2.1 0 ramp true, rawEntry c.1 x.spk 0 ramp true, rawEntry b.2.2 c.2 0 ramp true]
  else
    (p.zoneList g.req).flatMap (fun z => ((p.zones[z]?).map (·.dests)).getD [] |>.map (fun d =>
      let gain := d.2 + g.req.trim.toInt + (duckIn p gs g z).getD 0
      rawEntry (s.grantSrc g) d.1 (if gain < -32767 then -32767 else gain) ramp true))

/-- Entries laid into a table by key; a pair already carried is skipped. -/
def layEntries (t : Sparse Nat) (es : List Nat) : Sparse Nat :=
  es.foldl (fun m w => if (Sparse.find m (rawKey w)).isSome then m else Sparse.set m (rawKey w) w) t

/-- The table of the static entries, of live requests and, if `fades`, of the entries that fade out; `all` takes every call's
entries, answered or not. -/
def State.svcTable (s : State) (gs : List Grant) (fades all : Bool) : List Nat :=
  let t := s.svc.static.foldl (fun (m : Sparse Nat) w => Sparse.set m (rawKey w) w) []
  let t := gs.foldl (fun m g => if g.call && !g.joined && !all then m else layEntries m (s.grantEntries gs g)) t
  let t := if fades then layEntries t (s.svc.fades.map (·.1)) else t
  t.map (·.2)

/-- A table within the size and late limits of R260. -/
def State.tableFits (s : State) (t : List Nat) : Bool :=
  let late := lateCounts (t.map parseEntry) s.forceTable
  t.length ≤ 16384 && late.1 ≤ 640 && late.2 ≤ 640

/-! ### Ends -/

/-- The controls that end a live request: STOP of its player or tone (R370). -/
def State.stopControls (s : State) (g : Grant) : List SvcAct :=
  let p := s.plan
  let x := p.source g.req.source.val
  if g.call then []
  else if x.kind = 2 then (g.player.map (fun k => SvcAct.control ((p.players[k]?).getD 0) 2)).toList
  else if x.kind = 3 then [.control x.inst 2]
  else []

/-- A live request is in effect, or comes into effect with the commit that is armed. -/
def State.inForce (s : State) (g : Grant) : Bool :=
  g.since.isSome || s.svc.armed.any (fun a => match a with
    | .record i o _ _ _ => i == g.req.id.toNat && decide (o ≤ 1)
    | _ => false)

/-- An entry as it fades out (R362). -/
def fading (w : Nat) : Nat := w - w / 2 ^ 10 % 2 * 2 ^ 10

/-- A live request ends: its entries fade over its class RAMP unless they are removed at once, its controls stop, its record is
written with the commit, until which it plays on (R357, R359, R361, R366, R370, R372). -/
def State.endGrant (s : State) (g : Grant) (fade stop : Bool) (rec : SvcAct) : State :=
  let p := s.plan
  let carried := !g.call || g.joined
  let fades := if fade && carried && s.inForce g then
      (s.grantEntries s.svc.grants g).map (fun w => (fading w, none, (g.cls p).ramp)) else []
  let t := { s with svc := { s.svc with
    grants := s.svc.grants.filter (fun h => h.order != g.order), fades := s.svc.fades ++ fades
    leaving := s.svc.leaving ++ [(⟨g, s.svc.cur, false⟩ : Leaving)] } }
  let t := t.svcDo rec
  let t := if stop then (s.stopControls g).foldl State.svcDo t else t
  match g.slot with
  | some k => t.svcDo (.call k 0 0 noId)
  | none => t

/-- A live request is PREEMPTED by another (R361, R366). -/
def State.preempt (s : State) (g : Grant) (fade : Bool) (other : Word) : State :=
  s.endGrant g fade true (.record g.req.id.toNat 3 0 0 other.toNat)

/-- Records for requests whose standing has changed between GRANTED and DUCKED (R360, R361). -/
def State.duckRecords (s : State) : State :=
  let p := s.plan
  let gs := s.svc.grants
  gs.foldl (fun t g =>
    let d := g.isDucked p gs
    if d = g.ducked then t
    else
      { t with svc := { t.svc with grants := t.svc.grants.map (fun (h : Grant) => if h.order = g.order then { h with ducked := d } else h) } }.svcDo
        (.record g.req.id.toNat (b2n d) 0 0 noId)) s

/-! ### Queues (R367) -/

/-- The requests that wait in zone z, in order of priority and then arrival. -/
def State.zoneQueue (s : State) (z : Nat) : List Waiting :=
  let p := s.plan
  let prio (w : Waiting) : Nat := (p.source w.req.source.val).prio
  sortBy (fun a b => prio a < prio b || (prio a == prio b && a.order ≤ b.order)) (s.svc.queue.filter (fun w => bitAt w.zones z))

/-- Every waiting request, in the same order; those that wait for a resource first (R366, R368). -/
def State.queueOrder (s : State) : List Waiting :=
  let p := s.plan
  let prio (w : Waiting) : Nat := (p.source w.req.source.val).prio
  sortBy (fun a b => (a.forRes && !b.forRes) ||
    (a.forRes == b.forRes && (prio a < prio b || (prio a == prio b && a.order ≤ b.order)))) s.svc.queue

/-- A number with the bits of a list set. -/
def maskOf (l : List Nat) : Nat := (l.eraseDups.map (fun k => 2 ^ k)).sum

/-- A request is deferred in some zones: refused where a full queue holds nothing lower, else queued, the lowest entry of each full
queue displaced. A request already queued keeps its place and displaces nothing (R367, R368). EV_QUEUE_FULL where a queue becomes full. -/
def State.defer (s : State) (r : SvcReq) (call : Bool) (zs : List Nat) (forRes : Bool) (was : Option Waiting) : State :=
  let p := s.plan
  let pr := (p.source r.source.val).prio
  let before (z : Nat) : Bool := (was.map (fun w => bitAt w.zones z)).getD false
  let full := zs.filter (fun z => !before z && 8 ≤ (s.zoneQueue z).length)
  let lowest (z : Nat) : Option Waiting := (s.zoneQueue z).getLast?
  if full.any (fun z => was.isSome || ((lowest z).map (fun (w : Waiting) => decide ((p.source w.req.source.val).prio ≤ pr))).getD true) then
    let t := { s with svc := { s.svc with queue := s.svc.queue.filter (fun w => w.req.id != r.id) } }
    (t.refuse r.id 3).raise EV_QUEUE_FULL
  else
    match was with
    | some _ =>
      let t := { s with svc := { s.svc with queue := s.svc.queue.map (fun (w : Waiting) =>
        if w.req.id = r.id then { w with zones := maskOf zs, forRes := forRes } else w) } }
      t.when (zs.any (fun z => !before z && (t.zoneQueue z).length == 8)) (fun u => u.raise EV_QUEUE_FULL)
    | none =>
      let out := full.filterMap lowest
      let t := out.foldl (fun u w =>
        if u.svc.queue.any (fun x => x.order == w.order) then
          { u with svc := { u.svc with queue := u.svc.queue.filter (fun x => x.order != w.order) } }.svcDo
            (.record w.req.id.toNat 3 0 0 r.id.toNat)
        else u) s
      let u := { t with svc := { t.svc with
        queue := t.svc.queue ++ [(⟨r, call, t.svc.order, maskOf zs, forRes⟩ : Waiting)], order := t.svc.order + 1 } }
      let pos := ((zs.map (fun z => (u.zoneQueue z).findIdx (fun w => w.req.id == r.id) + 1)).max?).getD 1
      let v := u.svcRecord r.id.toNat 2 0 pos 0 noId
      v.when (!full.isEmpty || zs.any (fun z => (u.zoneQueue z).length == 8)) (fun x => x.raise EV_QUEUE_FULL)

/-! ### Arbitration (R360, R361, R364) -/

/-- What a PLAY meets in one zone: a refusal (its reason), a deferral, or that it plays. -/
inductive ZoneAnswer
  | refuse (reason : Nat)
  | wait
  | play
deriving DecidableEq, Repr

/-- The answer of zone z to a PLAY: its lock first, then each grant that plays there (R360, R364). -/
def State.zoneAnswer (s : State) (r : SvcReq) (z : Nat) : ZoneAnswer :=
  let p := s.plan
  let pr := (p.source r.source.val).prio
  let wait := (p.cls r.source.val).wait
  if s.svc.locks.any (fun l => bitAt l.2.2 z && decide (l.2.1 < pr)) then .refuse 2
  else
    let met := (s.svc.grants.filter (fun g => g.plays z && decide (g.prio p ≤ pr))).map (fun g =>
      if wait = 1 then ZoneAnswer.wait
      else if (g.cls p).policy = 0 ∨ wait = 2 then ZoneAnswer.refuse 1
      else ZoneAnswer.play)
    match met.find? (fun a => match a with | .refuse _ => true | _ => false) with
    | some a => a
    | none => if met.contains .wait then .wait else .play

/-! ### Capacity and eviction (R365, R366) -/

/-- Live requests of priority 1 to 15, in the order in which they are evicted. -/
def State.evictable (s : State) (gs : List Grant) : List Grant :=
  let p := s.plan
  sortBy (fun a b => b.prio p < a.prio p || (a.prio p == b.prio p && b.order ≤ a.order)) (gs.filter (fun g => 0 < g.prio p))

/-- The players of the block type that a clip requires: their indices in the plan. -/
def State.playersFor (s : State) (clip : Nat) : List Nat :=
  let p := s.plan
  let ty := if ((Sparse.find s.clips clip).map (·.format)) = some 1 then 0x0C else 0x0D
  (List.range p.players.length).filter (fun k =>
    s.je.cut.descs.any (fun d => d.id == (p.players[k]?).getD 0x1FFF && d.type == ty))

/-- Grants evicted from a list until a condition holds on what is left; none where it never holds. -/
def evictUntil (ok : List Grant → Bool) (gs : List Grant) : List Grant → Option (List Grant)
  | [] => if ok gs then some [] else none
  | e :: rest =>
    if ok gs then some []
    else (evictUntil ok (gs.filter (fun g => g.order != e.order)) rest).map (e :: ·)

/-- What a request that may play takes: the record index of its player or slot, and whom it evicts; or the reason for which
it is refused, or that it waits for the resource (R365, R366). -/
inductive Room
  | take (k : Option Nat) (evict : List Grant)
  | refuse (reason : Nat)
  | wait
deriving DecidableEq, Repr

/-- The room for a record of a pool: the lowest-numbered free one, else for priority 0 that of the first holder evicted. -/
def State.poolRoom (s : State) (pool : List Nat) (held : Grant → Option Nat) (top : Bool) (reason : Nat) (gs : List Grant) : Room :=
  match pool.find? (fun k => !gs.any (fun g => held g == some k)) with
  | some k => .take (some k) []
  | none =>
    if !top then .refuse reason
    else match (s.evictable gs).find? (fun g => (held g).any (fun k => pool.contains k)) with
      | some g => .take (held g) [g]
      | none => .wait

/-- The room for a PLAY or a CALL that may play beside the grants gs (R365, R366). Priority 0 is never refused for capacity. DEDUCED (log entry 138): where
the check of R353 should fail to keep room in the table for it, it waits as for any other resource. -/
def State.room (s : State) (r : SvcReq) (call : Bool) (gs : List Grant) : Room :=
  let p := s.plan
  let x := p.source r.source.val
  let top := x.prio == 0
  let first : Room :=
    if call then s.poolRoom (List.range p.slots.length) (·.slot) top 6 gs
    else if x.kind = 2 then s.poolRoom (s.playersFor r.clip.val) (·.player) top 5 gs
    else if x.kind = 3 then
      match s.poolRoom [x.inst] (fun g =>
          if !g.call && (p.source g.req.source.val).kind == 3 then some (p.source g.req.source.val).inst else none) top 5 gs with
      | .take _ e => .take none e
      | a => a
    else .take none []
  match first with
  | .take k ev =>
    let gs := gs.filter (fun g => !ev.any (fun e => e.order == g.order))
    let new : Grant := ⟨r, call, s.svc.order, if call then none else k, if call then k else none, false, false, none⟩
    let fits (l : List Grant) : Bool := s.tableFits (s.svcTable (l ++ [new]) false true)
    if fits gs then .take k ev
    else if !top then .refuse 4
    else match evictUntil fits gs (s.evictable gs) with
      | some more => .take k (ev ++ more)
      | none => .wait
  | a => a

/-! ### Grants -/

/-- The controls that start a request (R370, R372). -/
def State.startControls (s : State) (g : Grant) : List SvcAct :=
  let p := s.plan
  let x := p.source g.req.source.val
  if g.call then [.control ((p.slots[g.slot.getD 0]?).getD 0) 2, .call (g.slot.getD 0) 1 g.req.console.val g.req.id.toNat]
  else if x.kind = 2 then
    [.control ((p.players[g.player.getD 0]?).getD 0) (1 + 4 * b2n g.req.loop + 65536 * g.req.clip.val)]
  else if x.kind = 3 then
    match s.je.cut.descs.find? (fun d => d.id == x.inst) with
    | some d => [.control x.inst (if ((wordsOf d.record)[3]?).getD 0 = 0 then 5 else 1)]
    | none => []
  else []

/-- A request that plays: those that it preempts and evicts end, it joins the live requests (R360 to R362, R366). -/
def State.grantNow (s : State) (r : SvcReq) (call : Bool) (preempted evicted : List Grant) (k : Option Nat) : State :=
  let t := preempted.foldl (fun u g => u.preempt g true r.id) s
  let t := evicted.foldl (fun u g => (u.preempt g false r.id).bump R.SVC_EVICT_CNT) t
  let g : Grant := ⟨r, call, t.svc.order, if call then none else k, if call then k else none, false, false, none⟩
  let p := t.plan
  let gs := t.svc.grants ++ [g]
  let g := { g with ducked := g.isDucked p gs }
  let t := { t with svc := { t.svc with
    grants := t.svc.grants ++ [g], order := t.svc.order + 1, queue := t.svc.queue.filter (fun w => w.req.id != r.id) } }
  let t := t.svcDo (.record r.id.toNat (b2n g.ducked) 0 0 noId)
  ((t.startControls g).foldl State.svcDo t).duckRecords

/-- A PLAY is decided, newly (`was` none) or from the queues (R360 to R368). -/
def State.decidePlay (s : State) (r : SvcReq) (was : Option Waiting) : State :=
  let p := s.plan
  let pr := (p.source r.source.val).prio
  let zs := p.zoneList r
  let ans := zs.map (fun z => (z, s.zoneAnswer r z))
  let drop := { s with svc := { s.svc with queue := s.svc.queue.filter (fun w => w.req.id != r.id) } }
  match ans.find? (fun a => match a.2 with | .refuse _ => true | _ => false) with
  | some (_, .refuse why) => drop.refuse r.id why
  | _ =>
    let waits := (ans.filter (fun a => a.2 == .wait)).map (·.1)
    if !waits.isEmpty then s.defer r false waits false was
    else
      let hit := if (p.cls r.source.val).policy = 0 then
          s.svc.grants.filter (fun g => zs.any g.plays && decide (pr < g.prio p)) else []
      let left := s.svc.grants.filter (fun g => !hit.any (fun h => h.order == g.order))
      match s.room r false left with
      | .take k ev => s.grantNow r false hit ev k
      | .refuse why => drop.refuse r.id why
      | .wait => s.defer r false [] true was

/-- A CALL is decided (R365, R366, R371). -/
def State.decideCall (s : State) (r : SvcReq) (was : Option Waiting) : State :=
  match s.room r true s.svc.grants with
  | .take k ev => s.grantNow r true [] ev k
  | .refuse why => { s with svc := { s.svc with queue := s.svc.queue.filter (fun w => w.req.id != r.id) } }.refuse r.id why
  | .wait => s.defer r true [] true was

/-- One pass over the queued requests (R368). -/
def State.queuePass (s : State) : State :=
  s.queueOrder.foldl (fun t w =>
    if !t.svc.queue.any (fun x => x.order == w.order) then t
    else t.asReq w.req.id.toNat (fun u => if w.call then u.decideCall w.req (some w) else u.decidePlay w.req (some w))) s

/-- Queued requests are decided again after an end, a preemption or a lock's release, and again while that lets one play
(R368). -/
def State.redecide (s : State) : Nat → State
  | 0 => s
  | n + 1 =>
    let t := s.queuePass
    if t.svc.queue.length < s.svc.queue.length then t.redecide n else t

/-- f, and the queue again where it ended a live or a queued request or a lock (R368); a DETACHED unit decides
nothing (R398). -/
def State.thenQueue (s : State) (f : State → State) : State :=
  let t := f s
  let gone := s.svc.grants.any (fun g => !t.svc.grants.any (fun h => h.order == g.order)) ||
    s.svc.queue.any (fun w => !t.svc.queue.any (fun x => x.order == w.order) && !t.svc.grants.any (fun g => g.req.id == w.req.id)) ||
    s.svc.locks.any (fun l => !t.svc.locks.contains l)
  if s.role == .detached then t
  else if gone && !t.svc.queue.isEmpty then (t.redecide (t.svc.queue.length + 1)).duckRecords else t.duckRecords

/-! ### The other requests (R359, R364, R372) -/

/-- GRANTED for a request that is itself answered (R359). -/
def State.granted1 (s : State) (id : Word) : State := s.svcDo (.record id.toNat 0 0 0 noId)

/-- ANSWER: the CALL that it names is joined (R372). -/
def State.decideAnswer (s : State) (r : SvcReq) : State :=
  match s.svc.grants.find? (fun g => g.req.id == r.target && g.call && !g.joined) with
  | none => s.refuse r.id 7
  | some g =>
    let t := { s with svc := { s.svc with grants := s.svc.grants.map (fun (h : Grant) =>
      if h.order = g.order then { h with joined := true } else h) } }
    (t.granted1 r.id).svcDo (.call (g.slot.getD 0) 2 g.req.console.val g.req.id.toNat)

/-- A lock ends: ENDED with END = RELEASED for its request (R364). -/
def State.dropLock (s : State) (l : Nat × Nat × Nat) : State :=
  { s with svc := { s.svc with
    locks := s.svc.locks.filter (fun x => x != l), unlocks := s.svc.unlocks ++ [(⟨l, s.svc.cur, false⟩ : Unlock)] } }.svcDo
    (.record l.1 5 0 1 noId)

/-- UNLOCK (R364). -/
def State.decideUnlock (s : State) (r : SvcReq) : State :=
  match s.svc.locks.find? (fun l => l.1 == r.target.toNat) with
  | none => s.refuse r.id 7
  | some l => (s.granted1 r.id).dropLock l

/-- RELEASE: a queued target leaves the queues, a live one fades out, a lock is released (R359). -/
def State.decideRelease (s : State) (r : SvcReq) : State :=
  let t := s.granted1 r.id
  match s.svc.grants.find? (fun g => g.req.id == r.target) with
  | some g => t.endGrant g true true (.record g.req.id.toNat 5 0 1 noId)
  | none =>
    if s.svc.queue.any (fun w => w.req.id == r.target) then
      { t with svc := { t.svc with queue := t.svc.queue.filter (fun w => w.req.id != r.target) } }.svcDo
        (.record r.target.toNat 5 0 1 noId)
    else s.decideUnlock r

/-- LOCK (R364): refused where a zone is locked at its priority or a higher one; a lower lock is replaced. -/
def State.decideLock (s : State) (r : SvcReq) : State :=
  let p := s.plan
  let pr := (p.source r.source.val).prio
  let zs := p.zoneList r
  let met := s.svc.locks.filter (fun l => zs.any (fun z => bitAt l.2.2 z))
  if met.any (fun l => l.2.1 ≤ pr) then s.refuse r.id 2
  else
    let t := met.foldl State.dropLock s
    { t with svc := { t.svc with locks := t.svc.locks ++ [(r.id.toNat, pr, maskOf zs)] } }.granted1 r.id

/-- The rules of R355 for a request of a type. -/
def State.reqOk (s : State) (ty : Nat) (r : SvcReq) : Bool :=
  let p := s.plan
  1 ≤ ty && ty ≤ 6 && r.source.val < p.sources.length && r.id != 0xFFFFFFFF &&
  !s.svc.grants.any (fun g => g.req.id == r.id) && !s.svc.queue.any (fun w => w.req.id == r.id) &&
  r.zones.toNat < 2 ^ p.zones.length && (!(ty == 1 || ty == 5) || r.zones != 0) &&
  decide (-32767 ≤ r.trim.toInt) && decide (r.trim.toInt ≤ 0) && r.clean

/-- A request that keeps the rules of R355 is decided (R359 to R372). -/
def State.decideGood (s : State) (ty : Nat) (r : SvcReq) : State :=
  let p := s.plan
  let x := p.source r.source.val
  if ty = 1 then
    if x.kind = 2 ∧ !((Sparse.find s.clips r.clip.val).any (fun c => !c.bad)) then s.refuse r.id 7
    else s.thenQueue (·.decidePlay r none)
  else if ty = 2 then
    if x.kind ≠ 4 ∨ p.consoles.length ≤ r.console.val then s.refuse r.id 7 else s.thenQueue (·.decideCall r none)
  else if ty = 3 then s.decideAnswer r
  else if ty = 4 then s.thenQueue (·.decideRelease r)
  else if ty = 5 then s.thenQueue (·.decideLock r)
  else s.thenQueue (·.decideUnlock r)

/-- A request of a type is decided in the present tick (R348, R355 to R372). -/
def State.decideReq (s : State) (ty : Nat) (r : SvcReq) : State :=
  if !s.svc.running then s.refuse r.id 8
  else if !s.reqOk ty r then s.refuse r.id 9
  else s.asReq r.id.toNat (fun t => t.decideGood ty r)

/-! ### Arming and taking effect (R349, R357, R362, R363) -/

/-- What a zone demands of its duck group (R363). -/
def State.zoneDemand (s : State) (gs : List Grant) (z : Nat) : Option Int :=
  let p := s.plan
  let here := gs.filter (fun g => g.plays z)
  if here.any (fun g => (g.cls p).policy == 0) then some (-32767)
  else deepest ((here.filter (fun g => (g.cls p).policy == 1)).map (fun g => (g.cls p).depth))

/-- The duck groups that the plan names, written to the shadow (R363). -/
def State.svcDucks (s : State) : State :=
  let p := s.plan
  (List.range 32).foldl (fun t g =>
    let zs := (List.range p.zones.length).filter (fun z => ((p.zones[z]?).map (·.group)) == some g)
    if g = 0 ∨ zs.isEmpty then t
    else
      let want := deepest (zs.filterMap (s.zoneDemand s.svc.grants))
      let ramp := ((zs.map (fun z => ((p.zones[z]?).map (·.bgRamp)).getD 0)).max?).getD 0
      let t := t.shPut R.XPM_DUCK_RAMP ramp g
      let t := t.shPut R.XPM_DUCK_ACT_ACT (setBit (t.shGet R.XPM_DUCK_ACT_ACT) (g - 1) want.isSome)
      match want with
      | some d => t.shPut R.XPM_DUCK_DEPTH (toTwos 16 d) g
      | none => t) s

/-- A table written to the shadow bank, with its length (R258, R259). -/
def State.svcBank (s : State) (table : List Nat) : State :=
  let b := 1 - s.activeBank
  let t := table.zipIdx.foldl (fun u w => u.setBytes (bankBase b + 8 * w.2) (leBytes 8 w.1)) s
  { t with mix := { t.mix with written := true } }.shPut R.XPM_LEN_LEN table.length

/-- The services arm XPM alone with every change decided since the last arm, from the tick after their previous commit is complete, once the
page can be armed (R357 step 2). Fading entries that would break the limits go at once. -/
def State.svcArm (s : State) : State :=
  if !s.svc.dirty || s.svc.doneAt == some s.tg || s.pagePending 0x38 || s.flag R.XPM_STATUS_COPY_BUSY || !s.flag R.XPM_CTRL_SVC_OWN || s.stateBlocked 0x38 then s
  else
    let full := s.svcTable s.svc.grants true false
    let fits := s.tableFits full
    let t := if fits then s else { s with svc := { s.svc with fades := [] } }
    let t := (t.svcBank (if fits then full else s.svcTable s.svc.grants false false)).svcDucks
    { t with
      svc := { t.svc with
        armed := t.svc.out, armedBy := t.svc.outBy, out := [], outBy := [], dirty := false
        leaving := t.svc.leaving.map (fun (l : Leaving) => { l with armed := true })
        unlocks := t.svc.unlocks.map (fun (l : Unlock) => { l with armed := true }) }
      queue := t.queue ++ [⟨[0x38], true, .queued, none⟩] }

/-- The services' commit has taken effect: the records, controls and call states of R357 step 3, in order of decision; fading
entries are removed RAMP ticks later. -/
def State.svcEffect (s : State) : State :=
  let t := { s with svc := { s.svc with
    armed := [], armedBy := [], doneAt := some s.tg, leaving := s.svc.leaving.filter (fun l => !l.armed)
    unlocks := s.svc.unlocks.filter (fun l => !l.armed)
    fades := s.svc.fades.map (fun f => (f.1, f.2.1.or (some (s.tg + f.2.2)), f.2.2)) } }
  s.svc.armed.foldl State.svcAct t

/-- The requests whose own GRANTED or DUCKED record is among acts: the requests of a commit. -/
def ownRecords (acts : List (SvcAct × Option Nat)) : List Nat :=
  (acts.filterMap (fun a => match a.1 with
    | .record i o _ _ _ => if o ≤ 1 ∧ a.2 = some i then some i else none
    | _ => none)).eraseDups

/-- The requests that are REFUSED with a rejected commit (R357): its own, and the answers decided since to calls among them. -/
def State.rejectedReqs (s : State) : List Nat :=
  let ids := ownRecords (s.svc.armed.zip s.svc.armedBy)
  let slots := (s.svc.grants ++ s.svc.leaving.map (·.grant)).filterMap (fun g => if ids.contains g.req.id.toNat then g.slot else none)
  (ids ++ (s.svc.out.zip s.svc.outBy).filterMap (fun a => match a.1 with
    | .call k 2 _ _ => if slots.contains k then a.2 else none
    | _ => none)).eraseDups

/-- A grant whose player, slot and tone no live request of a list holds. -/
def State.resourcesFree (s : State) (gs : List Grant) (g : Grant) : Bool :=
  let p := s.plan
  let tone (h : Grant) : Bool := !h.call && (p.source h.req.source.val).kind == 3
  gs.all (fun h => (h.player.isNone || h.player != g.player) && (h.slot.isNone || h.slot != g.slot) &&
    !(tone h && tone g && (p.source h.req.source.val).inst == (p.source g.req.source.val).inst))

/-- The services' commit was rejected (R357): its requests are REFUSED with NO_ROUTE and all that they did is undone: their entries, locks and
answers go, what they ended or preempted goes on. What was decided for other reasons waits for the next arm. DEDUCED (log entry 139): a live request
whose player, slot or tone has been given to another meanwhile stays ended. -/
def State.svcRejected (s : State) : State :=
  let ids := s.rejectedReqs
  let hit (b : Option Nat) : Bool := b.any ids.contains
  let lost := (s.svc.grants ++ s.svc.leaving.map (·.grant)).filter (fun g => ids.contains g.req.id.toNat)
  let gone := lost.flatMap (fun g => (s.grantEntries s.svc.grants g).map fading)
  let acts : List (SvcAct × Option Nat) := s.svc.armed.zip s.svc.armedBy ++ s.svc.out.zip s.svc.outBy
  let kept := s.svc.grants.filter (fun g => !ids.contains g.req.id.toNat)
  let undone := s.svc.leaving.filter (fun l => hit l.by_ && !ids.contains l.grant.req.id.toNat)
  let back := (undone.filter (fun l => s.resourcesFree kept l.grant)).map (·.grant)
  let ended : List Grant := (undone.map (·.grant)).filter (fun g => !back.any (fun h => h.order == g.order))
  let stays (a : SvcAct × Option Nat) : Bool :=
    match a.1 with
    | .record i _ _ _ _ => !ids.contains i && (!hit a.2 || ended.any (fun g => g.req.id.toNat == i))
    | .control _ _ => !hit a.2 || ended.any (fun g => (s.stopControls g).contains a.1)
    | .call k st _ _ => !hit a.2 || (st == 0 && ended.any (fun g => g.slot == some k))
  let todo : List (SvcAct × Option Nat) := acts.filter stays
  let dropped : List (SvcAct × Option Nat) := acts.filter (fun a => !stays a)
  let unanswered (g : Grant) : Bool := dropped.any (fun a => match a.1 with | .call k 2 _ _ => g.slot == some k | _ => false)
  let ducked (g : Grant) : Bool :=
    match dropped.findSome? (fun a => match a.1 with
      | .record i o _ _ _ => if i = g.req.id.toNat ∧ o ≤ 1 then some o else none
      | _ => none) with
    | some o => o == 0
    | none => g.ducked
  let grants : List Grant := sortBy (fun a b => a.order ≤ b.order) ((kept ++ back).map (fun (g : Grant) =>
    { g with joined := g.joined && !unanswered g, ducked := ducked g }))
  let leaving : List Leaving := (s.svc.leaving.filter (fun (l : Leaving) => !hit l.by_ && !ids.contains l.grant.req.id.toNat)).map
    (fun (l : Leaving) => { l with armed := false })
  let locks : List (Nat × Nat × Nat) := s.svc.locks.filter (fun l => !ids.contains l.1) ++
    (s.svc.unlocks.filter (fun (l : Unlock) => hit l.by_)).map (·.lock)
  let unlocks : List Unlock := (s.svc.unlocks.filter (fun (l : Unlock) => !hit l.by_)).map (fun (l : Unlock) => { l with armed := false })
  let fades := s.svc.fades.filter (fun f => !gone.contains f.1)
  let t : State := { s with svc := { s.svc with
    armed := [], armedBy := [], out := todo.map (·.1), outBy := todo.map (·.2), dirty := true, doneAt := some s.tg
    grants := grants, leaving := leaving, locks := locks, unlocks := unlocks, fades := fades } }
  (ids.foldl (fun u i => u.refuse (BitVec.ofNat 32 i) 7) t).duckRecords

/-! ### Starting and stopping (R348, R349) -/

/-- The first condition of R348 that fails, as STOP_CAUSE. -/
def State.svcCause (s : State) : Nat :=
  if !s.playing then 1 else if !s.flag R.XPM_CTRL_SVC_OWN then 2 else if !s.flag R.SVC_CTRL_EN then 3
  else if s.svc.plan.isNone then 4 else 0

/-- The services stop: on RUN → READY every live or queued request ends with END = STOPPED and one commit removes every service
entry; otherwise the entries stay in the table, nothing is committed, and calls are IDLE at once (R372). The ANG controls stay as they were last
written (R373). -/
def State.svcStop (s : State) : State :=
  if !s.svc.running then s
  else
    let ended := s.svc.grants.map (fun g => g.req.id.toNat) ++ s.svc.queue.map (fun w => w.req.id.toNat)
    let calls := s.svc.grants.filterMap (·.slot)
    let t := { s with svc := { s.svc with running := false, grants := [], queue := [], locks := [], fades := [], unlocks := [] } }
    if s.dev == .ready then
      let u := ended.foldl (fun v i => v.svcDo (.record i 5 0 2 noId)) t
      let u := calls.foldl (fun v k => v.svcDo (.call k 0 0 noId)) u
      { u with svc := { u.svc with
        dirty := true, leaving := u.svc.leaving ++ s.svc.grants.map (fun g => (⟨g, none, false⟩ : Leaving)) } }.svcArm
    else
      let u := { t with svc := { t.svc with out := [], outBy := [], armed := [], armedBy := [], dirty := false, leaving := [] } }
      calls.foldl (fun v k => v.callSet k 0 0 noId) u

/-- The services start with the table in force as the static table (R349). -/
def State.svcStart (s : State) : State :=
  let n := s.get R.XPM_LEN_LEN
  { s with svc := { s.svc with
    running := true, static := (List.range n).map (s.entryBits s.activeBank)
    out := [], outBy := [], armed := [], armedBy := [], dirty := false, leaving := [], unlocks := [] } }

/-- The live requests in effect, those included whose end has not yet taken effect (R357). -/
def State.liveNow (s : State) : List Grant := (s.svc.grants ++ s.svc.leaving.map (·.grant)).filter (fun g => g.since.isSome)

/-- The SERVICE page's published state: running and cause, calls and players in use, zones and locks (R348, R376). -/
def State.svcPublish (s : State) : State :=
  let p := s.plan
  let gs := s.svc.grants
  let live := s.liveNow
  let locked := (List.range 64).filter (fun z => s.svc.locks.any (fun l => bitAt l.2.2 z))
  let t := ((s.put R.SVC_STATUS_RUNNING (b2n s.svc.running)).put R.SVC_STATUS_STOP_CAUSE s.svcCause)
  let t := (t.put R.SVC_STATUS_CALLS (gs.filter (fun g => g.slot.isSome)).length).put R.SVC_STATUS_PLAYERS
    (gs.filter (fun g => g.player.isSome)).length
  let t := (t.put R.SVC_LOCK_LO_LOCKED (maskOf (locked.filter (· < 32)))).put R.SVC_LOCK_HI_LOCKED
    (maskOf ((locked.filter (32 ≤ ·)).map (· - 32)))
  t.each 64 (fun u z =>
    let demand := s.zoneDemand live z
    let lock := s.svc.locks.find? (fun l => bitAt l.2.2 z)
    let u := (u.put R.SVC_ZONE_STATE_QUEUE_LEN (s.zoneQueue z).length z).put R.SVC_ZONE_STATE_TOP_PRIO
      ((((live.filter (fun g => g.plays z)).map (fun g => g.prio p)).min?).getD 16) z
    let u := (u.put R.SVC_ZONE_STATE_BG_DUCKED (b2n demand.isSome) z).put R.SVC_ZONE_STATE_BG_MUTED
      (b2n (demand == some (-32767))) z
    (u.put R.SVC_ZONE_STATE_LOCKED (b2n lock.isSome) z).put R.SVC_ZONE_STATE_LOCK_PRIO ((lock.map (·.2.1)).getD 0) z)

/-! ### Each tick -/

/-- Entries whose fade is over are removed (R362). -/
def State.svcFades (s : State) : State :=
  let gone (f : Nat × Option Nat × Nat) : Bool := (f.2.1.map (fun t => decide (t ≤ s.tg))).getD false
  if s.svc.fades.any gone then
    { s with svc := { s.svc with fades := s.svc.fades.filter (fun f => !gone f), dirty := true } } else s

/-- A clip whose player's status record reads DONE has ended (R370). -/
def State.clipDone (s : State) (g : Grant) : Bool :=
  match g.player with
  | none => false
  | some k =>
    let id := (s.plan.players[k]?).getD 0x1FFF
    match s.je.cut.descs.find? (fun d => d.id == id) with
    | none => false
    | some d =>
      let a := ((wordsOf d.record)[2]?).getD 0
      (g.since.map (fun t => decide (t < s.tg))).getD false && s.permits .sp false a && bitAt (s.word a) 1

/-- A tone whose chime is over has ended (R370). -/
def State.toneDone (s : State) (g : Grant) : Bool :=
  let x := s.plan.source g.req.source.val
  !g.call && x.kind == 3 && (g.since.map (fun t => decide (t < s.tg))).getD false &&
  (match s.je.cut.descs.find? (fun d => d.id == x.inst) with
    | some d => s.engineRuns d.engine && !(s.inst x.inst).tone.on
    | none => false)

/-- The live requests that a test finds at their end are ENDED with DONE (R370). -/
def State.svcDone (s : State) (test : Grant → Bool) : State :=
  (s.svc.grants.filter test).foldl (fun t g =>
    t.thenQueue (fun u => u.endGrant g true false (.record g.req.id.toNat 5 0 0 noId))) s

/-- The controls of the ANG instances that the plan's zones name (R373), and of those that it named before. -/
def State.svcAng (s : State) : State :=
  let p := s.plan
  let ids := (p.zones.flatMap (·.angs) ++ s.svc.ang.map (·.1)).eraseDups
  let live := s.liveNow
  ids.foldl (fun t i =>
    let zs := (List.range p.zones.length).filter (fun z => (((p.zones[z]?).map (·.angs)).getD []).contains i)
    let bypass := zs.any (fun z => if z < 32 then t.bit R.SVC_ANG_BYPASS_LO_BYPASS z else t.bit R.SVC_ANG_BYPASS_HI_BYPASS (z - 32))
    let freeze := zs.any (fun z => live.any (fun g => g.plays z && (g.cls p).freeze))
    let w := b2n freeze + 2 * b2n bypass
    if ((t.svc.ang.find? (fun x => x.1 == i)).map (·.2)).getD 0 = w then t
    else { t with svc := { t.svc with ang := (i, w) :: t.svc.ang.filter (fun x => x.1 != i) } }.svcControl i w) s

/-- The request that a descriptor spells, with its TYPE (R354). -/
def reqOfWords (w : List Nat) : Nat × SvcReq :=
  let g (k : Nat) : Nat := (w[k]?).getD 0
  (bitsAt (g 1) 3 0, ⟨BitVec.ofNat 32 (g 0), ⟨bitsAt (g 1) 15 8 % 256, Nat.mod_lt _ (by decide)⟩,
    ⟨bitsAt (g 1) 27 16 % 4096, Nat.mod_lt _ (by decide)⟩, bitAt (g 1) 28,
    ⟨bitsAt (g 1) 30 29 % 4, Nat.mod_lt _ (by decide)⟩, BitVec.ofNat 64 (g 2 + 2 ^ 32 * g 3), BitVec.ofNat 32 (g 4),
    BitVec.ofNat 16 (g 5), decide (g 6 = 0) && decide (g 7 = 0)⟩)

/-- A unit that reads its own ring (R374). -/
def State.ownsRing (s : State) : Bool := s.role == .solo || s.role == .active

/-- The words of the descriptor of a request (R354). -/
def wordsOfReq (ty : Nat) (r : SvcReq) : List Nat :=
  [r.id.toNat, ty + r.source.val * 2 ^ 8 + r.clip.val * 2 ^ 16 + b2n r.loop * 2 ^ 28 + r.console.val * 2 ^ 29,
   r.zones.toNat % 2 ^ 32, r.zones.toNat / 2 ^ 32, r.target.toNat, r.trim.toNat, b2n (!r.clean), 0]

/-- A request taken by a paired unit goes into its next brace frame (R374, R392), which empties the list. -/
def State.noteTaken (s : State) (w : List Nat) : State :=
  if s.paired then { s with svc := { s.svc with taken := s.svc.taken ++ [w] } } else s

/-- The next descriptor of the ring is taken and decided, while HEAD and TAIL differ (R354, R355). -/
def State.svcTake (s : State) : Nat → State
  | 0 => s
  | n + 1 =>
    let h := s.get R.SVC_REQ_HEAD_INDEX
    if h = s.get R.SVC_REQ_TAIL_INDEX then s
    else
      let a := s.get R.SVC_REQ_BASE_BASE * 4096 + 32 * h
      let t := s.put R.SVC_REQ_HEAD_INDEX (if h + 1 ≥ s.get R.SVC_REQ_CTRL_ENTRIES then 0 else h + 1)
      if !s.permits .sp false a then (t.denyRecord .sp false a).svcTake n
      else
        let w := (List.range 8).map (fun k => s.word (a + 4 * k))
        let r := reqOfWords w
        ((t.noteTaken w).decideReq r.1 r.2).svcTake n

/-- The services at the start of a tick (R348, R355, R357, R362, R370, R373). A standby in step arms once it has decided the active's requests of the
tick (R374); where it received none in the tick before, what that tick left is armed first. -/
def State.svcTick (s : State) : State :=
  if !s.ticking || !s.boot.fwValid then s
  else
    let t := s.when (s.role == .inStep && !s.svc.told) State.svcArm
    let t := { t with svc := { t.svc with told := false } }
    let t := if t.svcCause = 0 then (if t.svc.running then t else t.svcStart) else t.svcStop
    let t := if t.svc.running then ((t.svcDone t.clipDone).when (t.role != .detached) (fun u => u.svcDone u.toneDone)).svcFades else t
    let t := if t.flag R.SVC_REQ_CTRL_EN && t.ownsRing then t.svcTake 64 else t
    let t := if t.svc.running then t.svcAng else t
    (t.when (t.role != .inStep) State.svcArm).svcPublish

/-! ### Commands -/

/-- A request of a type, decided now (R355): on the unit that reads the ring, while the service firmware runs. -/
def State.svcCommand (s : State) (ty : Nat) (r : SvcReq) : State :=
  if !s.ticking || !s.boot.fwValid || !s.ownsRing then s
  else ((s.noteTaken (wordsOfReq ty r)).decideReq ty r).svcPublish

/-- SVC_PLAY (R360). -/
def execSvcPlay (r : SvcReq) (s : State) : Ans := .next <| s.svcCommand 1 r
/-- SVC_CALL (R371). -/
def execSvcCall (r : SvcReq) (s : State) : Ans := .next <| s.svcCommand 2 r
/-- SVC_ANSWER (R372). -/
def execSvcAnswer (r : SvcReq) (s : State) : Ans := .next <| s.svcCommand 3 r
/-- SVC_RELEASE (R359). -/
def execSvcRelease (r : SvcReq) (s : State) : Ans := .next <| s.svcCommand 4 r
/-- SVC_LOCK (R364). -/
def execSvcLock (r : SvcReq) (s : State) : Ans := .next <| s.svcCommand 5 r
/-- SVC_UNLOCK (R364). -/
def execSvcUnlock (r : SvcReq) (s : State) : Ans := .next <| s.svcCommand 6 r

/-- SERVICE_COMMIT_ARM (R357). -/
def execServiceCommitArm (s : State) : Ans := .next <| if s.ticking && s.boot.fwValid then s.svcArm else s

/-- SVC_CLIP_DONE (R370): the services read DONE in the status record of a player. -/
def execSvcClipDone (player : Fin 32) (s : State) : Ans := .next <|
  if s.svc.running then (s.svcDone (fun g => g.player == some player.val && s.clipDone g)).svcPublish else s

/-- CLIP_CRC_CHECK_DONE (R369): a present clip that fails its CRC-32 is marked bad and counted. -/
def execClipCrcCheckDone (id : Fin 4096) (s : State) : Ans := .next <|
  match Sparse.find s.clips id.val with
  | none => s
  | some c =>
    if !s.ticking || !s.boot.fwValid || c.bad || (crc32 (s.bytes c.addr c.len)).toNat == c.crc then s
    else { s with clips := Sparse.set s.clips id.val { c with bad := true } }.bump R.SVC_CLIP_BAD_CNT

end Sys2Proof.Machine
end

