-- ==== Sys2Proof/Machine/Validate.lean ====
section
/-! DEFINITION. Validation (R63, R68, R426): the checks of a commit, of an image and of START, in the order of R426, each with
the reason, the index and the page of its failure. -/

namespace Sys2Proof.Machine

/-- What is validated: the pages that change, whether every page counts as changed (an image or START), whether the device is
in HELD and skips the checks across pages (R68), and whether the services armed the commit. -/
structure Scope where
  pages : List Nat
  whole : Bool
  held  : Bool
  svc   : Bool
deriving DecidableEq, Repr

/-- A page changes. -/
def Scope.on (c : Scope) (p : Nat) : Bool := c.whole || c.pages.contains p

/-- Some page of a run of n changes. -/
def Scope.any (c : Scope) (p n : Nat) : Bool := (List.range n).any (fun k => c.on (p + k))

/-- A failed check: reason and index, and the page whose content failed (R66). -/
abbrev Fail := Bad × Nat

/-- The first failure of a list of checks. -/
def firstFail (l : List (Unit → Option Fail)) : Option Fail := l.findSome? (fun f => f ())

/-- A failure where a condition holds. -/
def failIf (b : Bool) (reason index page : Nat) : Option Fail := if b then some ((reason, index), page) else none

/-! ### Order 5: cut list and parameter updates (R55, R282, R286, R287) -/

/-- The list that a commit of TICK loads, if it loads one (R55, R79). -/
def State.newCut (v : State) : Except Bad (Option Cut) :=
  let len := v.get R.TICK_CUT_LEN_LEN
  let a := v.get R.TICK_CUT_ADDR_ADDR
  if len = 0 then .ok none
  else if a % 32 ≠ 0 then .error (CUT_FORMAT, wholeCut)
  else if !inSharedArea a len || !v.areaGranted .eng false a len then .error (PROT_AREA, wholeCut)
  else match v.cutAt a len with
    | .error b => .error b
    | .ok c => .ok (some c)

/-- The slots of a JE page that name an instance or a record they may not (R287). DESIGN CHOICE (log entry 117): in HELD too, where R68 and R287 do not
say whether a slot is held against the cut list in force, it is. -/
def State.pupdCheck (v : State) (c : Cut) (n : Nat) : Option Fail :=
  firstFail ((List.range 8).map (fun k _ =>
    if !v.flag R.JE_PUPD_CTRL_EN n k then none
    else match c.descs.find? (fun d => d.engine == n && d.id == v.get R.JE_PUPD_CTRL_INSTANCE n k) with
      | none => some ((CUT_FORMAT, n * 65536 + 0xFFFF), 0x40 + n)
      | some d =>
        let a := v.get R.JE_PUPD_SRC_ADDR n k * 32
        if !inSharedArea a d.record.length || !v.areaGranted .eng false a d.record.length then some ((PROT_AREA, 0), 0x40 + n)
        else failIf (!recordOk d.type (wordsOf (v.bytes a d.record.length))) CUT_FORMAT (c.index d) (0x40 + n)))

/-- Order 5 for the list c that would be in force. -/
def State.cutOrder (v : State) (k : Scope) (c : Cut) : Option Fail :=
  let pool := if k.held && !(k.on 0x48 && k.on 0x39) then (0, 0)
    else (v.poolGeom.1, v.poolGeom.2 * 4096)
  let areas (_ : Unit) : Option Fail :=
    if k.on 0x48 || (k.on 0x39 && !k.held) then (v.cutAreas c pool).map (fun b => (b, 0x48)) else none
  firstFail (areas :: (List.range 8).map (fun n _ => if k.on (0x40 + n) then v.pupdCheck c n else none))

/-! ### Order 6: the stream table (R83, R91, R92) -/

/-- Audio formats, and the samples per packet that they may be sent with (R83). -/
def sppOk (f w : Nat) : Bool :=
  if 1 ≤ f ∧ f ≤ 4 then [6, 8, 12, 48].contains w else if f = 5 ∨ f = 6 then [6, 12, 16, 48].contains w else f == 7

/-- The RATE codes that a format may be received at (R83, R91). -/
def rateOk (f r : Nat) : Bool :=
  if 1 ≤ f ∧ f ≤ 4 then r ≤ 8 else if f = 5 ∨ f = 6 then [0, 4, 6].contains r else f == 7 && r == 0

/-- A group that the ASRC page configures for a rate of a stream (R92, R246). -/
def State.groupFor (v : State) (g r : Nat) : Bool :=
  v.get R.ASRC_GRP_CFG_SRC g == 2 && v.get R.ASRC_GRP_CFG_NOMINAL_HZ g == rateHz r

/-- A transmit STREAM_ID. -/
def State.txSid (s : State) (n : Nat) : Nat := s.get R.STTX_ENTRY0_SID_LO n + s.get R.STTX_ENTRY1_SID_HI n * 2 ^ 32

/-- The rules of R92 for an enabled receive entry, but for those between entries; `asrc` applies the one that reads the ASRC
page. -/
def State.rxEntryOk (v : State) (n : Nat) (asrc : Bool) : Bool :=
  let f := v.get R.STRX_ENTRY2_FORMAT n
  let ch := v.get R.STRX_ENTRY2_CHANNELS n
  let al := v.get R.STRX_ENTRY2_ALIGN n
  let r := v.get R.STRX_ENTRY3_RATE n
  1 ≤ f && f ≤ 7 && rateOk f r && (if f = 7 then ch == 0 else 1 ≤ ch && ch ≤ 64) &&
  v.get R.STRX_ENTRY2_FIRST_CHAN n + ch ≤ 2048 &&
  1 ≤ v.get R.STRX_ENTRY3_DEPTH n && v.get R.STRX_ENTRY3_DEPTH n ≤ 64 &&
  1 ≤ v.get R.STRX_ENTRY3_DUP_WIN n && v.get R.STRX_ENTRY3_DUP_WIN n ≤ 32 && (al ≤ 63 || al == 127) &&
  (!(f == 5 || f == 6) || 96 ≤ v.get R.STRX_ENTRY6_PT n) &&
  (r == 0 || !asrc || v.groupFor (v.get R.STRX_ENTRY3_ASRC_GROUP n) r)

/-- The rules of R92 for an enabled transmit entry. -/
def State.txEntryOk (v : State) (n : Nat) : Bool :=
  let f := v.get R.STTX_ENTRY4_FORMAT n
  let ch := v.get R.STTX_ENTRY4_CHANNELS n
  let iv := v.get R.STTX_ENTRY9_CRF_INTERVAL n
  let k := v.get R.STTX_ENTRY9_CRF_PER_PDU n
  1 ≤ f && f ≤ 7 && (if f = 7 then ch == 0 else 1 ≤ ch && ch ≤ 64 && sppOk f (v.get R.STTX_ENTRY4_SPP n)) &&
  (!(f == 5 || f == 6) || (v.get R.STTX_ENTRY1_SID_HI n / 2 ^ 28 == 14 && 96 ≤ v.get R.STTX_ENTRY7_PT n)) &&
  (f != 7 || (8 ≤ iv && iv ≤ 512 && iv % 8 == 0 && 1 ≤ k && k ≤ 12))

/-- Two channel ranges of receive entries overlap. -/
def rangesMeet (a b : Nat × Nat) : Bool := a.1 < b.1 + b.2 && b.1 < a.1 + a.2 && 0 < a.2 && 0 < b.2

/-- Order 6: the first entry, receive before transmit, that breaks R92, alone or against an earlier one. -/
def State.streamOrder (v : State) (k : Scope) : Option Fail :=
  if !(k.on 0x20 || k.on 0x21) then none
  else
    let rx := (List.range 512).filter (fun n => v.flag R.STRX_ENTRY2_ENABLE n)
    let tx := (List.range 512).filter (fun n => v.flag R.STTX_ENTRY4_ENABLE n)
    let span (n : Nat) : Nat × Nat := (v.get R.STRX_ENTRY2_FIRST_CHAN n, v.get R.STRX_ENTRY2_CHANNELS n)
    let crf (n : Nat) : Bool := v.get R.STRX_ENTRY2_FORMAT n == 7
    let tcrf (n : Nat) : Bool := v.get R.STTX_ENTRY4_FORMAT n == 7
    let badRx := rx.zipIdx.find? (fun e =>
      let before := rx.take e.2
      !v.rxEntryOk e.1 (!k.held || k.on 0x30) || before.any (fun m => v.rxSid m == v.rxSid e.1 || rangesMeet (span m) (span e.1)) ||
      (crf e.1 && decide (4 ≤ (before.filter crf).length)))
    let badTx := tx.zipIdx.find? (fun e =>
      let before := tx.take e.2
      !v.txEntryOk e.1 || before.any (fun m => v.txSid m == v.txSid e.1 || (tcrf m && tcrf e.1)))
    match badRx, badTx with
    | some e, _ => if k.on 0x20 then some ((STREAM_TABLE, e.1), 0x20) else badTx.map (fun x => ((STREAM_TABLE, 512 + x.1), 0x21))
    | none, some e => if k.on 0x21 then some ((STREAM_TABLE, 512 + e.1), 0x21) else none
    | none, none => none

/-! ### Order 7: crosspoint table and delay pool (R237, R260, R261, R272) -/

/-- The port whose channel an entry's source or destination names, with the channel and whether it is a source. -/
def XEntry.ports (e : XEntry) : List (Nat × Nat × Bool) :=
  (if 2048 ≤ e.src ∧ e.src < 2304 then [((e.src - 2048) / 32, (e.src - 2048) % 32, true)] else []) ++
  (if 1536 ≤ e.dst ∧ e.dst < 1792 then [((e.dst - 1536) / 32, (e.dst - 1536) % 32, false)] else [])

/-- Orders 1 to 5 of R260 for a table against the table in force; `port` says which ports order 3 looks at. -/
def State.tableCheck (v : State) (table old : List XEntry) (port : Nat → Bool) : Option Bad :=
  let at' (f : XEntry → Bool) : Option Nat := (table.zipIdx.find? (fun e => f e.1)).map (·.2)
  let key (e : XEntry) : Nat := e.dst * 4096 + e.src
  if 16384 < table.length then some (XPT_SIZE, 0)
  else match at' (fun e => decide (2559 < e.src)) with
    | some i => some (XPT_RANGE, i)
    | none => match at' (fun e => e.ports.any (fun p => port p.1 &&
          decide ((if p.2.2 then (v.rxSlotsOf p.1).length else (v.txSlotsOf p.1).length) ≤ p.2.1))) with
      | some i => some (XPT_RANGE, i)
      | none => match (table.zip (table.drop 1)).zipIdx.find? (fun e => decide (key e.1.2 ≤ key e.1.1)) with
        | some e => some (XPT_ORDER, e.2 + 1)
        | none =>
          let late := lateCounts table old
          if 640 < late.1 ∨ 640 < late.2 then some (XPT_LATE_CAP, 0) else none

/-- Order 7. -/
def State.tableOrder (v : State) (k : Scope) (table old : List XEntry) (plan : Bool) : Option Fail :=
  let ports := (List.range 8).any (fun p => k.on (0x28 + p))
  let looks (p : Nat) : Bool := !k.held || k.on (0x28 + p)
  let xpt (_ : Unit) : Option Fail :=
    if k.on 0x38 || (ports && !k.held) then (v.tableCheck table old looks).map (fun b => (b, 0x38)) else none
  let pool (_ : Unit) : Option Fail :=
    if plan && k.on 0x39 then (v.dpoolPlan.2).map (fun d => ((DPOOL_FULL, d), 0x39)) else none
  firstFail [xpt, pool]

/-! ### Orders 8 to 10: zone plan, balls, power stage (R294, R326, R353, R405, R482) -/

/-- Order 8: the plan against the list and the static table that would be in force. -/
def State.planOrder (v : State) (k : Scope) (c : Cut) (table : List XEntry) : Option Fail :=
  if k.held || k.svc || !(k.on 0x48 || k.on 0x38 || k.any 0x28 8) then none
  else match v.svc.plan with
    | none => none
    | some p => (v.planCheck p c (if v.svc.running && !k.whole then v.svc.static.map parseEntry else table)).map (fun b => (b, 0x68))

/-- The enabled relays. -/
def State.relaysOn (v : State) : List Nat := (List.range 4).filter (fun k => v.flag R.BRACE_RELAY_CFG_EN k)

/-- Order 9: a GP ball claimed twice, by relays and the GPIO (R405, R426, R482). -/
def State.pinOrder (v : State) (k : Scope) : Option Fail :=
  if k.held || !(k.on 0x60 || k.on 0x72 || k.any 0x50 8) then none
  else
    let gp (r : Nat) : Nat := v.get R.BRACE_RELAY_CFG_GP r
    failIf (v.relaysOn.any (fun r => v.bit R.GPIO_OE_OE (gp r) || v.relaysOn.any (fun q => q != r && gp q == gp r)))
      PIN_CONFLICT 0 0x60

/-- The rules of R326 for a channel. -/
def State.powerOk (v : State) (n : Nat) : Bool :=
  let r := n / 4
  let vfs := v.get R.PCH_LEVEL_VFS n
  let cs := v.get R.PCH_PROT_CS_LIMIT n
  vfs * 108 + 3000 ≤ v.get R.BST_CFG_VMAX r * 1000 && vfs ≤ 10 * cs * v.get R.PCH_LEVEL_LOAD_NOM n &&
  125 * cs * v.get R.PCH_PROT_SHUNT n ≤ 18000 && v.flag R.BST_CTRL_EN r && v.flag R.PG_CTRL_EN (0x58 + r) &&
  v.get R.BST_CFG_VMIN r ≤ v.get R.BST_CFG_VMAX r && v.get R.PCH_CFG_MOD n != 3

/-- A channel's feed bus is the output bus of the ENVELOPE that names it, if one does (R294). -/
def State.feedOk (v : State) (c : Cut) (n : Nat) : Bool :=
  !v.flag R.PCH_CFG_FEED_EN n || c.descs.all (fun d =>
    d.type != 0x10 || ((wordsOf d.record)[0]?).getD 8 != n || d.outBus == 2304 + v.get R.PCH_CFG_FEED n)

/-- A target channel that a relay may not have (R405). -/
def State.relayBad (v : State) (n : Nat) : Bool :=
  let load := v.get R.PCH_LEVEL_LOAD_NOM n
  !v.flag R.PCH_CFG_START_TEST n || decide (load < 4) || decide (10 * v.get R.PCH_PROT_CS_LIMIT n * load < 2 * v.get R.PCH_LEVEL_VFS n)

/-- Order 10. A reserved MOD is refused by the commit that carries it (R301), as a check of the page's own content also in HELD (R68). -/
def State.powerOrder (v : State) (k : Scope) (c : Cut) : Option Fail :=
  let pch := k.any 0x50 8
  let mods (_ : Unit) : Option Fail :=
    firstFail ((List.range 8).map (fun n _ => failIf (k.on (0x50 + n) && v.get R.PCH_CFG_MOD n == 3) POWER_LIMIT 0 (0x50 + n)))
  if k.held then mods ()
  else
    let taps (_ : Unit) : Option Fail :=
      if k.any 0x40 8 || k.on 0x48 || pch then
        match envelopeCheck c with
        | some b => some (b, 0x48)
        | none => firstFail ((List.range 8).map (fun n _ => failIf (!v.feedOk c n) POWER_LIMIT 0 (0x50 + n)))
      else none
    let limits (_ : Unit) : Option Fail :=
      if pch || k.any 0x58 2 || k.any 0x40 8 || k.on 0x48 then
        firstFail ((List.range 8).map (fun n _ =>
          failIf ((v.chOn n || v.flag R.PCH_CFG_FEED_EN n) && !v.powerOk n) POWER_LIMIT 0 (0x50 + n)))
      else none
    let relays (_ : Unit) : Option Fail :=
      if k.on 0x60 || k.on 0x72 || pch then
        failIf (v.relaysOn.any (fun r => (List.range 8).any (fun n => v.bit R.BRACE_RELAY_CFG_TARGET n r && v.relayBad n)))
          POWER_LIMIT 0 0x60
      else none
    firstFail [taps, mods, limits, relays]

/-! ### Order 11: areas (R94, R232, R268, R271, R400) -/

/-- An area that stream DMA reads and writes: in shared memory, granted. -/
def State.dmaArea (v : State) (a len : Nat) : Bool :=
  inSharedArea a len && v.areaGranted .sdma false a len && v.areaGranted .sdma true a len

/-- An area in shared memory that a class reads (`rd`) and writes (`wr`). -/
def State.classArea (v : State) (c : Cls) (rd wr : Bool) (a len : Nat) : Bool :=
  inSharedArea a len && (!rd || v.areaGranted c false a len) && (!wr || v.areaGranted c true a len)

/-- The rings and areas whose chapters state no check of their own (R426 order 11): the event log, the discovery table, the host's frame rings,
the control records, the request and status rings. DESIGN CHOICE (log entry 74): each is judged, while it is in use, for the class that reads
or writes it: the service processor, the engines, and host QSPI for the rings that the host fills. -/
def State.ringOrder (v : State) (k : Scope) (c : Cut) : Option Fail :=
  let ring (p : Nat) (use : Bool) (cl : Cls) (rd wr : Bool) (f : Fld) (len : Nat) (_ : Unit) : Option Fail :=
    if k.on p && use then failIf (!v.classArea cl rd wr (v.get f * 4096) len) PROT_AREA 0 p else none
  firstFail [
    ring 0x01 (v.flag R.EVT_LOG_CTRL_EN) .sp false true R.EVT_LOG_BASE_BASE (16 * v.get R.EVT_LOG_CTRL_ENTRIES),
    ring 0x18 (v.flag R.BR_HTX_CTRL_EN) .hq true true R.BR_HTX_BASE_BASE (16 * v.get R.BR_HTX_CTRL_ENTRIES),
    ring 0x18 (v.flag R.BR_HRX_CTRL_EN) .hq true true R.BR_HRX_BASE_BASE (16 * v.get R.BR_HRX_CTRL_ENTRIES),
    ring 0x23 (v.flag R.RTP_CTRL_SAP_RX_EN) .sp false true R.RTP_DISC_BASE_BASE 0x8000,
    ring 0x40 (c.descs.any (·.service)) .eng true false R.JE_SVC_BASE_BASE 0x40000,
    ring 0x68 (v.flag R.SVC_REQ_CTRL_EN) .sp true false R.SVC_REQ_BASE_BASE (32 * v.get R.SVC_REQ_CTRL_ENTRIES),
    ring 0x68 (v.flag R.SVC_CTRL_EN) .sp false true R.SVC_STAT_BASE_BASE (16 * v.get R.SVC_STAT_CTRL_ENTRIES)]

/-- Order 11. R400 asks of the seat state area that the regions grant it, not that it lie in shared memory. -/
def State.areaOrder (v : State) (k : Scope) : Option Fail :=
  let area (p : Nat) (use : Bool) (f : Fld) (len : Nat) (_ : Unit) : Option Fail :=
    if k.on p && use then failIf (!v.dmaArea (v.get f * 4096) len) PROT_AREA 0 p else none
  firstFail [
    area 0x20 true R.STRX_RING_BASE_BASE (v.get R.STRX_RING_SIZE_PAGES * 4096),
    fun _ => if k.any 0x28 8 then
      failIf (!v.dmaArea (v.get R.SP_AREA_BASE_BASE * 4096) 0x48000) PROT_AREA 0 0x28 else none,
    area 0x38 (v.get R.XPM_CLIP_BASE_BASE != 0) R.XPM_CLIP_BASE_BASE 0x2000,
    area 0x39 true R.DPOOL_BASE_BASE (v.get R.DPOOL_SIZE_PAGES * 4096),
    fun _ =>
      let a := v.get R.BRACE_STATE_BASE_BASE * 4096
      if k.on 0x60 && v.flag R.BRACE_CFG_PAIR_EN then
        failIf (!(v.areaGranted .sdma false a 0x80000 && v.areaGranted .sdma true a 0x80000)) PROT_AREA 0 0x60
      else none]

/-! ### Whole validations -/

/-- Orders 5 to 11 for the configuration v: its list, its table and the table in force before it. `plan` says that delay lines
are placed anew. Order 10 sees the records that the update slots bring (R287, R294). -/
def State.checkAll (v : State) (k : Scope) (c : Cut) (table old : List XEntry) (plan : Bool) : Option Fail :=
  firstFail [
    fun _ => v.cutOrder k c,
    fun _ => v.streamOrder k,
    fun _ => v.tableOrder k table old plan,
    fun _ => v.planOrder k c table,
    fun _ => v.pinOrder k,
    fun _ => v.powerOrder k (v.pupdCut k.on c),
    fun _ => v.areaOrder k,
    fun _ => v.ringOrder k c]

/-- The configuration as the commits ahead of the queue's first unvalidated one will have left it (R63), and the pages of
those commits. -/
def State.ahead (s : State) : State × List Nat :=
  s.queue.foldl (fun (a : State × List Nat) c =>
    match c.phase with
    | .queued => a
    | .scheduled _ =>
      let v := a.1.withShadow c.pages
      ({ v with je := { v.je with cut := v.pupdCut c.pages.contains (c.cut.getD v.je.cut) } }, a.2 ++ c.pages)) (s, [])

/-- A host commit of a serial port's page changes the slot mask of a port that the table in force names, while the services own
the table (R350). -/
def State.maskOwned (b v : State) (table : List XEntry) (pages : List Nat) : Option Nat :=
  if !b.flag R.XPM_CTRL_SVC_OWN then none
  else ((List.range 8).find? (fun p => pages.contains (0x28 + p) &&
    (v.rxSlotsOf p != b.rxSlotsOf p || v.txSlotsOf p != b.txSlotsOf p) &&
    table.any (fun e => e.ports.any (fun x => x.1 == p)))).map (0x28 + ·)

/-- The validation of a commit (R63, R66, R68): its failure, or the cut list that it loads. -/
def State.validate (s : State) (c : Commit) : Except Fail (Option Cut) :=
  let b := s.ahead
  let v := b.1.withShadow c.pages
  let first := (c.pages.min?).getD 0
  if s.dev == .boot || s.dev == .safe || s.dev == .sleep then .error ((STATE_REASON, 0), first)
  else if c.pages.contains 0x60 && s.dev != .ready && s.dev != .held then .error ((STATE_REASON, 0), 0x60)
  else match (if c.service then none else b.1.maskOwned v (if b.2.contains 0x38 then b.1.commitTable else b.1.forceTable) c.pages) with
    | some p => .error ((STATE_REASON, 0), p)
    | none =>
      let k : Scope := ⟨c.pages, false, s.dev == .held, c.service⟩
      let load := if c.pages.contains 0x48 then v.newCut else .ok none
      match load with
      | .error e => .error (e, 0x48)
      | .ok cut =>
        let swapped := b.2.contains 0x38
        let old := if swapped then b.1.commitTable else b.1.forceTable
        let table := if swapped || c.pages.contains 0x38 then v.commitTable else v.forceTable
        match v.checkAll k (cut.getD v.je.cut) table old true with
        | some f => .error f
        | none => .ok cut

/-- The validation of the configuration in force that START makes in HELD (R429: orders 4 to 11). -/
def State.validateForce (s : State) : Option Fail :=
  let k : Scope := ⟨[], true, false, false⟩
  let c := s.je.cut
  match cutCheck c (c.descs.map (fun d => (d, true))) with
  | some b => some (b, 0x48)
  | none => s.checkAll k c s.forceTable s.forceTable false

end Sys2Proof.Machine
end

