-- ==== Sys2Proof/Machine/Pair.lean ====
section
/-! DEFINITION. The partner of a brace pair (R381 to R387, R400 to R403): when this unit speaks to it, what its loss brings, the seat
phase, and the brace link going down. -/

namespace Sys2Proof.Machine

/-! ### The partner (R381, R382, R384, R387) -/

/-- A paired unit in a state in which it speaks to its partner (R381, R466). -/
def State.braceOn (s : State) : Bool := s.paired && s.netUp

/-- A ring port has link. -/
def State.ringUp (s : State) : Bool := s.link 0 || s.link 1

/-- A role change waits for the next boundary with its cause (R384). -/
def State.wantRole (s : State) (r : Role) (cause : Nat) : State :=
  { s with brace := { s.brace with want := s.brace.want ++ [(r, cause)] } }

/-- The partner is lost (cause 1) or demotes itself (cause 2): what this unit becomes (R384, R396 to R398). -/
def State.partnerGone (s : State) (cause : Nat) : State :=
  match s.role with
  | .seating => if s.dev = .ready then s.wantRole .active cause else if s.dev = .run then s.wantRole .coldStart 8 else s
  | .inStep => if cause = 1 && !s.ringUp then s else s.wantRole .active cause
  | .detached => s.wantRole .active cause
  | _ => s

/-- Both paths are silent: the partner is lost (R382). -/
def State.lostCheck (s : State) : State :=
  if s.flag R.BRACE_STATUS_BRACE_PRESENT || s.flag R.BRACE_STATUS_NET_PRESENT || s.brace.lost then s
  else
    let t := { s with brace := { s.brace with lost := true } }
    ((t.put R.BRACE_STATUS_PARTNER_LOST_SEEN 1).raise EV_PARTNER_LOST).partnerGone 1

/-! ### Re-seat bookkeeping (R400 to R403) -/

/-- The seat phase. -/
def State.seatPhase (s : State) : Nat := s.get R.BRACE_SEAT_STATUS_PHASE

/-- The phase of a unit that no re-seat fills: WAIT on a seating unit in READY, RUN or SAFE, else IDLE (R383, R401). -/
def State.seatRest (s : State) : State :=
  (s.put R.BRACE_SEAT_STATUS_PHASE (if s.role == .seating && s.netUp then 1 else 0)).put R.BRACE_SEAT_STATUS_ROUND 0

/-- A re-seat is abandoned with a cause; a standby mutes and waits again (R403, R404). -/
def State.seatAbort (s : State) (cause : Nat) : State :=
  let t := { s with brace := { s.brace with finalAt := none, sealed := false, seat := none, sent := none } }
  ((t.put R.BRACE_SEAT_INFO_ABORT_CAUSE cause).bump R.RESEAT_ABORT_CNT).seatRest.raise EV_RESEAT_ABORTED

/-- A re-seat runs. -/
def State.seating (s : State) : Bool := decide (2 ≤ s.seatPhase)

/-- The brace path falls silent (R382, R398, R403): EV_BRACE_LINK_DOWN, a running re-seat is abandoned, a unit in step detaches while the
network path lives. -/
def State.braceDown (s : State) : State :=
  if !s.flag R.BRACE_STATUS_BRACE_PRESENT then s
  else
    let t := { s.put R.BRACE_STATUS_BRACE_PRESENT 0 with peerEpoch := false, brace := { s.brace with run := 0, present := none } }
    let t := (t.raise EV_BRACE_LINK_DOWN).when s.seating (fun u => u.seatAbort 3)
    let t := t.when (t.role == .inStep && t.flag R.BRACE_STATUS_NET_PRESENT) (fun u => u.wantRole .detached 5)
    t.lostCheck

/-- The brace link carries frames: its lane is clocked by PLL-S (R39, R205). -/
def State.braceLane (s : State) : Bool := !s.flag R.PLL_STATUS_GATED 2

end Sys2Proof.Machine
end

