-- ==== Sys2Proof/Machine/Plls.lean ====
section
/-! DEFINITION. PLL-C, PLL-M and PLL-S (R203 to R224): lock detectors, gates and what they stop, PLL-M's frequency word, shims,
bands and calibration. -/

namespace Sys2Proof.Machine

/-! ### Which registers -/

/-- The instance of a loop's register page: PLLM, PLLC, PLLS. -/
def pllInst : LoopId → Nat
  | .m => 0 | .c => 1 | .s1 => 2 | .s2 => 2

/-- The event of a loop (R213). -/
def pllEvent : LoopId → Nat
  | .m => EV_PLLM_UNLOCK | .c => EV_PLLC_UNLOCK | .s1 => EV_PLLS_UNLOCK | .s2 => EV_PLLS_UNLOCK

/-- PLL-M's N in units of 2⁻³² for y in ppt, to the nearest unit (R206). -/
def pllmWord (y : Int) : Int := (125 * 2 ^ 32 * (1000000000000 + y) + 500000000000).fdiv 1000000000000

/-- EXPECT of a loop (R211). -/
def State.pllExpect (s : State) : LoopId → Nat
  | .c => 66667
  | .m => ((128000 * (1000000000000 + s.plumb.y) + 500000000000).fdiv 1000000000000).toNat
  | .s1 => 67584
  | .s2 => 81920

/-- A count lies within tolerance (R211). -/
def State.pllInTol (s : State) (l : LoopId) (count : Nat) : Bool :=
  let e := s.pllExpect l
  e ≤ count + e / 10000 && count ≤ e + e / 10000

/-! ### PLL-S and its VCOs (R205, R219) -/

/-- The flags of a VCO of PLL-S: 1 FLOCK, 2 PLOCK. -/
def State.vco (s : State) (k : Nat) : Nat := Sparse.get 0 s.plls.vco k

/-- A VCO is powered: while a lane uses it (R205); in SLEEP the lanes are those of P2 to P5 that an enabled wake pattern names (R123, R219), in
OFF there are none. -/
def State.vcoWanted (s : State) (k : Nat) : Bool :=
  let asleep := s.dev == .sleep
  s.dev != .off &&
  ((k == 2 && s.paired && !asleep) ||
   (List.range 6).any (fun p =>
     let m := s.portMode p
     (if k = 1 then m == 1 || m == 2 else 3 ≤ m && m ≤ 5) && (!asleep || s.wakeNamed p)))

/-- The VCO is on. -/
def State.vcoOn (s : State) (k : Nat) : Bool := s.flag (if k = 1 then R.PLLS_VCO_S1_ON else R.PLLS_VCO_S2_ON)

/-- Every powered VCO, and at least one, has a flag. -/
def State.vcosHave (s : State) (bit : Nat) : Bool :=
  (s.vcoOn 1 || s.vcoOn 2) && [1, 2].all (fun k => !s.vcoOn k || bitAt (s.vco k) bit)

/-- PLL-S shows its lock as its VCOs now hold it: PLOCK changes raise EV_PLLS_UNLOCK (R213), and while it is gated every lane is
held down and so is the brace link (R39, R205). `gate` says that a VCO has lost FLOCK or that one has just been powered. -/
def State.pllsShow (s : State) (gate : Bool) : State :=
  let was := s.flag R.PLL_STATUS_PLOCK 2
  let now := s.vcosHave 1
  let t := ((s.put R.PLL_STATUS_FLOCK (b2n (s.vcosHave 0)) 2).put R.PLL_STATUS_PLOCK (b2n now) 2)
  let t := (t.put R.PLLS_VCO_S1_PLOCK (b2n (bitAt (s.vco 1) 1))).put R.PLLS_VCO_S2_PLOCK (b2n (bitAt (s.vco 2) 1))
  let t := t.when (was != now) (fun u =>
    let u := u.when was (fun v => (v.put R.PLL_STATUS_UNLOCK_SEEN 1 2).bump R.PLL_UNLOCK_CNT 2)
    u.raise EV_PLLS_UNLOCK)
  if now then t.put R.PLL_STATUS_GATED 0 2
  else if gate && !t.flag R.PLL_STATUS_GATED 2 then ((t.put R.PLL_STATUS_GATED 1 2).each 6 State.linkDown).braceDown
  else t

/-- The flags of a VCO set. -/
def State.setVco (s : State) (k v : Nat) : State := { s with plls := { s.plls with vco := Sparse.put 0 s.plls.vco k v } }

/-- The VCOs are powered as the lanes and the device state now want them. -/
def State.pllsPower (s : State) : State :=
  let fresh := [1, 2].any (fun k => s.vcoWanted k && !s.vcoOn k)
  let off := !s.vcoWanted 1 && !s.vcoWanted 2
  let t := (s.put R.PLLS_VCO_S1_ON (b2n (s.vcoWanted 1))).put R.PLLS_VCO_S2_ON (b2n (s.vcoWanted 2))
  let t := [1, 2].foldl (fun u k => if s.vcoWanted k && s.vcoOn k then u else u.setVco k 0) t
  t.pllsShow (fresh || off)

/-! ### PLL-M (R206 to R209, R215 to R217) -/

/-- The table entry for the present target frequency (R209), in 10⁻¹² MHz: qualified by the margin, then the nearest centre,
then the lowest number. -/
def State.bandFor (s : State) : Option Nat :=
  let target : Nat := (6144 * (1000000000000 + s.plumb.y)).toNat
  let ok (n : Nat) : Bool :=
    s.flag R.PLLM_BAND_CFG_EN n && s.flag R.PLLM_BAND_LO_CAL_VALID n &&
    s.get R.PLLM_BAND_LO_MHZ n * 200000000000000 ≤ target * 199 &&
    target * 201 ≤ s.get R.PLLM_BAND_HI_MHZ n * 200000000000000
  let far (n : Nat) : Nat :=
    (((s.get R.PLLM_BAND_LO_MHZ n + s.get R.PLLM_BAND_HI_MHZ n : Nat) : Int) * 1000000000000 - 2 * target).natAbs
  (List.range 32).foldl (fun best n =>
    if !ok n then best
    else match best with
      | none => some n
      | some b => if far n < far b then some n else best) none

/-- An acquisition begins: the band is chosen, or NO_BAND keeps the loop gated (R209). -/
def State.pllmAcquire (s : State) : State :=
  match s.bandFor with
  | some n => (s.put R.PLLM_BAND_BAND n).put R.PLLM_BAND_NO_BAND 0
  | none => s.put R.PLLM_BAND_NO_BAND 1

/-- PLL-M's outputs gate (R216); an engine tick whose window is not over counts on the fallback clock. -/
def State.pllmGate (s : State) : State :=
  let t := { s with plls := { s.plls with ungateWait := false } }
  if s.pllmGated then t
  else
    let t := (t.put R.PLL_STATUS_GATED 1 0).when t.ticking (fun u => u.put R.TICK_STATUS_FALLBACK 1)
    let t := t.when (t.dev == .run && t.win != .kerf) (fun u => u.bump R.PLLM_FALLBACK_CNT)
    t.spPllmGates.asrcAllUnlock.clkoutGate

/-- One 64th of a VCO cycle (R207) in the units of the residue. -/
def shimUnit : Int := 2 ^ 32 * 1000000000000 / 64

/-- The shims that take a residue to within one shim, at most `most` of them (R207): negative against a phase that leads. -/
def shimsFor (r : Int) (most : Nat) : Int := -(r.sign * (min most ((r.natAbs - 1) / shimUnit.natAbs) : Nat))

/-- Shims applied: the residue and PLLM_SHIM_NET follow. -/
def State.shim (s : State) (n : Int) : State :=
  { s with plls := { s.plls with residue := s.plls.residue + n * shimUnit } }.put R.PLLM_SHIM_NET_NET
    (toTwos 32 (signedOf 32 (s.get R.PLLM_SHIM_NET_NET) + n))

/-- N as the device has set it, in 2⁻³². -/
def State.pllmN (s : State) : Int := (s.get R.PLLM_INT_INT : Int) * 2 ^ 32 + s.get R.PLLM_FRAC_FRAC

/-- The phase that PLL-M gains on media time over a tick's 8,192 reference cycles by the quantisation of N, at the y that the tick follows
(R186, R207). -/
def State.pllmGain (s : State) : Int := (s.pllmN * 1000000000000 - 125 * 2 ^ 32 * (1000000000000 + s.plls.y)) * 8192

/-- One VCO cycle in the units of the residue. -/
def vcoUnit : Int := 2 ^ 32 * 1000000000000

/-- What is left of a residue once the dividers have restarted on the VCO edge nearest to media time (R215). -/
def dividerRest (r : Int) : Int := r - (2 * r + vcoUnit).fdiv (2 * vcoUnit) * vcoUnit

/-- PLL-M ungates at a tick boundary (R215): between PLOCK and here shims, at most one per reference cycle, have brought the VCO to within one shim of
media time, and there its dividers restart, whatever their phase. DESIGN CHOICE (log entry 131): the shims take what is left of the phase after
whole VCO cycles, which the restart takes. The phase that pllmTick adds for the tick that ends is taken off. -/
def State.pllmUngate (s : State) : State :=
  if !s.plls.ungateWait then s
  else
    let r := dividerRest s.plls.residue
    let t := { s with plls := { s.plls with residue := r } }.shim (shimsFor r 8192)
    let t := { t with plls := { t.plls with ungateWait := false, residue := t.plls.residue - t.pllmGain } }
    let t := (t.put R.PLL_STATUS_GATED 0 0).put R.TICK_STATUS_FALLBACK 0
    t.spPllmUngates.asrcFixed.clkoutGate

/-- The loop runs (R219): PLL-M not while it calibrates or has no band, a VCO of PLL-S only while powered. -/
def State.pllRuns (s : State) : LoopId → Bool
  | .c => s.powered
  | .m => s.powered && s.dev != .sleep && !s.flag R.PLLM_CAL_CAL_BUSY && !s.flag R.PLLM_BAND_NO_BAND
  | .s1 => s.vcoOn 1
  | .s2 => s.vcoOn 2

/-- PLL-M at a tick boundary: it ungates where PLOCK has come; while it is ungated the phase gained over the tick that ends is taken in, and
one shim at most is applied (R207); N follows the y of the tick that begins (R206), and a tick on the fallback counts. -/
def State.pllmTick (s : State) : State :=
  let t := s.pllmUngate
  let t := t.when t.pllmGated (fun u => u.bump R.PLLM_FALLBACK_CNT)
  let t := t.put R.TICK_STATUS_FALLBACK (b2n t.pllmGated)
  let u := t.when (!t.pllmGated) (fun u =>
    let v := { u with plls := { u.plls with residue := u.plls.residue + u.pllmGain } }
    v.shim (shimsFor v.plls.residue 1))
  let w := pllmWord u.plumb.y
  let u := { u with plls := { u.plls with y := u.plumb.y } }
  let u := (u.put R.PLLM_INT_INT (w / 2 ^ 32).toNat).put R.PLLM_FRAC_FRAC (w % 2 ^ 32).toNat
  u.when (u.pllRuns .m) (fun v => v.put R.PLL_FEXPECT_EXPECT (v.pllExpect .m) 0)

/-! ### PLL-C (R39, R218) -/

/-- PLL-C's outputs gate: the Truss and peripheral clocks stop. -/
def State.pllcGate (s : State) : State :=
  if s.flag R.PLL_STATUS_GATED 1 then s
  else { s.put R.PLL_STATUS_GATED 1 1 with plls := { s.plls with clockLost := true, fatalWait := false } }

/-- PLL-C reaches PLOCK: after a clock loss the device records the fault and will reset itself (R39, R459, R461). -/
def State.pllcLocked (s : State) : State :=
  let t := s.put R.PLL_STATUS_GATED 0 1
  if s.plls.clockLost then { t with plls := { t.plls with clockLost := false, fatalWait := true } }.fatal .clockLoss
  else t.raise EV_PLLC_UNLOCK

/-! ### Lock detector rows (R210 to R213) -/

/-- PLOCK of PLL-M or PLL-C clears; PLL-C's event waits for its clock where the outputs gate (log entry 26). -/
def State.plockGone (s : State) (l : LoopId) (quiet : Bool) : State :=
  let k := pllInst l
  if !s.flag R.PLL_STATUS_PLOCK k then s
  else
    let t := ((s.put R.PLL_STATUS_PLOCK 0 k).put R.PLL_STATUS_UNLOCK_SEEN 1 k).bump R.PLL_UNLOCK_CNT k
    let t := t.when (k == 0) (fun u => { u with plls := { u.plls with ungateWait := false } })
    if quiet then t else t.raise (pllEvent l)

/-- A loop loses FLOCK, and with it PLOCK; its outputs gate (R212, R213), and a new acquisition of PLL-M begins (R209). -/
def State.flockGone (s : State) (l : LoopId) : State :=
  match l with
  | .m =>
    let t := ((s.put R.PLL_STATUS_FLOCK 0 0).plockGone .m false).pllmGate
    if t.flag R.PLLM_CAL_CAL_BUSY then t else t.pllmAcquire
  | .c => ((s.put R.PLL_STATUS_FLOCK 0 1).plockGone .c true).pllcGate
  | .s1 => (s.setVco 1 0).pllsShow true
  | .s2 => (s.setVco 2 0).pllsShow true

/-- The reference of a page's loop is lost. -/
def State.refGone (s : State) (k : Nat) : State := (s.put R.PLL_STATUS_REF_LOST 1 k).put R.PLL_STATUS_REF_LOST_SEEN 1 k

/-- PLL_REF_LOST (R210): no edge for 1 µs. PLL-C and PLL-M share XI, the two VCOs of PLL-S share SREFCLK. -/
def execPllRefLost (loop : LoopId) (s : State) : Ans := .next <|
  if !s.powered then s
  else match loop with
    | .c => (((s.refGone 1).refGone 0).flockGone .m).flockGone .c
    | .m => (((s.refGone 1).refGone 0).flockGone .m).flockGone .c
    | .s1 => ((s.refGone 2).flockGone .s1).flockGone .s2
    | .s2 => ((s.refGone 2).flockGone .s1).flockGone .s2

/-- The count of the last window and its expectation show (R221, R224). -/
def State.pllCount (s : State) (l : LoopId) (count : Nat) : State :=
  match l with
  | .s2 => s.put R.PLLS_FCOUNT2 count
  | _ => (s.put R.PLL_FCOUNT count (pllInst l)).put R.PLL_FEXPECT_EXPECT (s.pllExpect l) (pllInst l)

/-- PLL_FLOCK_SET (R211): a whole window lies within tolerance. -/
def execPllFlockSet (loop : LoopId) (count : Nat) (s : State) : Ans := .next <|
  if !s.pllRuns loop then s
  else
    let t := s.pllCount loop count
    if !s.pllInTol loop count then t
    else match loop with
      | .m => (t.put R.PLL_STATUS_FLOCK 1 0).put R.PLL_STATUS_REF_LOST 0 0
      | .c => (t.put R.PLL_STATUS_FLOCK 1 1).put R.PLL_STATUS_REF_LOST 0 1
      | .s1 => ((t.setVco 1 (setBit (t.vco 1) 0 true)).put R.PLL_STATUS_REF_LOST 0 2).pllsShow false
      | .s2 => ((t.setVco 2 (setBit (t.vco 2) 0 true)).put R.PLL_STATUS_REF_LOST 0 2).pllsShow false

/-- PLL_FLOCK_CLEAR (R211, R213): an evaluation lies outside tolerance while FLOCK is set. -/
def execPllFlockClear (loop : LoopId) (count : Nat) (s : State) : Ans := .next <|
  if !s.powered then s
  else
    let t := s.pllCount loop count
    let has := match loop with
      | .m => s.flag R.PLL_STATUS_FLOCK 0
      | .c => s.flag R.PLL_STATUS_FLOCK 1
      | .s1 => bitAt (s.vco 1) 0
      | .s2 => bitAt (s.vco 2) 0
    if has && !s.pllInTol loop count then t.flockGone loop else t

/-- The phase error of a loop shows (R221, R224). -/
def State.pllPhase (s : State) (l : LoopId) (ps : Int) : State :=
  if l = .s2 then s.putI R.PLLS_PHASE2_PS ps else s.putI R.PLL_PHASE_PS ps (pllInst l)

/-- The phase error has stayed inside PHASE_WIN for PLOCK_N reference cycles (R212). -/
def State.phaseHeld (s : State) (l : LoopId) (x : PhaseRun) : Bool :=
  decide (s.get R.PLL_LOCK_CFG_PLOCK_N (pllInst l) ≤ x.cycles) &&
  decide (max x.worst x.ps.natAbs ≤ 100 * s.get R.PLL_LOCK_CFG_PHASE_WIN (pllInst l))

/-- PLL_PLOCK_SET (R212, R215): the phase error has stayed inside PHASE_WIN for PLOCK_N reference cycles with FLOCK set; LOCK_TIME
shows how long the acquisition took, and PLL-M's dividers stand as measured. -/
def execPllPlockSet (loop : LoopId) (phase : PhaseRun) (s : State) : Ans := .next <|
  if !s.pllRuns loop then s
  else
    let k := pllInst loop
    let t := s.pllPhase loop phase.ps
    let u := t.put R.PLL_LOCK_TIME_US phase.us k
    if !s.phaseHeld loop phase then t
    else match loop with
      | .m =>
        if !s.flag R.PLL_STATUS_FLOCK 0 || s.flag R.PLL_STATUS_PLOCK 0 then t
        else
          let v := (u.put R.PLL_STATUS_PLOCK 1 0).raise EV_PLLM_UNLOCK
          if v.pllmGated then { v with plls := { v.plls with ungateWait := true, residue := phase.divider * 1000000000000 } }
          else v
      | .c => if !s.flag R.PLL_STATUS_FLOCK 1 || s.flag R.PLL_STATUS_PLOCK 1 then t else (u.put R.PLL_STATUS_PLOCK 1 1).pllcLocked
      | .s1 => if bitAt (s.vco 1) 0 then (u.setVco 1 3).pllsShow false else t
      | .s2 => if bitAt (s.vco 2) 0 then (u.setVco 2 3).pllsShow false else t

/-- PLL_PLOCK_CLEAR (R212, R213): the phase error has exceeded PHASE_WIN on 4 cycles in a row while FLOCK holds; the outputs stay
ungated. -/
def execPllPlockClear (loop : LoopId) (ps : Int) (s : State) : Ans := .next <|
  let k := pllInst loop
  if !s.powered then s
  else
    let t := s.pllPhase loop ps
    if ps.natAbs ≤ 100 * s.get R.PLL_LOCK_CFG_PHASE_WIN k then t
    else match loop with
      | .m => t.plockGone .m false
      | .c => t.plockGone .c false
      | .s1 => (t.setVco 1 (setBit (t.vco 1) 1 false)).pllsShow false
      | .s2 => (t.setVco 2 (setBit (t.vco 2) 1 false)).pllsShow false

/-- PLLM_CEILING_TRIP (R214): the engine clock counts more than 512 in a window of 256 Truss cycles. -/
def execPllmCeilingTrip (count : Nat) (s : State) : Ans := .next <|
  if !s.powered || s.pllmGated || count ≤ 512 then s else (s.bump R.PLLM_CEIL_CNT).flockGone .m

/-- CLK_MUTE_RELEASE (R217): PLOCK has held for 10 ms with PLL-M ungated. -/
def execClkMuteRelease (s : State) : Ans := .next <|
  if s.powered && s.flag R.PLL_STATUS_PLOCK 0 && !s.pllmGated && s.power.pllLost then
    { s with power := { s.power with pllLost := false } }.clockChange s.clockError
  else s

/-! ### Calibration (R208, R209) -/

/-- Calibration of PLL-M begins: its outputs gate as for a loss of lock. -/
def State.calStart (s : State) : State :=
  let t := s.put R.PLLM_CAL_CAL_BUSY 1
  ((t.put R.PLL_STATUS_FLOCK 0 0).plockGone .m false).pllmGate

/-- PLLM_CAL (R208): in READY and HELD; in any other state the write is ignored with EV_HOST_ERR. -/
def execPllmCal (who : Initiator) (s : State) : Ans := .next <|
  s.command who 0x0a080 (fun t =>
    if (t.dev == .ready || t.dev == .held) && !t.flag R.PLLM_CAL_CAL_BUSY then t.calStart else t.hostErr)

/-- PLLM_CAL_DONE (R208): each enabled entry takes its measured range (`ranges`, by entry), and the loop acquires. -/
def execPllmCalDone (ranges : List (Nat × Nat)) (s : State) : Ans := .next <|
  if !s.flag R.PLLM_CAL_CAL_BUSY then s
  else
    let t := (ranges.take 32).zipIdx.foldl (fun u e =>
      if u.flag R.PLLM_BAND_CFG_EN e.2 then
        ((u.put R.PLLM_BAND_LO_MHZ e.1.1 e.2).put R.PLLM_BAND_HI_MHZ e.1.2 e.2).put R.PLLM_BAND_LO_CAL_VALID 1 e.2
      else u) s
    (t.put R.PLLM_CAL_CAL_BUSY 0).pllmAcquire

/-- PLLM_BAND_RETRY (R209): with no band the device calibrates again every second. -/
def execPllmBandRetry (s : State) : Ans := .next <|
  if s.powered && s.flag R.PLLM_BAND_NO_BAND && !s.flag R.PLLM_CAL_CAL_BUSY && s.dev != .sleep then s.calStart else s

/-- PLL-M and PLL-S are off (R219: OFF and SLEEP); PLL-M's outputs gate. -/
def State.pllmOff (s : State) : State := ((s.put R.PLL_STATUS_FLOCK 0 0).plockGone .m false).pllmGate

end Sys2Proof.Machine
end

