-- ==== Sys2Proof/Machine/Commit.lean ====
section
/-! DEFINITION. Shadow and commit (R61 to R69, R357, R391): arming, the queue, validation, taking effect and rejection. -/

namespace Sys2Proof.Machine

/-! ### Mirroring to a standby in step (R391) -/

/-- Words of memory from an address on, sent to the standby. -/
def State.mirrorWords (s : State) (who : Initiator) (a n : Nat) : State :=
  s.each n (fun t k => t.mirrorOut who (a + 4 * k) 0 (t.word (a + 4 * k)))

/-- The shared memory that a commit of these pages loads goes to the standby with it (R391): a new cut list, and the parameter
records of the enabled update slots. -/
def State.mirrorContent (s : State) (who : Initiator) (pages : List Nat) : State :=
  if !s.mirrors then s
  else
    let v := s.withShadow pages
    let t := s.when (pages.contains 0x48) (fun u =>
      u.mirrorWords who (v.get R.TICK_CUT_ADDR_ADDR) ((v.get R.TICK_CUT_LEN_LEN + 3) / 4))
    (List.range 8).foldl (fun u n => u.when (pages.contains (0x40 + n)) (fun w => w.each 8 (fun x k =>
      if v.flag R.JE_PUPD_CTRL_EN n k then
        match v.je.cut.descs.find? (fun d => d.engine == n && d.id == v.get R.JE_PUPD_CTRL_INSTANCE n k) with
        | some d => x.mirrorWords who (v.get R.JE_PUPD_SRC_ADDR n k * 32) (d.record.length / 4)
        | none => x
      else x))) t

/-! ### Arming (R62) -/

/-- Pages armed together as one commit. -/
def State.armPages (s : State) (pages : List Nat) (service : Bool) : State :=
  { s with queue := s.queue ++ [⟨pages, service, .queued, none⟩] }

/-- ARM of a page by the write of PG_SHADOW (R62, R69, R259, R391). -/
def State.armPage (s : State) (who : Initiator) (p : Nat) : State :=
  if !pageListed p || s.pagePending p || s.pairBlocked who p || s.svcBlocked who p then s.hostErr
  else (s.armPages [p] (who == .sp && p == 0x38)).when (pairCommon p) (fun t => (t.mirrorContent who [p]).mirrorOut who (p * 4096 + 0xc) 0 1)

/-- ARM (R62). -/
def execArm (who : Initiator) (page : Fin 256) (s : State) : Ans := .next <|
  s.command who (page.val * 4096 + 0xc) (fun t => t.armPage who page.val)

/-- A page holds a pending change: of its shadow, or of the shadow bank (R61). -/
def State.pageChanged (s : State) (p : Nat) : Bool := !(s.pendOf p).isEmpty || (p == 0x38 && s.mix.written)

/-- The pages that GROUP_COMMIT arms for an initiator: every page with a pending change, but for pages whose commit is pending
and those that the initiator may not arm (R62, R350, R391). -/
def State.groupPages (s : State) (who : Initiator) : List Nat :=
  (List.range 256).filter (fun p => s.pageChanged p && !s.pagePending p && !s.pairBlocked who p && !s.svcBlocked who p)

/-- GROUP_COMMIT (R62): the armed pages form one commit; with no pending change it is empty. -/
def execGroupCommit (who : Initiator) (s : State) : Ans := .next <|
  s.command who 0x000c8 (fun t =>
    let pages := t.groupPages who
    (t.armPages pages (who == .sp && pages == [0x38])).when (pages.any pairCommon) (fun u =>
      (u.mirrorContent who pages).mirrorOut who 0x000c8 0 1))

/-! ### Rejection (R66, R67, R68) -/

/-- The tick number of the present tick in SYS_COMMIT_TICK. -/
def State.commitTick (s : State) : State := s.put R.SYS_COMMIT_TICK_TICK (s.tickNum % 2 ^ 32)

/-- What a rejected commit leaves: REJECTED on its pages, the status, the event; the shadows are kept. -/
def State.commitRejected (s : State) (c : Commit) (f : Fail) : State :=
  let t := c.pages.foldl (fun u p => u.put R.PG_SHADOW_REJECTED 1 p) s
  let t := (((t.put R.SYS_COMMIT_STATUS_REASON f.1.1).put R.SYS_COMMIT_STATUS_PAGE f.2).put R.SYS_COMMIT_STATUS_LAST_OK 0).commitTick
  let t := t.when (f.1.1 == DPOOL_FULL) (fun u =>
    ((u.put R.DPOOL_EXHAUST_DEST f.1.2).put R.DPOOL_EXHAUST_VALID 1).raise EV_DPOOL_EXHAUST)
  let t := t.raise EV_COMMIT_REJECTED
  let t := t.when c.service State.svcRejected
  t.acmpDone c.pages false

/-- Every queued commit rejected with STATE, in queue order (R68); what the early passes have already taken of one goes back. DESIGN CHOICE (log
entry 108): no page's content has failed, and SYS_COMMIT_STATUS.PAGE records the lowest page of the commit. -/
def State.rejectAll (s : State) : State :=
  s.queue.foldl (fun t c => t.commitRejected c ((STATE_REASON, 0), (c.pages.min?).getD 0)) { s.mixBack with queue := [] }

/-! ### Validation (R63, R64) -/

/-- A commit of the queue replaced, the one at position k. -/
def setCommit (q : List Commit) (k : Nat) (c : Commit) : List Commit := q.take k ++ c :: q.drop (k + 1)

/-- The result of the validation of the commit at position k of the queue (R64, R66). -/
def State.commitResult (s : State) (k : Nat) (c : Commit) (r : Except Fail (Option Cut)) (due : Nat) : State :=
  match r with
  | .error f => { s with queue := s.queue.take k ++ s.queue.drop (k + 1) }.commitRejected c f
  | .ok cut => { s with queue := setCommit s.queue k { c with phase := .scheduled due, cut := cut } }

/-- The first commit of the queue that waits for its validation, with its position. -/
def State.nextQueued (s : State) : Option (Commit × Nat) :=
  s.queue.zipIdx.find? (fun e => e.1.phase == .queued)

/-- A commit of a unit in step that waits for the active's result (R391). -/
def State.awaits (s : State) (c : Commit) : Bool := s.follows && c.pages.any pairCommon

/-- A mirrored word is an arm. -/
def Mirror.isArm (m : Mirror) : Bool :=
  let a := m.addr.toNat
  a == 0x000c8 || (decide (a < 0x100000) && a % 4096 == 0xc)

/-- An ACTIVE unit waits with the validation of the first commit of its queue for the standby's acknowledgement of all that was sent with it (R391).
Arms are acknowledged in order, so that of the mirrored commits the last ones are those whose arms are still outstanding. -/
def State.unacked (s : State) (c : Commit) : Bool :=
  s.mirrors && c.pages.any pairCommon && !c.service &&
  decide ((s.queue.filter (fun (x : Commit) => x.phase == .queued && x.pages.any pairCommon && !x.service)).length ≤
    (s.brace.outMir.filter Mirror.isArm).length)

/-- The result that an ACTIVE unit sends to its standby in the next brace frame (R391). -/
def State.resultOut (s : State) (c : Commit) (r : Except Fail (Option Cut)) : State :=
  s.when (s.mirrors && c.pages.any pairCommon && (s.pairInStep || !c.service)) (fun t =>
    { t with brace := { t.brace with outRes := t.brace.outRes ++ [match r with
      | .error f => .rejected f.1.1 f.2 f.1.2
      | .ok _ => .due (t.tickNum + 2)] } })

/-- COMMIT_VALIDATED (R63, R64): the validation of the first unvalidated commit of the queue completes in the present tick; that of a
mirrored commit waits for the standby's acknowledgement (R391), and of one that a standby follows for the active's result. -/
def execCommitValidated (s : State) : Ans := .next <|
  match s.nextQueued with
  | none => s
  | some (c, k) =>
    if s.awaits c || s.unacked c || s.dev == .off then s
    else
      let r := s.validate c
      (s.commitResult k c r (s.tg + 2)).resultOut c r

/-- The results received from the active, each for the first unvalidated commit of pair-common pages (R391, R408): the commit
is rejected with the same reason, or takes effect at the same tick. -/
def State.takeResults (s : State) : State :=
  s.brace.results.foldl (fun t w =>
    match t.queue.zipIdx.find? (fun e => e.1.phase == .queued && e.1.pages.any pairCommon) with
    | none => { t with brace := { t.brace with results := t.brace.results ++ [w] } }
    | some (c, k) =>
      match w with
      | .rejected reason page index => t.commitResult k c (.error ((reason, index), page)) 0
      | .due tick =>
        let cut := (match t.validate c with | .ok x => x | .error _ => none)
        t.commitResult k c (.ok cut) (t.tg + (tick - t.tickNum)))
    { s with brace := { s.brace with results := [] } }

/-! ### Taking effect (R65, R66) -/

/-- Autonegotiation of a linked 1000BASE-X or SGMII port is switched by a commit: on, the link waits for it (R121); off, it shows as not done, and an
SGMII port runs at 1,000 Mbit/s (R120). -/
def State.anCommit (s old : State) (p : Nat) : State :=
  if !s.link p || !(s.portMode p == 4 || s.portMode p == 5) || s.flag R.MAC_CTRL_AN_EN p == old.flag R.MAC_CTRL_AN_EN p then s
  else if s.flag R.MAC_CTRL_AN_EN p then s.linkDown p
  else
    let t := (s.put R.MAC_STATUS_AN_DONE 0 p).put R.MAC_STATUS_PARTNER_PAUSE 0 p
    if t.get R.MAC_STATUS_SPEED p = t.modeSpeed p 0 then t else (t.put R.MAC_STATUS_SPEED (t.modeSpeed p 0) p).linkPass

/-- The ports after a commit: a port whose mode in force has changed loses its link, with the pass that a change of link starts (R110), and a
T1S port in use has link at once (R119, R121); a port that leaves MODE 6 leaves PLCA, which EN switches off at the next cycle boundary (R146). -/
def State.macCommit (s old : State) : State :=
  let t := (s.each 8 (fun u p => if u.portMode p != old.portMode p then u.linkDown p else u.anCommit old p)).t1sLinks
  t.each 2 (fun u k => if u.plcaPort k then u else u.plcaStop k)

/-- The pages that start an admission pass (R110, R247). -/
def admits (p : Nat) : Bool := p == 0x20 || p == 0x21 || p == 0x30 || p == 0x19 || (0x28 ≤ p && p < 0x30)

/-- A commit of the BRACE page: PAIR_EN chooses between SOLO and STANDBY_SEATING (R377, R383). -/
def State.braceCommit (s old : State) : State :=
  if s.paired == old.paired then s
  else
    let t := { s with role := if s.paired then Role.seating else Role.solo
                      brace := { State.reset.brace with relays := s.brace.relays } }
    t.put R.BRACE_SEAT_STATUS_PHASE 0

/-- The work of R65 that a commit of these pages governs, done at the start of the tick in which it takes effect; `old` is the
state before it. -/
def State.commitWork (s old : State) (pages : List Nat) (cut : Option Cut) : State :=
  let has (p : Nat) : Bool := pages.contains p
  let any (p n : Nat) : Bool := (List.range n).any (fun k => pages.contains (p + k))
  let t := (s.engineCommit old pages cut).mixCommit old pages
  let t := t.when (any 0x28 8 || has 0x31) (fun u => u.spCommitAll old)
  let t := t.when (has 0x09) (fun u => u.plumbCommit old)
  let t := t.when (has 0x0d) (fun u => u.clkoutCommit old)
  let t := t.when (has 0x60) (fun u => u.braceCommit old)
  let t := t.when (any 0x10 8) (fun u => (u.macCommit old).effAll)
  let t := t.when (any 0x10 8 || has 0x60) State.pllsPower
  let t := t.when (has 0x18) State.hostPoll
  let t := t.when (any 0x10 8 || has 0x18) (fun u => u.put R.BR_STATUS_POOL_SHORT (b2n u.poolShort))
  let t := t.when (has 0x19) (fun u => u.effAll.tasAll)
  let t := t.when (has 0x1b || any 0x10 8 || has 0x60) State.ptpRefresh
  let t := t.when (has 0x30) (fun u => u.asrcCommit old)
  let t := t.when (pages.any admits || (t.str.passDue && t.netUp)) (fun u => u.admission old)
  let t := t.when (has 0x20) (fun u => u.acmpOverride (old.pendOf 0x20))
  let t := t.when (has 0x04 || any 0x58 2) (fun u => u.each 2 State.bstCommit)
  let t := t.each 8 (fun u n => u.when (has (0x50 + n)) (fun v => v.pchCommit old n))
  let t := t.when (any 0x50 8 || any 0x58 2 || has 0x04) (fun u => u.ntcCommit old)
  t.when (has 0x5a) (fun u => u.diagCommit old)

/-- A commit that has taken effect is reported (R66). -/
def State.commitDone (s : State) (c : Commit) : State :=
  let t := (((s.put R.SYS_COMMIT_STATUS_REASON 0).put R.SYS_COMMIT_STATUS_PAGE 0).put R.SYS_COMMIT_STATUS_LAST_OK 1).commitTick
  let t := t.raise EV_COMMIT_DONE
  (t.when c.service State.svcEffect).acmpDone c.pages true

/-- The commits due at the start of the present tick take effect (R65, R66). -/
def State.takeCommits (s : State) : State :=
  let due := s.dueAt s.tg
  if due.isEmpty then s
  else
    let pages := due.flatMap (·.pages)
    let t := { (s.withShadow pages).dropShadow pages with queue := s.queue.filter (fun c => c.phase != CommitPhase.scheduled s.tg) }
    due.foldl State.commitDone (t.commitWork s pages (due.findSome? (fun (c : Commit) => c.cut)))

end Sys2Proof.Machine
end

