-- ==== Sys2Proof/Machine/Brace.lean ====
section
/-! DEFINITION. Brace pairs (R377 to R409): the two paths, roles, running in step, re-seat, cold start and crossover relays. -/

namespace Sys2Proof.Machine

/-! ### The two paths (R381, R382, R384, R387) -/

/-- What the partner reports of itself: its role and state, a notice, and a second ACTIVE unit once a path has returned (R399).
A DETACHED unit acts on a notice only where the network brings it (R384). -/
def State.hear (s : State) (net : Bool) (role dev : Nat) (notice : Bool) : State :=
  let path := s.flag R.BRACE_STATUS_BRACE_PRESENT || s.flag R.BRACE_STATUS_NET_PRESENT
  let begins := s.role == .active && role == 3 && s.get R.BRACE_STATUS_PARTNER_ROLE != 3
  let t := { s.put R.BRACE_STATUS_PARTNER_ROLE role with brace := { s.brace with
    ptnDev := dev, fresh := true, lost := s.brace.lost && !path,
    cmpFrom := if begins then s.tickNum + 1 else s.brace.cmpFrom } }
  let t := t.when begins (fun u => u.put R.BRACE_MISMATCH_RUN 0)
  let dual := t.role == .active && role == 1 && path
  let t := if !dual then { t with brace := { t.brace with dual := t.brace.dual && role == 1 } }
    else if t.brace.dual then t
    else
      let u := ({ t with brace := { t.brace with dual := true } }.put R.BRACE_STATUS_DUAL_ACTIVE_SEEN 1).bump R.DUAL_ACTIVE_CNT
      if u.get R.BRACE_CFG_PARTNER_ID < u.get R.SYS_DEVICE_ID_ID then u.wantRole .seating 10 else u
  if notice && (net || t.role != .detached) then t.partnerGone 2 else t

/-- BRACE_PATH_SILENT (R382, R398, R403): no valid frame in 3 consecutive ticks. -/
def execBracePathSilent (s : State) : Ans := .next <| if s.braceOn then s.braceDown else s

/-- NET_PATH_SILENT (R382): no valid heartbeat for 3 ms while a ring port has link. -/
def execNetPathSilent (s : State) : Ans := .next <|
  if !s.braceOn || !s.ringUp || !s.flag R.BRACE_STATUS_NET_PRESENT then s
  else ((s.put R.BRACE_STATUS_NET_PRESENT 0).raise EV_NET_HEARTBEAT_LOST).lostCheck

/-- NETWORK_HEARTBEAT_TX (R381). -/
def execNetworkHeartbeatTx (s : State) : Ans := .next <|
  if s.braceOn && s.tickNum % 6 == 0 then s.heartbeat s.brace.notice else s

/-- A heartbeat passes as Ocdor frames do (R381, R437, R438): an enabled slot with a key, the right TAG, and no repetition. DESIGN CHOICE (log
entry 99): a heartbeat carries its sender's session and count, so that it repeats one where it is of the session of the last that was accepted
and its count is no greater. -/
def State.beatOk (s : State) (h : Heartbeat) : Bool :=
  let k := h.slot.toNat
  let data := beatWords h.device h.role h.dev h.tick h.notice
  decide (k < 4) && s.bit R.SEC_IB_CTRL_SLOT_EN k &&
  (match s.ibKey k with
   | some x => Config.cmac64 x (ocdorBytes 1 5 0 k 0 data.length beatAddr h.session.toNat h.count.toNat data) == h.tag
   | none => false) &&
  (match s.brace.beat with
   | some (a, n) => a != h.session.toNat || decide (n < h.count.toNat)
   | none => true)

/-- NETWORK_HEARTBEAT_RX (R381, R382, R387). -/
def execNetworkHeartbeatRx (h : Heartbeat) (s : State) : Ans := .next <|
  if !s.braceOn then s
  else if !s.beatOk h then s.raise EV_INBAND_AUTH_FAIL
  else if h.device ≠ s.get R.BRACE_CFG_PARTNER_ID then s
  else (({ s with brace := { s.brace with beat := some (h.session.toNat, h.count.toNat) } }.bump R.NET_HB_RX_CNT).put
    R.BRACE_STATUS_NET_PRESENT 1).hear true h.role h.dev h.notice

/-! ### The digest (R393, R394) -/

/-- One bit of the digest's CRC-64. -/
def crc64Bit (c : BitVec 64) (b : Bool) : BitVec 64 :=
  if c.getLsbD 63 ^^ b then (c <<< 1) ^^^ 0x42F0E1EBA9EA3693#64 else c <<< 1

/-- One byte, most significant bit first. -/
def crc64Byte (c : BitVec 64) (b : Byte) : BitVec 64 := [7, 6, 5, 4, 3, 2, 1, 0].foldl (fun c k => crc64Bit c (b.getLsbD k)) c

/-- CRC-64 of R393. -/
def crc64 (bs : List Byte) : BitVec 64 := bs.foldl crc64Byte 0xFFFFFFFFFFFFFFFF#64

/-- The digest of the present tick: its number, the engine output buses, the destinations formed in its kerf. -/
def State.digestOf (s : State) (outs : Sparse (List Int)) : BitVec 64 :=
  let words (x : List Int) : List Byte := x.flatMap (fun v => leBytes 4 (toTwos 32 v))
  crc64 (leBytes 8 s.tickNum ++
    (List.range 256).flatMap (fun b => words (Sparse.get zeros8 s.je.outs (2304 + b))) ++
    (List.range 1792).flatMap (fun d => words (Sparse.get zeros8 outs d)))

/-- The last four of a list of digests by tick, with one more. -/
def pushDigest (l : List (Nat × Nat)) (tick d : Nat) : List (Nat × Nat) := ((tick, d) :: l.filter (fun e => e.1 != tick)).take 4

/-- Both digests of a tick are known: they are compared, and the third mismatch in a row is a divergence (R394). -/
def State.compareAt (s : State) (tick : Nat) : State :=
  match s.brace.own.find? (fun e => e.1 == tick), s.brace.ptn.find? (fun e => e.1 == tick) with
  | some a, some b =>
    if !s.pairInStep || decide (tick < s.brace.cmpFrom) then s
    else
      let t := { s with brace := { s.brace with
        own := s.brace.own.filter (fun e => e.1 != tick), ptn := s.brace.ptn.filter (fun e => e.1 != tick) } }
      let t := ((t.put R.BRACE_DIGEST_OWN_LO_DIGEST (a.2 % 2 ^ 32)).put R.BRACE_DIGEST_OWN_HI_DIGEST (a.2 / 2 ^ 32)).put
        R.BRACE_DIGEST_PTN_LO_DIGEST (b.2 % 2 ^ 32)
      let t := t.put R.BRACE_DIGEST_PTN_HI_DIGEST (b.2 / 2 ^ 32)
      if a.2 = b.2 then t.put R.BRACE_MISMATCH_RUN 0
      else
        let run := t.get R.BRACE_MISMATCH_RUN
        let t := (t.bump R.DIGEST_MISMATCH_CNT).when (run == 0) (fun u => u.put R.BRACE_MISMATCH_FIRST_TICK (tick % 2 ^ 24))
        let t := t.put R.BRACE_MISMATCH_RUN (min 3 (run + 1))
        if run ≠ 2 then t
        else
          let u := ((t.put R.BRACE_STATUS_DIVERGENCE_SEEN 1).bump R.DIVERGENCE_CNT).raise EV_DIVERGENCE
          if u.role == .inStep then u.wantRole .seating 4 else u
  | _, _ => s

/-- The own digest of the present tick, formed in its kerf. -/
def State.digestTick (s : State) (outs : Sparse (List Int)) : State :=
  if !s.paired || !s.playing then s
  else { s with brace := { s.brace with own := pushDigest s.brace.own s.tickNum (s.digestOf outs).toNat } }.compareAt s.tickNum

/-! ### Presence (R388) -/

/-- A clip instance plays and holds the samples of the next tick, waits with its 512 samples, or misses nothing. -/
def State.clipHas (s : State) (d : Desc) : Bool :=
  let p := (s.inst d.id).play
  let len := ((s.clipOf p.clip).map (·.len)).getD 0
  if p.phase = 1 then p.ready d.type len
  else if p.phase = 2 then
    let total := clipSamples d.type len
    (!p.loop && decide (total ≤ p.pos + 8)) || decide ((if p.loop then p.pos + 16 else min total (p.pos + 16)) ≤ clipSamples d.type p.got)
  else true

/-- The clip instances whose presence bit is clear. -/
def State.clipLacks (s : State) : List Nat :=
  (s.je.cut.descs.filter (fun d => (d.type == 0x0C || d.type == 0x0D) && !s.clipHas d)).map (·.id)

/-- What this unit's inputs of a tick lack: receive entries and port slots by position, and clip instances. A unit that takes
its port inputs from the active (R389) reports none of its own as lacking. -/
def State.ownLacks (s : State) (tick : Nat) : Lacks :=
  let x := 8 * tick
  let rx := s.audioEntries.flatMap (fun n => ((List.range 8).filter (fun k => !s.rxValid n (x + k))).map (fun k => (n, k)))
  let sp := (List.range 8).flatMap (fun p =>
    if s.spMode p = 0 || s.follows then []
    else (List.range 8).flatMap (fun k => ((s.spSlotsAt p (x + k)).filter (fun c => !s.spValid p (x + k) c)).map (fun c => (p, c, k))))
  ⟨rx, sp, s.clipLacks⟩

/-- The valid bits of the samples of a tick that a partner lacks are cleared. -/
def State.clearLacks (s : State) (l : Lacks) (tick : Nat) : State :=
  let x := 8 * tick
  let t := l.rx.foldl (fun u e =>
    let a := u.validAddr e.1 (x + e.2)
    if u.audioEntries.contains e.1 then u.setByte a (BitVec.ofNat 8 (setBit (u.byte a).toNat ((x + e.2) % 8) false)) else u) s
  l.sp.foldl (fun u e =>
    let a := u.spInValid e.1 (x + e.2.2)
    if e.1 < 8 ∧ u.spMode e.1 ≠ 0 then u.setWord a (setBit (u.word a) e.2.1 false) else u) t

/-- Agreement at 10 µs into tick N + 1 on the inputs of tick N, on the clip instances of tick N + 2, and the early passes of a pair in step (R388); of
a unit whose partner has left step since the window opened, the early passes alone. -/
def State.agree (s : State) : State :=
  if !s.playing || s.mix.early then s
  else if !s.agrees then s.earlyPasses
  else
    let t := match s.brace.present with
      | some l => { s.clearLacks l (s.tickNum - 1) with brace := { s.brace with clipsTo := l.clip ++ s.brace.mine, present := none } }
      | none => { s.bump R.AGREE_MISS_CNT with brace := { s.brace with clipsTo := s.brace.mine } }
    t.earlyPasses

/-! ### Brace frames (R380, R389 to R392) -/

/-- The ratios that an ACTIVE unit sends of its rate groups with SRC 1 or 2 (R390). -/
def State.ratiosOut (s : State) : List (Fin 32 × Option Nat) :=
  (List.finRange 32).filterMap (fun g =>
    let src := s.get R.ASRC_GRP_CFG_SRC g.val
    if src = 1 ∨ src = 2 then
      some (g, if s.flag R.ASRC_GRP_STATUS_LOCK g.val then some (s.get R.ASRC_GRP_RATIO_RATIO g.val) else none)
    else none)

/-- The port input samples of a tick that an ACTIVE unit mirrors, by port and index, in slot order (R389). -/
def State.samplesOut (s : State) (tick : Nat) : List (Fin 8 × Nat × List Word) :=
  (List.finRange 8).flatMap (fun p =>
    if s.spMode p.val = 0 then []
    else (List.range 8).map (fun k =>
      (p, 8 * tick + k, (s.spSlotsAt p.val (8 * tick + k)).map (fun c => BitVec.ofNat 32 (s.word (s.spInAddr p.val (8 * tick + k) c))))))

/-- What has not been acknowledged of the mirrored writes and the commit results is given up, where the partner follows no more. -/
def State.mirrorClear (s : State) : State :=
  { s with brace := { s.brace with
    base := (s.brace.base.1 + s.brace.outMir.length, s.brace.base.2 + s.brace.outRes.length), outMir := [], outRes := [] } }

/-- The brace frame of the present tick, sent at its window's start (R380): the notice goes with it, and the requests of the tick (R392). What is
mirrored is in every frame until the partner acknowledges it (log entry 140). -/
def State.braceTx (s : State) : State :=
  let t := { s with svc := { s.svc with taken := [] } }.when (!s.mirrors) State.mirrorClear
  if !s.paired then s
  else if !s.braceOn || !s.braceLane then t
  else
    let active := s.role == .active
    let N := s.tickNum - 1
    let f : BraceFrame := {
      leadOk := true, restOk := true, device := s.get R.SYS_DEVICE_ID_ID, role := roleCode s.role, dev := devCode s.dev
      tick := s.tickNum, time := tickStartNs s.tickNum + 3333, epoch := active && s.flag R.TICK_STATUS_EPOCH_VALID, notice := s.brace.notice
      present := s.ownLacks N
      digest := (s.brace.own.find? (fun e => e.1 == N)).map (fun e => BitVec.ofNat 64 e.2)
      ratios := if active then s.ratiosOut else []
      samples := if active then s.samplesOut N else []
      acked := s.brace.got, first := t.brace.base
      requests := if active then s.svc.taken.map (fun w => w.map (BitVec.ofNat 32 ·)) else []
      mirror := t.brace.outMir, commits := t.brace.outRes
      available := if active then some (s.get R.AVD_AVAIL_INDEX_INDEX) else none }
    { t with brace := { t.brace with notice := false } }.send (.brace f)

/-- A register field of a mirrored write, at the entry that the write reached on the active. -/
def State.mirrorFields (s : State) (m : Mirror) : List (Fld × Nat × Nat) :=
  (s.fieldsAt m.addr.toNat).map (fun x => if x.1.win = .none then x else (x.1, m.entry, x.2.2))

/-- A word of memory that a re-seat brings is stored, and what it overwrites is kept for a cold start (R404). -/
def State.seatStore (s : State) (a v : Nat) : State :=
  let t := match s.brace.saved with
    | some x => if (Sparse.find x.words a).isSome then s
        else { s with brace := { s.brace with saved := some { x with words := Sparse.set x.words a (s.word a) } } }
    | none => s
  t.setWord a v

/-- A word of a crosspoint bank written. -/
def State.bankWord (s : State) (bank off v : Nat) : State := s.setWord (bankBase bank + off % 0x20000) v

/-- A mirrored write or arm, or a word of memory that a commit loads, reaches the standby (R391). A mirrored COPY, which writes
the shadow bank (R258), copies at once, ahead of the bank writes that follow it. -/
def State.takeMirror (s : State) (m : Mirror) : State :=
  let a := m.addr.toNat
  let v := m.data.toNat
  if 0x08000000 ≤ a ∧ a < 0x08060000 then
    { s.bankWord (1 - s.activeBank) a v with mix := { s.mix with written := true } }
  else if inShared a then s.seatStore a v
  else if a = 0x38040 then
    { s.copyBank s.activeBank (1 - s.activeBank) with mix := { s.mix with written := true } }
  else if a = 0x000c8 then
    let pages := (List.range 256).filter (fun p => pairCommon p && s.pageChanged p && !s.pagePending p)
    s.armPages pages false
  else if a % 4096 = 0xc then (if s.pagePending (a / 4096) then s else s.armPages [a / 4096] false)
  else if a % 4096 = 4 then (if enWritable (a / 4096) then s.shPut R.PG_CTRL_EN (v % 2) (a / 4096) else s)
  else (s.mirrorFields m).foldl (fun t x => if x.1.acc == .rws then t.shPut x.1 (x.1.cut v) x.2.1 x.2.2 else t) s

/-- The active's requests of tick D reach a standby in step by the end of the overhead of tick D + 1, and it decides and arms them as the active has
(R374, R392). A frame that comes later decides nothing. -/
def State.takeRequests (s : State) (f : BraceFrame) (tick : Nat) : State :=
  if s.role != .inStep || !s.boot.fwValid || !(tick == s.tickNum || (s.win == .overhead && (tick + 1) % 2 ^ 48 == s.tickNum)) then s
  else
    let t := f.requests.foldl (fun u w => let r := reqOfWords (w.map (·.toNat)); u.decideReq r.1 r.2) s
    { t with svc := { t.svc with told := true } }.svcArm.svcPublish

/-- Of items that begin at position `first`, those that this unit has not taken. -/
def untaken (got first : Nat) (l : List α) : List α := l.drop (got - first)

/-- What an ACTIVE sender adds to its frame of a tick reaches a standby that follows it. -/
def State.takeActive (s : State) (f : BraceFrame) (tick : Nat) : State :=
  let t := match f.available with
    | some x => if s.role == .active then s else s.put R.AVD_AVAIL_INDEX_INDEX (x % 2 ^ 32)
    | none => s
  if !t.follows then t
  else
    let t := f.ratios.foldl (fun u r =>
      match r.2 with
      | some x => (u.put R.ASRC_GRP_RATIO_RATIO x r.1.val).asrcSet r.1.val true
      | none => u.asrcSet r.1.val false) t
    let t := f.samples.foldl (fun u x =>
      ((u.spSlotsAt x.1.val x.2.1).zip x.2.2).foldl (fun w c => w.spStore x.1.val x.2.1 c.1 c.2.toInt) u) t
    let g := t.brace.got
    let t := (untaken g.1 f.first.1 f.mirror).foldl State.takeMirror t
    let t := { t with brace := { t.brace with
      results := t.brace.results ++ untaken g.2 f.first.2 f.commits
      got := (max g.1 (f.first.1 + f.mirror.length), max g.2 (f.first.2 + f.commits.length)) } }.takeResults
    t.takeRequests f tick

/-- The partner's acknowledgement of mirrored writes and commit results (R391). -/
def State.takeAcks (s : State) (a : Nat × Nat) : State :=
  let b := s.brace.base
  let n := (min (a.1 - b.1) s.brace.outMir.length, min (a.2 - b.2) s.brace.outRes.length)
  { s with brace := { s.brace with
    base := (b.1 + n.1, b.2 + n.2), outMir := s.brace.outMir.drop n.1, outRes := s.brace.outRes.drop n.2 } }

/-- The brace path after a valid frame: present after frames in 6 consecutive ticks (R382). -/
def State.braceValid (s : State) : State :=
  let run := if s.brace.last = some s.tg then s.brace.run else if s.brace.last = some (s.tg - 1) then s.brace.run + 1 else 1
  let t := { s with brace := { s.brace with run := run, last := some s.tg } }
  if t.flag R.BRACE_STATUS_BRACE_PRESENT || run < 6 then t
  else (t.put R.BRACE_STATUS_BRACE_PRESENT 1).when (t.role == .detached) (fun u => u.wantRole .seating 6)

/-- The leading segment of a frame that passes its check: the heartbeat fields, media time, and the presence of the tick before (R380, R388). The
partner in step ends the active's part of a re-seat; one that is not in step after SEAL has missed it (R402). -/
def State.takeLead (s : State) (r : BraceRx) : State :=
  let f := r.frame
  let t := s.braceValid.hear false f.role f.dev f.notice
  let t := { t with peerEpoch := f.epoch && f.role == 1 }.refOffer 8 ((f.time : Int) - r.own)
  let t := t.when (f.tick == t.tickNum) (fun u => { u with brace := { u.brace with present := some f.present } })
  if t.role == .active && t.seatPhase == 3 then
    { t with brace := { t.brace with sealed := t.brace.sealed && f.role == 3 } }.when (f.role == 3) (fun u =>
      { u with brace := { u.brace with sealed := false, sent := none } }.seatRest)
  else t

/-- The rest of a frame of a tick that passes its check, its sender's role being known (R380). -/
def State.takeRest (s : State) (f : BraceFrame) (role tick : Nat) : State :=
  let t := s.takeAcks f.acked
  let t := if role = 1 then t.takeActive f tick else t
  match f.digest with
  | some d => { t with brace := { t.brace with ptn := pushDigest t.brace.ptn (tick - 1) d.toNat } }.compareAt (tick - 1)
  | none => t

/-- BRACE_FRAME_RX (R380): each segment is taken where it passes its check, and is counted and discarded where it does not. DEDUCED (log entry
141): without its leading segment a frame is of the present tick, and of a partner in the role that it last reported. -/
def execBraceFrameRx (r : BraceRx) (s : State) : Ans := .next <|
  let f := r.frame
  if !s.braceOn || !s.braceLane then s
  else if f.leadOk && f.device != s.get R.BRACE_CFG_PARTNER_ID then s
  else
    let t := if f.leadOk then s.takeLead r else s.bump R.BRACE_FRAME_ERR_CNT
    if f.restOk then
      t.takeRest f (if f.leadOk then f.role else t.get R.BRACE_STATUS_PARTNER_ROLE) (if f.leadOk then f.tick else t.tickNum)
    else t.bump R.BRACE_FRAME_ERR_CNT

/-! ### Relays (R405 to R407) -/

/-- A relay's hidden state. -/
def State.relay (s : State) (k : Nat) : RelayHid := Sparse.get RelayHid.init s.brace.relays k

/-- A relay's hidden state at x. -/
def State.setRelay (s : State) (k : Nat) (x : RelayHid) : State :=
  { s with brace := { s.brace with relays := Sparse.put RelayHid.init s.brace.relays k x } }

/-- The target channels of a relay. -/
def State.relayTargets (s : State) (k : Nat) : List Nat := (List.range 8).filter (fun n => s.bit R.BRACE_RELAY_CFG_TARGET n k)

/-- The device commits PCH_CTRL.ON at v on channels that a relay switches, but for those in LATCHED or RETRY_WAIT (R406). A channel whose page has a
commit pending is owed its own until that is done, since a page arms no second commit before (R62). -/
def State.relayArm (s : State) (k v : Nat) (channels : List Nat) : State :=
  let due := channels.filter (fun n => s.chState n != chLatched && s.chState n != chRetry)
  let ns := due.filter (fun n => !s.pagePending (0x50 + n) && s.flag R.PCH_CTRL_ON n != (v == 1))
  let t := s.setRelay k { s.relay k with owe := due.filter (fun n => s.pagePending (0x50 + n)) }
  if ns.isEmpty then t
  else (ns.foldl (fun u n => u.shPut R.PCH_CTRL_ON v n) t).armPages (ns.map (0x50 + ·)) false

/-- ON committed at v on the target channels of a relay (R406 steps 1 and 4). -/
def State.relayCommit (s : State) (k v : Nat) : State := s.relayArm k v (s.relayTargets k)

/-- What a relay still owes its target channels, at a boundary. -/
def State.relayOwed (s : State) (k : Nat) : State :=
  let r := s.relay k
  if r.owe.isEmpty then s else s.relayArm k (if r.step = 1 then 0 else 1) r.owe

/-- The sequence of a relay begins (R406 step 1, R407). -/
def State.relayBegin (s : State) (k : Nat) (release : Bool) : State :=
  let t := (s.setRelay k ⟨1, release, []⟩).put R.BRACE_RELAY_STATUS_PHASE (if release then 3 else 1) k
  let t := t.when (!release) (fun u => u.put R.BRACE_RELAY_STATUS_TAKEOVER_SEEN 1 k)
  ((t.bump R.RELAY_CNT).raise EV_RELAY_TAKEOVER).relayCommit k 0

/-- Takeovers that are due at this boundary begin. -/
def State.relaysDue (s : State) : State := s.each 4 (fun t k => if (t.relay k).step = 4 then t.relayBegin k false else t)

/-- RELAY_TAKEOVER (R406): a relay whose takeover is due. -/
def execRelayTakeover (k : Fin 4) (s : State) : Ans := .next <|
  if (s.relay k.val).step = 4 && s.ticking then s.relayBegin k.val false else s

/-- RELAY_RELEASE (R407): the partner has been in step for 10 s. -/
def execRelayRelease (k : Fin 4) (s : State) : Ans := .next <|
  if s.ticking && s.role == .active && s.get R.BRACE_STATUS_PARTNER_ROLE == 3 && s.get R.BRACE_RELAY_STATUS_PHASE k.val == 2 &&
      s.flag R.BRACE_RELAY_STATUS_ENERGISED k.val then s.relayBegin k.val true
  else s

/-- RELAY_ENERGISE (R406 step 3): every target is OFF, LATCHED or in RETRY_WAIT, and the relay moves. -/
def execRelayEnergise (k : Fin 4) (s : State) : Ans := .next <|
  let k := k.val
  let still (n : Nat) : Bool := s.chState n == chOff || s.chState n == chLatched || s.chState n == chRetry
  if (s.relay k).step ≠ 1 || !(s.relay k).owe.isEmpty || !(s.relayTargets k).all still then s
  else
    let on := !(s.relay k).release
    ((s.setRelay k ⟨2, (s.relay k).release, []⟩).put R.BRACE_RELAY_STATUS_ENERGISED (b2n on) k).send
      (.relay k (on == s.flag R.BRACE_RELAY_CFG_ACTIVE_HIGH k))

/-- RELAY_SETTLED (R406 step 4): RELAY_MS later the targets start again. -/
def execRelaySettled (k : Fin 4) (s : State) : Ans := .next <|
  let k := k.val
  if (s.relay k).step ≠ 2 then s else (s.setRelay k ⟨3, (s.relay k).release, []⟩).relayCommit k 1

/-- A relay whose targets have all come to rest is held, or after a release idle (R406 step 5, R407). -/
def State.relayRest (s : State) (k : Nat) : State :=
  let settled (n : Nat) : Bool :=
    s.chState n == chLatched || s.chState n == chRetry || s.chState n == chMute ||
    (s.chState n == chPlay && (s.ch n).dir == 0) || (s.chState n == chOff && !s.chOn n && !s.pagePending (0x50 + n))
  if (s.relay k).step ≠ 3 || !(s.relay k).owe.isEmpty || !(s.relayTargets k).all settled then s
  else (s.setRelay k RelayHid.init).put R.BRACE_RELAY_STATUS_PHASE (if (s.relay k).release then 0 else 2) k

/-! ### The seated state (R400, R401) -/

/-- Entries behind a window of a pair-common page. -/
def seatEntries : Win → Nat
  | .strx | .sttx => 512
  | .asrc => 32
  | .siPair => 128
  | .dpool => 1792
  | .svcZone => 64
  | .svcCall => 16
  | _ => 1

/-- The RWS fields of a register word. -/
def State.seatFields (s : State) (a : Nat) : List (Fld × Nat × Nat) := (s.fieldsAt a).filter (fun x => x.1.acc == .rws)

/-- The words of configuration that are seated, each with its entry: every word with RWS fields of a pair-common page, PG_CTRL.EN, the active bank. -/
def State.seatRegs (s : State) : List (Nat × Nat) :=
  (((List.range 256).filter pairCommon).flatMap (fun p =>
    (if enWritable p then [(p * 4096 + 4, 0)] else []) ++
    (List.range 1008).flatMap (fun k =>
      let a := p * 4096 + 0x40 + 4 * k
      match s.seatFields a with
      | [] => []
      | x :: _ => (List.range (seatEntries x.1.win)).map (fun e => (a, e))))) ++ [(0x38048, 0)]

/-- The areas of memory that are seated: the active bank, the cut list, the local memory of every engine with a list, the areas that the cut list
names, the delay lines. -/
def State.seatAreas (s : State) : List (Nat × Nat) :=
  [(bankBase s.activeBank, 0x20000), (s.get R.TICK_CUT_ADDR_ADDR, s.get R.TICK_CUT_LEN_LEN)] ++
  ((List.range 8).filter (fun n => s.je.cut.descs.any (fun d => d.engine == n))).map (fun n => (localBase n, 0x80000)) ++
  (s.je.cut.descs.filterMap Desc.area).map (fun a => (a.1, a.2.1)) ++
  s.mix.lines.map (fun (l : Nat × DLine) => (l.2.addr, 4 * l.2.len))

/-- The seated words of an area list, as addresses. -/
def areaWords (l : List (Nat × Nat)) : List Nat := l.flatMap (fun a => (List.range ((a.2 + 3) / 4)).map (fun k => a.1 + 4 * k))

/-- The seated state in KiB (R400): 4 bytes a word of configuration, the areas, and the seat state area of 512 KiB. DEDUCED (log entry 28). -/
def State.seatKib (s : State) : Nat :=
  min 65535 ((4 * s.seatRegs.length + (s.seatAreas.map (·.2)).sum + 0x80000 + 1023) / 1024)

/-- The content of a seated word. -/
def State.seatData (s : State) (k : Nat × Nat) : Nat :=
  if isMemory k.1 then s.word k.1
  else if k.1 = 0x38048 then s.activeBank
  else if k.1 % 4096 = 4 then s.get R.PG_CTRL_EN (k.1 / 4096)
  else (s.seatFields k.1).foldl (fun v x =>
    v + (if x.1.win = .none then s.get x.1 x.2.1 x.2.2 else s.get x.1 k.2 x.2.2) * 2 ^ x.1.lo) 0

/-- The seated words to send: all of them, or those of the pages that have changed since the last were sent (R401). -/
def State.seatDue (s : State) : List (Nat × Nat) :=
  let keys := s.seatRegs ++ (areaWords s.seatAreas).map (fun a => (a, 0))
  match s.brace.sent with
  | none => keys
  | some x =>
    let old := { s with mem := x.mem, regs := x.regs }
    let known (k : Nat × Nat) : Bool := k.1 < 0x100000 || x.areas.any (fun a => decide (a.1 ≤ k.1) && decide (k.1 < a.1 + a.2))
    let page (k : Nat × Nat) : Nat × Nat := (k.1 / 4096, k.2)
    let dirty := ((keys.filter (fun k => !known k || s.seatData k != old.seatData k)).map page).eraseDups
    keys.filter (fun k => dirty.contains (page k))

/-- The active sends the seated words that are due (R401). -/
def State.seatFlush (s : State) : State :=
  { s with brace := { s.brace with sent := some ⟨s.mem, s.regs, s.seatAreas⟩ } }.send
    (.seated (s.seatDue.map (fun (k : Nat × Nat) => ⟨BitVec.ofNat 32 k.1, k.2, BitVec.ofNat 32 (s.seatData k)⟩)))

/-! ### Role changes (R384, R395, R396, R404) -/

/-- A key of the register store that a re-seat may overwrite: an RWS field of a pair-common page, or the active bank. -/
def seatKey (k : Nat) : Bool :=
  let reg := k / 2 ^ 32
  if reg = R.PG_CTRL_EN.key 0 0 / 2 ^ 32 then pairCommon (k / 2 ^ 16 % 2 ^ 16)
  else reg == R.XPM_STATUS_ACTIVE_BANK.key 0 0 / 2 ^ 32 ||
    (pairCommon (reg / 32 / 4096) && (pageFields (reg / 32 / 4096)).any (fun f => f.acc == .rws && f.key 0 0 / 2 ^ 32 == reg))

/-- A commit of pair-common pages. -/
def Commit.common (c : Commit) : Bool := c.pages.any pairCommon

/-- What a re-seat may overwrite, as it stands: that configuration, the crosspoint banks, the shadows and commits of the pair-common pages, the mixer
and the engines. -/
def State.seatSave (s : State) : Saved where
  regs := s.regs.filter (fun e => seatKey e.1)
  mem := s.mem.filter (fun e => decide (0x08000000 ≤ e.1) && decide (e.1 < 0x08040000))
  shadow := s.shadow.filter (fun e => pairCommon (e.1 / 2 ^ 64))
  arms := (s.queue.filter Commit.common).map (·.pages)
  mix := s.mix
  je := s.je
  words := []

/-- What stood before the re-seat, again in force: every seated word, mirrored write and arm that came since is discarded (R404). -/
def State.seatRestore (s : State) (x : Saved) : State :=
  let t := x.words.foldl (fun (u : State) (e : Nat × Nat) => u.setWord e.1 e.2) s
  { t with
    regs := x.regs.foldl (fun (m : Sparse Nat) (e : Nat × Nat) => Sparse.set m e.1 e.2) (t.regs.filter (fun e => !seatKey e.1))
    mem := x.mem.foldl (fun (m : Sparse (BitVec 8)) (e : Nat × BitVec 8) => Sparse.put (memDefault e.1) m e.1 e.2)
      (Sparse.eraseRange t.mem 0x08000000 0x40000)
    shadow := x.shadow.foldl (fun (m : Sparse Pend) (e : Nat × Pend) => Sparse.set m e.1 e.2)
      (t.shadow.filter (fun e => !pairCommon (e.1 / 2 ^ 64)))
    queue := t.queue.filter (fun c => !c.common || x.arms.contains c.pages)
    mix := { x.mix with clipAt := t.mix.clipAt }
    je := { x.je with overruns := t.je.overruns, storm := t.je.storm } }

/-- No engine is stopped by a fault: every one starts anew, from the copy of R283 in a cold start (R404), at the seal in a
re-seat (R402). -/
def State.enginesClear (s : State) : State :=
  s.each 8 (fun t n => (t.put R.JE_STATUS_FAULT 0 n).put R.JE_STATUS_FAULT_CAUSE 0 n)

/-- A cold start begins (R404 steps 1 and 2): what a re-seat brought is discarded, engines reload and run INIT, delay lines
start empty, services start with no grants. -/
def State.coldBegin (s : State) : State :=
  let t := match s.brace.saved with
    | some x => s.seatRestore x
    | none => s
  let t := { t with brace := { t.brace with saved := none } }
  let t := (t.je.cut.descs.foldl State.copyRecord t).enginesClear
  let t := (t.each 8 State.initEngine).enginesStop
  let t := { t with mix := { t.mix with lines := t.mix.lines.map (fun (l : Nat × DLine) => (l.1, { l.2 with run := none })) } }
  t.svcStop.seatAbort 1

/-- A role change takes effect, is recorded and reported (R384), and every function of the unit follows its role (R395). -/
def State.setRole (s : State) (new : Role) (cause : Nat) : State :=
  let old := s.role
  let t := { s with role := new, brace := { s.brace with fresh := false, sealed := false, sealAt := if new == Role.inStep then some s.tg else none } }
  let t := ((t.put R.BRACE_ROLE_CHANGE_FROM (roleCode old)).put R.BRACE_ROLE_CHANGE_TO (roleCode new)).put R.BRACE_ROLE_CHANGE_CAUSE cause
  let t := ((t.put R.BRACE_ROLE_CHANGE_VALID 1).put R.BRACE_ROLE_TICK_TICK (t.tickNum % 2 ^ 32)).bump R.ROLE_CHANGE_CNT
  let t := t.raise EV_ROLE_CHANGE
  let t := if new = .coldStart then t.coldBegin else t.seatRest
  let t := t.when (old == .coldStart) State.mixStart
  let t := t.txStates.ptpRefresh.muteAll
  let t := t.when (old == .active) (fun u => u.put R.AVD_STATUS_ADVERTISING 0)
  let t := t.when (new == .active && t.avdOn && t.flag R.AVD_CTRL_ADP_EN) State.entityAvailable
  t.when (new == .active && (cause == 1 || cause == 2 || cause == 9)) (fun u =>
    u.each 4 (fun w k =>
      if w.flag R.BRACE_RELAY_CFG_EN k && w.get R.BRACE_RELAY_STATUS_PHASE k == 0 then w.setRelay k ⟨4, false, []⟩ else w))

/-- The seal takes effect (R402): the standby holds the active's seated state and runs in step. -/
def State.sealTake (s : State) : State :=
  let t := match s.brace.seat with
    | some x =>
      { s with
        mix := { x.mix with clipAt := s.mix.clipAt }
        je := { x.je with overruns := s.je.overruns, storm := s.je.storm, live := s.je.live }
        svc := { x.svc with wdt := s.svc.wdt } }
    | none => s
  let t := { t with brace := { t.brace with
    saved := none, finalAt := none, seat := none, own := [], ptn := [], cmpFrom := t.tickNum + 1 } }
  let t := (t.put R.BRACE_SEAL_TICK_TICK (t.tickNum % 2 ^ 32)).put R.BRACE_SEAT_INFO_LAST_MS ((t.tg - t.brace.seatAt) / 6)
  (((t.enginesClear.put R.BRACE_MISMATCH_RUN 0).setRole .inStep 7).bump R.RESEAT_CNT).raise EV_RESEAT_DONE

/-- A role change that R384 permits from the present role, in the present device state. -/
def State.roleAllowed (s : State) (w : Role × Nat) : Bool :=
  match s.role, w.1 with
  | .seating, .active => (w.2 == 0 && (s.dev == .ready || s.dev == .run)) || (w.2 != 0 && s.dev == .ready)
  | .seating, .inStep => s.seatPhase == 3
  | .seating, .coldStart => s.dev == .run
  | .coldStart, .active => true
  | .inStep, .active => true
  | .inStep, .seating => true
  | .inStep, .detached => true
  | .detached, .seating => true
  | .detached, .active => true
  | .active, .seating => true
  | _, _ => false

/-- The partner has been heard, on a path that is present, since this unit's last role change (R383). -/
def State.heardNow (s : State) : Bool :=
  (s.flag R.BRACE_STATUS_BRACE_PRESENT || s.flag R.BRACE_STATUS_NET_PRESENT) && s.brace.fresh

/-- The changes that the state itself asks for: a lost partner once a ring port has link (R396), and formation against a
partner of higher device ID that is not ACTIVE (R383). -/
def State.roleDue (s : State) : List (Role × Nat) :=
  let r := s.get R.BRACE_STATUS_PARTNER_ROLE
  (if s.role == .inStep && s.brace.lost && s.ringUp then [(Role.active, 1)] else []) ++
  (if s.role == .seating && s.heardNow && r != 1 && decide (s.get R.SYS_DEVICE_ID_ID < s.get R.BRACE_CFG_PARTNER_ID)
    then [(Role.active, 0)] else [])

/-- The role change of a boundary (R384, R385): the first that is permitted, ACTIVE preferred on a unit in step. -/
def State.roleTick (s : State) : State :=
  let l := (s.brace.want ++ s.roleDue).filter s.roleAllowed
  let t := { s with brace := { s.brace with want := [] } }
  let pick := (if s.role == .inStep then l.find? (fun w => w.1 == .active) else none).or l.head?
  if !s.paired then t
  else match pick with
    | none => t
    | some (.inStep, _) => t.sealTake
    | some (r, c) => t.setRole r c

/-- The pair's part of a boundary: FINAL begins at its tick, and the active sends what is written to seated state (R401); the outputs of a unit that
the seal put in step begin two ticks after it (R402); relays follow. -/
def State.braceTick (s : State) : State :=
  let t := s.roleTick
  let t := t.when (t.seatPhase == 2 && (t.brace.finalAt.map (fun m => decide (m ≤ t.tg))).getD false) (fun u =>
    u.put R.BRACE_SEAT_STATUS_PHASE 3)
  let t := t.when (t.role == .active && t.seatPhase == 3) State.seatFlush
  let t := t.when (t.brace.sealAt.map (· + 2) == some t.tg) State.muteAll
  (t.relaysDue.each 4 State.relayOwed).each 4 State.relayRest

/-- The device leaves READY, RUN and SAFE: a paired unit holds STANDBY_SEATING, in phase IDLE (R383, R384). -/
def State.roleLeave (s : State) : State :=
  if !s.paired then s
  else
    let t := { s with brace := { s.brace with want := [], notice := false, present := none, run := 0 } }
    if t.role == .seating then t.seatRest else t.setRole .seating 11

/-- FORMATION_TIMEOUT (R383): FORM_WAIT ms without an ACTIVE partner heard. -/
def execFormationTimeout (s : State) : Ans := .next <|
  if s.paired && s.role == .seating && (s.dev == .ready || s.dev == .run) &&
      !(s.heardNow && s.get R.BRACE_STATUS_PARTNER_ROLE == 1) then s.wantRole .active 0
  else s

/-- SWAP (R387, R408). -/
def execSwap (who : Initiator) (s : State) : Ans := .next <|
  s.command who 0x60040 (fun t => if t.pairInStep && t.role == .active then t.demote else t.hostErr)

/-! ### Re-seat (R401 to R404) -/

/-- The conditions of R401 as a unit sees them: the seating standby itself, in RUN, or the active of a seating partner that reports RUN. -/
def State.seatReady (s : State) : Bool :=
  let r := s.get R.BRACE_STATUS_PARTNER_ROLE
  let slot := s.sel
  s.flag R.BRACE_STATUS_BRACE_PRESENT && !s.seating &&
  ((s.role == .active && r == 2 && s.brace.ptnDev == devCode .run) ||
    (s.role == .seating && s.dev == .run && r == 1 && s.get R.PLUMB_STATUS_STATE == 2 && decide (slot < 8) && s.get R.REF_CFG_SOURCE slot == 8))

/-- Round 1 begins: the active sends every seated page, and the standby keeps what it held. -/
def State.seatBegin (s : State) : State :=
  if !s.seatReady then s
  else
    let t := { s with brace := { s.brace with
      seatAt := s.tg, finalAt := none, sealed := false, seat := none, sent := none, got := (0, 0)
      saved := if s.role == Role.seating then s.brace.saved.or (some s.seatSave) else s.brace.saved } }
    ((((t.put R.BRACE_SEAT_STATUS_PHASE 2).put R.BRACE_SEAT_STATUS_ROUND 1).put R.BRACE_SEAT_STATUS_DIRTY 0).put
      R.BRACE_SEAT_SIZE_KIB s.seatKib).when (s.role == .active) State.seatFlush

/-- RESEAT_START (R401). -/
def execReseatStart (s : State) : Ans := .next <| s.seatBegin

/-- RESEAT_RETRY (R403): 1 s after a time-out the re-seat starts again from round 1. -/
def execReseatRetry (s : State) : Ans := .next <| s.seatBegin

/-- A word of seated state stored on the standby (R400, R401): memory, or a pair-common page's configuration in force. -/
def State.seatWord (s : State) (m : Mirror) : State :=
  let a := m.addr.toNat
  let v := m.data.toNat
  if isMemory a then s.seatStore a v
  else if a = 0x38048 then s.put R.XPM_STATUS_ACTIVE_BANK (v % 2)
  else if a < 0x100000 && pairCommon (a / 4096) then
    (if a % 4096 = 4 then s.put R.PG_CTRL_EN (v % 2) (a / 4096)
     else (s.mirrorFields m).foldl (fun t x => if x.1.acc == .rws then t.put x.1 (x.1.cut v) x.2.1 x.2.2 else t) s)
  else s

/-- RESEAT_ROUND_DONE (R401): a round has ended with `dirty` pages left, `seated` being what it brought a standby; below 256, FINAL begins
at the next boundary, else the active sends the pages of the next round. -/
def execReseatRoundDone (dirty : Nat) (seated : List Mirror) (s : State) : Ans := .next <|
  if !s.seating then s
  else
    let t := if s.role == .seating then seated.foldl State.seatWord s else s
    if s.seatPhase = 3 then t
    else
      let t := t.put R.BRACE_SEAT_STATUS_DIRTY (min dirty 8191)
      if dirty < 256 then { t with brace := { t.brace with finalAt := some (t.tg + 1) } }
      else (t.put R.BRACE_SEAT_STATUS_ROUND (min 255 (t.get R.BRACE_SEAT_STATUS_ROUND + 1))).when (t.role == .active) State.seatFlush

/-- SEAL_SEND (R402): the active, in a kerf at least 2 ticks after FINAL began. DEDUCED (log entry 142): what has been written to seated state and
not been sent goes ahead of SEAL on the ordered link, so that by then all has been sent. -/
def execSealSend (s : State) : Ans := .next <|
  if s.role == .active && s.seatPhase == 3 && s.win == .kerf && (s.brace.finalAt.map (fun m => decide (m + 2 ≤ s.tg))).getD false then
    let t := s.seatFlush
    { t with brace := { t.brace with sealed := true } }.send (.seal s.tickNum ⟨s.mix, s.je, s.svc⟩)
  else s

/-- SEAL_RX (R402): a standby in FINAL receives SEAL with the seated state; in time, the seal is the boundary that follows the
kerf, or the one just past. A late SEAL leaves it in FINAL. -/
def execSealRx (inTime : Bool) (seat : Seat) (s : State) : Ans := .next <|
  if s.role == .seating && s.seatPhase == 3 && inTime then
    let t := { s with brace := { s.brace with seat := some seat } }
    if s.win == .overhead then t.sealTake else t.wantRole .inStep 7
  else s

/-- RESEAT_TIMEOUT (R403): 400 ms have passed since round 1 began. -/
def execReseatTimeout (s : State) : Ans := .next <| if s.seating then s.seatAbort 2 else s

/-- COLD_START_DONE (R404 step 3): the unit becomes ACTIVE at the next boundary. -/
def execColdStartDone (s : State) : Ans := .next <| if s.role == .coldStart then s.wantRole .active 9 else s

end Sys2Proof.Machine
end

