-- ==== Sys2Proof/Machine/Image.lean ====
section
/-! DEFINITION. The boot header, the firmware blob and the configuration image (R414, R415, R418 to R426): their checks, and the
configuration that an image gives. -/

namespace Sys2Proof.Machine

/-! ### Reasons of SYS_HOLD_REASON (R418) -/

/-- R418. -/
abbrev NO_IMAGE : Nat := 0x10
/-- R418. -/
abbrev BOOT_HDR : Nat := 0x11
/-- R418. -/
abbrev FW_SIG : Nat := 0x12
/-- R418. -/
abbrev FW_ROLLBACK : Nat := 0x13
/-- R418. -/
abbrev IMG_FORMAT : Nat := 0x14
/-- R418. -/
abbrev SECTION_CRC : Nat := 0x15
/-- R418. -/
abbrev IMG_SIG : Nat := 0x16
/-- R418. -/
abbrev PRESET_REASON : Nat := 0x17
/-- R418. -/
abbrev FLASH_REASON : Nat := 0x18
/-- R418. -/
abbrev HOST_LOAD : Nat := 0x19

/-- A failure at a section: its type stands in DETAIL_HI (R418). -/
def atSection (reason ty : Nat) : Bad := (reason, ty % 256 * 65536)

/-- SYS_HOLD_REASON shows a reason with its index. -/
def State.holdReason (s : State) (b : Bad) : State :=
  ((s.put R.SYS_HOLD_REASON_REASON b.1).put R.SYS_HOLD_REASON_DETAIL_HI (b.2 / 65536)).put R.SYS_HOLD_REASON_DETAIL (b.2 % 65536)

/-! ### The boot header (R414) -/

/-- A record of PROT_TABLE holds region values that R81 allows. -/
def State.protRecordOk (s : State) (base n : Nat) : Bool := s.word (base + 0x20 + 12 * n + 4) ≤ 0x100000

/-- The boot header at an address passes R414. -/
def State.headerOk (s : State) (base : Nat) : Bool :=
  let mode := s.le (base + 6) 2
  s.word base == 0x43584248 && s.le (base + 4) 2 == 0x0100 &&
  s.word (base + 0x1A0) == (crc32 (s.bytes base 0x1A0)).toNat &&
  mode % 4 != 3 && bitsAt mode 3 2 == 0 && decide (mode < 4096) && 1 ≤ bitsAt mode 11 8 && bitsAt mode 11 8 ≤ 8 &&
  s.word (base + 8) % 4096 == 0 && 4096 ≤ s.word (base + 0xC) && s.word (base + 0xC) ≤ 0x100000 &&
  s.word (base + 0x10) % 4096 == 0 && s.word (base + 0x14) ≤ 0x400000 && s.le (base + 0x18) 8 == 0 &&
  (List.range 32).all (s.protRecordOk base)

/-- The regions of PROT_TABLE and the LOCK (R75); nothing where LOCK is 1. -/
def State.protLoad (s : State) (base : Nat) : State :=
  if s.flag R.PROT_CTRL_LOCK then s
  else
    let t := s.each 32 (fun t n =>
      let b := s.word (base + 0x20 + 12 * n)
      let p := s.word (base + 0x20 + 12 * n + 8)
      let t := ((t.put R.PROT_BASE_VALID (b % 2) n).put R.PROT_BASE_BASE (b / 4096) n).put R.PROT_SIZE_PAGES
        (s.word (base + 0x20 + 12 * n + 4)) n
      let t := ((t.put R.PROT_PERM_HQ (bitsAt p 1 0) n).put R.PROT_PERM_IB (bitsAt p 3 2) n).put R.PROT_PERM_SP (bitsAt p 5 4) n
      ((t.put R.PROT_PERM_ENG (bitsAt p 7 6) n).put R.PROT_PERM_SDMA (bitsAt p 9 8) n).put R.PROT_PERM_FDMA (bitsAt p 11 10) n)
    { t.put R.PROT_CTRL_LOCK 1 with boot := { t.boot with regions := true } }

/-- The two regions that the boot ROM writes where it has no usable PROT_TABLE and LOCK is 0 (R417): region 1 reaches from the
SYS page to the FLASH page, which are not adjacent. -/
def State.protFallback (s : State) : State :=
  if s.flag R.PROT_CTRL_LOCK then s
  else
    let t := ((s.put R.PROT_BASE_VALID 1 0).put R.PROT_BASE_BASE 0x10000 0).put R.PROT_SIZE_PAGES 0x600 0
    let t := (t.put R.PROT_PERM_HQ 3 0).put R.PROT_PERM_FDMA 1 0
    let t := ((t.put R.PROT_BASE_VALID 1 1).put R.PROT_BASE_BASE 0 1).put R.PROT_SIZE_PAGES 0x72 1
    { t.put R.PROT_PERM_HQ 3 1 with boot := { t.boot with regions := true } }

/-! ### The firmware blob (R415) -/

/-- The failure of the firmware blob of `len` bytes at an address, if it has one. -/
def State.firmwareBad (s : State) (a len : Nat) : Option Nat :=
  let key := s.bytes a 64
  let body := s.word (a + 132)
  if body < 1 ∨ len < 192 + body ∨ !(s.bytes (a + 136) 56).all (fun b => b == 0) then some FW_SIG
  else if Config.sha256 key ≠ s.otp.yamondHash then some FW_SIG
  else if !Config.ecdsaVerify key (s.bytes (a + 64) 64) (Config.sha256 (s.bytes (a + 192) body)) then some FW_SIG
  else if s.word (a + 128) < s.otp.fwMin then some FW_ROLLBACK
  else none

/-! ### Preamble, directory and sections (R419, R420, R426 orders 1 and 2) -/

/-- A directory record. -/
structure Sect where
  type : Nat
  off  : Nat
  len  : Nat
  crc  : Nat
deriving DecidableEq, Repr

/-- The directory of an image, in order of type. -/
def State.sections (s : State) (base : Nat) : List Sect :=
  sortBy (fun (a b : Sect) => decide (a.type ≤ b.type)) ((List.range (s.le (base + 6) 2)).map (fun k =>
    let a := base + 16 + 16 * k
    (⟨s.word a, s.word (a + 4), s.word (a + 8), s.word (a + 12)⟩ : Sect)))

/-- A section of a type. -/
def sect (l : List Sect) (ty : Nat) : Option Sect := l.find? (fun x => x.type == ty)

/-- The length that a section's layout asks for (R422 to R425, R369). -/
def Sect.lenOk (x : Sect) : Bool :=
  match x.type with
  | 1 => x.len == 64
  | 2 => x.len % 8 == 0
  | 3 => x.len % 8 == 0
  | 5 => x.len == 40960
  | 7 => x.len == 65536
  | 15 => x.len == 132
  | _ => true

/-- The first section, from position `pos` on, that does not lie as R419 and its layout ask. -/
def sectsLie (len : Nat) : Nat → List Sect → Option Bad
  | _, [] => none
  | pos, x :: xs =>
    if x.off % 64 ≠ 0 ∨ x.off < pos ∨ len < x.off + x.len ∨ !x.lenOk then some (atSection IMG_FORMAT x.type)
    else sectsLie len (x.off + x.len) xs

/-- Order 1, behind the NO_IMAGE tests of R418. -/
def State.imgLayout (s : State) (base len : Nat) : Option Bad :=
  let count := s.le (base + 6) 2
  let l := s.sections base
  let types := l.map (·.type)
  if len = 0 ∨ s.word base = 0xFFFFFFFF then some (NO_IMAGE, 0)
  else if len < 16 ∨ s.word base ≠ 0x43584344 ∨ s.le (base + 4) 2 ≠ 0x0100 ∨ count < 1 ∨ 16 < count ∨ s.word (base + 12) ≠ 0 ∨
      len < 16 + 16 * count ∨ s.word (base + 8) ≠ (crc32 (s.bytes (base + 16) (16 * count))).toNat then some (IMG_FORMAT, 0)
  else match types.find? (fun ty => !([1, 2, 3, 4, 5, 6, 7, 15].contains ty) || decide (1 < types.count ty)) with
    | some ty => some (atSection IMG_FORMAT ty)
    | none => match [1, 2, 3, 4, 5].find? (fun ty => !types.contains ty) with
      | some ty => some (atSection IMG_FORMAT ty)
      | none => sectsLie len (16 + 16 * count) l

/-- Order 2. -/
def State.imgCrc (s : State) (base : Nat) : Option Bad :=
  ((s.sections base).find? (fun x => (crc32 (s.bytes (base + x.off) x.len)).toNat != x.crc)).map (fun x => atSection SECTION_CRC x.type)

/-! ### The signature (R425, R426 order 3) -/

/-- The key of an index may sign: programmed and not revoked. -/
def State.custKey (s : State) (k : Nat) : Option (BitVec 256) := if bitAt s.otp.revoke k then none else Sparse.find s.otp.custHash k

/-- Order 3: the failure, or whether the image is signed and with which key. -/
def State.imgSig (s : State) (base : Nat) : Except Bad (Bool × Nat) :=
  let l := s.sections base
  match sect l 15 with
  | none => if s.otp.cfgSigReq then .error (IMG_SIG, 0) else .ok (false, 0)
  | some x =>
    let a := base + x.off
    let k := s.word a
    let key := s.bytes (a + 4) 64
    let hash := BitVec.ofNat 256 (beVal (s.bytes (base + ((sect l 1).map (·.off)).getD 0 + 0x18) 32))
    if k < 2 ∧ s.custKey k = some (Config.sha256 key) ∧
        Config.ecdsaVerify key (s.bytes (a + 68) 64) (Config.sha256 (s.bytes base x.off)) ∧ hash = s.boot.hdrHash then .ok (true, k)
    else .error (IMG_SIG, 0)

/-- Orders 1 to 3. -/
def State.imgRead (s : State) (base len : Nat) : Option Bad :=
  match s.imgLayout base len with
  | some b => some b
  | none => match s.imgCrc base with
    | some b => some b
    | none => match s.imgSig base with
      | .error b => some b
      | .ok _ => none

/-! ### HEADER and PRESETS (R422, R423, R426 order 4) -/

/-- HEADER at an address. -/
def State.imgHeader (s : State) (a : Nat) : Option Bad :=
  if s.word a ≠ 0x43584947 ∨ s.le (a + 4) 2 ≠ 0x0100 ∨ 4 ≤ s.le (a + 6) 2 ∨ 1024 ≤ s.le (a + 8) 2 ∨ s.le (a + 0xA) 2 ≠ 0 ∨
      s.le (a + 0x38) 8 ≠ 0 then some (atSection IMG_FORMAT 1)
  else if s.word (a + 0x14) ≠ s.get R.TICK_CATREV_REV then some (CUT_FORMAT, wholeCut)
  else none

/-- A preset record that R423 allows: it names a register with a writable field, on a page that presets may write, with a value
that a host write would carry. -/
def State.presetOk (s : State) (a v : Nat) : Bool :=
  let p := a / 4096
  let fs := s.fieldsAt a
  a % 4 == 0 && a < 0x100000 && pageListed p && !([0x02, 0x03, 0x70, 0x71].contains p) &&
  (if a % 4096 < 0x40 then
    (a % 4096 == 4 && enWritable p && v ≤ 1) || (a % 4096 == 0x18 && pageEvents p != [] && decide (v < 2 ^ (pageEvents p).length)) ||
    (a % 4096 == 0x1c && pageEvents p != [] && decide (v < 4 ^ (pageEvents p).length))
  else
    fs.any (fun x => x.1.acc == .rw || x.1.acc == .rws || x.1.acc == .wo) &&
    !fs.any (fun x => (x.1.acc == .sc || x.1.acc == .w1c) && x.1.cut v != 0) &&
    !s.wholeWriteIgnored a v fs && fieldMask fs v == v)

/-- A preset written by the boot ROM. -/
def State.presetWrite (s : State) (a v : Nat) : State :=
  if a % 4096 < 0x40 then (if a % 4096 = 4 then s.shPut R.PG_CTRL_EN (v % 2) (a / 4096) else (s.writeHeader .boot (a / 4096) (a % 4096) v).1)
  else ((s.fieldsAt a).foldl (fun t x => t.writeField x.1 x.2.1 x.2.2 (x.1.cut v)) (s.baselineWrite a)).when (a == 0x24040) State.avdCtrlWritten

/-- The records of PRESETS from position i on, applied in order; the position of the first that is refused. -/
def State.presets (s : State) (a i : Nat) : Nat → Except Bad State
  | 0 => .ok s
  | n + 1 =>
    let r := s.word (a + 8 * i)
    let v := s.word (a + 8 * i + 4)
    if s.presetOk r v then (s.presetWrite r v).presets a (i + 1) n else .error (PRESET_REASON, i)

/-! ### The configuration of an image (R424, R428) -/

/-- The field of the table that a key of the register store belongs to, if it is an RWS field. -/
def rwsOfKey (k : Nat) : Option Fld :=
  let reg := k / 2 ^ 32
  if reg = R.PG_CTRL_EN.key 0 0 / 2 ^ 32 then some R.PG_CTRL_EN
  else (pageFields (reg / 32 / 4096)).find? (fun f => f.acc == .rws && f.key 0 0 / 2 ^ 32 == reg)

/-- Every RWS field at its reset value in its shadow: what an image sets nothing of. -/
def State.shadowReset (s : State) : State :=
  s.regs.foldl (fun (t : State) (e : Nat × Nat) =>
    match rwsOfKey e.1 with
    | some f => t.shPut f (f.resetAt (e.1 / 2 ^ 16 % 2 ^ 16)) (e.1 / 2 ^ 16 % 2 ^ 16) (e.1 % 2 ^ 16)
    | none => t) { s with shadow := [] }

/-- The values of a window register, word for word, into the shadow of an entry. -/
def State.entryWords (s : State) (page off n : Nat) (ws : List Nat) : State :=
  (ws.zipIdx).foldl (fun t w =>
    ((pageFields page).filter (fun f => f.off == off + 4 * w.2 && f.acc == .rws && !f.reserved)).foldl (fun u f => u.shPut f (f.cut w.1) n) t) s

/-- The offsets of STRX_ENTRY0 and STTX_ENTRY0 on their pages. -/
def entryOff : Nat × Nat := (R.STRX_ENTRY0_SID_LO.off, R.STTX_ENTRY0_SID_LO.off)

/-- The STREAMS section into the shadows. -/
def State.streamWords (s : State) (a : Nat) : State :=
  let rx := s.each 512 (fun t n => t.entryWords 0x20 entryOff.1 n ((List.range 8).map (fun k => s.word (a + 32 * n + 4 * k))))
  rx.each 512 (fun t n => t.entryWords 0x21 entryOff.2 n ((List.range 12).map (fun k => s.word (a + 16384 + 48 * n + 4 * k))))

/-- The XPT section into the shadow bank, with its length (one too many entries stand for any larger number). -/
def State.tableWords (s : State) (a len : Nat) : State :=
  let b := bankBase (1 - s.activeBank)
  let t := { s with mem := (s.mem.eraseRange b 0x20000), mix := { s.mix with written := true } }
  (t.setBytes b (s.bytes a (min len 0x20000))).shPut R.XPM_LEN_LEN (min 16385 (len / 8))

/-- A clip of the CLIPIDX section (R369), if it is present. -/
def State.clipRecord16 (s : State) (a : Nat) : Option Clip :=
  if s.word a = 0 then none else some ⟨s.word a, s.word (a + 4), s.word (a + 8) % 4, s.word (a + 12), false⟩

/-- The pages of the page index. -/
def allPages : List Nat := (List.range 256).filter pageListed

/-- What an image leaves in the shadows, the shadow bank and beside the registers, with its cut list; or its first failure in
orders 4 and 5. -/
def State.imgShadow (s : State) (base : Nat) : Except Bad (State × Cut) :=
  let l := s.sections base
  let at' (ty : Nat) : Nat := base + ((sect l ty).map (·.off)).getD 0
  let len (ty : Nat) : Nat := ((sect l ty).map (·.len)).getD 0
  match s.imgHeader (at' 1) with
  | some b => .error b
  | none => match s.shadowReset.presets (at' 2) 0 (len 2 / 8) with
    | .error b => .error b
    | .ok t => match s.cutAt (at' 4) (len 4) with
      | .error b => .error b
      | .ok cut =>
        let u := (t.tableWords (at' 3) (len 3)).streamWords (at' 5)
        let plan := (sect l 6).bind (fun x => parsePlan (wordsOf (s.bytes (base + x.off) x.len)))
        let clips : Sparse Clip := match sect l 7 with
          | none => []
          | some x => (List.range 4096).filterMap (fun k => (s.clipRecord16 (base + x.off + 16 * k)).map (fun c => (k, c)))
        .ok ({ u with clips := clips, svc := { u.svc with plan := plan } }, cut)

/-- Orders 4 to 11: the image's shadows and cut list, or the first failure. A ZONES section that does not parse fails with
ZONE_REF (R353), once orders 5 to 7 have passed. -/
def State.imgCheck (s : State) (base : Nat) : Except Bad (State × Cut) :=
  match s.imgShadow base with
  | .error b => .error b
  | .ok (t, cut) =>
    let v := t.withShadow allPages
    let k : Scope := ⟨[], true, false, false⟩
    let early := firstFail [fun _ => v.cutOrder k cut, fun _ => v.streamOrder k, fun _ => v.tableOrder k v.commitTable s.forceTable true]
    match early with
    | some f => .error f.1
    | none =>
      if (sect (s.sections base) 6).isSome && v.svc.plan.isNone then .error (ZONE_REF, 0)
      else match v.checkAll k cut v.commitTable s.forceTable true with
        | some f => .error f.1
        | none => .ok (t, cut)

/-- The header's values reported (R422, R446). -/
def State.imgInfo (s : State) (base : Nat) : State :=
  let a := base + ((sect (s.sections base) 1).map (·.off)).getD 0
  let sig := match s.imgSig base with | .ok x => x | .error _ => (false, 0)
  let t := (s.put R.SYS_DEVICE_ID_ID (s.le (a + 8) 2)).put R.SYS_IMG_INFO_AUTOSTART (s.le (a + 6) 2 % 2)
  let t := (t.put R.SYS_IMG_INFO_PAIR_LATENCY (s.le (a + 6) 2 / 2 % 2)).put R.SYS_IMG_INFO_SIGNED (b2n sig.1)
  ((t.put R.SYS_IMG_INFO_KEY_INDEX sig.2).put R.SYS_IMG_BUILD_BUILD (s.word (a + 0x10))).put R.SYS_IMG_SYSTEM_SYSTEM_ID (s.word (a + 0xC))

/-- The single commit of an image that has passed (R426): every page takes its shadow. `t` is the state with the image's shadows,
already in the device state that it leads to; `s` the one before. -/
def State.imgCommit (t s : State) (cut : Cut) : State :=
  let old := { s with shadow := t.shadow, mem := t.mem, mix := t.mix }
  ((t.withShadow allPages).dropShadow allPages).commitWork old allPages (some cut)

end Sys2Proof.Machine
end

