-- ==== Sys2Proof/Machine/Modes.lean ====
section
/-! DEFINITION. The device states (R18, R40 to R43): START, STOP, LOAD and SLEEP, waking, resets, and entering SAFE (R410 to R413,
R427 to R433, R459 to R462). -/

namespace Sys2Proof.Machine

/-! ### What follows the device state (R42) -/

/-- Ports, transmit entries and PTP roles follow the device state. -/
def State.follow (s : State) : State := s.spRefreshAll.txStates.ptpRefresh

/-- The network functions begin: T1S links, the shapers, an admission pass, the seat phase, the PLL-S oscillators, the host's frames. -/
def State.netStart (s : State) : State := ((((s.macCommit s).effAll.admission s).seatRest).pllsPower).hostPoll

/-- Entry into RUN (R429): mixer ramps from 0 (R265), channels armed (R307), rails, streams, whose sample history is empty (R78), ports. -/
def State.runEnter (s : State) : State :=
  let t := { s with dev := .run, op := .none, safeWait := false, str := { s.str with txHist := [] } }
  let t := t.when (!s.netUp) State.netStart
  t.mixStart.follow.armAll.railsEval

/-- RUN ends with every channel at rest (R430): mixer, engines and services stop, and a re-seat is abandoned. -/
def State.readyEnter (s : State) : State :=
  let t := { s with dev := .ready, op := .none }
  let t := t.when t.seating (fun u => u.seatAbort 4)
  t.enginesStop.svcStop.svcPublish.follow.railsEval

/-- HELD is entered or kept: no output, no network function, no frame sent, the clock outputs low, a paired unit seating (R42, R123, R199, R383,
R427), the entity silent (R118). -/
def State.heldEnter (s : State) : State :=
  let t := { s with dev := .held, op := .none }
  if s.dev == .held then t else ((t.diagAbort.roleLeave.follow).railsEval.egrClear.clkoutLow).put R.AVD_STATUS_ADVERTISING 0

/-! ### START and STOP (R429 to R431) -/

/-- START (R429, R431). -/
def execStart (who : Initiator) (s : State) : Ans := .next <|
  s.command who 0x00044 (fun t =>
    if t.op ≠ .none then t.hostErr
    else if t.dev = .ready then { t with op := .starting }
    else if t.dev = .held then { t with op := .startValidating false }
    else t.hostErr)

/-- START_VALIDATION_DONE (R429, R431): orders 4 to 11 on the configuration in force, once no commit is pending. -/
def execStartValidationDone (s : State) : Ans := .next <|
  match s.op with
  | .startValidating cancelled =>
    if s.dev ≠ .held ∨ s.queue ≠ [] then s
    else match s.validateForce with
      | some f => ({ s with op := .none }.holdReason f.1).raise EV_CONFIG_REJECT
      | none => { s with op := if cancelled then .none else .starting }.holdReason (0, 0)
  | _ => s

/-- The device in RUN stops (R430): channels, streams, the entity; an ACTIVE unit demotes itself (R387). -/
def State.stopRun (s : State) (andThen cause bootsel : Nat) : State :=
  let t := { s with op := .stopping andThen cause bootsel }
  t.demote.entityDeparting.stopAll.txStates

/-- STOP (R430, R431): in RUN; while a START in HELD validates, RUN is not entered. -/
def execStop (who : Initiator) (s : State) : Ans := .next <|
  s.command who 0x00044 (fun t =>
    match t.op with
    | .startValidating false => { t with op := .startValidating true }
    | .none => if t.dev = .run then t.stopRun 0 0 0 else t.hostErr
    | _ => t.hostErr)

/-- A channel is at rest: OFF, LATCHED, RETRY_WAIT, or under a commanded diagnostic, which READY permits (R42). -/
def State.atRest (s : State) (n : Nat) : Bool :=
  let st := s.chState n
  st == chOff || st == chLatched || st == chRetry || (st == chDiag && s.diag.cur == some n)

/-! ### Resets (R40, R410 to R413) -/

/-- The bits of SYS_RESET_CAUSE. -/
def causeFld : Nat → Fld
  | 0 => R.SYS_RESET_CAUSE_POR
  | 1 => R.SYS_RESET_CAUSE_PORST
  | 2 => R.SYS_RESET_CAUSE_WRST_PIN
  | 3 => R.SYS_RESET_CAUSE_HOST
  | 4 => R.SYS_RESET_CAUSE_SAFE_SELF
  | _ => R.SYS_RESET_CAUSE_CORE_UV

/-- A field's registers are these keys of the register store. -/
def Fld.owns (f : Fld) (k : Nat) : Bool := k / 2 ^ 32 == f.key 0 0 / 2 ^ 32

/-- The registers that a warm reset keeps (R412): regions and LOCK, the active bank, HOLD_EST, supply and temperature flags with
what they show, baselines, in-band keys, the reset causes, PLL-C's lock, and the level of each pin. -/
def warmKeeps (k : Nat) : Bool :=
  let reg := k / 2 ^ 32
  let page := reg / 32 / 4096
  let off := reg / 32 % 4096
  (page == 0x02 && decide (off < 0x244)) || R.XPM_STATUS_ACTIVE_BANK.owns k ||
  R.PLUMB_HOLD_EST_EST.owns k || R.PLUMB_STATUS_HOLD_VALID.owns k ||
  ((page == 0x04 || page == 0x05) && !R.VIN_DIP_CNT.owns k &&
    (pageFields page).any (fun f => (f.acc == .ro || f.acc == .w1c) && f.owns k)) ||
  (page == 0x5a && 0x180 ≤ off && off < 0x280) ||
  R.SEC_IB_KEY_KEY.owns k || R.SEC_IB_CTRL_KLOCK.owns k || (page == 0x00 && off == 0x64) ||
  ([R.PLL_STATUS_FLOCK, R.PLL_STATUS_PLOCK, R.PLL_STATUS_GATED, R.PLL_STATUS_REF_LOST].any (fun f => f.owns k) &&
    k / 2 ^ 16 % 2 ^ 16 == 1) || R.GPIO_IN_IN.owns k

/-- The memories that a warm reset keeps: shared, local, the banks and flash; the service processor's private region goes. -/
def warmMem (a : Nat) : Bool := !(decide (0x30000000 ≤ a) && decide (a < 0x30100000))

/-- BOOT begins: BOOTSEL as sampled (R411), a new session (R438), PLL-M calibrates (R208). -/
def State.bootEnter (s : State) (bootsel : Nat) : State :=
  let d := { s with dev := .boot }.draw
  ((d.2.put R.SYS_BOOTSEL_SEL bootsel).put R.SEC_IB_SESSION_SESSION d.1).calStart

/-- A warm reset (R412) for a cause; the clock outputs are low in BOOT (R199). -/
def State.warmReset (s : State) (cause bootsel : Nat) : State :=
  let s := s.when s.netUp State.clkoutLow
  let t := { State.reset with
    tg := s.tg
    regs := s.regs.filter (fun e => warmKeeps e.1)
    mem := s.mem.filter (fun e => warmMem e.1)
    plumb := { State.reset.plumb with holdEst := s.plumb.holdEst }
    power := { State.reset.power with hold := s.power.hold, brownCeil := s.power.brownCeil }
    otp := s.otp
    boot := { Boot.init with regions := s.boot.regions }
    porst := s.porst, coreLow := s.coreLow
    free := s.free, wire := s.wire, pending := s.pending }
  (t.put (causeFld cause) 1).bootEnter bootsel

/-- The device as PORST_N low or a VDD_CORE reset leaves it: fuses and flash alone are kept, with the causes of earlier resets where
`causes` says so. -/
def State.offReset (s : State) (causes : Bool) : State :=
  { State.reset with
    tg := s.tg
    regs := s.regs.filter (fun e => causes && decide (e.1 / 2 ^ 32 / 32 = 0x64))
    mem := s.mem.filter (fun e => decide (0x40000000 ≤ e.1))
    otp := s.otp, porst := s.porst, coreLow := s.coreLow
    free := s.free, wire := s.wire, pending := s.pending }

/-- PORST_N_LOW (R40, R410, R413): OFF. Power-on clears the causes and records POR. -/
def execPorstNLow (powerRemoved : Bool) (s : State) : Ans := .next <|
  let t := { s with porst := true }
  if powerRemoved then t.offReset false else (t.offReset true).put R.SYS_RESET_CAUSE_PORST 1

/-- PORST_N_RISE (R40, R411, R486): OFF to BOOT, unless VDD_CORE is below its reset level. -/
def execPorstNRise (bootsel : Fin 4) (iob33 : Bool) (s : State) : Ans := .next <|
  let t := { s with porst := false }.put R.SUP_LOGIC_STATUS_IOB_33 (b2n iob33)
  if !s.porst then s else if t.coreLow || t.dev != .off then t else t.bootEnter bootsel.val

/-- VDD_CORE_RESET (R40, R322, R413, R487): VDD_CORE falls below −8 %, and the device goes to OFF. -/
def execVddCoreReset (s : State) : Ans := .next <|
  if s.dev = .off then { s with coreLow := true }
  else
    let t := { s with coreLow := true }.offReset true
    let t := (t.put R.SYS_RESET_CAUSE_CORE_UV 1).put R.SUP_PWR_STATUS_CORE_RESET_SEEN 1
    let t := t.put R.SUP_LOGIC_STATUS_IOB_33 (s.get R.SUP_LOGIC_STATUS_IOB_33)
    { t with boot := { t.boot with coreUv := true } }

/-- VDD_CORE_RESET_CLEAR (R322): VDD_CORE is above −6 % again; with PORST_N high the device leaves OFF. -/
def execVddCoreResetClear (bootsel : Fin 4) (s : State) : Ans := .next <|
  if !s.coreLow then s
  else
    let t := { s with coreLow := false }
    if t.dev != .off || t.porst then t else t.bootEnter bootsel.val

/-! ### SLEEP (R432, R433) -/

/-- The frames that wait and may leave do so before the ports go down, but for a T1S port under PLCA, which sends in its opportunities alone
(R136, R139; log entry 104). -/
def State.egrFlush (s : State) : State :=
  s.each 8 (fun t p =>
    if t.link p && !(decide (6 ≤ p) && t.flag R.PLCA_STATUS_ACTIVE (p - 6)) then t.t1sSend p t.net.egr.length else t)

/-- The lanes and PHYs that no wake pattern names go down, those of P0 and P1 always (R123). -/
def State.lanesSleep (s : State) : State := s.each 8 (fun t p => if t.wakeNamed p then t else t.linkGone p)

/-- Entry into SLEEP from READY: the notice and ENTITY_DEPARTING are sent, PLL-M, the Plumb unit and the other lanes go off, commits that wait are
rejected (R68), ticks end. -/
def State.sleepEnter (s : State) : State :=
  let t := s.demote.entityDeparting.diagAbort.egrFlush
  let t := { t with dev := .sleep, op := .none, win := .overhead, safeWait := false }
  (t.rejectAll.roleLeave.follow.pllmOff.egrClear.lanesSleep.pllsPower).railsEval

/-- SLEEP (R432): in READY at once, in RUN after a stop; elsewhere, and while another operation runs, ignored. -/
def execSleep (who : Initiator) (s : State) : Ans := .next <|
  s.command who 0x00044 (fun t =>
    if t.op ≠ .none then t.hostErr
    else if t.dev = .ready then t.sleepEnter
    else if t.dev = .run then t.stopRun 2 0 0
    else t.hostErr)

/-- The device begins to leave SLEEP, and records the first source (R433). -/
def State.wakeStart (s : State) (src gp andThen cause bootsel : Nat) : State :=
  ({ s with op := .waking andThen cause bootsel }.put R.SYS_WAKE_CAUSE_SRC src).put R.SYS_WAKE_CAUSE_GP gp

/-- The device sleeps and nothing has woken it yet. -/
def State.asleep (s : State) : Bool := s.dev == .sleep && s.op == .none && !s.plls.clockLost

/-- A warm reset requested by WRST_N or by the host (R412). -/
def State.warmRequest (s : State) (cause bootsel : Nat) : State :=
  match s.dev with
  | .off => s
  | .boot => s
  | .run => match s.op with
    | .stopping _ _ _ => { s with op := .stopping 1 cause bootsel }
    | _ => s.stopRun 1 cause bootsel
  | .sleep => match s.op with
    | .none => s.wakeStart 3 0 1 cause bootsel
    | .waking _ _ _ => { s with op := .waking 1 cause bootsel }
    | _ => s.warmReset cause bootsel
  | _ => s.warmReset cause bootsel

/-- WRST_N_PULSE (R412): a low pulse of at least 1 µs. -/
def execWrstNPulse (bootsel : Fin 4) (s : State) : Ans := .next <| if s.plls.clockLost then s else s.warmRequest 2 bootsel.val

/-- WRESET (R412). BOOT has no transition for it (R40). -/
def execWreset (who : Initiator) (bootsel : Fin 4) (s : State) : Ans := .next <|
  s.command who 0x00044 (fun t => t.warmRequest 3 bootsel.val)

/-- SELF_RESET (R39, R461, R462): PLL-C has held PLOCK for 1 ms after a Truss clock loss. A device in RUN is first in SAFE: the tick
start at which it enters comes before (R40, R459). -/
def execSelfReset (bootsel : Fin 4) (s : State) : Ans := .next <|
  if s.plls.fatalWait && s.dev != .off && s.dev != .run then s.warmReset 4 bootsel.val else s

/-- AUTO_WARM_RESET (R462): AUTO_WRST_S seconds in SAFE with AUTO_WRST set. -/
def execAutoWarmReset (bootsel : Fin 4) (s : State) : Ans := .next <|
  if s.dev = .safe && s.flag R.EVT_CTRL_AUTO_WRST && !s.plls.clockLost then s.warmReset 4 bootsel.val else s

/-- STOP_DONE (R430, R432, R412): every channel is at rest; READY, and from it SLEEP or the warm reset that was asked for. -/
def execStopDone (s : State) : Ans := .next <|
  match s.op with
  | .stopping andThen cause bootsel =>
    if s.dev ≠ .run ∨ s.safeWait ∨ !(List.range 8).all s.atRest then s
    else
      let t := s.readyEnter
      if andThen = 1 then t.warmReset cause bootsel else if andThen = 2 then t.sleepEnter else t
  | _ => s

/-- CRC-16/CCITT-FALSE (R143) over a byte. -/
def crc16Byte (c : BitVec 16) (b : Byte) : BitVec 16 :=
  [7, 6, 5, 4, 3, 2, 1, 0].foldl (fun c k =>
    if c.getLsbD 15 ^^ b.getLsbD k then (c <<< 1) ^^^ 0x1021#16 else c <<< 1) c

/-- CRC-16/CCITT-FALSE (R143). -/
def crc16 (bs : List Byte) : BitVec 16 := bs.foldl crc16Byte 0xFFFF#16

/-- The window bytes that a wake pattern checks. -/
def State.wakeMask (s : State) (n : Nat) : List Nat :=
  let m := s.get R.WAKE_PAT_MASK0_MASK n + 2 ^ 32 * s.get R.WAKE_PAT_MASK1_MASK n + 2 ^ 64 * s.get R.WAKE_PAT_MASK2_MASK n +
    2 ^ 96 * s.get R.WAKE_PAT_MASK3_MASK n
  (List.range 128).filter (fun k => bitAt m k)

/-- A frame passes the rules of R125 on a port: no code error, a length within its limits, a right FCS. -/
def State.frameGood (s : State) (port : Nat) (f : FrameIn) : Bool :=
  !f.symErr && f.fcsOk && decide (64 ≤ f.bytes.length) && decide (f.bytes.length ≤ s.sizeLimit port (tagCount f.bytes))

/-- A frame on a port matches wake pattern n (R142); on a port with MODE 0 none does (R466). -/
def State.wakeMatch (s : State) (port : Nat) (f : FrameIn) (n : Nat) : Bool :=
  let at' := (s.wakeMask n).map (· + s.get R.WAKE_PAT_CFG_OFFSET n)
  s.flag R.WAKE_PAT_CFG_EN n && 2 ≤ port && s.portMode port != 0 && s.bit R.WAKE_PAT_CFG_PORTS (port - 2) n && s.frameGood port f && at' != [] &&
  at'.all (fun i => decide (i < f.bytes.length)) &&
  (crc16 (at'.map (fun i => (f.bytes[i]?).getD 0))).toNat == s.get R.WAKE_PAT_CRC_CHECK n

/-- WAKE_FILTER_MATCH (R144, R433): a frame that matches in SLEEP on a port that is up (R205); the first records itself and wakes the device. DESIGN CHOICE
(log entry 121): one that matches while a pin or the host has begun to wake the device sets WAKE_HIT bits alone. -/
def execWakeFilterMatch (port : Fin 8) (frame : FrameIn) (s : State) : Ans := .next <|
  let hits := (List.range 16).filter (s.wakeMatch port.val frame)
  let waking := match s.op with | .waking _ _ _ => true | _ => false
  if s.dev ≠ .sleep ∨ s.plls.clockLost ∨ !s.flag R.WAKE_CTRL_EN ∨ !s.link port.val then s
  else match hits with
    | [] => s
    | n :: _ =>
      let t := hits.foldl (fun u k => u.putBit R.WAKE_HIT_HIT k true) s
      if waking || s.op ≠ .none then t
      else
        let t := ((t.put R.WAKE_STATUS_PATTERN n).put R.WAKE_STATUS_PORT port.val).put R.WAKE_STATUS_VALID 1
        (t.raise EV_WAKE_MATCH).wakeStart 1 0 0 0 0

/-- GP_WAKE (R433, R482): a pin enabled in SYS_GP_WAKE, and no GPIO output, has held its waking level for 10 µs. -/
def execGpWake (pin : Fin 16) (level : Bool) (s : State) : Ans := .next <|
  if s.asleep && s.bit R.SYS_GP_WAKE_EN pin.val && s.bit R.SYS_GP_WAKE_LEVEL pin.val == level && !s.bit R.GPIO_OE_OE pin.val
  then s.wakeStart 2 pin.val 0 0 0 else s

/-- QSPI_WAKE (R433, R435). -/
def execQspiWake (s : State) : Ans := .next <| if s.asleep then s.wakeStart 3 0 0 0 0 else s

/-- WAKE_DONE (R433, R429, R48): READY, or RUN at the next boundary where AUTOSTART is set, or the warm reset that woke the device;
media time starts again. -/
def execWakeDone (s : State) : Ans := .next <|
  match s.op with
  | .waking andThen cause bootsel =>
    if s.dev ≠ .sleep then s
    else
      let t := { s with op := .none }.plumbStart.pllmAcquire
      if andThen = 1 then { t with dev := .ready }.warmReset cause bootsel
      else if t.flag R.SYS_IMG_INFO_AUTOSTART then { t with op := .starting }
      else ({ t with dev := .ready }.netStart).follow
  | _ => s

/-! ### SAFE (R43, R459) -/

/-- Entry into SAFE at a tick start (R459 step 2): commits rejected, a paired unit seating, mixer, engines and services stopped,
channels ramped down or forced off. -/
def State.safeEnter (s : State) : State :=
  if !s.safeWait then s
  else
    let t := { s with dev := .safe, safeWait := false, op := .none }.rejectAll.entityDeparting
    let t := t.when t.seating (fun u => u.seatAbort 4)
    let t := t.when (t.paired && t.role != .seating) (fun u =>
      { u with brace := { u.brace with want := [] } }.setRole .seating (if u.role = Role.active then 3 else 11))
    let t := t.enginesStop.svcStop.svcPublish.diagAbort
    t.follow.stopAll.railsEval

end Sys2Proof.Machine
end

