-- ==== Sys2Proof/Machine/Boot.lean ====
section
/-! DEFINITION. The boot sequence (R414 to R426), LOAD (R428) and the flash controller's reads that fail (R444). -/

namespace Sys2Proof.Machine

/-! ### The end of BOOT (R416 step 9) -/

/-- BOOT ends: its duration, media time from 0, every slot in the state that it has reached (R46, R192), which is a tick boundary (R215), the report of a VDD_CORE reset (R487), EV_BOOT_DONE. -/
def State.bootEnd (s : State) (us : Nat) : State :=
  let t := ((s.put R.SYS_BOOT_TIME_US (min us (2 ^ 20 - 1))).mediaStart).pllmUngate
  let t := t.when t.boot.coreUv (fun u => { u with boot := { u.boot with coreUv := false } }.raise EV_CORE_RESET)
  t.raise EV_BOOT_DONE

/-- The boot ROM leaves BOOT for HELD (R417). -/
def State.bootHold (s : State) (b : Bad) (us : Nat) : State :=
  ((s.holdReason b).heldEnter.bootEnd us).raise EV_CONFIG_REJECT

/-- A first failure before step 9: how long BOOT took is free. -/
def State.bootFail (s : State) (b : Bad) : State := let d := s.draw; d.2.bootHold b d.1

/-- A failure that leaves the boot ROM with no PROT_TABLE in force: it writes the fallback regions first. -/
def State.bootFailEarly (s : State) (b : Bad) : State := s.protFallback.bootFail b

/-- A flash read of the boot ROM or of a LOAD that failed matters only where the data lies in the flash. -/
def readFails (flashOk : Bool) (a : Nat) : Bool := !flashOk && decide (0x40000000 ≤ a)

/-- The area of a LOAD: in shared memory or in the XIP window, and readable by the flash DMA (R428). -/
def State.loadAreaOk (s : State) (a len : Nat) : Bool :=
  (inSharedArea a len || (0x40000000 ≤ a && a + len ≤ 0x60000000)) && s.areaGranted .fdma false a len

/-! ### The boot ROM's rows -/

/-- The boot header is accepted: FLASH_MODE, the offsets and the hash (R414, R425). -/
def State.headerTake (s : State) : State :=
  let a := s.boot.base
  let mode := s.le (a + 6) 2
  let t := ((s.put R.FL_CFG_MODE (bitsAt mode 1 0)).put R.FL_CFG_DUMMY (bitsAt mode 7 4)).put R.FL_CFG_DIV (bitsAt mode 11 8)
  { t with boot := { t.boot with
      stage := 1, hdrHash := Config.sha256 (s.bytes a 0x1A4)
      fwOffset := s.word (a + 8), fwLen := s.word (a + 0xC), imgOffset := s.word (a + 0x10), imgLen := s.word (a + 0x14) } }

/-- BOOT_ROM_START (R204, R416 steps 1 to 3, R417): once PLL-C has reached PLOCK and its clocks run, memory is initialised and the boot header
read. With a host load selected and nothing loaded, HELD; a loaded set must lie in regions that the flash DMA may read (R417, R428). -/
def execBootRomStart (flashOk : Bool) (s : State) : Ans := .next <|
  if s.dev ≠ .boot ∨ s.boot.stage ≠ 0 ∨ s.op ≠ .none ∨ s.flag R.PLL_STATUS_GATED 1 then s
  else if s.get R.SYS_BOOTSEL_SEL = 1 ∧ !s.boot.fromHost then s.bootFailEarly (HOST_LOAD, 0)
  else if s.boot.fromHost && !s.loadAreaOk s.boot.base (s.get R.SYS_LOAD_LEN_LEN) then s.bootFailEarly (PROT_AREA, 0)
  else if readFails flashOk s.boot.base then s.bootFailEarly (FLASH_REASON, 0)
  else if !s.headerOk s.boot.base then s.bootFailEarly (BOOT_HDR, 0)
  else s.headerTake

/-- FIRMWARE_LOADED (R415, R416 steps 4 and 5): the blob is checked, then the regions are written. -/
def execFirmwareLoaded (flashOk : Bool) (s : State) : Ans := .next <|
  if s.dev ≠ .boot ∨ s.boot.stage ≠ 1 then s
  else
    let a := s.boot.base + s.boot.fwOffset
    if readFails flashOk a then s.bootFailEarly (FLASH_REASON, 0)
    else match s.firmwareBad a s.boot.fwLen with
      | some r => s.bootFailEarly (r, 0)
      | none =>
        let t := s.protLoad s.boot.base
        { t with boot := { t.boot with stage := 2, fwVersion := s.word (a + 128) } }

/-- SERVICE_FIRMWARE_START (R416 step 6). -/
def execServiceFirmwareStart (s : State) : Ans := .next <|
  if s.dev ≠ .boot ∨ s.boot.stage ≠ 2 then s
  else { s with boot := { s.boot with stage := 3, fwValid := true } }.put R.SVC_FW_VERSION_VERSION s.boot.fwVersion

/-- IMAGE_READ_DONE (R416 step 7, R418 to R421, R425): orders 1 to 3 of R426. -/
def execImageReadDone (flashOk : Bool) (s : State) : Ans := .next <|
  if s.dev ≠ .boot ∨ s.boot.stage ≠ 3 then s
  else
    let a := s.boot.base + s.boot.imgOffset
    if s.boot.imgOffset = 0 ∨ s.boot.imgLen = 0 then s.bootFail (NO_IMAGE, 0)
    else if readFails flashOk a then s.bootFail (FLASH_REASON, 0)
    else match s.imgRead a s.boot.imgLen with
      | some b => s.bootFail b
      | none => { s with boot := { s.boot with stage := 4 } }

/-- A configuration image is in force: its header's values, and the commit of every page. -/
def State.imageTaken (s : State) (t : State) (cut : Cut) (a : Nat) (dev : Dev) (op : HostOp) : State :=
  (({ (t.imgInfo a).holdReason (0, 0) with dev := dev, op := op }.imgCommit s cut).follow).seatRest

/-- The image starts the device by itself: AUTOSTART, and BOOTSEL 0, 0 (or 1, 1, which is treated as that) (R411, R429). -/
def State.imgAutostart (s : State) (a : Nat) : Bool :=
  (s.imgInfo a).flag R.SYS_IMG_INFO_AUTOSTART && (s.get R.SYS_BOOTSEL_SEL == 0 || s.get R.SYS_BOOTSEL_SEL == 3)

/-- IMAGE_VALIDATION_DONE (R416 steps 8 and 9, R426): READY, RUN at the next boundary, or HELD. -/
def execImageValidationDone (us : Nat) (s : State) : Ans := .next <|
  if s.dev ≠ .boot ∨ s.boot.stage ≠ 4 then s
  else
    let a := s.boot.base + s.boot.imgOffset
    match s.imgRead a s.boot.imgLen with
    | some b => s.bootHold b us
    | none => match s.imgCheck a with
      | .error b => s.bootHold b us
      | .ok (t, cut) =>
        let auto := s.imgAutostart a
        ((s.imageTaken t.pllmUngate cut a (if auto then .boot else .ready) (if auto then .starting else .none))).bootEnd us

/-! ### LOAD (R428) -/

/-- LOAD: in READY, and in HELD with valid firmware, the image is read next; in HELD without it, the device returns to BOOT to read
a whole set (R40, R417). Shadows and queued commits go. -/
def execLoad (who : Initiator) (s : State) : Ans := .next <|
  s.command who 0x00044 (fun t =>
    if t.op ≠ .none ∨ (t.dev ≠ .ready ∧ t.dev ≠ .held) then t.hostErr
    else
      let a := t.get R.SYS_LOAD_ADDR_ADDR
      let u := { t with shadow := [], queue := [], mix := { t.mix with written := false }, str := { t.str with acmpWait := none } }
      if u.dev = .held ∧ !u.boot.fwValid then
        { u with dev := .boot, boot := { u.boot with base := a, fromHost := true, stage := 0 } }.egrClear
      else { u with op := .loading a (t.get R.SYS_LOAD_LEN_LEN) })

/-- The failure of a LOAD, or what the image gives. -/
def State.loadCheck (s : State) (a len : Nat) (flashOk : Bool) : Except Bad (State × Cut) :=
  if len = 0 then .error (NO_IMAGE, 0)
  else if 0x400000 < len then .error (IMG_FORMAT, 0)
  else if !s.loadAreaOk a len then .error (PROT_AREA, 0)
  else if readFails flashOk a then .error (FLASH_REASON, 0)
  else match s.imgRead a len with
    | some b => .error b
    | none => s.imgCheck a

/-- A LOAD fails: the configuration in force stays and no shadow is pending; HELD. -/
def State.loadFail (s : State) (b : Bad) : State :=
  (({ s with shadow := [], mix := { s.mix with written := false } }.holdReason b).heldEnter).raise EV_CONFIG_REJECT

/-- LOAD_VALIDATION_DONE (R428). -/
def execLoadValidationDone (flashOk : Bool) (s : State) : Ans := .next <|
  match s.op with
  | .loading a len =>
    match s.loadCheck a len flashOk with
    | .error b => s.loadFail b
    | .ok (t, cut) =>
      ((s.imageTaken t cut a .ready .none).put R.SYS_COMMIT_STATUS_REASON 0).raise EV_COMMIT_DONE
  | _ => s

/-! ### Flash reads that time out (R444) -/

/-- A flash read has not completed within 1 ms. -/
def State.flashErr (s : State) : State := (s.put R.FL_STATUS_ERR 1).bump R.FL_ERR_CNT

/-- FLASH_READ_TIMEOUT (R444, R76): at boot the reason is FLASH, a LOAD fails, and a clip read underruns. -/
def execFlashReadTimeout (read : FlashRead) (s : State) : Ans := .next <|
  match read with
  | .boot =>
    let booting := s.dev == .boot && s.op == .none && decide (0x40000000 ≤ s.boot.base)
    if booting && decide (s.boot.stage ≤ 1) then s.flashErr.bootFailEarly (FLASH_REASON, 0)
    else if booting && s.boot.stage == 3 then s.flashErr.bootFail (FLASH_REASON, 0)
    else match s.op with
      | .loading a _ => if 0x40000000 ≤ a then s.flashErr.loadFail (FLASH_REASON, 0) else s
      | _ => s
  | .clip n =>
    let p := (s.inst n.val).play
    if (p.phase = 1 ∨ p.phase = 2) ∧ s.je.cut.descs.any (fun d => d.id == n.val) then s.flashErr.raise EV_CLIP_UNDERRUN else s

end Sys2Proof.Machine
end

