-- ==== Sys2Proof/Machine/Access.lean ====
section
/-! DEFINITION. A word read or written by an initiator: registers with the actions that a write starts, memory and the crosspoint
banks; counters cleared (R474, R480); fences (R71); flash commands (R445) and fuses (R441, R442). -/

namespace Sys2Proof.Machine

/-! ### Counters and W1C bits cleared (R474, R480) -/

/-- Counters of the pages, part 1. -/
def counters0 : List Fld :=
  [R.ENG_PEAK_PEAK, R.TICK_OVERRUN_CNT, R.STRX_STAT2_PKT_CNT, R.STRX_STAT3_DUP_CNT, R.STRX_STAT4_LATE_CNT,
   R.STRX_STAT4_EARLY_CNT, R.STRX_STAT5_UNDERRUN_CNT, R.STRX_STAT6_MISSING_SMP_CNT, R.STRX_STAT7_DUP_ANOM_CNT, R.STRX_STAT7_FMT_ERR_CNT,
   R.STTX_STAT1_PKT_CNT, R.STTX_STAT2_SUPPRESSED_CNT, R.STTX_STAT3_PORT_DROP_CNT, R.AVTP_UNKNOWN_CNT, R.AVTP_HDR_ERR_CNT,
   R.RTP_RX_UNMATCHED_CNT, R.RTP_HDR_ERR_CNT, R.RTP_RTCP_CNT, R.RTP_SSRC_REJ_CNT, R.AVD_AECP_UNSUP_CNT,
   R.MAC_POOL_FILL_BE_PEAK_PCT, R.RX_OK_CNT, R.TX_OK_CNT, R.RUNT_CNT, R.OVERSIZE_CNT,
   R.FCS_ERR_CNT, R.SYM_ERR_CNT, R.STOMP_CNT, R.PAUSE_TX_CNT, R.PAUSE_RX_CNT,
   R.MACCTL_UNK_CNT, R.BE_DROP_CNT, R.RES_DROP_CNT, R.TXERR_CNT, R.STATE_DISC_CNT,
   R.BEACON_LOST_CNT, R.UNEXP_COL_CNT, R.EXCESS_COL_CNT, R.DUP_COORD_CNT, R.BR_LEARN_FULL_CNT]

/-- Counters of the pages, part 2. -/
def counters1 : List Fld :=
  [R.BR_VLAN_DROP_CNT, R.BR_HRX_DROP_CNT, R.BR_EGR_DROP_CNT, R.TSN_TAS_OVERSIZE_CNT, R.TSN_SF_MATCH_CNT,
   R.TSN_SF_SDU_DROP_CNT, R.TSN_SF_METER_DROP_CNT, R.FRER_PASSED_CNT, R.FRER_DISCARDED_CNT, R.FRER_OOO_CNT,
   R.FRER_ROGUE_CNT, R.FRER_LOST_CNT, R.FRER_RESETS_CNT, R.FRER_TAGLESS_CNT, R.PTP_RX_CNT,
   R.PTP_TX_CNT, R.PTP_ERR_CNT, R.PLUMB_CHANGE_CNT, R.PLUMB_HOLD_CNT, R.PLL_UNLOCK_CNT,
   R.PLLM_CEIL_CNT, R.PLLM_FALLBACK_CNT, R.SP_UNDERRUN_CNT, R.SP_OVERRUN_CNT, R.FRAME_ERR_CNT,
   R.CLK_LOSS_CNT, R.MISSING_TICK_CNT, R.MISSING_SMP_CNT, R.ASRC_GRP_UNLOCK_CNT, R.SI_PARITY_CNT,
   R.SI_BLOCK_ERR_CNT, R.XPM_CLIP_TICKS_CNT, R.XPM_ECC_CNT, R.JE_FAULT_CNT, R.JE_ECC_CORR_CNT,
   R.JE_INIT_CNT, R.JE_CLIP_UNDERRUN_CNT, R.OCP_CYCLE_CNT, R.SHUTDOWN_CNT, R.RETRY_CNT]

/-- Counters of the pages, part 3. -/
def counters2 : List Fld :=
  [R.DC_FAULT_CNT, R.RAIL_LIM_CNT, R.SYNC_SLIP_CNT, R.FALLBACK_CNT, R.BST_UV_CNT,
   R.BST_FAULT_CNT, R.BST_IIN_LIM_CNT, R.BST_OVP_CNT, R.VIN_DIP_CNT, R.PILOT_SKIP_CNT,
   R.DEV_CNT, R.SVC_GRANT_CNT, R.SVC_DUCK_CNT, R.SVC_DEFER_CNT, R.SVC_PREEMPT_CNT,
   R.SVC_REFUSE_CNT, R.SVC_EVICT_CNT, R.SVC_WDT_CNT, R.SVC_DENY_CNT, R.SVC_CLIP_BAD_CNT,
   R.AGREE_MISS_CNT, R.DIGEST_MISMATCH_CNT, R.DIVERGENCE_CNT, R.ROLE_CHANGE_CNT, R.RESEAT_CNT,
   R.RESEAT_ABORT_CNT, R.BRACE_FRAME_ERR_CNT, R.NET_HB_RX_CNT, R.DUAL_ACTIVE_CNT, R.RELAY_CNT,
   R.HQ_LATE_CNT, R.HQ_ERR_CNT, R.FL_READ_CNT, R.FL_ERR_CNT]

/-- The counters, and the peak fields that are cleared with them (R79, R145); not those that R474 leaves alone. -/
def counters : List Fld := counters0 ++ counters1 ++ counters2

/-- The CNT_CLR fields. -/
def cntClrs : List Fld :=
  [R.TICK_CTRL_CNT_CLR, R.STRX_CTRL_CNT_CLR, R.STTX_CTRL_CNT_CLR, R.AVTP_CTRL_CNT_CLR, R.RTP_CTRL_CNT_CLR,
   R.MAC_CTRL_CNT_CLR, R.BR_CTRL_CNT_CLR, R.FRER_CTRL_CNT_CLR, R.PTP_CTRL_CNT_CLR, R.PLUMB_CTRL_CNT_CLR,
   R.PLL_CTRL_CNT_CLR, R.SP_CTRL_CNT_CLR, R.ASRC_CTRL_CNT_CLR, R.SI_CTRL_CNT_CLR, R.XPM_CTRL_CNT_CLR,
   R.JE_CTRL_CNT_CLR, R.PCH_CTRL_CNT_CLR, R.BST_CTRL_CNT_CLR, R.DIAG_CMD_CNT_CLR, R.SVC_CTRL_CNT_CLR,
   R.BRACE_CTRL_CNT_CLR]

/-- A field stands on a page. -/
def Fld.onPage (f : Fld) (p : Nat) : Bool := decide (f.page ≤ p) && decide (p < f.page + f.npages)

/-- Every instance of a field on a page back at its reset value. -/
def State.clearFld (s : State) (p : Nat) (f : Fld) : State :=
  if !f.onPage p then s
  else { s with regs := s.regs.filter (fun e =>
    !(f.owns e.1 && (f.npages == 1 || e.1 / 2 ^ 16 % 2 ^ 16 == p - f.page))) }

/-- The counters of a page cleared, with the clip counters in memory for XPM (R268). -/
def State.clearCounters (s : State) (p : Nat) : State :=
  let t := counters.foldl (fun u f => u.clearFld p f) s
  t.when (p == 0x38 && t.get R.XPM_CLIP_BASE_BASE != 0) (fun u =>
    { u with mem := u.mem.eraseRange (u.get R.XPM_CLIP_BASE_BASE * 4096) 0x2000 })

/-- SRST of a page: counters and W1C bits at offsets 0x040 and above. -/
def State.srst (s : State) (p : Nat) : State :=
  ((pageFields p).filter (fun f => f.acc == .w1c)).foldl
    (fun t f => if f.rst = 0 then t.clearFld p f else t.put f 0) (s.clearCounters p)

/-- The CNT_CLR field of a page, if it has one. -/
def cntClrOf (p : Nat) : Option Fld := cntClrs.find? (fun f => f.onPage p)

/-- CNT_CLR (R474). -/
def execCntClr (who : Initiator) (page : Fin 256) (s : State) : Ans := .next <|
  match cntClrOf page.val with
  | none => s
  | some f => s.command who (page.val * 4096 + f.off) (fun t => t.clearCounters page.val)

/-- SRST of a page by a write of its header: a reserved page ignores it with EV_HOST_ERR (R16). -/
def State.srstWrite (s : State) (p : Nat) : State := if pageListed p then s.srst p else s.hostErr

/-- SRST (R474). -/
def execSrst (who : Initiator) (page : Fin 256) (s : State) : Ans := .next <|
  s.command who (page.val * 4096 + 4) (fun t => t.srstWrite page.val)

/-! ### Fences (R71) -/

/-- The fences of the initiators. -/
def State.setFence (s : State) (who : Initiator) (l : List (Nat × Peer)) : State :=
  { s with host := { s.host with fences := Sparse.set s.host.fences (whoIdx who) l } }

/-- A fence opens, or an open one covers the writes issued since. -/
def State.fenceStart (s : State) (who : Initiator) : State :=
  s.setFence who ((Sparse.find s.host.fences (whoIdx who)).getD [])

/-- FENCE_START (R71). -/
def execFenceStart (who : Initiator) (s : State) : Ans := .next <| s.command who 0x000c0 (fun t => t.fenceStart who)

/-! ### Flash commands (R445, R449) -/

/-- The n bytes from the start of FL_BUF. -/
def State.flBuf (s : State) (n : Nat) : List Byte :=
  (List.range n).map (fun k => BitVec.ofNat 8 (s.get R.FL_BUF_DATA (k / 4) / 256 ^ (k % 4)))

/-- Bytes into FL_BUF from byte k on. -/
def State.flFill (s : State) (k : Nat) : List Byte → State
  | [] => s
  | b :: bs =>
    let w := s.get R.FL_BUF_DATA (k / 4)
    (s.put R.FL_BUF_DATA (w - w / 256 ^ (k % 4) % 256 * 256 ^ (k % 4) + b.toNat * 256 ^ (k % 4)) (k / 4)).flFill (k + 1) bs

/-- A raw flash command goes to the flash: ignored with EV_HOST_ERR while one runs. -/
def State.flashStart (s : State) (write : Bool) (opcode ab len : Nat) : State :=
  if s.flag R.FL_STATUS_BUSY then s.hostErr
  else
    let t := ((s.put R.FL_CMD_OPCODE opcode).put R.FL_CMD_ADDR_BYTES ab).put R.FL_CMD_LEN len
    let t := (t.put R.FL_CMD_WRITE (b2n write)).put R.FL_STATUS_BUSY 1
    t.send (.flash opcode ab (if ab = 0 then 0 else t.get R.FL_CMD_ADDR_ADDR) (if write then t.flBuf len else []))

/-- FLASH_CMD_FILL (R445). -/
def execFlashCmdFill (who : Initiator) (opcode : Fin 256) (addrBytes : Fin 3) (len : Fin 257) (s : State) : Ans := .next <|
  s.command who 0x71048 (fun t => t.flashStart false opcode.val addrBytes.val len.val)

/-- FLASH_CMD_SEND (R445). -/
def execFlashCmdSend (who : Initiator) (opcode : Fin 256) (addrBytes : Fin 3) (len : Fin 257) (s : State) : Ans := .next <|
  s.command who 0x71048 (fun t => t.flashStart true opcode.val addrBytes.val len.val)

/-- FLASH_CMD_DONE (R445): BUSY clears; a command with WRITE 0 has filled FL_BUF; `changed` names by flash offset the bytes that the
flash now holds otherwise. -/
def execFlashCmdDone (data : List Byte) (changed : List (Nat × Byte)) (s : State) : Ans := .next <|
  if !s.flag R.FL_STATUS_BUSY then s
  else
    let t := s.put R.FL_STATUS_BUSY 0
    let t := t.when (!t.flag R.FL_CMD_WRITE) (fun u => u.flFill 0 (data.take (u.get R.FL_CMD_LEN)))
    changed.foldl (fun u e => if e.1 < 0x20000000 then u.setByte (0x40000000 + e.1) e.2 else u) t

/-! ### Fuses (R441, R442) -/

/-- An OTP command starts: in READY or HELD while none runs, else it is ignored with EV_HOST_ERR. -/
def State.otpStart (s : State) (op index : Nat) : State :=
  let t := (s.put R.SEC_OTP_CMD_OP op).put R.SEC_OTP_CMD_INDEX index
  if s.flag R.SEC_OTP_CMD_BUSY then s.hostErr
  else if op = 0 ∨ (s.dev ≠ .ready ∧ s.dev ≠ .held) then t.hostErr
  else t.put R.SEC_OTP_CMD_BUSY 1

/-- The address of SEC_OTP_CMD. -/
def otpAddr : Nat := 0x03050

/-- OTP_CFG_SIG_REQ (R442). -/
def execOtpCfgSigReq (who : Initiator) (s : State) : Ans := .next <| s.command who otpAddr (fun t => t.otpStart 1 0)

/-- OTP_CUST_KEY_HASH (R442). -/
def execOtpCustKeyHash (who : Initiator) (index : Fin 4) (s : State) : Ans := .next <|
  s.command who otpAddr (fun t => t.otpStart 2 index.val)

/-- OTP_REVOKE_KEY (R442). -/
def execOtpRevokeKey (who : Initiator) (index : Fin 4) (s : State) : Ans := .next <|
  s.command who otpAddr (fun t => t.otpStart 3 index.val)

/-- OTP_IB_KEY (R442). -/
def execOtpIbKey (who : Initiator) (index : Fin 4) (s : State) : Ans := .next <|
  s.command who otpAddr (fun t => t.otpStart 4 index.val)

/-- OTP_RAISE_FW_MIN (R442). -/
def execOtpRaiseFwMin (who : Initiator) (s : State) : Ans := .next <| s.command who otpAddr (fun t => t.otpStart 5 0)

/-- OTP_JTAG_DISABLE (R442). -/
def execOtpJtagDisable (who : Initiator) (s : State) : Ans := .next <| s.command who otpAddr (fun t => t.otpStart 6 0)

/-- The number in SEC_OTP_DATA0 to SEC_OTP_DATA(n − 1), word 0 least significant. -/
def State.otpData (s : State) (n : Nat) : Nat :=
  (List.range n).foldl (fun a i => a + s.get R.SEC_OTP_DATA_DATA i * 2 ^ (32 * i)) 0

/-- A customer key is programmed and not revoked. -/
def Otp.usable (o : Otp) (k : Nat) : Bool := (Sparse.find o.custHash k).isSome && !bitAt o.revoke k

/-- What an OTP command that the fuses accept leads to: the result code and the fuses. -/
def State.otpApply (s : State) (op k : Nat) : Nat × Otp :=
  let o := s.otp
  match op with
  | 1 => if o.usable 0 || o.usable 1 then (0, { o with cfgSigReq := true }) else (3, o)
  | 2 =>
    if 2 ≤ k then (2, o)
    else if (Sparse.find o.custHash k).isSome then (1, o)
    else (0, { o with custHash := Sparse.set o.custHash k (BitVec.ofNat 256 (s.otpData 8)) })
  | 3 =>
    if 2 ≤ k then (2, o)
    else if o.usable k && !o.usable (1 - k) then (3, o)
    else (0, { o with revoke := setBit o.revoke k true })
  | 4 =>
    if (Sparse.find o.ibKey k).isSome then (1, o)
    else (0, { o with ibKey := Sparse.set o.ibKey k (BitVec.ofNat 128 (s.otpData 4)) })
  | 5 => if o.fwMin < 32 then (0, { o with fwMin := o.fwMin + 1 }) else (2, o)
  | _ => (0, { o with jtag := true })

/-- OTP_CMD_DONE (R442): the command completes; `ok` false is a programming failure, which leaves the fuses as they were. -/
def execOtpCmdDone (ok : Bool) (s : State) : Ans := .next <|
  if !s.flag R.SEC_OTP_CMD_BUSY then s
  else
    let r := s.otpApply (s.get R.SEC_OTP_CMD_OP) (s.get R.SEC_OTP_CMD_INDEX)
    let t := s.put R.SEC_OTP_CMD_BUSY 0
    if r.1 = 0 ∧ !ok then t.put R.SEC_OTP_RESULT_RESULT 2
    else { t.put R.SEC_OTP_RESULT_RESULT r.1 with otp := r.2 }

/-! ### The actions that a register write starts -/

/-- What a command's own row leaves of the state. -/
def after (x : Ans) (s : State) : State :=
  match x with
  | .next t => t
  | .fault _ => s
  | .refused _ => s

/-- The action of an SC field of page `p` set by a write of v. A warm reset samples BOOTSEL, whose level is free here. -/
def State.scAction (s : State) (who : Initiator) (p v : Nat) (f : Fld) : State :=
  if cntClrs.contains f then s.clearCounters p
  else if f = R.TICK_CTRL_REEPOCH then after (execReepoch who s) s
  else if f = R.SYS_GROUP_COMMIT_GO then after (execGroupCommit who s) s
  else if f = R.SYS_CTRL_START then after (execStart who s) s
  else if f = R.SYS_CTRL_STOP then after (execStop who s) s
  else if f = R.SYS_CTRL_LOAD then after (execLoad who s) s
  else if f = R.SYS_CTRL_WRESET then let d := s.draw; d.2.warmRequest 3 (d.1 % 4)
  else if f = R.SYS_CTRL_SLEEP then after (execSleep who s) s
  else if f = R.MDIO_CMD_GO then s.mdioStart (R.MDIO_CMD_OP.cut v) (R.MDIO_CMD_PHYAD.cut v) (R.MDIO_CMD_REG_DEV.cut v)
  else if f = R.BR_FDB_CMD_GO then s.fdbStart (R.BR_FDB_CMD_OP.cut v)
  else if f = R.CLKOUT_ALIGN_ALIGN then after (execClkoutAlign who ⟨f.cut v % 64, Nat.mod_lt _ (by decide)⟩ s) s
  else if f = R.PLLM_CAL_CAL then after (execPllmCal who s) s
  else if f = R.XPM_CTRL_COPY then after (execXpmCopy who s) s
  else if f = R.DPOOL_CTRL_REPACK then after (execDpoolRepack who s) s
  else if f = R.PCH_CTRL_CLEAR then after (execPchClear who ⟨p % 8, Nat.mod_lt _ (by decide)⟩ s) s
  else if f = R.BST_CTRL_CLEAR then after (execBstClear who ⟨p % 2, Nat.mod_lt _ (by decide)⟩ s) s
  else if f = R.DIAG_CMD_GO then s.diagGo (R.DIAG_CMD_OP.cut v) (R.DIAG_CMD_CH_MASK.cut v)
  else if f = R.BRACE_CTRL_SWAP then after (execSwap who s) s
  else if f = R.SEC_OTP_CMD_GO then s.otpStart (R.SEC_OTP_CMD_OP.cut v) (R.SEC_OTP_CMD_INDEX.cut v)
  else if f = R.FL_CMD_GO then
    s.flashStart (R.FL_CMD_WRITE.cut v == 1) (R.FL_CMD_OPCODE.cut v) (R.FL_CMD_ADDR_BYTES.cut v) (R.FL_CMD_LEN.cut v)
  else s

/-- A write of a register at offset 0x040 or above was ignored whole. -/
def State.writeLost (s : State) (who : Initiator) (a v : Nat) : Bool :=
  let fs := s.fieldsAt a
  fs.any (fun x => x.1.acc == .rwl) && !(who = Initiator.boot && !s.flag R.PROT_CTRL_LOCK) || s.wholeWriteIgnored a v fs

/-- A write of RWS fields of a pair-common page that reached its shadow goes to the standby, with the entry behind a window (R391). -/
def State.mirrorWrite (s t : State) (who : Initiator) (a v : Nat) : State :=
  let fs := (s.fieldsAt a).filter (fun x => x.1.acc == .rws)
  let p := a / 4096
  let taken := (a % 4096 == 4 && enWritable p) || (0x40 ≤ a % 4096 && !fs.isEmpty && !s.writeLost who a v)
  if pairCommon p && taken && !s.pagePending p && !s.pairBlocked who p then
    t.mirrorOut who a (((fs.find? (fun x => x.1.win != .none)).map (·.2.1)).getD 0) v
  else t

/-- A permitted write of a register word with everything that it starts (R475): the fields, then the actions of its SC bits in
rising bit order. -/
def State.regStore (s : State) (who : Initiator) (a v : Nat) : State :=
  let p := a / 4096
  let b := if s.writeLost who a v then s else s.baselineWrite a
  let t := b.mirrorWrite (b.regWrite who a v) who a v
  if !pageListed p then t
  else if a % 4096 < 0x40 then
    (if a % 4096 = 4 then t.when (bitAt v 1) (fun u => u.srst p)
     else if a % 4096 = 0xc then t.when (bitAt v 0) (fun u => u.armPage who p)
     else t)
  else if s.writeLost who a v then t
  else
    let fs := s.fieldsAt a
    let has (f : Fld) : Bool := fs.any (fun x => x.1 == f)
    let t := t.when (has R.SYS_FENCE_START && bitAt v 0) (fun u => u.fenceStart who)
    let t := t.when (has R.AVD_CTRL_EN) State.avdCtrlWritten
    let t := t.when (has R.BR_HTX_TAIL_INDEX) (fun u => u.htxTail (R.BR_HTX_TAIL_INDEX.cut v))
    (s.scActions a v).foldl (fun u x => u.scAction who p v x.1) t

/-! ### Memory -/

/-- The shadow-bank alias resolved (R257). -/
def State.memAddr (s : State) (a : Nat) : Nat :=
  if 0x08040000 ≤ a ∧ a < 0x08060000 then bankBase (1 - s.activeBank) + (a - 0x08040000) else a

/-- A permitted write of a word of memory: the active crosspoint bank is not writable, and the shadow bank not while it is copied,
armed or another writer's (R62, R257 to R259, R391). -/
def State.memStore (s : State) (who : Initiator) (a v : Nat) : State :=
  let m := s.memAddr a
  if 0x08000000 ≤ m ∧ m < 0x08040000 then
    if (m - 0x08000000) / 0x20000 = s.activeBank ∨ s.flag R.XPM_STATUS_COPY_BUSY ∨ s.pagePending 0x38 ∨ s.svcBlocked who 0x38 ∨
        s.pairBlocked who 0x38 then s.hostErr
    else { s.setWord m v with mix := { s.mix with written := true } }.mirrorOut who m 0 v
  else s.setWord m v

/-! ### Words -/

/-- A word written by an initiator (R74 to R76, R470, R475): to a register or to memory. -/
def State.writeWord (s : State) (who : Initiator) (a v : Nat) : State :=
  s.command who a (fun t => if a < 0x100000 then t.regStore who a v else t.memStore who a v)

/-- An address of the seat state area of a paired unit (R400). -/
def State.inSeatArea (s : State) (a : Nat) : Bool :=
  let b := s.get R.BRACE_STATE_BASE_BASE * 4096
  s.paired && decide (b ≤ a) && decide (a < b + 0x80000)

/-- A word read by an initiator, and the state after the read: latches taken, a denied read recorded (R76, R475, R478). The seat state area of a
paired unit holds what R400 lists, in a layout that the spec does not give: a word of it is a free value (log entry 79). -/
def State.readWord (s : State) (who : Initiator) (a : Nat) : Nat × State :=
  if !s.permits (clsOf who) false a then (0, s.deny (clsOf who) false a)
  else if !s.pageServed a then (0, s.raise EV_HOST_ERR)
  else if a < 0x100000 then (s.regWord who a, s.latchRead a)
  else if s.inSeatArea a then s.draw
  else (s.word (s.memAddr a), s)

/-- REGISTER_WRITE (R475). -/
def execRegisterWrite (who : Initiator) (addr data : Word) (s : State) : Ans := .next <| s.writeWord who addr.toNat data.toNat

end Sys2Proof.Machine
end

