-- ==== Sys2Proof/Machine/HostPath.lean ====
section
/-! DEFINITION. The host QSPI target (R434 to R436), Ocdor in-band access (R437 to R440, R454), fences completing (R71), and the
GPIO pins (R481). -/

namespace Sys2Proof.Machine

/-! ### Host QSPI (R434 to R436) -/

/-- A transaction is rejected whole (R436). -/
def State.qspiReject (s : State) : State :=
  ((s.put R.HQ_STATUS_ALIGN_ERR 1).bump R.HQ_ERR_CNT).raise EV_HOST_ERR

/-- A word cut short by HQ_CS_N (R436). -/
def State.qspiCut (s : State) (b : Bool) : State := s.when b (fun t => (t.put R.HQ_STATUS_PARTIAL 1).bump R.HQ_ERR_CNT)

/-- The word at a distance of k words from an address; addresses wrap at the top of the address space. -/
def wordAddr (a k : Nat) : Nat := (a + 4 * k) % 2 ^ 32

/-- Words k to k + n − 1 of a read: a word of memory that is not ready reads 0 (R435). -/
def State.qspiWords (s : State) (tx : QspiTx) (k : Nat) : Nat → List Nat × State
  | 0 => ([], s)
  | n + 1 =>
    let a := wordAddr tx.addr.toNat k
    let r := s.readWord .hq a
    let late := tx.late.contains k && decide (0x100000 ≤ a)
    let t := r.2.when late (fun u => (u.put R.HQ_STATUS_LATE 1).bump R.HQ_LATE_CNT)
    let rest := t.qspiWords tx (k + 1) n
    ((if late then 0 else r.1) :: rest.1, rest.2)

/-- A read transaction with the opcode of its row. -/
def State.qspiRead (s : State) (code : Nat) (tx : QspiTx) : State :=
  if !s.hears .hq then s
  else if tx.opcode.toNat ≠ code ∨ tx.addr.toNat % 4 ≠ 0 then s.qspiReject
  else
    let r := s.qspiWords tx 0 tx.count
    (r.2.send (.qspi (r.1.map (BitVec.ofNat 32 ·)))).qspiCut tx.partialWord

/-- Words written from an address on, in order (R70). -/
def State.writeWords (s : State) (who : Initiator) (a k : Nat) : List Word → State
  | [] => s
  | w :: ws => (s.writeWord who (wordAddr a k) w.toNat).writeWords who a (k + 1) ws

/-- A write transaction with the opcode of its row. -/
def State.qspiWrite (s : State) (code : Nat) (tx : QspiTx) : State :=
  if !s.hears .hq then s
  else if tx.opcode.toNat ≠ code ∨ tx.addr.toNat % 4 ≠ 0 then s.qspiReject
  else (s.writeWords .hq tx.addr.toNat 0 tx.words).qspiCut tx.partialWord

/-- QSPI_READ (R435, R436). -/
def execQspiRead (tx : QspiTx) (s : State) : Ans := .next <| s.qspiRead 0x0B tx

/-- QSPI_WRITE (R435, R436). -/
def execQspiWrite (tx : QspiTx) (s : State) : Ans := .next <| s.qspiWrite 0x02 tx

/-- QSPI_QREAD (R435, R436). -/
def execQspiQread (tx : QspiTx) (s : State) : Ans := .next <| s.qspiRead 0xEB tx

/-- QSPI_QWRITE (R435, R436). -/
def execQspiQwrite (tx : QspiTx) (s : State) : Ans := .next <| s.qspiWrite 0x38 tx

/-- QSPI_STATUS (R435): BUSY reads 0, since each write is whole before the next command; ERR; SLEEP. -/
def execQspiStatus (s : State) : Ans := .next <|
  if s.dev == .off || s.plls.clockLost then s
  else
    let err := s.flag R.HQ_STATUS_LATE || s.flag R.HQ_STATUS_ALIGN_ERR || s.flag R.HQ_STATUS_PARTIAL
    s.send (.qspiStatus (BitVec.ofNat 8 (2 * b2n err + 4 * b2n (s.dev == .sleep))))

/-! ### Ocdor (R437 to R440) -/

/-- The bytes that a frame's tag covers. -/
def ocdorCovered (f : OcdorFrame) : List Byte :=
  ocdorBytes f.version.toNat f.op.toNat f.seq.toNat f.slot.toNat f.status.toNat f.count f.addr.toNat f.session.toNat f.replay.toNat
    (f.data.map (·.toNat))

/-- The tag of a frame is right under a usable slot. -/
def State.tagOk (s : State) (f : OcdorFrame) : Bool :=
  let k := f.slot.toNat
  decide (k < 4) && s.bit R.SEC_IB_CTRL_SLOT_EN k &&
  (match s.ibKey k with
   | some x => Config.cmac64 x (ocdorCovered f) == f.tag
   | none => false)

/-- The UDP port of Ocdor (R437). -/
def ocdorUdp : Nat := 47740

/-- The device's own frame on a slot to a peer (R437 to R439): its operation, status and words, with the session and the next count, on the
peer's port, with its VID and PCP, or as a datagram to its address. DESIGN CHOICE (log entry 89): a datagram carries DSCP 0 and UDP checksum
0, which UDP over IPv4 allows, and the TTL of RTP_IFMASK. -/
def State.ocdorSend (s : State) (k : Nat) (to' : Peer) (op seq status addr : Nat) (data : List Nat) : State :=
  let n := s.slotCount k
  let h : EthHead := ⟨to'.mac, s.portMac to'.port, to'.vlan⟩
  let ip : Option IpHead := to'.udp.map (fun u =>
    ⟨s.get R.RTP_IFMASK_TTL, 0, s.get R.RTP_IPADDR_ADDR, u.1, ocdorUdp, u.2, 0⟩)
  n.2.submit to'.port (s.tagTc h) (s.ocdorWire h ip k op seq status addr n.1 data)

/-- Who sent a frame (R439). -/
def ocdorPeer (f : OcdorFrame) : Peer :=
  ⟨f.port.val, f.src.toNat, f.vlan.map (fun v => (v.1.val, v.2.val)), f.udp.map (fun u => (u.1.toNat, u.2.toNat))⟩

/-- The response to a frame. -/
def State.ocdorAnswer (s : State) (f : OcdorFrame) (status : Nat) (data : List Nat) : State :=
  s.ocdorSend f.slot.toNat (ocdorPeer f) (f.op.toNat % 16 + 128) f.seq.toNat status f.addr.toNat data

/-- The address of a frame is unaligned, its COUNT over 256, its version unknown, or its operation not that of its row (R440). -/
def ocdorBad (f : OcdorFrame) (op : Nat) : Bool :=
  f.version != 1 || f.op.toNat != op || f.addr.toNat % 4 != 0 || decide (256 < f.count)

/-- A request received (R438 to R440): dropped where its tag fails, answered STALE or BAD_REQUEST, else carried out by g. In BOOT and HELD
the MAC discards every frame and sends nothing (R123), so none reaches Ocdor there: R42's No is held to there, and STATUS 4 is never sent (log
entry 100). -/
def State.ocdor (s : State) (f : OcdorFrame) (op : Nat) (g : State → State) : State :=
  if !s.netUp || s.plls.clockLost then s
  else if !s.tagOk f then (s.bump R.SEC_IB_AUTH_FAIL_CNT).raise EV_INBAND_AUTH_FAIL
  else
    let k := f.slot.toNat
    let fresh := f.session.toNat == s.get R.SEC_IB_SESSION_SESSION &&
      (match (s.slot k).last with | some n => decide (n < f.replay.toNat) | none => true)
    if !fresh then ((s.bump R.SEC_IB_REPLAY_CNT).raise EV_INBAND_AUTH_FAIL).ocdorAnswer f 3 []
    else
      let t := s.setSlot k { s.slot k with last := some f.replay.toNat }
      if ocdorBad f op then t.ocdorAnswer f 2 []
      else g t

/-- Words k to k + n − 1 of a READ, and whether one was denied. -/
def State.ibWords (s : State) (who : Initiator) (a k : Nat) : Nat → (List Nat × Bool) × State
  | 0 => (([], false), s)
  | n + 1 =>
    let b := wordAddr a k
    let no := !s.permits (clsOf who) false b
    let r := s.readWord who b
    let rest := r.2.ibWords who a (k + 1) n
    ((r.1 :: rest.1.1, no || rest.1.2), rest.2)

/-- The slot of a frame as an initiator. -/
def ocdorWho (f : OcdorFrame) : Initiator := .ib ⟨f.slot.toNat % 4, Nat.mod_lt _ (by decide)⟩

/-- OCDOR_READ (R439, R440). -/
def execOcdorRead (f : OcdorFrame) (s : State) : Ans := .next <|
  s.ocdor f 1 (fun t =>
    let r := t.ibWords (ocdorWho f) f.addr.toNat 0 f.count
    r.2.ocdorAnswer f (b2n r.1.2) r.1.1)

/-- OCDOR_WRITE (R439, R440): STATUS 1 where a word is denied; the others stand. -/
def execOcdorWrite (f : OcdorFrame) (s : State) : Ans := .next <|
  s.ocdor f 2 (fun t =>
    let no := (List.range f.count).any (fun k => !t.permits (clsOf (ocdorWho f)) true (wordAddr f.addr.toNat k))
    (t.writeWords (ocdorWho f) f.addr.toNat 0 (f.data.take f.count)).ocdorAnswer f (b2n no) [])

/-- OCDOR_FENCE (R71, R439): answered when the fence completes. -/
def execOcdorFence (f : OcdorFrame) (s : State) : Ans := .next <|
  s.ocdor f 3 (fun t =>
    t.setFence (ocdorWho f) (((Sparse.find t.host.fences (whoIdx (ocdorWho f))).getD []) ++ [(f.seq.toNat, ocdorPeer f)]))

/-- OCDOR_SUBSCRIBE (R439): the slot's event mask is replaced, and events waiting outside it are forgotten. -/
def execOcdorSubscribe (f : OcdorFrame) (s : State) : Ans := .next <|
  s.ocdor f 4 (fun t =>
    if f.count ≠ 3 ∨ f.data.length ≠ 3 then t.ocdorAnswer f 2 []
    else
      let k := f.slot.toNat
      let mask := ((f.data.zipIdx).map (fun w => w.1.toNat * 2 ^ (32 * w.2))).sum
      (t.setSlot k { t.slot k with mask := mask, peer := ocdorPeer f, waiting := [] }).ocdorAnswer f 0 [])

/-- FENCE_DONE (R71, R439): every write that the fence covers is visible; FENCE frames are answered. -/
def execFenceDone (who : Initiator) (s : State) : Ans := .next <|
  match Sparse.find s.host.fences (whoIdx who) with
  | none => s
  | some l =>
    let t := { s with host := { s.host with fences := Sparse.erase s.host.fences (whoIdx who) } }.raise EV_FENCE_DONE
    match who with
    | .ib k => l.foldl (fun u x => u.ocdorSend k.val x.2 131 x.1 0 0 []) t
    | _ => t

/-- The EVENT frames of a tick (R439, R454): to each subscriber whose slot has events waiting. -/
def State.eventFrames (s : State) : State :=
  if !s.netUp then s
  else s.each 4 (fun t k =>
    let x := t.slot k
    if x.mask = 0 ∨ x.waiting = [] then t
    else
      let word (j : Nat) : Nat := (x.waiting.filter (fun e => e / 32 == j)).foldl (fun a e => setBit a (e % 32) true) 0
      (t.setSlot k { x with waiting := [] }).ocdorSend k x.peer 5 0 0 0 [word 0, word 1, word 2])

/-! ### Pins (R406, R453, R481, R482) -/

/-- The balls that R494 lists, by group. -/
inductive Ball
  | gateLow | gateHigh | serialOut | clockOut | flCs | hqCs | flashBus | hqBus | irq | gp | pullUps | pullDowns | mdc | mdio | lane | t1s
deriving DecidableEq, Repr

/-- The levels of R494: driven to the reference of its output stage or low, an input or high impedance with its pull, driven by the boot ROM,
the host target's protocol, electrical idle, receive only. -/
inductive BallLevel | low | highZ | highZDown | highZUp | inputUp | driven | target | idle | rxOnly
deriving DecidableEq, Repr

/-- The level of a ball group while PORST_N is low (R494). -/
def Ball.offLevel : Ball → BallLevel
  | .gateLow | .gateHigh => .low
  | .serialOut | .clockOut | .flashBus | .pullDowns => .highZDown
  | .flCs | .hqCs => .inputUp
  | .hqBus | .irq | .gp | .mdc | .t1s => .highZ
  | .mdio | .pullUps => .highZUp
  | .lane => .idle

/-- The level of a ball group during BOOT (R494). -/
def Ball.bootLevel : Ball → BallLevel
  | .gateLow | .gateHigh | .clockOut | .mdc => .low
  | .serialOut | .pullDowns => .highZDown
  | .flCs | .flashBus => .driven
  | .hqCs => .inputUp
  | .hqBus => .target
  | .irq | .gp => .highZ
  | .mdio | .pullUps => .highZUp
  | .lane => .idle
  | .t1s => .rxOnly

/-- The level of a ball group in OFF and in BOOT; from the end of BOOT the owning chapters govern it (R410, R494). -/
def State.ballLevel (s : State) (b : Ball) : Option BallLevel :=
  if s.dev == .off then some b.offLevel else if s.dev == .boot && s.op != .starting then some b.bootLevel else none

/-- What the device drives on GP pin n, none being high impedance: nothing in OFF and BOOT; a relay's level where one with EN = 1 names the
pin; of a GPIO output its OUT level, of an open-drain one the low level alone (R406, R482). -/
def State.gpDrives (s : State) (n : Nat) : Option Bool :=
  if (s.ballLevel .gp).isSome then none
  else match (List.range 4).find? (fun k => s.flag R.BRACE_RELAY_CFG_EN k && s.get R.BRACE_RELAY_CFG_GP k == n) with
    | some k => some (s.flag R.BRACE_RELAY_STATUS_ENERGISED k == s.flag R.BRACE_RELAY_CFG_ACTIVE_HIGH k)
    | none =>
      let v := s.bit R.GPIO_OUT_OUT n
      if !s.bit R.GPIO_OE_OE n || (s.bit R.GPIO_OD_OD n && v) then none else some v

/-- What the device drives on IRQ0_N (k = 0) or IRQ1_N (k = 1): nothing in OFF and BOOT (R494); else low while the pin is asserted, and high or,
where it is open-drain, nothing while it is not (R453, R460). -/
def State.irqDrives (s : State) (k : Nat) : Option Bool :=
  if (s.ballLevel .irq).isSome then none
  else if s.irq k then some false
  else if s.flag (if k = 0 then R.EVT_CTRL_IRQ0_OD else R.EVT_CTRL_IRQ1_OD) then none else some true

/-- GPIO_EDGE (R481): a pin has held a new level for 1 µs. -/
def execGpioEdge (pin : Fin 16) (level : Bool) (s : State) : Ans := .next <|
  if s.dev == .off || s.plls.clockLost || s.bit R.GPIO_IN_IN pin.val == level then s
  else
    let t := s.putBit R.GPIO_IN_IN pin.val level
    let hit := if level then t.bit R.GPIO_EV_CFG_RISE pin.val else t.bit R.GPIO_EV_CFG_FALL pin.val
    if hit && !t.bit R.GPIO_EV_SRC_EDGE pin.val then (t.putBit R.GPIO_EV_SRC_EDGE pin.val true).raise EV_GPIO else t

end Sys2Proof.Machine
end

