-- ==== Sys2Proof/Machine/Tick.lean ====
section
/-! DEFINITION. The tick (R49, R50): the boundary, the start of the cut-list window, the deadline; and raw event bits that expire
(R451). -/

namespace Sys2Proof.Machine

/-! ### Within a tick -/

/-- The cut-list window opens (R49, R380): engines start, with the faults that this tick finds; the early passes run, in a pair in
step only after the input agreement (R388); a paired unit sends its brace frame. -/
def State.windowOpen (s : State) (faults : List EngFault) (ecc : List EccErr) : State :=
  if s.win ≠ TickWin.overhead then s
  else
    let t := { s with win := .window }
    let t := t.when t.playing (fun u =>
      let v := { u.engineFaults faults ecc with je := { (u.engineFaults faults ecc).je with live := true } }
      (v.earlyOpen ecc).when (!v.agrees) State.earlyPasses)
    { t with brace := { t.brace with mine := t.clipLacks } }.braceTx

/-- The deadline (R49, R58): the engines' runs end, the late output pass runs and the digest is formed in the kerf. -/
def State.deadline (s : State) (late : List EngLate) : State :=
  let t := s.windowOpen [] []
  if t.win ≠ TickWin.window then t
  else
    let t := { t.agree with win := .kerf }
    let t := t.when t.playing (fun u => u.enginesRun late)
    let r := t.lateOutput
    r.2.digestTick r.1

/-- CUT_LIST_WINDOW_START (R49). -/
def execCutListWindowStart (faults : List EngFault) (ecc : List EccErr) (s : State) : Ans := .next <|
  if s.ticking then s.windowOpen faults ecc else s

/-- PRESENCE_AGREEMENT (R388), once the window is open. -/
def execPresenceAgreement (s : State) : Ans := .next <| if s.ticking then (s.windowOpen [] []).agree else s

/-- ENGINE_DEADLINE (R58). -/
def execEngineDeadline (late : List EngLate) (s : State) : Ans := .next <| if s.ticking then s.deadline late else s

/-! ### The boundary -/

/-- The feed selector hands each channel its engine bus of the tick that has ended (R26, R27, R299), with its peak: full scale
where the channel has a feed that no tap names (R294). -/
def State.feedAll (s : State) : State :=
  s.each 8 (fun t n =>
    let f := (t.ch n).feed
    let full := decide (f < 256) && !t.je.cut.descs.any (fun d => d.type == 0x10 && ((wordsOf d.record)[0]?).getD 8 == n)
    t.feedPush n (if f < 256 then Sparse.get zeros8 t.je.outs (2304 + f) else zeros8)
      (if full then 0xFFFF else Sparse.get 0 t.je.peaks n))

/-- A START that waits takes the device into RUN, once no commit is pending (R429, R431). -/
def State.startNow (s : State) : State := if s.op = HostOp.starting ∧ s.queue = [] then s.runEnter else s

/-- The commits of a boundary (R65, R68): entry into SAFE rejects them first, then the results of the active are used and what is due takes
effect. -/
def State.boundaryCommits (s : State) : State := s.safeEnter.takeResults.takeCommits

/-- The changes that take effect at the boundary, in the order of R464: entry into SAFE (R68), the commit, an admission pass that a link change has made due, RUN, the pair's roles,
the Plumb unit, PLL-M; the events that these raise come last, so that they carry the number that an epoch set gives the tick. -/
def State.boundaryChanges (s : State) (refs : List RefMeas) : State :=
  let t := (((s.boundaryCommits.passIfDue).startNow.braceTick).plumbTick refs).pllmTick
  t.when (t.tickNum != s.tickNum) (fun u => u.restamp s.tickNum)

/-- A part of the boundary that a row of its own names: the tick that ends does first what it still had to do (R69). -/
def State.boundaryPart (s : State) (f : State → State) : State := if s.ticking then (s.deadline []).atBoundary f else s

/-- COMMIT_TAKE_EFFECT (R65, R68): the commits due at the boundary that begins the next tick take effect, or are rejected where a fatal fault
has made SAFE due there. TICK_BOUNDARY does the same where this row has not come. -/
def execCommitTakeEffect (s : State) : Ans := .next <| s.boundaryPart State.boundaryCommits

/-- SAFE_ENTRY (R459): the boundary after a fatal fault in RUN; the part of TICK_BOUNDARY that enters SAFE. -/
def execSafeEntry (s : State) : Ans := .next <| s.boundaryPart State.safeEnter

/-- ROLE_CHANGE (R384): the part of TICK_BOUNDARY that changes the pair's roles. -/
def execRoleChange (s : State) : Ans := .next <| s.boundaryPart State.roleTick

/-- PLLM_UNGATE (R215): the boundary after PLOCK; the part of TICK_BOUNDARY that ungates. Where no ticks run, media time has not begun and
PLL-M's dividers start at once. -/
def execPllmUngate (s : State) : Ans := .next <|
  if s.ticking then s.boundaryPart State.pllmUngate else if s.powered then s.pllmUngate else s

/-- The work of the tick that begins (R26, R50, R87, R88, R106, R195, R318, R355, R439). -/
def State.tickWork (s : State) : State :=
  let t := (s.lateFeed.svcTick).readControls
  let t := (t.txTick.feedAll).powerTick
  let t := (t.igmpTick.sapWithdraw).each 6 State.clkTick
  (t.clearRead).eventFrames

/-- The next tick begins: its number, the raw bits that end (R451), the frames that the host ring holds and the egress of the tick that has
passed, the quantities measured. -/
def State.tickBegin (s : State) (meas : List Meas) : State :=
  let t := { s with tg := s.tg + 1, tickNum := (s.tickNum + 1) % 2 ^ 48, win := .overhead, logged := s.logged.filter (fun r => r.2 == s.tg + 1)
                    brace := { s.brace with clips := s.brace.clipsTo, clipsTo := [], mine := [] } }
  (meas.foldl State.measure (t.expireRaw).hostPoll.egressAll).rxIdleTick

/-- In BOOT, where media time has not begun, the Plumb unit evaluates every slot and stays in FREERUN (R46, R192). -/
def State.bootTick (s : State) (refs : List RefMeas) : State := { s with tg := s.tg + 1 }.plumbTick refs

/-- TICK_BOUNDARY (R49). What the tick that ends still had to do is done first where its own rows have not come. -/
def execTickBoundary (refs : List RefMeas) (meas : List Meas) (s : State) : Ans := .next <|
  if s.ticking then (((s.deadline []).tickBegin meas).boundaryChanges refs).tickWork
  else if s.dev == .boot && !s.plls.clockLost then s.bootTick refs
  else s

/-- EVT_RAW_EXPIRY (R451): at the end of the tick after the raise; 333.33 µs after a raise while no ticks ran, or once they have stopped. -/
def execEvtRawExpiry (event : Fin 96) (s : State) : Ans := .next <|
  { s with raw := s.raw.filter (fun r => !(r.1 == event.val && (!s.ticking || !r.2.2 || decide (r.2.1 + 1 ≤ s.tg)))) }

end Sys2Proof.Machine
end

