-- ==== Sys2Proof/Machine/Dispatch.lean ====
section
/-! DEFINITION. What each command does: one arm per row of the opcode table, each one call of its meaning. -/

namespace Sys2Proof.Machine

/-- The effect of a command on everything but the queue. -/
def exec (i : Instr) (s : State) : Host.Outcome State Fault Refusal :=
  match i with
  | .porstNRise bootsel iob33 => Sys2Proof.Machine.execPorstNRise bootsel iob33 s
  | .porstNLow powerRemoved => Sys2Proof.Machine.execPorstNLow powerRemoved s
  | .vddCoreReset => Sys2Proof.Machine.execVddCoreReset s
  | .wrstNPulse bootsel => Sys2Proof.Machine.execWrstNPulse bootsel s
  | .wreset who bootsel => Sys2Proof.Machine.execWreset who bootsel s
  | .bootRomStart flashOk => Sys2Proof.Machine.execBootRomStart flashOk s
  | .firmwareLoaded flashOk => Sys2Proof.Machine.execFirmwareLoaded flashOk s
  | .serviceFirmwareStart => Sys2Proof.Machine.execServiceFirmwareStart s
  | .imageReadDone flashOk => Sys2Proof.Machine.execImageReadDone flashOk s
  | .imageValidationDone us => Sys2Proof.Machine.execImageValidationDone us s
  | .start who => Sys2Proof.Machine.execStart who s
  | .startValidationDone => Sys2Proof.Machine.execStartValidationDone s
  | .stop who => Sys2Proof.Machine.execStop who s
  | .stopDone => Sys2Proof.Machine.execStopDone s
  | .load who => Sys2Proof.Machine.execLoad who s
  | .loadValidationDone flashOk => Sys2Proof.Machine.execLoadValidationDone flashOk s
  | .sleep who => Sys2Proof.Machine.execSleep who s
  | .wakeFilterMatch port frame => Sys2Proof.Machine.execWakeFilterMatch port frame s
  | .gpWake pin level => Sys2Proof.Machine.execGpWake pin level s
  | .qspiWake => Sys2Proof.Machine.execQspiWake s
  | .wakeDone => Sys2Proof.Machine.execWakeDone s
  | .tickBoundary refs meas => Sys2Proof.Machine.execTickBoundary refs meas s
  | .evtRawExpiry event => Sys2Proof.Machine.execEvtRawExpiry event s
  | .cutListWindowStart faults ecc => Sys2Proof.Machine.execCutListWindowStart faults ecc s
  | .presenceAgreement => Sys2Proof.Machine.execPresenceAgreement s
  | .engineDeadline late => Sys2Proof.Machine.execEngineDeadline late s
  | .reepoch who => Sys2Proof.Machine.execReepoch who s
  | .cntClr who page => Sys2Proof.Machine.execCntClr who page s
  | .srst who page => Sys2Proof.Machine.execSrst who page s
  | .arm who page => Sys2Proof.Machine.execArm who page s
  | .groupCommit who => Sys2Proof.Machine.execGroupCommit who s
  | .commitValidated => Sys2Proof.Machine.execCommitValidated s
  | .commitTakeEffect => Sys2Proof.Machine.execCommitTakeEffect s
  | .fenceStart who => Sys2Proof.Machine.execFenceStart who s
  | .fenceDone who => Sys2Proof.Machine.execFenceDone who s
  | .registerWrite who addr data => Sys2Proof.Machine.execRegisterWrite who addr data s
  | .qspiRead tx => Sys2Proof.Machine.execQspiRead tx s
  | .qspiWrite tx => Sys2Proof.Machine.execQspiWrite tx s
  | .qspiQread tx => Sys2Proof.Machine.execQspiQread tx s
  | .qspiQwrite tx => Sys2Proof.Machine.execQspiQwrite tx s
  | .qspiStatus => Sys2Proof.Machine.execQspiStatus s
  | .ocdorRead f => Sys2Proof.Machine.execOcdorRead f s
  | .ocdorWrite f => Sys2Proof.Machine.execOcdorWrite f s
  | .ocdorFence f => Sys2Proof.Machine.execOcdorFence f s
  | .ocdorSubscribe f => Sys2Proof.Machine.execOcdorSubscribe f s
  | .refLockout who slot on => Sys2Proof.Machine.execRefLockout who slot on s
  | .refQualified slot => Sys2Proof.Machine.execRefQualified slot s
  | .wtrExpiry => Sys2Proof.Machine.execWtrExpiry s
  | .acquireDone => Sys2Proof.Machine.execAcquireDone s
  | .holdEstUpdate bare => Sys2Proof.Machine.execHoldEstUpdate bare s
  | .ppsInEdge period offset => Sys2Proof.Machine.execPpsInEdge period offset s
  | .ppsInAbsent => Sys2Proof.Machine.execPpsInAbsent s
  | .wclkInEdge k period offset => Sys2Proof.Machine.execWclkInEdge k period offset s
  | .clkoutAlign who mask => Sys2Proof.Machine.execClkoutAlign who mask s
  | .pllRefLost loop => Sys2Proof.Machine.execPllRefLost loop s
  | .pllFlockSet loop count => Sys2Proof.Machine.execPllFlockSet loop count s
  | .pllFlockClear loop count => Sys2Proof.Machine.execPllFlockClear loop count s
  | .pllPlockSet loop phase => Sys2Proof.Machine.execPllPlockSet loop phase s
  | .pllPlockClear loop ps => Sys2Proof.Machine.execPllPlockClear loop ps s
  | .pllmCeilingTrip count => Sys2Proof.Machine.execPllmCeilingTrip count s
  | .pllmUngate => Sys2Proof.Machine.execPllmUngate s
  | .clkMuteRelease => Sys2Proof.Machine.execClkMuteRelease s
  | .pllmCal who => Sys2Proof.Machine.execPllmCal who s
  | .pllmCalDone ranges => Sys2Proof.Machine.execPllmCalDone ranges s
  | .pllmBandRetry => Sys2Proof.Machine.execPllmBandRetry s
  | .selfReset bootsel => Sys2Proof.Machine.execSelfReset bootsel s
  | .fatalFault cause => Sys2Proof.Machine.execFatalFault cause s
  | .safeEntry => Sys2Proof.Machine.execSafeEntry s
  | .autoWarmReset bootsel => Sys2Proof.Machine.execAutoWarmReset bootsel s
  | .spWatchdogExpiry => Sys2Proof.Machine.execSpWatchdogExpiry s
  | .macFrameRx port f => Sys2Proof.Machine.execMacFrameRx port f s
  | .pauseRefresh port => Sys2Proof.Machine.execPauseRefresh port s
  | .pauseCancel port => Sys2Proof.Machine.execPauseCancel port s
  | .pauseRx port f => Sys2Proof.Machine.execPauseRx port f s
  | .pauseTimerExpiry port prio => Sys2Proof.Machine.execPauseTimerExpiry port prio s
  | .linkUp port speed pause => Sys2Proof.Machine.execLinkUp port speed pause s
  | .linkDown port => Sys2Proof.Machine.execLinkDown port s
  | .phyPoll port up => Sys2Proof.Machine.execPhyPoll port up s
  | .mdioC22Read who phy reg => Sys2Proof.Machine.execMdioC22Read who phy reg s
  | .mdioC22Write who phy reg => Sys2Proof.Machine.execMdioC22Write who phy reg s
  | .mdioC45Address who phy dev => Sys2Proof.Machine.execMdioC45Address who phy dev s
  | .mdioC45Write who phy dev => Sys2Proof.Machine.execMdioC45Write who phy dev s
  | .mdioC45Read who phy dev => Sys2Proof.Machine.execMdioC45Read who phy dev s
  | .mdioDone data => Sys2Proof.Machine.execMdioDone data s
  | .plcaBeaconTx t1s => Sys2Proof.Machine.execPlcaBeaconTx t1s s
  | .plcaBeaconRx t1s => Sys2Proof.Machine.execPlcaBeaconRx t1s s
  | .plcaTxOpportunity t1s => Sys2Proof.Machine.execPlcaTxOpportunity t1s s
  | .plcaBeaconLost t1s => Sys2Proof.Machine.execPlcaBeaconLost t1s s
  | .plcaCollision t1s => Sys2Proof.Machine.execPlcaCollision t1s s
  | .fdbLookup who => Sys2Proof.Machine.execFdbLookup who s
  | .fdbAddStatic who => Sys2Proof.Machine.execFdbAddStatic who s
  | .fdbDelete who => Sys2Proof.Machine.execFdbDelete who s
  | .fdbFlushDynamic who => Sys2Proof.Machine.execFdbFlushDynamic who s
  | .fdbCmdDone => Sys2Proof.Machine.execFdbCmdDone s
  | .fdbAgeOut mac vid => Sys2Proof.Machine.execFdbAgeOut mac vid s
  | .hostFrameSubmit who tail => Sys2Proof.Machine.execHostFrameSubmit who tail s
  | .tasConfigChange port => Sys2Proof.Machine.execTasConfigChange port s
  | .tasGateAdvance port => Sys2Proof.Machine.execTasGateAdvance port s
  | .tsnFilterUnblock who filter => Sys2Proof.Machine.execTsnFilterUnblock who filter s
  | .frerResetTimeout entry => Sys2Proof.Machine.execFrerResetTimeout entry s
  | .ptpSyncRx port m => Sys2Proof.Machine.execPtpSyncRx port m s
  | .ptpFollowUpRx port m => Sys2Proof.Machine.execPtpFollowUpRx port m s
  | .ptpAnnounceRx port m v => Sys2Proof.Machine.execPtpAnnounceRx port m v s
  | .ptpPdelayReqRx port m => Sys2Proof.Machine.execPtpPdelayReqRx port m s
  | .ptpPdelayRespRx port m => Sys2Proof.Machine.execPtpPdelayRespRx port m s
  | .ptpDelayReqRx port m => Sys2Proof.Machine.execPtpDelayReqRx port m s
  | .ptpDelayRespRx port m => Sys2Proof.Machine.execPtpDelayRespRx port m s
  | .ptpSyncTx port ns => Sys2Proof.Machine.execPtpSyncTx port ns s
  | .ptpAnnounceTx port => Sys2Proof.Machine.execPtpAnnounceTx port s
  | .ptpDelayRequestTx port ns => Sys2Proof.Machine.execPtpDelayRequestTx port ns s
  | .ptpSyncTimeout => Sys2Proof.Machine.execPtpSyncTimeout s
  | .ptpAnnounceTimeout port => Sys2Proof.Machine.execPtpAnnounceTimeout port s
  | .avtpRx p => Sys2Proof.Machine.execAvtpRx p s
  | .rtpRx p => Sys2Proof.Machine.execRtpRx p s
  | .rtcpRx => Sys2Proof.Machine.execRtcpRx s
  | .crfRx p => Sys2Proof.Machine.execCrfRx p s
  | .rxStarved entry => Sys2Proof.Machine.execRxStarved entry s
  | .arpRequest port target sender => Sys2Proof.Machine.execArpRequest port target sender s
  | .igmpQuery port v2 => Sys2Proof.Machine.execIgmpQuery port v2 s
  | .sapAnnounce => Sys2Proof.Machine.execSapAnnounce s
  | .sapRx m => Sys2Proof.Machine.execSapRx m s
  | .adpEntityAvailable => Sys2Proof.Machine.execAdpEntityAvailable s
  | .adpEntityDiscover m => Sys2Proof.Machine.execAdpEntityDiscover m s
  | .connectTx m => Sys2Proof.Machine.execConnectTx m s
  | .disconnectTx m => Sys2Proof.Machine.execDisconnectTx m s
  | .getTxState m => Sys2Proof.Machine.execGetTxState m s
  | .getTxConnection m => Sys2Proof.Machine.execGetTxConnection m s
  | .connectRx m => Sys2Proof.Machine.execConnectRx m s
  | .disconnectRx m => Sys2Proof.Machine.execDisconnectRx m s
  | .getRxState m => Sys2Proof.Machine.execGetRxState m s
  | .acquireEntity m => Sys2Proof.Machine.execAcquireEntity m s
  | .lockEntity m => Sys2Proof.Machine.execLockEntity m s
  | .aecpEntityAvailable m => Sys2Proof.Machine.execAecpEntityAvailable m s
  | .controllerAvailable m => Sys2Proof.Machine.execControllerAvailable m s
  | .readDescriptor m => Sys2Proof.Machine.execReadDescriptor m s
  | .getConfiguration m => Sys2Proof.Machine.execGetConfiguration m s
  | .getStreamFormat m => Sys2Proof.Machine.execGetStreamFormat m s
  | .getStreamInfo m => Sys2Proof.Machine.execGetStreamInfo m s
  | .getName m => Sys2Proof.Machine.execGetName m s
  | .setName m => Sys2Proof.Machine.execSetName m s
  | .getCounters m => Sys2Proof.Machine.execGetCounters m s
  | .getAvbInfo m => Sys2Proof.Machine.execGetAvbInfo m s
  | .getAsPath m => Sys2Proof.Machine.execGetAsPath m s
  | .registerUnsolicitedNotification m => Sys2Proof.Machine.execRegisterUnsolicitedNotification m s
  | .deregisterUnsolicitedNotification m => Sys2Proof.Machine.execDeregisterUnsolicitedNotification m s
  | .aecpUnsupported m => Sys2Proof.Machine.execAecpUnsupported m s
  | .spFrameRx f => Sys2Proof.Machine.execSpFrameRx f s
  | .spFrameTxStart port index => Sys2Proof.Machine.execSpFrameTxStart port index s
  | .spClockLoss port => Sys2Proof.Machine.execSpClockLoss port s
  | .spClockReturn port => Sys2Proof.Machine.execSpClockReturn port s
  | .asrcLock group ratio => Sys2Proof.Machine.execAsrcLock group ratio s
  | .asrcUnlock group rangeErr => Sys2Proof.Machine.execAsrcUnlock group rangeErr s
  | .xpmCopy who => Sys2Proof.Machine.execXpmCopy who s
  | .xpmCopyDone => Sys2Proof.Machine.execXpmCopyDone s
  | .dpoolRepack who => Sys2Proof.Machine.execDpoolRepack who s
  | .clipPrefetchDone inst bytes => Sys2Proof.Machine.execClipPrefetchDone inst bytes s
  | .flashReadTimeout read => Sys2Proof.Machine.execFlashReadTimeout read s
  | .flashCmdFill who opcode addrBytes len => Sys2Proof.Machine.execFlashCmdFill who opcode addrBytes len s
  | .flashCmdSend who opcode addrBytes len => Sys2Proof.Machine.execFlashCmdSend who opcode addrBytes len s
  | .flashCmdDone data changed => Sys2Proof.Machine.execFlashCmdDone data changed s
  | .otpCfgSigReq who => Sys2Proof.Machine.execOtpCfgSigReq who s
  | .otpCustKeyHash who index => Sys2Proof.Machine.execOtpCustKeyHash who index s
  | .otpRevokeKey who index => Sys2Proof.Machine.execOtpRevokeKey who index s
  | .otpIbKey who index => Sys2Proof.Machine.execOtpIbKey who index s
  | .otpRaiseFwMin who => Sys2Proof.Machine.execOtpRaiseFwMin who s
  | .otpJtagDisable who => Sys2Proof.Machine.execOtpJtagDisable who s
  | .otpCmdDone ok => Sys2Proof.Machine.execOtpCmdDone ok s
  | .clipCrcCheckDone id => Sys2Proof.Machine.execClipCrcCheckDone id s
  | .svcPlay r => Sys2Proof.Machine.execSvcPlay r s
  | .svcCall r => Sys2Proof.Machine.execSvcCall r s
  | .svcAnswer r => Sys2Proof.Machine.execSvcAnswer r s
  | .svcRelease r => Sys2Proof.Machine.execSvcRelease r s
  | .svcLock r => Sys2Proof.Machine.execSvcLock r s
  | .svcUnlock r => Sys2Proof.Machine.execSvcUnlock r s
  | .serviceCommitArm => Sys2Proof.Machine.execServiceCommitArm s
  | .svcClipDone player => Sys2Proof.Machine.execSvcClipDone player s
  | .dieLinkFrame ok => Sys2Proof.Machine.execDieLinkFrame ok s
  | .dieLinkLoss => Sys2Proof.Machine.execDieLinkLoss s
  | .dieLinkShutdown => Sys2Proof.Machine.execDieLinkShutdown s
  | .dacClockLoss => Sys2Proof.Machine.execDacClockLoss s
  | .gainRampEnd ch => Sys2Proof.Machine.execGainRampEnd ch s
  | .cmRampEnd ch trim => Sys2Proof.Machine.execCmRampEnd ch trim s
  | .pchClear who ch => Sys2Proof.Machine.execPchClear who ch s
  | .ocpCycleLimit ch cycles => Sys2Proof.Machine.execOcpCycleLimit ch cycles s
  | .ocpSustained ch => Sys2Proof.Machine.execOcpSustained ch s
  | .ocpFast ch => Sys2Proof.Machine.execOcpFast ch s
  | .retryWaitExpiry ch => Sys2Proof.Machine.execRetryWaitExpiry ch s
  | .retryNumClear ch => Sys2Proof.Machine.execRetryNumClear ch s
  | .dcFault ch => Sys2Proof.Machine.execDcFault ch s
  | .senseLoss ch => Sys2Proof.Machine.execSenseLoss ch s
  | .syncSlip ch => Sys2Proof.Machine.execSyncSlip ch s
  | .syncRelock ch => Sys2Proof.Machine.execSyncRelock ch s
  | .ntcWarn k code => Sys2Proof.Machine.execNtcWarn k code s
  | .ntcShutdown k code => Sys2Proof.Machine.execNtcShutdown k code s
  | .ntcWarnEnd k code => Sys2Proof.Machine.execNtcWarnEnd k code s
  | .powerDieOvertemp => Sys2Proof.Machine.execPowerDieOvertemp s
  | .logicDieOvertemp => Sys2Proof.Machine.execLogicDieOvertemp s
  | .tempWarn die temp => Sys2Proof.Machine.execTempWarn die temp s
  | .vinWarn => Sys2Proof.Machine.execVinWarn s
  | .vinWarnClear => Sys2Proof.Machine.execVinWarnClear s
  | .vinReset => Sys2Proof.Machine.execVinReset s
  | .vinRecover => Sys2Proof.Machine.execVinRecover s
  | .vgdWarn below => Sys2Proof.Machine.execVgdWarn below s
  | .vgdUvlo => Sys2Proof.Machine.execVgdUvlo s
  | .vgdUvloClear => Sys2Proof.Machine.execVgdUvloClear s
  | .coreWarn below => Sys2Proof.Machine.execCoreWarn below s
  | .ioWarn rail outside stop => Sys2Proof.Machine.execIoWarn rail outside stop s
  | .railSoftStartDone rail => Sys2Proof.Machine.execRailSoftStartDone rail s
  | .boostOvp rail above lasted cycles => Sys2Proof.Machine.execBoostOvp rail above lasted cycles s
  | .boostUvp rail => Sys2Proof.Machine.execBoostUvp rail s
  | .boostPhaseOcp rail phase => Sys2Proof.Machine.execBoostPhaseOcp rail phase s
  | .boostRetryExpiry rail => Sys2Proof.Machine.execBoostRetryExpiry rail s
  | .bstClear who rail => Sys2Proof.Machine.execBstClear who rail s
  | .reactiveRailLimit ch => Sys2Proof.Machine.execReactiveRailLimit ch s
  | .diagDc who mask => Sys2Proof.Machine.execDiagDc who mask s
  | .diagSweep who mask => Sys2Proof.Machine.execDiagSweep who mask s
  | .diagLearn who mask => Sys2Proof.Machine.execDiagLearn who mask s
  | .dcTestDone ch ohms => Sys2Proof.Machine.execDcTestDone ch ohms s
  | .sweepToneDone mag phase => Sys2Proof.Machine.execSweepToneDone mag phase s
  | .diagChannelDone => Sys2Proof.Machine.execDiagChannelDone s
  | .pilotWindowEnd ch quiet mag phase => Sys2Proof.Machine.execPilotWindowEnd ch quiet mag phase s
  | .braceFrameRx r => Sys2Proof.Machine.execBraceFrameRx r s
  | .bracePathSilent => Sys2Proof.Machine.execBracePathSilent s
  | .networkHeartbeatTx => Sys2Proof.Machine.execNetworkHeartbeatTx s
  | .networkHeartbeatRx h => Sys2Proof.Machine.execNetworkHeartbeatRx h s
  | .netPathSilent => Sys2Proof.Machine.execNetPathSilent s
  | .formationTimeout => Sys2Proof.Machine.execFormationTimeout s
  | .roleChange => Sys2Proof.Machine.execRoleChange s
  | .swap who => Sys2Proof.Machine.execSwap who s
  | .reseatStart => Sys2Proof.Machine.execReseatStart s
  | .reseatRoundDone dirty seated => Sys2Proof.Machine.execReseatRoundDone dirty seated s
  | .sealSend => Sys2Proof.Machine.execSealSend s
  | .sealRx inTime seat => Sys2Proof.Machine.execSealRx inTime seat s
  | .reseatTimeout => Sys2Proof.Machine.execReseatTimeout s
  | .reseatRetry => Sys2Proof.Machine.execReseatRetry s
  | .coldStartDone => Sys2Proof.Machine.execColdStartDone s
  | .relayTakeover k => Sys2Proof.Machine.execRelayTakeover k s
  | .relayEnergise k => Sys2Proof.Machine.execRelayEnergise k s
  | .relaySettled k => Sys2Proof.Machine.execRelaySettled k s
  | .relayRelease k => Sys2Proof.Machine.execRelayRelease k s
  | .gpioEdge pin level => Sys2Proof.Machine.execGpioEdge pin level s
  | .vddCoreResetClear bootsel => Sys2Proof.Machine.execVddCoreResetClear bootsel s
  | .powerDieTempRelease => Sys2Proof.Machine.execPowerDieTempRelease s
  | .linkSpeedChange port speed => Sys2Proof.Machine.execLinkSpeedChange port speed s
  | .wclkInAbsent k => Sys2Proof.Machine.execWclkInAbsent k s

end Sys2Proof.Machine
end

