-- ==== Sys2Proof/Safety.lean ====
section
/-! DEFINITION. What a safe run keeps, and the words in which the statements speak: which registers a change touches, when a command
reaches the device, the moves of the device state and the invariants. -/

namespace Sys2Proof.Machine

/-! ### What a change touches -/

/-- What names a field in the register store: its page, offset and low bit. -/
def Fld.base (f : Fld) : Nat := (f.page * 4096 + f.off) * 32 + f.lo

/-- Nothing but registers differs between s and t, and no register but those of the fields listed, in whatever instance. -/
def RegsOnly (l : List Fld) (s t : State) : Prop :=
  t = { s with regs := t.regs } ∧ ∀ (g : Fld) (i j : Nat), (∀ f ∈ l, f.base ≠ g.base) → t.get g i j = s.get g i j

/-- Nothing but registers differs between s and t, and no register but those of the fields listed, in instance i. -/
def RegsAt (l : List Fld) (i : Nat) (s t : State) : Prop :=
  t = { s with regs := t.regs } ∧
  ∀ (g : Fld) (i' j : Nat), (∀ f ∈ l, f.base ≠ g.base) ∨ i % 65536 ≠ i' % 65536 → t.get g i' j = s.get g i' j

/-- The registers that raising an event writes (R451, R456), with those of a log write that protection denies (R76). -/
def eventFlds : List Fld :=
  [R.EVT_STICKY_STICKY, R.EVT_LAST_EVENT, R.EVT_LAST_TICK_TICK, R.EVT_LOG_SEQ, R.EVT_LOG_HEAD_INDEX, R.PG_STATUS_SAT_SEEN,
   R.PROT_DENY_ADDR_ADDR, R.PROT_DENY_INFO_CLASS, R.PROT_DENY_INFO_WRITE, R.PROT_DENY_INFO_VALID, R.PROT_DENY_CNT, R.SVC_DENY_CNT]

/-- The address of the next record of the event log (R456). -/
def State.logAddr (s : State) : Nat := s.get R.EVT_LOG_BASE_BASE * 4096 + 16 * s.get R.EVT_LOG_HEAD_INDEX

/-- What raising one event with these fields written leaves as it was: every other register but the event's own, every part of the
state but the raw bits, the log's bookkeeping and the in-band notice, and every byte outside the log's next record. -/
def RaisesOnly (l : List Fld) (s t : State) : Prop :=
  t = { s with regs := t.regs, mem := t.mem, raw := t.raw, logged := t.logged, host := t.host } ∧
  (∀ (g : Fld) (i j : Nat), (∀ f ∈ l ++ eventFlds, f.base ≠ g.base) → t.get g i j = s.get g i j) ∧
  ∀ a, a < s.logAddr ∨ s.logAddr + 16 ≤ a → t.byte a = s.byte a

/-- The device state, the operation under way, the pair's role, the fuses, the waiting commands and the ticks run are as before. -/
def SameCore (s t : State) : Prop :=
  t.dev = s.dev ∧ t.op = s.op ∧ t.role = s.role ∧ t.otp = s.otp ∧ t.pending = s.pending ∧ t.tg = s.tg ∧ t.tickNum = s.tickNum

/-! ### Commands that an initiator gives -/

/-- The device takes a command that `who` gives by a write at address a: it hears the initiator (R42, R433), the protection permits
the write (R74 to R76) and the page is served (R417). -/
def State.takes (s : State) (who : Initiator) (a : Nat) : Bool :=
  s.hears who && s.permits (clsOf who) true a && s.pageServed a

/-- The commands that an initiator gives by writing one register, with the initiator and the register's address. -/
def givenAt : Instr → Option (Initiator × Nat)
  | .wreset who _ => some (who, 0x00044)
  | .start who => some (who, 0x00044)
  | .stop who => some (who, 0x00044)
  | .load who => some (who, 0x00044)
  | .sleep who => some (who, 0x00044)
  | .reepoch who => some (who, 0x48054)
  | .srst who page => some (who, page.val * 4096 + 4)
  | .arm who page => some (who, page.val * 4096 + 0xc)
  | .groupCommit who => some (who, 0x000c8)
  | .fenceStart who => some (who, 0x000c0)
  | .refLockout who slot _ => some (who, 0x09040 + 32 * slot.val)
  | .clkoutAlign who _ => some (who, 0x0d048)
  | .pllmCal who => some (who, 0x0a080)
  | .mdioC22Read who _ _ => some (who, mdioCmdAddr)
  | .mdioC22Write who _ _ => some (who, mdioCmdAddr)
  | .mdioC45Address who _ _ => some (who, mdioCmdAddr)
  | .mdioC45Write who _ _ => some (who, mdioCmdAddr)
  | .mdioC45Read who _ _ => some (who, mdioCmdAddr)
  | .fdbLookup who => some (who, fdbCmdAddr)
  | .fdbAddStatic who => some (who, fdbCmdAddr)
  | .fdbDelete who => some (who, fdbCmdAddr)
  | .fdbFlushDynamic who => some (who, fdbCmdAddr)
  | .hostFrameSubmit who _ => some (who, 0x180a8)
  | .tsnFilterUnblock who _ => some (who, 0x190bc)
  | .xpmCopy who => some (who, 0x38040)
  | .dpoolRepack who => some (who, 0x39040)
  | .flashCmdFill who _ _ _ => some (who, 0x71048)
  | .flashCmdSend who _ _ _ => some (who, 0x71048)
  | .otpCfgSigReq who => some (who, otpAddr)
  | .otpCustKeyHash who _ => some (who, otpAddr)
  | .otpRevokeKey who _ => some (who, otpAddr)
  | .otpIbKey who _ => some (who, otpAddr)
  | .otpRaiseFwMin who => some (who, otpAddr)
  | .otpJtagDisable who => some (who, otpAddr)
  | .pchClear who ch => some (who, 0x50040 + 0x1000 * ch.val)
  | .bstClear who rail => some (who, 0x58040 + 0x1000 * rail.val)
  | .diagDc who _ => some (who, 0x5a040)
  | .diagSweep who _ => some (who, 0x5a040)
  | .diagLearn who _ => some (who, 0x5a040)
  | .swap who => some (who, 0x60040)
  | _ => none

/-! ### Frames of the device's own -/

/-- Port p takes a frame of the device's own in class tc: the frame fits the port and its gates, and there is room for it (R128, R154). -/
def State.takesFrame (s : State) (p tc : Nat) (w : Wire) : Bool :=
  s.netUp && s.link p && decide (w.len ≤ s.sizeLimit p w.tags) && !s.tasOversize p tc w.len &&
  (if s.isReserved tc then !s.poolFull p true w.len else !s.queueFull p tc)

/-- s with such a frame behind what waits at port p: a frame of a reserved class occupies that port's reserved pool. -/
def State.withFrame (s : State) (p tc : Nat) (w : Wire) : State :=
  { s with net := { s.net with
      nextFid := s.net.nextFid + 1
      egr := s.net.egr ++ [⟨s.net.nextFid, p, tc, w.len, if s.isReserved tc then p else 8, s.isReserved tc, w⟩] } }

/-- An ACMP response that leaves the port its command came from (R89). -/
def State.acmpFrame (s : State) (m : AvdMsg) (msg status : Nat) (fields : List Nat) : Wire :=
  .avdecc ⟨avdGroup, s.portMac m.port.val, none⟩ (16 + msg) m.seq.toNat status fields

/-- An AECP response to the station that asked (R89). -/
def State.aecpFrame (s : State) (m : AvdMsg) (cmd status : Nat) (fields : List Nat) : Wire :=
  .avdecc ⟨m.src.toNat, s.portMac m.port.val, none⟩ (256 + cmd) m.seq.toNat status (m.controller.toNat :: fields)

/-- An untagged IP datagram of the device to a group (R87, R88). -/
def State.groupFrame (s : State) (p dst port ttl kind : Nat) (fields : List Nat) : Wire :=
  .ip ⟨ipGroupMac dst, s.portMac p, none⟩ (some ⟨ttl, 0, s.get R.RTP_IPADDR_ADDR, dst, port, port, 0⟩) kind fields

/-- A PTP message that the port takes: the port takes part, and profile and domain are the device's (R165). -/
def PtpFits (s : State) (p : Nat) (m : PtpMsg) : Prop :=
  s.ptpPortOn p = true ∧ m.profile = s.get R.PTP_CTRL_PROFILE ∧ m.domain = s.get R.PTP_DOMAIN_DOMAIN

/-! ### The device state (R40) -/

/-- The moves of R40's table between device states. -/
def r40Moves : List (Dev × Dev) :=
  [(.off, .off), (.boot, .off), (.held, .off), (.ready, .off), (.run, .off), (.safe, .off), (.sleep, .off),
   (.off, .boot), (.boot, .ready), (.boot, .run), (.boot, .held), (.held, .run), (.held, .held), (.ready, .run), (.run, .ready),
   (.ready, .boot), (.held, .boot), (.ready, .ready), (.held, .ready), (.ready, .held), (.boot, .boot), (.sleep, .boot),
   (.run, .safe), (.safe, .boot), (.ready, .sleep), (.run, .sleep), (.sleep, .ready), (.sleep, .run)]

/-- The operation under way is one that the device state can have, and SAFE is due only in RUN (R428 to R433, R459). -/
def State.opFits (s : State) : Bool :=
  (match s.op with
    | .none => true
    | .startValidating _ => s.dev == .held
    | .starting => s.dev == .ready || s.dev == .held || s.dev == .boot || s.dev == .sleep
    | .loading _ _ => s.dev == .ready || s.dev == .held
    | .stopping _ _ _ => s.dev == .run
    | .waking _ _ _ => s.dev == .sleep) &&
  (!s.safeWait || s.dev == .run)

/-- A safe run keeps the memory's canonical form and an operation that fits the device state. -/
def State.safe (s : State) : Bool := Memory.wf s.mem && s.opFits

/-! ### The fuses (R441) -/

/-- Every fuse that a holds is held by b, and a key field programmed in a has the same value in b. -/
structure FusesKept (a b : Otp) : Prop where
  yamondHash : b.yamondHash = a.yamondHash
  uid : b.uid = a.uid
  fwMin : a.fwMin ≤ b.fwMin
  cfgSigReq : a.cfgSigReq = true → b.cfgSigReq = true
  custHash : ∀ k h, Sparse.find a.custHash k = some h → Sparse.find b.custHash k = some h
  revoke : ∀ k, a.revoke.testBit k = true → b.revoke.testBit k = true
  ibKey : ∀ k h, Sparse.find a.ibKey k = some h → Sparse.find b.ibKey k = some h
  jtag : a.jtag = true → b.jtag = true

end Sys2Proof.Machine
end

