-- ==== Sys2Proof/Certificates/Slice0/Obligations.lean ====
section
/-! DEFINITION. The statements for the provers. -/

open Sys2Proof Sys2Proof.Machine

/-! ### The step, the queue, reset -/

/-- One step takes the command at the front of the queue off and runs it; the commands behind it keep their order.
Readings of the model that it rests on: log entry 7. -/
def Obligations.StepRunsFrontCommand : Prop :=
  ∀ (c : Instr) (rest : List Instr) (s : State), step { s with pending := c :: rest } = exec c { s with pending := rest }

/-- With no command waiting, the block idles (the model's choice, log entry 1: the table has no row for a clock). -/
def Obligations.IdleOnEmptyQueue : Prop := ∀ s : State, s.pending = [] → step s = .next s

/-- Right after reset: OFF, alone, nothing under way, every register at the reset value of its field, no shadow, no commit, no
memory byte but the value of an unwritten one, no fuse blown and no key programmed, no event raw, nothing sent, an empty queue; and the
invariants hold. Readings of the model that it rests on: log entries 3, 11, 16. -/
def Obligations.ResetState : Prop :=
  State.reset.dev = .off ∧ State.reset.role = .solo ∧ State.reset.op = .none ∧ State.reset.tickNum = 0 ∧ State.reset.porst = true ∧
  (∀ (f : Fld) (i j : Nat), State.reset.get f i j = f.resetAt i) ∧ State.reset.shadow = [] ∧ State.reset.queue = [] ∧
  (∀ a, State.reset.byte a = memDefault a) ∧ State.reset.otp = ⟨0, 0, 0, false, [], 0, [], false⟩ ∧ State.reset.wire = [] ∧ State.reset.pending = [] ∧ State.reset.raw = [] ∧
  State.reset.safe = true

/-- Every command completes in every state, whatever its operands: no command of the table stops the block.
Readings of the model that it rests on: log entry 2. -/
def Obligations.EveryCommandCompletes : Prop := ∀ (c : Instr) (s : State), ∃ t, exec c s = .next t ∧ t.pending = s.pending

/-! ### Invariants of every step -/

/-- The memory keeps its canonical form under every command and every step. Readings of the model that it rests on: log entry 3. -/
def Obligations.MemoryCanonical : Prop :=
  (∀ (c : Instr) (s t : State), Memory.wf s.mem = true → exec c s = .next t → Memory.wf t.mem = true) ∧
  (∀ s t : State, Memory.wf s.mem = true → step s = .next t → Memory.wf t.mem = true)

/-- Under every command, the operation under way stays one that the device state can have, and SAFE is due only in RUN. -/
def Obligations.OperationFitsKept : Prop :=
  ∀ (c : Instr) (s t : State), s.opFits = true → exec c s = .next t → t.opFits = true

/-- The device changes its state only as R40's table lists, whatever the command: a warm reset asked for in RUN, which R412 carries out
as a stop followed by the reset, is the one command that goes through two of its moves.
Readings of the model that it rests on: log entry 65. -/
def Obligations.DeviceStateTable : Prop :=
  ∀ (c : Instr) (s t : State), s.opFits = true → exec c s = .next t →
    t.dev = s.dev ∨ (s.dev, t.dev) ∈ r40Moves ∨ (c = .stopDone ∧ s.dev = .run ∧ t.dev = .boot ∧ (∃ x y, s.op = .stopping 1 x y))

/-- No command clears a fuse or changes a key that is programmed. -/
def Obligations.FusesNeverClear : Prop := ∀ (c : Instr) (s t : State), exec c s = .next t → FusesKept s.otp t.otp

/-- No command touches the queue of waiting commands, and none takes back what the device has sent.
Readings of the model that it rests on: log entries 6, 7. -/
def Obligations.QueueAndWireKept : Prop :=
  ∀ (c : Instr) (s t : State), exec c s = .next t → t.pending = s.pending ∧ ∃ sent, t.wire = sent ++ s.wire

/-- The count of ticks goes up by one at a TICK_BOUNDARY while ticks run, and in BOOT, where the Plumb unit evaluates its slots once a tick
period before the ticks begin (R46, R192); no other command changes it. Readings of the model that it rests on: log entry 4. -/
def Obligations.TicksCount : Prop :=
  ∀ (c : Instr) (s t : State), exec c s = .next t →
    t.tg = (match c with
      | .tickBoundary _ _ => if s.ticking ∨ (s.dev = .boot ∧ s.plls.clockLost = false) then s.tg + 1 else s.tg
      | _ => s.tg)

/-! ### Registers, events, protection -/

/-- A register field reads what was last written to it, cut to its width; every other field and every other instance reads as
before; and a counter that counts n stops at its largest value, then sets PG_STATUS.SAT_SEEN of its page, and never wraps (R480).
Readings of the model that it rests on: log entry 85. -/
def Obligations.RegisterStore : Prop :=
  ∀ (s : State) (f g : Fld) (v i j i' j' : Nat),
    (s.put f v i j).get f i j = v % 2 ^ f.width ∧
    (f.base ≠ g.base ∨ i % 65536 ≠ i' % 65536 ∨ j % 65536 ≠ j' % 65536 → (s.put f v i j).get g i' j' = s.get g i' j') ∧
    (f.base ≠ R.PG_STATUS_SAT_SEEN.base →
      (s.bumpBy f v i j).get f i j = min (s.get f i j + v) (2 ^ f.width - 1) ∧
      (2 ^ f.width - 1 ≤ s.get f i j + v → (s.bumpBy f v i j).flag R.PG_STATUS_SAT_SEEN (f.pageOf i) = true) ∧
      RegsOnly [f, R.PG_STATUS_SAT_SEEN] s (s.bumpBy f v i j))

/-- A write to an RWS field changes its page's shadow and nothing else: the page holds a pending change, a read of the field returns
the shadow value, no other page's pending changes differ, and the value in force stays. A word written to the shadow crosspoint bank
changes that word of the bank and nothing else that can be read: no register, no other byte, no byte of the active bank.
Commands that it says complete: registerWrite. -/
def Obligations.ShadowWrite : Prop :=
  (∀ (s : State) (f : Fld) (v i j : Nat), f.acc = .rws → f.base < 2 ^ 32 →
    let t := s.writeField f i j v
    t = { s with shadow := t.shadow } ∧ t.pendOf (f.pageOf i) ≠ [] ∧ t.shGet f i j = v % 2 ^ f.width ∧ t.get f i j = s.get f i j ∧
    ∀ p, p ≠ f.pageOf i → t.pendOf p = s.pendOf p) ∧
  (∀ (s : State) (who : Initiator) (a v : Word), 0x08040000 ≤ a.toNat → a.toNat < 0x08060000 → a.toNat % 4 = 0 →
    s.takes who a.toNat = true → s.get R.XPM_STATUS_ACTIVE_BANK < 2 → s.flag R.XPM_STATUS_COPY_BUSY = false →
    s.pagePending 0x38 = false → s.svcBlocked who 0x38 = false → s.pairBlocked who 0x38 = false →
    ∃ t, exec (.registerWrite who a v) s = .next t ∧ t.regs = s.regs ∧ t.shadow = s.shadow ∧ t.mix.written = true ∧
      t.word (bankBase (1 - s.activeBank) + (a.toNat - 0x08040000)) = v.toNat ∧
      ∀ x, x < bankBase (1 - s.activeBank) + (a.toNat - 0x08040000) ∨ bankBase (1 - s.activeBank) + (a.toNat - 0x08040000) + 4 ≤ x →
        t.byte x = s.byte x)

/-- Raising an event sets its sticky and raw bits whatever its enable, leaves every other event's, and records the event and the tick
in EVT_LAST. It writes no other register than those of the log and of a denied access, and no byte outside the log's next record.
Readings of the model that it rests on: log entry 50. -/
def Obligations.EventRaised : Prop :=
  ∀ (s : State) (e d : Nat), e < 96 → d < 96 → d ≠ e →
    let t := s.raise e
    t.sticky e = true ∧ t.rawBit e = true ∧ t.sticky d = s.sticky d ∧ t.rawBit d = s.rawBit d ∧
    t.get R.EVT_LAST_EVENT = e ∧ t.get R.EVT_LAST_TICK_TICK = s.tickNum % 2 ^ 32 ∧
    t = { s with regs := t.regs, mem := t.mem, raw := t.raw, logged := t.logged, host := t.host } ∧
    (∀ (g : Fld) (i j : Nat), (∀ f ∈ eventFlds, f.base ≠ g.base) → t.get g i j = s.get g i j) ∧
    (∀ a, a < s.logAddr ∨ s.logAddr + 16 ≤ a → t.byte a = s.byte a)

/-- With the log enabled and an event in its mask, the first raise of the event in a tick, and any raise while no ticks run, writes one record
of four words at the log's head, or, where protection denies it, none; the head and the sequence advance either way. No other raise touches
the log. Readings of the model that it rests on: log entry 50. -/
def Obligations.EventLogRecord : Prop :=
  ∀ (s : State) (e : Nat), e < 96 →
    let t := s.raise e
    let logs := s.flag R.EVT_LOG_CTRL_EN && s.bit R.EVT_LOG_MASK_MASK (e % 32) (e / 32) && !s.loggedNow e
    (logs = true →
      t.get R.EVT_LOG_SEQ = min (s.get R.EVT_LOG_SEQ + 1) (2 ^ 32 - 1) ∧ t.logged = (if s.ticking then (e, s.tg) :: s.logged else s.logged) ∧
      t.get R.EVT_LOG_HEAD_INDEX =
        (if s.get R.EVT_LOG_HEAD_INDEX + 1 ≥ s.get R.EVT_LOG_CTRL_ENTRIES then 0 else s.get R.EVT_LOG_HEAD_INDEX + 1) % 2 ^ R.EVT_LOG_HEAD_INDEX.width ∧
      (s.permits .sp true s.logAddr = true →
        t.word s.logAddr = e + 65536 * eventPage e ∧ t.word (s.logAddr + 4) = s.tickNum % 2 ^ 32 ∧
        t.word (s.logAddr + 8) = s.tickNum / 2 ^ 32 % 2 ^ 16 ∧ t.word (s.logAddr + 12) = t.get R.EVT_LOG_SEQ) ∧
      (s.permits .sp true s.logAddr = false → t.mem = s.mem ∧ t.flag R.PROT_DENY_INFO_VALID = true)) ∧
    (logs = false → t.mem = s.mem ∧ t.logged = s.logged ∧ t.get R.EVT_LOG_SEQ = s.get R.EVT_LOG_SEQ ∧
      t.get R.EVT_LOG_HEAD_INDEX = s.get R.EVT_LOG_HEAD_INDEX)

/-- A command that an initiator gives by writing a register has its effect only where the device hears the initiator, the protection
permits the write and the page is served: unheard it changes nothing, unpermitted it is a denied access, unserved it raises EV_HOST_ERR. -/
def Obligations.CommandAdmission : Prop :=
  ∀ (c : Instr) (s : State) (who : Initiator) (a : Nat), givenAt c = some (who, a) →
    (s.hears who = false → exec c s = .next s) ∧
    (s.hears who = true → s.permits (clsOf who) true a = false → exec c s = .next (s.deny (clsOf who) true a)) ∧
    (s.hears who = true → s.permits (clsOf who) true a = true → s.pageServed a = false → exec c s = .next (s.raise EV_HOST_ERR))

/-- A denied access of any class is counted, the first is captured and later ones leave the capture; a host's raises EV_HOST_ERR and no other
class's does; a service processor's is counted on its own too; no byte of memory outside the event log's next record changes.
Readings of the model that it rests on: log entry 50. -/
def Obligations.DeniedAccess : Prop :=
  ∀ (s : State) (c : Cls) (wr : Bool) (a : Nat),
    let t := s.deny c wr a
    (c = .hq ∨ c = .ib → t.sticky EV_HOST_ERR = true) ∧
    (c ≠ .hq → c ≠ .ib → t.sticky EV_HOST_ERR = s.sticky EV_HOST_ERR ∧ t.mem = s.mem ∧
      t.get R.PROT_DENY_CNT = min (s.get R.PROT_DENY_CNT + 1) (2 ^ R.PROT_DENY_CNT.width - 1)) ∧
    t.flag R.PROT_DENY_INFO_VALID = true ∧
    (s.flag R.PROT_DENY_INFO_VALID = false →
      t.get R.PROT_DENY_ADDR_ADDR = a % 2 ^ 32 ∧ t.get R.PROT_DENY_INFO_CLASS = c.code ∧ t.get R.PROT_DENY_INFO_WRITE = b2n wr) ∧
    (s.flag R.PROT_DENY_INFO_VALID = true →
      t.get R.PROT_DENY_ADDR_ADDR = s.get R.PROT_DENY_ADDR_ADDR ∧ t.get R.PROT_DENY_INFO_CLASS = s.get R.PROT_DENY_INFO_CLASS ∧
      t.get R.PROT_DENY_INFO_WRITE = s.get R.PROT_DENY_INFO_WRITE ∧ t.flag R.PROT_DENY_INFO_VALID = true) ∧
    min (s.get R.PROT_DENY_CNT + 1) (2 ^ R.PROT_DENY_CNT.width - 1) ≤ t.get R.PROT_DENY_CNT ∧
    (c = .sp → t.get R.SVC_DENY_CNT = min (s.get R.SVC_DENY_CNT + 1) (2 ^ R.SVC_DENY_CNT.width - 1)) ∧
    (∀ x, x < s.logAddr ∨ s.logAddr + 16 ≤ x → t.byte x = s.byte x)

/-- With FATAL_IRQ = 1, IRQ0_N is asserted while EVT_FATAL.VALID stands, whatever enables and routes hold, and without VALID only a pending
event routed to it asserts it; every fatal fault sets VALID, in whatever way it comes, so that IRQ0_N is asserted after it; where its ball is
driven, an asserted line is low, and in OFF and in a BOOT that has not ended the ball is high-impedance; the host clears VALID by writing 1; the
reset value of FATAL_IRQ is 1. A corrected error of the shared memory is no fault: it raises its event alone.
Commands that it says complete: registerWrite, fatalFault. -/
def Obligations.FatalIrq : Prop :=
  (∀ s : State, s.flag R.EVT_CTRL_FATAL_IRQ = true → s.flag R.EVT_FATAL_VALID = true → s.irq 0 = true) ∧
  (∀ s : State, s.flag R.EVT_FATAL_VALID = false → s.irq 0 = (List.range 96).any (fun e => s.pendingEv e && s.route e == 0)) ∧
  (∀ (s : State) (c : FatalCause), (s.fatal c).flag R.EVT_FATAL_VALID = true ∧
    ((s.flag R.EVT_CTRL_FATAL_IRQ = true) → (s.fatal c).irq 0 = true)) ∧
  (∀ (s : State) (c : FatalCause), s.dev ≠ .off → c ≠ .clockLoss → c ≠ .smCorrected → exec (.fatalFault c) s =
    .next ((if c = .overTemp then s.put R.TEMP_STATUS_LOGIC_CRIT_SEEN 1 else s).fatal c)) ∧
  (∀ s : State, s.dev ≠ .off → exec (.fatalFault .smCorrected) s = .next (s.raise EV_SM_ECC_CORR)) ∧
  (∀ s : State, s.irq 0 = true → s.dev ≠ .off → s.dev ≠ .boot ∨ s.op = .starting → s.irqDrives 0 = some false) ∧
  (∀ (s : State) (k : Nat), s.dev = .off ∨ s.dev = .boot ∧ s.op ≠ .starting → s.irqDrives k = none) ∧
  (∀ s : State, s.takes .hq 0x01048 = true →
    ∃ t, exec (.registerWrite .hq 0x01048#32 0x80000000#32) s = .next t ∧ t.bit R.EVT_FATAL_VALID 0 = false) ∧
  State.reset.get R.EVT_CTRL_FATAL_IRQ = 1

/-- Every reset records its cause and keeps the causes already recorded, but for power-on, which leaves POR alone: PORST_N, a VDD_CORE
reset, WRST_N, the host's WRESET, the self-reset and the automatic warm reset, a reset asked for in RUN and in SLEEP at the end of the
stop or the wake. The host clears a recorded cause by writing 1 to its bit, and no other.
Commands that it says complete: porstNLow, vddCoreReset, wrstNPulse, wreset, stopDone, wakeDone, registerWrite, selfReset, autoWarmReset. -/
def Obligations.ResetCause : Prop :=
  (∀ s : State, ∃ t, exec (.porstNLow true) s = .next t ∧ t.get R.SYS_RESET_CAUSE_POR = 1 ∧ ∀ k, 1 ≤ k → k < 6 → t.get (causeFld k) = 0) ∧
  (∀ s : State, ∃ t, exec (.porstNLow false) s = .next t ∧ t.get R.SYS_RESET_CAUSE_PORST = 1 ∧
    ∀ k, k ≠ 1 → k < 6 → t.get (causeFld k) = s.get (causeFld k)) ∧
  (∀ s : State, s.dev ≠ .off → ∃ t, exec .vddCoreReset s = .next t ∧ t.get R.SYS_RESET_CAUSE_CORE_UV = 1 ∧
    ∀ k, k < 5 → t.get (causeFld k) = s.get (causeFld k)) ∧
  (∀ (c : Instr) (s : State) (bs : Fin 4),
    (c = .wrstNPulse bs ∧ s.plls.clockLost = false ∧ (s.dev = .ready ∨ s.dev = .held ∨ s.dev = .safe)) ∨
    (c = .wreset .hq bs ∧ s.takes .hq 0x00044 = true ∧ (s.dev = .ready ∨ s.dev = .held ∨ s.dev = .safe)) ∨
    (c = .selfReset bs ∧ s.plls.fatalWait = true ∧ s.dev ≠ .off ∧ s.dev ≠ .run) ∨
    (c = .autoWarmReset bs ∧ s.dev = .safe ∧ s.flag R.EVT_CTRL_AUTO_WRST = true ∧ s.plls.clockLost = false) →
    ∃ t, exec c s = .next t ∧ t.dev = .boot ∧ t.get R.SYS_BOOTSEL_SEL = bs.val ∧
      (let cause := match c with | .wrstNPulse _ => 2 | .wreset _ _ => 3 | _ => 4
       t.get (causeFld cause) = 1 ∧ ∀ k, k ≠ cause → k < 6 → t.get (causeFld k) = s.get (causeFld k))) ∧
  (∀ (s : State) (cause bs : Nat), cause < 6 → (s.dev = .run → s.op = .stopping 1 cause bs → s.safeWait = false →
      (List.range 8).all s.atRest = true → ∃ t, exec .stopDone s = .next t ∧ t.dev = .boot ∧ t.get (causeFld cause) = 1 ∧
        ∀ k, k ≠ cause → k < 6 → t.get (causeFld k) = s.get (causeFld k)) ∧
    (s.dev = .sleep → s.op = .waking 1 cause bs → ∃ t, exec .wakeDone s = .next t ∧ t.dev = .boot ∧ t.get (causeFld cause) = 1 ∧
      ∀ k, k ≠ cause → k < 6 → t.get (causeFld k) = s.get (causeFld k))) ∧
  (∀ (s : State) (v : Word), s.takes .hq 0x00064 = true → ∃ t, exec (.registerWrite .hq 0x00064#32 v) s = .next t ∧
    ∀ k, k < 6 → t.bit (causeFld k) 0 = (s.bit (causeFld k) 0 && !v.getLsbD (causeFld k).lo))

/-! ### Device states -/

/-- What the resets leave. PORST_N low and a VDD_CORE reset: OFF, a lone unit with nothing under way, the fuses and the flash kept,
every other byte unwritten, and every register at its reset value but for the causes of resets (and, of a VDD_CORE reset, what the
supply page keeps). PORST_N's rise with the core up, and the core's return with PORST_N high, take OFF to BOOT with BOOTSEL sampled.
Readings of the model that it rests on: log entry 19.
Commands that it says complete: porstNRise, porstNLow, vddCoreReset, vddCoreResetClear. -/
def Obligations.PowerAndResets : Prop :=
  (∀ (s : State) (removed : Bool), ∃ t, exec (.porstNLow removed) s = .next t ∧
    t.dev = .off ∧ t.role = .solo ∧ t.op = .none ∧ t.porst = true ∧ t.otp = s.otp ∧ t.shadow = [] ∧ t.queue = [] ∧
    (∀ a, t.byte a = if 0x40000000 ≤ a then s.byte a else memDefault a) ∧
    (∀ (f : Fld) (i j : Nat), f.base / 32 ≠ 0x64 → t.get f i j = f.resetAt i)) ∧
  (∀ s : State, s.dev ≠ .off → ∃ t, exec .vddCoreReset s = .next t ∧
    t.dev = .off ∧ t.role = .solo ∧ t.op = .none ∧ t.coreLow = true ∧ t.porst = s.porst ∧ t.otp = s.otp ∧ t.boot.coreUv = true ∧
    t.flag R.SUP_PWR_STATUS_CORE_RESET_SEEN = true ∧ t.queue = [] ∧
    (∀ a, t.byte a = if 0x40000000 ≤ a then s.byte a else memDefault a) ∧
    (∀ (f : Fld) (i j : Nat), f.base / 32 ≠ 0x64 → f.base ≠ R.SUP_PWR_STATUS_CORE_RESET_SEEN.base →
      f.base ≠ R.SUP_LOGIC_STATUS_IOB_33.base → t.get f i j = f.resetAt i)) ∧
  (∀ (s : State) (bs : Fin 4) (io : Bool), s.porst = true → s.coreLow = false → s.dev = .off →
    ∃ t, exec (.porstNRise bs io) s = .next t ∧ t.dev = .boot ∧ t.porst = false ∧ t.get R.SYS_BOOTSEL_SEL = bs.val ∧
      t.flag R.SUP_LOGIC_STATUS_IOB_33 = io ∧ t.flag R.PLLM_CAL_CAL_BUSY = true ∧ t.otp = s.otp ∧ t.role = s.role ∧ t.queue = s.queue) ∧
  (∀ (s : State) (bs : Fin 4), s.coreLow = true → s.dev = .off → s.porst = false →
    ∃ t, exec (.vddCoreResetClear bs) s = .next t ∧ t.dev = .boot ∧ t.coreLow = false ∧ t.get R.SYS_BOOTSEL_SEL = bs.val ∧ t.otp = s.otp)

/-- The boot ROM's rows. With PLL-C's clocks running and the header accepted, the flash mode, dummy cycles and divider and the places of the
blobs are taken from it. The firmware blob is judged: accepted, the 32 regions of PROT are written from the header's records and locked, unless
they are locked already; refused, BOOT ends in HELD with the reason. Then firmware runs and shows its version. The image is judged twice:
accepted, what its sections hold comes into force as at a commit of every page (the shadow that `imgCheck` has laid, the cut lists, the tables,
clips and zone plan in the state it answers), with the image's own registers and HOLD_REASON 0, and BOOT ends in READY, or in RUN at the next
boundary where it starts by itself; refused, BOOT ends in HELD with the reason and EV_CONFIG_REJECT.
Readings of the model that it rests on: log entries 18, 69.
Commands that it says complete: bootRomStart, firmwareLoaded, serviceFirmwareStart, imageReadDone, imageValidationDone, pllmUngate. -/
def Obligations.BootRows : Prop :=
  (∀ (s : State) (ok : Bool), s.dev = .boot → s.boot.stage = 0 → s.op = .none → s.flag R.PLL_STATUS_GATED 1 = false →
    (s.get R.SYS_BOOTSEL_SEL ≠ 1 ∨ s.boot.fromHost = true) →
    (s.boot.fromHost = true → s.loadAreaOk s.boot.base (s.get R.SYS_LOAD_LEN_LEN) = true) → readFails ok s.boot.base = false →
    s.headerOk s.boot.base = true →
    ∃ t, exec (.bootRomStart ok) s = .next t ∧ t.dev = .boot ∧ t.boot.stage = 1 ∧ t.flag R.PLL_STATUS_GATED 1 = false ∧
      t.get R.FL_CFG_MODE = bitsAt (s.le (s.boot.base + 6) 2) 1 0 ∧ t.get R.FL_CFG_DUMMY = bitsAt (s.le (s.boot.base + 6) 2) 7 4 ∧
      t.get R.FL_CFG_DIV = bitsAt (s.le (s.boot.base + 6) 2) 11 8 ∧ t.boot.fwOffset = s.word (s.boot.base + 8) ∧
      t.boot.fwLen = s.word (s.boot.base + 0xC) ∧ t.boot.imgOffset = s.word (s.boot.base + 0x10) ∧
      t.boot.imgLen = s.word (s.boot.base + 0x14) ∧
      RegsOnly [R.FL_CFG_MODE, R.FL_CFG_DUMMY, R.FL_CFG_DIV] { s with boot := t.boot } t) ∧
  (∀ (s : State) (ok : Bool), s.dev = .boot → s.boot.stage = 1 → readFails ok (s.boot.base + s.boot.fwOffset) = false →
    ∃ t, exec (.firmwareLoaded ok) s = .next t ∧ t.otp = s.otp ∧
      (s.firmwareBad (s.boot.base + s.boot.fwOffset) s.boot.fwLen = none → t.dev = .boot ∧ t.boot.stage = 2 ∧ t.mem = s.mem ∧
        t.flag R.PROT_CTRL_LOCK = true ∧ t.boot.fwVersion = s.word (s.boot.base + s.boot.fwOffset + 128) ∧
        (s.flag R.PROT_CTRL_LOCK = true → t.regs = s.regs) ∧
        (s.flag R.PROT_CTRL_LOCK = false → RegsOnly [R.PROT_BASE_VALID, R.PROT_BASE_BASE, R.PROT_SIZE_PAGES, R.PROT_PERM_HQ, R.PROT_PERM_IB,
            R.PROT_PERM_SP, R.PROT_PERM_ENG, R.PROT_PERM_SDMA, R.PROT_PERM_FDMA, R.PROT_CTRL_LOCK] { s with boot := t.boot } t ∧
          ∀ n, n < 32 → let perm := s.word (s.boot.base + 0x20 + 12 * n + 8)
            t.get R.PROT_BASE_VALID n = s.word (s.boot.base + 0x20 + 12 * n) % 2 ∧
            t.get R.PROT_BASE_BASE n = s.word (s.boot.base + 0x20 + 12 * n) / 4096 % 2 ^ R.PROT_BASE_BASE.width ∧
            t.get R.PROT_SIZE_PAGES n = s.word (s.boot.base + 0x20 + 12 * n + 4) % 2 ^ R.PROT_SIZE_PAGES.width ∧
            t.get R.PROT_PERM_HQ n = bitsAt perm 1 0 ∧ t.get R.PROT_PERM_IB n = bitsAt perm 3 2 ∧ t.get R.PROT_PERM_SP n = bitsAt perm 5 4 ∧
            t.get R.PROT_PERM_ENG n = bitsAt perm 7 6 ∧ t.get R.PROT_PERM_SDMA n = bitsAt perm 9 8 ∧
            t.get R.PROT_PERM_FDMA n = bitsAt perm 11 10)) ∧
      (∀ r, s.firmwareBad (s.boot.base + s.boot.fwOffset) s.boot.fwLen = some r →
        t.dev = .held ∧ t.get R.SYS_HOLD_REASON_REASON = r % 256 ∧ t.sticky EV_CONFIG_REJECT = true)) ∧
  (∀ s : State, s.dev = .boot → s.boot.stage = 2 →
    ∃ t, exec .serviceFirmwareStart s = .next t ∧ t.boot.stage = 3 ∧ t.boot.fwValid = true ∧
      t.get R.SVC_FW_VERSION_VERSION = s.boot.fwVersion % 2 ^ 32 ∧ RegsOnly [R.SVC_FW_VERSION_VERSION] { s with boot := t.boot } t) ∧
  (∀ (s : State) (ok : Bool), s.dev = .boot → s.boot.stage = 3 → s.boot.imgOffset ≠ 0 → s.boot.imgLen ≠ 0 →
    readFails ok (s.boot.base + s.boot.imgOffset) = false →
    ∃ t, exec (.imageReadDone ok) s = .next t ∧
      (s.imgRead (s.boot.base + s.boot.imgOffset) s.boot.imgLen = none → t = { s with boot := { s.boot with stage := 4 } }) ∧
      (∀ b, s.imgRead (s.boot.base + s.boot.imgOffset) s.boot.imgLen = some b → t = s.bootFail b)) ∧
  (∀ (s : State) (us : Nat), s.dev = .boot → s.boot.stage = 4 →
    let read := s.imgRead (s.boot.base + s.boot.imgOffset) s.boot.imgLen
    let check := s.imgCheck (s.boot.base + s.boot.imgOffset)
    ∃ u, exec (.imageValidationDone us) s = .next u ∧ u.get R.SYS_BOOT_TIME_US = min us (2 ^ 20 - 1) ∧ u.sticky EV_BOOT_DONE = true ∧
      (∀ (v : State) (cut : Cut), read = none → check = .ok (v, cut) →
        let auto := s.imgAutostart (s.boot.base + s.boot.imgOffset)
        let w := { ((v.pllmUngate).imgInfo (s.boot.base + s.boot.imgOffset)).holdReason (0, 0) with
          dev := (if auto then Dev.boot else Dev.ready), op := (if auto then HostOp.starting else HostOp.none) }
        u = ((((w.withShadow allPages).dropShadow allPages).commitWork { s with shadow := w.shadow, mem := w.mem, mix := w.mix } allPages
          (some cut)).follow.seatRest).bootEnd us ∧
        u.dev = (if auto then .boot else .ready) ∧ u.op = (if auto then .starting else .none)) ∧
      (∀ b, read = some b ∨ (read = none ∧ check = .error b) → u = s.bootHold b us ∧
        u.dev = .held ∧ u.get R.SYS_HOLD_REASON_REASON = b.1 % 256 ∧ u.sticky EV_CONFIG_REJECT = true))

/-- START from READY waits for the boundary, whose START step takes the device into RUN once no commit is pending; in HELD it validates first, and
the end of that gives the same wait, or HELD with a reason and EV_CONFIG_REJECT; STOP ends such a validation, and begins the stop of RUN, whose
end, with every channel at rest, is READY; SLEEP from READY is entered at once. Any other of the three while an operation runs is ignored with
EV_HOST_ERR. Readings of the model that it rests on: log entries 66, 67.
Commands that it says complete: start, startValidationDone, stop, stopDone, sleep. -/
def Obligations.StartStopSleep : Prop :=
  (∀ (s : State) (who : Initiator), s.takes who 0x00044 = true → s.op = .none → s.dev = .ready →
    exec (.start who) s = .next { s with op := .starting }) ∧
  (∀ (s : State) (who : Initiator), s.takes who 0x00044 = true → s.op = .none → s.dev = .held →
    exec (.start who) s = .next { s with op := .startValidating false }) ∧
  (∀ s : State, s.op = .starting → s.queue = [] → s.startNow.dev = .run ∧ s.startNow.op = .none ∧ s.startNow.otp = s.otp) ∧
  (∀ s : State, s.op ≠ .starting ∨ s.queue ≠ [] → s.startNow = s) ∧
  (∀ (s : State) (who : Initiator), s.takes who 0x00044 = true → s.op ≠ .none →
    exec (.start who) s = .next (s.raise EV_HOST_ERR) ∧ exec (.sleep who) s = .next (s.raise EV_HOST_ERR) ∧
    (s.op ≠ .startValidating false → exec (.stop who) s = .next (s.raise EV_HOST_ERR))) ∧
  (∀ s : State, s.op = .startValidating false → s.dev = .held → s.queue = [] → s.validateForce = none →
    ∃ t, exec .startValidationDone s = .next t ∧ t.op = .starting ∧ t.dev = .held ∧ t.mem = s.mem ∧ t.shadow = s.shadow ∧
      t.get R.SYS_HOLD_REASON_REASON = 0) ∧
  (∀ (s : State) (f : Fail), s.op = .startValidating false → s.dev = .held → s.queue = [] → s.validateForce = some f →
    ∃ t, exec .startValidationDone s = .next t ∧ t.op = .none ∧ t.dev = .held ∧ t.sticky EV_CONFIG_REJECT = true ∧
      t.get R.SYS_HOLD_REASON_REASON = f.1.1 % 256) ∧
  (∀ (s : State) (who : Initiator), s.takes who 0x00044 = true → s.op = .none → s.dev = .run →
    ∃ t, exec (.stop who) s = .next t ∧ t.dev = .run ∧ t.op = .stopping 0 0 0 ∧ t.runs = false ∧ t.queue = s.queue ∧ t.otp = s.otp) ∧
  (∀ (s : State) (who : Initiator), s.takes who 0x00044 = true → s.op = .startValidating false →
    exec (.stop who) s = .next { s with op := .startValidating true }) ∧
  (∀ s : State, s.op = .stopping 0 0 0 → s.dev = .run → s.safeWait = false → (List.range 8).all s.atRest = true →
    ∃ t, exec .stopDone s = .next t ∧ t.dev = .ready ∧ t.op = .none ∧ t.svc.running = false ∧ t.otp = s.otp) ∧
  (∀ (s : State) (who : Initiator), s.takes who 0x00044 = true → s.op = .none → s.dev = .ready →
    ∃ t, exec (.sleep who) s = .next t ∧ t.dev = .sleep ∧ t.op = .none ∧ t.queue = [] ∧ t.otp = s.otp ∧ t.ticking = false)

/-- LOAD discards the shadow and the queue and starts to read; its validation, where the image passes, puts in force what its sections hold, as at
a commit of every page (the shadow that `loadCheck` answers with, its cut lists, its tables, clips and zone plan), with the image's own registers
and HOLD_REASON 0, in READY with reason NONE and EV_COMMIT_DONE. Where it fails, HOLD_REASON says why, the shadow is empty, the device is in HELD and
EV_CONFIG_REJECT is raised; no pending write has come into force: from HELD nothing else changes, and from READY nothing but what entering
HELD does. In HELD without valid firmware, LOAD goes back to BOOT and the header at the address of the load area. A flash read of the boot ROM, of
a LOAD or of a clip that times out counts and raises what it must. Readings of the model that it rests on: log entries 56, 62, 68.
Commands that it says complete: load, loadValidationDone, flashReadTimeout. -/
def Obligations.LoadRows : Prop :=
  (∀ (s : State) (who : Initiator), s.takes who 0x00044 = true → s.op = .none → (s.dev = .ready ∨ s.dev = .held ∧ s.boot.fwValid = true) →
    ∃ t, exec (.load who) s = .next t ∧ t.shadow = [] ∧ t.queue = [] ∧ t.dev = s.dev ∧ t.regs = s.regs ∧ t.mem = s.mem ∧
      t.op = .loading (s.get R.SYS_LOAD_ADDR_ADDR) (s.get R.SYS_LOAD_LEN_LEN)) ∧
  (∀ (s : State) (a len : Nat) (ok : Bool), s.op = .loading a len →
    ∃ u, exec (.loadValidationDone ok) s = .next u ∧ u.op = .none ∧
      (∀ (v : State) (cut : Cut), s.loadCheck a len ok = .ok (v, cut) →
        let w := { (v.imgInfo a).holdReason (0, 0) with dev := Dev.ready, op := HostOp.none }
        u = ((((((w.withShadow allPages).dropShadow allPages).commitWork { s with shadow := w.shadow, mem := w.mem, mix := w.mix } allPages
          (some cut)).follow).seatRest).put R.SYS_COMMIT_STATUS_REASON 0).raise EV_COMMIT_DONE ∧
        u.dev = .ready ∧ u.sticky EV_COMMIT_DONE = true ∧ u.get R.SYS_COMMIT_STATUS_REASON = 0) ∧
      (∀ b, s.loadCheck a len ok = .error b → u.dev = .held ∧ u.shadow = [] ∧
        u.get R.SYS_HOLD_REASON_REASON = b.1 % 256 ∧ u.sticky EV_CONFIG_REJECT = true ∧
        u = ((({ s with shadow := [], mix := { s.mix with written := false } }.holdReason b).heldEnter).raise EV_CONFIG_REJECT) ∧
        (s.dev = .held → RaisesOnly [R.SYS_HOLD_REASON_REASON, R.SYS_HOLD_REASON_DETAIL_HI, R.SYS_HOLD_REASON_DETAIL]
          { s with op := .none, shadow := [], mix := { s.mix with written := false } } u))) ∧
  (∀ s : State, s.dev ≠ .held → s.heldEnter = ((({ s with dev := .held, op := .none }.diagAbort.roleLeave.follow).railsEval).egrClear.clkoutLow).put
    R.AVD_STATUS_ADVERTISING 0) ∧
  (∀ (s : State) (who : Initiator), s.takes who 0x00044 = true → s.op = .none → s.dev = .held → s.boot.fwValid = false →
    ∃ t, exec (.load who) s = .next t ∧ t.shadow = [] ∧ t.queue = [] ∧ t.dev = .boot ∧ t.op = .none ∧ t.mem = s.mem ∧
      t.boot = { s.boot with base := s.get R.SYS_LOAD_ADDR_ADDR, fromHost := true, stage := 0 }) ∧
  (∀ s : State, s.dev = .boot → s.op = .none → 0x40000000 ≤ s.boot.base →
    (s.boot.stage ≤ 1 → exec (.flashReadTimeout .boot) s = .next (s.flashErr.bootFailEarly (FLASH_REASON, 0))) ∧
    (s.boot.stage = 3 → exec (.flashReadTimeout .boot) s = .next (s.flashErr.bootFail (FLASH_REASON, 0)))) ∧
  (∀ (s : State) (a len : Nat), s.dev ≠ .boot → s.op = .loading a len → 0x40000000 ≤ a →
    exec (.flashReadTimeout .boot) s = .next (s.flashErr.loadFail (FLASH_REASON, 0))) ∧
  (∀ (s : State) (n : Fin 8192), ((s.inst n.val).play.phase = 1 ∨ (s.inst n.val).play.phase = 2) →
    s.je.cut.descs.any (fun d => d.id == n.val) = true →
    exec (.flashReadTimeout (.clip n)) s = .next (s.flashErr.raise EV_CLIP_UNDERRUN))

/-- The wake sources of SLEEP: the first records itself and begins the wake. A device that wakes already takes no second: a pin and the host's
transaction change nothing, and a matching frame shows its patterns in WAKE_HIT alone (the model's choice, log entry 121); outside SLEEP, with the
wake filter off or on a port without a link they change nothing. The wake ends in READY, or on the way to RUN where AUTOSTART is set.
Commands that it says complete: wakeFilterMatch, gpWake, qspiWake, wakeDone. -/
def Obligations.WakeRows : Prop :=
  (∀ s : State, s.asleep = true → exec .qspiWake s = .next (s.wakeStart 3 0 0 0 0)) ∧
  (∀ (s : State) (pin : Fin 16) (level : Bool), s.asleep = false → exec .qspiWake s = .next s ∧ exec (.gpWake pin level) s = .next s) ∧
  (∀ (s : State) (pin : Fin 16) (level : Bool), s.bit R.SYS_GP_WAKE_EN pin.val = false ∨ s.bit R.SYS_GP_WAKE_LEVEL pin.val ≠ level ∨
    s.bit R.GPIO_OE_OE pin.val = true → exec (.gpWake pin level) s = .next s) ∧
  (∀ (s : State) (port : Fin 8) (f : FrameIn), s.dev = .sleep → (∃ a b c, s.op = .waking a b c) → s.plls.clockLost = false →
    s.flag R.WAKE_CTRL_EN = true → s.link port.val = true →
    ∃ t, exec (.wakeFilterMatch port f) s = .next t ∧ (∀ k, k < 16 → t.bit R.WAKE_HIT_HIT k = (s.wakeMatch port.val f k || s.bit R.WAKE_HIT_HIT k)) ∧
      RegsOnly [R.WAKE_HIT_HIT] s t) ∧
  (∀ (s : State) (port : Fin 8) (f : FrameIn), s.dev ≠ .sleep ∨ s.flag R.WAKE_CTRL_EN = false ∨ s.link port.val = false ∨
    (List.range 16).filter (s.wakeMatch port.val f) = [] → exec (.wakeFilterMatch port f) s = .next s) ∧
  (∀ (s : State) (pin : Fin 16) (level : Bool), s.asleep = true → s.bit R.SYS_GP_WAKE_EN pin.val = true →
    s.bit R.SYS_GP_WAKE_LEVEL pin.val = level → s.bit R.GPIO_OE_OE pin.val = false →
    ∃ t, exec (.gpWake pin level) s = .next t ∧ t.op = .waking 0 0 0 ∧ t.get R.SYS_WAKE_CAUSE_SRC = 2 ∧ t.get R.SYS_WAKE_CAUSE_GP = pin.val ∧
      RegsOnly [R.SYS_WAKE_CAUSE_SRC, R.SYS_WAKE_CAUSE_GP] { s with op := t.op } t) ∧
  (∀ (s : State) (port : Fin 8) (f : FrameIn) (n : Nat) (rest : List Nat), s.asleep = true → s.flag R.WAKE_CTRL_EN = true → s.link port.val = true →
    (List.range 16).filter (s.wakeMatch port.val f) = n :: rest →
    ∃ t, exec (.wakeFilterMatch port f) s = .next t ∧ t.op = .waking 0 0 0 ∧ t.get R.SYS_WAKE_CAUSE_SRC = 1 ∧
      t.get R.WAKE_STATUS_PATTERN = n ∧ t.get R.WAKE_STATUS_PORT = port.val ∧ t.flag R.WAKE_STATUS_VALID = true ∧
      t.bit R.WAKE_HIT_HIT n = true ∧ t.sticky EV_WAKE_MATCH = true ∧ t.dev = .sleep) ∧
  (∀ (s : State) (x y : Nat), s.dev = .sleep → s.op = .waking 0 x y → s.flag R.SYS_IMG_INFO_AUTOSTART = false →
    ∃ t, exec .wakeDone s = .next t ∧ t.dev = .ready ∧ t.op = .none ∧ t.otp = s.otp) ∧
  (∀ (s : State) (x y : Nat), s.dev = .sleep → s.op = .waking 0 x y → s.flag R.SYS_IMG_INFO_AUTOSTART = true →
    ∃ t, exec .wakeDone s = .next t ∧ t.op = .starting ∧ t.dev = .sleep)

/-! ### Ticks and commits -/

/-- The rows of a tick. TICK_BOUNDARY first does what the tick that ends still has to do; then the tick number and the count of ticks go up by
one (the number modulo 2^48), the raw bits whose time is over clear, and the measurements, the boundary's changes and the work of the new tick follow
in that order on exactly that state; an epoch, where it is set already, keeps the number. The window rows open the window, agree on presence and
end it; a raw bit clears at its own expiry once a whole tick has shown it, or at once where no ticks showed it; and the boundary rows first do what the
tick that ends still has to do, then their part of the boundary as of the tick that begins, leaving the tick number to TICK_BOUNDARY. In BOOT,
where media time has not begun, TICK_BOUNDARY evaluates the Plumb unit's slots alone.
Readings of the model that it rests on: log entries 4, 49.
Commands that it says complete: tickBoundary, evtRawExpiry, cutListWindowStart, presenceAgreement, engineDeadline, commitTakeEffect,
pllmUngate, safeEntry, roleChange. -/
def Obligations.TickRows : Prop :=
  (∀ (s : State) (refs : List RefMeas) (meas : List Meas), s.ticking = true →
    let u := s.deadline []
    let b : State := { u with
      tg := s.tg + 1, tickNum := (s.tickNum + 1) % 2 ^ 48, win := .overhead
      logged := u.logged.filter (fun r => r.2 == s.tg + 1)
      brace := { u.brace with clips := u.brace.clipsTo, clipsTo := [], mine := [] }
      raw := u.raw.filter (fun r => decide (s.tg + 1 < r.2.1 + if r.2.2 then 2 else 3)) }
    let c := (meas.foldl State.measure b.hostPoll.egressAll).rxIdleTick
    ∃ t, exec (.tickBoundary refs meas) s = .next t ∧ t = (c.boundaryChanges refs).tickWork ∧
      t.tg = s.tg + 1 ∧ t.win = .overhead ∧ t.otp = s.otp ∧ t.pending = s.pending) ∧
  (∀ (s : State) (refs : List RefMeas) (meas : List Meas), s.ticking = false →
    exec (.tickBoundary refs meas) s = .next (if s.dev = .boot ∧ s.plls.clockLost = false then { s with tg := s.tg + 1 }.plumbTick refs else s)) ∧
  (∀ s : State, s.flag R.TICK_STATUS_EPOCH_VALID = true → s.epochIfDue = s) ∧
  (∀ (s : State) (faults : List EngFault) (ecc : List EccErr), s.ticking = true → s.win = .overhead →
    ∃ t, exec (.cutListWindowStart faults ecc) s = .next t ∧ t.win = .window ∧ t.tg = s.tg ∧ t.tickNum = s.tickNum ∧ t.dev = s.dev) ∧
  (∀ s : State, s.ticking = true → exec .presenceAgreement s = .next (s.windowOpen [] []).agree) ∧
  (∀ (s : State) (late : List EngLate), s.ticking = true →
    ∃ t, exec (.engineDeadline late) s = .next t ∧ t.win = .kerf ∧ t.tg = s.tg ∧ t.tickNum = s.tickNum ∧ t.dev = s.dev) ∧
  (∀ (s : State) (e : Fin 96) (n : Nat) (b : Bool), s.raw = [(e.val, n, b)] → s.ticking = false ∨ b = false ∨ n + 1 ≤ s.tg →
    exec (.evtRawExpiry e) s = .next { s with raw := [] }) ∧
  (∀ s : State, s.ticking = true → s.safeWait = true → s.dev = .run →
    ∃ t, exec .safeEntry s = .next t ∧ t.dev = .safe ∧ t.op = .none ∧ t.safeWait = false ∧ t.tg = s.tg ∧ t.tickNum = s.tickNum) ∧
  (∀ s : State, s.ticking = true →
    exec .commitTakeEffect s = .next ((s.deadline []).atBoundary (fun u => u.safeEnter.takeResults.takeCommits))) ∧
  (∀ s : State, s.ticking = true → exec .roleChange s = .next ((s.deadline []).atBoundary State.roleTick)) ∧
  (∀ (s : State) (f : State → State), let b := f { s with tg := s.tg + 1, tickNum := (s.tickNum + 1) % 2 ^ 48 }
    s.atBoundary f = { b with tg := s.tg, tickNum := s.tickNum }) ∧
  (∀ s : State, s.powered = true → s.plls.ungateWait = true →
    ∃ t, exec .pllmUngate s = .next t ∧ t.pllmGated = false ∧ t.plls.ungateWait = false ∧ t.tg = s.tg)

/-- Arming puts the page's commit at the end of the queue, and a group commit every page with a pending change that the initiator may arm,
together; a page whose commit is pending, that the table does not list, or that the initiator may not arm, is refused with EV_HOST_ERR; validation
judges the oldest commit that waits and either schedules it two ticks ahead or rejects it, but waits where the pair's active decides or its
standby has not acknowledged. Readings of the model that it rests on: log entry 2.
Commands that it says complete: arm, groupCommit, commitValidated. -/
def Obligations.CommitRows : Prop :=
  (∀ (s : State) (who : Initiator) (p : Fin 256), s.takes who (p.val * 4096 + 0xc) = true → pageListed p.val = true →
    s.pagePending p.val = false → s.pairBlocked who p.val = false → s.svcBlocked who p.val = false →
    ∃ t, exec (.arm who p) s = .next t ∧
      t.queue = s.queue ++ [⟨[p.val], who == .sp && p.val == 0x38, .queued, none⟩] ∧ t.regs = s.regs ∧ t.shadow = s.shadow ∧ t.mem = s.mem) ∧
  (∀ (s : State) (who : Initiator) (p : Fin 256), s.takes who (p.val * 4096 + 0xc) = true → s.pagePending p.val = true ∨
    pageListed p.val = false ∨ s.pairBlocked who p.val = true ∨ s.svcBlocked who p.val = true →
    exec (.arm who p) s = .next (s.raise EV_HOST_ERR)) ∧
  (∀ (s : State) (who : Initiator), s.takes who 0x000c8 = true →
    ∃ t, exec (.groupCommit who) s = .next t ∧
      t.queue = s.queue ++ [⟨s.groupPages who, who == .sp && s.groupPages who == [0x38], .queued, none⟩] ∧
      t.regs = s.regs ∧ t.shadow = s.shadow ∧ t.mem = s.mem ∧
      ∀ p, p ∈ s.groupPages who ↔ p < 256 ∧ s.pageChanged p = true ∧ s.pagePending p = false ∧ s.pairBlocked who p = false ∧
        s.svcBlocked who p = false) ∧
  (∀ (s : State) (c : Commit) (k : Nat), s.nextQueued = some (c, k) → s.awaits c = true ∨ s.unacked c = true →
    exec .commitValidated s = .next s) ∧
  (∀ (s : State) (c : Commit) (k : Nat), s.nextQueued = some (c, k) → s.awaits c = false → s.unacked c = false → s.dev ≠ .off →
    exec .commitValidated s = .next ((s.commitResult k c (s.validate c) (s.tg + 2)).resultOut c (s.validate c))) ∧
  (∀ s : State, s.nextQueued = none → exec .commitValidated s = .next s)

/-- When a commit takes effect, the pending writes of its pages come into force, each field at the value last written to its shadow and no other
field changed by it, and what follows from them is computed on exactly that state; their shadow is empty, the commit leaves the queue, and the status
reports it: SYS_COMMIT_STATUS with reason NONE and LAST_OK, and EV_COMMIT_DONE; where SAFE is due at the same boundary, SAFE comes first and rejects
it. A rejected commit leaves the queue, marks its pages, reports its reason and page with EV_COMMIT_REJECTED, and keeps every shadow.
Readings of the model that it rests on: log entries 4, 17.
Commands that it says complete: commitValidated, commitTakeEffect. -/
def Obligations.CommitOutcome : Prop :=
  (∀ (s : State) (c : Commit), s.queue = [c] → c.phase = .scheduled (s.tg + 1) → c.service = false → s.ticking = true → s.win = .kerf →
    s.safeWait = false → s.brace.results = [] →
    ∃ t, exec .commitTakeEffect s = .next t ∧
      (∀ b : State, b = { s with tg := s.tg + 1, tickNum := (s.tickNum + 1) % 2 ^ 48 } →
        t = { ((({ (b.withShadow c.pages).dropShadow c.pages with queue := [] }).commitWork b c.pages c.cut).commitDone c) with
          tg := s.tg, tickNum := s.tickNum }) ∧
      c ∉ t.queue ∧ (∀ p ∈ c.pages, p ≠ 0x38 → t.pendOf p = []) ∧
      t.get R.SYS_COMMIT_STATUS_REASON = 0 ∧ t.flag R.SYS_COMMIT_STATUS_LAST_OK = true ∧ t.sticky EV_COMMIT_DONE = true) ∧
  (∀ (s : State) (pages : List Nat) (p : Pend), p ∈ pages.flatMap s.pendOf →
    (∀ q ∈ pages.flatMap s.pendOf, q.f.key q.i q.j = p.f.key p.i p.j → q = p) →
    (s.withShadow pages).get p.f p.i p.j = p.v % 2 ^ p.f.width) ∧
  (∀ (s : State) (pages : List Nat) (g : Fld) (i j : Nat), (∀ q ∈ pages.flatMap s.pendOf, q.f.key q.i q.j ≠ g.key i j) →
    (s.withShadow pages).get g i j = s.get g i j ∧ s.withShadow pages = { s with regs := (s.withShadow pages).regs }) ∧
  (∀ (s : State) (c : Commit), s.queue = [c] → c.phase = .scheduled (s.tg + 1) → c.service = false → s.ticking = true → s.win = .kerf →
    s.safeWait = true → s.dev = .run →
    ∃ t, exec .commitTakeEffect s = .next t ∧ t.dev = .safe ∧ c ∉ t.queue ∧ t.sticky EV_COMMIT_REJECTED = true ∧
      ∀ p ∈ c.pages, p < 256 → t.flag R.PG_SHADOW_REJECTED p = true) ∧
  (∀ (s : State) (c : Commit) (f : Fail), s.queue = [c] → c.phase = .queued → c.service = false → s.awaits c = false → s.unacked c = false →
    s.dev ≠ .off → s.validate c = .error f →
    ∃ t, exec .commitValidated s = .next t ∧ t.queue = [] ∧ t.shadow = s.shadow ∧
      (∀ p ∈ c.pages, p < 256 → t.flag R.PG_SHADOW_REJECTED p = true) ∧ t.flag R.SYS_COMMIT_STATUS_LAST_OK = false ∧
      t.get R.SYS_COMMIT_STATUS_REASON = f.1.1 % 2 ^ R.SYS_COMMIT_STATUS_REASON.width ∧
      t.get R.SYS_COMMIT_STATUS_PAGE = f.2 % 2 ^ R.SYS_COMMIT_STATUS_PAGE.width ∧ t.sticky EV_COMMIT_REJECTED = true) ∧
  (∀ (s : State) (c : Commit) (cut : Option Cut), s.queue = [c] → c.phase = .queued → s.mirrors = false → s.awaits c = false → s.dev ≠ .off →
    s.validate c = .ok cut →
    exec .commitValidated s = .next { s with queue := [{ c with phase := .scheduled (s.tg + 2), cut := cut }] })

/-! ### The host's paths -/

/-- A write of a read-write register (here SYS_GP_WAKE) reaches its fields at their widths and nothing else; a write of a shadowed one (here
RTP_IPADDR) reaches the shadow alone; a write of shared memory reaches its word alone. CNT_CLR puts the counters of its page back to their
reset value, and SRST does so too and clears its W1C fields. A QSPI read of one word of shared memory outside the seat state area returns the word
and changes nothing, a QSPI write of one word stores it; the status byte holds the error bit, the sleep bit and zeros.
Readings of the model that it rests on: log entries 59, 63.
Commands that it says complete: cntClr, srst, registerWrite, qspiRead, qspiWrite, qspiQread, qspiQwrite, qspiStatus. -/
def Obligations.HostAccess : Prop :=
  (∀ (s : State) (v : Word), s.takes .hq 0x00070 = true →
    ∃ t, exec (.registerWrite .hq 0x00070#32 v) s = .next t ∧ t.get R.SYS_GP_WAKE_EN = v.toNat % 65536 ∧
      t.get R.SYS_GP_WAKE_LEVEL = v.toNat / 65536 ∧ RegsOnly [R.SYS_GP_WAKE_EN, R.SYS_GP_WAKE_LEVEL] s t) ∧
  (∀ (s : State) (v : Word), s.takes .hq 0x23044 = true → s.pagePending 0x23 = false → s.pairBlocked .hq 0x23 = false →
    exec (.registerWrite .hq 0x23044#32 v) s = .next (s.shPut R.RTP_IPADDR_ADDR v.toNat)) ∧
  (∀ (s : State) (who : Initiator) (a v : Word), 0x10000000 ≤ a.toNat → a.toNat < 0x11000000 → s.takes who a.toNat = true →
    exec (.registerWrite who a v) s = .next (s.setWord a.toNat v.toNat)) ∧
  (∀ (s : State) (who : Initiator) (p : Fin 256) (f : Fld), cntClrOf p.val = some f → s.takes who (p.val * 4096 + f.off) = true →
    ∃ t, exec (.cntClr who p) s = .next t ∧ t = { s with regs := t.regs, mem := t.mem } ∧ (p.val ≠ 0x38 → t.mem = s.mem) ∧
      ∀ g ∈ counters, g.onPage p.val = true → ∀ j, t.get g (p.val - g.page) j = g.resetAt (p.val - g.page)) ∧
  (∀ (s : State) (who : Initiator) (p : Fin 256), s.takes who (p.val * 4096 + 4) = true → pageListed p.val = true →
    ∃ t, exec (.srst who p) s = .next t ∧ t = { s with regs := t.regs, mem := t.mem } ∧ (p.val ≠ 0x38 → t.mem = s.mem) ∧
      (∀ g ∈ counters, g.onPage p.val = true → ∀ j, t.get g (p.val - g.page) j = g.resetAt (p.val - g.page)) ∧
      (∀ g ∈ pageFields p.val, g.acc = .w1c → g.onPage p.val = true → g.rst = 0 → ∀ j, t.get g (p.val - g.page) j = 0) ∧
      (p.val = 0 → t.get R.SYS_RESET_CAUSE_POR = 0)) ∧
  (∀ (s : State) (tx : QspiTx), tx.count = 1 → tx.late = [] → tx.partialWord = false → tx.addr.toNat % 4 = 0 →
    s.hears .hq = true → s.permits .hq false tx.addr.toNat = true → 0x10000000 ≤ tx.addr.toNat → tx.addr.toNat < 0x11000000 →
    s.inSeatArea tx.addr.toNat = false →
    (tx.opcode = 0x0B → exec (.qspiRead tx) s = .next (s.send (.qspi [BitVec.ofNat 32 (s.word tx.addr.toNat)]))) ∧
    (tx.opcode = 0xEB → exec (.qspiQread tx) s = .next (s.send (.qspi [BitVec.ofNat 32 (s.word tx.addr.toNat)])))) ∧
  (∀ (s : State) (tx : QspiTx) (w : Word), tx.words = [w] → tx.partialWord = false → tx.addr.toNat % 4 = 0 →
    s.takes .hq tx.addr.toNat = true → 0x10000000 ≤ tx.addr.toNat → tx.addr.toNat < 0x11000000 →
    (tx.opcode = 0x02 → exec (.qspiWrite tx) s = .next (s.setWord tx.addr.toNat w.toNat)) ∧
    (tx.opcode = 0x38 → exec (.qspiQwrite tx) s = .next (s.setWord tx.addr.toNat w.toNat))) ∧
  (∀ s : State, s.dev ≠ .off → s.plls.clockLost = false →
    ∃ b, exec .qspiStatus s = .next (s.send (.qspiStatus b)) ∧ b.toNat =
      2 * b2n (s.flag R.HQ_STATUS_LATE || s.flag R.HQ_STATUS_ALIGN_ERR || s.flag R.HQ_STATUS_PARTIAL) + 4 * b2n (s.dev == .sleep))

/-- A fence that the host opens ends with EV_FENCE_DONE, and one that is not open does not end; the frames that wait at an in-band slot's fence are
answered OK as it ends, in their order; a GPIO edge shows on its pin, and with its event configured and not recorded yet, it records and raises EV_GPIO.
Readings of the model that it rests on: log entry 64.
Commands that it says complete: fenceStart, fenceDone, gpioEdge. -/
def Obligations.FenceRows : Prop :=
  (∀ (s : State) (who : Initiator), s.takes who 0x000c0 = true →
    exec (.fenceStart who) s = .next (s.setFence who ((Sparse.find s.host.fences (whoIdx who)).getD []))) ∧
  (∀ s : State, (Sparse.find s.host.fences (whoIdx .hq)).isSome = true →
    ∃ t, exec (.fenceDone .hq) s = .next t ∧ Sparse.find t.host.fences (whoIdx .hq) = none ∧ t.sticky EV_FENCE_DONE = true ∧
      t.wire = s.wire ∧ t.dev = s.dev) ∧
  (∀ (s : State) (k : Fin 4) (l : List (Nat × Peer)), Sparse.find s.host.fences (whoIdx (.ib k)) = some l →
    exec (.fenceDone (.ib k)) s = .next (l.foldl (fun u x => u.ocdorSend k.val x.2 131 x.1 0 0 [])
      ({ s with host := { s.host with fences := Sparse.erase s.host.fences (whoIdx (.ib k)) } }.raise EV_FENCE_DONE))) ∧
  (∀ (s : State) (who : Initiator), Sparse.find s.host.fences (whoIdx who) = none →
    exec (.fenceDone who) s = .next s) ∧
  (∀ (s : State) (pin : Fin 16) (level : Bool), s.dev ≠ .off → s.plls.clockLost = false → s.bit R.GPIO_IN_IN pin.val = !level →
    ∃ t, exec (.gpioEdge pin level) s = .next t ∧ t.bit R.GPIO_IN_IN pin.val = level ∧
      ((if level then s.bit R.GPIO_EV_CFG_RISE pin.val else s.bit R.GPIO_EV_CFG_FALL pin.val) = true → s.bit R.GPIO_EV_SRC_EDGE pin.val = false →
        t.bit R.GPIO_EV_SRC_EDGE pin.val = true ∧ t.sticky EV_GPIO = true) ∧
      ((if level then s.bit R.GPIO_EV_CFG_RISE pin.val else s.bit R.GPIO_EV_CFG_FALL pin.val) = false →
        t = s.putBit R.GPIO_IN_IN pin.val level))

/-- An in-band request: a frame whose tag is right under its slot, of the session and with a count above the last, has its effect, and
the answer carries OK: a READ of one word of shared memory outside the seat state area with the word, a WRITE of one once it is stored, a
SUBSCRIBE once its slot holds the mask and the peer; a FENCE waits for its end. Of all four, a wrong tag counts and is dropped, a stale count or
another session is counted and answered STALE, a malformed request is answered 2, and outside READY, RUN and SAFE nothing is heard.
Readings of the model that it rests on: log entries 8, 60, 96.
Commands that it says complete: ocdorRead, ocdorWrite, ocdorFence, ocdorSubscribe. -/
def Obligations.OcdorRows : Prop :=
  (∀ (s : State) (f : OcdorFrame), s.netUp = true → s.tagOk f = true → f.session.toNat = s.get R.SEC_IB_SESSION_SESSION →
    (∀ n, (s.slot f.slot.toNat).last = some n → n < f.replay.toNat) → f.addr.toNat % 4 = 0 → f.version = 1 →
    let t := s.setSlot f.slot.toNat { s.slot f.slot.toNat with last := some f.replay.toNat }
    (f.op = 1 → f.count = 1 → 0x10000000 ≤ f.addr.toNat → f.addr.toNat < 0x11000000 → s.permits .ib false f.addr.toNat = true →
      s.inSeatArea f.addr.toNat = false → exec (.ocdorRead f) s = .next (t.ocdorAnswer f 0 [s.word f.addr.toNat])) ∧
    (∀ w, f.op = 2 → f.count = 1 → f.data = [w] → 0x10000000 ≤ f.addr.toNat → f.addr.toNat < 0x11000000 →
      s.permits .ib true f.addr.toNat = true →
      exec (.ocdorWrite f) s = .next ((t.setWord f.addr.toNat w.toNat).ocdorAnswer f 0 [])) ∧
    (f.op = 3 → f.count ≤ 256 → exec (.ocdorFence f) s = .next (t.setFence (ocdorWho f) (((Sparse.find s.host.fences (whoIdx (ocdorWho f))).getD []) ++ [(f.seq.toNat, ocdorPeer f)]))) ∧
    (∀ a b c : Word, f.op = 4 → f.count = 3 → f.data = [a, b, c] → exec (.ocdorSubscribe f) s = .next ((t.setSlot f.slot.toNat
      { t.slot f.slot.toNat with mask := a.toNat + b.toNat * 2 ^ 32 + c.toNat * 2 ^ 64, peer := ocdorPeer f, waiting := [] }).ocdorAnswer f 0 []))) ∧
  (∀ (s : State) (f : OcdorFrame), s.netUp = false → ∀ c ∈ [Instr.ocdorRead f, .ocdorWrite f, .ocdorFence f, .ocdorSubscribe f],
    exec c s = .next s) ∧
  (∀ (s : State) (f : OcdorFrame), s.netUp = true → s.tagOk f = false →
    ∀ c ∈ [Instr.ocdorRead f, .ocdorWrite f, .ocdorFence f, .ocdorSubscribe f],
      exec c s = .next ((s.bump R.SEC_IB_AUTH_FAIL_CNT).raise EV_INBAND_AUTH_FAIL)) ∧
  (∀ (s : State) (f : OcdorFrame), s.netUp = true → s.tagOk f = true →
    f.session.toNat ≠ s.get R.SEC_IB_SESSION_SESSION ∨ (∃ n, (s.slot f.slot.toNat).last = some n ∧ f.replay.toNat ≤ n) →
    ∀ c ∈ [Instr.ocdorRead f, .ocdorWrite f, .ocdorFence f, .ocdorSubscribe f],
      exec c s = .next (((s.bump R.SEC_IB_REPLAY_CNT).raise EV_INBAND_AUTH_FAIL).ocdorAnswer f 3 [])) ∧
  (∀ (s : State) (f : OcdorFrame), s.netUp = true → s.tagOk f = true → f.session.toNat = s.get R.SEC_IB_SESSION_SESSION →
    (∀ n, (s.slot f.slot.toNat).last = some n → n < f.replay.toNat) →
    let t := s.setSlot f.slot.toNat { s.slot f.slot.toNat with last := some f.replay.toNat }
    ∀ c ∈ [(Instr.ocdorRead f, 1), (.ocdorWrite f, 2), (.ocdorFence f, 3), (.ocdorSubscribe f, 4)],
      f.version ≠ 1 ∨ f.op.toNat ≠ c.2 ∨ f.addr.toNat % 4 ≠ 0 ∨ 256 < f.count → exec c.1 s = .next (t.ocdorAnswer f 2 []))

/-! ### References and loops -/

/-- The reference rows. LOCKOUT takes the written value at once. An edge of PPS_IN or WCLK_INk gives every slot that names that source a
fresh offset, and presence where its period lies within 1,000 ppm of the slot's rate, and touches no other slot; the edges' absence takes
presence and offset away. A slot that has passed for QUAL_TIME becomes QUALIFIED. The end of the wait-to-restore lets the next evaluation
select that very slot, the better one, where selection reverts, and a change of the selection is recorded with EV_PLUMB_REF_CHANGE.
Readings of the model that it rests on: log entry 24.
Commands that it says complete: refLockout, refQualified, wtrExpiry, ppsInEdge, ppsInAbsent, wclkInEdge, wclkInAbsent. -/
def Obligations.ReferenceRows : Prop :=
  (∀ (s : State) (who : Initiator) (slot : Fin 8) (on : Bool), s.takes who (0x09040 + 32 * slot.val) = true →
    ∃ t, exec (.refLockout who slot on) s = .next t ∧ t.flag R.REF_CFG_LOCKOUT slot.val = on ∧ RegsAt [R.REF_CFG_LOCKOUT] slot.val s t) ∧
  (∀ (s : State) (c : Instr) (src period : Nat) (o : Int), s.plumbOn = true →
    (c = .ppsInEdge period o ∧ src = 11) ∨ (∃ k : Fin 2, c = .wclkInEdge k period o ∧ src = 9 + k.val) →
    ∃ t, exec c s = .next t ∧ t = { s with plumb := t.plumb } ∧ ∀ n, n < 8 →
      t.ref n = if s.get R.REF_CFG_SOURCE n = src then
        { s.ref n with
          edges := decide (999000000000 ≤ period * s.edgeHz n ∧ period * s.edgeHz n ≤ 1001000000000)
          fresh := some o }
      else s.ref n) ∧
  (∀ (s : State) (c : Instr) (src : Nat), s.plumbOn = true →
    (c = .ppsInAbsent ∧ src = 11) ∨ (∃ k : Fin 2, c = .wclkInAbsent k ∧ src = 9 + k.val) →
    ∃ t, exec c s = .next t ∧ t = { s with plumb := t.plumb } ∧ ∀ n, n < 8 →
      t.ref n = if s.get R.REF_CFG_SOURCE n = src then { s.ref n with edges := false, fresh := none } else s.ref n) ∧
  (∀ (s : State) (n : Fin 8), s.plumbOn = true → s.get R.REF_STATUS_STATE n.val = 1 → s.flag R.REF_CFG_LOCKOUT n.val = false →
    s.get R.REF_QUAL_QUAL_TIME n.val * 6000 ≤ s.tg + 1 - (s.ref n.val).passAt →
    ∃ t, exec (.refQualified n) s = .next t ∧ t.get R.REF_STATUS_STATE n.val = 2 ∧ t.get R.REF_STATUS_QUAL_REMAIN n.val = 0 ∧
      t.ref n.val = { s.ref n.val with qualAt := s.tg + 1 } ∧
      RegsAt [R.REF_STATUS_STATE, R.REF_STATUS_QUAL_REMAIN] n.val { s with plumb := t.plumb } t) ∧
  (∀ (s : State) (b : Nat), s.netUp = true → s.bestRef s.cands = some b → s.wtrOver b (s.tg + 1) = true →
    exec .wtrExpiry s = .next { s with plumb := { s.plumb with wtrDone := some b } } ∧
    (s.sel ≠ 15 → s.cands.contains s.sel = true → s.get R.REF_CFG_PRIORITY b < s.get R.REF_CFG_PRIORITY s.sel →
      { s with plumb := { s.plumb with wtrDone := some b } }.selectRef = if s.flag R.PLUMB_CTRL_REVERTIVE then b else s.sel)) ∧
  (∀ (s : State) (new : Nat), new < 16 → new ≠ s.sel → let t := s.selChange new
    t.sel = new ∧ t.get R.PLUMB_LAST_CHANGE_FROM = s.sel ∧ t.get R.PLUMB_LAST_CHANGE_TO = new ∧ t.flag R.PLUMB_LAST_CHANGE_VALID = true ∧
    t.sticky EV_PLUMB_REF_CHANGE = true ∧ t.tg = s.tg ∧ t.tickNum = s.tickNum)

/-- The unit leaves ACQUIRE for LOCKED, or for PULLING where its correction saturates; HOLD_EST moves by 1 / HOLD_AVG of its distance from
the mean of the f_hat of the second that ends; an aligned output steps at its next natural boundary, where O_k is 0 and STEPPED shows, and
no other does; REEPOCH ends the epoch in READY and HELD, clears the far-offset failures alone and leaves every enabled gate schedule without
time, with EV_TAS_ERR; anywhere else it is ignored with EV_HOST_ERR. Readings of the model that it rests on: log entries 25, 102, 103.
Commands that it says complete: reepoch, acquireDone, holdEstUpdate, clkoutAlign. -/
def Obligations.PlumbRows : Prop :=
  (∀ s : State, s.netUp = true → s.get R.PLUMB_STATUS_STATE = 1 → s.sel ≠ 15 → 240000 / s.bw10 ≤ s.tg + 1 - s.plumb.acqAt →
    ∃ t, exec .acquireDone s = .next t ∧
      t.get R.PLUMB_STATUS_STATE = (if s.corrTerm.natAbs = s.slope.natAbs then 3 else 2) ∧ RegsOnly [R.PLUMB_STATUS_STATE] s t) ∧
  (∀ s : State, s.get R.PLUMB_STATUS_STATE = 2 → s.netUp = true → 6000 ≤ s.plumb.holdTicks →
    let mean := s.plumb.fhats.sum.fdiv s.plumb.fhats.length
    ∃ t, exec (.holdEstUpdate ()) s = .next t ∧
      t.plumb = { s.plumb with
        holdEst := s.plumb.holdEst + (mean - s.plumb.holdEst).fdiv (s.get R.PLUMB_HOLD_CFG_HOLD_AVG : Nat), holdTicks := 0 } ∧
      t.getI R.PLUMB_HOLD_EST_EST = satTo R.PLUMB_HOLD_EST_EST.width (t.plumb.holdEst.fdiv 100) ∧
      (s.get R.PLUMB_HOLD_CFG_HOLD_AVG * 6000 ≤ s.plumb.lockedTicks → t.flag R.PLUMB_STATUS_HOLD_VALID = true) ∧
      RegsOnly [R.PLUMB_HOLD_EST_EST, R.PLUMB_STATUS_HOLD_VALID] { s with plumb := t.plumb } t) ∧
  (∀ (s : State) (who : Initiator) (mask : Fin 64), s.takes who 0x0d048 = true →
    ∃ t, exec (.clkoutAlign who mask) s = .next t ∧ t = { s with plumb := { s.plumb with clks := t.plumb.clks } } ∧
      ∀ k, k < 6 → t.clk k = { s.clk k with step := bitAt mask.val k || (s.clk k).step }) ∧
  (∀ (s : State) (k : Nat), k < 6 → (s.clk k).step = true →
    s.clkNext k (max (8192 * s.tickNum) (s.clk k).quiet) < 8192 * s.tickNum + 8192 → let t := s.clkTick k
    t.alignOf k = 0 ∧ t.bit R.CLKOUT_STATUS_STEPPED k = true ∧ (t.clk k).step = false ∧
      ∀ m, m < 6 → m ≠ k → t.alignOf m = s.alignOf m ∧ t.bit R.CLKOUT_STATUS_STEPPED m = s.bit R.CLKOUT_STATUS_STEPPED m) ∧
  (∀ (s : State) (who : Initiator), s.takes who 0x48054 = true → (s.dev = .ready ∨ s.dev = .held) →
    ∃ t, exec (.reepoch who) s = .next t ∧ t.flag R.TICK_STATUS_EPOCH_VALID = false ∧
      (∀ n, n < 8 → t.get R.REF_STATUS_FAIL_CAUSE n =
        if s.get R.REF_STATUS_STATE n = 3 ∧ s.get R.REF_STATUS_FAIL_CAUSE n = 5 then 0 else s.get R.REF_STATUS_FAIL_CAUSE n) ∧
      (∀ p, p < 6 → s.flag R.TSN_TAS_CTRL_EN p = true → s.flag R.TSN_TAS_STATUS_NO_TIME p = false →
        t.flag R.TSN_TAS_STATUS_NO_TIME p = true ∧ t.flag R.TSN_TAS_STATUS_OPER p = false ∧ t.get R.TSN_TAS_STATUS_GATES p = 255 ∧
        t.sticky EV_TAS_ERR = true) ∧
      ((∀ p, p < 6 → s.flag R.TSN_TAS_CTRL_EN p = false) → RegsOnly [R.TICK_STATUS_EPOCH_VALID, R.REF_STATUS_FAIL_CAUSE] s t)) ∧
  (∀ (s : State) (who : Initiator), s.takes who 0x48054 = true → s.dev ≠ .ready → s.dev ≠ .held →
    exec (.reepoch who) s = .next (s.raise EV_HOST_ERR))

/-- The lock rows. FLOCK comes with a count within tolerance; PLOCK comes with FLOCK once the phase error has stayed within PHASE_WIN for
PLOCK_N cycles, records how long it took and, of PLL-M, asks for the ungate of the next boundary, of PLL-C, ends its gate; a count out of tolerance takes FLOCK and PLOCK away and gates the outputs, and of
PLL-C stops the Truss clock; a phase error alone takes PLOCK and leaves the gate; a lost reference takes both loops that share it; the
ceiling trips PLL-M; the clock mute ends on every channel, and the tone of a sweep is sent again.
Readings of the model that it rests on: log entries 26, 55, 81.
Commands that it says complete: pllRefLost, pllFlockSet, pllFlockClear, pllPlockSet, pllPlockClear, pllmCeilingTrip, clkMuteRelease. -/
def Obligations.PllLockRows : Prop :=
  (∀ (s : State) (count : Nat), s.powered = true → s.pllInTol .c count = true →
    ∃ t, exec (.pllFlockSet .c count) s = .next t ∧ t.flag R.PLL_STATUS_FLOCK 1 = true ∧ t.flag R.PLL_STATUS_REF_LOST 1 = false ∧
      t.get R.PLL_FCOUNT 1 = count % 2 ^ 20 ∧ t.get R.PLL_FEXPECT_EXPECT 1 = 66667 ∧
      RegsAt [R.PLL_STATUS_FLOCK, R.PLL_STATUS_REF_LOST, R.PLL_FCOUNT, R.PLL_FEXPECT_EXPECT] 1 s t) ∧
  (∀ (s : State) (count : Nat), s.powered = true → s.pllInTol .c count = false → s.flag R.PLL_STATUS_FLOCK 1 = true →
    s.flag R.PLL_STATUS_GATED 1 = false →
    ∃ t, exec (.pllFlockClear .c count) s = .next t ∧ t.flag R.PLL_STATUS_FLOCK 1 = false ∧ t.flag R.PLL_STATUS_PLOCK 1 = false ∧
      t.flag R.PLL_STATUS_GATED 1 = true ∧ t.plls.clockLost = true ∧ t.ticking = false ∧
      RegsOnly [R.PLL_FCOUNT, R.PLL_FEXPECT_EXPECT, R.PLL_STATUS_FLOCK, R.PLL_STATUS_PLOCK, R.PLL_STATUS_UNLOCK_SEEN, R.PLL_UNLOCK_CNT,
        R.PG_STATUS_SAT_SEEN, R.PLL_STATUS_GATED] { s with plls := t.plls } t) ∧
  (∀ (s : State) (count : Nat), s.powered = true → s.pllInTol .m count = false → s.flag R.PLL_STATUS_FLOCK 0 = true →
    ∃ t, exec (.pllFlockClear .m count) s = .next t ∧ t.flag R.PLL_STATUS_FLOCK 0 = false ∧ t.flag R.PLL_STATUS_PLOCK 0 = false ∧
      t.pllmGated = true ∧ t.plls.ungateWait = false ∧ SameCore s t) ∧
  (∀ (s : State) (ph : PhaseRun), s.pllRuns .m = true → s.flag R.PLL_STATUS_FLOCK 0 = true → s.flag R.PLL_STATUS_PLOCK 0 = false →
    s.get R.PLL_LOCK_CFG_PLOCK_N 0 ≤ ph.cycles → ph.worst ≤ 100 * s.get R.PLL_LOCK_CFG_PHASE_WIN 0 →
    ph.ps.natAbs ≤ 100 * s.get R.PLL_LOCK_CFG_PHASE_WIN 0 →
    ∃ t, exec (.pllPlockSet .m ph) s = .next t ∧ t.flag R.PLL_STATUS_PLOCK 0 = true ∧
      t.get R.PLL_LOCK_TIME_US 0 = ph.us % 2 ^ R.PLL_LOCK_TIME_US.width ∧ t.getI R.PLL_PHASE_PS 0 = satTo R.PLL_PHASE_PS.width ph.ps ∧
      t.sticky EV_PLLM_UNLOCK = true ∧ t.plls.ungateWait = (s.pllmGated || s.plls.ungateWait) ∧
      RaisesOnly [R.PLL_STATUS_PLOCK, R.PLL_LOCK_TIME_US, R.PLL_PHASE_PS] { s with plls := t.plls } t) ∧
  (∀ (s : State) (ph : PhaseRun), s.powered = true →
    (ph.cycles < s.get R.PLL_LOCK_CFG_PLOCK_N 0 ∨ 100 * s.get R.PLL_LOCK_CFG_PHASE_WIN 0 < ph.worst) →
    ∃ t, exec (.pllPlockSet .m ph) s = .next t ∧ RegsOnly [R.PLL_PHASE_PS] s t) ∧
  (∀ (s : State) (ph : PhaseRun), s.powered = true → s.flag R.PLL_STATUS_FLOCK 1 = true → s.flag R.PLL_STATUS_PLOCK 1 = false →
    s.get R.PLL_LOCK_CFG_PLOCK_N 1 ≤ ph.cycles → ph.worst ≤ 100 * s.get R.PLL_LOCK_CFG_PHASE_WIN 1 →
    ph.ps.natAbs ≤ 100 * s.get R.PLL_LOCK_CFG_PHASE_WIN 1 →
    ∃ t, exec (.pllPlockSet .c ph) s = .next t ∧ t.flag R.PLL_STATUS_PLOCK 1 = true ∧ t.flag R.PLL_STATUS_GATED 1 = false ∧
      t.plls.clockLost = false ∧ t.sticky EV_PLLC_UNLOCK = true ∧
      (s.plls.clockLost = true → t.plls.fatalWait = true ∧ t.flag R.EVT_FATAL_VALID = true)) ∧
  (∀ (s : State) (ps : Int), s.powered = true → s.flag R.PLL_STATUS_PLOCK 0 = true → 100 * s.get R.PLL_LOCK_CFG_PHASE_WIN 0 < ps.natAbs →
    ∃ t, exec (.pllPlockClear .m ps) s = .next t ∧ t.flag R.PLL_STATUS_PLOCK 0 = false ∧ t.flag R.PLL_STATUS_UNLOCK_SEEN 0 = true ∧
      t.sticky EV_PLLM_UNLOCK = true ∧ t.pllmGated = s.pllmGated ∧ t.flag R.PLL_STATUS_FLOCK 0 = s.flag R.PLL_STATUS_FLOCK 0) ∧
  (∀ (s : State) (l : LoopId), s.powered = true → (l = .c ∨ l = .m) →
    ∃ t, exec (.pllRefLost l) s = .next t ∧ SameCore s t ∧ ∀ k, k < 2 → t.flag R.PLL_STATUS_REF_LOST k = true ∧
      t.flag R.PLL_STATUS_REF_LOST_SEEN k = true ∧ t.flag R.PLL_STATUS_FLOCK k = false ∧ t.flag R.PLL_STATUS_PLOCK k = false ∧
      t.flag R.PLL_STATUS_GATED k = true) ∧
  (∀ (s : State) (count : Nat), s.powered = true → s.pllmGated = false → 512 < count →
    ∃ t, exec (.pllmCeilingTrip count) s = .next t ∧ t.pllmGated = true ∧ t.flag R.PLL_STATUS_FLOCK 0 = false ∧
      t.get R.PLLM_CEIL_CNT = min (s.get R.PLLM_CEIL_CNT + 1) (2 ^ R.PLLM_CEIL_CNT.width - 1)) ∧
  (∀ s : State, s.powered = true → s.flag R.PLL_STATUS_PLOCK 0 = true → s.pllmGated = false → s.power.pllLost = true →
    s.power.linkLost = false →
    ∃ t, exec .clkMuteRelease s = .next t ∧ t.clockError = false ∧ (∀ n, n < 8 → t.flag R.PCH_STATUS_CLK_MUTE n = false) ∧
      (∀ n, s.diag.cur = some n → 3 ≤ s.diag.step → s.diag.step ≤ 8 → n < 8 → (s.toneSpec (s.diag.step - 3)).peak ≠ 0 →
        t.wire = .tone n (s.toneSpec (s.diag.step - 3)) :: s.wire) ∧
      RegsOnly [R.PCH_STATUS_CLK_MUTE] { s with power := t.power, wire := t.wire } t)

/-- Calibration of PLL-M gates its outputs and takes its locks, whether the host starts it in READY or HELD or the device repeats it for want
of a band; elsewhere, and while one runs, it is ignored with EV_HOST_ERR. Its end gives an enabled entry the range measured, and ends the busy bit.
Commands that it says complete: pllmCal, pllmCalDone, pllmBandRetry. -/
def Obligations.PllmCalRows : Prop :=
  (∀ (s : State) (who : Initiator), s.takes who 0x0a080 = true → (s.dev = .ready ∨ s.dev = .held) → s.flag R.PLLM_CAL_CAL_BUSY = false →
    ∃ t, exec (.pllmCal who) s = .next t ∧ t.flag R.PLLM_CAL_CAL_BUSY = true ∧ t.flag R.PLL_STATUS_FLOCK 0 = false ∧
      t.flag R.PLL_STATUS_PLOCK 0 = false ∧ t.pllmGated = true ∧ SameCore s t) ∧
  (∀ (s : State) (who : Initiator), s.takes who 0x0a080 = true → (s.dev ≠ .ready ∧ s.dev ≠ .held) ∨ s.flag R.PLLM_CAL_CAL_BUSY = true →
    exec (.pllmCal who) s = .next (s.raise EV_HOST_ERR)) ∧
  (∀ s : State, s.powered = true → s.flag R.PLLM_BAND_NO_BAND = true → s.flag R.PLLM_CAL_CAL_BUSY = false → s.dev ≠ .sleep →
    ∃ t, exec .pllmBandRetry s = .next t ∧ t.flag R.PLLM_CAL_CAL_BUSY = true ∧ t.flag R.PLL_STATUS_FLOCK 0 = false ∧
      t.flag R.PLL_STATUS_PLOCK 0 = false ∧ t.pllmGated = true ∧ SameCore s t) ∧
  (∀ (s : State) (lo hi : Nat), s.flag R.PLLM_CAL_CAL_BUSY = true → s.flag R.PLLM_BAND_CFG_EN 0 = true →
    ∃ t, exec (.pllmCalDone [(lo, hi)]) s = .next t ∧ t.flag R.PLLM_CAL_CAL_BUSY = false ∧
      t.get R.PLLM_BAND_LO_MHZ 0 = lo % 2 ^ R.PLLM_BAND_LO_MHZ.width ∧ t.get R.PLLM_BAND_HI_MHZ 0 = hi % 2 ^ R.PLLM_BAND_HI_MHZ.width ∧
      t.flag R.PLLM_BAND_LO_CAL_VALID 0 = true ∧
      RegsOnly [R.PLLM_CAL_CAL_BUSY, R.PLLM_BAND_LO_MHZ, R.PLLM_BAND_HI_MHZ, R.PLLM_BAND_LO_CAL_VALID, R.PLLM_BAND_BAND,
        R.PLLM_BAND_NO_BAND] s t)

/-! ### Ports and bridge -/

/-- Links. A link comes up at the speed that its mode gives it and goes down with its speed and its queued frames, the other ports' being kept
where no gate schedule operates, each with the change bit, its event and
an admission pass due; a change of SGMII's resolved speed makes a pass due without the link going down or a frame leaving its queue, but one too long for a gate; a poll, which waits for an access
under way, reads register 1 of the PHY, in Clause 45 after addressing it, shows what the PHY reads, and one that reads
down takes the link down. Readings of the model that it rests on: log entries 13, 31.
Commands that it says complete: linkUp, linkDown, phyPoll, linkSpeedChange. -/
def Obligations.LinkRows : Prop :=
  (∀ (s : State) (p : Fin 8) (speed : Fin 7) (pause : Fin 4), s.powered = true → s.laneOn p.val = true → s.link p.val = false →
    s.modeSpeed p.val speed.val ≠ 0 → s.flag R.MAC_PHY_POLL_EN p.val = false →
    ∃ t, exec (.linkUp p speed pause) s = .next t ∧ t.link p.val = true ∧ t.get R.MAC_STATUS_SPEED p.val = s.modeSpeed p.val speed.val ∧
      t.flag R.MAC_STATUS_LINK_CHG p.val = true ∧ t.sticky (EV_LINK_P0 + p.val) = true ∧ t.str.passDue = true ∧
      (∀ q, q < 8 → q ≠ p.val → t.link q = s.link q) ∧ SameCore s t) ∧
  (∀ (s : State) (p : Fin 8), s.powered = true → s.link p.val = true →
    ∃ t, exec (.linkDown p) s = .next t ∧ t.link p.val = false ∧ t.get R.MAC_STATUS_SPEED p.val = 0 ∧
      t.flag R.MAC_STATUS_LINK_CHG p.val = true ∧ t.sticky (EV_LINK_P0 + p.val) = true ∧ t.str.passDue = true ∧
      (∀ e ∈ t.net.egr, e ∈ s.net.egr ∧ e.port ≠ p.val) ∧
      ((∀ q, q < 6 → s.flag R.TSN_TAS_STATUS_OPER q = false) → t.net.egr = s.net.egr.filter (fun e => e.port != p.val)) ∧ (∀ q, q < 8 → q ≠ p.val → t.link q = s.link q) ∧ SameCore s t) ∧
  (∀ (s : State) (p : Fin 8) (speed : Fin 7), s.powered = true → s.link p.val = true → s.portMode p.val = 5 →
    s.flag R.MAC_CTRL_AN_EN p.val = true → 1 ≤ speed.val → speed.val ≤ 3 → s.get R.MAC_STATUS_SPEED p.val ≠ speed.val →
    ∃ t, exec (.linkSpeedChange p speed) s = .next t ∧ t.link p.val = true ∧ t.get R.MAC_STATUS_SPEED p.val = speed.val ∧
      t.str.passDue = true ∧
      ((∀ q, q < 6 → s.flag R.TSN_TAS_STATUS_OPER q = false) → t.net.egr = s.net.egr) ∧ SameCore s t) ∧
  (∀ (s : State) (p : Fin 8), s.powered = true → s.dev ≠ .sleep → p.val < 6 → s.flag R.MAC_PHY_POLL_EN p.val = true →
    s.flag R.MDIO_CMD_BUSY = false →
    (∃ t, exec (.phyPoll p true) s = .next t ∧ t.flag R.MAC_PHY_PHY_LINK p.val = true ∧
      t.wire = (if s.flag R.MAC_PHY_CL45 p.val then
        [.mdio 4 (s.get R.MAC_PHY_PHY_ADDR p.val) 1 0, .mdio 2 (s.get R.MAC_PHY_PHY_ADDR p.val) 1 1]
        else [.mdio 0 (s.get R.MAC_PHY_PHY_ADDR p.val) 1 0]) ++ s.wire ∧
      RegsAt [R.MAC_PHY_PHY_LINK] p.val { s with wire := t.wire } t) ∧
    (∃ t, exec (.phyPoll p false) s = .next t ∧ t.flag R.MAC_PHY_PHY_LINK p.val = false ∧ t.link p.val = false)) ∧
  (∀ (s : State) (p : Fin 8) (up : Bool), s.flag R.MDIO_CMD_BUSY = true → exec (.phyPoll p up) s = .next s)

/-- A received frame. A bad one counts under its own counter: code error first, then runt, then oversize, then FCS; one that the device
state does not take is discarded and counted. An accepted frame counts, and a class-A or class-B frame with one egress port that the bridge
neither filters, learns, recovers nor takes for itself joins that port's queue, once, behind what waits there, as the egress port sends
it, its own FCS left to that port. Readings of the model that it rests on: log entry 86.
Commands that it says complete: macFrameRx. -/
def Obligations.FrameReception : Prop :=
  (∀ (s : State) (p : Fin 8) (f : FrameIn), s.dev ≠ .off → s.dev ≠ .sleep → s.plls.clockLost = false → s.link p.val = true →
    (f.symErr = true → ∃ t, exec (.macFrameRx p f) s = .next t ∧ t.flag R.MAC_ERR_SRC_SYM p.val = true ∧
      t.get R.SYM_ERR_CNT p.val = min (s.get R.SYM_ERR_CNT p.val + 1) (2 ^ R.SYM_ERR_CNT.width - 1) ∧ t.net.egr = s.net.egr) ∧
    (f.symErr = false → f.bytes.length < 64 → ∃ t, exec (.macFrameRx p f) s = .next t ∧ t.flag R.MAC_ERR_SRC_RUNT p.val = true ∧
      t.get R.RUNT_CNT p.val = min (s.get R.RUNT_CNT p.val + 1) (2 ^ R.RUNT_CNT.width - 1) ∧ t.net.egr = s.net.egr) ∧
    (f.symErr = false → 64 ≤ f.bytes.length → s.sizeLimit p.val (tagCount f.bytes) < f.bytes.length →
      ∃ t, exec (.macFrameRx p f) s = .next t ∧ t.flag R.MAC_ERR_SRC_OVERSIZE p.val = true ∧
      t.get R.OVERSIZE_CNT p.val = min (s.get R.OVERSIZE_CNT p.val + 1) (2 ^ R.OVERSIZE_CNT.width - 1) ∧ t.net.egr = s.net.egr) ∧
    (f.symErr = false → 64 ≤ f.bytes.length → f.bytes.length ≤ s.sizeLimit p.val (tagCount f.bytes) → f.fcsOk = false →
      ∃ t, exec (.macFrameRx p f) s = .next t ∧ t.flag R.MAC_ERR_SRC_FCS p.val = true ∧
      t.get R.FCS_ERR_CNT p.val = min (s.get R.FCS_ERR_CNT p.val + 1) (2 ^ R.FCS_ERR_CNT.width - 1) ∧ t.net.egr = s.net.egr) ∧
    (f.symErr = false → 64 ≤ f.bytes.length → f.bytes.length ≤ s.sizeLimit p.val (tagCount f.bytes) → f.fcsOk = true →
      (s.netUp = false → exec (.macFrameRx p f) s = .next (s.bump R.STATE_DISC_CNT p.val)) ∧
      (s.netUp = true → ∃ t, exec (.macFrameRx p f) s = .next t ∧
        t.get R.RX_OK_CNT p.val = min (s.get R.RX_OK_CNT p.val + 1) (2 ^ R.RX_OK_CNT.width - 1) ∧ SameCore s t))) ∧
  (∀ (s : State) (p : Fin 8) (f : FrameIn) (q : Nat), s.netUp = true → s.link p.val = true → f.symErr = false → f.fcsOk = true →
    64 ≤ f.bytes.length → f.bytes.length ≤ s.sizeLimit p.val (tagCount f.bytes) →
    let h := s.hdr p.val f.bytes
    let tc := s.frameTc f.bytes h
    let out := s.egressBytes q (f.bytes.take (f.bytes.length - 4)) h
    h.et ≠ 0x8808 → isReservedDa h.da = false → s.member h.vid p.val = true → s.streamFilter p.val h = none →
    s.flag R.BR_CTRL_LEARN_EN = false → s.isAudioTc tc = true → s.poolUsed p.val true + f.bytes.length ≤ s.poolSize p.val true →
    s.forwardSet p.val f.bytes h = [q] → s.toInternal h = false → s.frerEntry h = none →
    s.tasOversize q tc (out.length + 4) = false →
    ∃ t, exec (.macFrameRx p f) s = .next t ∧ t.net.egr = s.net.egr ++ [⟨s.net.nextFid, q, tc, out.length + 4, p.val, true, .frame out⟩])

/-- Pause. A PAUSE with a time pauses the port with its event, one with none releases it, and P6 and P7 count every MAC control frame as
unknown, each an accepted frame, while BOOT and HELD discard and count it; a received pause ends with its time; an asserted pause is sent again above the low mark, and cancelled with quanta 0 at it.
Commands that it says complete: pauseRefresh, pauseCancel, pauseRx, pauseTimerExpiry. -/
def Obligations.PauseRows : Prop :=
  (∀ (s : State) (p : Fin 8) (f : PauseFrame) (q : Nat), s.netUp = true → s.link p.val = true → p.val < 6 →
    s.macControlDa p.val f.da.toNat = true → f.opcode = 1 → f.quanta = [q] → s.get R.MAC_CTRL_PAUSE_HONOUR p.val ≠ 2 →
    ∃ t, exec (.pauseRx p f) s = .next t ∧ t.flag R.MAC_STATUS_RX_PAUSED p.val = decide (q ≠ 0) ∧
      t.get R.PAUSE_RX_CNT p.val = min (s.get R.PAUSE_RX_CNT p.val + 1) (2 ^ R.PAUSE_RX_CNT.width - 1) ∧
      t.get R.RX_OK_CNT p.val = min (s.get R.RX_OK_CNT p.val + 1) (2 ^ R.RX_OK_CNT.width - 1) ∧
      (q ≠ 0 → s.flag R.MAC_STATUS_RX_PAUSED p.val = false → t.sticky EV_PAUSE_RCVD = true)) ∧
  (∀ (s : State) (p : Fin 8) (f : PauseFrame), s.netUp = true → s.link p.val = true → 6 ≤ p.val →
    exec (.pauseRx p f) s = .next ((s.bump R.RX_OK_CNT p.val).bump R.MACCTL_UNK_CNT p.val)) ∧
  (∀ (s : State) (p : Fin 8) (f : PauseFrame), s.dev = .boot ∨ s.dev = .held → s.plls.clockLost = false → s.link p.val = true →
    exec (.pauseRx p f) s = .next (s.bump R.STATE_DISC_CNT p.val)) ∧
  (∀ (s : State) (p : Fin 8), s.powered = true →
    (∃ t, exec (.pauseTimerExpiry p none) s = .next t ∧ t.flag R.MAC_STATUS_RX_PAUSED p.val = false ∧
      RegsAt [R.MAC_STATUS_RX_PAUSED] p.val s t) ∧
    ∀ k : Fin 8, ∃ t, exec (.pauseTimerExpiry p (some k)) s = .next t ∧ RegsAt [R.MAC_STATUS_PFC_PAUSED] p.val s t ∧
      ∀ j, j < 8 → t.bit R.MAC_STATUS_PFC_PAUSED j p.val = (s.bit R.MAC_STATUS_PFC_PAUSED j p.val && j != k.val)) ∧
  (∀ (s : State) (p : Fin 8), s.netUp = true → s.link p.val = true → s.flag R.MAC_STATUS_TX_PAUSE_ACTIVE p.val = true → p.val < 6 →
    s.get R.MAC_CTRL_PAUSE_GEN p.val = 1 →
    (s.get R.MAC_WATERMARK_LOW_PCT p.val * s.poolSize p.val false < s.poolUsed p.val false * 100 → ∃ t, exec (.pauseRefresh p) s = .next t ∧
      t.wire = .net p.val (.pause 1 0 (s.get R.MAC_PAUSE_CFG_QUANTA p.val)) :: s.wire ∧
      t.flag R.MAC_STATUS_TX_PAUSE_ACTIVE p.val = true ∧ RegsOnly [R.PAUSE_TX_CNT, R.TX_OK_CNT, R.PG_STATUS_SAT_SEEN] { s with wire := t.wire } t) ∧
    (s.poolUsed p.val false * 100 ≤ s.get R.MAC_WATERMARK_LOW_PCT p.val * s.poolSize p.val false → ∃ t, exec (.pauseCancel p) s = .next t ∧
      t.wire = .net p.val (.pause 1 0 0) :: s.wire ∧ t.flag R.MAC_STATUS_TX_PAUSE_ACTIVE p.val = false ∧
      RegsOnly [R.PAUSE_TX_CNT, R.TX_OK_CNT, R.PG_STATUS_SAT_SEEN, R.MAC_STATUS_TX_PAUSE_ACTIVE] { s with wire := t.wire } t))

/-- MDIO: an access goes out as it was asked for and sets BUSY; while one runs, another is ignored with EV_HOST_ERR; its end clears BUSY,
and a read's result, and no write's, appears in MDIO_DATA.
Commands that it says complete: mdioC22Read, mdioC22Write, mdioC45Address, mdioC45Write, mdioC45Read, mdioDone. -/
def Obligations.MdioRows : Prop :=
  (∀ (s : State) (who : Initiator) (c : Instr) (op : Nat) (phy reg : Fin 32), s.takes who mdioCmdAddr = true →
    (c, op) ∈ [(Instr.mdioC22Read who phy reg, 0), (.mdioC22Write who phy reg, 1), (.mdioC45Address who phy reg, 2),
      (.mdioC45Write who phy reg, 3), (.mdioC45Read who phy reg, 4)] →
    (s.flag R.MDIO_CMD_BUSY = false → ∃ t, exec c s = .next t ∧ t.flag R.MDIO_CMD_BUSY = true ∧
      t.wire = .mdio op phy.val reg.val (s.get R.MDIO_DATA_DATA) :: s.wire ∧ t.get R.MDIO_CMD_OP = op ∧
      t.get R.MDIO_CMD_PHYAD = phy.val ∧ t.get R.MDIO_CMD_REG_DEV = reg.val ∧
      RegsOnly [R.MDIO_CMD_OP, R.MDIO_CMD_PHYAD, R.MDIO_CMD_REG_DEV, R.MDIO_CMD_BUSY] { s with wire := t.wire } t) ∧
    (s.flag R.MDIO_CMD_BUSY = true → exec c s = .next (s.raise EV_HOST_ERR))) ∧
  (∀ (s : State) (d : BitVec 16), s.flag R.MDIO_CMD_BUSY = true →
    ∃ t, exec (.mdioDone d) s = .next t ∧ t.flag R.MDIO_CMD_BUSY = false ∧ RegsOnly [R.MDIO_CMD_BUSY, R.MDIO_DATA_DATA] s t ∧
      t.get R.MDIO_DATA_DATA = if s.get R.MDIO_CMD_OP = 0 ∨ s.get R.MDIO_CMD_OP = 4 then d.toNat else s.get R.MDIO_DATA_DATA)

/-- PLCA. The coordinator's cycle begins with its BEACON; a follower's with the BEACON that it receives, and a coordinator that receives one
has found a duplicate; a lost BEACON ends PLCA on a follower with its fault; in its opportunity a port sends its next frame, and as many
more as the burst count in force since the cycle began; a collision is a
fault where PLCA is active, the frame that was next is tried again, counted on its own, and its sixteenth collision drops it.
Commands that it says complete: plcaBeaconTx, plcaBeaconRx, plcaTxOpportunity, plcaBeaconLost, plcaCollision. -/
def Obligations.PlcaRows : Prop :=
  (∀ (s : State) (k : Fin 2), s.plcaCoordinator k.val = true →
    ∃ t, exec (.plcaBeaconTx k) s = .next t ∧ t.wire = .net (6 + k.val) .beacon :: s.wire ∧ t.get R.PLCA_STATUS_CUR_NODE_ID k.val = 0 ∧
      t.flag R.PLCA_STATUS_COORDINATOR k.val = true ∧ t.flag R.PLCA_STATUS_ACTIVE k.val = true ∧
      t.ph (6 + k.val) = { s.ph (6 + k.val) with burst := s.get R.PLCA_TIMERS_BURST_CNT k.val } ∧ t.net.egr = s.net.egr ∧
      RegsAt [R.PLCA_STATUS_CUR_NODE_ID, R.PLCA_STATUS_COORDINATOR, R.PLCA_STATUS_ACTIVE] k.val { s with wire := t.wire, net := t.net } t) ∧
  (∀ (s : State) (k : Fin 2), s.netUp = true → s.portMode (6 + k.val) = 6 → s.flag R.PLCA_CTRL_EN k.val = true →
    (s.plcaCoordinator k.val = true ∨ s.flag R.PLCA_STATUS_COORDINATOR k.val = true → ∃ t, exec (.plcaBeaconRx k) s = .next t ∧ t.flag R.PLCA_STATUS_DUP_COORD k.val = true ∧
      t.get R.DUP_COORD_CNT k.val = min (s.get R.DUP_COORD_CNT k.val + 1) (2 ^ R.DUP_COORD_CNT.width - 1) ∧
      t.sticky EV_PLCA_FAULT = true) ∧
    (s.plcaCoordinator k.val = false → s.flag R.PLCA_STATUS_COORDINATOR k.val = false → ∃ t, exec (.plcaBeaconRx k) s = .next t ∧ t.flag R.PLCA_STATUS_ACTIVE k.val = true ∧
      t.flag R.PLCA_STATUS_COORDINATOR k.val = false ∧ t.get R.PLCA_STATUS_CUR_NODE_ID k.val = s.plcaNode k.val % 32 ∧
      t.ph (6 + k.val) = { s.ph (6 + k.val) with burst := s.get R.PLCA_TIMERS_BURST_CNT k.val } ∧ t.net.egr = s.net.egr ∧
      RegsAt [R.PLCA_STATUS_CUR_NODE_ID, R.PLCA_STATUS_COORDINATOR, R.PLCA_STATUS_ACTIVE] k.val { s with net := t.net } t)) ∧
  (∀ (s : State) (k : Fin 2), s.netUp = true → s.portMode (6 + k.val) = 6 → s.flag R.PLCA_STATUS_ACTIVE k.val = true →
    s.plcaCoordinator k.val = false → s.flag R.PLCA_STATUS_COORDINATOR k.val = false →
    ∃ t, exec (.plcaBeaconLost k) s = .next t ∧ t.flag R.PLCA_STATUS_ACTIVE k.val = false ∧
      t.flag R.PLCA_STATUS_BEACON_LOST k.val = true ∧ t.sticky EV_PLCA_FAULT = true ∧
      t.get R.BEACON_LOST_CNT k.val = min (s.get R.BEACON_LOST_CNT k.val + 1) (2 ^ R.BEACON_LOST_CNT.width - 1)) ∧
  (∀ (s : State) (k : Fin 2) (e : EgrFrame), s.netUp = true → s.portMode (6 + k.val) = 6 → s.flag R.PLCA_STATUS_ACTIVE k.val = true →
    (s.ph (6 + k.val)).burst = 0 → s.nextEgress (6 + k.val) (s.lineNs (6 + k.val)) = some e →
    ∃ t sent, exec (.plcaTxOpportunity k) s = .next t ∧ t.wire = sent ++ .net (6 + k.val) (s.outgoing e).1 :: s.wire ∧
      t.net.egr = eraseFirst (fun x => x == e) s.net.egr ∧ (t.ph (6 + k.val)).tries e.fid = 0) ∧
  (∀ (s : State) (k : Fin 2), s.netUp = true → s.portMode (6 + k.val) = 6 →
    ∃ t, exec (.plcaCollision k) s = .next t ∧
      (s.flag R.PLCA_STATUS_ACTIVE k.val = true → t.flag R.PLCA_STATUS_UNEXP_COL k.val = true ∧ t.sticky EV_PLCA_FAULT = true) ∧
      (s.nextEgress (6 + k.val) (s.lineNs (6 + k.val)) = none → t.net = s.net) ∧
      ∀ e, s.nextEgress (6 + k.val) (s.lineNs (6 + k.val)) = some e →
        (∀ fid, fid ≠ e.fid → (t.ph (6 + k.val)).tries fid = (s.ph (6 + k.val)).tries fid) ∧
        ((s.ph (6 + k.val)).tries e.fid < 15 → (t.ph (6 + k.val)).tries e.fid = (s.ph (6 + k.val)).tries e.fid + 1 ∧ t.net.egr = s.net.egr) ∧
        (15 ≤ (s.ph (6 + k.val)).tries e.fid → (t.ph (6 + k.val)).tries e.fid = 0 ∧
          t.get R.EXCESS_COL_CNT k.val = min (s.get R.EXCESS_COL_CNT k.val + 1) (2 ^ R.EXCESS_COL_CNT.width - 1) ∧
          t.net.egr = eraseFirst (fun x => x == e) s.net.egr))

/-- The filtering database. A command sets BUSY; at its end a lookup shows what the database holds for the address, a static entry added while
there is room is found, a deleted one is not, a flush leaves static entries alone, and no other address's entry changes but by a flush; a dynamic entry
leaves when its age is out.
Commands that it says complete: fdbLookup, fdbAddStatic, fdbDelete, fdbFlushDynamic, fdbCmdDone, fdbAgeOut. -/
def Obligations.FdbRows : Prop :=
  (∀ (s : State) (who : Initiator) (c : Instr) (op : Nat), s.takes who fdbCmdAddr = true →
    (c, op) ∈ [(Instr.fdbLookup who, 0), (.fdbAddStatic who, 1), (.fdbDelete who, 2), (.fdbFlushDynamic who, 3)] →
    (s.flag R.BR_FDB_CMD_BUSY = false → ∃ t, exec c s = .next t ∧ t.flag R.BR_FDB_CMD_BUSY = true ∧ t.get R.BR_FDB_CMD_OP = op ∧
      RegsOnly [R.BR_FDB_CMD_OP, R.BR_FDB_CMD_BUSY] s t) ∧
    (s.flag R.BR_FDB_CMD_BUSY = true → exec c s = .next (s.raise EV_HOST_ERR))) ∧
  (∀ s : State, s.flag R.BR_FDB_CMD_BUSY = true → let k := fdbKey s.fdbArg.1 s.fdbArg.2
    ∃ t, exec .fdbCmdDone s = .next t ∧ t.flag R.BR_FDB_CMD_BUSY = false ∧
      (s.get R.BR_FDB_CMD_OP = 0 → t.net = s.net ∧
        (∀ e, Sparse.find s.net.fdb k = some e → t.flag R.BR_FDB_DATA_FOUND = true ∧ t.get R.BR_FDB_DATA_PORTS = e.ports % 512 ∧
          t.flag R.BR_FDB_DATA_STATIC = e.static) ∧
        (Sparse.find s.net.fdb k = none → t.flag R.BR_FDB_DATA_FOUND = false ∧ t.flag R.BR_FDB_DATA_STATIC = false)) ∧
      (s.get R.BR_FDB_CMD_OP = 1 → s.net.fdb.length < 8192 → Sparse.find t.net.fdb k = some ⟨s.get R.BR_FDB_DATA_PORTS, true⟩) ∧
      (s.get R.BR_FDB_CMD_OP = 2 → Sparse.find t.net.fdb k = none) ∧
      (s.get R.BR_FDB_CMD_OP < 3 → ∀ k', k' ≠ k → Sparse.find t.net.fdb k' = Sparse.find s.net.fdb k') ∧
      (s.get R.BR_FDB_CMD_OP = 3 → ∀ e ∈ t.net.fdb, e ∈ s.net.fdb ∧ e.2.static = true) ∧
      (s.get R.BR_FDB_CMD_OP = 3 → ∀ e ∈ s.net.fdb, e.2.static = true → e ∈ t.net.fdb)) ∧
  (∀ (s : State) (mac : Mac) (vid : Fin 4096) (e : FdbEntry), s.fdbFind vid.val mac.toNat = some e → s.powered = true →
    s.get R.BR_AGE_SECONDS ≠ 0 → e.static = false →
    ∃ t, exec (.fdbAgeOut mac vid) s = .next t ∧ t.fdbFind vid.val mac.toNat = none ∧
      t.get R.BR_FDB_COUNT_ENTRIES = t.net.fdb.length % 2 ^ 14 ∧
      ∀ k', k' ≠ fdbKey vid.val mac.toNat → Sparse.find t.net.fdb k' = Sparse.find s.net.fdb k')

/-- The host's frame ring, frames of the device's own and the TSN rows. One descriptor up to the tail is judged, where the device owns it:
without the grant it gets status 3; one that names a single port, with that port down, gets 2, and else, in class 7 where there is room, 0
with its frame padded and queued at that port; the head follows the tail. A frame of the device's own joins its port's queue behind what waits, and one too long for the port is dropped and
counted. At its config-change time
a port's admin list operates from its first entry, the queued frames too long for it being dropped, and each interval's end brings the next entry's gates; BLOCKED clears; a recovery
entry whose time is out accepts any frame, counts and reports it. Readings of the model that it rests on: log entries 12, 92.
Commands that it says complete: hostFrameSubmit, tasConfigChange, tasGateAdvance, tsnFilterUnblock, frerResetTimeout. -/
def Obligations.BridgeRows : Prop :=
  (∀ (s : State) (who : Initiator) (tail : Fin 1024), s.takes who 0x180a8 = true → s.flag R.BR_HTX_CTRL_EN = true → s.netUp = true →
    s.get R.BR_HTX_HEAD_INDEX + 1 = tail.val → tail.val < s.get R.BR_HTX_CTRL_ENTRIES →
    let d := s.get R.BR_HTX_BASE_BASE * 4096 + 16 * s.get R.BR_HTX_HEAD_INDEX
    s.owned d = true →
    let buf := s.word d
    let len := s.word (d + 4) % 16384
    let mask := bitsAt (s.word (d + 4)) 23 16
    ∃ t, exec (.hostFrameSubmit who tail) s = .next t ∧ t.get R.BR_HTX_HEAD_INDEX = tail.val ∧ t.get R.BR_HTX_TAIL_INDEX = tail.val ∧
      (s.areaGranted .hq false buf len = false → t.word (d + 12) = 3 ∧ t.net.egr = s.net.egr) ∧
      (s.areaGranted .hq false buf len = true → ∀ p, p < 8 → mask = 2 ^ p → len + 4 ≤ s.sizeLimit p (tagCount (s.bytes buf len)) →
        (s.link p = false → t.word (d + 12) = 2 ∧ t.net.egr = s.net.egr) ∧
        (s.link p = true → s.flag R.TSN_TAS_STATUS_OPER p = false → bitsAt (s.word (d + 4)) 26 24 = 7 →
          s.poolFull p true (max 60 len + 4) = false → t.word (d + 12) = 0 ∧
          t.net.egr = s.net.egr ++ [⟨s.net.nextFid, p, 7, max 60 len + 4, p, true,
            .frame (s.bytes buf len ++ List.replicate (60 - len) 0)⟩]))) ∧
  (∀ (s : State) (who : Initiator) (tail : Fin 1024), s.takes who 0x180a8 = true →
    s.owned (s.get R.BR_HTX_BASE_BASE * 4096 + 16 * s.get R.BR_HTX_HEAD_INDEX) = false →
    exec (.hostFrameSubmit who tail) s = .next (s.put R.BR_HTX_TAIL_INDEX tail.val)) ∧
  (∀ (s : State) (p tc : Nat) (w : Wire), s.takesFrame p tc w = true → s.submit p tc w = s.withFrame p tc w) ∧
  (∀ (s : State) (p tc : Nat) (w : Wire), s.sizeLimit p w.tags < w.len → s.submit p tc w = s.bump R.TXERR_CNT p) ∧
  (∀ (s : State) (p : Fin 8) (base : Nat), s.netUp = true → s.flag R.TICK_STATUS_EPOCH_VALID = true → p.val < 6 →
    (s.ph p.val).tas.changeAt = some base →
    ∃ t, exec (.tasConfigChange p) s = .next t ∧ (t.ph p.val).tas = ⟨s.adminList p.val, base, s.get R.TSN_TAS_CYCLE_NS p.val, 0, none⟩ ∧
      t.flag R.TSN_TAS_STATUS_OPER p.val = true ∧ t.flag R.TSN_TAS_STATUS_PENDING p.val = false ∧
      t.flag R.TSN_TAS_STATUS_NO_TIME p.val = false ∧
      t.get R.TSN_TAS_STATUS_GATES p.val = ((s.adminList p.val).head?.map (·.1)).getD 255 % 256 ∧
      (∀ e ∈ t.net.egr, e ∈ s.net.egr ∧ (e.port = p.val → t.tasOversize p.val e.tc e.len = false)) ∧
      (s.net.egr.all (fun e => e.port != p.val) = true → RegsAt [R.TSN_TAS_STATUS_OPER, R.TSN_TAS_STATUS_PENDING, R.TSN_TAS_STATUS_NO_TIME,
        R.TSN_TAS_STATUS_GATES] p.val { s with net := t.net } t)) ∧
  (∀ (s : State) (p : Fin 8), s.powered = true → s.flag R.TSN_TAS_STATUS_OPER p.val = true → (s.ph p.val).tas.oper ≠ [] →
    ∃ t, exec (.tasGateAdvance p) s = .next t ∧
      (t.ph p.val).tas.idx = (if (s.ph p.val).tas.oper.length ≤ (s.ph p.val).tas.idx + 1 then 0 else (s.ph p.val).tas.idx + 1) ∧
      (∀ e, (s.ph p.val).tas.oper[(t.ph p.val).tas.idx]? = some e → t.get R.TSN_TAS_STATUS_GATES p.val = e.1 % 256) ∧
      RegsAt [R.TSN_TAS_STATUS_GATES] p.val { s with net := t.net } t) ∧
  (∀ (s : State) (who : Initiator) (n : Fin 512), s.takes who 0x190bc = true →
    ∃ t, exec (.tsnFilterUnblock who n) s = .next t ∧ t.flag R.TSN_SF_STATUS_BLOCKED n.val = false ∧
      RegsAt [R.TSN_SF_STATUS_BLOCKED] n.val s t) ∧
  (∀ (s : State) (n : Fin 256), s.netUp = true → s.flag R.FRER_ID_HI_EN n.val = true → (s.frerSt n.val).takeAny = false →
    ∃ t, exec (.frerResetTimeout n) s = .next t ∧ t.frerSt n.val = Frer.init ∧ t.get R.FRER_EVT_ENTRY = n.val ∧
      t.flag R.FRER_EVT_VALID = true ∧ t.sticky EV_FRER_SEQ = true ∧
      t.get R.FRER_RESETS_CNT n.val = min (s.get R.FRER_RESETS_CNT n.val + 1) (2 ^ R.FRER_RESETS_CNT.width - 1))

/-! ### Network time and streams -/

/-- Received PTP messages. Sync and Follow_Up on the slave port give the servo its offset, grandmaster time less ingress time; a two-step
Sync waits for its Follow_Up; the first Announce of a port is kept; a peer-delay request is answered with the time of receipt and then
with the time its response left, a delay request with the time of receipt; and delay responses to the port's own request give the mean
delay. Readings of the model that it rests on: log entries 22, 84.
Commands that it says complete: ptpSyncRx, ptpFollowUpRx, ptpAnnounceRx, ptpPdelayReqRx, ptpPdelayRespRx, ptpDelayReqRx, ptpDelayRespRx. -/
def Obligations.PtpReceive : Prop :=
  (∀ (s : State) (p : Fin 8) (m : PtpMsg), PtpFits s p.val m → s.get R.PTP_PORT_STATUS_STATE p.val = 3 →
    (m.twoStep = true → ∃ t, exec (.ptpSyncRx p m) s = .next t ∧
      (t.ptpSt p.val).sync = some (m.seq.toNat, s.ptpIn p.val m.ns, m.corr) ∧
      RegsOnly [R.PTP_RX_CNT, R.PG_STATUS_SAT_SEEN] { s with ptp := t.ptp } t) ∧
    (m.twoStep = false → ∃ t, exec (.ptpSyncRx p m) s = .next t ∧ (t.ptpSt p.val).sync = none ∧
      t.ptp.offset = (m.ts : Int) + m.corr + s.getI R.PTP_MEAN_DELAY_PS p.val / 1000 - s.ptpIn p.val m.ns ∧
      t.getI R.PTP_OFFSET_NS = satTo 32 t.ptp.offset) ∧
    (∀ (at' corr : Int), (s.ptpSt p.val).sync = some (m.seq.toNat, at', corr) →
      ∃ t, exec (.ptpFollowUpRx p m) s = .next t ∧ (t.ptpSt p.val).sync = none ∧
        t.ptp.offset = (m.ts : Int) + m.corr + corr + s.getI R.PTP_MEAN_DELAY_PS p.val / 1000 - at' ∧
        t.getI R.PTP_OFFSET_NS = satTo 32 t.ptp.offset)) ∧
  (∀ (s : State) (p : Fin 8) (m : PtpMsg) (v : PtpVector), PtpFits s p.val m → m.srcId.toNat ≠ s.clockId → (s.ptpSt p.val).best = none →
    ∃ t, exec (.ptpAnnounceRx p m v) s = .next t ∧ (t.ptpSt p.val).best = some (v, m.srcId) ∧ SameCore s t) ∧
  (∀ (s : State) (p : Fin 8) (m : PtpMsg) (sent : Nat), PtpFits s p.val m → let t := s.bump R.PTP_RX_CNT
    (s.flag R.PTP_CTRL_PROFILE = false → exec (.ptpPdelayReqRx p ⟨m, sent⟩) s = .next
      ((t.ptpSend p.val 3 m.seq.toNat [m.srcId.toNat, m.srcPort, tsField (s.ptpIn p.val m.ns)]).ptpSend p.val 7 m.seq.toNat
        [m.srcId.toNat, m.srcPort, tsField (s.ptpOut p.val sent)])) ∧
    (s.flag R.PTP_CTRL_PROFILE = true → s.get R.PTP_PORT_STATUS_STATE p.val = 2 → exec (.ptpDelayReqRx p m) s = .next
      (t.ptpSend p.val 6 m.seq.toNat [m.srcId.toNat, m.srcPort, tsField (s.ptpIn p.val m.ns)]))) ∧
  (∀ (s : State) (p : Fin 8) (m : PtpMsg) (sent : Int), PtpFits s p.val m → (s.ptpSt p.val).delayTx = some (m.seq.toNat, sent) →
    m.reqId.toNat = s.clockId →
    (s.flag R.PTP_CTRL_PROFILE = false → ∃ t, exec (.ptpPdelayRespRx p m) s = .next t ∧ (t.ptpSt p.val).delayTx = none ∧
      t.getI R.PTP_MEAN_DELAY_PS p.val = satTo 32 ((s.ptpIn p.val m.ns - sent - m.corr) * 500)) ∧
    (∀ o a : Int, s.flag R.PTP_CTRL_PROFILE = true → (s.ptpSt p.val).lastSync = some (o, a) →
      ∃ t, exec (.ptpDelayRespRx p m) s = .next t ∧ (t.ptpSt p.val).delayTx = none ∧
        t.getI R.PTP_MEAN_DELAY_PS p.val = satTo 32 ((a - o + ((m.ts : Int) - m.corr - sent)) * 500)))

/-- PTP messages that the device sends: a grandmaster's one-step Sync, its Announce, a port's delay request, each with the port's next
sequence number, at the end of its port's queue in class 7; and the time-outs, which end SYNCED and forget a port's master.
Readings of the model that it rests on: log entries 22, 96, 111.
Commands that it says complete: ptpSyncTx, ptpAnnounceTx, ptpDelayRequestTx, ptpSyncTimeout, ptpAnnounceTimeout. -/
def Obligations.PtpSend : Prop :=
  (∀ (s : State) (p : Fin 8), s.ptpPortOn p.val = true → s.get R.PTP_PORT_STATUS_STATE p.val = 2 →
    let x := s.ptpSt p.val
    let t := s.setPtp p.val { x with nextSeq := (x.nextSeq + 1) % 65536 }
    let h := s.ptpHead p.val
    (∀ ns, s.flag R.PTP_STATUS_IS_GM = true → s.flag R.PTP_CTRL_ONE_STEP = true →
      let w := Wire.ptp (h 0).1 (h 0).2 0 x.nextSeq [tsField (s.ptpOut p.val ns), 0]
      s.takesFrame p.val 7 w = true → exec (.ptpSyncTx p ns) s = .next (t.withFrame p.val 7 w)) ∧
    (s.ptpMaster = none →
      let w := Wire.ptp (h 2).1 (h 2).2 2 x.nextSeq (annKey s.ownVector s.clockId ++ [s.ownVector.traceable])
      s.takesFrame p.val 7 w = true → exec (.ptpAnnounceTx p) s = .next (t.withFrame p.val 7 w))) ∧
  (∀ (s : State) (p : Fin 8) (ns : Nat), s.ptpPortOn p.val = true →
    s.flag R.PTP_CTRL_PROFILE = false ∨ s.get R.PTP_PORT_STATUS_STATE p.val = 3 →
    let x := s.ptpSt p.val
    let kind := if s.flag R.PTP_CTRL_PROFILE then 5 else 4
    let w := Wire.ptp (s.ptpHead p.val kind).1 (s.ptpHead p.val kind).2 kind x.nextSeq []
    s.takesFrame p.val 7 w = true → ∃ t, exec (.ptpDelayRequestTx p ns) s = .next t ∧
      t.ptpSt p.val = { x with nextSeq := (x.nextSeq + 1) % 65536, delayTx := some (x.nextSeq, s.ptpOut p.val ns) } ∧
      t = { s.withFrame p.val 7 w with ptp := t.ptp }) ∧
  (∀ s : State, s.flag R.PTP_CTRL_EN = true → s.netUp = true →
    ∃ t, exec .ptpSyncTimeout s = .next t ∧ t.flag R.PTP_STATUS_SYNCED = false ∧ t.ptp = { s.ptp with syncs := 0 } ∧
      (s.flag R.PTP_STATUS_SYNCED = true → t.sticky EV_PTP_STATE = true)) ∧
  (∀ (s : State) (p : Fin 8), s.ptpPortOn p.val = true →
    ∃ t, exec (.ptpAnnounceTimeout p) s = .next t ∧ (t.ptpSt p.val).best = none ∧ SameCore s t)

/-- Received streams. An AAF or RTP packet with one frame of one channel at 48 kHz, the first of its entry, in time and where the stream DMA
may write, stands in the entry's ring as its payload in house format at its index, with its valid bit, and the entry runs; packets of no
entry, of another format or with a bad header are counted and store nothing. A CRF PDU shows its timestamp; RTCP is counted; a starved entry
changes its state with its event. Readings of the model that it rests on: log entry 84.
Commands that it says complete: avtpRx, rtpRx, rtcpRx, crfRx, rxStarved. -/
def Obligations.StreamReception : Prop :=
  (∀ (s : State) (p : AvtpPacket), s.netUp = true → s.flag R.AVTP_CTRL_RX_EN = true →
    (p.subtypeOk = false → exec (.avtpRx p) s = .next (s.bump R.AVTP_HDR_ERR_CNT)) ∧
    (p.subtypeOk = true → s.avtpEntry p.sid.toNat = none → exec (.avtpRx p) s = .next (s.bump R.AVTP_UNKNOWN_CNT)) ∧
    (∀ n, p.subtypeOk = true → s.avtpEntry p.sid.toNat = some n → s.rxOpen n = true → p.format ≠ s.get R.STRX_ENTRY2_FORMAT n →
      exec (.avtpRx p) s = .next (s.bump R.STRX_STAT7_FMT_ERR_CNT n))) ∧
  (∀ (s : State) (p : AvtpPacket) (n x : Nat) (w : Word), s.netUp = true → s.flag R.AVTP_CTRL_RX_EN = true → p.subtypeOk = true →
    s.avtpEntry p.sid.toNat = some n → s.rxOpen n = true → p.format = s.get R.STRX_ENTRY2_FORMAT n → p.rate = 48000 →
    s.get R.STRX_ENTRY3_RATE n = 0 → s.get R.STRX_ENTRY2_CHANNELS n = 1 → p.frames = [[w]] → (s.rx n).started = false → p.tv = true →
    p.tu = false → avtpS0 p.ts.toNat (s.ingressNs p.port.val p.ns) + s.getI R.STRX_ENTRY4_PRES_OFFSET n = (x : Int) →
    s.isLate (s.ingress10 p.port.val p.ns) (x / 8) = false → s.isEarly n (s.ingress10 p.port.val p.ns) (x / 8) = false → s.rxValid n x = false → s.permits .sdma true (s.ringAddr n x 0) = true →
    ∃ t, exec (.avtpRx p) s = .next t ∧ t.rxState n = rxRunning ∧
      (t.rx n).h = p.seq.toNat ∧ (t.rx n).last = some (p.seq.toNat, x, 1) ∧
      t.get R.STRX_STAT2_PKT_CNT n = min (s.get R.STRX_STAT2_PKT_CNT n + 1) (2 ^ R.STRX_STAT2_PKT_CNT.width - 1) ∧
      (s.rxState n = rxRunning →
        t.rxValid n x = true ∧ t.word (s.ringAddr n x 0) = toTwos 32 (fromPayload p.format w.toNat) ∧
        ∀ a, (a < s.ringAddr n x 0 ∨ s.ringAddr n x 0 + 4 ≤ a) → a ≠ s.validAddr n x → t.byte a = s.byte a)) ∧
  (∀ (s : State) (p : RtpPacket), s.netUp = true → s.flag R.RTP_CTRL_EN = true →
    (p.version ≠ 2 → exec (.rtpRx p) s = .next (s.bump R.RTP_HDR_ERR_CNT)) ∧
    (p.version = 2 → s.rtpEntry p true = none → s.rtpEntry p false = none → exec (.rtpRx p) s = .next (s.bump R.RTP_RX_UNMATCHED_CNT)) ∧
    (∀ n x w, p.version = 2 → s.rtpEntry p true = some n → s.rxOpen n = true → p.pt = s.get R.STRX_ENTRY6_PT n →
      p.format = s.get R.STRX_ENTRY2_FORMAT n → s.get R.STRX_ENTRY3_RATE n = 0 → s.get R.STRX_ENTRY2_CHANNELS n = 1 →
      p.frames = [[w]] → (s.rx n).started = false →
      rtpS0 p.ts.toNat (s.get R.STRX_ENTRY5_TS_OFFSET n) (s.ingressNs p.port.val p.ns) 48000 + s.getI R.STRX_ENTRY4_PRES_OFFSET n =
        ((x : Nat) : Int) →
      s.isLate (s.ingress10 p.port.val p.ns) (x / 8) = false → s.isEarly n (s.ingress10 p.port.val p.ns) (x / 8) = false → s.rxValid n x = false →
      s.permits .sdma true (s.ringAddr n x 0) = true →
      ∃ t, exec (.rtpRx p) s = .next t ∧ t.rxState n = rxRunning ∧ (t.rx n).h = p.seq.toNat ∧
        (s.rxState n = rxRunning →
          t.rxValid n x = true ∧ t.word (s.ringAddr n x 0) = toTwos 32 (fromPayload p.format w.toNat)))) ∧
  (∀ s : State, s.netUp = true → s.flag R.RTP_CTRL_EN = true → exec .rtcpRx s = .next (s.bump R.RTP_RTCP_CNT)) ∧
  (∀ (s : State) (p : CrfPdu) (n : Nat) (ts : BitVec 64), s.netUp = true → s.flag R.AVTP_CTRL_RX_EN = true →
    s.avtpEntry p.sid.toNat = some n → s.get R.STRX_ENTRY2_FORMAT n = 7 → s.rxOpen n = true → (s.rx n).started = false → p.audioSample = true → p.baseHz = 48000 → p.pullOne = true →
    p.interval ≠ 0 → p.stamps = [ts] →
    ∃ t, exec (.crfRx p) s = .next t ∧ t.get R.AVTP_CRF_TS_TS (s.get R.STRX_ENTRY3_CRF_INDEX n) = ts.toNat % 2 ^ 32 ∧
      (t.rx n).crfLast = some ts.toNat ∧ t.rxState n = rxRunning) ∧
  (∀ (s : State) (n : Fin 512), s.rxState n.val = rxRunning → s.get R.STRX_CTRL_STARVE_TICKS ≤ (s.rx n.val).idle →
    ∃ t, exec (.rxStarved n) s = .next t ∧ t.rxState n.val = rxStarved ∧ t.sticky EV_RX_STATE = true ∧
      RaisesOnly [R.STRX_STAT0_STATE] s t)

/-- ARP, IGMP and SAP: a request for the device's address is answered with the port's MAC address to the station that asked, a query with
the groups in use, in version 2 where the querier is of that version; a session (here the only one, on the only port of the mask) is announced
and remembered, one that is announced no longer is withdrawn, and a session received is recorded in the table and stored, or removed.
Readings of the model that it rests on: log entries 15, 84, 96.
Commands that it says complete: arpRequest, igmpQuery, sapAnnounce, sapRx. -/
def Obligations.IpServices : Prop :=
  (∀ (s : State) (p : Fin 8) (target sender : Word) (mac : Mac), s.netUp = true → s.flag R.RTP_CTRL_EN = true →
    s.bit R.RTP_IFMASK_PORTS p.val = true → s.link p.val = true → target.toNat = s.get R.RTP_IPADDR_ADDR →
    let w := Wire.ip ⟨mac.toNat, s.portMac p.val, none⟩ none 0 [target.toNat, s.portMac p.val, sender.toNat, mac.toNat]
    s.takesFrame p.val (s.tcOf 0) w = true → exec (.arpRequest p target ⟨sender, mac⟩) s = .next (s.withFrame p.val (s.tcOf 0) w)) ∧
  (∀ (s : State) (p q : Fin 8) (g : Nat), s.netUp = true → s.flag R.RTP_CTRL_EN = true →
    s.bit R.RTP_IFMASK_PORTS p.val = true → s.ifPorts = [q.val] →
    (∀ gs, s.net.v2Querier = false → s.flag R.RTP_CTRL_IGMP_V2 = false → s.groups = g :: gs →
      let w := s.groupFrame q.val 0xE0000016 0 1 1 (g :: gs)
      s.takesFrame q.val (s.tcOf 0) w = true → exec (.igmpQuery p false) s = .next (s.withFrame q.val (s.tcOf 0) w)) ∧
    (s.groups = [g] → let t := { s with net := { s.net with v2Querier := true } }
      let w := s.groupFrame q.val g 0 1 2 [g]
      s.takesFrame q.val (s.tcOf 0) w = true → exec (.igmpQuery p true) s = .next (t.withFrame q.val (s.tcOf 0) w))) ∧
  (∀ (s : State) (q n : Nat), s.netUp = true → s.flag R.RTP_CTRL_EN = true → s.speaks = true → s.ifPorts = [q] →
    (s.flag R.RTP_CTRL_SAP_TX_EN = true → (List.range 512).filter s.sapEntry = [n] → (∀ a ∈ s.str.announced, a = n) →
      let w := s.groupFrame q 0xEFFFFFFF 9875 (s.get R.RTP_IFMASK_TTL) 3 (s.sdp n)
      s.takesFrame q (s.tcOf 0) w = true →
      exec .sapAnnounce s = .next { s.withFrame q (s.tcOf 0) w with str := { s.str with announced := [n] } }) ∧
    (s.str.announced = [n] → s.sapEntry n = false → let w := s.groupFrame q 0xEFFFFFFF 9875 (s.get R.RTP_IFMASK_TTL) 4 [n]
      s.takesFrame q (s.tcOf 0) w = true →
      s.sapWithdraw = { s.withFrame q (s.tcOf 0) w with str := { s.str with announced := [] } })) ∧
  (∀ (s : State) (m : SapMsg), s.netUp = true → s.flag R.RTP_CTRL_EN = true → s.flag R.RTP_CTRL_SAP_RX_EN = true →
    let key := m.origin.toNat * 65536 + m.hash.toNat
    ∃ t, exec (.sapRx m) s = .next t ∧ t.get R.RTP_DISC_COUNT = t.str.disc.length % 256 ∧
      (m.deletes = true → (∀ r ∈ t.str.disc, r.1 ≠ key) ∧ t.mem = s.mem) ∧
      (m.deletes = false → ∃ slot, (key, slot) ∈ t.str.disc ∧
        (∀ r ∈ t.str.disc, r.1 = key → r.2 = slot) ∧
        (s.permits .sdma true (s.get R.RTP_DISC_BASE_BASE * 4096 + 256 * slot) = true →
          t.bytes (s.get R.RTP_DISC_BASE_BASE * 4096 + 256 * slot) 256 = (m.record ++ List.replicate 256 0).take 256)))

/-- ADP and ACMP. The entity advertises with the next index where its units speak, in its time and when it is asked; a talker answers of an
enabled AAF transmit entry with its stream, and refuses CONNECT_TX of any other; CONNECT_RX binds an enabled entry by a commit of the STRX page that it
queues; a bound entry is released; the state of an entry is told. Readings of the model that it rests on: log entries 23, 34, 84, 96.
Commands that it says complete: adpEntityAvailable, adpEntityDiscover, connectTx, disconnectTx, getTxState, getTxConnection, connectRx,
disconnectRx, getRxState. -/
def Obligations.AcmpRows : Prop :=
  (∀ (s : State) (c : Instr), s.avdOn = true → s.flag R.AVD_CTRL_ADP_EN = true → s.link 0 = true → s.link 1 = false →
    c = .adpEntityAvailable ∨ (∃ m : AvdMsg, c = .adpEntityDiscover m ∧ (m.entity = 0 ∨ m.entity.toNat = s.entityId)) →
    let i := (s.get R.AVD_AVAIL_INDEX_INDEX + 1) % 2 ^ 32
    let w := Wire.avdecc ⟨avdGroup, s.portMac 0, none⟩ 0 0 0 [s.entityId, i, s.get R.AVD_CTRL_VALID_TIME,
      s.get R.AVD_MODEL_ID_LO_ID + s.get R.AVD_MODEL_ID_HI_ID * 2 ^ 32]
    s.takesFrame 0 (s.tcOf 0) w = true →
    exec c s = .next (((s.put R.AVD_AVAIL_INDEX_INDEX i).put R.AVD_STATUS_ADVERTISING 1).withFrame 0 (s.tcOf 0) w)) ∧
  (∀ (s : State) (c : Instr) (m : AvdMsg) (msg : Nat), s.acmpOn m = true → s.aafTx m.entry.val = true →
    (c, msg) ∈ [(Instr.connectTx m, 0), (.disconnectTx m, 2), (.getTxState m, 4), (.getTxConnection m, 12)] →
    let w := s.acmpFrame m msg 0 (s.talkerFields m.entry.val)
    s.takesFrame m.port.val (s.tcOf 0) w = true →
    exec c s = .next (((((s.put R.AVD_LAST_ACMP_MSG msg).put R.AVD_LAST_ACMP_STATUS 0).put R.AVD_LAST_ACMP_ENTRY m.entry.val)).withFrame
      m.port.val (s.tcOf 0) w)) ∧
  (∀ (s : State) (m : AvdMsg), s.acmpOn m = true → s.aafTx m.entry.val = false →
    ∃ t, exec (.connectTx m) s = .next t ∧ t.get R.AVD_LAST_ACMP_STATUS = 4 ∧ t.get R.TX_ADMIT_STATUS_ENTRY = m.entry.val ∧
      t.get R.TX_ADMIT_STATUS_REASON = 1 ∧ t.sticky EV_TX_ADMIT_REFUSED = true) ∧
  (∀ (s : State) (m : AvdMsg), s.acmpOn m = true → s.aafRx m.entry.val = true → s.flag R.STRX_ENTRY2_ACMP_BIND m.entry.val = true →
    (s.rx m.entry.val).bound = none → s.pagePending 0x20 = false → s.str.acmpWait = none →
    ∃ t, exec (.connectRx m) s = .next t ∧ t.queue = s.queue ++ [⟨[0x20], false, .queued, none⟩] ∧
      t.shGet R.STRX_ENTRY0_SID_LO m.entry.val = m.stream.toNat % 2 ^ 32 ∧
      t.shGet R.STRX_ENTRY1_SID_HI m.entry.val = m.stream.toNat / 2 ^ 32 ∧ t.wire = s.wire ∧ t.regs = s.regs ∧
      t.str = { s.str with acmpWait := some (m.entry.val, m.seq.toNat, m.controller, m.port.val) }) ∧
  (∀ (s : State) (m : AvdMsg), s.acmpOn m = true → (s.rx m.entry.val).bound.isSome = true →
    let w := s.acmpFrame m 8 0 [s.rxSid m.entry.val]
    let t := s.setRx m.entry.val { s.rx m.entry.val with bound := none }
    s.takesFrame m.port.val (s.tcOf 0) w = true →
    exec (.disconnectRx m) s = .next ((((t.put R.AVD_LAST_ACMP_MSG 8).put R.AVD_LAST_ACMP_STATUS 0).put R.AVD_LAST_ACMP_ENTRY
      m.entry.val).withFrame m.port.val (s.tcOf 0) w)) ∧
  (∀ (s : State) (m : AvdMsg), s.acmpOn m = true → s.aafRx m.entry.val = true →
    let w := s.acmpFrame m 10 0 [s.rxSid m.entry.val, b2n (s.rx m.entry.val).bound.isSome]
    s.takesFrame m.port.val (s.tcOf 0) w = true →
    exec (.getRxState m) s = .next ((((s.put R.AVD_LAST_ACMP_MSG 10).put R.AVD_LAST_ACMP_STATUS 0).put R.AVD_LAST_ACMP_ENTRY
      m.entry.val).withFrame m.port.val (s.tcOf 0) w))

/-- AECP commands that change something: a controller that nothing bars acquires or releases, locks or unlocks, names the entity and
registers for notifications, once, or deregisters; a barred one is answered with the bar and changes nothing; a command that is not
supported is answered NOT_IMPLEMENTED and counted. Readings of the model that it rests on: log entries 23, 34, 84, 96.
Commands that it says complete: acquireEntity, lockEntity, setName, registerUnsolicitedNotification, deregisterUnsolicitedNotification,
aecpUnsupported. -/
def Obligations.AecpControl : Prop :=
  (∀ (s : State) (m : AvdMsg), s.aecpOn m = true → s.avdBarred m.controller = 0 →
    (∃ t, exec (.acquireEntity m) s = .next t ∧ t.flag R.AVD_STATUS_ACQUIRED = !bitAt m.flags 31 ∧
      t.avdOwner = (if bitAt m.flags 31 then 0 else m.controller.toNat) ∧ t.str = s.str ∧ SameCore s t) ∧
    (∃ t, exec (.lockEntity m) s = .next t ∧ t.flag R.AVD_STATUS_LOCKED = !bitAt m.flags 0 ∧
      t.str = { s.str with lockOwner := if bitAt m.flags 0 then none else some m.controller } ∧ SameCore s t) ∧
    (m.descType = 0 → let w := s.aecpFrame m 16 0 []
      s.takesFrame m.port.val (s.tcOf 0) w = true →
      exec (.setName m) s = .next { s.withFrame m.port.val (s.tcOf 0) w with str := { s.str with name := m.name.take 64 } })) ∧
  (∀ (s : State) (m : AvdMsg), s.aecpOn m = true → s.avdBarred m.controller ≠ 0 →
    let w := s.aecpFrame m 16 (s.avdBarred m.controller) []
    (s.takesFrame m.port.val (s.tcOf 0) w = true → exec (.setName m) s = .next (s.withFrame m.port.val (s.tcOf 0) w)) ∧
    ∀ c ∈ [Instr.acquireEntity m, .lockEntity m, .setName m], ∃ t, exec c s = .next t ∧ t.str = s.str ∧ t.avdOwner = s.avdOwner ∧
      t.flag R.AVD_STATUS_ACQUIRED = s.flag R.AVD_STATUS_ACQUIRED ∧ t.flag R.AVD_STATUS_LOCKED = s.flag R.AVD_STATUS_LOCKED ∧ SameCore s t) ∧
  (∀ (s : State) (m : AvdMsg), s.aecpOn m = true →
    (∃ t, exec (.registerUnsolicitedNotification m) s = .next t ∧ m.controller ∈ t.str.unsolicited ∧
      (∀ c, c ∈ s.str.unsolicited → c ∈ t.str.unsolicited) ∧
      (m.controller ∈ s.str.unsolicited → t.str = s.str) ∧ SameCore s t) ∧
    (∃ t, exec (.deregisterUnsolicitedNotification m) s = .next t ∧ m.controller ∉ t.str.unsolicited ∧
      (∀ c, c ≠ m.controller → (c ∈ t.str.unsolicited ↔ c ∈ s.str.unsolicited)) ∧ SameCore s t) ∧
    (let w := s.aecpFrame m m.descType 1 []
     s.takesFrame m.port.val (s.tcOf 0) w = true →
     exec (.aecpUnsupported m) s = .next ((s.bump R.AVD_AECP_UNSUP_CNT).withFrame m.port.val (s.tcOf 0) w)))

/-- AECP commands that only ask are answered, to the station that asked, with their command's code, status and fields, and change nothing
else; one that names a stream that is not there is answered NO_SUCH_DESCRIPTOR.
Readings of the model that it rests on: log entries 23, 84, 96.
Commands that it says complete: aecpEntityAvailable, controllerAvailable, readDescriptor, getConfiguration, getStreamFormat,
getStreamInfo, getName, getCounters, getAvbInfo, getAsPath. -/
def Obligations.AecpReads : Prop :=
  (∀ (s : State) (m : AvdMsg) (c : Instr) (cmd status : Nat) (fields : List Nat), s.aecpOn m = true →
    let n := m.entry.val
    (c, cmd, status, fields) ∈ [(Instr.aecpEntityAvailable m, 2, 0, []), (.controllerAvailable m, 3, 0, []), (.getConfiguration m, 7, 0, [0]),
      (.readDescriptor m, 4, (s.descriptor m.descType n).1, (s.descriptor m.descType n).2)] ∨
    m.descType = 5 ∧ s.aafRx n = true ∧ (c, cmd, status, fields) ∈ [(Instr.getStreamFormat m, 9, 0,
        [s.get R.STRX_ENTRY2_FORMAT n, s.get R.STRX_ENTRY2_CHANNELS n, rateHz (s.get R.STRX_ENTRY3_RATE n)]),
      (.getStreamInfo m, 15, 0, [s.rxSid n, s.rxState n]),
      (.getCounters m, 41, 0, [s.get R.STRX_STAT2_PKT_CNT n, s.get R.STRX_STAT4_LATE_CNT n, s.get R.STRX_STAT4_EARLY_CNT n,
        s.get R.STRX_STAT5_UNDERRUN_CNT n, s.get R.STRX_STAT7_FMT_ERR_CNT n])] ∨
    m.descType = 5 ∧ s.aafRx n = false ∧ (c, cmd, status, fields) ∈ [(Instr.getStreamFormat m, 9, 2, []), (.getStreamInfo m, 15, 2, []),
      (.getCounters m, 41, 2, [])] ∨
    m.descType = 0 ∧ (c, cmd, status, fields) ∈ [(Instr.getName m, 17, 0, s.str.name.map (·.toNat))] ∨
    m.descType = 9 ∧ n < 2 ∧ (c, cmd, status, fields) ∈ [(Instr.getAvbInfo m, 39, 0, [s.get R.PTP_GM_ID_LO_ID + s.get R.PTP_GM_ID_HI_ID * 2 ^ 32,
      s.get R.PTP_MEAN_DELAY_PS n, s.get R.PTP_DOMAIN_DOMAIN, s.get R.PTP_PORT_STATUS_AS_CAPABLE n])] ∨
    n < 2 ∧ (c, cmd, status, fields) ∈ [(Instr.getAsPath m, 40, 0, [s.get R.PTP_GM_ID_LO_ID + s.get R.PTP_GM_ID_HI_ID * 2 ^ 32])] →
    let w := s.aecpFrame m cmd status fields
    s.takesFrame m.port.val (s.tcOf 0) w = true → exec c s = .next (s.withFrame m.port.val (s.tcOf 0) w))

/-! ### Serial ports and rate groups -/

/-- Serial ports and rate groups. A frame that a port takes stands in the port's ring at its house index, in house format, with its
valid bit; a wrong length is counted and stores nothing, and a frame too many is dropped whole. An output frame goes out as the samples of
its index, as zero in ZERO, and as zero with the underrun counted for want of a sample, and the index's valid bits clear. A lost clock takes
the port to CLK_LOST and, but on a standby that follows its partner's ratios, unlocks its rate groups; after eight good frames it returns. A group locks at its ratio and unlocks with its
event. Readings of the model that it rests on: log entries 20, 53, 113.
Commands that it says complete: spFrameRx, spFrameTxStart, spClockLoss, spClockReturn, asrcLock, asrcUnlock. -/
def Obligations.SerialPortRows : Prop :=
  (∀ (s : State) (f : SpFrame), s.ticking = true → s.get R.SP_STATUS_STATE f.port.val = 3 → let p := f.port.val
    (∀ (k : Nat) (w : Word), s.spDirect p = true → f.waiting < 4 → (s.spPort p).notBefore ≤ f.began → (s.spPort p).masks = [] →
      (s.spPort p).maskWait = none → s.follows = false → s.siOn p = false → s.rxSlotsOf p = [k] → f.slots[k]? = some w →
      s.flag R.SP_CFG_MASTER p = true ∨ f.lengthOk = true →
      s.permits .sdma true (s.spInAddr p f.began k) = true → s.permits .sdma true (s.spInValid p f.began) = true →
      ∃ t, exec (.spFrameRx f) s = .next t ∧ t.word (s.spInAddr p f.began k) = toTwos 32 (s.slotSample p w.toNat) ∧
        t.spValid p f.began k = true ∧
        ∀ a, (a < s.spInAddr p f.began k ∨ s.spInAddr p f.began k + 4 ≤ a) →
          (a < s.spInValid p f.began ∨ s.spInValid p f.began + 4 ≤ a) → t.byte a = s.byte a) ∧
    (s.flag R.SP_CFG_MASTER p = false → f.lengthOk = false → (s.spPort p).maskWait = none →
      s.spDirect p = true ∨ (∀ k, k < 16 → (s.siPair p k).endAt = none) → ∃ t, exec (.spFrameRx f) s = .next t ∧
      t.get R.FRAME_ERR_CNT p = min (s.get R.FRAME_ERR_CNT p + 1) (2 ^ R.FRAME_ERR_CNT.width - 1) ∧
      RegsOnly [R.SP_RATE_MEAS_RATE, R.FRAME_ERR_CNT, R.PG_STATUS_SAT_SEEN] s t) ∧
    (f.lengthOk = true → 4 ≤ f.waiting → (s.spPort p).notBefore ≤ f.began → (s.spPort p).maskWait = none →
      ∃ t, exec (.spFrameRx f) s = .next t ∧
      t.flag R.SP_STATUS_OVERRUN p = true ∧
      t.get R.SP_OVERRUN_CNT p = min (s.get R.SP_OVERRUN_CNT p + 1) (2 ^ R.SP_OVERRUN_CNT.width - 1) ∧
      ((s.spPort p).ovrRun = false → t.sticky EV_PORT_OVERRUN = true) ∧ ((s.spPort p).ovrRun = true → t.mem = s.mem))) ∧
  (∀ (s : State) (p : Fin 8) (x : Nat), s.ticking = true → (s.spPort p.val).notBefore ≤ s.spBegin p.val x →
    (s.spPort p.val).masks = [] → (s.spPort p.val).maskWait = none → s.permits .sdma false (s.spOutValid p.val x) = true →
    (s.get R.SP_STATUS_STATE p.val = 2 → exec (.spFrameTxStart p x) s =
      .next (((s.setSp p.val { s.spPort p.val with undRun := false }).send
        (.spFrame p.val (s.spOutSlots p.val x (s.txSlotsOf p.val) true []))).setWord (s.spOutValid p.val x) 0)) ∧
    (s.get R.SP_STATUS_STATE p.val = 3 → s.role ≠ .seating → s.role ≠ .coldStart → s.settling = false → s.spDirect p.val = true →
      ((∀ k ∈ s.txSlotsOf p.val, bitAt (s.word (s.spOutValid p.val x)) k = true ∧ s.permits .sdma false (s.spOutAddr p.val x k) = true) →
        ∃ t, exec (.spFrameTxStart p x) s = .next t ∧
        t.wire = .spFrame p.val (s.spOutSlots p.val x (s.txSlotsOf p.val) false
          ((s.txSlotsOf p.val).map (fun k => s.sample (s.spOutAddr p.val x k)))) :: s.wire ∧
        t.word (s.spOutValid p.val x) = 0 ∧ t.regs = s.regs) ∧
      (∀ k ∈ s.txSlotsOf p.val, bitAt (s.word (s.spOutValid p.val x)) k = false → ∃ t, exec (.spFrameTxStart p x) s = .next t ∧
        t.wire = .spFrame p.val (s.spOutSlots p.val x (s.txSlotsOf p.val) true []) :: s.wire ∧
        t.flag R.SP_STATUS_UNDERRUN p.val = true ∧
        t.get R.SP_UNDERRUN_CNT p.val = min (s.get R.SP_UNDERRUN_CNT p.val + 1) (2 ^ R.SP_UNDERRUN_CNT.width - 1)))) ∧
  (∀ (s : State) (p : Fin 8), s.ticking = true → s.spMode p.val ≠ 0 → s.flag R.SP_CFG_MASTER p.val = false → s.dev = .run →
    (s.spPort p.val).refused = false →
    ((s.spPort p.val).clkLost = false → ∃ t, exec (.spClockLoss p) s = .next t ∧ (t.spPort p.val).clkLost = true ∧
      t.get R.SP_STATUS_STATE p.val = 4 ∧ t.flag R.SP_STATUS_CLK_PRESENT p.val = false ∧
      (s.get R.SP_STATUS_STATE p.val ≠ 4 → t.sticky EV_PORT_CLK_LOSS = true ∧
        t.get R.CLK_LOSS_CNT p.val = min (s.get R.CLK_LOSS_CNT p.val + 1) (2 ^ R.CLK_LOSS_CNT.width - 1)) ∧
      (s.follows = false → ∀ g, g < 32 → s.get R.ASRC_GRP_CFG_SRC g = 1 → s.get R.ASRC_GRP_CFG_PORT g = p.val → t.flag R.ASRC_GRP_STATUS_LOCK g = false)) ∧
    ((s.spPort p.val).clkLost = true → 8 ≤ (s.spPort p.val).good → ∃ t, exec (.spClockReturn p) s = .next t ∧
      (t.spPort p.val).clkLost = false ∧ t.get R.SP_STATUS_STATE p.val = 3 ∧ t.flag R.SP_STATUS_CLK_PRESENT p.val = true ∧
      RegsAt [R.SP_STATUS_STATE, R.SP_STATUS_CLK_PRESENT] p.val { s with serial := t.serial } t)) ∧
  (∀ (s : State) (g : Fin 32) (ratio : Nat), s.ticking = true → s.follows = false → s.get R.ASRC_GRP_CFG_SRC g.val = 2 →
    (s.pllmGated = false → ratio < 2 ^ 32 → ∃ t, exec (.asrcLock g ratio) s = .next t ∧ t.get R.ASRC_GRP_RATIO_RATIO g.val = ratio ∧
      t.flag R.ASRC_GRP_STATUS_LOCK g.val = true ∧ t.flag R.ASRC_GRP_STATUS_RANGE_ERR g.val = false ∧
      RegsOnly [R.ASRC_GRP_RATIO_RATIO, R.ASRC_GRP_STATUS_LOCK, R.ASRC_GRP_STATUS_RANGE_ERR, R.ASRC_LOCK_LOCK, R.ASRC_LOCK_CHG_CHG,
        R.STRX_STAT0_ASRC_LOCK] s t) ∧
    (∀ range : Bool, ∃ t, exec (.asrcUnlock g range) s = .next t ∧ t.flag R.ASRC_GRP_STATUS_LOCK g.val = false ∧
      t.flag R.ASRC_GRP_STATUS_RANGE_ERR g.val = range ∧
      (s.flag R.ASRC_GRP_STATUS_LOCK g.val = true → t.sticky EV_ASRC_UNLOCK = true ∧
        t.get R.ASRC_GRP_UNLOCK_CNT g.val = min (s.get R.ASRC_GRP_UNLOCK_CNT g.val + 1) (2 ^ R.ASRC_GRP_UNLOCK_CNT.width - 1))))

/-! ### Mixer, flash and fuses -/

/-- The crosspoint's banks, the delay pool and the flash. A copy sets COPY_BUSY, and while one runs another is ignored; its end leaves the
active bank's bytes in the shadow bank, counted as written, and nothing else; an active unit of a pair mirrors it; a repack waits for the next
commit. A prefetch brings a player's
next bytes into its buffer; a clip that fails its CRC is marked. A raw flash command goes out as it was given and sets BUSY; its end clears
BUSY with what the flash now holds, and a FILL's bytes stand in FL_BUF.
Commands that it says complete: xpmCopy, xpmCopyDone, dpoolRepack, clipPrefetchDone, flashCmdFill, flashCmdSend, flashCmdDone,
clipCrcCheckDone. -/
def Obligations.MixerFlashRows : Prop :=
  (∀ (s : State) (who : Initiator), s.takes who 0x38040 = true →
    (s.flag R.XPM_STATUS_COPY_BUSY = false → s.pagePending 0x38 = false → s.svcBlocked who 0x38 = false → s.pairBlocked who 0x38 = false →
      ∃ t, exec (.xpmCopy who) s = .next t ∧ t.flag R.XPM_STATUS_COPY_BUSY = true ∧
        RegsOnly [R.XPM_STATUS_COPY_BUSY] { s with brace := t.brace } t ∧ (s.mirrors = false → t.brace = s.brace)) ∧
    (s.flag R.XPM_STATUS_COPY_BUSY = true → exec (.xpmCopy who) s = .next (s.raise EV_HOST_ERR))) ∧
  (∀ s : State, s.flag R.XPM_STATUS_COPY_BUSY = true → Memory.wf s.mem = true → s.activeBank < 2 →
    ∃ t, exec .xpmCopyDone s = .next t ∧ t.flag R.XPM_STATUS_COPY_BUSY = false ∧ t.mix = { s.mix with written := true } ∧
      (∀ k, k < 0x20000 → t.byte (bankBase (1 - s.activeBank) + k) = s.byte (bankBase s.activeBank + k)) ∧
      (∀ a, a < bankBase (1 - s.activeBank) ∨ bankBase (1 - s.activeBank) + 0x20000 ≤ a → t.byte a = s.byte a) ∧
      RegsOnly [R.XPM_STATUS_COPY_BUSY] { s with mem := t.mem, mix := t.mix } t) ∧
  (∀ (s : State) (who : Initiator), s.takes who 0x39040 = true → s.dev = .ready ∨ s.dev = .held → s.pairBlocked who 0x39 = false →
    exec (.dpoolRepack who) s = .next { s with repack := true }) ∧
  (∀ (s : State) (i : Fin 8192) (n : Nat) (d : Desc) (c : Clip),
    s.je.cut.descs.find? (fun e => e.id == i.val && (e.type == 0x0C || e.type == 0x0D)) = some d →
    let p := (s.inst i.val).play
    let buf := ((s.paramWords d)[0]?).getD 0
    s.clipOf p.clip = some c → p.phase = 1 → p.loop = false → c.len ≠ 0 → p.got + n ≤ c.len →
    n ≤ 4096 - (p.got - min p.got (clipBytes d.type p.pos)) →
    (∀ j, j < n → s.permits .fdma false (c.addr + (p.got + j) % c.len) = true ∧ s.permits .fdma true (buf + (p.got + j) % 4096) = true) →
    ∃ t, exec (.clipPrefetchDone i n) s = .next t ∧ (t.inst i.val).play = { p with got := p.got + n } ∧
      (∀ j, j < n → t.byte (buf + (p.got + j) % 4096) = s.byte (c.addr + (p.got + j) % c.len)) ∧
      (∀ a, (∀ j, j < n → a ≠ buf + (p.got + j) % 4096) → t.byte a = s.byte a) ∧
      RegsOnly [R.FL_READ_CNT, R.PG_STATUS_SAT_SEEN] { s with mem := t.mem, je := t.je } t) ∧
  (∀ (s : State) (i : Fin 4096) (c : Clip), s.ticking = true → s.boot.fwValid = true → Sparse.find s.clips i.val = some c → c.bad = false →
    ((crc32 (s.bytes c.addr c.len)).toNat ≠ c.crc → ∃ t, exec (.clipCrcCheckDone i) s = .next t ∧
      Sparse.find t.clips i.val = some { c with bad := true } ∧ (∀ k, k ≠ i.val → Sparse.find t.clips k = Sparse.find s.clips k) ∧
      t.get R.SVC_CLIP_BAD_CNT = min (s.get R.SVC_CLIP_BAD_CNT + 1) (2 ^ R.SVC_CLIP_BAD_CNT.width - 1)) ∧
    ((crc32 (s.bytes c.addr c.len)).toNat = c.crc → exec (.clipCrcCheckDone i) s = .next s)) ∧
  (∀ (s : State) (who : Initiator) (op : Fin 256) (ab : Fin 3) (len : Fin 257), s.takes who 0x71048 = true →
    ∀ (c : Instr) (write : Bool), (c, write) ∈ [(Instr.flashCmdFill who op ab len, false), (.flashCmdSend who op ab len, true)] →
    (s.flag R.FL_STATUS_BUSY = false → ∃ t, exec c s = .next t ∧ t.flag R.FL_STATUS_BUSY = true ∧ t.flag R.FL_CMD_WRITE = write ∧
      t.get R.FL_CMD_OPCODE = op.val ∧ t.get R.FL_CMD_ADDR_BYTES = ab.val ∧ t.get R.FL_CMD_LEN = len.val ∧
      t.wire = .flash op.val ab.val (if ab.val = 0 then 0 else s.get R.FL_CMD_ADDR_ADDR) (if write then s.flBuf len.val else []) :: s.wire ∧
      RegsOnly [R.FL_CMD_OPCODE, R.FL_CMD_ADDR_BYTES, R.FL_CMD_LEN, R.FL_CMD_WRITE, R.FL_STATUS_BUSY] { s with wire := t.wire } t) ∧
    (s.flag R.FL_STATUS_BUSY = true → exec c s = .next (s.raise EV_HOST_ERR))) ∧
  (∀ (s : State), s.flag R.FL_STATUS_BUSY = true →
    (∀ (o : Nat) (b : Byte), s.flag R.FL_CMD_WRITE = true → o < 0x20000000 → ∃ t, exec (.flashCmdDone [] [(o, b)]) s = .next t ∧
      t.flag R.FL_STATUS_BUSY = false ∧ t.byte (0x40000000 + o) = b ∧ (∀ a, a ≠ 0x40000000 + o → t.byte a = s.byte a) ∧
      RegsOnly [R.FL_STATUS_BUSY] { s with mem := t.mem } t) ∧
    (∀ data : List Byte, s.flag R.FL_CMD_WRITE = false → data.length ≤ 256 → data.length ≤ s.get R.FL_CMD_LEN →
      ∃ t, exec (.flashCmdDone data []) s = .next t ∧ t.flBuf data.length = data ∧ t.flag R.FL_STATUS_BUSY = false ∧
        RegsOnly [R.FL_STATUS_BUSY, R.FL_BUF_DATA] s t))

/-- Fuse commands. Each starts in READY and HELD as its own operation and index and sets BUSY; while one runs, another is ignored with
EV_HOST_ERR. Its end clears BUSY with its result: the fuse programmed, 1 for a field that is programmed already, 2 for a failure or an index
that is not there, 3 for a command that would leave the device without a usable customer key. Nothing but the command's own fuse changes.
Readings of the model that it rests on: log entry 61.
Commands that it says complete: otpCfgSigReq, otpCustKeyHash, otpRevokeKey, otpIbKey, otpRaiseFwMin, otpJtagDisable, otpCmdDone. -/
def Obligations.OtpRows : Prop :=
  (∀ (s : State) (who : Initiator) (k : Fin 4) (c : Instr) (op index : Nat), s.takes who otpAddr = true →
    (c, op, index) ∈ [(Instr.otpCfgSigReq who, 1, 0), (.otpCustKeyHash who k, 2, k.val), (.otpRevokeKey who k, 3, k.val),
      (.otpIbKey who k, 4, k.val), (.otpRaiseFwMin who, 5, 0), (.otpJtagDisable who, 6, 0)] →
    (s.flag R.SEC_OTP_CMD_BUSY = false → s.dev = .ready ∨ s.dev = .held → ∃ t, exec c s = .next t ∧ t.get R.SEC_OTP_CMD_OP = op ∧
      t.get R.SEC_OTP_CMD_INDEX = index ∧ t.flag R.SEC_OTP_CMD_BUSY = true ∧
      RegsOnly [R.SEC_OTP_CMD_OP, R.SEC_OTP_CMD_INDEX, R.SEC_OTP_CMD_BUSY] s t) ∧
    (s.flag R.SEC_OTP_CMD_BUSY = true → exec c s = .next (s.raise EV_HOST_ERR)) ∧
    (s.flag R.SEC_OTP_CMD_BUSY = false → s.dev ≠ .ready → s.dev ≠ .held → ∃ t, exec c s = .next t ∧
      t.flag R.SEC_OTP_CMD_BUSY = false ∧ t.sticky EV_HOST_ERR = true ∧ t.otp = s.otp)) ∧
  (∀ (s : State) (ok : Bool), s.flag R.SEC_OTP_CMD_BUSY = true → ∃ t, exec (.otpCmdDone ok) s = .next t ∧
    t.flag R.SEC_OTP_CMD_BUSY = false ∧ RegsOnly [R.SEC_OTP_CMD_BUSY, R.SEC_OTP_RESULT_RESULT] { s with otp := t.otp } t ∧
    let op := s.get R.SEC_OTP_CMD_OP
    let k := s.get R.SEC_OTP_CMD_INDEX
    let result := t.get R.SEC_OTP_RESULT_RESULT
    (op = 1 → s.otp.usable 0 = false → s.otp.usable 1 = false → result = 3 ∧ t.otp = s.otp) ∧
    (op = 1 → ok = true → s.otp.usable 0 = true ∨ s.otp.usable 1 = true → result = 0 ∧ t.otp = { s.otp with cfgSigReq := true }) ∧
    (op = 2 → 2 ≤ k → result = 2 ∧ t.otp = s.otp) ∧
    (op = 2 → k < 2 → (Sparse.find s.otp.custHash k).isSome = true → result = 1 ∧ t.otp = s.otp) ∧
    (op = 2 → k < 2 → Sparse.find s.otp.custHash k = none → ok = true →
      result = 0 ∧ Sparse.find t.otp.custHash k = some (BitVec.ofNat 256 (s.otpData 8)) ∧
      t.otp = { s.otp with custHash := t.otp.custHash }) ∧
    (op = 3 → k < 2 → s.otp.usable k = true → s.otp.usable (1 - k) = false → result = 3 ∧ t.otp = s.otp) ∧
    (op = 3 → k < 2 → s.otp.usable (1 - k) = true → ok = true →
      result = 0 ∧ t.otp.revoke.testBit k = true ∧ t.otp = { s.otp with revoke := t.otp.revoke }) ∧
    (op = 4 → (Sparse.find s.otp.ibKey k).isSome = true → result = 1 ∧ t.otp = s.otp) ∧
    (op = 4 → Sparse.find s.otp.ibKey k = none → ok = true →
      result = 0 ∧ Sparse.find t.otp.ibKey k = some (BitVec.ofNat 128 (s.otpData 4)) ∧ t.otp = { s.otp with ibKey := t.otp.ibKey }) ∧
    (op = 5 → s.otp.fwMin < 32 → ok = true → result = 0 ∧ t.otp = { s.otp with fwMin := s.otp.fwMin + 1 }) ∧
    (op = 5 → 32 ≤ s.otp.fwMin → result = 2 ∧ t.otp = s.otp) ∧
    (op = 6 → ok = true → result = 0 ∧ t.otp = { s.otp with jtag := true }) ∧
    (op = 6 → ok = false → result = 2 ∧ t.otp = s.otp))

/-! ### Zone services -/

/-- Zone services. A request while they do not run is refused with reason 8. A PLAY or a CALL that nothing opposes joins the live
requests, with its record waiting for the next commit; a PLAY into a zone locked above it is refused with reason 2. An ANSWER joins its
call, a RELEASE ends its target, a LOCK and an UNLOCK set and drop a lock; the arm queues one commit of the XPM page with all that waits; a
player that is done ends its request. Readings of the model that it rests on: log entries 71, 72, 73.
Commands that it says complete: svcPlay, svcCall, svcAnswer, svcRelease, svcLock, svcUnlock, serviceCommitArm, svcClipDone. -/
def Obligations.ServiceRows : Prop :=
  (∀ (s : State) (r : SvcReq), s.ticking = true → s.boot.fwValid = true → s.ownsRing = true → s.svc.running = false →
    ∀ c ∈ [Instr.svcPlay r, .svcCall r, .svcAnswer r, .svcRelease r, .svcLock r, .svcUnlock r],
    ∃ t, exec c s = .next t ∧ t.svc = { s.svc with taken := t.svc.taken } ∧ (s.paired = false → t.svc = s.svc) ∧
      t.get R.SVC_LAST_REF_ID_ID = r.id.toNat ∧ t.get R.SVC_LAST_REF_REASON_REASON = 8 ∧
      t.get R.SVC_REFUSE_CNT = min (s.get R.SVC_REFUSE_CNT + 1) (2 ^ R.SVC_REFUSE_CNT.width - 1) ∧ t.sticky EV_REQ_REFUSED = true) ∧
  (∀ (s : State) (r : SvcReq), s.ticking = true → s.boot.fwValid = true → s.ownsRing = true → s.svc.running = true →
    (s.svc.queue = [] → s.svc.grants = [] →
      (s.reqOk 1 r = true → (s.plan.source r.source.val).kind = 1 →
        (s.svc.locks = [] → s.room r false [] = .take none [] → ∃ t, exec (.svcPlay r) s = .next t ∧
          t.svc.grants = [⟨r, false, s.svc.order, none, none, false, false, none⟩] ∧
          t.svc.out = s.svc.out ++ [.record r.id.toNat 0 0 0 noId] ∧ t.svc.dirty = true ∧ t.svc.order = s.svc.order + 1) ∧
        (∀ z ∈ s.plan.zoneList r, ∀ l ∈ s.svc.locks, bitAt l.2.2 z = true → l.2.1 < (s.plan.source r.source.val).prio →
          ∃ t, exec (.svcPlay r) s = .next t ∧ t.svc.grants = [] ∧ t.get R.SVC_LAST_REF_ID_ID = r.id.toNat ∧
            t.get R.SVC_LAST_REF_REASON_REASON = 2 ∧ t.sticky EV_REQ_REFUSED = true)) ∧
      (∀ k, s.reqOk 2 r = true → (s.plan.source r.source.val).kind = 4 → r.console.val < s.plan.consoles.length →
        s.room r true [] = .take (some k) [] → ∃ t, exec (.svcCall r) s = .next t ∧
          t.svc.grants = [⟨r, true, s.svc.order, none, some k, false, false, none⟩] ∧
          t.svc.out = s.svc.out ++ [.record r.id.toNat 0 0 0 noId, .control ((s.plan.slots[k]?).getD 0) 2,
            .call k 1 r.console.val r.id.toNat] ∧ t.svc.dirty = true)) ∧
    (∀ g, s.reqOk 3 r = true → s.svc.grants.find? (fun h => h.req.id == r.target && h.call && !h.joined) = some g →
      ∃ t, exec (.svcAnswer r) s = .next t ∧
        t.svc.grants = s.svc.grants.map (fun (h : Grant) => if h.order = g.order then { h with joined := true } else h) ∧
        t.svc.out = s.svc.out ++ [.record r.id.toNat 0 0 0 noId, .call (g.slot.getD 0) 2 g.req.console.val g.req.id.toNat]) ∧
    (∀ g, s.reqOk 4 r = true → s.svc.queue = [] → s.svc.grants.find? (fun h => h.req.id == r.target) = some g →
      ∃ t, exec (.svcRelease r) s = .next t ∧ (∀ h ∈ t.svc.grants, h.order ≠ g.order) ∧
        SvcAct.record g.req.id.toNat 5 0 1 noId ∈ t.svc.out ∧ SvcAct.record r.id.toNat 0 0 0 noId ∈ t.svc.out ∧ t.svc.dirty = true) ∧
    (s.reqOk 5 r = true → (∀ l ∈ s.svc.locks, ∀ z ∈ s.plan.zoneList r, bitAt l.2.2 z = false) →
      ∃ t, exec (.svcLock r) s = .next t ∧
        t.svc.locks = s.svc.locks ++ [(r.id.toNat, (s.plan.source r.source.val).prio, maskOf (s.plan.zoneList r))] ∧
        SvcAct.record r.id.toNat 0 0 0 noId ∈ t.svc.out) ∧
    (∀ l, s.reqOk 6 r = true → s.svc.queue = [] → s.svc.locks.find? (fun x => x.1 == r.target.toNat) = some l →
      ∃ t, exec (.svcUnlock r) s = .next t ∧ t.svc.locks = s.svc.locks.filter (fun x => x != l) ∧
        SvcAct.record l.1 5 0 1 noId ∈ t.svc.out)) ∧
  (∀ s : State, s.ticking = true → s.boot.fwValid = true → s.svc.dirty = true → s.pagePending 0x38 = false →
    s.svc.doneAt ≠ some s.tg → s.flag R.XPM_STATUS_COPY_BUSY = false → s.flag R.XPM_CTRL_SVC_OWN = true → s.stateBlocked 0x38 = false →
    ∃ t, exec .serviceCommitArm s = .next t ∧ t.queue = s.queue ++ [⟨[0x38], true, .queued, none⟩] ∧ t.svc.armed = s.svc.out ∧
      t.svc.out = [] ∧ t.svc.dirty = false ∧ t.regs = s.regs ∧ t.svc.grants = s.svc.grants) ∧
  (∀ (s : State) (k : Fin 32) (g : Grant), s.svc.running = true → s.svc.grants = [g] → s.svc.queue = [] → g.player = some k.val →
    s.clipDone g = true → ∃ t, exec (.svcClipDone k) s = .next t ∧ t.svc.grants = [] ∧
      SvcAct.record g.req.id.toNat 5 0 0 noId ∈ t.svc.out ∧ t.svc.dirty = true)

/-! ### Supplies and temperatures -/

/-- Supplies. A warning shows live and seen with its event when its supply falls, and clears with its supply; VIN_WARN begins a
brownout hold with its ceiling, and the end of the warning ends the hold. VIN_RESET, VGD_UVLO and VDD5 below its stop level put every
channel that is not LATCHED into OFF and every rail that is not LATCHED into OFF; their ends let an enabled rail of a device in RUN start
again.
Commands that it says complete: vinWarn, vinWarnClear, vinReset, vinRecover, vgdWarn, vgdUvlo, vgdUvloClear, coreWarn, ioWarn. -/
def Obligations.SupplyRows : Prop :=
  (∀ s : State, s.powered = true →
    (s.flag R.SUP_PWR_STATUS_VIN_WARN = false → ∃ t, exec .vinWarn s = .next t ∧ t.flag R.SUP_PWR_STATUS_VIN_WARN = true ∧
      t.flag R.SUP_PWR_STATUS_VIN_WARN_SEEN = true ∧ t.sticky EV_VIN_WARN = true ∧
      t.power = { s.power with hold := true, brownCeil := 501187 }) ∧
    (s.flag R.SUP_PWR_STATUS_VIN_WARN = true → s.flag R.SUP_PWR_STATUS_VIN_RESET = false → ∃ t, exec .vinWarnClear s = .next t ∧
      t.flag R.SUP_PWR_STATUS_VIN_WARN = false ∧ t.power = { s.power with hold := false } ∧
      RegsOnly [R.SUP_PWR_STATUS_VIN_WARN] { s with power := t.power } t)) ∧
  (∀ (s : State) (c : Instr) (live seen : Fld) (e : Nat), s.powered = true → s.flag live = false →
    (c, live, seen, e) ∈ [(Instr.vgdWarn true, R.SUP_PWR_STATUS_VGD_WARN, R.SUP_PWR_STATUS_VGD_WARN_SEEN, EV_VGD_WARN),
      (.coreWarn true, R.SUP_PWR_STATUS_CORE_WARN, R.SUP_PWR_STATUS_CORE_WARN_SEEN, EV_CORE_WARN)] →
    ∃ t, exec c s = .next t ∧ t.flag live = true ∧ t.flag seen = true ∧ t.sticky e = true ∧ RaisesOnly [live, seen] s t) ∧
  (∀ (s : State) (c : Instr) (live : Fld), s.powered = true → s.flag live = true →
    (c, live) ∈ [(Instr.vgdWarn false, R.SUP_PWR_STATUS_VGD_WARN), (.coreWarn false, R.SUP_PWR_STATUS_CORE_WARN)] →
    ∃ t, exec c s = .next t ∧ t.flag live = false ∧ RegsOnly [live] s t) ∧
  (∀ (s : State) (k : Fin 7) (stop : Bool), s.powered = true → k.val ≠ 6 →
    (s.flag (ioWarnBit k.val) = false → ∃ t, exec (.ioWarn k true stop) s = .next t ∧ t.flag (ioWarnBit k.val) = true ∧
      t.bit R.SUP_LOGIC_STATUS_WARN_SEEN k.val = true ∧ t.sticky EV_IO_WARN = true ∧
      RaisesOnly [ioWarnBit k.val, R.SUP_LOGIC_STATUS_WARN_SEEN] s t) ∧
    (∃ t, exec (.ioWarn k false stop) s = .next t ∧ t.flag (ioWarnBit k.val) = false ∧ RegsOnly [ioWarnBit k.val] s t)) ∧
  (∀ (s : State) (c : Instr) (live seen : Fld), s.powered = true → s.flag live = false →
    (c, live, seen) ∈ [(Instr.vinReset, R.SUP_PWR_STATUS_VIN_RESET, R.SUP_PWR_STATUS_VIN_RESET_SEEN),
      (.vgdUvlo, R.SUP_PWR_STATUS_VGD_UVLO, R.SUP_PWR_STATUS_VGD_UVLO_SEEN),
      (.ioWarn 6 true true, R.SUP_LOGIC_STATUS_VDD5_STOP, R.SUP_LOGIC_STATUS_VDD5_STOP_SEEN)] →
    ∃ t, exec c s = .next t ∧ t.flag live = true ∧ t.flag seen = true ∧ SameCore s t ∧
      (∀ n, n < 8 → t.chState n = if s.chState n = chLatched then chLatched else chOff) ∧
      ∀ r, r < 2 → t.get R.BST_STATUS_STATE r = if s.get R.BST_STATUS_STATE r = 4 then 4 else 0) ∧
  (∀ (s : State) (c : Instr) (live : Fld), s.powered = true → s.flag live = true →
    (c, live) ∈ [(Instr.vinRecover, R.SUP_PWR_STATUS_VIN_RESET), (.vgdUvloClear, R.SUP_PWR_STATUS_VGD_UVLO),
      (.ioWarn 6 false false, R.SUP_LOGIC_STATUS_VDD5_STOP)] →
    ∃ t, exec c s = .next t ∧ t.flag live = false ∧ SameCore s t ∧
      ∀ r, r < 2 → s.dev = .run → s.flag R.BST_CTRL_EN r = true → s.flag R.PG_CTRL_EN (0x58 + r) = true →
        (s.put live 0).gatesHeld = false → (s.rail r).ntcShut = false → s.get R.BST_STATUS_STATE r = 0 →
        t.get R.BST_STATUS_STATE r = 1 ∨ t.get R.BST_STATUS_STATE r = 2)

/-- Temperatures and the watchdog. A thermistor at or below WARN_CODE limits every channel and holds back every rail that follows it, with
EV_NTC_WARN; at or below SHUT_CODE a muted channel runs down its gain, for the pilot, and one in RAMP_UP ramps down, each with cause 5; 64 codes
above, both end. The power die's shutdown puts every
channel and rail into OFF until it cools; a die's warning rises above its threshold and ends 5 °C below it. The logic die and a second
watchdog expiry within 60,000 ticks are fatal, with causes 6 and 3, and due SAFE in RUN; a first expiry and a corrected memory error only
raise their events. Readings of the model that it rests on: log entry 2.
Commands that it says complete: fatalFault, spWatchdogExpiry, ntcWarn, ntcShutdown, ntcWarnEnd, powerDieOvertemp, logicDieOvertemp,
tempWarn, powerDieTempRelease. -/
def Obligations.ThermalRows : Prop :=
  (∀ (s : State) (k : Fin 4) (code : Fin 4096), s.powered = true →
    (code.val ≤ s.get R.NTC_THR_WARN_CODE k.val → ∃ t, exec (.ntcWarn k code) s = .next t ∧ t.get R.NTC_CODE_CODE k.val = code.val ∧
      (∀ n, n < 8 → s.chNtc n k.val = true → t.flag R.PCH_STATUS_THERM_LIM n = true ∧
        (s.flag R.PCH_STATUS_THERM_LIM n = false → t.sticky EV_NTC_WARN = true)) ∧
      ∀ r, r < 2 → s.railNtcOn r k.val = true → (t.rail r).ntcWarn = true) ∧
    (s.get R.NTC_THR_WARN_CODE k.val < code.val → 40 ≤ code.val → code.val ≤ 4000 →
      exec (.ntcWarn k code) s = .next (s.put R.NTC_CODE_CODE code.val k.val)) ∧
    (∀ n, n < 8 → code.val ≤ s.get R.NTC_THR_SHUT_CODE k.val → s.chNtc n k.val = true → (s.ch n).ntcShut = false →
      s.chState n = chMute ∨ s.chState n = chUp → ∃ t, exec (.ntcShutdown k code) s = .next t ∧ (t.ch n).ntcShut = true ∧
        (s.chState n = chMute → t.chState n = chMute ∧ (t.ch n).gainEnd = .toDown) ∧ (s.chState n = chUp → t.chState n = chDown) ∧
        (s.railNtcOn (n / 4) k.val = false → (t.ch n).stopTo = 6) ∧ t.get R.PCH_STATUS_CAUSE n = 5 ∧ t.sticky (EV_PCH0_FAULT + n) = true) ∧
    (s.get R.NTC_THR_WARN_CODE k.val + 64 ≤ code.val → 40 ≤ code.val → code.val ≤ 4000 → ∃ t, exec (.ntcWarnEnd k code) s = .next t ∧
      (∀ n, n < 8 → s.chNtc n k.val = true → t.flag R.PCH_STATUS_THERM_LIM n = false ∧ (t.ch n).ntcShut = false) ∧
      ∀ r, r < 2 → s.railNtcOn r k.val = true → (t.rail r).ntcWarn = false ∧ (t.rail r).ntcShut = false)) ∧
  (∀ s : State, s.powered = true →
    (s.flag R.TEMP_STATUS_POWER_SHUT = false → ∃ t, exec .powerDieOvertemp s = .next t ∧ t.flag R.TEMP_STATUS_POWER_SHUT = true ∧
      t.flag R.TEMP_STATUS_POWER_CRIT_SEEN = true ∧ t.sticky EV_TEMP_CRIT = true ∧
      (∀ n, n < 8 → t.chState n = if s.chState n = chLatched then chLatched else chOff) ∧
      ∀ r, r < 2 → t.get R.BST_STATUS_STATE r = if s.get R.BST_STATUS_STATE r = 4 then 4 else 0) ∧
    (s.flag R.TEMP_STATUS_POWER_SHUT = true → ∃ t, exec .powerDieTempRelease s = .next t ∧
      t.flag R.TEMP_STATUS_POWER_SHUT = false ∧ SameCore s t) ∧
    (s.get R.EVT_FATAL_CAUSE = 0 → ∃ t, exec .logicDieOvertemp s = .next t ∧ t.flag R.TEMP_STATUS_LOGIC_CRIT_SEEN = true ∧
      t.get R.EVT_FATAL_CAUSE = 6 ∧ t.flag R.EVT_FATAL_VALID = true ∧ t.sticky EV_TEMP_CRIT = true ∧
      (s.dev = .run → t.safeWait = true) ∧ t.dev = s.dev) ∧
    exec (.fatalFault .smCorrected) s = .next (s.raise EV_SM_ECC_CORR)) ∧
  (∀ (s : State) (x : Int), s.powered = true →
    (∀ (die : Fin 2) (warn thr temp : Fld), (die, warn, thr, temp) ∈
        [((0 : Fin 2), R.TEMP_STATUS_LOGIC_WARN, R.TEMP_THRESH_LOGIC_WARN, R.TEMP_LOGIC_TEMP),
         (1, R.TEMP_STATUS_POWER_WARN, R.TEMP_THRESH_POWER_WARN, R.TEMP_POWER_TEMP)] →
      (s.flag warn = false → 4 * (s.get thr : Int) < x → ∃ t, exec (.tempWarn die x) s = .next t ∧ t.flag warn = true ∧
        t.flag R.TEMP_STATUS_WARN_SEEN = true ∧ t.sticky EV_TEMP_WARN = true ∧ t.getI temp = satTo temp.width x ∧
        RaisesOnly [warn, R.TEMP_STATUS_WARN_SEEN, temp] s t) ∧
      (s.flag warn = false → x ≤ 4 * (s.get thr : Int) → ∃ t, exec (.tempWarn die x) s = .next t ∧ t.flag warn = false ∧
        t.getI temp = satTo temp.width x ∧ RegsOnly [warn, temp] s t) ∧
      (s.flag warn = true → 4 * (s.get thr : Int) - 20 < x → ∃ t, exec (.tempWarn die x) s = .next t ∧ t.flag warn = true ∧
        t.getI temp = satTo temp.width x ∧ RegsOnly [warn, temp] s t) ∧
      (x ≤ 4 * (s.get thr : Int) - 20 → ∃ t, exec (.tempWarn die x) s = .next t ∧ t.flag warn = false ∧
        t.getI temp = satTo temp.width x ∧ RegsOnly [warn, temp] s t))) ∧
  (∀ s : State, s.powered = true → s.boot.fwValid = true →
    (s.svc.wdt = none → ∃ t, exec .spWatchdogExpiry s = .next t ∧ t.sticky EV_SP_WATCHDOG = true ∧
      t.svc = { s.svc with wdt := some s.tg } ∧ t.safeWait = s.safeWait ∧
      t.get R.SVC_WDT_CNT = min (s.get R.SVC_WDT_CNT + 1) (2 ^ R.SVC_WDT_CNT.width - 1) ∧
      t.get R.EVT_FATAL_CAUSE = s.get R.EVT_FATAL_CAUSE) ∧
    (∀ k, s.svc.wdt = some k → s.tg < k + 60000 → s.get R.EVT_FATAL_CAUSE = 0 → ∃ t, exec .spWatchdogExpiry s = .next t ∧
      t.get R.EVT_FATAL_CAUSE = 3 ∧ t.flag R.EVT_FATAL_VALID = true ∧ t.sticky EV_SP_WATCHDOG = true ∧ t.svc.wdt = some s.tg ∧
      (s.dev = .run → t.safeWait = true)))

/-! ### The power stage -/

/-- Boost rails. A soft start ends in TRACK with the command at VMIN. A fault stops the rail for half a second with its cause and event,
its switching channels waiting for it, and the third within 60 s latches it and takes them to OFF; a limited over-voltage is counted, and OVP shows in any
state of the rail whether it stands. After
the wait an enabled rail of a device in RUN soft-starts from VIN; CLEAR takes a latched rail that is not enabled to OFF with its faults
forgotten. Readings of the model that it rests on: log entry 39.
Commands that it says complete: railSoftStartDone, boostOvp, boostUvp, boostPhaseOcp, boostRetryExpiry, bstClear. -/
def Obligations.RailRows : Prop :=
  (∀ (s : State) (r : Fin 2), s.get R.BST_STATUS_STATE r.val = 1 → ∃ t, exec (.railSoftStartDone r) s = .next t ∧
    t.get R.BST_STATUS_STATE r.val = 2 ∧ (t.rail r.val).cmd = s.vmin r.val ∧ (t.rail r.val).setp = s.vmin r.val) ∧
  (∀ (s : State) (r : Fin 2) (above lasted : Bool) (n : Nat), s.powered = true → s.railRuns r.val = false →
    exec (.boostOvp r above lasted n) s = .next (s.put R.BST_STATUS_OVP (b2n above) r.val)) ∧
  (∀ (s : State) (r : Fin 2) (above : Bool) (n : Nat), s.powered = true → s.railRuns r.val = true → ∃ t, exec (.boostOvp r above false n) s = .next t ∧
    t.flag R.BST_STATUS_OVP r.val = above ∧
    t.get R.BST_OVP_CNT r.val = min (s.get R.BST_OVP_CNT r.val + n) (2 ^ R.BST_OVP_CNT.width - 1) ∧
    RegsOnly [R.BST_STATUS_OVP, R.BST_OVP_CNT, R.PG_STATUS_SAT_SEEN] s t) ∧
  (∀ (s : State) (r ph : Fin 2) (above : Bool) (n : Nat) (c : Instr) (cause : Nat), s.powered = true → s.railRuns r.val = true →
    (c, cause) ∈ [(Instr.boostOvp r above true n, 1), (.boostUvp r, 2), (.boostPhaseOcp r ph, 3)] →
    ∃ t, exec c s = .next t ∧ t.get R.BST_STATUS_CAUSE r.val = cause ∧ t.flag R.BST_STATUS_FAULT_SEEN r.val = true ∧
      t.get R.BST_FAULT_INFO_CAUSE r.val = cause ∧ t.sticky (EV_BOOST_A_FAULT + r.val) = true ∧ (t.rail r.val).cmd = 0 ∧
      (t.rail r.val).faults = s.tg :: s.railRecent r.val ∧
      ((s.railRecent r.val).length < 2 → t.get R.BST_STATUS_STATE r.val = 3 ∧
        ∀ k, k < 4 → switching (s.chState (4 * r.val + k)) = true →
          t.chState (4 * r.val + k) = chRetry ∧ t.get R.PCH_STATUS_CAUSE (4 * r.val + k) = 6) ∧
      (2 ≤ (s.railRecent r.val).length → t.get R.BST_STATUS_STATE r.val = 4 ∧
        ∀ k, k < 4 → switching (s.chState (4 * r.val + k)) = true → t.chState (4 * r.val + k) = chOff) ∧
      ∀ m, m < 8 → m / 4 ≠ r.val → t.chState m = s.chState m) ∧
  (∀ (s : State) (r : Fin 2), s.get R.BST_STATUS_STATE r.val = 3 → s.get R.BST_STATUS_CAUSE r.val ≠ 4 → s.dev = .run →
    s.flag R.BST_CTRL_EN r.val = true → s.flag R.PG_CTRL_EN (0x58 + r.val) = true → s.gatesHeld = false →
    (s.rail r.val).ntcShut = false → s.get R.SUP_VIN_MEAS_VOLTS * 10000 < s.vmin r.val →
    ∃ t, exec (.boostRetryExpiry r) s = .next t ∧ t.get R.BST_STATUS_STATE r.val = 1 ∧
      (t.rail r.val).cmd = s.get R.SUP_VIN_MEAS_VOLTS * 10000 ∧ (t.rail r.val).setp = s.vmin r.val ∧ SameCore s t) ∧
  (∀ (s : State) (who : Initiator) (r : Fin 2), s.takes who (0x58040 + 0x1000 * r.val) = true →
    (s.get R.BST_STATUS_STATE r.val = 4 → s.flag R.BST_CTRL_EN r.val = false → ∃ t, exec (.bstClear who r) s = .next t ∧
      t.get R.BST_STATUS_STATE r.val = 0 ∧ (t.rail r.val).faults = [] ∧ (t.rail r.val).cmd = 0 ∧ SameCore s t) ∧
    (s.get R.BST_STATUS_STATE r.val ≠ 4 → exec (.bstClear who r) s = .next s))

/-- Channel states. A gain ramp ends at full gain, in RAMP_DOWN or in MUTE, a common-mode ramp in MUTE, in PLAY with the gain rising, in
OFF, or with a sweep's first tone. CLEAR takes a latched channel to OFF and forgets its retries; a wait that is over leads to the retry test,
or to OFF where the channel is not on; 60 s of PLAY forget the retries. A rail too low scales the channel to the end
of the tick, counted and shown, and a SYNC channel that leaves lock is counted once until it locks again; a relock changes nothing else.
Readings of the model that it rests on: log entries 27, 37.
Commands that it says complete: gainRampEnd, cmRampEnd, pchClear, retryWaitExpiry, retryNumClear, syncSlip, syncRelock,
reactiveRailLimit. -/
def Obligations.ChannelRows : Prop :=
  (∀ (s : State) (n : Fin 8), s.powered = true → s.clockError = false → s.chState n.val = chPlay ∨ s.chState n.val = chMute →
    ((s.ch n.val).dir = 1 → ∃ t, exec (.gainRampEnd n) s = .next t ∧
      t.ch n.val = { s.ch n.val with gain := gainFull, dir := 0, gainEnd := .stay } ∧ t.regs = s.regs) ∧
    ((s.ch n.val).dir = 2 → (s.ch n.val).gainEnd = .toDown → ∃ t, exec (.gainRampEnd n) s = .next t ∧ t.chState n.val = chDown ∧
      (t.ch n.val).gain = 0 ∧ (t.ch n.val).cm = s.get R.PCH_CFG_CM_RAMP n.val * 30720 ∧ t.sticky EV_PCH_STATE = true) ∧
    (s.chState n.val = chPlay → (s.ch n.val).dir = 2 → (s.ch n.val).gainEnd = .toMute → s.muteWanted n.val = true → ∃ t, exec (.gainRampEnd n) s = .next t ∧
      t.chState n.val = chMute ∧ (t.ch n.val).gain = 0 ∧ t.sticky EV_PCH_STATE = true)) ∧
  (∀ (s : State) (n : Fin 8) (trim : Option Int), s.powered = true → s.clockError = false →
    (s.chState n.val = chUp → ∃ t, exec (.cmRampEnd n trim) s = .next t ∧
      t.chState n.val = (if s.muteWanted n.val then chMute else chPlay) ∧ (t.ch n.val).gain = 0 ∧
      (t.ch n.val).cm = (s.ch n.val).cmTotal ∧ (s.muteWanted n.val = false → (t.ch n.val).dir = 1) ∧
      ∀ x, trim = some x → t.getI R.PCH_OL_TRIM_TRIM n.val = satTo 16 x ∧ t.flag R.PCH_STATUS_CAL_VALID n.val = true) ∧
    (s.chState n.val = chDown → (s.ch n.val).stopTo = 0 → ∃ t, exec (.cmRampEnd n trim) s = .next t ∧ t.chState n.val = chOff ∧
      (t.ch n.val).cm = 0 ∧ t.sticky EV_PCH_STATE = true) ∧
    (s.chState n.val = chDiag → s.diag.cur = some n.val → s.diag.step = 2 →
      exec (.cmRampEnd n trim) s = .next (({ s with diag := { s.diag with step := 3 } }.modCh n.val
        (fun x => { x with cm := x.cmTotal })).send (.tone n.val (s.toneSpec 0))))) ∧
  (∀ (s : State) (who : Initiator) (n : Fin 8), s.takes who (0x50040 + 0x1000 * n.val) = true → s.runs = false →
    s.chState n.val = chLatched → ∃ t, exec (.pchClear who n) s = .next t ∧ t.chState n.val = chOff ∧
      t.get R.PCH_STATUS_RETRY_NUM n.val = 0 ∧ (t.ch n.val).retried = false ∧ SameCore s t) ∧
  (∀ (s : State) (n : Fin 8), s.powered = true → s.chState n.val = chRetry → s.get R.PCH_STATUS_CAUSE n.val ≠ 5 →
    s.get R.PCH_STATUS_CAUSE n.val ≠ 6 →
    (s.runs = true → s.chOn n.val = true → s.railTracks n.val = true → ∃ t, exec (.retryWaitExpiry n) s = .next t ∧
      t.chState n.val = chDiag ∧ (t.ch n.val).test = 2 ∧ (t.ch n.val).retried = true ∧ (t.ch n.val).expired = false) ∧
    (s.chOn n.val = false → ∃ t, exec (.retryWaitExpiry n) s = .next t ∧ t.chState n.val = chOff)) ∧
  (∀ (s : State) (n : Fin 8), s.powered = true → s.chState n.val = chPlay →
    (∃ t, exec (.retryNumClear n) s = .next t ∧ t.get R.PCH_STATUS_RETRY_NUM n.val = 0 ∧ (t.ch n.val).retried = false ∧
      RegsAt [R.PCH_STATUS_RETRY_NUM] n.val { s with power := t.power } t) ∧
    ((s.ch n.val).limAt ≠ some s.tg → ∃ t, exec (.reactiveRailLimit n) s = .next t ∧ t.flag R.PCH_STATUS_RAIL_LIM n.val = true ∧
      t.get R.RAIL_LIM_CNT n.val = min (s.get R.RAIL_LIM_CNT n.val + 1) (2 ^ R.RAIL_LIM_CNT.width - 1) ∧
      (t.ch n.val).limAt = some s.tg ∧ (t.ch n.val).pilotBad = true ∧ (t.ch n.val).react = s.reactGain n.val ∧
      t.wire = .react n.val (s.reactGain n.val) :: s.wire ∧
      (s.power.limTick = none → t.sticky EV_RAIL_UV = true))) ∧
  (∀ (s : State) (n : Fin 8), s.powered = true → s.chDriven n.val = true → (s.ch n.val).mod = 1 →
    s.flag R.PCH_STATUS_OPEN_LOOP n.val = false → (s.ch n.val).slipped = false → ∃ t, exec (.syncSlip n) s = .next t ∧
      t.get R.SYNC_SLIP_CNT n.val = min (s.get R.SYNC_SLIP_CNT n.val + 1) (2 ^ R.SYNC_SLIP_CNT.width - 1) ∧
      t.flag R.PCH_STATUS_SYNC_SLIP n.val = true ∧ (t.ch n.val).slipped = true ∧
      RegsOnly [R.SYNC_SLIP_CNT, R.PCH_STATUS_SYNC_SLIP, R.PG_STATUS_SAT_SEEN] { s with power := t.power } t) ∧
  (∀ (s : State) (n : Fin 8), (s.ch n.val).slipped = true → exec (.syncSlip n) s = .next s) ∧
  (∀ (s : State) (n : Fin 8), exec (.syncRelock n) s = .next (s.modCh n.val (fun x => { x with slipped := false })))

/-- Channel faults. Limited cycles are counted, and under a commanded sweep they end it with ABORTED through RAMP_DOWN. An over-current trip of a switching channel that is not under a commanded test records its
cause, counts and waits for a retry, and as the third failed retry latches; a DC fault latches at once a channel whose bridges are driven. A closed-loop channel that loses
its sense falls back to open loop where AUTO_FB says so, and plays on.
Commands that it says complete: ocpCycleLimit, ocpSustained, ocpFast, dcFault, senseLoss. -/
def Obligations.ChannelFaults : Prop :=
  (∀ (s : State) (n : Fin 8) (k : Nat), s.powered = true → switching (s.chState n.val) = true →
    ∃ t, exec (.ocpCycleLimit n k) s = .next t ∧
      t.get R.OCP_CYCLE_CNT n.val = min (s.get R.OCP_CYCLE_CNT n.val + k) (2 ^ R.OCP_CYCLE_CNT.width - 1) ∧
      RegsOnly [R.OCP_CYCLE_CNT, R.PG_STATUS_SAT_SEEN] s t) ∧
  (∀ (s : State) (n : Fin 8) (k : Nat), s.powered = true → s.chState n.val = chDiag → s.diag.cur = some n.val → 2 ≤ s.diag.step →
    s.diag.step ≤ 9 → ∃ t, exec (.ocpCycleLimit n k) s = .next t ∧ t.chState n.val = chDown ∧ t.diag = { s.diag with step := 10 } ∧
      t.get R.DIAG_RES_AC_RESULT n.val = 3 ∧
      t.get R.OCP_CYCLE_CNT n.val = min (s.get R.OCP_CYCLE_CNT n.val + k) (2 ^ R.OCP_CYCLE_CNT.width - 1)) ∧
  (∀ (s : State) (n : Fin 8) (c : Instr) (cause : Nat), s.powered = true → switching (s.chState n.val) = true →
    s.diag.cur ≠ some n.val → (c, cause) ∈ [(Instr.ocpSustained n, 1), (.ocpFast n, 2)] →
    ∃ t, exec c s = .next t ∧ t.get R.PCH_STATUS_CAUSE n.val = cause ∧ t.flag R.PCH_STATUS_FAULT_SEEN n.val = true ∧
      t.get R.PCH_FAULT_INFO_CAUSE n.val = cause ∧ t.sticky (EV_PCH0_FAULT + n.val) = true ∧
      t.get R.SHUTDOWN_CNT n.val = min (s.get R.SHUTDOWN_CNT n.val + 1) (2 ^ R.SHUTDOWN_CNT.width - 1) ∧ (t.ch n.val).gain = 0 ∧
      ((s.ch n.val).retried = false → t.chState n.val = chRetry ∧
        t.get R.PCH_STATUS_RETRY_NUM n.val = s.get R.PCH_STATUS_RETRY_NUM n.val) ∧
      ((s.ch n.val).retried = true → s.get R.PCH_STATUS_RETRY_NUM n.val < 2 → t.chState n.val = chRetry ∧
        t.get R.PCH_STATUS_RETRY_NUM n.val = s.get R.PCH_STATUS_RETRY_NUM n.val + 1) ∧
      ((s.ch n.val).retried = true → 2 ≤ s.get R.PCH_STATUS_RETRY_NUM n.val → t.chState n.val = chLatched ∧
        t.get R.PCH_STATUS_RETRY_NUM n.val = 3) ∧
      ∀ m, m < 8 → m ≠ n.val → t.chState m = s.chState m) ∧
  (∀ (s : State) (n : Fin 8), s.powered = true → s.chDriven n.val = true →
    (∃ t, exec (.dcFault n) s = .next t ∧ t.chState n.val = chLatched ∧ t.get R.PCH_STATUS_CAUSE n.val = 3 ∧
      t.get R.DC_FAULT_CNT n.val = min (s.get R.DC_FAULT_CNT n.val + 1) (2 ^ R.DC_FAULT_CNT.width - 1) ∧
      t.sticky (EV_PCH0_FAULT + n.val) = true ∧ ∀ m, m < 8 → m ≠ n.val → t.chState m = s.chState m) ∧
    (s.flag R.PCH_STATUS_OPEN_LOOP n.val = false → (s.ch n.val).mod ≠ 2 → s.flag R.PCH_CFG_AUTO_FB n.val = true →
      ∃ t, exec (.senseLoss n) s = .next t ∧ t.flag R.PCH_STATUS_OPEN_LOOP n.val = true ∧
        t.flag R.PCH_STATUS_FALLBACK_SEEN n.val = true ∧ t.sticky EV_SENSE_FALLBACK = true ∧ t.chState n.val = s.chState n.val ∧
        t.get R.FALLBACK_CNT n.val = min (s.get R.FALLBACK_CNT n.val + 1) (2 ^ R.FALLBACK_CNT.width - 1)))

/-- The die link and the DAC clock. A good frame brings samples, setpoints and status; a failed one leaves the power die the samples and
setpoints of the frame before. Failed frames in a row are counted; the sixteenth, or the loss reported, is a loss of the DAC clock,
which mutes every switching channel outside SAFE with one EV_CLK_MUTE and moves none of them; a good frame ends it. 100 ms of loss put every
channel and rail into OFF. Readings of the model that it rests on: log entries 57, 106.
Commands that it says complete: dieLinkFrame, dieLinkLoss, dieLinkShutdown, dacClockLoss. -/
def Obligations.DieLinkRows : Prop :=
  (∀ s : State, s.powered = true →
    (∃ t, exec (.dieLinkFrame true) s = .next t ∧ t.power.badFrames = 0 ∧ t.power.linkLost = false ∧ t.power.linkOff = false ∧
      t.power.linkTicks = 0 ∧ t.power.pllLost = s.power.pllLost ∧
      t.power.link.setpoints = (List.range 2).map (fun r => (t.rail r).setp) ∧
      t.power.link.status = (List.range 8).map t.chState ++ (List.range 2).map (fun r => t.get R.BST_STATUS_STATE r) ∧ SameCore s t) ∧
    (s.power.badFrames < 15 → exec (.dieLinkFrame false) s = .next ({ s with power := { s.power with badFrames := s.power.badFrames + 1 } }.send
      (.dieHeld s.power.link.samples s.power.link.setpoints))) ∧
    (s.power.linkLost = true → ∃ t, exec .dieLinkShutdown s = .next t ∧ t.power.linkOff = true ∧ SameCore s t ∧
      (∀ n, n < 8 → t.chState n = if s.chState n = chLatched then chLatched else chOff) ∧
      ∀ r, r < 2 → t.get R.BST_STATUS_STATE r = if s.get R.BST_STATUS_STATE r = 4 then 4 else 0)) ∧
  (∀ (s : State) (c : Instr), s.powered = true → s.dev ≠ .safe → s.power.linkLost = false → s.power.pllLost = false →
    (c = .dieLinkLoss ∨ (c = .dieLinkFrame false ∧ 15 ≤ s.power.badFrames) ∨ (c = .dacClockLoss ∧ s.pllmGated = true)) →
    ∃ t, exec c s = .next t ∧ t.clockError = true ∧ t.sticky EV_CLK_MUTE = true ∧ SameCore s t ∧
      (c ≠ .dacClockLoss → t.power.linkLost = true) ∧ (c = .dacClockLoss → t.power.pllLost = true) ∧
      ∀ n, n < 8 → t.chState n = s.chState n ∧ (switching (s.chState n) = true → t.flag R.PCH_STATUS_CLK_MUTE n = true))

/-! ### Diagnostics -/

/-- Diagnostics. A commanded operation on one channel in OFF takes it into DIAG and sets BUSY; while one runs, another is ignored. A
commanded DC test records its resistance and class and is over; a start test that finds a short trips with cause 4. A tone's result is
recorded and the next tone starts; a channel that is done returns to OFF, and after the last the operation ends with its event. A pilot
window ends at a multiple of 1,536 ticks: one that does not count is counted as skipped; one that does is recorded.
Commands that it says complete: diagDc, diagSweep, diagLearn, dcTestDone, sweepToneDone, diagChannelDone, pilotWindowEnd. -/
def Obligations.DiagRows : Prop :=
  (∀ (s : State) (who : Initiator) (n : Fin 8) (mask : Fin 256) (c : Instr) (op : Nat), s.takes who 0x5a040 = true →
    (c, op) ∈ [(Instr.diagDc who mask, 1), (.diagSweep who mask, 2), (.diagLearn who mask, 3)] →
    (s.flag R.DIAG_CMD_BUSY = false → s.dev = .ready ∨ s.dev = .run → mask.val = 2 ^ n.val → s.chState n.val = chOff →
      ∃ t, exec c s = .next t ∧ t.flag R.DIAG_CMD_BUSY = true ∧ t.get R.DIAG_CMD_OP = op ∧ t.diag.op = op ∧
        t.diag.cur = some n.val ∧ t.diag.left = [] ∧ t.chState n.val = chDiag ∧ SameCore s t) ∧
    (s.flag R.DIAG_CMD_BUSY = true → ∃ t, exec c s = .next t ∧ t.sticky EV_HOST_ERR = true ∧ t.diag = s.diag ∧
      RaisesOnly [R.DIAG_CMD_OP, R.DIAG_CMD_CH_MASK] s t)) ∧
  (∀ (s : State) (n : Fin 8) (ohms : Nat), s.powered = true → s.chState n.val = chDiag → ohms < 65536 →
    ((s.ch n.val).test = 3 → s.diag.op = 1 → ∃ t, exec (.dcTestDone n ohms) s = .next t ∧
      t.get R.DIAG_DC_OHMS n.val = (if 6400 < ohms then 0xffff else ohms) ∧
      t.get R.DIAG_RES_DC_RESULT n.val = s.dcClass n.val ohms false ∧ t.diag = { s.diag with step := 10 } ∧
      t.ch n.val = { s.ch n.val with test := 0 } ∧
      RegsAt [R.DIAG_DC_OHMS, R.DIAG_RES_DC_RESULT] n.val { s with power := t.power, diag := t.diag } t) ∧
    ((s.ch n.val).test = 1 → s.diag.cur ≠ some n.val → (s.ch n.val).retried = false → s.dcClass n.val ohms false = 2 →
      ∃ t, exec (.dcTestDone n ohms) s = .next t ∧ t.chState n.val = chRetry ∧ t.get R.PCH_STATUS_CAUSE n.val = 4 ∧
        t.get R.DIAG_RES_DC_RESULT n.val = 2 ∧ t.sticky (EV_PCH0_FAULT + n.val) = true)) ∧
  (∀ (s : State) (n mag k : Nat) (phase : Int), s.powered = true → s.clockError = false → s.diag.cur = some n → n < 8 →
    s.chState n = chDiag → k < 5 → s.diag.step = 3 + k → mag < 65536 →
    ∃ t, exec (.sweepToneDone mag phase) s = .next t ∧ t.get R.DIAG_AC_MAG n k = mag ∧
      t.getI R.DIAG_AC_PHASE n k = satTo R.DIAG_AC_PHASE.width phase ∧ t.wire = .tone n (s.toneSpec (k + 1)) :: s.wire ∧
      t.diag = { s.diag with step := 4 + k, tones := s.diag.tones ++ [(mag, phase)] } ∧
      RegsOnly [R.DIAG_AC_MAG, R.DIAG_AC_PHASE] { s with diag := t.diag, wire := t.wire } t) ∧
  (∀ (s : State) (n : Nat), s.dev = .ready → s.diag.cur = some n → n < 8 → s.diag.step = 10 → s.diag.tones = [] →
    s.diag.left = [] → s.chState n = chDiag →
    ∃ t, exec .diagChannelDone s = .next t ∧ t.chState n = chOff ∧ t.flag R.DIAG_CMD_BUSY = false ∧
      t.sticky EV_DIAG_DONE = true ∧ t.diag = ⟨0, [], none, 0, []⟩) ∧
  (∀ (s : State) (n : Fin 8) (quiet : Bool) (mag : Nat) (phase : Int), s.tickNum % 1536 ≠ 0 ∨ (s.ch n.val).winAt = s.tg →
    exec (.pilotWindowEnd n quiet mag phase) s = .next s) ∧
  (∀ (s : State) (n : Fin 8) (mag : Nat) (phase : Int), s.ticking = true → s.bit R.DIAG_PILOT_EN n.val = true → s.tickNum % 1536 = 0 →
    (s.ch n.val).winAt ≠ s.tg →
    (∃ t, exec (.pilotWindowEnd n false mag phase) s = .next t ∧
      t.get R.PILOT_SKIP_CNT n.val = min (s.get R.PILOT_SKIP_CNT n.val + 1) (2 ^ R.PILOT_SKIP_CNT.width - 1) ∧
      RegsOnly [R.PILOT_SKIP_CNT, R.PG_STATUS_SAT_SEEN] { s with power := t.power } t) ∧
    ((s.ch n.val).pilotBad = false → s.tg = (s.ch n.val).winAt + 1536 → (s.ch n.val).base = none → s.chState n.val = chPlay → s.clockError = false → s.flag R.DIAG_BASE_CTRL_VALID n.val = false →
      mag < 65536 → ∃ t, exec (.pilotWindowEnd n true mag phase) s = .next t ∧ t.get R.DIAG_PILOT_MAG n.val = mag ∧
        t.getI R.DIAG_PILOT_PHASE n.val = satTo R.DIAG_PILOT_PHASE.width phase ∧
        RegsAt [R.DIAG_PILOT_MAG, R.DIAG_PILOT_PHASE] n.val { s with power := t.power } t))

/-! ### Brace pairs -/

/-- The two paths of a pair. Each segment of a brace frame that fails is counted and the other segment is used alone, a stranger's frame is
ignored, and the sixth valid one in a row makes the brace path present with what the partner reports and its media time against the unit's
own. In ticks that are multiples of 6 a heartbeat goes out with its count and its tag on the port whose link is up, and in no others; a
heartbeat whose tag is right and that repeats none, and that is the partner's, makes the network path present, any other is refused with its
event or ignored. A silent path is lost with its event; with both lost the partner is, and a unit in step is to become ACTIVE. A unit that has
waited long enough for its partner is to become ACTIVE, and SWAP demotes an ACTIVE unit of a pair in step, and no other. That a frame whose
leading segment fails is of the present tick and of the role the partner last reported is the model's choice (log 141), as is the slot that a
heartbeat goes out with (log 99). Readings of the model that it rests on: log entries 75, 77, 96, 99, 141.
Commands that it says complete: braceFrameRx, bracePathSilent, networkHeartbeatTx, networkHeartbeatRx, netPathSilent, formationTimeout,
swap. -/
def Obligations.BraceRows : Prop :=
  (∀ (s : State) (f : BraceFrame) (own : Nat), s.braceOn = true → s.braceLane = true →
    (f.leadOk = false → f.restOk = false →
      exec (.braceFrameRx ⟨f, own⟩) s = .next ((s.bump R.BRACE_FRAME_ERR_CNT).bump R.BRACE_FRAME_ERR_CNT)) ∧
    (f.leadOk = false → f.restOk = true →
      let u := s.bump R.BRACE_FRAME_ERR_CNT
      exec (.braceFrameRx ⟨f, own⟩) s = .next (u.takeRest f (s.get R.BRACE_STATUS_PARTNER_ROLE) s.tickNum)) ∧
    (f.leadOk = true → f.restOk = false → f.device = s.get R.BRACE_CFG_PARTNER_ID →
      exec (.braceFrameRx ⟨f, own⟩) s = .next ((s.takeLead ⟨f, own⟩).bump R.BRACE_FRAME_ERR_CNT)) ∧
    (f.leadOk = true → f.device ≠ s.get R.BRACE_CFG_PARTNER_ID → exec (.braceFrameRx ⟨f, own⟩) s = .next s) ∧
    (∀ k, f.leadOk = true → f.restOk = true → f.device = s.get R.BRACE_CFG_PARTNER_ID → f.role = 3 → f.notice = false →
      f.digest = none → s.role ≠ .active → s.role ≠ .detached → s.flag R.BRACE_STATUS_BRACE_PRESENT = false →
      s.brace.last = some k → s.tg = k + 1 → 5 ≤ s.brace.run →
      ∃ t, exec (.braceFrameRx ⟨f, own⟩) s = .next t ∧ t.flag R.BRACE_STATUS_BRACE_PRESENT = true ∧
        t.get R.BRACE_STATUS_PARTNER_ROLE = 3 ∧ t.brace.ptnDev = f.dev ∧ t.brace.lost = false ∧ t.brace.run = s.brace.run + 1 ∧
        RegsOnly [R.BRACE_STATUS_BRACE_PRESENT, R.BRACE_STATUS_PARTNER_ROLE]
          { s with peerEpoch := t.peerEpoch, brace := t.brace, plumb := t.plumb } t ∧
        ∀ n, n < 8 → t.ref n = if s.get R.REF_CFG_SOURCE n = 8 then { s.ref n with fresh := some ((f.time : Int) - own) } else s.ref n)) ∧
  (∀ s : State, s.braceOn = true → s.flag R.BRACE_STATUS_BRACE_PRESENT = true → s.flag R.BRACE_STATUS_NET_PRESENT = true →
    s.seating = false → ∃ t, exec .bracePathSilent s = .next t ∧ t.flag R.BRACE_STATUS_BRACE_PRESENT = false ∧
      t.sticky EV_BRACE_LINK_DOWN = true ∧ t.brace.run = 0 ∧ t.brace.lost = s.brace.lost ∧
      t.brace.want = s.brace.want ++ (if s.role = .inStep then [(Role.detached, 5)] else [])) ∧
  (∀ s : State, s.braceOn = true → s.ringUp = true → s.flag R.BRACE_STATUS_NET_PRESENT = true →
    (s.flag R.BRACE_STATUS_BRACE_PRESENT = true → ∃ t, exec .netPathSilent s = .next t ∧
      t.flag R.BRACE_STATUS_NET_PRESENT = false ∧ t.sticky EV_NET_HEARTBEAT_LOST = true ∧ t.brace = s.brace) ∧
    (s.flag R.BRACE_STATUS_BRACE_PRESENT = false → s.brace.lost = false → s.role = .inStep →
      ∃ t, exec .netPathSilent s = .next t ∧ t.flag R.BRACE_STATUS_NET_PRESENT = false ∧ t.sticky EV_NET_HEARTBEAT_LOST = true ∧
        t.sticky EV_PARTNER_LOST = true ∧ t.flag R.BRACE_STATUS_PARTNER_LOST_SEEN = true ∧ t.brace.lost = true ∧
        t.brace.want = s.brace.want ++ [(Role.active, 1)])) ∧
  (∀ s : State, s.tickNum % 6 ≠ 0 → exec .networkHeartbeatTx s = .next s) ∧
  (∀ s : State, s.braceOn = true → s.tickNum % 6 = 0 → s.link 0 = true → s.link 1 = false →
    let k := s.hbSlot
    let n := ((s.slot k).sent + 1) % 2 ^ 32
    let session := s.get R.SEC_IB_SESSION_SESSION
    let pcp := s.get R.BRACE_HB_CFG_PCP
    let data := [s.get R.SYS_DEVICE_ID_ID, roleCode s.role, devCode s.dev, s.tickNum % 2 ^ 32, s.tickNum / 2 ^ 32, b2n s.brace.notice]
    let w := Wire.ocdor
      ⟨s.get R.BRACE_HB_MAC_LO_MAC + s.get R.BRACE_HB_CFG_MAC * 2 ^ 32, s.portMac 0, some (s.get R.BRACE_HB_CFG_VID, pcp)⟩ none k 5 0 0 6
      0x60000 session n data (Config.cmac64 ((s.ibKey k).getD 0) (ocdorBytes 1 5 0 k 0 6 0x60000 session n data))
    s.takesFrame 0 (s.tcOf pcp) w = true →
    exec .networkHeartbeatTx s = .next ((s.setSlot k { s.slot k with sent := n }).withFrame 0 (s.tcOf pcp) w)) ∧
  (∀ (s : State) (h : Heartbeat), s.braceOn = true →
    (s.beatOk h = false → exec (.networkHeartbeatRx h) s = .next (s.raise EV_INBAND_AUTH_FAIL)) ∧
    (s.beatOk h = true → h.device ≠ s.get R.BRACE_CFG_PARTNER_ID → exec (.networkHeartbeatRx h) s = .next s) ∧
    (s.beatOk h = true → h.device = s.get R.BRACE_CFG_PARTNER_ID → h.notice = false → h.role < 6 → s.role ≠ .active →
      ∃ t, exec (.networkHeartbeatRx h) s = .next t ∧ t.flag R.BRACE_STATUS_NET_PRESENT = true ∧
        t.get R.BRACE_STATUS_PARTNER_ROLE = h.role ∧ t.brace.ptnDev = h.dev ∧ t.brace.fresh = true ∧ t.brace.lost = false ∧
        t.brace.beat = some (h.session.toNat, h.count.toNat) ∧ t.get R.NET_HB_RX_CNT = min (s.get R.NET_HB_RX_CNT + 1) (2 ^ R.NET_HB_RX_CNT.width - 1))) ∧
  (∀ s : State, s.paired = true → s.role = .seating → s.dev = .ready ∨ s.dev = .run → s.heardNow = false →
    exec .formationTimeout s = .next { s with brace := { s.brace with want := s.brace.want ++ [(Role.active, 0)] } }) ∧
  (∀ (s : State) (who : Initiator), s.takes who 0x60040 = true →
    (s.pairInStep = true → s.role = .active → ∃ t, exec (.swap who) s = .next t ∧
      t.brace = { s.brace with notice := true, want := s.brace.want ++ [(Role.seating, 3)] } ∧ t.shadow = s.shadow ∧ SameCore s t) ∧
    (s.pairInStep = false ∨ s.role ≠ .active → exec (.swap who) s = .next (s.raise EV_HOST_ERR)))

/-- Re-seat, cold start and relays. A re-seat that may begin begins round 1 with the size of the seated state, and the active sends all of it; a
round with few pages left sets FINAL for the next boundary, one with more begins the next round, for which the active sends the pages that
changed; in the kerf of a tick at least two into FINAL the active sends what is left and SEAL, and the standby that receives it in time runs
in step from the boundary with the seated state; 400 ms without it abandon the re-seat. A cold start ends in ACTIVE. A relay's takeover and
release begin with their counts and events, its targets at rest let it move, and once it has settled its targets start. That a re-seat's last
pages go out right ahead of SEAL (log 142), how large the seated state is counted (log 28), and that a relay commits a channel whose page
waits for another commit after that commit (log 80), are the model's choices.
Readings of the model that it rests on: log entries 28, 78, 79, 80, 140, 142.
Commands that it says complete: reseatStart, reseatRoundDone, sealSend, sealRx, reseatTimeout, reseatRetry, coldStartDone, relayTakeover,
relayEnergise, relaySettled, relayRelease. -/
def Obligations.ReseatRelayRows : Prop :=
  (∀ (s : State) (c : Instr), c = .reseatStart ∨ c = .reseatRetry →
    (s.seatReady = false → exec c s = .next s) ∧
    (s.seatReady = true → ∃ t, exec c s = .next t ∧ t.seatPhase = 2 ∧ t.get R.BRACE_SEAT_STATUS_ROUND = 1 ∧
      t.get R.BRACE_SEAT_STATUS_DIRTY = 0 ∧ t.brace.seatAt = s.tg ∧ t.brace.finalAt = none ∧ t.brace.sealed = false ∧
      t.brace.got = (0, 0) ∧ t.get R.BRACE_SEAT_SIZE_KIB = s.seatKib ∧
      (s.role = .seating → s.brace.saved = none → t.brace.saved = some s.seatSave ∧ t.wire = s.wire) ∧
      (s.role = .active → (∃ l, t.wire = .seated l :: s.wire ∧ ∀ k, k ∈ s.seatRegs → ∃ m ∈ l, m.addr = BitVec.ofNat 32 k.1 ∧ m.entry = k.2) ∧
        t.brace.sent.map (·.mem) = some s.mem) ∧
      RegsOnly [R.BRACE_SEAT_STATUS_PHASE, R.BRACE_SEAT_STATUS_ROUND, R.BRACE_SEAT_STATUS_DIRTY, R.BRACE_SEAT_SIZE_KIB]
        { s with brace := t.brace, wire := t.wire } t)) ∧
  (∀ (s : State) (dirty : Nat) (seated : List Mirror), s.seatPhase = 2 → s.role = .active →
    (dirty < 256 → ∃ t, exec (.reseatRoundDone dirty seated) s = .next t ∧ t.get R.BRACE_SEAT_STATUS_DIRTY = dirty ∧
      t.brace = { s.brace with finalAt := some (s.tg + 1) } ∧ RegsOnly [R.BRACE_SEAT_STATUS_DIRTY] { s with brace := t.brace } t) ∧
    (256 ≤ dirty → ∃ t, exec (.reseatRoundDone dirty seated) s = .next t ∧ t.get R.BRACE_SEAT_STATUS_DIRTY = min dirty 8191 ∧
      t.get R.BRACE_SEAT_STATUS_ROUND = min 255 (s.get R.BRACE_SEAT_STATUS_ROUND + 1) ∧
      t.brace = { s.brace with sent := some ⟨s.mem, t.regs, t.seatAreas⟩ } ∧ (∃ l, t.wire = .seated l :: s.wire) ∧
      RegsOnly [R.BRACE_SEAT_STATUS_DIRTY, R.BRACE_SEAT_STATUS_ROUND] { s with brace := t.brace, wire := t.wire } t)) ∧
  (∀ (s : State) (m : Nat), s.role = .active → s.seatPhase = 3 → s.brace.finalAt = some m →
    (s.win = .kerf → m + 2 ≤ s.tg → ∃ t l, exec .sealSend s = .next t ∧
      t.wire = .seal s.tickNum ⟨s.mix, s.je, s.svc⟩ :: .seated l :: s.wire ∧
      t = { s with wire := t.wire, brace := { s.brace with sealed := true, sent := some ⟨s.mem, s.regs, s.seatAreas⟩ } }) ∧
    (s.win ≠ .kerf ∨ s.tg < m + 2 → exec .sealSend s = .next s)) ∧
  (∀ (s : State) (x : Seat), s.role = .seating → s.seatPhase = 3 →
    (s.win ≠ .overhead → exec (.sealRx true x) s =
      .next { s with brace := { s.brace with seat := some x, want := s.brace.want ++ [(Role.inStep, 7)] } }) ∧
    (s.win = .overhead → ∃ t, exec (.sealRx true x) s = .next t ∧ t.role = .inStep ∧ t.je.insts = x.je.insts ∧
      t.svc = { x.svc with wdt := s.svc.wdt } ∧ t.sticky EV_RESEAT_DONE = true ∧ t.sticky EV_ROLE_CHANGE = true ∧
      t.get R.BRACE_SEAL_TICK_TICK = s.tickNum % 2 ^ 32) ∧
    exec (.sealRx false x) s = .next s) ∧
  (∀ s : State, s.seating = true → ∃ t, exec .reseatTimeout s = .next t ∧ t.get R.BRACE_SEAT_INFO_ABORT_CAUSE = 2 ∧
    t.sticky EV_RESEAT_ABORTED = true ∧ t.seatPhase = (if s.role == .seating && s.netUp then 1 else 0) ∧
    t.get R.RESEAT_ABORT_CNT = min (s.get R.RESEAT_ABORT_CNT + 1) (2 ^ R.RESEAT_ABORT_CNT.width - 1) ∧
    t.brace = { s.brace with finalAt := none, sealed := false, seat := none, sent := none }) ∧
  (∀ s : State, s.role = .coldStart →
    exec .coldStartDone s = .next { s with brace := { s.brace with want := s.brace.want ++ [(Role.active, 9)] } }) ∧
  (∀ (s : State) (k : Fin 4), s.ticking = true →
    ((s.relay k.val).step = 4 → ∃ t, exec (.relayTakeover k) s = .next t ∧ t.get R.BRACE_RELAY_STATUS_PHASE k.val = 1 ∧
      t.flag R.BRACE_RELAY_STATUS_TAKEOVER_SEEN k.val = true ∧ t.sticky EV_RELAY_TAKEOVER = true ∧
      t.relay k.val = ⟨1, false, ((s.relayTargets k.val).filter (fun n => s.chState n != chLatched && s.chState n != chRetry)).filter
        (fun n => s.pagePending (0x50 + n))⟩ ∧
      t.get R.RELAY_CNT = min (s.get R.RELAY_CNT + 1) (2 ^ R.RELAY_CNT.width - 1) ∧
      ∀ n ∈ s.relayTargets k.val, s.chState n ≠ chLatched → s.chState n ≠ chRetry → s.flag R.PCH_CTRL_ON n = true →
        t.pagePending (0x50 + n) = true) ∧
    (s.role = .active → s.get R.BRACE_STATUS_PARTNER_ROLE = 3 → s.get R.BRACE_RELAY_STATUS_PHASE k.val = 2 →
      s.flag R.BRACE_RELAY_STATUS_ENERGISED k.val = true → ∃ t, exec (.relayRelease k) s = .next t ∧
        t.get R.BRACE_RELAY_STATUS_PHASE k.val = 3 ∧ (t.relay k.val).step = 1 ∧ (t.relay k.val).release = true ∧ t.sticky EV_RELAY_TAKEOVER = true)) ∧
  (∀ (s : State) (k : Fin 4),
    ((s.relay k.val).step = 1 → (s.relay k.val).owe = [] →
      (∀ n ∈ s.relayTargets k.val, s.chState n = chOff ∨ s.chState n = chLatched ∨ s.chState n = chRetry) →
      ∃ t, exec (.relayEnergise k) s = .next t ∧ t.relay k.val = ⟨2, (s.relay k.val).release, []⟩ ∧
        t.flag R.BRACE_RELAY_STATUS_ENERGISED k.val = !(s.relay k.val).release ∧
        t.wire = .relay k.val ((!(s.relay k.val).release) == s.flag R.BRACE_RELAY_CFG_ACTIVE_HIGH k.val) :: s.wire ∧
        RegsAt [R.BRACE_RELAY_STATUS_ENERGISED] k.val { s with brace := t.brace, wire := t.wire } t) ∧
    ((s.relay k.val).step = 2 → ∃ t, exec (.relaySettled k) s = .next t ∧ (t.relay k.val).step = 3 ∧
      (t.relay k.val).release = (s.relay k.val).release ∧
      t.regs = s.regs ∧ ∀ n ∈ s.relayTargets k.val, s.chState n = chOff → s.flag R.PCH_CTRL_ON n = false →
        t.pagePending (0x50 + n) = true))
end

