-- ==== Sys2Proof/Laws/Sparse.lean ====
section
/-! SUPPORT. Laws of sparse maps: reading after `put`, and the canonical form. -/

namespace Sys2Proof.Machine

variable {α : Type}

@[simp] theorem Sparse.get_set_same (d : α) (m : Sparse α) (k : Nat) (v : α) : Sparse.get d (Sparse.set m k v) k = v := by
  induction m with
  | nil => simp [Sparse.set, Sparse.get]
  | cons e m ih =>
    obtain ⟨k', w⟩ := e
    unfold Sparse.set
    split
    · simp [Sparse.get]
    · split
      · simp [Sparse.get]
      · rename_i h _
        simp [Sparse.get, h, ih]

theorem Sparse.get_set_ne (d : α) (m : Sparse α) {k k' : Nat} (v : α) (h : k ≠ k') :
    Sparse.get d (Sparse.set m k v) k' = Sparse.get d m k' := by
  induction m with
  | nil => simp [Sparse.set, Sparse.get, h]
  | cons e m ih =>
    obtain ⟨k₂, w⟩ := e
    unfold Sparse.set
    split
    · rename_i h₂
      subst h₂
      simp [Sparse.get, h]
    · split
      · simp [Sparse.get, h]
      · simp [Sparse.get, ih]

@[simp] theorem Sparse.get_erase_same (d : α) (m : Sparse α) (k : Nat) : Sparse.get d (Sparse.erase m k) k = d := by
  induction m with
  | nil => rfl
  | cons e m ih =>
    obtain ⟨k', w⟩ := e
    unfold Sparse.erase
    split
    · exact ih
    · rename_i h
      simp [Sparse.get, h, ih]

theorem Sparse.get_erase_ne (d : α) (m : Sparse α) {k k' : Nat} (h : k ≠ k') :
    Sparse.get d (Sparse.erase m k) k' = Sparse.get d m k' := by
  induction m with
  | nil => rfl
  | cons e m ih =>
    obtain ⟨k₂, w⟩ := e
    unfold Sparse.erase
    split
    · rename_i h₂
      subst h₂
      simp [Sparse.get, h, ih]
    · simp [Sparse.get, ih]

@[simp] theorem Sparse.get_put_same [DecidableEq α] (d : α) (m : Sparse α) (k : Nat) (v : α) :
    Sparse.get d (Sparse.put d m k v) k = v := by
  unfold Sparse.put
  split <;> simp [*]

theorem Sparse.get_put_ne [DecidableEq α] (d d' : α) (m : Sparse α) {k k' : Nat} (v : α) (h : k ≠ k') :
    Sparse.get d' (Sparse.put d m k v) k' = Sparse.get d' m k' := by
  unfold Sparse.put
  split
  · exact Sparse.get_erase_ne d' m h
  · exact Sparse.get_set_ne d' m v h

theorem Sparse.find_set_same (m : Sparse α) (k : Nat) (v : α) : Sparse.find (Sparse.set m k v) k = some v := by
  induction m with
  | nil => simp [Sparse.set, Sparse.find]
  | cons e m ih =>
    obtain ⟨k', w⟩ := e
    unfold Sparse.set
    split
    · simp [Sparse.find]
    · split
      · simp [Sparse.find]
      · rename_i h _
        simp [Sparse.find, h, ih]

theorem Sparse.find_set_ne (m : Sparse α) {k k' : Nat} (v : α) (h : k ≠ k') :
    Sparse.find (Sparse.set m k v) k' = Sparse.find m k' := by
  induction m with
  | nil => simp [Sparse.set, Sparse.find, h]
  | cons e m ih =>
    obtain ⟨k₂, w⟩ := e
    unfold Sparse.set
    split
    · rename_i h₂
      subst h₂
      simp [Sparse.find, h]
    · split
      · simp [Sparse.find, h]
      · simp [Sparse.find, ih]

theorem Sparse.find_erase_same (m : Sparse α) (k : Nat) : Sparse.find (Sparse.erase m k) k = none := by
  induction m with
  | nil => rfl
  | cons e m ih =>
    obtain ⟨k', w⟩ := e
    unfold Sparse.erase
    split
    · exact ih
    · rename_i h
      simp [Sparse.find, h, ih]

theorem Sparse.find_erase_ne (m : Sparse α) {k k' : Nat} (h : k ≠ k') :
    Sparse.find (Sparse.erase m k) k' = Sparse.find m k' := by
  induction m with
  | nil => rfl
  | cons e m ih =>
    obtain ⟨k₂, w⟩ := e
    unfold Sparse.erase
    split
    · rename_i h₂
      subst h₂
      simp [Sparse.find, h, ih]
    · simp [Sparse.find, ih]

/-! ### The canonical form -/

/-- A map rises from above b exactly where its keys are above b and each is below those that follow it. -/
theorem Sparse.risesFrom_iff (b : Option Nat) (m : Sparse α) :
    Sparse.risesFrom b m = true ↔ (∀ x ∈ m, ∀ y, b = some y → y < x.1) ∧ m.Pairwise (fun x y => x.1 < y.1) := by
  induction m generalizing b with
  | nil => cases b <;> simp [Sparse.risesFrom]
  | cons e m ih =>
    obtain ⟨k, v⟩ := e
    cases b with
    | none => simp [Sparse.risesFrom, ih (some k)]
    | some y =>
      simp only [Sparse.risesFrom, Bool.and_eq_true, decide_eq_true_eq, ih (some k), List.mem_cons,
        Option.some.injEq, forall_eq', List.pairwise_cons, forall_eq_or_imp]
      constructor
      · rintro ⟨h, h₁, h₂⟩
        exact ⟨⟨h, fun x hx => Nat.lt_trans h (h₁ x hx)⟩, h₁, h₂⟩
      · rintro ⟨⟨h, -⟩, h₁, h₂⟩
        exact ⟨h, h₁, h₂⟩

theorem Sparse.wf_iff [DecidableEq α] (d : Nat → α) (m : Sparse α) :
    Sparse.wf d m = true ↔ m.Pairwise (fun x y => x.1 < y.1) ∧ ∀ x ∈ m, x.2 ≠ d x.1 := by
  unfold Sparse.wf
  rw [Bool.and_eq_true, Sparse.risesFrom_iff]
  simp

theorem Sparse.erase_sublist (m : Sparse α) (k : Nat) : (Sparse.erase m k).Sublist m := by
  induction m with
  | nil => exact List.Sublist.refl _
  | cons e m ih =>
    obtain ⟨k', v⟩ := e
    unfold Sparse.erase
    split
    · exact ih.cons _
    · exact ih.cons_cons _

theorem Sparse.wf_of_sublist [DecidableEq α] {d : Nat → α} {m m' : Sparse α} (h : m'.Sublist m) (w : Sparse.wf d m = true) :
    Sparse.wf d m' = true := by
  rw [Sparse.wf_iff] at *
  exact ⟨w.1.sublist h, fun x hx => w.2 x (h.subset hx)⟩

theorem Sparse.wf_filter [DecidableEq α] {d : Nat → α} {m : Sparse α} (p : Nat × α → Bool) (w : Sparse.wf d m = true) :
    Sparse.wf d (m.filter p) = true := Sparse.wf_of_sublist List.filter_sublist w

theorem Sparse.mem_set {m : Sparse α} {k : Nat} {v : α} {x : Nat × α} (h : x ∈ Sparse.set m k v) : x = (k, v) ∨ x ∈ m := by
  induction m with
  | nil => simpa [Sparse.set] using h
  | cons e m ih =>
    obtain ⟨k', w⟩ := e
    unfold Sparse.set at h
    split at h
    · rcases List.mem_cons.1 h with h | h
      · exact .inl h
      · exact .inr (List.mem_cons_of_mem _ h)
    · split at h
      · rcases List.mem_cons.1 h with h | h
        · exact .inl h
        · exact .inr h
      · rcases List.mem_cons.1 h with h | h
        · exact .inr (h ▸ List.mem_cons_self)
        · exact (ih h).imp_right (List.mem_cons_of_mem _)

theorem Sparse.pairwise_set {m : Sparse α} (k : Nat) (v : α) (h : m.Pairwise (fun x y => x.1 < y.1)) :
    (Sparse.set m k v).Pairwise (fun x y => x.1 < y.1) := by
  induction m with
  | nil => simp [Sparse.set]
  | cons e m ih =>
    obtain ⟨k', w⟩ := e
    rw [List.pairwise_cons] at h
    unfold Sparse.set
    split
    · rename_i hk
      subst hk
      exact List.pairwise_cons.2 h
    · split
      · rename_i hk
        refine List.pairwise_cons.2 ⟨fun x hx => ?_, List.pairwise_cons.2 h⟩
        rcases List.mem_cons.1 hx with hx | hx
        · exact hx ▸ hk
        · exact Nat.lt_trans hk (h.1 x hx)
      · rename_i h₁ h₂
        refine List.pairwise_cons.2 ⟨fun x hx => ?_, ih h.2⟩
        rcases Sparse.mem_set hx with hx | hx
        · subst hx
          show k' < k
          omega
        · exact h.1 x hx

theorem Sparse.wf_put [DecidableEq α] {d : Nat → α} {m : Sparse α} (k : Nat) (v : α) (w : Sparse.wf d m = true) :
    Sparse.wf d (Sparse.put (d k) m k v) = true := by
  unfold Sparse.put
  split
  · exact Sparse.wf_of_sublist (Sparse.erase_sublist m k) w
  · rename_i h
    rw [Sparse.wf_iff] at *
    refine ⟨Sparse.pairwise_set k v w.1, fun x hx => ?_⟩
    rcases Sparse.mem_set hx with hx | hx
    · subst hx
      exact h
    · exact w.2 x hx

theorem Sparse.wf_eraseRange [DecidableEq α] {d : Nat → α} {m : Sparse α} (k n : Nat) (w : Sparse.wf d m = true) :
    Sparse.wf d (Sparse.eraseRange m k n) = true := Sparse.wf_filter _ w

theorem Sparse.wf_foldl_put [DecidableEq α] {β : Type} {d : Nat → α} {m : Sparse α} (g : β → Nat × α) (l : List β)
    (w : Sparse.wf d m = true) : Sparse.wf d (l.foldl (fun m e => Sparse.put (d (g e).1) m (g e).1 (g e).2) m) = true := by
  induction l generalizing m with
  | nil => exact w
  | cons x l ih => exact ih (Sparse.wf_put _ _ w)

end Sys2Proof.Machine
end

