-- ==== Sys2Proof/Laws/State.lean ====
section
/-! SUPPORT. What each basic update of the state leaves as it was: one lemma per field, true by rfl; and reading a register or a
byte after it. -/

namespace Sys2Proof.Machine

/-! ### put -/

@[simp] theorem State.put_dev (s : State) (f : Fld) (v i j : Nat) : (s.put f v i j).dev = s.dev := rfl
@[simp] theorem State.put_role (s : State) (f : Fld) (v i j : Nat) : (s.put f v i j).role = s.role := rfl
@[simp] theorem State.put_tickNum (s : State) (f : Fld) (v i j : Nat) : (s.put f v i j).tickNum = s.tickNum := rfl
@[simp] theorem State.put_tg (s : State) (f : Fld) (v i j : Nat) : (s.put f v i j).tg = s.tg := rfl
@[simp] theorem State.put_win (s : State) (f : Fld) (v i j : Nat) : (s.put f v i j).win = s.win := rfl
@[simp] theorem State.put_shadow (s : State) (f : Fld) (v i j : Nat) : (s.put f v i j).shadow = s.shadow := rfl
@[simp] theorem State.put_latch (s : State) (f : Fld) (v i j : Nat) : (s.put f v i j).latch = s.latch := rfl
@[simp] theorem State.put_mem (s : State) (f : Fld) (v i j : Nat) : (s.put f v i j).mem = s.mem := rfl
@[simp] theorem State.put_queue (s : State) (f : Fld) (v i j : Nat) : (s.put f v i j).queue = s.queue := rfl
@[simp] theorem State.put_repack (s : State) (f : Fld) (v i j : Nat) : (s.put f v i j).repack = s.repack := rfl
@[simp] theorem State.put_op (s : State) (f : Fld) (v i j : Nat) : (s.put f v i j).op = s.op := rfl
@[simp] theorem State.put_porst (s : State) (f : Fld) (v i j : Nat) : (s.put f v i j).porst = s.porst := rfl
@[simp] theorem State.put_coreLow (s : State) (f : Fld) (v i j : Nat) : (s.put f v i j).coreLow = s.coreLow := rfl
@[simp] theorem State.put_safeWait (s : State) (f : Fld) (v i j : Nat) : (s.put f v i j).safeWait = s.safeWait := rfl
@[simp] theorem State.put_raw (s : State) (f : Fld) (v i j : Nat) : (s.put f v i j).raw = s.raw := rfl
@[simp] theorem State.put_logged (s : State) (f : Fld) (v i j : Nat) : (s.put f v i j).logged = s.logged := rfl
@[simp] theorem State.put_net (s : State) (f : Fld) (v i j : Nat) : (s.put f v i j).net = s.net := rfl
@[simp] theorem State.put_ptp (s : State) (f : Fld) (v i j : Nat) : (s.put f v i j).ptp = s.ptp := rfl
@[simp] theorem State.put_str (s : State) (f : Fld) (v i j : Nat) : (s.put f v i j).str = s.str := rfl
@[simp] theorem State.put_plumb (s : State) (f : Fld) (v i j : Nat) : (s.put f v i j).plumb = s.plumb := rfl
@[simp] theorem State.put_plls (s : State) (f : Fld) (v i j : Nat) : (s.put f v i j).plls = s.plls := rfl
@[simp] theorem State.put_host (s : State) (f : Fld) (v i j : Nat) : (s.put f v i j).host = s.host := rfl
@[simp] theorem State.put_otp (s : State) (f : Fld) (v i j : Nat) : (s.put f v i j).otp = s.otp := rfl
@[simp] theorem State.put_boot (s : State) (f : Fld) (v i j : Nat) : (s.put f v i j).boot = s.boot := rfl
@[simp] theorem State.put_serial (s : State) (f : Fld) (v i j : Nat) : (s.put f v i j).serial = s.serial := rfl
@[simp] theorem State.put_zeroTick (s : State) (f : Fld) (v i j : Nat) : (s.put f v i j).zeroTick = s.zeroTick := rfl
@[simp] theorem State.put_peerEpoch (s : State) (f : Fld) (v i j : Nat) : (s.put f v i j).peerEpoch = s.peerEpoch := rfl
@[simp] theorem State.put_power (s : State) (f : Fld) (v i j : Nat) : (s.put f v i j).power = s.power := rfl
@[simp] theorem State.put_diag (s : State) (f : Fld) (v i j : Nat) : (s.put f v i j).diag = s.diag := rfl
@[simp] theorem State.put_brace (s : State) (f : Fld) (v i j : Nat) : (s.put f v i j).brace = s.brace := rfl
@[simp] theorem State.put_mix (s : State) (f : Fld) (v i j : Nat) : (s.put f v i j).mix = s.mix := rfl
@[simp] theorem State.put_je (s : State) (f : Fld) (v i j : Nat) : (s.put f v i j).je = s.je := rfl
@[simp] theorem State.put_clips (s : State) (f : Fld) (v i j : Nat) : (s.put f v i j).clips = s.clips := rfl
@[simp] theorem State.put_svc (s : State) (f : Fld) (v i j : Nat) : (s.put f v i j).svc = s.svc := rfl
@[simp] theorem State.put_free (s : State) (f : Fld) (v i j : Nat) : (s.put f v i j).free = s.free := rfl
@[simp] theorem State.put_wire (s : State) (f : Fld) (v i j : Nat) : (s.put f v i j).wire = s.wire := rfl
@[simp] theorem State.put_pending (s : State) (f : Fld) (v i j : Nat) : (s.put f v i j).pending = s.pending := rfl

/-! ### putI -/

@[simp] theorem State.putI_dev (s : State) (f : Fld) (x : Int) (i j : Nat) : (s.putI f x i j).dev = s.dev := rfl
@[simp] theorem State.putI_role (s : State) (f : Fld) (x : Int) (i j : Nat) : (s.putI f x i j).role = s.role := rfl
@[simp] theorem State.putI_tickNum (s : State) (f : Fld) (x : Int) (i j : Nat) : (s.putI f x i j).tickNum = s.tickNum := rfl
@[simp] theorem State.putI_tg (s : State) (f : Fld) (x : Int) (i j : Nat) : (s.putI f x i j).tg = s.tg := rfl
@[simp] theorem State.putI_win (s : State) (f : Fld) (x : Int) (i j : Nat) : (s.putI f x i j).win = s.win := rfl
@[simp] theorem State.putI_shadow (s : State) (f : Fld) (x : Int) (i j : Nat) : (s.putI f x i j).shadow = s.shadow := rfl
@[simp] theorem State.putI_latch (s : State) (f : Fld) (x : Int) (i j : Nat) : (s.putI f x i j).latch = s.latch := rfl
@[simp] theorem State.putI_mem (s : State) (f : Fld) (x : Int) (i j : Nat) : (s.putI f x i j).mem = s.mem := rfl
@[simp] theorem State.putI_queue (s : State) (f : Fld) (x : Int) (i j : Nat) : (s.putI f x i j).queue = s.queue := rfl
@[simp] theorem State.putI_repack (s : State) (f : Fld) (x : Int) (i j : Nat) : (s.putI f x i j).repack = s.repack := rfl
@[simp] theorem State.putI_op (s : State) (f : Fld) (x : Int) (i j : Nat) : (s.putI f x i j).op = s.op := rfl
@[simp] theorem State.putI_porst (s : State) (f : Fld) (x : Int) (i j : Nat) : (s.putI f x i j).porst = s.porst := rfl
@[simp] theorem State.putI_coreLow (s : State) (f : Fld) (x : Int) (i j : Nat) : (s.putI f x i j).coreLow = s.coreLow := rfl
@[simp] theorem State.putI_safeWait (s : State) (f : Fld) (x : Int) (i j : Nat) : (s.putI f x i j).safeWait = s.safeWait := rfl
@[simp] theorem State.putI_raw (s : State) (f : Fld) (x : Int) (i j : Nat) : (s.putI f x i j).raw = s.raw := rfl
@[simp] theorem State.putI_logged (s : State) (f : Fld) (x : Int) (i j : Nat) : (s.putI f x i j).logged = s.logged := rfl
@[simp] theorem State.putI_net (s : State) (f : Fld) (x : Int) (i j : Nat) : (s.putI f x i j).net = s.net := rfl
@[simp] theorem State.putI_ptp (s : State) (f : Fld) (x : Int) (i j : Nat) : (s.putI f x i j).ptp = s.ptp := rfl
@[simp] theorem State.putI_str (s : State) (f : Fld) (x : Int) (i j : Nat) : (s.putI f x i j).str = s.str := rfl
@[simp] theorem State.putI_plumb (s : State) (f : Fld) (x : Int) (i j : Nat) : (s.putI f x i j).plumb = s.plumb := rfl
@[simp] theorem State.putI_plls (s : State) (f : Fld) (x : Int) (i j : Nat) : (s.putI f x i j).plls = s.plls := rfl
@[simp] theorem State.putI_host (s : State) (f : Fld) (x : Int) (i j : Nat) : (s.putI f x i j).host = s.host := rfl
@[simp] theorem State.putI_otp (s : State) (f : Fld) (x : Int) (i j : Nat) : (s.putI f x i j).otp = s.otp := rfl
@[simp] theorem State.putI_boot (s : State) (f : Fld) (x : Int) (i j : Nat) : (s.putI f x i j).boot = s.boot := rfl
@[simp] theorem State.putI_serial (s : State) (f : Fld) (x : Int) (i j : Nat) : (s.putI f x i j).serial = s.serial := rfl
@[simp] theorem State.putI_zeroTick (s : State) (f : Fld) (x : Int) (i j : Nat) : (s.putI f x i j).zeroTick = s.zeroTick := rfl
@[simp] theorem State.putI_peerEpoch (s : State) (f : Fld) (x : Int) (i j : Nat) : (s.putI f x i j).peerEpoch = s.peerEpoch := rfl
@[simp] theorem State.putI_power (s : State) (f : Fld) (x : Int) (i j : Nat) : (s.putI f x i j).power = s.power := rfl
@[simp] theorem State.putI_diag (s : State) (f : Fld) (x : Int) (i j : Nat) : (s.putI f x i j).diag = s.diag := rfl
@[simp] theorem State.putI_brace (s : State) (f : Fld) (x : Int) (i j : Nat) : (s.putI f x i j).brace = s.brace := rfl
@[simp] theorem State.putI_mix (s : State) (f : Fld) (x : Int) (i j : Nat) : (s.putI f x i j).mix = s.mix := rfl
@[simp] theorem State.putI_je (s : State) (f : Fld) (x : Int) (i j : Nat) : (s.putI f x i j).je = s.je := rfl
@[simp] theorem State.putI_clips (s : State) (f : Fld) (x : Int) (i j : Nat) : (s.putI f x i j).clips = s.clips := rfl
@[simp] theorem State.putI_svc (s : State) (f : Fld) (x : Int) (i j : Nat) : (s.putI f x i j).svc = s.svc := rfl
@[simp] theorem State.putI_free (s : State) (f : Fld) (x : Int) (i j : Nat) : (s.putI f x i j).free = s.free := rfl
@[simp] theorem State.putI_wire (s : State) (f : Fld) (x : Int) (i j : Nat) : (s.putI f x i j).wire = s.wire := rfl
@[simp] theorem State.putI_pending (s : State) (f : Fld) (x : Int) (i j : Nat) : (s.putI f x i j).pending = s.pending := rfl

/-! ### putBit -/

@[simp] theorem State.putBit_dev (s : State) (f : Fld) (k : Nat) (b : Bool) (i j : Nat) : (s.putBit f k b i j).dev = s.dev := rfl
@[simp] theorem State.putBit_role (s : State) (f : Fld) (k : Nat) (b : Bool) (i j : Nat) : (s.putBit f k b i j).role = s.role := rfl
@[simp] theorem State.putBit_tickNum (s : State) (f : Fld) (k : Nat) (b : Bool) (i j : Nat) : (s.putBit f k b i j).tickNum = s.tickNum := rfl
@[simp] theorem State.putBit_tg (s : State) (f : Fld) (k : Nat) (b : Bool) (i j : Nat) : (s.putBit f k b i j).tg = s.tg := rfl
@[simp] theorem State.putBit_win (s : State) (f : Fld) (k : Nat) (b : Bool) (i j : Nat) : (s.putBit f k b i j).win = s.win := rfl
@[simp] theorem State.putBit_shadow (s : State) (f : Fld) (k : Nat) (b : Bool) (i j : Nat) : (s.putBit f k b i j).shadow = s.shadow := rfl
@[simp] theorem State.putBit_latch (s : State) (f : Fld) (k : Nat) (b : Bool) (i j : Nat) : (s.putBit f k b i j).latch = s.latch := rfl
@[simp] theorem State.putBit_mem (s : State) (f : Fld) (k : Nat) (b : Bool) (i j : Nat) : (s.putBit f k b i j).mem = s.mem := rfl
@[simp] theorem State.putBit_queue (s : State) (f : Fld) (k : Nat) (b : Bool) (i j : Nat) : (s.putBit f k b i j).queue = s.queue := rfl
@[simp] theorem State.putBit_repack (s : State) (f : Fld) (k : Nat) (b : Bool) (i j : Nat) : (s.putBit f k b i j).repack = s.repack := rfl
@[simp] theorem State.putBit_op (s : State) (f : Fld) (k : Nat) (b : Bool) (i j : Nat) : (s.putBit f k b i j).op = s.op := rfl
@[simp] theorem State.putBit_porst (s : State) (f : Fld) (k : Nat) (b : Bool) (i j : Nat) : (s.putBit f k b i j).porst = s.porst := rfl
@[simp] theorem State.putBit_coreLow (s : State) (f : Fld) (k : Nat) (b : Bool) (i j : Nat) : (s.putBit f k b i j).coreLow = s.coreLow := rfl
@[simp] theorem State.putBit_safeWait (s : State) (f : Fld) (k : Nat) (b : Bool) (i j : Nat) : (s.putBit f k b i j).safeWait = s.safeWait := rfl
@[simp] theorem State.putBit_raw (s : State) (f : Fld) (k : Nat) (b : Bool) (i j : Nat) : (s.putBit f k b i j).raw = s.raw := rfl
@[simp] theorem State.putBit_logged (s : State) (f : Fld) (k : Nat) (b : Bool) (i j : Nat) : (s.putBit f k b i j).logged = s.logged := rfl
@[simp] theorem State.putBit_net (s : State) (f : Fld) (k : Nat) (b : Bool) (i j : Nat) : (s.putBit f k b i j).net = s.net := rfl
@[simp] theorem State.putBit_ptp (s : State) (f : Fld) (k : Nat) (b : Bool) (i j : Nat) : (s.putBit f k b i j).ptp = s.ptp := rfl
@[simp] theorem State.putBit_str (s : State) (f : Fld) (k : Nat) (b : Bool) (i j : Nat) : (s.putBit f k b i j).str = s.str := rfl
@[simp] theorem State.putBit_plumb (s : State) (f : Fld) (k : Nat) (b : Bool) (i j : Nat) : (s.putBit f k b i j).plumb = s.plumb := rfl
@[simp] theorem State.putBit_plls (s : State) (f : Fld) (k : Nat) (b : Bool) (i j : Nat) : (s.putBit f k b i j).plls = s.plls := rfl
@[simp] theorem State.putBit_host (s : State) (f : Fld) (k : Nat) (b : Bool) (i j : Nat) : (s.putBit f k b i j).host = s.host := rfl
@[simp] theorem State.putBit_otp (s : State) (f : Fld) (k : Nat) (b : Bool) (i j : Nat) : (s.putBit f k b i j).otp = s.otp := rfl
@[simp] theorem State.putBit_boot (s : State) (f : Fld) (k : Nat) (b : Bool) (i j : Nat) : (s.putBit f k b i j).boot = s.boot := rfl
@[simp] theorem State.putBit_serial (s : State) (f : Fld) (k : Nat) (b : Bool) (i j : Nat) : (s.putBit f k b i j).serial = s.serial := rfl
@[simp] theorem State.putBit_zeroTick (s : State) (f : Fld) (k : Nat) (b : Bool) (i j : Nat) : (s.putBit f k b i j).zeroTick = s.zeroTick := rfl
@[simp] theorem State.putBit_peerEpoch (s : State) (f : Fld) (k : Nat) (b : Bool) (i j : Nat) : (s.putBit f k b i j).peerEpoch = s.peerEpoch := rfl
@[simp] theorem State.putBit_power (s : State) (f : Fld) (k : Nat) (b : Bool) (i j : Nat) : (s.putBit f k b i j).power = s.power := rfl
@[simp] theorem State.putBit_diag (s : State) (f : Fld) (k : Nat) (b : Bool) (i j : Nat) : (s.putBit f k b i j).diag = s.diag := rfl
@[simp] theorem State.putBit_brace (s : State) (f : Fld) (k : Nat) (b : Bool) (i j : Nat) : (s.putBit f k b i j).brace = s.brace := rfl
@[simp] theorem State.putBit_mix (s : State) (f : Fld) (k : Nat) (b : Bool) (i j : Nat) : (s.putBit f k b i j).mix = s.mix := rfl
@[simp] theorem State.putBit_je (s : State) (f : Fld) (k : Nat) (b : Bool) (i j : Nat) : (s.putBit f k b i j).je = s.je := rfl
@[simp] theorem State.putBit_clips (s : State) (f : Fld) (k : Nat) (b : Bool) (i j : Nat) : (s.putBit f k b i j).clips = s.clips := rfl
@[simp] theorem State.putBit_svc (s : State) (f : Fld) (k : Nat) (b : Bool) (i j : Nat) : (s.putBit f k b i j).svc = s.svc := rfl
@[simp] theorem State.putBit_free (s : State) (f : Fld) (k : Nat) (b : Bool) (i j : Nat) : (s.putBit f k b i j).free = s.free := rfl
@[simp] theorem State.putBit_wire (s : State) (f : Fld) (k : Nat) (b : Bool) (i j : Nat) : (s.putBit f k b i j).wire = s.wire := rfl
@[simp] theorem State.putBit_pending (s : State) (f : Fld) (k : Nat) (b : Bool) (i j : Nat) : (s.putBit f k b i j).pending = s.pending := rfl

/-! ### setByte -/

@[simp] theorem State.setByte_dev (s : State) (a : Nat) (b : BitVec 8) : (s.setByte a b).dev = s.dev := rfl
@[simp] theorem State.setByte_role (s : State) (a : Nat) (b : BitVec 8) : (s.setByte a b).role = s.role := rfl
@[simp] theorem State.setByte_tickNum (s : State) (a : Nat) (b : BitVec 8) : (s.setByte a b).tickNum = s.tickNum := rfl
@[simp] theorem State.setByte_tg (s : State) (a : Nat) (b : BitVec 8) : (s.setByte a b).tg = s.tg := rfl
@[simp] theorem State.setByte_win (s : State) (a : Nat) (b : BitVec 8) : (s.setByte a b).win = s.win := rfl
@[simp] theorem State.setByte_regs (s : State) (a : Nat) (b : BitVec 8) : (s.setByte a b).regs = s.regs := rfl
@[simp] theorem State.setByte_shadow (s : State) (a : Nat) (b : BitVec 8) : (s.setByte a b).shadow = s.shadow := rfl
@[simp] theorem State.setByte_latch (s : State) (a : Nat) (b : BitVec 8) : (s.setByte a b).latch = s.latch := rfl
@[simp] theorem State.setByte_queue (s : State) (a : Nat) (b : BitVec 8) : (s.setByte a b).queue = s.queue := rfl
@[simp] theorem State.setByte_repack (s : State) (a : Nat) (b : BitVec 8) : (s.setByte a b).repack = s.repack := rfl
@[simp] theorem State.setByte_op (s : State) (a : Nat) (b : BitVec 8) : (s.setByte a b).op = s.op := rfl
@[simp] theorem State.setByte_porst (s : State) (a : Nat) (b : BitVec 8) : (s.setByte a b).porst = s.porst := rfl
@[simp] theorem State.setByte_coreLow (s : State) (a : Nat) (b : BitVec 8) : (s.setByte a b).coreLow = s.coreLow := rfl
@[simp] theorem State.setByte_safeWait (s : State) (a : Nat) (b : BitVec 8) : (s.setByte a b).safeWait = s.safeWait := rfl
@[simp] theorem State.setByte_raw (s : State) (a : Nat) (b : BitVec 8) : (s.setByte a b).raw = s.raw := rfl
@[simp] theorem State.setByte_logged (s : State) (a : Nat) (b : BitVec 8) : (s.setByte a b).logged = s.logged := rfl
@[simp] theorem State.setByte_net (s : State) (a : Nat) (b : BitVec 8) : (s.setByte a b).net = s.net := rfl
@[simp] theorem State.setByte_ptp (s : State) (a : Nat) (b : BitVec 8) : (s.setByte a b).ptp = s.ptp := rfl
@[simp] theorem State.setByte_str (s : State) (a : Nat) (b : BitVec 8) : (s.setByte a b).str = s.str := rfl
@[simp] theorem State.setByte_plumb (s : State) (a : Nat) (b : BitVec 8) : (s.setByte a b).plumb = s.plumb := rfl
@[simp] theorem State.setByte_plls (s : State) (a : Nat) (b : BitVec 8) : (s.setByte a b).plls = s.plls := rfl
@[simp] theorem State.setByte_host (s : State) (a : Nat) (b : BitVec 8) : (s.setByte a b).host = s.host := rfl
@[simp] theorem State.setByte_otp (s : State) (a : Nat) (b : BitVec 8) : (s.setByte a b).otp = s.otp := rfl
@[simp] theorem State.setByte_boot (s : State) (a : Nat) (b : BitVec 8) : (s.setByte a b).boot = s.boot := rfl
@[simp] theorem State.setByte_serial (s : State) (a : Nat) (b : BitVec 8) : (s.setByte a b).serial = s.serial := rfl
@[simp] theorem State.setByte_zeroTick (s : State) (a : Nat) (b : BitVec 8) : (s.setByte a b).zeroTick = s.zeroTick := rfl
@[simp] theorem State.setByte_peerEpoch (s : State) (a : Nat) (b : BitVec 8) : (s.setByte a b).peerEpoch = s.peerEpoch := rfl
@[simp] theorem State.setByte_power (s : State) (a : Nat) (b : BitVec 8) : (s.setByte a b).power = s.power := rfl
@[simp] theorem State.setByte_diag (s : State) (a : Nat) (b : BitVec 8) : (s.setByte a b).diag = s.diag := rfl
@[simp] theorem State.setByte_brace (s : State) (a : Nat) (b : BitVec 8) : (s.setByte a b).brace = s.brace := rfl
@[simp] theorem State.setByte_mix (s : State) (a : Nat) (b : BitVec 8) : (s.setByte a b).mix = s.mix := rfl
@[simp] theorem State.setByte_je (s : State) (a : Nat) (b : BitVec 8) : (s.setByte a b).je = s.je := rfl
@[simp] theorem State.setByte_clips (s : State) (a : Nat) (b : BitVec 8) : (s.setByte a b).clips = s.clips := rfl
@[simp] theorem State.setByte_svc (s : State) (a : Nat) (b : BitVec 8) : (s.setByte a b).svc = s.svc := rfl
@[simp] theorem State.setByte_free (s : State) (a : Nat) (b : BitVec 8) : (s.setByte a b).free = s.free := rfl
@[simp] theorem State.setByte_wire (s : State) (a : Nat) (b : BitVec 8) : (s.setByte a b).wire = s.wire := rfl
@[simp] theorem State.setByte_pending (s : State) (a : Nat) (b : BitVec 8) : (s.setByte a b).pending = s.pending := rfl

/-! ### send -/

@[simp] theorem State.send_dev (s : State) (o : Out) : (s.send o).dev = s.dev := rfl
@[simp] theorem State.send_role (s : State) (o : Out) : (s.send o).role = s.role := rfl
@[simp] theorem State.send_tickNum (s : State) (o : Out) : (s.send o).tickNum = s.tickNum := rfl
@[simp] theorem State.send_tg (s : State) (o : Out) : (s.send o).tg = s.tg := rfl
@[simp] theorem State.send_win (s : State) (o : Out) : (s.send o).win = s.win := rfl
@[simp] theorem State.send_regs (s : State) (o : Out) : (s.send o).regs = s.regs := rfl
@[simp] theorem State.send_shadow (s : State) (o : Out) : (s.send o).shadow = s.shadow := rfl
@[simp] theorem State.send_latch (s : State) (o : Out) : (s.send o).latch = s.latch := rfl
@[simp] theorem State.send_mem (s : State) (o : Out) : (s.send o).mem = s.mem := rfl
@[simp] theorem State.send_queue (s : State) (o : Out) : (s.send o).queue = s.queue := rfl
@[simp] theorem State.send_repack (s : State) (o : Out) : (s.send o).repack = s.repack := rfl
@[simp] theorem State.send_op (s : State) (o : Out) : (s.send o).op = s.op := rfl
@[simp] theorem State.send_porst (s : State) (o : Out) : (s.send o).porst = s.porst := rfl
@[simp] theorem State.send_coreLow (s : State) (o : Out) : (s.send o).coreLow = s.coreLow := rfl
@[simp] theorem State.send_safeWait (s : State) (o : Out) : (s.send o).safeWait = s.safeWait := rfl
@[simp] theorem State.send_raw (s : State) (o : Out) : (s.send o).raw = s.raw := rfl
@[simp] theorem State.send_logged (s : State) (o : Out) : (s.send o).logged = s.logged := rfl
@[simp] theorem State.send_net (s : State) (o : Out) : (s.send o).net = s.net := rfl
@[simp] theorem State.send_ptp (s : State) (o : Out) : (s.send o).ptp = s.ptp := rfl
@[simp] theorem State.send_str (s : State) (o : Out) : (s.send o).str = s.str := rfl
@[simp] theorem State.send_plumb (s : State) (o : Out) : (s.send o).plumb = s.plumb := rfl
@[simp] theorem State.send_plls (s : State) (o : Out) : (s.send o).plls = s.plls := rfl
@[simp] theorem State.send_host (s : State) (o : Out) : (s.send o).host = s.host := rfl
@[simp] theorem State.send_otp (s : State) (o : Out) : (s.send o).otp = s.otp := rfl
@[simp] theorem State.send_boot (s : State) (o : Out) : (s.send o).boot = s.boot := rfl
@[simp] theorem State.send_serial (s : State) (o : Out) : (s.send o).serial = s.serial := rfl
@[simp] theorem State.send_zeroTick (s : State) (o : Out) : (s.send o).zeroTick = s.zeroTick := rfl
@[simp] theorem State.send_peerEpoch (s : State) (o : Out) : (s.send o).peerEpoch = s.peerEpoch := rfl
@[simp] theorem State.send_power (s : State) (o : Out) : (s.send o).power = s.power := rfl
@[simp] theorem State.send_diag (s : State) (o : Out) : (s.send o).diag = s.diag := rfl
@[simp] theorem State.send_brace (s : State) (o : Out) : (s.send o).brace = s.brace := rfl
@[simp] theorem State.send_mix (s : State) (o : Out) : (s.send o).mix = s.mix := rfl
@[simp] theorem State.send_je (s : State) (o : Out) : (s.send o).je = s.je := rfl
@[simp] theorem State.send_clips (s : State) (o : Out) : (s.send o).clips = s.clips := rfl
@[simp] theorem State.send_svc (s : State) (o : Out) : (s.send o).svc = s.svc := rfl
@[simp] theorem State.send_free (s : State) (o : Out) : (s.send o).free = s.free := rfl
@[simp] theorem State.send_pending (s : State) (o : Out) : (s.send o).pending = s.pending := rfl

/-! ### shPut -/

@[simp] theorem State.shPut_dev (s : State) (f : Fld) (v i j : Nat) : (s.shPut f v i j).dev = s.dev := rfl
@[simp] theorem State.shPut_role (s : State) (f : Fld) (v i j : Nat) : (s.shPut f v i j).role = s.role := rfl
@[simp] theorem State.shPut_tickNum (s : State) (f : Fld) (v i j : Nat) : (s.shPut f v i j).tickNum = s.tickNum := rfl
@[simp] theorem State.shPut_tg (s : State) (f : Fld) (v i j : Nat) : (s.shPut f v i j).tg = s.tg := rfl
@[simp] theorem State.shPut_win (s : State) (f : Fld) (v i j : Nat) : (s.shPut f v i j).win = s.win := rfl
@[simp] theorem State.shPut_regs (s : State) (f : Fld) (v i j : Nat) : (s.shPut f v i j).regs = s.regs := rfl
@[simp] theorem State.shPut_latch (s : State) (f : Fld) (v i j : Nat) : (s.shPut f v i j).latch = s.latch := rfl
@[simp] theorem State.shPut_mem (s : State) (f : Fld) (v i j : Nat) : (s.shPut f v i j).mem = s.mem := rfl
@[simp] theorem State.shPut_queue (s : State) (f : Fld) (v i j : Nat) : (s.shPut f v i j).queue = s.queue := rfl
@[simp] theorem State.shPut_repack (s : State) (f : Fld) (v i j : Nat) : (s.shPut f v i j).repack = s.repack := rfl
@[simp] theorem State.shPut_op (s : State) (f : Fld) (v i j : Nat) : (s.shPut f v i j).op = s.op := rfl
@[simp] theorem State.shPut_porst (s : State) (f : Fld) (v i j : Nat) : (s.shPut f v i j).porst = s.porst := rfl
@[simp] theorem State.shPut_coreLow (s : State) (f : Fld) (v i j : Nat) : (s.shPut f v i j).coreLow = s.coreLow := rfl
@[simp] theorem State.shPut_safeWait (s : State) (f : Fld) (v i j : Nat) : (s.shPut f v i j).safeWait = s.safeWait := rfl
@[simp] theorem State.shPut_raw (s : State) (f : Fld) (v i j : Nat) : (s.shPut f v i j).raw = s.raw := rfl
@[simp] theorem State.shPut_logged (s : State) (f : Fld) (v i j : Nat) : (s.shPut f v i j).logged = s.logged := rfl
@[simp] theorem State.shPut_net (s : State) (f : Fld) (v i j : Nat) : (s.shPut f v i j).net = s.net := rfl
@[simp] theorem State.shPut_ptp (s : State) (f : Fld) (v i j : Nat) : (s.shPut f v i j).ptp = s.ptp := rfl
@[simp] theorem State.shPut_str (s : State) (f : Fld) (v i j : Nat) : (s.shPut f v i j).str = s.str := rfl
@[simp] theorem State.shPut_plumb (s : State) (f : Fld) (v i j : Nat) : (s.shPut f v i j).plumb = s.plumb := rfl
@[simp] theorem State.shPut_plls (s : State) (f : Fld) (v i j : Nat) : (s.shPut f v i j).plls = s.plls := rfl
@[simp] theorem State.shPut_host (s : State) (f : Fld) (v i j : Nat) : (s.shPut f v i j).host = s.host := rfl
@[simp] theorem State.shPut_otp (s : State) (f : Fld) (v i j : Nat) : (s.shPut f v i j).otp = s.otp := rfl
@[simp] theorem State.shPut_boot (s : State) (f : Fld) (v i j : Nat) : (s.shPut f v i j).boot = s.boot := rfl
@[simp] theorem State.shPut_serial (s : State) (f : Fld) (v i j : Nat) : (s.shPut f v i j).serial = s.serial := rfl
@[simp] theorem State.shPut_zeroTick (s : State) (f : Fld) (v i j : Nat) : (s.shPut f v i j).zeroTick = s.zeroTick := rfl
@[simp] theorem State.shPut_peerEpoch (s : State) (f : Fld) (v i j : Nat) : (s.shPut f v i j).peerEpoch = s.peerEpoch := rfl
@[simp] theorem State.shPut_power (s : State) (f : Fld) (v i j : Nat) : (s.shPut f v i j).power = s.power := rfl
@[simp] theorem State.shPut_diag (s : State) (f : Fld) (v i j : Nat) : (s.shPut f v i j).diag = s.diag := rfl
@[simp] theorem State.shPut_brace (s : State) (f : Fld) (v i j : Nat) : (s.shPut f v i j).brace = s.brace := rfl
@[simp] theorem State.shPut_mix (s : State) (f : Fld) (v i j : Nat) : (s.shPut f v i j).mix = s.mix := rfl
@[simp] theorem State.shPut_je (s : State) (f : Fld) (v i j : Nat) : (s.shPut f v i j).je = s.je := rfl
@[simp] theorem State.shPut_clips (s : State) (f : Fld) (v i j : Nat) : (s.shPut f v i j).clips = s.clips := rfl
@[simp] theorem State.shPut_svc (s : State) (f : Fld) (v i j : Nat) : (s.shPut f v i j).svc = s.svc := rfl
@[simp] theorem State.shPut_free (s : State) (f : Fld) (v i j : Nat) : (s.shPut f v i j).free = s.free := rfl
@[simp] theorem State.shPut_wire (s : State) (f : Fld) (v i j : Nat) : (s.shPut f v i j).wire = s.wire := rfl
@[simp] theorem State.shPut_pending (s : State) (f : Fld) (v i j : Nat) : (s.shPut f v i j).pending = s.pending := rfl

/-! ### dropShadow -/

@[simp] theorem State.dropShadow_dev (s : State) (pages : List Nat) : (s.dropShadow pages).dev = s.dev := rfl
@[simp] theorem State.dropShadow_role (s : State) (pages : List Nat) : (s.dropShadow pages).role = s.role := rfl
@[simp] theorem State.dropShadow_tickNum (s : State) (pages : List Nat) : (s.dropShadow pages).tickNum = s.tickNum := rfl
@[simp] theorem State.dropShadow_tg (s : State) (pages : List Nat) : (s.dropShadow pages).tg = s.tg := rfl
@[simp] theorem State.dropShadow_win (s : State) (pages : List Nat) : (s.dropShadow pages).win = s.win := rfl
@[simp] theorem State.dropShadow_regs (s : State) (pages : List Nat) : (s.dropShadow pages).regs = s.regs := rfl
@[simp] theorem State.dropShadow_latch (s : State) (pages : List Nat) : (s.dropShadow pages).latch = s.latch := rfl
@[simp] theorem State.dropShadow_mem (s : State) (pages : List Nat) : (s.dropShadow pages).mem = s.mem := rfl
@[simp] theorem State.dropShadow_queue (s : State) (pages : List Nat) : (s.dropShadow pages).queue = s.queue := rfl
@[simp] theorem State.dropShadow_repack (s : State) (pages : List Nat) : (s.dropShadow pages).repack = s.repack := rfl
@[simp] theorem State.dropShadow_op (s : State) (pages : List Nat) : (s.dropShadow pages).op = s.op := rfl
@[simp] theorem State.dropShadow_porst (s : State) (pages : List Nat) : (s.dropShadow pages).porst = s.porst := rfl
@[simp] theorem State.dropShadow_coreLow (s : State) (pages : List Nat) : (s.dropShadow pages).coreLow = s.coreLow := rfl
@[simp] theorem State.dropShadow_safeWait (s : State) (pages : List Nat) : (s.dropShadow pages).safeWait = s.safeWait := rfl
@[simp] theorem State.dropShadow_raw (s : State) (pages : List Nat) : (s.dropShadow pages).raw = s.raw := rfl
@[simp] theorem State.dropShadow_logged (s : State) (pages : List Nat) : (s.dropShadow pages).logged = s.logged := rfl
@[simp] theorem State.dropShadow_net (s : State) (pages : List Nat) : (s.dropShadow pages).net = s.net := rfl
@[simp] theorem State.dropShadow_ptp (s : State) (pages : List Nat) : (s.dropShadow pages).ptp = s.ptp := rfl
@[simp] theorem State.dropShadow_str (s : State) (pages : List Nat) : (s.dropShadow pages).str = s.str := rfl
@[simp] theorem State.dropShadow_plumb (s : State) (pages : List Nat) : (s.dropShadow pages).plumb = s.plumb := rfl
@[simp] theorem State.dropShadow_plls (s : State) (pages : List Nat) : (s.dropShadow pages).plls = s.plls := rfl
@[simp] theorem State.dropShadow_host (s : State) (pages : List Nat) : (s.dropShadow pages).host = s.host := rfl
@[simp] theorem State.dropShadow_otp (s : State) (pages : List Nat) : (s.dropShadow pages).otp = s.otp := rfl
@[simp] theorem State.dropShadow_boot (s : State) (pages : List Nat) : (s.dropShadow pages).boot = s.boot := rfl
@[simp] theorem State.dropShadow_serial (s : State) (pages : List Nat) : (s.dropShadow pages).serial = s.serial := rfl
@[simp] theorem State.dropShadow_zeroTick (s : State) (pages : List Nat) : (s.dropShadow pages).zeroTick = s.zeroTick := rfl
@[simp] theorem State.dropShadow_peerEpoch (s : State) (pages : List Nat) : (s.dropShadow pages).peerEpoch = s.peerEpoch := rfl
@[simp] theorem State.dropShadow_power (s : State) (pages : List Nat) : (s.dropShadow pages).power = s.power := rfl
@[simp] theorem State.dropShadow_diag (s : State) (pages : List Nat) : (s.dropShadow pages).diag = s.diag := rfl
@[simp] theorem State.dropShadow_brace (s : State) (pages : List Nat) : (s.dropShadow pages).brace = s.brace := rfl
@[simp] theorem State.dropShadow_mix (s : State) (pages : List Nat) : (s.dropShadow pages).mix = s.mix := rfl
@[simp] theorem State.dropShadow_je (s : State) (pages : List Nat) : (s.dropShadow pages).je = s.je := rfl
@[simp] theorem State.dropShadow_clips (s : State) (pages : List Nat) : (s.dropShadow pages).clips = s.clips := rfl
@[simp] theorem State.dropShadow_svc (s : State) (pages : List Nat) : (s.dropShadow pages).svc = s.svc := rfl
@[simp] theorem State.dropShadow_free (s : State) (pages : List Nat) : (s.dropShadow pages).free = s.free := rfl
@[simp] theorem State.dropShadow_wire (s : State) (pages : List Nat) : (s.dropShadow pages).wire = s.wire := rfl
@[simp] theorem State.dropShadow_pending (s : State) (pages : List Nat) : (s.dropShadow pages).pending = s.pending := rfl

/-! ### draw -/

@[simp] theorem State.draw_dev (s : State) : (s.draw.2).dev = s.dev := rfl
@[simp] theorem State.draw_role (s : State) : (s.draw.2).role = s.role := rfl
@[simp] theorem State.draw_tickNum (s : State) : (s.draw.2).tickNum = s.tickNum := rfl
@[simp] theorem State.draw_tg (s : State) : (s.draw.2).tg = s.tg := rfl
@[simp] theorem State.draw_win (s : State) : (s.draw.2).win = s.win := rfl
@[simp] theorem State.draw_regs (s : State) : (s.draw.2).regs = s.regs := rfl
@[simp] theorem State.draw_shadow (s : State) : (s.draw.2).shadow = s.shadow := rfl
@[simp] theorem State.draw_latch (s : State) : (s.draw.2).latch = s.latch := rfl
@[simp] theorem State.draw_mem (s : State) : (s.draw.2).mem = s.mem := rfl
@[simp] theorem State.draw_queue (s : State) : (s.draw.2).queue = s.queue := rfl
@[simp] theorem State.draw_repack (s : State) : (s.draw.2).repack = s.repack := rfl
@[simp] theorem State.draw_op (s : State) : (s.draw.2).op = s.op := rfl
@[simp] theorem State.draw_porst (s : State) : (s.draw.2).porst = s.porst := rfl
@[simp] theorem State.draw_coreLow (s : State) : (s.draw.2).coreLow = s.coreLow := rfl
@[simp] theorem State.draw_safeWait (s : State) : (s.draw.2).safeWait = s.safeWait := rfl
@[simp] theorem State.draw_raw (s : State) : (s.draw.2).raw = s.raw := rfl
@[simp] theorem State.draw_logged (s : State) : (s.draw.2).logged = s.logged := rfl
@[simp] theorem State.draw_net (s : State) : (s.draw.2).net = s.net := rfl
@[simp] theorem State.draw_ptp (s : State) : (s.draw.2).ptp = s.ptp := rfl
@[simp] theorem State.draw_str (s : State) : (s.draw.2).str = s.str := rfl
@[simp] theorem State.draw_plumb (s : State) : (s.draw.2).plumb = s.plumb := rfl
@[simp] theorem State.draw_plls (s : State) : (s.draw.2).plls = s.plls := rfl
@[simp] theorem State.draw_host (s : State) : (s.draw.2).host = s.host := rfl
@[simp] theorem State.draw_otp (s : State) : (s.draw.2).otp = s.otp := rfl
@[simp] theorem State.draw_boot (s : State) : (s.draw.2).boot = s.boot := rfl
@[simp] theorem State.draw_serial (s : State) : (s.draw.2).serial = s.serial := rfl
@[simp] theorem State.draw_zeroTick (s : State) : (s.draw.2).zeroTick = s.zeroTick := rfl
@[simp] theorem State.draw_peerEpoch (s : State) : (s.draw.2).peerEpoch = s.peerEpoch := rfl
@[simp] theorem State.draw_power (s : State) : (s.draw.2).power = s.power := rfl
@[simp] theorem State.draw_diag (s : State) : (s.draw.2).diag = s.diag := rfl
@[simp] theorem State.draw_brace (s : State) : (s.draw.2).brace = s.brace := rfl
@[simp] theorem State.draw_mix (s : State) : (s.draw.2).mix = s.mix := rfl
@[simp] theorem State.draw_je (s : State) : (s.draw.2).je = s.je := rfl
@[simp] theorem State.draw_clips (s : State) : (s.draw.2).clips = s.clips := rfl
@[simp] theorem State.draw_svc (s : State) : (s.draw.2).svc = s.svc := rfl
@[simp] theorem State.draw_wire (s : State) : (s.draw.2).wire = s.wire := rfl
@[simp] theorem State.draw_pending (s : State) : (s.draw.2).pending = s.pending := rfl

/-! ### setBytes and setWord -/

/-- Bytes written change the memory and nothing else. -/
theorem State.setBytes_eq (s : State) (a : Nat) (bs : List (BitVec 8)) : s.setBytes a bs = { s with mem := (s.setBytes a bs).mem } := by
  induction bs generalizing s a with
  | nil => rfl
  | cons b bs ih =>
    show (s.setByte a b).setBytes (a + 1) bs = _
    rw [ih]
    rfl

@[simp] theorem State.setBytes_dev (s : State) (a : Nat) (bs : List (BitVec 8)) : (s.setBytes a bs).dev = s.dev := by
  rw [State.setBytes_eq]
@[simp] theorem State.setWord_dev (s : State) (a v : Nat) : (s.setWord a v).dev = s.dev := State.setBytes_dev s a _
@[simp] theorem State.setBytes_role (s : State) (a : Nat) (bs : List (BitVec 8)) : (s.setBytes a bs).role = s.role := by
  rw [State.setBytes_eq]
@[simp] theorem State.setWord_role (s : State) (a v : Nat) : (s.setWord a v).role = s.role := State.setBytes_role s a _
@[simp] theorem State.setBytes_tickNum (s : State) (a : Nat) (bs : List (BitVec 8)) : (s.setBytes a bs).tickNum = s.tickNum := by
  rw [State.setBytes_eq]
@[simp] theorem State.setWord_tickNum (s : State) (a v : Nat) : (s.setWord a v).tickNum = s.tickNum := State.setBytes_tickNum s a _
@[simp] theorem State.setBytes_tg (s : State) (a : Nat) (bs : List (BitVec 8)) : (s.setBytes a bs).tg = s.tg := by
  rw [State.setBytes_eq]
@[simp] theorem State.setWord_tg (s : State) (a v : Nat) : (s.setWord a v).tg = s.tg := State.setBytes_tg s a _
@[simp] theorem State.setBytes_win (s : State) (a : Nat) (bs : List (BitVec 8)) : (s.setBytes a bs).win = s.win := by
  rw [State.setBytes_eq]
@[simp] theorem State.setWord_win (s : State) (a v : Nat) : (s.setWord a v).win = s.win := State.setBytes_win s a _
@[simp] theorem State.setBytes_regs (s : State) (a : Nat) (bs : List (BitVec 8)) : (s.setBytes a bs).regs = s.regs := by
  rw [State.setBytes_eq]
@[simp] theorem State.setWord_regs (s : State) (a v : Nat) : (s.setWord a v).regs = s.regs := State.setBytes_regs s a _
@[simp] theorem State.setBytes_shadow (s : State) (a : Nat) (bs : List (BitVec 8)) : (s.setBytes a bs).shadow = s.shadow := by
  rw [State.setBytes_eq]
@[simp] theorem State.setWord_shadow (s : State) (a v : Nat) : (s.setWord a v).shadow = s.shadow := State.setBytes_shadow s a _
@[simp] theorem State.setBytes_latch (s : State) (a : Nat) (bs : List (BitVec 8)) : (s.setBytes a bs).latch = s.latch := by
  rw [State.setBytes_eq]
@[simp] theorem State.setWord_latch (s : State) (a v : Nat) : (s.setWord a v).latch = s.latch := State.setBytes_latch s a _
@[simp] theorem State.setBytes_queue (s : State) (a : Nat) (bs : List (BitVec 8)) : (s.setBytes a bs).queue = s.queue := by
  rw [State.setBytes_eq]
@[simp] theorem State.setWord_queue (s : State) (a v : Nat) : (s.setWord a v).queue = s.queue := State.setBytes_queue s a _
@[simp] theorem State.setBytes_repack (s : State) (a : Nat) (bs : List (BitVec 8)) : (s.setBytes a bs).repack = s.repack := by
  rw [State.setBytes_eq]
@[simp] theorem State.setWord_repack (s : State) (a v : Nat) : (s.setWord a v).repack = s.repack := State.setBytes_repack s a _
@[simp] theorem State.setBytes_op (s : State) (a : Nat) (bs : List (BitVec 8)) : (s.setBytes a bs).op = s.op := by
  rw [State.setBytes_eq]
@[simp] theorem State.setWord_op (s : State) (a v : Nat) : (s.setWord a v).op = s.op := State.setBytes_op s a _
@[simp] theorem State.setBytes_porst (s : State) (a : Nat) (bs : List (BitVec 8)) : (s.setBytes a bs).porst = s.porst := by
  rw [State.setBytes_eq]
@[simp] theorem State.setWord_porst (s : State) (a v : Nat) : (s.setWord a v).porst = s.porst := State.setBytes_porst s a _
@[simp] theorem State.setBytes_coreLow (s : State) (a : Nat) (bs : List (BitVec 8)) : (s.setBytes a bs).coreLow = s.coreLow := by
  rw [State.setBytes_eq]
@[simp] theorem State.setWord_coreLow (s : State) (a v : Nat) : (s.setWord a v).coreLow = s.coreLow := State.setBytes_coreLow s a _
@[simp] theorem State.setBytes_safeWait (s : State) (a : Nat) (bs : List (BitVec 8)) : (s.setBytes a bs).safeWait = s.safeWait := by
  rw [State.setBytes_eq]
@[simp] theorem State.setWord_safeWait (s : State) (a v : Nat) : (s.setWord a v).safeWait = s.safeWait := State.setBytes_safeWait s a _
@[simp] theorem State.setBytes_raw (s : State) (a : Nat) (bs : List (BitVec 8)) : (s.setBytes a bs).raw = s.raw := by
  rw [State.setBytes_eq]
@[simp] theorem State.setWord_raw (s : State) (a v : Nat) : (s.setWord a v).raw = s.raw := State.setBytes_raw s a _
@[simp] theorem State.setBytes_logged (s : State) (a : Nat) (bs : List (BitVec 8)) : (s.setBytes a bs).logged = s.logged := by
  rw [State.setBytes_eq]
@[simp] theorem State.setWord_logged (s : State) (a v : Nat) : (s.setWord a v).logged = s.logged := State.setBytes_logged s a _
@[simp] theorem State.setBytes_net (s : State) (a : Nat) (bs : List (BitVec 8)) : (s.setBytes a bs).net = s.net := by
  rw [State.setBytes_eq]
@[simp] theorem State.setWord_net (s : State) (a v : Nat) : (s.setWord a v).net = s.net := State.setBytes_net s a _
@[simp] theorem State.setBytes_ptp (s : State) (a : Nat) (bs : List (BitVec 8)) : (s.setBytes a bs).ptp = s.ptp := by
  rw [State.setBytes_eq]
@[simp] theorem State.setWord_ptp (s : State) (a v : Nat) : (s.setWord a v).ptp = s.ptp := State.setBytes_ptp s a _
@[simp] theorem State.setBytes_str (s : State) (a : Nat) (bs : List (BitVec 8)) : (s.setBytes a bs).str = s.str := by
  rw [State.setBytes_eq]
@[simp] theorem State.setWord_str (s : State) (a v : Nat) : (s.setWord a v).str = s.str := State.setBytes_str s a _
@[simp] theorem State.setBytes_plumb (s : State) (a : Nat) (bs : List (BitVec 8)) : (s.setBytes a bs).plumb = s.plumb := by
  rw [State.setBytes_eq]
@[simp] theorem State.setWord_plumb (s : State) (a v : Nat) : (s.setWord a v).plumb = s.plumb := State.setBytes_plumb s a _
@[simp] theorem State.setBytes_plls (s : State) (a : Nat) (bs : List (BitVec 8)) : (s.setBytes a bs).plls = s.plls := by
  rw [State.setBytes_eq]
@[simp] theorem State.setWord_plls (s : State) (a v : Nat) : (s.setWord a v).plls = s.plls := State.setBytes_plls s a _
@[simp] theorem State.setBytes_host (s : State) (a : Nat) (bs : List (BitVec 8)) : (s.setBytes a bs).host = s.host := by
  rw [State.setBytes_eq]
@[simp] theorem State.setWord_host (s : State) (a v : Nat) : (s.setWord a v).host = s.host := State.setBytes_host s a _
@[simp] theorem State.setBytes_otp (s : State) (a : Nat) (bs : List (BitVec 8)) : (s.setBytes a bs).otp = s.otp := by
  rw [State.setBytes_eq]
@[simp] theorem State.setWord_otp (s : State) (a v : Nat) : (s.setWord a v).otp = s.otp := State.setBytes_otp s a _
@[simp] theorem State.setBytes_boot (s : State) (a : Nat) (bs : List (BitVec 8)) : (s.setBytes a bs).boot = s.boot := by
  rw [State.setBytes_eq]
@[simp] theorem State.setWord_boot (s : State) (a v : Nat) : (s.setWord a v).boot = s.boot := State.setBytes_boot s a _
@[simp] theorem State.setBytes_serial (s : State) (a : Nat) (bs : List (BitVec 8)) : (s.setBytes a bs).serial = s.serial := by
  rw [State.setBytes_eq]
@[simp] theorem State.setWord_serial (s : State) (a v : Nat) : (s.setWord a v).serial = s.serial := State.setBytes_serial s a _
@[simp] theorem State.setBytes_zeroTick (s : State) (a : Nat) (bs : List (BitVec 8)) : (s.setBytes a bs).zeroTick = s.zeroTick := by
  rw [State.setBytes_eq]
@[simp] theorem State.setWord_zeroTick (s : State) (a v : Nat) : (s.setWord a v).zeroTick = s.zeroTick := State.setBytes_zeroTick s a _
@[simp] theorem State.setBytes_peerEpoch (s : State) (a : Nat) (bs : List (BitVec 8)) : (s.setBytes a bs).peerEpoch = s.peerEpoch := by
  rw [State.setBytes_eq]
@[simp] theorem State.setWord_peerEpoch (s : State) (a v : Nat) : (s.setWord a v).peerEpoch = s.peerEpoch := State.setBytes_peerEpoch s a _
@[simp] theorem State.setBytes_power (s : State) (a : Nat) (bs : List (BitVec 8)) : (s.setBytes a bs).power = s.power := by
  rw [State.setBytes_eq]
@[simp] theorem State.setWord_power (s : State) (a v : Nat) : (s.setWord a v).power = s.power := State.setBytes_power s a _
@[simp] theorem State.setBytes_diag (s : State) (a : Nat) (bs : List (BitVec 8)) : (s.setBytes a bs).diag = s.diag := by
  rw [State.setBytes_eq]
@[simp] theorem State.setWord_diag (s : State) (a v : Nat) : (s.setWord a v).diag = s.diag := State.setBytes_diag s a _
@[simp] theorem State.setBytes_brace (s : State) (a : Nat) (bs : List (BitVec 8)) : (s.setBytes a bs).brace = s.brace := by
  rw [State.setBytes_eq]
@[simp] theorem State.setWord_brace (s : State) (a v : Nat) : (s.setWord a v).brace = s.brace := State.setBytes_brace s a _
@[simp] theorem State.setBytes_mix (s : State) (a : Nat) (bs : List (BitVec 8)) : (s.setBytes a bs).mix = s.mix := by
  rw [State.setBytes_eq]
@[simp] theorem State.setWord_mix (s : State) (a v : Nat) : (s.setWord a v).mix = s.mix := State.setBytes_mix s a _
@[simp] theorem State.setBytes_je (s : State) (a : Nat) (bs : List (BitVec 8)) : (s.setBytes a bs).je = s.je := by
  rw [State.setBytes_eq]
@[simp] theorem State.setWord_je (s : State) (a v : Nat) : (s.setWord a v).je = s.je := State.setBytes_je s a _
@[simp] theorem State.setBytes_clips (s : State) (a : Nat) (bs : List (BitVec 8)) : (s.setBytes a bs).clips = s.clips := by
  rw [State.setBytes_eq]
@[simp] theorem State.setWord_clips (s : State) (a v : Nat) : (s.setWord a v).clips = s.clips := State.setBytes_clips s a _
@[simp] theorem State.setBytes_svc (s : State) (a : Nat) (bs : List (BitVec 8)) : (s.setBytes a bs).svc = s.svc := by
  rw [State.setBytes_eq]
@[simp] theorem State.setWord_svc (s : State) (a v : Nat) : (s.setWord a v).svc = s.svc := State.setBytes_svc s a _
@[simp] theorem State.setBytes_free (s : State) (a : Nat) (bs : List (BitVec 8)) : (s.setBytes a bs).free = s.free := by
  rw [State.setBytes_eq]
@[simp] theorem State.setWord_free (s : State) (a v : Nat) : (s.setWord a v).free = s.free := State.setBytes_free s a _
@[simp] theorem State.setBytes_wire (s : State) (a : Nat) (bs : List (BitVec 8)) : (s.setBytes a bs).wire = s.wire := by
  rw [State.setBytes_eq]
@[simp] theorem State.setWord_wire (s : State) (a v : Nat) : (s.setWord a v).wire = s.wire := State.setBytes_wire s a _
@[simp] theorem State.setBytes_pending (s : State) (a : Nat) (bs : List (BitVec 8)) : (s.setBytes a bs).pending = s.pending := by
  rw [State.setBytes_eq]
@[simp] theorem State.setWord_pending (s : State) (a v : Nat) : (s.setWord a v).pending = s.pending := State.setBytes_pending s a _

end Sys2Proof.Machine
end

