-- ==== Sys2Proof/Laws/Closed.lean ====
section
/-! SUPPORT. Relations between the state before and after that every operation respects which does not itself change the device
state, the operation under way, the fuses or the queue: one lemma for each operation serves every such relation. -/

namespace Sys2Proof.Machine

/-- A relation that the plain operations respect: it may speak of the device state, the operation under way, the fuses, the
queue, the canonical form of memory, what has been sent and the pending SAFE entry, and of nothing else. -/
structure Closed (Q : State → State → Prop) : Prop where
  refl : ∀ s, Q s s
  trans : ∀ {s t u}, Q s t → Q t u → Q s u
  upd : ∀ (s : State) role tickNum win regs shadow latch mem queue repack porst coreLow raw logged net ptp str plumb plls host
    boot serial zeroTick peerEpoch power diag brace mix je clips svc free,
    (Memory.wf s.mem = true → Memory.wf mem = true) →
    Q s { s with
      role := role, tickNum := tickNum, win := win, regs := regs, shadow := shadow, latch := latch, mem := mem
      queue := queue, repack := repack, porst := porst, coreLow := coreLow, raw := raw, logged := logged, net := net, ptp := ptp
      str := str, plumb := plumb, plls := plls, host := host, boot := boot, serial := serial, zeroTick := zeroTick
      peerEpoch := peerEpoch, power := power, diag := diag, brace := brace, mix := mix, je := je, clips := clips, svc := svc
      free := free }
  sends : ∀ (s : State) o, Q s (s.send o)
  waits : ∀ s : State, s.dev = .run → Q s { s with safeWait := true }
  boundary : ∀ (s u : State) n, Q { s with tg := s.tg + 1, tickNum := n } u → Q s { u with tg := s.tg }

variable {Q : State → State → Prop}

/-- An update of fields that Q does not speak of. -/
theorem Closed.set (H : Closed Q) {s0 s : State} (h : Q s0 s) {role tickNum win regs shadow latch queue repack porst coreLow raw
    logged net ptp str plumb plls host boot serial zeroTick peerEpoch power diag brace mix je clips svc free} :
    Q s0 { s with
      role := role, tickNum := tickNum, win := win, regs := regs, shadow := shadow, latch := latch
      queue := queue, repack := repack, porst := porst, coreLow := coreLow, raw := raw, logged := logged, net := net, ptp := ptp
      str := str, plumb := plumb, plls := plls, host := host, boot := boot, serial := serial, zeroTick := zeroTick
      peerEpoch := peerEpoch, power := power, diag := diag, brace := brace, mix := mix, je := je, clips := clips, svc := svc
      free := free } :=
  H.trans h (H.upd s _ _ _ _ _ _ _ _ _ _ _ _ _ _ _ _ _ _ _ _ _ _ _ _ _ _ _ _ _ _ _ id)

/-- The same, with another memory of canonical form. -/
theorem Closed.setMem (H : Closed Q) {s0 s : State} (h : Q s0 s) {role tickNum win regs shadow latch mem queue repack porst coreLow
    raw logged net ptp str plumb plls host boot serial zeroTick peerEpoch power diag brace mix je clips svc free}
    (hm : Memory.wf s.mem = true → Memory.wf mem = true) :
    Q s0 { s with
      role := role, tickNum := tickNum, win := win, regs := regs, shadow := shadow, latch := latch, mem := mem
      queue := queue, repack := repack, porst := porst, coreLow := coreLow, raw := raw, logged := logged, net := net, ptp := ptp
      str := str, plumb := plumb, plls := plls, host := host, boot := boot, serial := serial, zeroTick := zeroTick
      peerEpoch := peerEpoch, power := power, diag := diag, brace := brace, mix := mix, je := je, clips := clips, svc := svc
      free := free } :=
  H.trans h (H.upd s _ _ _ _ _ _ _ _ _ _ _ _ _ _ _ _ _ _ _ _ _ _ _ _ _ _ _ _ _ _ _ hm)

theorem Closed.ite (_H : Closed Q) {s0 t u : State} {c : Prop} [Decidable c] (h1 : Q s0 t) (h2 : Q s0 u) :
    Q s0 (if c then t else u) := by
  split <;> assumption

theorem Closed.foldl (_H : Closed Q) {α : Type} {s0 s : State} (h : Q s0 s) {f : State → α → State} {l : List α}
    (hf : ∀ t x, Q s0 t → Q s0 (f t x)) : Q s0 (l.foldl f s) := by
  induction l generalizing s with
  | nil => exact h
  | cons x l ih => exact ih (hf _ _ h)

theorem Closed.each (H : Closed Q) {s0 s : State} (h : Q s0 s) {n : Nat} {f : State → Nat → State}
    (hf : ∀ t k, Q s0 t → Q s0 (f t k)) : Q s0 (s.each n f) := H.foldl h hf

theorem Closed.when (_H : Closed Q) {s0 s : State} (h : Q s0 s) {b : Bool} {f : State → State}
    (hf : ∀ t, Q s0 t → Q s0 (f t)) : Q s0 (s.when b f) := by
  unfold State.when
  split
  · exact hf _ h
  · exact h

/-- A fold that carries a state beside other data. -/
theorem Closed.foldl_on (_H : Closed Q) {α β : Type} {s0 : State} (π : β → State) {b : β} (h : Q s0 (π b)) {f : β → α → β} {l : List α}
    (hf : ∀ t x, Q s0 (π t) → Q s0 (π (f t x))) : Q s0 (π (l.foldl f b)) := by
  induction l generalizing b with
  | nil => exact h
  | cons x l ih => exact ih (hf _ _ h)

/-- A fold over pairs of some data and a state. -/
theorem Closed.foldl_snd (_H : Closed Q) {α β : Type} {s0 : State} {b : β × State} (h : Q s0 b.2) {f : β × State → α → β × State}
    {l : List α} (hf : ∀ t x, Q s0 t.2 → Q s0 (f t x).2) : Q s0 (l.foldl f b).2 := by
  induction l generalizing b with
  | nil => exact h
  | cons x l ih => exact ih (hf _ _ h)

theorem State.put_closed (H : Closed Q) {s0 s : State} (h : Q s0 s) {f : Fld} {v i j : Nat} : Q s0 (s.put f v i j) := H.set h

theorem State.putI_closed (H : Closed Q) {s0 s : State} (h : Q s0 s) {f : Fld} {x : Int} {i j : Nat} : Q s0 (s.putI f x i j) := H.set h

theorem State.putBit_closed (H : Closed Q) {s0 s : State} (h : Q s0 s) {f : Fld} {k : Nat} {b : Bool} {i j : Nat} :
    Q s0 (s.putBit f k b i j) := H.set h

theorem State.bumpBy_closed (H : Closed Q) {s0 s : State} (h : Q s0 s) {f : Fld} {n i j : Nat} : Q s0 (s.bumpBy f n i j) := by
  unfold State.bumpBy
  split
  · exact State.put_closed H (State.put_closed H h)
  · exact State.put_closed H h

theorem State.bump_closed (H : Closed Q) {s0 s : State} (h : Q s0 s) {f : Fld} {i j : Nat} : Q s0 (s.bump f i j) :=
  State.bumpBy_closed H h

theorem State.shPut_closed (H : Closed Q) {s0 s : State} (h : Q s0 s) {f : Fld} {v i j : Nat} : Q s0 (s.shPut f v i j) := H.set h

theorem State.withShadow_closed (H : Closed Q) {s0 s : State} (h : Q s0 s) {l : List Nat} : Q s0 (s.withShadow l) :=
  H.foldl h fun _ _ h => State.put_closed H h

theorem State.dropShadow_closed (H : Closed Q) {s0 s : State} (h : Q s0 s) {l : List Nat} : Q s0 (s.dropShadow l) := H.set h

theorem State.setByte_closed (H : Closed Q) {s0 s : State} (h : Q s0 s) {a : Nat} {b : BitVec 8} : Q s0 (s.setByte a b) :=
  H.setMem h (fun w => Sparse.wf_put _ _ w)

theorem State.setBytes_closed (H : Closed Q) {s0 s : State} (h : Q s0 s) {a : Nat} {l : List (BitVec 8)} : Q s0 (s.setBytes a l) := by
  induction l generalizing s a with
  | nil => exact h
  | cons b l ih => exact ih (State.setByte_closed H h)

theorem State.setWord_closed (H : Closed Q) {s0 s : State} (h : Q s0 s) {a v : Nat} : Q s0 (s.setWord a v) := State.setBytes_closed H h

theorem State.draw_closed (H : Closed Q) {s0 s : State} (h : Q s0 s) : Q s0 s.draw.2 := H.set h

theorem State.send_closed (H : Closed Q) {s0 s : State} (h : Q s0 s) {o : Out} : Q s0 (s.send o) := H.trans h (H.sends _ _)

theorem State.atBoundary_closed (H : Closed Q) {s0 s : State} (h : Q s0 s) {f : State → State} (hf : ∀ s1 t, Q s1 t → Q s1 (f t)) :
    Q s0 (s.atBoundary f) := by
  have hb := H.boundary s _ ((s.tickNum + 1) % 2 ^ 48) (hf _ _ (H.refl _))
  exact H.trans h (H.set hb)

/-- A relation that every change within a tick respects which leaves the fuses and the queue alone, keeps the memory's canonical
form and only adds to what has been sent: it may also speak of the ticks run. -/
structure Wide (Q : State → State → Prop) : Prop where
  refl : ∀ s, Q s s
  trans : ∀ {s t u}, Q s t → Q t u → Q s u
  any : ∀ {s t : State}, t.otp = s.otp → t.pending = s.pending → t.wire = s.wire → t.tg = s.tg →
    (Memory.wf s.mem = true → Memory.wf t.mem = true) → Q s t
  sends : ∀ (s : State) o, Q s (s.send o)
  boundary : ∀ (s u : State) n, Q { s with tg := s.tg + 1, tickNum := n } u → Q s { u with tg := s.tg }

theorem Wide.closed (H : Wide Q) : Closed Q where
  refl := H.refl
  trans := H.trans
  upd _ _ _ _ _ _ _ _ _ _ _ _ _ _ _ _ _ _ _ _ _ _ _ _ _ _ _ _ _ _ _ _ h := H.any rfl rfl rfl rfl h
  sends := H.sends
  waits _ _ := H.any rfl rfl rfl rfl id
  boundary := H.boundary

/-- An update that leaves the fuses, the queue, memory, the ticks run and what has been sent. -/
theorem Wide.upd (H : Wide Q) {s0 s t : State} (h : Q s0 s) (h1 : t.otp = s.otp) (h2 : t.pending = s.pending) (h3 : t.wire = s.wire)
    (h4 : t.tg = s.tg) (h5 : Memory.wf s.mem = true → Memory.wf t.mem = true) : Q s0 t := H.trans h (H.any h1 h2 h3 h4 h5)

/-- The device state, the operation under way and the pending SAFE entry change, with other fields. -/
theorem Wide.set (H : Wide Q) {s0 s : State} (h : Q s0 s) {dev role tickNum win regs shadow latch queue repack op porst coreLow safeWait
    raw logged net ptp str plumb plls host boot serial zeroTick peerEpoch power diag brace mix je clips svc free} :
    Q s0 { s with
      dev := dev, op := op, safeWait := safeWait
      role := role, tickNum := tickNum, win := win, regs := regs, shadow := shadow, latch := latch
      queue := queue, repack := repack, porst := porst, coreLow := coreLow, raw := raw, logged := logged, net := net, ptp := ptp
      str := str, plumb := plumb, plls := plls, host := host, boot := boot, serial := serial, zeroTick := zeroTick
      peerEpoch := peerEpoch, power := power, diag := diag, brace := brace, mix := mix, je := je, clips := clips, svc := svc
      free := free } := H.trans h (H.any rfl rfl rfl rfl id)

end Sys2Proof.Machine
end

