-- ==== Sys2Proof/Laws/ClosedOps.lean ====
section
/-! SUPPORT. The relations of Laws/Closed.lean hold across the operations of Machine/Ops.lean: one lemma for each. -/

namespace Sys2Proof.Machine

variable {Q : State → State → Prop}

theorem State.denyRecord_closed (H : Closed Q) {s0 s : State} (h0 : Q s0 s) {c : Cls} {wr : Bool} {a : Nat} :
    Q s0 (State.denyRecord s c wr a) := by
  unfold State.denyRecord
  try dsimp only
  repeat' first
    | intro _ | with_reducible assumption | with_reducible apply State.bump_closed H | with_reducible apply State.put_closed H
    | with_reducible apply H.ite | split | dsimp only

end Sys2Proof.Machine
end

