-- ==== Sys2Proof/Laws/ClosedFlags.lean ====
section
/-! SUPPORT. The relations of Laws/Closed.lean hold across the operations of Machine/Flags.lean: one lemma for each. -/

namespace Sys2Proof.Machine

variable {Q : State → State → Prop}

theorem State.logRecord_closed (H : Closed Q) {s0 s : State} (h0 : Q s0 s) {e : Nat} {fatalCause : Option Nat} :
    Q s0 (State.logRecord s e fatalCause) := by
  unfold State.logRecord
  try dsimp only
  repeat' first
    | intro _ | with_reducible assumption | with_reducible apply State.bump_closed H
    | with_reducible apply State.denyRecord_closed H | with_reducible apply State.put_closed H
    | with_reducible apply State.setWord_closed H | with_reducible apply H.ite | split
    | fail_if_no_progress with_reducible apply H.set | dsimp only

theorem State.noteInBand_closed (H : Closed Q) {s0 s : State} (h0 : Q s0 s) {e : Nat} :
    Q s0 (State.noteInBand s e) := by
  unfold State.noteInBand
  try dsimp only
  repeat' first
    | intro _ | with_reducible assumption | with_reducible apply H.ite | split | fail_if_no_progress with_reducible apply H.set
    | dsimp only

theorem State.note_closed (H : Closed Q) {s0 s : State} (h0 : Q s0 s) {e : Nat} :
    Q s0 (State.note s e) := by
  unfold State.note
  try dsimp only
  repeat' first
    | intro _ | with_reducible assumption | with_reducible apply State.noteInBand_closed H
    | with_reducible apply State.put_closed H | with_reducible apply State.putBit_closed H
    | fail_if_no_progress with_reducible apply H.set | dsimp only

theorem State.raise_closed (H : Closed Q) {s0 s : State} (h0 : Q s0 s) {e : Nat} :
    Q s0 (State.raise s e) := by
  unfold State.raise
  try dsimp only
  repeat' first
    | intro _ | with_reducible assumption | with_reducible apply State.logRecord_closed H
    | with_reducible apply State.note_closed H | with_reducible apply H.ite | split | dsimp only

theorem State.raiseFatal_closed (H : Closed Q) {s0 s : State} (h0 : Q s0 s) {e : Nat} {cause : Nat} :
    Q s0 (State.raiseFatal s e cause) := by
  unfold State.raiseFatal
  try dsimp only
  repeat' first
    | intro _ | with_reducible assumption | with_reducible apply State.logRecord_closed H
    | with_reducible apply State.note_closed H | with_reducible apply H.ite | split | dsimp only

theorem State.expireRaw_closed (H : Closed Q) {s0 s : State} (h0 : Q s0 s)  :
    Q s0 (State.expireRaw s) := by
  unfold State.expireRaw
  try dsimp only
  repeat' first
    | intro _ | with_reducible assumption | with_reducible apply H.ite | split | fail_if_no_progress with_reducible apply H.set
    | dsimp only

theorem State.restampRecord_closed (H : Closed Q) {s0 s : State} (h0 : Q s0 s) {k : Nat} :
    Q s0 (State.restampRecord s k) := by
  unfold State.restampRecord
  try dsimp only
  repeat' first
    | intro _ | with_reducible assumption | with_reducible apply State.setWord_closed H | with_reducible apply H.ite | split
    | dsimp only

theorem State.restamp_closed (H : Closed Q) {s0 s : State} (h0 : Q s0 s) {old : Nat} :
    Q s0 (State.restamp s old) := by
  unfold State.restamp
  try dsimp only
  repeat' first
    | intro _ | with_reducible assumption | with_reducible apply State.put_closed H
    | with_reducible apply State.restampRecord_closed H | with_reducible apply H.each | with_reducible apply H.when
    | dsimp only

theorem State.deny_closed (H : Closed Q) {s0 s : State} (h0 : Q s0 s) {c : Cls} {wr : Bool} {a : Nat} :
    Q s0 (State.deny s c wr a) := by
  unfold State.deny
  try dsimp only
  repeat' first
    | intro _ | with_reducible assumption | with_reducible apply State.denyRecord_closed H
    | with_reducible apply State.raise_closed H | with_reducible apply H.ite | split | dsimp only

end Sys2Proof.Machine
end

