-- ==== Sys2Proof/Laws/ClosedOperands.lean ====
section
/-! SUPPORT. The relations of Laws/Closed.lean hold across the operations of Machine/Operands.lean: one lemma for each. -/

namespace Sys2Proof.Machine

variable {Q : State → State → Prop}

theorem State.mirrorOut_closed (H : Closed Q) {s0 s : State} (h0 : Q s0 s) {who : Initiator} {addr : Nat} {entry : Nat} {data : Nat} :
    Q s0 (State.mirrorOut s who addr entry data) := by
  unfold State.mirrorOut
  try dsimp only
  repeat' first
    | intro _ | with_reducible assumption | with_reducible apply H.when | fail_if_no_progress with_reducible apply H.set
    | dsimp only

theorem State.putRoute_closed (H : Closed Q) {s0 s : State} (h0 : Q s0 s) {e : Nat} {v : Nat} :
    Q s0 (State.putRoute s e v) := by
  unfold State.putRoute
  try dsimp only
  repeat' first
    | intro _ | with_reducible assumption | with_reducible apply State.put_closed H | dsimp only

theorem State.writeHeader_closed (H : Closed Q) {s0 s : State} (h0 : Q s0 s) {who : Initiator} {p : Nat} {off : Nat} {v : Nat} :
    Q s0 (State.writeHeader s who p off v).1 := by
  unfold State.writeHeader
  try dsimp only
  repeat' first
    | intro _ | with_reducible assumption | with_reducible apply State.put_closed H
    | with_reducible apply State.putBit_closed H | with_reducible apply State.putRoute_closed H
    | with_reducible apply State.shPut_closed H | with_reducible apply H.ite | with_reducible apply H.foldl
    | with_reducible apply H.foldl_on (fun b : _ × State => b.2) | with_reducible apply H.foldl_on (fun b : State × _ => b.1)
    | with_reducible apply H.foldl_on (fun b : _ × _ × State => b.2.2)
    | with_reducible apply H.foldl_on (fun b : _ × _ × _ × State => b.2.2.2) | split | dsimp only

theorem State.latchRead_closed (H : Closed Q) {s0 s : State} (h0 : Q s0 s) {a : Nat} :
    Q s0 (State.latchRead s a) := by
  unfold State.latchRead
  try dsimp only
  repeat' first
    | intro _ | with_reducible assumption | with_reducible apply State.put_closed H | with_reducible apply H.ite
    | with_reducible apply H.foldl | with_reducible apply H.foldl_on (fun b : _ × State => b.2)
    | with_reducible apply H.foldl_on (fun b : State × _ => b.1)
    | with_reducible apply H.foldl_on (fun b : _ × _ × State => b.2.2)
    | with_reducible apply H.foldl_on (fun b : _ × _ × _ × State => b.2.2.2) | split
    | fail_if_no_progress with_reducible apply H.set | dsimp only

theorem State.writeField_closed (H : Closed Q) {s0 s : State} (h0 : Q s0 s) {f : Fld} {i : Nat} {j : Nat} {v : Nat} :
    Q s0 (State.writeField s f i j v) := by
  unfold State.writeField
  try dsimp only
  repeat' first
    | intro _ | with_reducible assumption | with_reducible apply State.put_closed H | with_reducible apply State.shPut_closed H
    | with_reducible apply H.ite | split | fail_if_no_progress with_reducible apply H.set | dsimp only

theorem State.writeFields_closed (H : Closed Q) {s0 s : State} (h0 : Q s0 s) {who : Initiator} {a : Nat} {v : Nat} :
    Q s0 (State.writeFields s who a v) := by
  unfold State.writeFields
  try dsimp only
  repeat' first
    | intro _ | with_reducible assumption | with_reducible apply State.put_closed H | with_reducible apply State.raise_closed H
    | with_reducible apply State.writeField_closed H | with_reducible apply H.ite | with_reducible apply H.foldl
    | with_reducible apply H.foldl_on (fun b : _ × State => b.2) | with_reducible apply H.foldl_on (fun b : State × _ => b.1)
    | with_reducible apply H.foldl_on (fun b : _ × _ × State => b.2.2)
    | with_reducible apply H.foldl_on (fun b : _ × _ × _ × State => b.2.2.2) | split
    | fail_if_no_progress with_reducible apply H.set | dsimp only

theorem State.regWrite_closed (H : Closed Q) {s0 s : State} (h0 : Q s0 s) {who : Initiator} {a : Nat} {v : Nat} :
    Q s0 (State.regWrite s who a v) := by
  unfold State.regWrite
  try dsimp only
  repeat' first
    | intro _ | with_reducible assumption | with_reducible apply State.raise_closed H
    | with_reducible apply State.writeFields_closed H | with_reducible apply State.writeHeader_closed H
    | with_reducible apply H.ite | split | dsimp only

theorem State.command_closed (H : Closed Q) {s0 s : State} (h0 : Q s0 s) {who : Initiator} {a : Nat} {f : State → State} (hf_f : ∀ t, Q s0 t → Q s0 (f t)) :
    Q s0 (State.command s who a f) := by
  unfold State.command
  try dsimp only
  repeat' first
    | intro _ | with_reducible assumption | apply hf_f | with_reducible apply State.deny_closed H
    | with_reducible apply State.raise_closed H | with_reducible apply H.ite | split | dsimp only

theorem State.hostErr_closed (H : Closed Q) {s0 s : State} (h0 : Q s0 s)  :
    Q s0 (State.hostErr s) := by
  unfold State.hostErr
  try dsimp only
  repeat' first
    | intro _ | with_reducible assumption | with_reducible apply State.raise_closed H | dsimp only

end Sys2Proof.Machine
end

