-- ==== Sys2Proof/Laws/ClosedPorts.lean ====
section
/-! SUPPORT. The relations of Laws/Closed.lean hold across the operations of Machine/Ports.lean: one lemma for each. -/

namespace Sys2Proof.Machine

variable {Q : State → State → Prop}

theorem State.setPh_closed (H : Closed Q) {s0 s : State} (h0 : Q s0 s) {p : Nat} {h : PortHid} :
    Q s0 (State.setPh s p h) := by
  unfold State.setPh
  try dsimp only
  repeat' first
    | intro _ | with_reducible assumption | with_reducible apply State.put_closed H
    | fail_if_no_progress with_reducible apply H.set | dsimp only

theorem State.frameErr_closed (H : Closed Q) {s0 s : State} (h0 : Q s0 s) {f : Fld} {p : Nat} :
    Q s0 (State.frameErr s f p) := by
  unfold State.frameErr
  try dsimp only
  repeat' first
    | intro _ | with_reducible assumption | with_reducible apply State.put_closed H | with_reducible apply State.raise_closed H
    | with_reducible apply H.ite | split | fail_if_no_progress with_reducible apply H.set | dsimp only

theorem State.sendPause_closed (H : Closed Q) {s0 s : State} (h0 : Q s0 s) {p : Nat} {quanta : Nat} :
    Q s0 (State.sendPause s p quanta) := by
  unfold State.sendPause
  try dsimp only
  repeat' first
    | intro _ | with_reducible assumption | with_reducible apply State.bump_closed H | with_reducible apply State.send_closed H
    | split | fail_if_no_progress with_reducible apply H.set | dsimp only

theorem State.poolUpdate_closed (H : Closed Q) {s0 s : State} (h0 : Q s0 s) {p : Nat} :
    Q s0 (State.poolUpdate s p) := by
  unfold State.poolUpdate
  try dsimp only
  repeat' first
    | intro _ | with_reducible assumption | with_reducible apply State.put_closed H | with_reducible apply State.raise_closed H
    | with_reducible apply State.sendPause_closed H | with_reducible apply H.ite | split | dsimp only

theorem State.pfcPrio_closed (H : Closed Q) {s0 s : State} (h0 : Q s0 s) {p : Nat} {k : Nat} {quanta : Nat} :
    Q s0 (State.pfcPrio s p k quanta) := by
  unfold State.pfcPrio
  try dsimp only
  repeat' first
    | intro _ | with_reducible assumption | with_reducible apply State.putBit_closed H
    | with_reducible apply State.raise_closed H | with_reducible apply H.ite | split | dsimp only

theorem State.pauseAct_closed (H : Closed Q) {s0 s : State} (h0 : Q s0 s) {p : Nat} {f : PauseFrame} :
    Q s0 (State.pauseAct s p f) := by
  unfold State.pauseAct
  try dsimp only
  repeat' first
    | intro _ | with_reducible assumption | with_reducible apply State.pfcPrio_closed H
    | with_reducible apply State.put_closed H | with_reducible apply State.raise_closed H | with_reducible apply H.ite
    | with_reducible apply H.foldl | with_reducible apply H.foldl_on (fun b : _ × State => b.2)
    | with_reducible apply H.foldl_on (fun b : State × _ => b.1)
    | with_reducible apply H.foldl_on (fun b : _ × _ × State => b.2.2)
    | with_reducible apply H.foldl_on (fun b : _ × _ × _ × State => b.2.2.2) | split | dsimp only

theorem State.macControl_closed (H : Closed Q) {s0 s : State} (h0 : Q s0 s) {p : Nat} {f : PauseFrame} :
    Q s0 (State.macControl s p f) := by
  unfold State.macControl
  try dsimp only
  repeat' first
    | intro _ | with_reducible assumption | with_reducible apply State.bump_closed H
    | with_reducible apply State.pauseAct_closed H | with_reducible apply H.ite | split | dsimp only

theorem State.lineUse_closed (H : Closed Q) {s0 s : State} (h0 : Q s0 s) {p : Nat} {now : Nat} {bits : Nat} {tc : Option Nat} :
    Q s0 (State.lineUse s p now bits tc) := by
  unfold State.lineUse
  try dsimp only
  repeat' first
    | intro _ | with_reducible assumption | with_reducible apply State.setPh_closed H
    | fail_if_no_progress with_reducible apply H.set | dsimp only

theorem State.outgoing_closed (H : Closed Q) {s0 s : State} (h0 : Q s0 s) {e : EgrFrame} :
    Q s0 (State.outgoing s e).2 := by
  unfold State.outgoing
  try dsimp only
  repeat' first
    | intro _ | with_reducible assumption | with_reducible apply State.draw_closed H | with_reducible apply H.ite | split
    | fail_if_no_progress with_reducible apply H.set | dsimp only

theorem State.depart_closed (H : Closed Q) {s0 s : State} (h0 : Q s0 s) {p : Nat} {now : Nat} {e : EgrFrame} :
    Q s0 (State.depart s p now e) := by
  unfold State.depart
  try dsimp only
  repeat' first
    | intro _ | with_reducible assumption | with_reducible apply State.bump_closed H
    | with_reducible apply State.lineUse_closed H | with_reducible apply State.outgoing_closed H
    | with_reducible apply State.send_closed H | with_reducible apply State.setPh_closed H | split
    | fail_if_no_progress with_reducible apply H.set | dsimp only

theorem State.drain_closed (H : Closed Q) {s0 s : State} (h0 : Q s0 s) {p : Nat} {e'0 : Nat} :
    Q s0 (State.drain s p e'0) := by
  induction e'0 generalizing s p with
  | zero =>
    unfold State.drain
    try dsimp only
    repeat' first
      | intro _ | with_reducible assumption | with_reducible apply State.depart_closed H
      | with_reducible apply State.lineUse_closed H | with_reducible apply H.ite | split
      | fail_if_no_progress with_reducible apply H.set | dsimp only
  | succ n ih =>
    unfold State.drain
    try dsimp only
    repeat' first
      | intro _ | with_reducible assumption | with_reducible apply ih | with_reducible apply State.depart_closed H
      | with_reducible apply State.lineUse_closed H | with_reducible apply H.ite | split
      | fail_if_no_progress with_reducible apply H.set | dsimp only

theorem State.egressTick_closed (H : Closed Q) {s0 s : State} (h0 : Q s0 s) {p : Nat} :
    Q s0 (State.egressTick s p) := by
  unfold State.egressTick
  try dsimp only
  repeat' first
    | intro _ | with_reducible assumption | with_reducible apply State.drain_closed H
    | with_reducible apply State.lineUse_closed H | with_reducible apply State.setPh_closed H | with_reducible apply H.ite
    | split | fail_if_no_progress with_reducible apply H.set | dsimp only

theorem State.egressAll_closed (H : Closed Q) {s0 s : State} (h0 : Q s0 s)  :
    Q s0 (State.egressAll s) := by
  unfold State.egressAll
  try dsimp only
  repeat' first
    | intro _ | with_reducible assumption | with_reducible apply State.egressTick_closed H
    | with_reducible apply State.poolUpdate_closed H | with_reducible apply H.each | dsimp only

theorem State.mdioStart_closed (H : Closed Q) {s0 s : State} (h0 : Q s0 s) {op : Nat} {phy : Nat} {reg : Nat} :
    Q s0 (State.mdioStart s op phy reg) := by
  unfold State.mdioStart
  try dsimp only
  repeat' first
    | intro _ | with_reducible assumption | with_reducible apply State.hostErr_closed H
    | with_reducible apply State.put_closed H | with_reducible apply State.send_closed H | with_reducible apply H.ite | split
    | dsimp only

theorem State.plcaCycle_closed (H : Closed Q) {s0 s : State} (h0 : Q s0 s) {k : Nat} :
    Q s0 (State.plcaCycle s k) := by
  unfold State.plcaCycle
  try dsimp only
  repeat' first
    | intro _ | with_reducible assumption | with_reducible apply State.put_closed H | with_reducible apply State.setPh_closed H
    | fail_if_no_progress with_reducible apply H.set | dsimp only

theorem State.plcaStop_closed (H : Closed Q) {s0 s : State} (h0 : Q s0 s) {k : Nat} :
    Q s0 (State.plcaStop s k) := by
  unfold State.plcaStop
  try dsimp only
  repeat' first
    | intro _ | with_reducible assumption | with_reducible apply State.put_closed H | with_reducible apply H.ite | split
    | dsimp only

theorem State.plcaFault_closed (H : Closed Q) {s0 s : State} (h0 : Q s0 s) {bitF : Fld} {cntF : Fld} {k : Nat} :
    Q s0 (State.plcaFault s bitF cntF k) := by
  unfold State.plcaFault
  try dsimp only
  repeat' first
    | intro _ | with_reducible assumption | with_reducible apply State.bump_closed H | with_reducible apply State.put_closed H
    | with_reducible apply State.raise_closed H | dsimp only

theorem State.t1sSend_closed (H : Closed Q) {s0 s : State} (h0 : Q s0 s) {p : Nat} {e'0 : Nat} :
    Q s0 (State.t1sSend s p e'0) := by
  induction e'0 generalizing s p with
  | zero =>
    unfold State.t1sSend
    try dsimp only
    repeat' first
      | intro _ | with_reducible assumption | with_reducible apply State.depart_closed H | split
      | fail_if_no_progress with_reducible apply H.set | dsimp only
  | succ n ih =>
    unfold State.t1sSend
    try dsimp only
    repeat' first
      | intro _ | with_reducible assumption | with_reducible apply ih | with_reducible apply State.depart_closed H | split
      | fail_if_no_progress with_reducible apply H.set | dsimp only

theorem State.dropFrame_closed (H : Closed Q) {s0 s : State} (h0 : Q s0 s) {p : Nat} {e : EgrFrame} :
    Q s0 (State.dropFrame s p e) := by
  unfold State.dropFrame
  try dsimp only
  repeat' first
    | intro _ | with_reducible assumption | with_reducible apply State.setPh_closed H
    | fail_if_no_progress with_reducible apply H.set | dsimp only

theorem State.linkGone_closed (H : Closed Q) {s0 s : State} (h0 : Q s0 s) {p : Nat} :
    Q s0 (State.linkGone s p) := by
  unfold State.linkGone
  try dsimp only
  repeat' first
    | intro _ | with_reducible assumption | with_reducible apply State.put_closed H | with_reducible apply State.raise_closed H
    | with_reducible apply State.setPh_closed H | with_reducible apply H.ite | split
    | fail_if_no_progress with_reducible apply H.set | dsimp only

theorem State.egrClear_closed (H : Closed Q) {s0 s : State} (h0 : Q s0 s)  :
    Q s0 (State.egrClear s) := by
  unfold State.egrClear
  try dsimp only
  repeat' first
    | intro _ | with_reducible assumption | with_reducible apply State.plcaStop_closed H
    | with_reducible apply State.setPh_closed H | with_reducible apply H.foldl
    | with_reducible apply H.foldl_on (fun b : _ × State => b.2) | with_reducible apply H.foldl_on (fun b : State × _ => b.1)
    | with_reducible apply H.foldl_on (fun b : _ × _ × State => b.2.2)
    | with_reducible apply H.foldl_on (fun b : _ × _ × _ × State => b.2.2.2) | fail_if_no_progress with_reducible apply H.set
    | dsimp only

end Sys2Proof.Machine
end

