-- ==== Sys2Proof/Laws/ClosedBridge.lean ====
section
/-! SUPPORT. The relations of Laws/Closed.lean hold across the operations of Machine/Bridge.lean: one lemma for each. -/

namespace Sys2Proof.Machine

variable {Q : State → State → Prop}

theorem State.setFdb_closed (H : Closed Q) {s0 s : State} (h0 : Q s0 s) {m : Sparse FdbEntry} :
    Q s0 (State.setFdb s m) := by
  unfold State.setFdb
  try dsimp only
  repeat' first
    | intro _ | with_reducible assumption | with_reducible apply State.put_closed H
    | fail_if_no_progress with_reducible apply H.set | dsimp only

theorem State.fdbLearn_closed (H : Closed Q) {s0 s : State} (h0 : Q s0 s) {p : Nat} {h : Hdr} :
    Q s0 (State.fdbLearn s p h) := by
  unfold State.fdbLearn
  try dsimp only
  repeat' first
    | intro _ | with_reducible assumption | with_reducible apply State.bump_closed H
    | with_reducible apply State.setFdb_closed H | with_reducible apply H.ite | split
    | fail_if_no_progress with_reducible apply H.set | dsimp only

theorem State.fdbStart_closed (H : Closed Q) {s0 s : State} (h0 : Q s0 s) {op : Nat} :
    Q s0 (State.fdbStart s op) := by
  unfold State.fdbStart
  try dsimp only
  repeat' first
    | intro _ | with_reducible assumption | with_reducible apply State.hostErr_closed H
    | with_reducible apply State.put_closed H | with_reducible apply H.ite | split | dsimp only

theorem State.fdbRun_closed (H : Closed Q) {s0 s : State} (h0 : Q s0 s)  :
    Q s0 (State.fdbRun s) := by
  unfold State.fdbRun
  try dsimp only
  repeat' first
    | intro _ | with_reducible assumption | with_reducible apply State.put_closed H
    | with_reducible apply State.setFdb_closed H | with_reducible apply H.ite | split
    | fail_if_no_progress with_reducible apply H.set | dsimp only

theorem State.filterPass_closed (H : Closed Q) {s0 s : State} (h0 : Q s0 s) {p : Nat} {h : Hdr} {len : Nat} {ns : Nat} :
    Q s0 (State.filterPass s p h len ns).2 := by
  unfold State.filterPass
  try dsimp only
  repeat' first
    | intro _ | with_reducible assumption | with_reducible apply State.bump_closed H | with_reducible apply State.put_closed H
    | with_reducible apply H.ite | with_reducible apply H.when | split | fail_if_no_progress with_reducible apply H.set
    | dsimp only

theorem State.setFrer_closed (H : Closed Q) {s0 s : State} (h0 : Q s0 s) {n : Nat} {x : Frer} :
    Q s0 (State.setFrer s n x) := by
  unfold State.setFrer
  try dsimp only
  repeat' first
    | intro _ | with_reducible assumption | with_reducible apply State.put_closed H
    | fail_if_no_progress with_reducible apply H.set | dsimp only

theorem State.frerEvent_closed (H : Closed Q) {s0 s : State} (h0 : Q s0 s) {n : Nat} :
    Q s0 (State.frerEvent s n) := by
  unfold State.frerEvent
  try dsimp only
  repeat' first
    | intro _ | with_reducible assumption | with_reducible apply State.put_closed H | with_reducible apply State.raise_closed H
    | dsimp only

theorem State.frerRecover_closed (H : Closed Q) {s0 s : State} (h0 : Q s0 s) {n : Nat} {seq : Nat} :
    Q s0 (State.frerRecover s n seq).2 := by
  unfold State.frerRecover
  try dsimp only
  repeat' first
    | intro _ | with_reducible assumption | with_reducible apply State.bump_closed H
    | with_reducible apply State.bumpBy_closed H | with_reducible apply State.frerEvent_closed H
    | with_reducible apply State.setFrer_closed H | with_reducible apply H.ite | split
    | fail_if_no_progress with_reducible apply H.set | dsimp only

theorem State.tasDropped_closed (H : Closed Q) {s0 s : State} (h0 : Q s0 s) {p : Nat} :
    Q s0 (State.tasDropped s p) := by
  unfold State.tasDropped
  try dsimp only
  repeat' first
    | intro _ | with_reducible assumption | with_reducible apply State.bump_closed H | with_reducible apply State.put_closed H
    | with_reducible apply State.raise_closed H | dsimp only

theorem State.tasPurge_closed (H : Closed Q) {s0 s : State} (h0 : Q s0 s) {p : Nat} :
    Q s0 (State.tasPurge s p) := by
  unfold State.tasPurge
  try dsimp only
  repeat' first
    | intro _ | with_reducible assumption | with_reducible apply State.tasDropped_closed H | with_reducible apply H.ite
    | with_reducible apply H.foldl | with_reducible apply H.foldl_on (fun b : _ × State => b.2)
    | with_reducible apply H.foldl_on (fun b : State × _ => b.1)
    | with_reducible apply H.foldl_on (fun b : _ × _ × State => b.2.2)
    | with_reducible apply H.foldl_on (fun b : _ × _ × _ × State => b.2.2.2) | split
    | fail_if_no_progress with_reducible apply H.set | dsimp only

theorem State.enqueue_closed (H : Closed Q) {s0 s : State} (h0 : Q s0 s) {e : EgrFrame} :
    Q s0 (State.enqueue s e).2 := by
  unfold State.enqueue
  try dsimp only
  repeat' first
    | intro _ | with_reducible assumption | with_reducible apply State.bump_closed H | with_reducible apply State.put_closed H
    | with_reducible apply State.tasDropped_closed H | with_reducible apply H.ite | split
    | fail_if_no_progress with_reducible apply H.set | dsimp only

theorem State.newFid_closed (H : Closed Q) {s0 s : State} (h0 : Q s0 s)  :
    Q s0 (State.newFid s).2 := by
  unfold State.newFid
  try dsimp only
  repeat' first
    | intro _ | with_reducible assumption | fail_if_no_progress with_reducible apply H.set | dsimp only

theorem State.hostDeliver_closed (H : Closed Q) {s0 s : State} (h0 : Q s0 s) {p : Nat} {fr : List Byte} {ns : Nat} :
    Q s0 (State.hostDeliver s p fr ns) := by
  unfold State.hostDeliver
  try dsimp only
  repeat' first
    | intro _ | with_reducible assumption | with_reducible apply State.bump_closed H | with_reducible apply State.put_closed H
    | with_reducible apply State.setBytes_closed H | with_reducible apply State.setWord_closed H | with_reducible apply H.ite
    | split | dsimp only

theorem State.ptpForeign_closed (H : Closed Q) {s0 s : State} (h0 : Q s0 s) {fr : List Byte} {h : Hdr} :
    Q s0 (State.ptpForeign s fr h) := by
  unfold State.ptpForeign
  try dsimp only
  repeat' first
    | intro _ | with_reducible assumption | with_reducible apply State.bump_closed H | with_reducible apply H.ite
    | with_reducible apply H.when | split | dsimp only

theorem State.consume_closed (H : Closed Q) {s0 s : State} (h0 : Q s0 s) {p : Nat} {fr : List Byte} {ns : Nat} :
    Q s0 (State.consume s p fr ns) := by
  unfold State.consume
  try dsimp only
  repeat' first
    | intro _ | with_reducible assumption | with_reducible apply State.hostDeliver_closed H
    | with_reducible apply State.ptpForeign_closed H | with_reducible apply State.send_closed H | with_reducible apply H.ite
    | split | dsimp only

theorem State.copies_closed (H : Closed Q) {s0 s : State} (h0 : Q s0 s) {p : Nat} {bs : List Byte} {h : Hdr} {tc : Nat} {resv : Bool} {fid : Nat} {e'0 : List Nat} :
    Q s0 (State.copies s p bs h tc resv fid e'0) := by
  induction e'0 generalizing s p bs h tc resv fid with
  | nil =>
    unfold State.copies
    try dsimp only
    repeat' first
      | intro _ | with_reducible assumption | with_reducible apply State.enqueue_closed H | dsimp only
  | cons x l ih =>
    unfold State.copies
    try dsimp only
    repeat' first
      | intro _ | with_reducible assumption | with_reducible apply ih | with_reducible apply State.enqueue_closed H
      | dsimp only

theorem State.recover_closed (H : Closed Q) {s0 s : State} (h0 : Q s0 s) {p : Nat} {bs : List Byte} {h : Hdr} :
    Q s0 (State.recover s p bs h).2.2.2 := by
  unfold State.recover
  try dsimp only
  repeat' first
    | intro _ | with_reducible assumption | with_reducible apply State.bump_closed H
    | with_reducible apply State.frerRecover_closed H | with_reducible apply H.ite | split
    | fail_if_no_progress with_reducible apply H.set | dsimp only

theorem State.reservedFrame_closed (H : Closed Q) {s0 s : State} (h0 : Q s0 s) {p : Nat} {bs : List Byte} {h : Hdr} {ns : Nat} :
    Q s0 (State.reservedFrame s p bs h ns) := by
  unfold State.reservedFrame
  try dsimp only
  repeat' first
    | intro _ | with_reducible assumption | with_reducible apply State.bump_closed H
    | with_reducible apply State.fdbLearn_closed H | with_reducible apply State.hostDeliver_closed H
    | with_reducible apply State.ptpForeign_closed H | with_reducible apply State.send_closed H | with_reducible apply H.ite
    | split | dsimp only

theorem State.forward_closed (H : Closed Q) {s0 s : State} (h0 : Q s0 s) {p : Nat} {bs : List Byte} {h : Hdr} {ns : Nat} :
    Q s0 (State.forward s p bs h ns) := by
  unfold State.forward
  try dsimp only
  repeat' first
    | intro _ | with_reducible assumption | with_reducible apply State.consume_closed H
    | with_reducible apply State.copies_closed H | with_reducible apply State.newFid_closed H
    | with_reducible apply State.poolUpdate_closed H | with_reducible apply State.recover_closed H | with_reducible apply H.ite
    | with_reducible apply H.when | split | dsimp only

theorem State.bridgeFrame_closed (H : Closed Q) {s0 s : State} (h0 : Q s0 s) {p : Nat} {bs : List Byte} {ns : Nat} :
    Q s0 (State.bridgeFrame s p bs ns) := by
  unfold State.bridgeFrame
  try dsimp only
  repeat' first
    | intro _ | with_reducible assumption | with_reducible apply State.bump_closed H
    | with_reducible apply State.fdbLearn_closed H | with_reducible apply State.filterPass_closed H
    | with_reducible apply State.forward_closed H | with_reducible apply State.macControl_closed H
    | with_reducible apply State.reservedFrame_closed H | with_reducible apply H.ite | split | dsimp only

theorem State.badFrame_closed (H : Closed Q) {s0 s : State} (h0 : Q s0 s) {p : Nat} {f : FrameIn} {cnt : Fld} {src : Fld} {stomp : Bool} :
    Q s0 (State.badFrame s p f cnt src stomp) := by
  unfold State.badFrame
  try dsimp only
  repeat' first
    | intro _ | with_reducible assumption | with_reducible apply State.bump_closed H
    | with_reducible apply State.frameErr_closed H | with_reducible apply State.send_closed H | with_reducible apply H.ite
    | split | fail_if_no_progress with_reducible apply H.set | dsimp only

theorem State.submit_closed (H : Closed Q) {s0 s : State} (h0 : Q s0 s) {p : Nat} {tc : Nat} {w : Wire} :
    Q s0 (State.submit s p tc w) := by
  unfold State.submit
  try dsimp only
  repeat' first
    | intro _ | with_reducible assumption | with_reducible apply State.bump_closed H
    | with_reducible apply State.enqueue_closed H | with_reducible apply State.newFid_closed H | with_reducible apply H.ite
    | split | dsimp only

theorem State.submitFrame_closed (H : Closed Q) {s0 s : State} (h0 : Q s0 s) {bs : List Byte} {mask : Nat} {tc : Nat} {ns : Nat} :
    Q s0 (State.submitFrame s bs mask tc ns).2 := by
  unfold State.submitFrame
  try dsimp only
  repeat' first
    | intro _ | with_reducible assumption | with_reducible apply State.bump_closed H
    | with_reducible apply State.consume_closed H | with_reducible apply State.enqueue_closed H
    | with_reducible apply State.newFid_closed H | with_reducible apply H.ite | with_reducible apply H.when
    | with_reducible apply H.foldl | with_reducible apply H.foldl_on (fun b : _ × State => b.2)
    | with_reducible apply H.foldl_on (fun b : State × _ => b.1)
    | with_reducible apply H.foldl_on (fun b : _ × _ × State => b.2.2)
    | with_reducible apply H.foldl_on (fun b : _ × _ × _ × State => b.2.2.2) | split | dsimp only

theorem State.hostDescriptor_closed (H : Closed Q) {s0 s : State} (h0 : Q s0 s) {d : Nat} :
    Q s0 (State.hostDescriptor s d) := by
  unfold State.hostDescriptor
  try dsimp only
  repeat' first
    | intro _ | with_reducible assumption | with_reducible apply State.setWord_closed H
    | with_reducible apply State.submitFrame_closed H | with_reducible apply H.ite | split | dsimp only

theorem State.hostTx_closed (H : Closed Q) {s0 s : State} (h0 : Q s0 s) {e'0 : Nat} :
    Q s0 (State.hostTx s e'0) := by
  induction e'0 generalizing s with
  | zero =>
    unfold State.hostTx
    try dsimp only
    repeat' first
      | intro _ | with_reducible assumption | with_reducible apply State.hostDescriptor_closed H
      | with_reducible apply State.put_closed H | with_reducible apply H.ite | split | dsimp only
  | succ n ih =>
    unfold State.hostTx
    try dsimp only
    repeat' first
      | intro _ | with_reducible assumption | with_reducible apply ih | with_reducible apply State.hostDescriptor_closed H
      | with_reducible apply State.put_closed H | with_reducible apply H.ite | split | dsimp only

theorem State.hostPoll_closed (H : Closed Q) {s0 s : State} (h0 : Q s0 s)  :
    Q s0 (State.hostPoll s) := by
  unfold State.hostPoll
  try dsimp only
  repeat' first
    | intro _ | with_reducible assumption | with_reducible apply State.hostTx_closed H | with_reducible apply H.ite | split
    | dsimp only

theorem State.htxTail_closed (H : Closed Q) {s0 s : State} (h0 : Q s0 s) {tail : Nat} :
    Q s0 (State.htxTail s tail) := by
  unfold State.htxTail
  try dsimp only
  repeat' first
    | intro _ | with_reducible assumption | with_reducible apply State.hostPoll_closed H
    | with_reducible apply State.put_closed H | dsimp only

theorem State.effPort_closed (H : Closed Q) {s0 s : State} (h0 : Q s0 s) {p : Nat} :
    Q s0 (State.effPort s p) := by
  unfold State.effPort
  try dsimp only
  repeat' first
    | intro _ | with_reducible assumption | with_reducible apply State.put_closed H | dsimp only

theorem State.effAll_closed (H : Closed Q) {s0 s : State} (h0 : Q s0 s)  :
    Q s0 (State.effAll s) := by
  unfold State.effAll
  try dsimp only
  repeat' first
    | intro _ | with_reducible assumption | with_reducible apply State.effPort_closed H | with_reducible apply H.each
    | dsimp only

theorem State.tasNoTime_closed (H : Closed Q) {s0 s : State} (h0 : Q s0 s) {p : Nat} :
    Q s0 (State.tasNoTime s p) := by
  unfold State.tasNoTime
  try dsimp only
  repeat' first
    | intro _ | with_reducible assumption | with_reducible apply State.put_closed H | with_reducible apply State.raise_closed H
    | with_reducible apply H.ite | split | dsimp only

theorem State.tasCommit_closed (H : Closed Q) {s0 s : State} (h0 : Q s0 s) {p : Nat} :
    Q s0 (State.tasCommit s p) := by
  unfold State.tasCommit
  try dsimp only
  repeat' first
    | intro _ | with_reducible assumption | with_reducible apply State.put_closed H | with_reducible apply State.setPh_closed H
    | with_reducible apply State.tasNoTime_closed H | with_reducible apply H.ite | split
    | fail_if_no_progress with_reducible apply H.set | dsimp only

theorem State.tasAll_closed (H : Closed Q) {s0 s : State} (h0 : Q s0 s)  :
    Q s0 (State.tasAll s) := by
  unfold State.tasAll
  try dsimp only
  repeat' first
    | intro _ | with_reducible assumption | with_reducible apply State.tasCommit_closed H | with_reducible apply H.each
    | dsimp only

end Sys2Proof.Machine
end

