-- ==== Sys2Proof/Laws/ClosedStreamRx.lean ====
section
/-! SUPPORT. The relations of Laws/Closed.lean hold across the operations of Machine/StreamRx.lean: one lemma for each. -/

namespace Sys2Proof.Machine

variable {Q : State → State → Prop}

theorem State.setRx_closed (H : Closed Q) {s0 s : State} (h0 : Q s0 s) {n : Nat} {x : RxHid} :
    Q s0 (State.setRx s n x) := by
  unfold State.setRx
  try dsimp only
  repeat' first
    | intro _ | with_reducible assumption | with_reducible apply State.put_closed H
    | fail_if_no_progress with_reducible apply H.set | dsimp only

theorem State.clearBitmap_closed (H : Closed Q) {s0 s : State} (h0 : Q s0 s) {n : Nat} :
    Q s0 (State.clearBitmap s n) := by
  unfold State.clearBitmap
  try dsimp only
  repeat' first
    | intro _ | with_reducible assumption | with_reducible apply State.setBytes_closed H | dsimp only

theorem State.rxEnter_closed (H : Closed Q) {s0 s : State} (h0 : Q s0 s) {n : Nat} {st : Nat} :
    Q s0 (State.rxEnter s n st) := by
  unfold State.rxEnter
  try dsimp only
  repeat' first
    | intro _ | with_reducible assumption | with_reducible apply State.clearBitmap_closed H
    | with_reducible apply State.put_closed H | with_reducible apply State.raise_closed H
    | with_reducible apply State.setRx_closed H | with_reducible apply H.ite | split
    | fail_if_no_progress with_reducible apply H.set | dsimp only

theorem State.dupCount_closed (H : Closed Q) {s0 s : State} (h0 : Q s0 s) {n : Nat} {e'0 : Dup} :
    Q s0 (State.dupCount s n e'0) := by
  cases e'0 <;> unfold State.dupCount <;> (try dsimp only) <;> repeat' first
    | intro _ | with_reducible assumption | with_reducible apply State.bump_closed H
    | with_reducible apply State.raise_closed H | dsimp only

theorem State.dmaWrite_closed (H : Closed Q) {s0 s : State} (h0 : Q s0 s) {a : Nat} {v : Nat} :
    Q s0 (State.dmaWrite s a v) := by
  unfold State.dmaWrite
  try dsimp only
  repeat' first
    | intro _ | with_reducible assumption | with_reducible apply State.denyRecord_closed H
    | with_reducible apply State.setWord_closed H | with_reducible apply H.ite | split | dsimp only

theorem State.writeIndex_closed (H : Closed Q) {s0 s : State} (h0 : Q s0 s) {n : Nat} {x : Nat} {smp : List Int} :
    Q s0 (State.writeIndex s n x smp).2 := by
  unfold State.writeIndex
  try dsimp only
  repeat' first
    | intro _ | with_reducible assumption | with_reducible apply State.denyRecord_closed H
    | with_reducible apply State.dmaWrite_closed H | with_reducible apply State.setByte_closed H | with_reducible apply H.ite
    | with_reducible apply H.foldl | with_reducible apply H.foldl_on (fun b : _ × State => b.2)
    | with_reducible apply H.foldl_on (fun b : State × _ => b.1)
    | with_reducible apply H.foldl_on (fun b : _ × _ × State => b.2.2)
    | with_reducible apply H.foldl_on (fun b : _ × _ × _ × State => b.2.2.2) | split | dsimp only

theorem State.place_closed (H : Closed Q) {s0 s : State} (h0 : Q s0 s) {n : Nat} {ns x : Int} {l : List (List Int)} {p : Placed} :
    Q s0 (s.place n ns x l p).2 := by
  induction l generalizing s x p with
  | nil => exact h0
  | cons a l ih =>
    unfold State.place
    dsimp only
    split
    · exact ih h0
    · split
      · exact ih h0
      · exact ih (State.writeIndex_closed H h0)

theorem State.placedCounts_closed (H : Closed Q) {s0 s : State} (h0 : Q s0 s) {n : Nat} {p : Placed} :
    Q s0 (State.placedCounts s n p) := by
  unfold State.placedCounts
  try dsimp only
  repeat' first
    | intro _ | with_reducible assumption | with_reducible apply State.bump_closed H
    | with_reducible apply State.raise_closed H | with_reducible apply State.rxEnter_closed H
    | with_reducible apply State.setRx_closed H | with_reducible apply H.ite | with_reducible apply H.when | split
    | fail_if_no_progress with_reducible apply H.set | dsimp only

theorem State.convert_closed (H : Closed Q) {s0 s : State} (h0 : Q s0 s) {ch : Nat} {e'0 : Nat} :
    Q s0 (State.convert s ch e'0).2 := by
  induction e'0 generalizing s ch with
  | zero =>
    unfold State.convert
    try dsimp only
    repeat' first
      | intro _ | with_reducible assumption | with_reducible apply State.draw_closed H | with_reducible apply H.foldl
      | with_reducible apply H.foldl_on (fun b : _ × State => b.2) | with_reducible apply H.foldl_on (fun b : State × _ => b.1)
      | with_reducible apply H.foldl_on (fun b : _ × _ × State => b.2.2)
      | with_reducible apply H.foldl_on (fun b : _ × _ × _ × State => b.2.2.2) | dsimp only
  | succ n ih =>
    unfold State.convert
    try dsimp only
    repeat' first
      | intro _ | with_reducible assumption | with_reducible apply ih | with_reducible apply State.draw_closed H
      | with_reducible apply H.foldl | with_reducible apply H.foldl_on (fun b : _ × State => b.2)
      | with_reducible apply H.foldl_on (fun b : State × _ => b.1)
      | with_reducible apply H.foldl_on (fun b : _ × _ × State => b.2.2)
      | with_reducible apply H.foldl_on (fun b : _ × _ × _ × State => b.2.2.2) | dsimp only

theorem State.acceptPacket_closed (H : Closed Q) {s0 s : State} (h0 : Q s0 s) {n : Nat} {arr : Int} {x : Int × Nat} {seq space : Nat}
    {smp : List (List Int)} : Q s0 (s.acceptPacket n arr x seq space smp) := by
  unfold State.acceptPacket
  extract_lets rate old g0 fin span src t r c q
  have ht : Q s0 t := State.setRx_closed H h0
  clear_value t
  have hr : Q s0 r.2 := State.place_closed H ht
  have hc : Q s0 c.2 := State.convert_closed H ht
  have hq : Q s0 q.2 := State.place_closed H hc
  clear_value r q
  split
  · exact State.placedCounts_closed H hr
  · split
    · exact State.placedCounts_closed H hq
    · exact ht

theorem State.aafPacket_closed (H : Closed Q) {s0 s : State} (h0 : Q s0 s) {n : Nat} {p : AvtpPacket} :
    Q s0 (State.aafPacket s n p) := by
  unfold State.aafPacket
  try dsimp only
  repeat' first
    | intro _ | with_reducible assumption | with_reducible apply State.acceptPacket_closed H
    | with_reducible apply State.bump_closed H | with_reducible apply State.dupCount_closed H
    | with_reducible apply State.setRx_closed H | with_reducible apply H.ite | split
    | fail_if_no_progress with_reducible apply H.set | dsimp only

theorem State.rtpPacket_closed (H : Closed Q) {s0 s : State} (h0 : Q s0 s) {n : Nat} {p : RtpPacket} :
    Q s0 (State.rtpPacket s n p) := by
  unfold State.rtpPacket
  try dsimp only
  repeat' first
    | intro _ | with_reducible assumption | with_reducible apply State.acceptPacket_closed H
    | with_reducible apply State.bump_closed H | with_reducible apply State.dupCount_closed H
    | with_reducible apply State.setRx_closed H | with_reducible apply H.ite | split | dsimp only

theorem State.crfLock_closed (H : Closed Q) {s0 s : State} (h0 : Q s0 s) {k : Nat} {on : Bool} :
    Q s0 (State.crfLock s k on) := by
  unfold State.crfLock
  try dsimp only
  repeat' first
    | intro _ | with_reducible assumption | with_reducible apply State.putBit_closed H
    | with_reducible apply State.raise_closed H | with_reducible apply H.ite | split | dsimp only

theorem State.setRef_closed (H : Closed Q) {s0 s : State} (h0 : Q s0 s) {n : Nat} {x : RefHid} :
    Q s0 (State.setRef s n x) := by
  unfold State.setRef
  try dsimp only
  repeat' first
    | intro _ | with_reducible assumption | with_reducible apply State.put_closed H
    | fail_if_no_progress with_reducible apply H.set | dsimp only

theorem State.refOffer_closed (H : Closed Q) {s0 s : State} (h0 : Q s0 s) {src : Nat} {offset : Int} :
    Q s0 (State.refOffer s src offset) := by
  unfold State.refOffer
  try dsimp only
  repeat' first
    | intro _ | with_reducible assumption | with_reducible apply State.setRef_closed H | with_reducible apply H.ite
    | with_reducible apply H.each | split | fail_if_no_progress with_reducible apply H.set | dsimp only

theorem State.crfStamp_closed (H : Closed Q) {s0 s : State} (h0 : Q s0 s) {n : Nat} {interval : Nat} {ts : Nat} :
    Q s0 (State.crfStamp s n interval ts) := by
  unfold State.crfStamp
  try dsimp only
  repeat' first
    | intro _ | with_reducible assumption | with_reducible apply State.crfLock_closed H
    | with_reducible apply State.put_closed H | with_reducible apply State.refOffer_closed H
    | with_reducible apply State.setRx_closed H | with_reducible apply H.ite | split
    | fail_if_no_progress with_reducible apply H.set | dsimp only

theorem State.crfTake_closed (H : Closed Q) {s0 s : State} (h0 : Q s0 s) {n : Nat} {p : CrfPdu} :
    Q s0 (State.crfTake s n p) := by
  unfold State.crfTake
  try dsimp only
  repeat' first
    | intro _ | with_reducible assumption | with_reducible apply State.bump_closed H
    | with_reducible apply State.crfStamp_closed H | with_reducible apply State.rxEnter_closed H
    | with_reducible apply State.setRx_closed H | with_reducible apply H.foldl
    | with_reducible apply H.foldl_on (fun b : _ × State => b.2) | with_reducible apply H.foldl_on (fun b : State × _ => b.1)
    | with_reducible apply H.foldl_on (fun b : _ × _ × State => b.2.2)
    | with_reducible apply H.foldl_on (fun b : _ × _ × _ × State => b.2.2.2) | fail_if_no_progress with_reducible apply H.set
    | dsimp only

theorem State.rxIdleTick_closed (H : Closed Q) {s0 s : State} (h0 : Q s0 s)  :
    Q s0 (State.rxIdleTick s) := by
  unfold State.rxIdleTick
  try dsimp only
  repeat' first
    | intro _ | with_reducible assumption | with_reducible apply H.ite | split | fail_if_no_progress with_reducible apply H.set
    | dsimp only

theorem State.nonAudioEntry_closed (H : Closed Q) {s0 s : State} (h0 : Q s0 s) {T : Nat} {n : Nat} :
    Q s0 (State.nonAudioEntry s T n) := by
  unfold State.nonAudioEntry
  try dsimp only
  repeat' first
    | intro _ | with_reducible assumption | with_reducible apply State.put_closed H | with_reducible apply State.raise_closed H
    | with_reducible apply State.setRx_closed H | with_reducible apply H.ite | with_reducible apply H.foldl
    | with_reducible apply H.foldl_on (fun b : _ × State => b.2) | with_reducible apply H.foldl_on (fun b : State × _ => b.1)
    | with_reducible apply H.foldl_on (fun b : _ × _ × State => b.2.2)
    | with_reducible apply H.foldl_on (fun b : _ × _ × _ × State => b.2.2.2) | split
    | fail_if_no_progress with_reducible apply H.set | dsimp only

theorem State.underrunEntry_closed (H : Closed Q) {s0 s : State} (h0 : Q s0 s) {T : Nat} {n : Nat} :
    Q s0 (State.underrunEntry s T n) := by
  unfold State.underrunEntry
  try dsimp only
  repeat' first
    | intro _ | with_reducible assumption | with_reducible apply State.bump_closed H
    | with_reducible apply State.bumpBy_closed H | with_reducible apply State.raise_closed H
    | with_reducible apply State.setRx_closed H | with_reducible apply H.ite | split
    | fail_if_no_progress with_reducible apply H.set | dsimp only

theorem State.clearValidTick_closed (H : Closed Q) {s0 s : State} (h0 : Q s0 s) {T : Nat} :
    Q s0 (State.clearValidTick s T) := by
  unfold State.clearValidTick
  try dsimp only
  repeat' first
    | intro _ | with_reducible assumption | with_reducible apply State.setByte_closed H | with_reducible apply H.foldl
    | with_reducible apply H.foldl_on (fun b : _ × State => b.2) | with_reducible apply H.foldl_on (fun b : State × _ => b.1)
    | with_reducible apply H.foldl_on (fun b : _ × _ × State => b.2.2)
    | with_reducible apply H.foldl_on (fun b : _ × _ × _ × State => b.2.2.2) | dsimp only

end Sys2Proof.Machine
end

