-- ==== Sys2Proof/Laws/ClosedSerial.lean ====
section
/-! SUPPORT. The relations of Laws/Closed.lean hold across the operations of Machine/Serial.lean: one lemma for each. -/

namespace Sys2Proof.Machine

variable {Q : State → State → Prop}

theorem State.setSp_closed (H : Closed Q) {s0 s : State} (h0 : Q s0 s) {p : Nat} {x : SpHid} :
    Q s0 (State.setSp s p x) := by
  unfold State.setSp
  try dsimp only
  repeat' first
    | intro _ | with_reducible assumption | with_reducible apply State.put_closed H
    | fail_if_no_progress with_reducible apply H.set | dsimp only

theorem State.setSi_closed (H : Closed Q) {s0 s : State} (h0 : Q s0 s) {p : Nat} {k : Nat} {x : SiPair} :
    Q s0 (State.setSi s p k x) := by
  unfold State.setSi
  try dsimp only
  repeat' first
    | intro _ | with_reducible assumption | with_reducible apply State.put_closed H
    | fail_if_no_progress with_reducible apply H.set | dsimp only

theorem State.spRefresh_closed (H : Closed Q) {s0 s : State} (h0 : Q s0 s) {p : Nat} :
    Q s0 (State.spRefresh s p) := by
  unfold State.spRefresh
  try dsimp only
  repeat' first
    | intro _ | with_reducible assumption | with_reducible apply State.bump_closed H | with_reducible apply State.put_closed H
    | with_reducible apply State.raise_closed H | with_reducible apply State.setSp_closed H | with_reducible apply H.ite
    | split | fail_if_no_progress with_reducible apply H.set | dsimp only

theorem State.spRefreshAll_closed (H : Closed Q) {s0 s : State} (h0 : Q s0 s)  :
    Q s0 (State.spRefreshAll s) := by
  unfold State.spRefreshAll
  try dsimp only
  repeat' first
    | intro _ | with_reducible assumption | with_reducible apply State.spRefresh_closed H | with_reducible apply H.each
    | dsimp only

theorem State.spStore_closed (H : Closed Q) {s0 s : State} (h0 : Q s0 s) {p : Nat} {x : Nat} {k : Nat} {v : Int} :
    Q s0 (State.spStore s p x k v) := by
  unfold State.spStore
  try dsimp only
  repeat' first
    | intro _ | with_reducible assumption | with_reducible apply State.denyRecord_closed H
    | with_reducible apply State.setWord_closed H | with_reducible apply H.ite | split | dsimp only

theorem State.spOutStore_closed (H : Closed Q) {s0 s : State} (h0 : Q s0 s) {p : Nat} {x : Nat} {k : Nat} {v : Int} :
    Q s0 (State.spOutStore s p x k v) := by
  unfold State.spOutStore
  try dsimp only
  repeat' first
    | intro _ | with_reducible assumption | with_reducible apply State.setWord_closed H | dsimp only

theorem State.dmaTake_closed (H : Closed Q) {s0 s : State} (h0 : Q s0 s) {a : Nat} :
    Q s0 (State.dmaTake s a).2 := by
  unfold State.dmaTake
  try dsimp only
  repeat' first
    | intro _ | with_reducible assumption | with_reducible apply State.denyRecord_closed H | with_reducible apply H.ite | split
    | dsimp only

theorem State.asrcLockShow_closed (H : Closed Q) {s0 s : State} (h0 : Q s0 s) {n : Nat} :
    Q s0 (State.asrcLockShow s n) := by
  unfold State.asrcLockShow
  try dsimp only
  repeat' first
    | intro _ | with_reducible assumption | with_reducible apply State.put_closed H | dsimp only

theorem State.asrcSet_closed (H : Closed Q) {s0 s : State} (h0 : Q s0 s) {g : Nat} {on : Bool} :
    Q s0 (State.asrcSet s g on) := by
  unfold State.asrcSet
  try dsimp only
  repeat' first
    | intro _ | with_reducible assumption | with_reducible apply State.asrcLockShow_closed H
    | with_reducible apply State.bump_closed H | with_reducible apply State.put_closed H
    | with_reducible apply State.putBit_closed H | with_reducible apply State.raise_closed H | with_reducible apply H.ite
    | with_reducible apply H.each | split | fail_if_no_progress with_reducible apply H.set | dsimp only

theorem State.asrcFixed_closed (H : Closed Q) {s0 s : State} (h0 : Q s0 s)  :
    Q s0 (State.asrcFixed s) := by
  unfold State.asrcFixed
  try dsimp only
  repeat' first
    | intro _ | with_reducible assumption | with_reducible apply State.asrcSet_closed H
    | with_reducible apply State.put_closed H | with_reducible apply H.ite | with_reducible apply H.each | split | dsimp only

theorem State.asrcCommit_closed (H : Closed Q) {s0 s : State} (h0 : Q s0 s) {old : State} :
    Q s0 (State.asrcCommit s old) := by
  unfold State.asrcCommit
  try dsimp only
  repeat' first
    | intro _ | with_reducible assumption | with_reducible apply State.asrcFixed_closed H
    | with_reducible apply State.asrcSet_closed H | with_reducible apply State.put_closed H | with_reducible apply H.ite
    | with_reducible apply H.each | split | dsimp only

theorem State.asrcAllUnlock_closed (H : Closed Q) {s0 s : State} (h0 : Q s0 s)  :
    Q s0 (State.asrcAllUnlock s) := by
  unfold State.asrcAllUnlock
  try dsimp only
  repeat' first
    | intro _ | with_reducible assumption | with_reducible apply State.asrcSet_closed H | with_reducible apply H.each
    | dsimp only

theorem State.spLose_closed (H : Closed Q) {s0 s : State} (h0 : Q s0 s) {p : Nat} :
    Q s0 (State.spLose s p) := by
  unfold State.spLose
  try dsimp only
  repeat' first
    | intro _ | with_reducible assumption | with_reducible apply State.put_closed H | with_reducible apply State.setSp_closed H
    | with_reducible apply State.spRefresh_closed H | with_reducible apply H.ite | split
    | fail_if_no_progress with_reducible apply H.set | dsimp only

theorem State.spGroupsLose_closed (H : Closed Q) {s0 s : State} (h0 : Q s0 s) {p : Nat} :
    Q s0 (State.spGroupsLose s p) := by
  unfold State.spGroupsLose
  try dsimp only
  repeat' first
    | intro _ | with_reducible assumption | with_reducible apply State.asrcSet_closed H | with_reducible apply H.ite
    | with_reducible apply H.each | split | dsimp only

theorem State.spPllmGates_closed (H : Closed Q) {s0 s : State} (h0 : Q s0 s)  :
    Q s0 (State.spPllmGates s) := by
  unfold State.spPllmGates
  try dsimp only
  repeat' first
    | intro _ | with_reducible assumption | with_reducible apply State.setSp_closed H
    | with_reducible apply State.spLose_closed H | with_reducible apply H.ite | with_reducible apply H.each | split
    | fail_if_no_progress with_reducible apply H.set | dsimp only

theorem State.spPllmUngates_closed (H : Closed Q) {s0 s : State} (h0 : Q s0 s)  :
    Q s0 (State.spPllmUngates s) := by
  unfold State.spPllmUngates
  try dsimp only
  repeat' first
    | intro _ | with_reducible assumption | with_reducible apply State.setSp_closed H
    | with_reducible apply State.spRefresh_closed H | with_reducible apply H.ite | with_reducible apply H.each | split
    | fail_if_no_progress with_reducible apply H.set | dsimp only

theorem State.spGoverned_closed (H : Closed Q) {s0 s : State} (h0 : Q s0 s) {p : Nat} {began : Nat} :
    Q s0 (State.spGoverned s p began) := by
  unfold State.spGoverned
  try dsimp only
  repeat' first
    | intro _ | with_reducible assumption | with_reducible apply State.raise_closed H
    | with_reducible apply State.setSp_closed H | with_reducible apply H.ite | split
    | fail_if_no_progress with_reducible apply H.set | dsimp only

theorem State.siSlot_closed (H : Closed Q) {s0 s : State} (h0 : Q s0 s) {p : Nat} {c : Nat} {w : Nat} :
    Q s0 (State.siSlot s p c w).2 := by
  unfold State.siSlot
  try dsimp only
  repeat' first
    | intro _ | with_reducible assumption | with_reducible apply State.bump_closed H | with_reducible apply State.put_closed H
    | with_reducible apply State.raise_closed H | with_reducible apply State.setSp_closed H | with_reducible apply H.ite
    | split | fail_if_no_progress with_reducible apply H.set | dsimp only

theorem State.siStoreBlock_closed (H : Closed Q) {s0 s : State} (h0 : Q s0 s) {p : Nat} {k : Nat} {x : SiPair} :
    Q s0 (State.siStoreBlock s p k x) := by
  unfold State.siStoreBlock
  try dsimp only
  repeat' first
    | intro _ | with_reducible assumption | with_reducible apply State.put_closed H
    | with_reducible apply State.putBit_closed H | with_reducible apply State.raise_closed H
    | with_reducible apply State.setSi_closed H | with_reducible apply H.ite | with_reducible apply H.each | split
    | fail_if_no_progress with_reducible apply H.set | dsimp only

theorem State.siCollect_closed (H : Closed Q) {s0 s : State} (h0 : Q s0 s) {p : Nat} {k : Nat} {a : Nat} {b : Nat} :
    Q s0 (State.siCollect s p k a b) := by
  unfold State.siCollect
  try dsimp only
  repeat' first
    | intro _ | with_reducible assumption | with_reducible apply State.bump_closed H
    | with_reducible apply State.setSi_closed H | with_reducible apply State.siStoreBlock_closed H | with_reducible apply H.ite
    | split | fail_if_no_progress with_reducible apply H.set | dsimp only

theorem State.siFrame_closed (H : Closed Q) {s0 s : State} (h0 : Q s0 s) {p : Nat} {slots : List Nat} {ws : List Word} :
    Q s0 (State.siFrame s p slots ws) := by
  unfold State.siFrame
  try dsimp only
  repeat' first
    | intro _ | with_reducible assumption | with_reducible apply State.siCollect_closed H | with_reducible apply H.ite
    | with_reducible apply H.foldl | with_reducible apply H.foldl_on (fun b : _ × State => b.2)
    | with_reducible apply H.foldl_on (fun b : State × _ => b.1)
    | with_reducible apply H.foldl_on (fun b : _ × _ × State => b.2.2)
    | with_reducible apply H.foldl_on (fun b : _ × _ × _ × State => b.2.2.2) | split | dsimp only

theorem State.siMute_closed (H : Closed Q) {s0 s : State} (h0 : Q s0 s) {p : Nat} {k : Nat} {n : Nat} :
    Q s0 (State.siMute s p k n) := by
  unfold State.siMute
  try dsimp only
  repeat' first
    | intro _ | with_reducible assumption | with_reducible apply State.putBit_closed H
    | with_reducible apply State.setSi_closed H | fail_if_no_progress with_reducible apply H.set | dsimp only

theorem State.siTick_closed (H : Closed Q) {s0 s : State} (h0 : Q s0 s) {p : Nat} {k : Nat} {tick : Nat} :
    Q s0 (State.siTick s p k tick) := by
  unfold State.siTick
  try dsimp only
  repeat' first
    | intro _ | with_reducible assumption | with_reducible apply State.setSi_closed H | with_reducible apply H.ite | split
    | fail_if_no_progress with_reducible apply H.set | dsimp only

theorem State.siEnd_closed (H : Closed Q) {s0 s : State} (h0 : Q s0 s) {p : Nat} {k : Nat} {x : Nat} :
    Q s0 (State.siEnd s p k x) := by
  unfold State.siEnd
  try dsimp only
  repeat' first
    | intro _ | with_reducible assumption | with_reducible apply State.setSi_closed H
    | with_reducible apply State.siMute_closed H | with_reducible apply H.ite | split
    | fail_if_no_progress with_reducible apply H.set | dsimp only

theorem State.siEndAll_closed (H : Closed Q) {s0 s : State} (h0 : Q s0 s) {p : Nat} {began : Nat} :
    Q s0 (State.siEndAll s p began) := by
  unfold State.siEndAll
  try dsimp only
  repeat' first
    | intro _ | with_reducible assumption | with_reducible apply State.siEnd_closed H
    | with_reducible apply State.siTick_closed H | with_reducible apply H.ite | with_reducible apply H.each | split
    | dsimp only

theorem State.siDetect_closed (H : Closed Q) {s0 s : State} (h0 : Q s0 s) {p : Nat} {k : Nat} {present : Bool} {pre : Bool} :
    Q s0 (State.siDetect s p k present pre) := by
  unfold State.siDetect
  try dsimp only
  repeat' first
    | intro _ | with_reducible assumption | with_reducible apply State.raise_closed H
    | with_reducible apply State.siMute_closed H | with_reducible apply H.ite | split | dsimp only

theorem State.siPortSide_closed (H : Closed Q) {s0 s : State} (h0 : Q s0 s) {p : Nat} {f : SpFrame} {slots : List Nat} :
    Q s0 (State.siPortSide s p f slots) := by
  unfold State.siPortSide
  try dsimp only
  repeat' first
    | intro _ | with_reducible assumption | with_reducible apply State.siDetect_closed H
    | with_reducible apply State.siTick_closed H | with_reducible apply H.ite | with_reducible apply H.foldl
    | with_reducible apply H.foldl_on (fun b : _ × State => b.2) | with_reducible apply H.foldl_on (fun b : State × _ => b.1)
    | with_reducible apply H.foldl_on (fun b : _ × _ × State => b.2.2)
    | with_reducible apply H.foldl_on (fun b : _ × _ × _ × State => b.2.2.2) | split | dsimp only

theorem State.siHidden_closed (H : Closed Q) {s0 s : State} (h0 : Q s0 s) {p : Nat} {f : SpFrame} {slots : List Nat} :
    Q s0 (State.siHidden s p f slots) := by
  unfold State.siHidden
  try dsimp only
  repeat' first
    | intro _ | with_reducible assumption | with_reducible apply H.ite | split | fail_if_no_progress with_reducible apply H.set
    | dsimp only

theorem State.spWrite_closed (H : Closed Q) {s0 s : State} (h0 : Q s0 s) {p : Nat} {f : SpFrame} {slots : List Nat} :
    Q s0 (State.spWrite s p f slots) := by
  unfold State.spWrite
  try dsimp only
  repeat' first
    | intro _ | with_reducible assumption | with_reducible apply State.draw_closed H
    | with_reducible apply State.siHidden_closed H | with_reducible apply State.siPortSide_closed H
    | with_reducible apply State.siSlot_closed H | with_reducible apply State.spStore_closed H | with_reducible apply H.ite
    | with_reducible apply H.each | with_reducible apply H.foldl | with_reducible apply H.foldl_on (fun b : _ × State => b.2)
    | with_reducible apply H.foldl_on (fun b : State × _ => b.1)
    | with_reducible apply H.foldl_on (fun b : _ × _ × State => b.2.2)
    | with_reducible apply H.foldl_on (fun b : _ × _ × _ × State => b.2.2.2) | split | dsimp only

theorem State.spOverrun_closed (H : Closed Q) {s0 s : State} (h0 : Q s0 s) {p : Nat} :
    Q s0 (State.spOverrun s p) := by
  unfold State.spOverrun
  try dsimp only
  repeat' first
    | intro _ | with_reducible assumption | with_reducible apply State.bump_closed H | with_reducible apply State.put_closed H
    | with_reducible apply State.raise_closed H | with_reducible apply State.setSp_closed H | with_reducible apply H.ite
    | split | fail_if_no_progress with_reducible apply H.set | dsimp only

theorem State.spTake_closed (H : Closed Q) {s0 s : State} (h0 : Q s0 s) {f : SpFrame} :
    Q s0 (State.spTake s f) := by
  unfold State.spTake
  try dsimp only
  repeat' first
    | intro _ | with_reducible assumption | with_reducible apply State.put_closed H | with_reducible apply State.setSp_closed H
    | with_reducible apply State.siFrame_closed H | with_reducible apply State.spOverrun_closed H
    | with_reducible apply State.spWrite_closed H | with_reducible apply H.ite | split
    | fail_if_no_progress with_reducible apply H.set | dsimp only

theorem State.spFrameIn_closed (H : Closed Q) {s0 s : State} (h0 : Q s0 s) {f : SpFrame} :
    Q s0 (State.spFrameIn s f) := by
  unfold State.spFrameIn
  try dsimp only
  repeat' first
    | intro _ | with_reducible assumption | with_reducible apply State.bump_closed H | with_reducible apply State.put_closed H
    | with_reducible apply State.setSp_closed H | with_reducible apply State.siEndAll_closed H
    | with_reducible apply State.spGoverned_closed H | with_reducible apply State.spTake_closed H | with_reducible apply H.ite
    | split | fail_if_no_progress with_reducible apply H.set | dsimp only

theorem State.spOutVals_closed (H : Closed Q) {s0 s : State} (h0 : Q s0 s) {p : Nat} {idx : Nat} {slots : List Nat} :
    Q s0 (State.spOutVals s p idx slots).2 := by
  unfold State.spOutVals
  try dsimp only
  repeat' first
    | intro _ | with_reducible assumption | with_reducible apply State.dmaTake_closed H
    | with_reducible apply State.draw_closed H | with_reducible apply H.ite | with_reducible apply H.foldl
    | with_reducible apply H.foldl_on (fun b : _ × State => b.2) | with_reducible apply H.foldl_on (fun b : State × _ => b.1)
    | with_reducible apply H.foldl_on (fun b : _ × _ × State => b.2.2)
    | with_reducible apply H.foldl_on (fun b : _ × _ × _ × State => b.2.2.2) | split | dsimp only

theorem State.spUnderrun_closed (H : Closed Q) {s0 s : State} (h0 : Q s0 s) {p : Nat} :
    Q s0 (State.spUnderrun s p) := by
  unfold State.spUnderrun
  try dsimp only
  repeat' first
    | intro _ | with_reducible assumption | with_reducible apply State.bump_closed H | with_reducible apply State.put_closed H
    | with_reducible apply State.raise_closed H | with_reducible apply State.setSp_closed H | with_reducible apply H.ite
    | split | fail_if_no_progress with_reducible apply H.set | dsimp only

theorem State.spFrameOut_closed (H : Closed Q) {s0 s : State} (h0 : Q s0 s) {p : Nat} {idx : Nat} :
    Q s0 (State.spFrameOut s p idx) := by
  unfold State.spFrameOut
  try dsimp only
  repeat' first
    | intro _ | with_reducible assumption | with_reducible apply State.dmaTake_closed H
    | with_reducible apply State.send_closed H | with_reducible apply State.setSp_closed H
    | with_reducible apply State.setWord_closed H | with_reducible apply State.spGoverned_closed H
    | with_reducible apply State.spOutVals_closed H | with_reducible apply State.spUnderrun_closed H
    | with_reducible apply H.ite | split | fail_if_no_progress with_reducible apply H.set | dsimp only

theorem State.spMissTick_closed (H : Closed Q) {s0 s : State} (h0 : Q s0 s) {T : Nat} {p : Nat} :
    Q s0 (State.spMissTick s T p) := by
  unfold State.spMissTick
  try dsimp only
  repeat' first
    | intro _ | with_reducible assumption | with_reducible apply State.bump_closed H
    | with_reducible apply State.bumpBy_closed H | with_reducible apply H.ite | split | dsimp only

theorem State.spNonAudio_closed (H : Closed Q) {s0 s : State} (h0 : Q s0 s) {T : Nat} {p : Nat} :
    Q s0 (State.spNonAudio s T p) := by
  unfold State.spNonAudio
  try dsimp only
  repeat' first
    | intro _ | with_reducible assumption | with_reducible apply State.siDetect_closed H
    | with_reducible apply State.siEnd_closed H | with_reducible apply State.siTick_closed H | with_reducible apply H.ite
    | with_reducible apply H.each | with_reducible apply H.foldl | with_reducible apply H.foldl_on (fun b : _ × State => b.2)
    | with_reducible apply H.foldl_on (fun b : State × _ => b.1)
    | with_reducible apply H.foldl_on (fun b : _ × _ × State => b.2.2)
    | with_reducible apply H.foldl_on (fun b : _ × _ × _ × State => b.2.2.2) | split | dsimp only

theorem State.spClearTick_closed (H : Closed Q) {s0 s : State} (h0 : Q s0 s) {T : Nat} :
    Q s0 (State.spClearTick s T) := by
  unfold State.spClearTick
  try dsimp only
  repeat' first
    | intro _ | with_reducible assumption | with_reducible apply State.setWord_closed H | with_reducible apply H.ite
    | with_reducible apply H.each | split | fail_if_no_progress with_reducible apply H.set | dsimp only

theorem State.spCommit_closed (H : Closed Q) {s0 s : State} (h0 : Q s0 s) {old : State} {p : Nat} :
    Q s0 (State.spCommit s old p) := by
  unfold State.spCommit
  try dsimp only
  repeat' first
    | intro _ | with_reducible assumption | with_reducible apply State.put_closed H | with_reducible apply State.setSi_closed H
    | with_reducible apply State.setSp_closed H | with_reducible apply State.siMute_closed H
    | with_reducible apply State.spRefresh_closed H | with_reducible apply H.ite | with_reducible apply H.each | split
    | fail_if_no_progress with_reducible apply H.set | dsimp only

theorem State.spEpoch_closed (H : Closed Q) {s0 s : State} (h0 : Q s0 s) {by8 : Int} :
    Q s0 (State.spEpoch s by8) := by
  unfold State.spEpoch
  try dsimp only
  repeat' first
    | intro _ | with_reducible assumption | with_reducible apply State.setSp_closed H | with_reducible apply H.each
    | fail_if_no_progress with_reducible apply H.set | dsimp only

theorem State.spCommitAll_closed (H : Closed Q) {s0 s : State} (h0 : Q s0 s) {old : State} :
    Q s0 (State.spCommitAll s old) := by
  unfold State.spCommitAll
  try dsimp only
  repeat' first
    | intro _ | with_reducible assumption | with_reducible apply State.spCommit_closed H | with_reducible apply H.each
    | dsimp only

end Sys2Proof.Machine
end

