-- ==== Sys2Proof/Laws/ClosedAdmission.lean ====
section
/-! SUPPORT. The relations of Laws/Closed.lean hold across the operations of Machine/Admission.lean: one lemma for each. -/

namespace Sys2Proof.Machine

variable {Q : State → State → Prop}

theorem State.passPort_closed (H : Closed Q) {s0 : State} {x : Pass × State} (h0 : Q s0 x.2) {n : Nat} : Q s0 (State.passPort x n).2 := by
  unfold State.passPort
  try dsimp only
  repeat' first
    | with_reducible assumption | with_reducible apply State.put_closed H | with_reducible apply State.bump_closed H
    | with_reducible apply State.raise_closed H | with_reducible apply State.setSp_closed H
    | with_reducible apply State.rxRefuse_closed H | with_reducible apply State.txRefuse_closed H
    | with_reducible apply State.rxEnter_closed H | with_reducible apply State.setRx_closed H
    | with_reducible apply State.txBegin_closed H | with_reducible apply State.txTakeRole_closed H
    | with_reducible apply State.nonAudioOff_closed H | split | fail_if_no_progress with_reducible apply H.set | dsimp only

theorem State.rxRefuse_closed (H : Closed Q) {s0 s : State} (h0 : Q s0 s) {n : Nat} {reason : Nat} :
    Q s0 (State.rxRefuse s n reason) := by
  unfold State.rxRefuse
  try dsimp only
  repeat' first
    | intro _ | with_reducible assumption | with_reducible apply State.put_closed H | with_reducible apply State.raise_closed H
    | dsimp only

theorem State.nonAudioOff_closed (H : Closed Q) {s0 s : State} (h0 : Q s0 s) {n : Nat} :
    Q s0 (State.nonAudioOff s n) := by
  unfold State.nonAudioOff
  try dsimp only
  repeat' first
    | intro _ | with_reducible assumption | with_reducible apply State.put_closed H | with_reducible apply State.setRx_closed H
    | with_reducible apply H.ite | split | fail_if_no_progress with_reducible apply H.set | dsimp only

theorem State.passRx_closed (H : Closed Q) {s0 : State} {x : (Pass × List Nat) × State} (h0 : Q s0 x.2) {n : Nat} : Q s0 (State.passRx x n).2 := by
  unfold State.passRx
  try dsimp only
  repeat' first
    | with_reducible assumption | with_reducible apply State.put_closed H | with_reducible apply State.bump_closed H
    | with_reducible apply State.raise_closed H | with_reducible apply State.setSp_closed H
    | with_reducible apply State.rxRefuse_closed H | with_reducible apply State.txRefuse_closed H
    | with_reducible apply State.rxEnter_closed H | with_reducible apply State.setRx_closed H
    | with_reducible apply State.txBegin_closed H | with_reducible apply State.txTakeRole_closed H
    | with_reducible apply State.nonAudioOff_closed H | split | fail_if_no_progress with_reducible apply H.set | dsimp only

theorem State.ringTake_closed (H : Closed Q) {s0 s : State} (h0 : Q s0 s) {old : State} {r : Nat × Nat × Nat} :
    Q s0 (State.ringTake s old r) := by
  unfold State.ringTake
  try dsimp only
  repeat' first
    | intro _ | with_reducible assumption | with_reducible apply State.put_closed H
    | with_reducible apply State.rxEnter_closed H | with_reducible apply H.ite | split | dsimp only

theorem State.txRefuse_closed (H : Closed Q) {s0 s : State} (h0 : Q s0 s) {n : Nat} {r : Nat × Nat} :
    Q s0 (State.txRefuse s n r) := by
  unfold State.txRefuse
  try dsimp only
  repeat' first
    | intro _ | with_reducible assumption | with_reducible apply State.put_closed H | with_reducible apply State.raise_closed H
    | dsimp only

theorem State.txBegin_closed (H : Closed Q) {s0 s : State} (h0 : Q s0 s) {n : Nat} :
    Q s0 (State.txBegin s n) := by
  unfold State.txBegin
  try dsimp only
  repeat' first
    | intro _ | with_reducible assumption | with_reducible apply State.put_closed H
    | fail_if_no_progress with_reducible apply H.set | dsimp only

theorem State.txTakeRole_closed (H : Closed Q) {s0 s : State} (h0 : Q s0 s) {n : Nat} :
    Q s0 (State.txTakeRole s n) := by
  unfold State.txTakeRole
  try dsimp only
  repeat' first
    | intro _ | with_reducible assumption | with_reducible apply State.put_closed H
    | with_reducible apply State.txBegin_closed H | with_reducible apply H.when | dsimp only

theorem State.passTx_closed (H : Closed Q) {s0 : State} {x : Pass × State} (h0 : Q s0 x.2) {n : Nat} : Q s0 (State.passTx x n).2 := by
  unfold State.passTx
  try dsimp only
  repeat' first
    | with_reducible assumption | with_reducible apply State.put_closed H | with_reducible apply State.bump_closed H
    | with_reducible apply State.raise_closed H | with_reducible apply State.setSp_closed H
    | with_reducible apply State.rxRefuse_closed H | with_reducible apply State.txRefuse_closed H
    | with_reducible apply State.rxEnter_closed H | with_reducible apply State.setRx_closed H
    | with_reducible apply State.txBegin_closed H | with_reducible apply State.txTakeRole_closed H
    | with_reducible apply State.nonAudioOff_closed H | split | fail_if_no_progress with_reducible apply H.set | dsimp only

theorem State.passPorts_closed (H : Closed Q) {s0 s : State} (h0 : Q s0 s) : Q s0 s.passPorts.2 :=
  H.foldl_snd (b := (Pass.init, s)) (f := State.passPort) (l := List.range 8) h0 fun _ _ h => State.passPort_closed H h

theorem State.passRxAll_closed (H : Closed Q) {s0 : State} {x : Pass × State} (h0 : Q s0 x.2) : Q s0 (State.passRxAll x).2 :=
  H.foldl_snd (b := ((x.1, []), x.2)) (f := State.passRx) (l := List.range 512) h0 fun _ _ h => State.passRx_closed H h

theorem State.passTxAll_closed (H : Closed Q) {s0 : State} {x : (Pass × List Nat) × State} (h0 : Q s0 x.2) :
    Q s0 (State.passTxAll x).2 :=
  H.foldl_snd (b := (x.1.1, x.2)) (f := State.passTx) (l := List.range 512) h0 fun _ _ h => State.passTx_closed H h

theorem State.admission_closed (H : Closed Q) {s0 s : State} (h0 : Q s0 s) {old : State} : Q s0 (s.admission old) := by
  have hc : Q s0 (State.passTxAll (State.passRxAll s.passPorts)).2 :=
    State.passTxAll_closed H (State.passRxAll_closed H (State.passPorts_closed H h0))
  unfold State.admission
  dsimp only
  repeat' first
    | intro _ | with_reducible assumption | with_reducible apply State.put_closed H
    | with_reducible apply State.ringTake_closed H | with_reducible apply State.spRefreshAll_closed H
    | with_reducible apply State.asrcLockShow_closed H | with_reducible apply H.ite | with_reducible apply H.each
    | with_reducible apply H.foldl | fail_if_no_progress with_reducible apply H.set | dsimp only

theorem State.txStates_closed (H : Closed Q) {s0 s : State} (h0 : Q s0 s)  :
    Q s0 (State.txStates s) := by
  unfold State.txStates
  try dsimp only
  repeat' first
    | intro _ | with_reducible assumption | with_reducible apply State.txTakeRole_closed H | with_reducible apply H.ite
    | with_reducible apply H.each | split | dsimp only

theorem State.setTxSample_closed (H : Closed Q) {s0 s : State} (h0 : Q s0 s) {c : Nat} {x : Nat} {v : Int} :
    Q s0 (State.setTxSample s c x v) := by
  unfold State.setTxSample
  try dsimp only
  repeat' first
    | intro _ | with_reducible assumption | with_reducible apply State.put_closed H
    | fail_if_no_progress with_reducible apply H.set | dsimp only

theorem State.handOver_closed (H : Closed Q) {s0 s : State} (h0 : Q s0 s) {mask tc len : Nat} {w : Nat → Wire} :
    Q s0 (s.handOver mask tc len w).2.2 := by
  unfold State.handOver
  dsimp only
  exact H.foldl_on (fun b : Bool × Nat × State => b.2.2) (State.newFid_closed H h0) fun _ _ h => State.enqueue_closed H h

theorem State.txSend_closed (H : Closed Q) {s0 s : State} (h0 : Q s0 s) {n : Nat} {s0' : Nat} :
    Q s0 (State.txSend s n s0') := by
  unfold State.txSend
  try dsimp only
  repeat' first
    | intro _ | with_reducible assumption | with_reducible apply State.bump_closed H
    | with_reducible apply State.bumpBy_closed H | with_reducible apply State.handOver_closed H
    | with_reducible apply State.put_closed H | with_reducible apply H.ite | with_reducible apply H.when | split | dsimp only

theorem State.txTick_closed (H : Closed Q) {s0 s : State} (h0 : Q s0 s)  :
    Q s0 (State.txTick s) := by
  unfold State.txTick
  try dsimp only
  repeat' first
    | intro _ | with_reducible assumption | with_reducible apply State.txSend_closed H | with_reducible apply H.ite
    | with_reducible apply H.each | with_reducible apply H.foldl | with_reducible apply H.foldl_on (fun b : _ × State => b.2)
    | with_reducible apply H.foldl_on (fun b : State × _ => b.1)
    | with_reducible apply H.foldl_on (fun b : _ × _ × State => b.2.2)
    | with_reducible apply H.foldl_on (fun b : _ × _ × _ × State => b.2.2.2) | split | dsimp only

end Sys2Proof.Machine
end

