-- ==== Sys2Proof/Laws/ClosedPtp.lean ====
section
/-! SUPPORT. The relations of Laws/Closed.lean hold across the operations of Machine/Ptp.lean: one lemma for each. -/

namespace Sys2Proof.Machine

variable {Q : State → State → Prop}

theorem State.setPtp_closed (H : Closed Q) {s0 s : State} (h0 : Q s0 s) {p : Nat} {x : PtpPort} :
    Q s0 (State.setPtp s p x) := by
  unfold State.setPtp
  try dsimp only
  repeat' first
    | intro _ | with_reducible assumption | with_reducible apply State.put_closed H
    | fail_if_no_progress with_reducible apply H.set | dsimp only

theorem State.ptpUnsync_closed (H : Closed Q) {s0 s : State} (h0 : Q s0 s)  :
    Q s0 (State.ptpUnsync s) := by
  unfold State.ptpUnsync
  try dsimp only
  repeat' first
    | intro _ | with_reducible assumption | with_reducible apply State.put_closed H | with_reducible apply State.raise_closed H
    | with_reducible apply H.ite | split | fail_if_no_progress with_reducible apply H.set | dsimp only

theorem State.ptpEnter_closed (H : Closed Q) {s0 s : State} (h0 : Q s0 s) {p : Nat} {st : Nat} :
    Q s0 (State.ptpEnter s p st) := by
  unfold State.ptpEnter
  try dsimp only
  repeat' first
    | intro _ | with_reducible assumption | with_reducible apply State.put_closed H | with_reducible apply State.raise_closed H
    | with_reducible apply H.ite | split | dsimp only

theorem State.ptpSelect_closed (H : Closed Q) {s0 s : State} (h0 : Q s0 s)  :
    Q s0 (State.ptpSelect s) := by
  unfold State.ptpSelect
  try dsimp only
  repeat' first
    | intro _ | with_reducible assumption | with_reducible apply State.ptpEnter_closed H
    | with_reducible apply State.ptpUnsync_closed H | with_reducible apply State.put_closed H
    | with_reducible apply State.raise_closed H | with_reducible apply H.ite | with_reducible apply H.each
    | with_reducible apply H.when | split | fail_if_no_progress with_reducible apply H.set | dsimp only

theorem State.ptpRefresh_closed (H : Closed Q) {s0 s : State} (h0 : Q s0 s)  :
    Q s0 (State.ptpRefresh s) := by
  unfold State.ptpRefresh
  try dsimp only
  repeat' first
    | intro _ | with_reducible assumption | with_reducible apply State.ptpSelect_closed H
    | with_reducible apply State.setPtp_closed H | with_reducible apply H.ite | with_reducible apply H.each | split
    | dsimp only

theorem State.ptpTake_closed (H : Closed Q) {s0 s : State} (h0 : Q s0 s) {p : Nat} {m : PtpMsg} {profileOk : Bool} {f : State → State} (hf_f : ∀ t, Q s0 t → Q s0 (f t)) :
    Q s0 (State.ptpTake s p m profileOk f) := by
  unfold State.ptpTake
  try dsimp only
  repeat' first
    | intro _ | with_reducible assumption | apply hf_f | with_reducible apply State.bump_closed H | with_reducible apply H.ite
    | split | dsimp only

theorem State.ptpServo_closed (H : Closed Q) {s0 s : State} (h0 : Q s0 s) {p : Nat} {origin : Int} {at' : Int} :
    Q s0 (State.ptpServo s p origin at') := by
  unfold State.ptpServo
  try dsimp only
  repeat' first
    | intro _ | with_reducible assumption | with_reducible apply State.put_closed H | with_reducible apply State.putI_closed H
    | with_reducible apply State.raise_closed H | with_reducible apply State.refOffer_closed H
    | with_reducible apply State.setPtp_closed H | with_reducible apply H.ite | split
    | fail_if_no_progress with_reducible apply H.set | dsimp only

theorem State.ptpSend_closed (H : Closed Q) {s0 s : State} (h0 : Q s0 s) {p : Nat} {kind : Nat} {seq : Nat} {fields : List Nat} :
    Q s0 (State.ptpSend s p kind seq fields) := by
  unfold State.ptpSend
  try dsimp only
  repeat' first
    | intro _ | with_reducible assumption | with_reducible apply State.submit_closed H | dsimp only

theorem State.ptpSeq_closed (H : Closed Q) {s0 s : State} (h0 : Q s0 s) {p : Nat} :
    Q s0 (State.ptpSeq s p).2 := by
  unfold State.ptpSeq
  try dsimp only
  repeat' first
    | intro _ | with_reducible assumption | with_reducible apply State.setPtp_closed H
    | fail_if_no_progress with_reducible apply H.set | dsimp only

end Sys2Proof.Machine
end

