-- ==== Sys2Proof/Laws/ClosedLinks.lean ====
section
/-! SUPPORT. The relations of Laws/Closed.lean hold across the operations of Machine/Links.lean: one lemma for each. -/

namespace Sys2Proof.Machine

variable {Q : State → State → Prop}

theorem State.linkPass_closed (H : Closed Q) {s0 s : State} (h0 : Q s0 s)  :
    Q s0 (State.linkPass s) := by
  unfold State.linkPass
  try dsimp only
  repeat' first
    | intro _ | with_reducible assumption | with_reducible apply State.effAll_closed H
    | with_reducible apply State.ptpRefresh_closed H | with_reducible apply State.tasPurge_closed H
    | with_reducible apply H.each | fail_if_no_progress with_reducible apply H.set | dsimp only

theorem State.passIfDue_closed (H : Closed Q) {s0 s : State} (h0 : Q s0 s)  :
    Q s0 (State.passIfDue s) := by
  unfold State.passIfDue
  try dsimp only
  repeat' first
    | intro _ | with_reducible assumption | with_reducible apply State.admission_closed H | with_reducible apply H.ite | split
    | dsimp only

theorem State.linkUp_closed (H : Closed Q) {s0 s : State} (h0 : Q s0 s) {p : Nat} {reported : Nat} {pause : Nat} :
    Q s0 (State.linkUp s p reported pause) := by
  unfold State.linkUp
  try dsimp only
  repeat' first
    | intro _ | with_reducible assumption | with_reducible apply State.linkPass_closed H
    | with_reducible apply State.put_closed H | with_reducible apply State.raise_closed H | with_reducible apply H.ite | split
    | dsimp only

theorem State.linkDown_closed (H : Closed Q) {s0 s : State} (h0 : Q s0 s) {p : Nat} :
    Q s0 (State.linkDown s p) := by
  unfold State.linkDown
  try dsimp only
  repeat' first
    | intro _ | with_reducible assumption | with_reducible apply State.linkGone_closed H
    | with_reducible apply State.linkPass_closed H | with_reducible apply H.ite | split | dsimp only

theorem State.t1sLinks_closed (H : Closed Q) {s0 s : State} (h0 : Q s0 s)  :
    Q s0 (State.t1sLinks s) := by
  unfold State.t1sLinks
  try dsimp only
  repeat' first
    | intro _ | with_reducible assumption | with_reducible apply State.linkUp_closed H | with_reducible apply H.ite
    | with_reducible apply H.foldl | with_reducible apply H.foldl_on (fun b : _ × State => b.2)
    | with_reducible apply H.foldl_on (fun b : State × _ => b.1)
    | with_reducible apply H.foldl_on (fun b : _ × _ × State => b.2.2)
    | with_reducible apply H.foldl_on (fun b : _ × _ × _ × State => b.2.2.2) | split | dsimp only

theorem State.pollSend_closed (H : Closed Q) {s0 s : State} (h0 : Q s0 s) {p : Nat} :
    Q s0 (State.pollSend s p) := by
  unfold State.pollSend
  try dsimp only
  repeat' first
    | intro _ | with_reducible assumption | with_reducible apply State.send_closed H | with_reducible apply H.ite | split
    | dsimp only

end Sys2Proof.Machine
end

