-- ==== Sys2Proof/Laws/ClosedAvdecc.lean ====
section
/-! SUPPORT. The relations of Laws/Closed.lean hold across the operations of Machine/Avdecc.lean: one lemma for each. -/

namespace Sys2Proof.Machine

variable {Q : State → State → Prop}

theorem State.avdSend_closed (H : Closed Q) {s0 s : State} (h0 : Q s0 s) {p : Nat} {da : Nat} {kind : Nat} {seq : Nat} {status : Nat} {fields : List Nat} :
    Q s0 (State.avdSend s p da kind seq status fields) := by
  unfold State.avdSend
  try dsimp only
  repeat' first
    | intro _ | with_reducible assumption | with_reducible apply State.submit_closed H | dsimp only

theorem State.entityAvailable_closed (H : Closed Q) {s0 s : State} (h0 : Q s0 s)  :
    Q s0 (State.entityAvailable s) := by
  unfold State.entityAvailable
  try dsimp only
  repeat' first
    | intro _ | with_reducible assumption | with_reducible apply State.avdSend_closed H
    | with_reducible apply State.put_closed H | with_reducible apply H.foldl
    | with_reducible apply H.foldl_on (fun b : _ × State => b.2) | with_reducible apply H.foldl_on (fun b : State × _ => b.1)
    | with_reducible apply H.foldl_on (fun b : _ × _ × State => b.2.2)
    | with_reducible apply H.foldl_on (fun b : _ × _ × _ × State => b.2.2.2) | dsimp only

theorem State.entityDeparting_closed (H : Closed Q) {s0 s : State} (h0 : Q s0 s)  :
    Q s0 (State.entityDeparting s) := by
  unfold State.entityDeparting
  try dsimp only
  repeat' first
    | intro _ | with_reducible assumption | with_reducible apply State.avdSend_closed H
    | with_reducible apply State.put_closed H | with_reducible apply H.ite | with_reducible apply H.foldl
    | with_reducible apply H.foldl_on (fun b : _ × State => b.2) | with_reducible apply H.foldl_on (fun b : State × _ => b.1)
    | with_reducible apply H.foldl_on (fun b : _ × _ × State => b.2.2)
    | with_reducible apply H.foldl_on (fun b : _ × _ × _ × State => b.2.2.2) | split | dsimp only

theorem State.avdCtrlWritten_closed (H : Closed Q) {s0 s : State} (h0 : Q s0 s)  :
    Q s0 (State.avdCtrlWritten s) := by
  unfold State.avdCtrlWritten
  try dsimp only
  repeat' first
    | intro _ | with_reducible assumption | with_reducible apply State.put_closed H | with_reducible apply H.ite | split
    | dsimp only

theorem State.acmpAnswer_closed (H : Closed Q) {s0 s : State} (h0 : Q s0 s) {port : Nat} {msg : Nat} {seq : Nat} {entry : Nat} {status : Nat} {fields : List Nat} :
    Q s0 (State.acmpAnswer s port msg seq entry status fields) := by
  unfold State.acmpAnswer
  try dsimp only
  repeat' first
    | intro _ | with_reducible assumption | with_reducible apply State.avdSend_closed H
    | with_reducible apply State.put_closed H | dsimp only

theorem State.txNoEntry_closed (H : Closed Q) {s0 s : State} (h0 : Q s0 s) {n : Nat} :
    Q s0 (State.txNoEntry s n) := by
  unfold State.txNoEntry
  try dsimp only
  repeat' first
    | intro _ | with_reducible assumption | with_reducible apply State.put_closed H | with_reducible apply State.raise_closed H
    | dsimp only

theorem State.rxNoEntry_closed (H : Closed Q) {s0 s : State} (h0 : Q s0 s) {n : Nat} :
    Q s0 (State.rxNoEntry s n) := by
  unfold State.rxNoEntry
  try dsimp only
  repeat' first
    | intro _ | with_reducible assumption | with_reducible apply State.put_closed H | with_reducible apply State.raise_closed H
    | dsimp only

theorem State.acmpTalker_closed (H : Closed Q) {s0 s : State} (h0 : Q s0 s) {m : AvdMsg} {msg : Nat} {refuse : Bool} :
    Q s0 (State.acmpTalker s m msg refuse) := by
  unfold State.acmpTalker
  try dsimp only
  repeat' first
    | intro _ | with_reducible assumption | with_reducible apply State.acmpAnswer_closed H
    | with_reducible apply State.txNoEntry_closed H | with_reducible apply H.ite | split | dsimp only

theorem State.connectRx_closed (H : Closed Q) {s0 s : State} (h0 : Q s0 s) {m : AvdMsg} :
    Q s0 (State.connectRx s m) := by
  unfold State.connectRx
  try dsimp only
  repeat' first
    | intro _ | with_reducible assumption | with_reducible apply State.acmpAnswer_closed H
    | with_reducible apply State.mirrorOut_closed H | with_reducible apply State.rxNoEntry_closed H
    | with_reducible apply State.shPut_closed H | with_reducible apply H.ite | split
    | fail_if_no_progress with_reducible apply H.set | dsimp only

theorem State.acmpDone_closed (H : Closed Q) {s0 s : State} (h0 : Q s0 s) {pages : List Nat} {ok : Bool} :
    Q s0 (State.acmpDone s pages ok) := by
  unfold State.acmpDone
  try dsimp only
  repeat' first
    | intro _ | with_reducible assumption | with_reducible apply State.acmpAnswer_closed H
    | with_reducible apply State.setRx_closed H | with_reducible apply H.ite | split
    | fail_if_no_progress with_reducible apply H.set | dsimp only

theorem State.acmpOverride_closed (H : Closed Q) {s0 s : State} (h0 : Q s0 s) {pend : List Pend} :
    Q s0 (State.acmpOverride s pend) := by
  unfold State.acmpOverride
  try dsimp only
  repeat' first
    | intro _ | with_reducible assumption | with_reducible apply State.setRx_closed H | with_reducible apply H.ite
    | with_reducible apply H.each | split | fail_if_no_progress with_reducible apply H.set | dsimp only

theorem State.aecpAnswer_closed (H : Closed Q) {s0 s : State} (h0 : Q s0 s) {m : AvdMsg} {cmd : Nat} {status : Nat} {fields : List Nat} :
    Q s0 (State.aecpAnswer s m cmd status fields) := by
  unfold State.aecpAnswer
  try dsimp only
  repeat' first
    | intro _ | with_reducible assumption | with_reducible apply State.avdSend_closed H | dsimp only

theorem State.aecpAsk_closed (H : Closed Q) {s0 s : State} (h0 : Q s0 s) {m : AvdMsg} {cmd : Nat} {r : Nat × List Nat} :
    Q s0 (State.aecpAsk s m cmd r) := by
  unfold State.aecpAsk
  try dsimp only
  repeat' first
    | intro _ | with_reducible assumption | with_reducible apply State.aecpAnswer_closed H | with_reducible apply H.ite | split
    | dsimp only

theorem State.streamAsk_closed (H : Closed Q) {s0 s : State} (h0 : Q s0 s) {m : AvdMsg} {cmd : Nat} {rx : List Nat} {tx : List Nat} :
    Q s0 (State.streamAsk s m cmd rx tx) := by
  unfold State.streamAsk
  try dsimp only
  repeat' first
    | intro _ | with_reducible assumption | with_reducible apply State.aecpAsk_closed H | with_reducible apply H.ite | split
    | dsimp only

theorem State.ipSend_closed (H : Closed Q) {s0 s : State} (h0 : Q s0 s) {p : Nat} {da : Nat} {q : Option IpHead} {kind : Nat} {fields : List Nat} :
    Q s0 (State.ipSend s p da q kind fields) := by
  unfold State.ipSend
  try dsimp only
  repeat' first
    | intro _ | with_reducible assumption | with_reducible apply State.submit_closed H | dsimp only

theorem State.igmpReport_closed (H : Closed Q) {s0 s : State} (h0 : Q s0 s) {p : Nat} {groups : List Nat} :
    Q s0 (State.igmpReport s p groups) := by
  unfold State.igmpReport
  try dsimp only
  repeat' first
    | intro _ | with_reducible assumption | with_reducible apply State.ipSend_closed H | with_reducible apply H.ite
    | with_reducible apply H.foldl | with_reducible apply H.foldl_on (fun b : _ × State => b.2)
    | with_reducible apply H.foldl_on (fun b : State × _ => b.1)
    | with_reducible apply H.foldl_on (fun b : _ × _ × State => b.2.2)
    | with_reducible apply H.foldl_on (fun b : _ × _ × _ × State => b.2.2.2) | split | dsimp only

theorem State.igmpTick_closed (H : Closed Q) {s0 s : State} (h0 : Q s0 s)  :
    Q s0 (State.igmpTick s) := by
  unfold State.igmpTick
  try dsimp only
  repeat' first
    | intro _ | with_reducible assumption | with_reducible apply State.igmpReport_closed H | with_reducible apply H.ite
    | with_reducible apply H.each | split | fail_if_no_progress with_reducible apply H.set | dsimp only

theorem State.sapSend_closed (H : Closed Q) {s0 s : State} (h0 : Q s0 s) {kind : Nat} {fields : List Nat} :
    Q s0 (State.sapSend s kind fields) := by
  unfold State.sapSend
  try dsimp only
  repeat' first
    | intro _ | with_reducible assumption | with_reducible apply State.ipSend_closed H | with_reducible apply H.foldl
    | with_reducible apply H.foldl_on (fun b : _ × State => b.2) | with_reducible apply H.foldl_on (fun b : State × _ => b.1)
    | with_reducible apply H.foldl_on (fun b : _ × _ × State => b.2.2)
    | with_reducible apply H.foldl_on (fun b : _ × _ × _ × State => b.2.2.2) | dsimp only

theorem State.sapWithdraw_closed (H : Closed Q) {s0 s : State} (h0 : Q s0 s)  :
    Q s0 (State.sapWithdraw s) := by
  unfold State.sapWithdraw
  try dsimp only
  repeat' first
    | intro _ | with_reducible assumption | with_reducible apply State.sapSend_closed H | with_reducible apply H.ite
    | with_reducible apply H.foldl | with_reducible apply H.foldl_on (fun b : _ × State => b.2)
    | with_reducible apply H.foldl_on (fun b : State × _ => b.1)
    | with_reducible apply H.foldl_on (fun b : _ × _ × State => b.2.2)
    | with_reducible apply H.foldl_on (fun b : _ × _ × _ × State => b.2.2.2) | split
    | fail_if_no_progress with_reducible apply H.set | dsimp only

theorem State.discStore_closed (H : Closed Q) {s0 s : State} (h0 : Q s0 s) {slot : Nat} {record : List Byte} :
    Q s0 (State.discStore s slot record) := by
  unfold State.discStore
  try dsimp only
  repeat' first
    | intro _ | with_reducible assumption | with_reducible apply State.denyRecord_closed H
    | with_reducible apply State.setBytes_closed H | with_reducible apply H.ite | split | dsimp only

end Sys2Proof.Machine
end

