-- ==== Sys2Proof/Laws/ClosedPlumb.lean ====
section
/-! SUPPORT. The relations of Laws/Closed.lean hold across the operations of Machine/Plumb.lean: one lemma for each. -/

namespace Sys2Proof.Machine

variable {Q : State → State → Prop}

theorem State.refEdge_closed (H : Closed Q) {s0 s : State} (h0 : Q s0 s) {src : Nat} {period : Nat} {offset : Int} :
    Q s0 (State.refEdge s src period offset) := by
  unfold State.refEdge
  try dsimp only
  repeat' first
    | intro _ | with_reducible assumption | with_reducible apply State.setRef_closed H | with_reducible apply H.ite
    | with_reducible apply H.each | split | fail_if_no_progress with_reducible apply H.set | dsimp only

theorem State.refSilent_closed (H : Closed Q) {s0 s : State} (h0 : Q s0 s) {src : Nat} :
    Q s0 (State.refSilent s src) := by
  unfold State.refSilent
  try dsimp only
  repeat' first
    | intro _ | with_reducible assumption | with_reducible apply State.setRef_closed H | with_reducible apply H.ite
    | with_reducible apply H.each | split | fail_if_no_progress with_reducible apply H.set | dsimp only

theorem State.hist_closed (H : Closed Q) {s0 s : State} (h0 : Q s0 s) {f : Fld} {n : Nat} :
    Q s0 (State.hist s f n).2 := by
  unfold State.hist
  try dsimp only
  repeat' first
    | intro _ | with_reducible assumption | with_reducible apply State.put_closed H | dsimp only

theorem State.lostSelected_closed (H : Closed Q) {s0 s : State} (h0 : Q s0 s) {n : Nat} {st : Nat} :
    Q s0 (State.lostSelected s n st).2 := by
  unfold State.lostSelected
  try dsimp only
  repeat' first
    | intro _ | with_reducible assumption | with_reducible apply State.hist_closed H | with_reducible apply H.ite | split
    | dsimp only

theorem State.refLose_closed (H : Closed Q) {s0 s : State} (h0 : Q s0 s) {n : Nat} :
    Q s0 (State.refLose s n).2 := by
  unfold State.refLose
  try dsimp only
  repeat' first
    | intro _ | with_reducible assumption | with_reducible apply State.hist_closed H
    | with_reducible apply State.lostSelected_closed H | with_reducible apply State.put_closed H
    | with_reducible apply State.setRef_closed H | with_reducible apply H.ite | split
    | fail_if_no_progress with_reducible apply H.set | dsimp only

theorem State.refJudge_closed (H : Closed Q) {s0 s : State} (h0 : Q s0 s) {n : Nat} {fails : List Nat} :
    Q s0 (State.refJudge s n fails).2 := by
  unfold State.refJudge
  try dsimp only
  repeat' first
    | intro _ | with_reducible assumption | with_reducible apply State.hist_closed H
    | with_reducible apply State.lostSelected_closed H | with_reducible apply State.put_closed H
    | with_reducible apply State.setRef_closed H | with_reducible apply H.ite | with_reducible apply H.foldl
    | with_reducible apply H.foldl_on (fun b : _ × State => b.2) | with_reducible apply H.foldl_on (fun b : State × _ => b.1)
    | with_reducible apply H.foldl_on (fun b : _ × _ × State => b.2.2)
    | with_reducible apply H.foldl_on (fun b : _ × _ × _ × State => b.2.2.2) | split
    | fail_if_no_progress with_reducible apply H.set | dsimp only

theorem State.refEval_closed (H : Closed Q) {s0 s : State} (h0 : Q s0 s) {refs : List RefMeas} {n : Nat} :
    Q s0 (State.refEval s refs n).2 := by
  unfold State.refEval
  try dsimp only
  repeat' first
    | intro _ | with_reducible assumption | with_reducible apply State.putI_closed H
    | with_reducible apply State.refJudge_closed H | with_reducible apply State.refLose_closed H
    | with_reducible apply State.setRef_closed H | with_reducible apply H.ite | split
    | fail_if_no_progress with_reducible apply H.set | dsimp only

theorem State.refRemain_closed (H : Closed Q) {s0 s : State} (h0 : Q s0 s) {n : Nat} :
    Q s0 (State.refRemain s n) := by
  unfold State.refRemain
  try dsimp only
  repeat' first
    | intro _ | with_reducible assumption | with_reducible apply State.put_closed H | with_reducible apply H.ite | split
    | dsimp only

theorem State.refEvalAll_closed (H : Closed Q) {s0 s : State} (h0 : Q s0 s) {refs : List RefMeas} :
    Q s0 (State.refEvalAll s refs) := by
  unfold State.refEvalAll
  try dsimp only
  repeat' first
    | intro _ | with_reducible assumption | with_reducible apply State.raise_closed H
    | with_reducible apply State.refEval_closed H | with_reducible apply State.refRemain_closed H | with_reducible apply H.ite
    | with_reducible apply H.foldl | with_reducible apply H.foldl_on (fun b : _ × State => b.2)
    | with_reducible apply H.foldl_on (fun b : State × _ => b.1)
    | with_reducible apply H.foldl_on (fun b : _ × _ × State => b.2.2)
    | with_reducible apply H.foldl_on (fun b : _ × _ × _ × State => b.2.2.2) | split
    | fail_if_no_progress with_reducible apply H.set | dsimp only

theorem State.selChange_closed (H : Closed Q) {s0 s : State} (h0 : Q s0 s) {new : Nat} :
    Q s0 (State.selChange s new) := by
  unfold State.selChange
  try dsimp only
  repeat' first
    | intro _ | with_reducible assumption | with_reducible apply State.bump_closed H | with_reducible apply State.put_closed H
    | with_reducible apply State.raise_closed H | with_reducible apply State.setRef_closed H | with_reducible apply H.ite
    | split | fail_if_no_progress with_reducible apply H.set | dsimp only

theorem State.setClk_closed (H : Closed Q) {s0 s : State} (h0 : Q s0 s) {k : Nat} {x : ClkHid} :
    Q s0 (State.setClk s k x) := by
  unfold State.setClk
  try dsimp only
  repeat' first
    | intro _ | with_reducible assumption | with_reducible apply State.put_closed H
    | fail_if_no_progress with_reducible apply H.set | dsimp only

theorem State.setAlign_closed (H : Closed Q) {s0 s : State} (h0 : Q s0 s) {k : Nat} {x : Int} :
    Q s0 (State.setAlign s k x) := by
  unfold State.setAlign
  try dsimp only
  repeat' first
    | intro _ | with_reducible assumption | with_reducible apply State.put_closed H
    | fail_if_no_progress with_reducible apply H.set | dsimp only

theorem State.ringsEpoch_closed (H : Closed Q) {s0 s : State} (h0 : Q s0 s)  :
    Q s0 (State.ringsEpoch s) := by
  unfold State.ringsEpoch
  try dsimp only
  repeat' first
    | intro _ | with_reducible assumption | with_reducible apply State.clearBitmap_closed H
    | with_reducible apply State.setRx_closed H | with_reducible apply H.each | with_reducible apply H.when
    | fail_if_no_progress with_reducible apply H.set | dsimp only

theorem State.zeroNext_closed (H : Closed Q) {s0 s : State} (h0 : Q s0 s)  :
    Q s0 (State.zeroNext s) := by
  unfold State.zeroNext
  try dsimp only
  repeat' first
    | intro _ | with_reducible assumption | fail_if_no_progress with_reducible apply H.set | dsimp only

theorem State.portRingsEpoch_closed (H : Closed Q) {s0 s : State} (h0 : Q s0 s)  :
    Q s0 (State.portRingsEpoch s) := by
  unfold State.portRingsEpoch
  try dsimp only
  repeat' first
    | intro _ | with_reducible assumption | with_reducible apply State.setWord_closed H | with_reducible apply H.each
    | dsimp only

theorem State.stepOffsets_closed (H : Closed Q) {s0 s : State} (h0 : Q s0 s) {ns : Int} :
    Q s0 (State.stepOffsets s ns) := by
  unfold State.stepOffsets
  try dsimp only
  repeat' first
    | intro _ | with_reducible assumption | with_reducible apply State.putI_closed H
    | with_reducible apply State.setPtp_closed H | with_reducible apply State.setRef_closed H | with_reducible apply H.ite
    | with_reducible apply H.each | split | fail_if_no_progress with_reducible apply H.set | dsimp only

theorem State.epochSet_closed (H : Closed Q) {s0 s : State} (h0 : Q s0 s) {step : Int} :
    Q s0 (State.epochSet s step) := by
  unfold State.epochSet
  try dsimp only
  repeat' first
    | intro _ | with_reducible assumption | with_reducible apply State.portRingsEpoch_closed H
    | with_reducible apply State.put_closed H | with_reducible apply State.raise_closed H
    | with_reducible apply State.ringsEpoch_closed H | with_reducible apply State.setAlign_closed H
    | with_reducible apply State.setClk_closed H | with_reducible apply State.spEpoch_closed H
    | with_reducible apply State.stepOffsets_closed H | with_reducible apply State.tasAll_closed H
    | with_reducible apply State.txBegin_closed H | with_reducible apply State.zeroNext_closed H | with_reducible apply H.each
    | with_reducible apply H.when | fail_if_no_progress with_reducible apply H.set | dsimp only

theorem State.epochIfDue_closed (H : Closed Q) {s0 s : State} (h0 : Q s0 s)  :
    Q s0 (State.epochIfDue s) := by
  unfold State.epochIfDue
  try dsimp only
  repeat' first
    | intro _ | with_reducible assumption | with_reducible apply State.epochSet_closed H | with_reducible apply H.ite | split
    | dsimp only

theorem State.plumbEnter_closed (H : Closed Q) {s0 s : State} (h0 : Q s0 s) {new : Nat} :
    Q s0 (State.plumbEnter s new) := by
  unfold State.plumbEnter
  try dsimp only
  repeat' first
    | intro _ | with_reducible assumption | with_reducible apply State.bump_closed H | with_reducible apply State.put_closed H
    | with_reducible apply State.raise_closed H | with_reducible apply H.ite | split
    | fail_if_no_progress with_reducible apply H.set | dsimp only

theorem State.plumbY_closed (H : Closed Q) {s0 s : State} (h0 : Q s0 s)  :
    Q s0 (State.plumbY s) := by
  unfold State.plumbY
  try dsimp only
  repeat' first
    | intro _ | with_reducible assumption | with_reducible apply State.putI_closed H | with_reducible apply H.ite | split
    | fail_if_no_progress with_reducible apply H.set | dsimp only

theorem State.holdValid_closed (H : Closed Q) {s0 s : State} (h0 : Q s0 s)  :
    Q s0 (State.holdValid s) := by
  unfold State.holdValid
  try dsimp only
  repeat' first
    | intro _ | with_reducible assumption | with_reducible apply State.put_closed H | with_reducible apply H.ite | split
    | dsimp only

theorem State.plumbLoop_closed (H : Closed Q) {s0 s : State} (h0 : Q s0 s)  :
    Q s0 (State.plumbLoop s) := by
  unfold State.plumbLoop
  try dsimp only
  repeat' first
    | intro _ | with_reducible assumption | with_reducible apply State.holdValid_closed H
    | with_reducible apply State.plumbEnter_closed H | with_reducible apply State.plumbY_closed H
    | with_reducible apply State.put_closed H | with_reducible apply State.putI_closed H
    | with_reducible apply State.setRef_closed H | with_reducible apply H.ite | split
    | fail_if_no_progress with_reducible apply H.set | dsimp only

theorem State.pulseTick_closed (H : Closed Q) {s0 s : State} (h0 : Q s0 s) {k : Nat} :
    Q s0 (State.pulseTick s k) := by
  unfold State.pulseTick
  try dsimp only
  repeat' first
    | intro _ | with_reducible assumption | with_reducible apply State.putBit_closed H
    | with_reducible apply State.putI_closed H | with_reducible apply State.raise_closed H | with_reducible apply H.ite | split
    | fail_if_no_progress with_reducible apply H.set | dsimp only

theorem State.clkTick_closed (H : Closed Q) {s0 s : State} (h0 : Q s0 s) {k : Nat} :
    Q s0 (State.clkTick s k) := by
  unfold State.clkTick
  try dsimp only
  repeat' first
    | intro _ | with_reducible assumption | with_reducible apply State.putBit_closed H
    | with_reducible apply State.send_closed H | with_reducible apply State.setAlign_closed H
    | with_reducible apply State.setClk_closed H | with_reducible apply H.ite | with_reducible apply H.when | split
    | fail_if_no_progress with_reducible apply H.set | dsimp only

theorem State.clkoutLow_closed (H : Closed Q) {s0 s : State} (h0 : Q s0 s)  :
    Q s0 (State.clkoutLow s) := by
  unfold State.clkoutLow
  try dsimp only
  repeat' first
    | intro _ | with_reducible assumption | with_reducible apply State.send_closed H
    | with_reducible apply State.setClk_closed H | with_reducible apply H.each | fail_if_no_progress with_reducible apply H.set
    | dsimp only

theorem State.clkoutGate_closed (H : Closed Q) {s0 s : State} (h0 : Q s0 s)  :
    Q s0 (State.clkoutGate s) := by
  unfold State.clkoutGate
  try dsimp only
  repeat' first
    | intro _ | with_reducible assumption | with_reducible apply State.clkoutLow_closed H
    | with_reducible apply State.put_closed H | with_reducible apply H.ite | with_reducible apply H.when | split | dsimp only

theorem State.clkoutCommit_closed (H : Closed Q) {s0 s : State} (h0 : Q s0 s) {old : State} :
    Q s0 (State.clkoutCommit s old) := by
  unfold State.clkoutCommit
  try dsimp only
  repeat' first
    | intro _ | with_reducible assumption | with_reducible apply State.clkoutGate_closed H
    | with_reducible apply State.setAlign_closed H | with_reducible apply State.setClk_closed H | with_reducible apply H.ite
    | with_reducible apply H.each | split | dsimp only

theorem State.plumbDecide_closed (H : Closed Q) {s0 s : State} (h0 : Q s0 s)  :
    Q s0 (State.plumbDecide s) := by
  unfold State.plumbDecide
  try dsimp only
  repeat' first
    | intro _ | with_reducible assumption | with_reducible apply State.epochIfDue_closed H
    | with_reducible apply State.plumbLoop_closed H | with_reducible apply State.pulseTick_closed H
    | with_reducible apply State.selChange_closed H | with_reducible apply H.each
    | fail_if_no_progress with_reducible apply H.set | dsimp only

theorem State.plumbTick_closed (H : Closed Q) {s0 s : State} (h0 : Q s0 s) {refs : List RefMeas} :
    Q s0 (State.plumbTick s refs) := by
  unfold State.plumbTick
  try dsimp only
  repeat' first
    | intro _ | with_reducible assumption | with_reducible apply State.plumbDecide_closed H
    | with_reducible apply State.refEvalAll_closed H | dsimp only

theorem State.plumbCommit_closed (H : Closed Q) {s0 s : State} (h0 : Q s0 s) {old : State} :
    Q s0 (State.plumbCommit s old) := by
  unfold State.plumbCommit
  try dsimp only
  repeat' first
    | intro _ | with_reducible assumption | with_reducible apply State.lostSelected_closed H
    | with_reducible apply State.put_closed H | with_reducible apply State.setRef_closed H | with_reducible apply H.ite
    | with_reducible apply H.each | split | fail_if_no_progress with_reducible apply H.set | dsimp only

theorem State.mediaStart_closed (H : Closed Q) {s0 s : State} (h0 : Q s0 s)  :
    Q s0 (State.mediaStart s) := by
  unfold State.mediaStart
  try dsimp only
  repeat' first
    | intro _ | with_reducible assumption | with_reducible apply State.plumbEnter_closed H
    | with_reducible apply State.put_closed H | with_reducible apply State.setRef_closed H
    | with_reducible apply State.tasNoTime_closed H | with_reducible apply H.each
    | fail_if_no_progress with_reducible apply H.set | dsimp only

theorem State.plumbStart_closed (H : Closed Q) {s0 s : State} (h0 : Q s0 s)  :
    Q s0 (State.plumbStart s) := by
  unfold State.plumbStart
  try dsimp only
  repeat' first
    | intro _ | with_reducible assumption | with_reducible apply State.mediaStart_closed H
    | with_reducible apply State.put_closed H | with_reducible apply State.selChange_closed H
    | with_reducible apply State.setRef_closed H | with_reducible apply H.each | fail_if_no_progress with_reducible apply H.set
    | dsimp only

end Sys2Proof.Machine
end

