-- ==== Sys2Proof/Laws/ClosedPower.lean ====
section
/-! SUPPORT. The relations of Laws/Closed.lean hold across the operations of Machine/Power.lean: one lemma for each. -/

namespace Sys2Proof.Machine

variable {Q : State → State → Prop}

theorem State.setCh_closed (H : Closed Q) {s0 s : State} (h0 : Q s0 s) {n : Nat} {x : PchHid} :
    Q s0 (State.setCh s n x) := by
  unfold State.setCh
  try dsimp only
  repeat' first
    | intro _ | with_reducible assumption | with_reducible apply State.put_closed H
    | fail_if_no_progress with_reducible apply H.set | dsimp only

theorem State.modCh_closed (H : Closed Q) {s0 s : State} (h0 : Q s0 s) {n : Nat} {f : PchHid → PchHid} :
    Q s0 (State.modCh s n f) := by
  unfold State.modCh
  try dsimp only
  repeat' first
    | intro _ | with_reducible assumption | with_reducible apply State.setCh_closed H | dsimp only

theorem State.modRail_closed (H : Closed Q) {s0 s : State} (h0 : Q s0 s) {r : Nat} {f : RailHid → RailHid} :
    Q s0 (State.modRail s r f) := by
  unfold State.modRail
  try dsimp only
  repeat' first
    | intro _ | with_reducible assumption | with_reducible apply State.put_closed H
    | fail_if_no_progress with_reducible apply H.set | dsimp only

theorem State.enterCh_closed (H : Closed Q) {s0 s : State} (h0 : Q s0 s) {n : Nat} {st : Nat} :
    Q s0 (State.enterCh s n st) := by
  unfold State.enterCh
  try dsimp only
  repeat' first
    | intro _ | with_reducible assumption | with_reducible apply State.modCh_closed H | with_reducible apply State.put_closed H
    | with_reducible apply State.putBit_closed H | with_reducible apply State.raise_closed H | with_reducible apply H.ite
    | split | fail_if_no_progress with_reducible apply H.set | dsimp only

theorem State.applyFeed_closed (H : Closed Q) {s0 s : State} (h0 : Q s0 s) {n : Nat} :
    Q s0 (State.applyFeed s n) := by
  unfold State.applyFeed
  try dsimp only
  repeat' first
    | intro _ | with_reducible assumption | with_reducible apply State.modCh_closed H | with_reducible apply State.put_closed H
    | with_reducible apply H.ite | split | fail_if_no_progress with_reducible apply H.set | dsimp only

theorem State.chDead_closed (H : Closed Q) {s0 s : State} (h0 : Q s0 s) {n : Nat} {st : Nat} :
    Q s0 (State.chDead s n st) := by
  unfold State.chDead
  try dsimp only
  repeat' first
    | intro _ | with_reducible assumption | with_reducible apply State.applyFeed_closed H
    | with_reducible apply State.enterCh_closed H | with_reducible apply State.modCh_closed H
    | with_reducible apply State.put_closed H | fail_if_no_progress with_reducible apply H.set | dsimp only

theorem State.chMark_closed (H : Closed Q) {s0 s : State} (h0 : Q s0 s) {n : Nat} {cause : Nat} :
    Q s0 (State.chMark s n cause) := by
  unfold State.chMark
  try dsimp only
  repeat' first
    | intro _ | with_reducible assumption | with_reducible apply State.put_closed H | dsimp only

theorem State.chFault_closed (H : Closed Q) {s0 s : State} (h0 : Q s0 s) {n : Nat} {cause : Nat} :
    Q s0 (State.chFault s n cause) := by
  unfold State.chFault
  try dsimp only
  repeat' first
    | intro _ | with_reducible assumption | with_reducible apply State.chMark_closed H
    | with_reducible apply State.put_closed H | with_reducible apply State.raise_closed H | dsimp only

theorem State.retryFails_closed (H : Closed Q) {s0 s : State} (h0 : Q s0 s) {n : Nat} :
    Q s0 (State.retryFails s n) := by
  unfold State.retryFails
  try dsimp only
  repeat' first
    | intro _ | with_reducible assumption | with_reducible apply State.bump_closed H
    | with_reducible apply State.chDead_closed H | with_reducible apply State.modCh_closed H
    | with_reducible apply State.put_closed H | with_reducible apply State.raise_closed H | with_reducible apply H.ite | split
    | fail_if_no_progress with_reducible apply H.set | dsimp only

theorem State.diagCut_closed (H : Closed Q) {s0 s : State} (h0 : Q s0 s) {n : Nat} :
    Q s0 (State.diagCut s n) := by
  unfold State.diagCut
  try dsimp only
  repeat' first
    | intro _ | with_reducible assumption | with_reducible apply State.put_closed H | with_reducible apply State.send_closed H
    | with_reducible apply H.ite | with_reducible apply H.when | split | fail_if_no_progress with_reducible apply H.set
    | dsimp only

theorem State.chTrip_closed (H : Closed Q) {s0 s : State} (h0 : Q s0 s) {n : Nat} {cause : Nat} :
    Q s0 (State.chTrip s n cause) := by
  unfold State.chTrip
  try dsimp only
  repeat' first
    | intro _ | with_reducible assumption | with_reducible apply State.bump_closed H
    | with_reducible apply State.chDead_closed H | with_reducible apply State.chFault_closed H
    | with_reducible apply State.diagCut_closed H | with_reducible apply State.retryFails_closed H | with_reducible apply H.ite
    | split | dsimp only

theorem State.gainRun_closed (H : Closed Q) {s0 s : State} (h0 : Q s0 s) {n : Nat} {dir : Nat} {e : GainEnd} :
    Q s0 (State.gainRun s n dir e) := by
  unfold State.gainRun
  try dsimp only
  repeat' first
    | intro _ | with_reducible assumption | with_reducible apply State.modCh_closed H | with_reducible apply H.ite | split
    | fail_if_no_progress with_reducible apply H.set | dsimp only

theorem State.rampDown_closed (H : Closed Q) {s0 s : State} (h0 : Q s0 s) {n : Nat} :
    Q s0 (State.rampDown s n) := by
  unfold State.rampDown
  try dsimp only
  repeat' first
    | intro _ | with_reducible assumption | with_reducible apply State.enterCh_closed H
    | with_reducible apply State.modCh_closed H | with_reducible apply H.ite | split
    | fail_if_no_progress with_reducible apply H.set | dsimp only

theorem State.rampUp_closed (H : Closed Q) {s0 s : State} (h0 : Q s0 s) {n : Nat} :
    Q s0 (State.rampUp s n) := by
  unfold State.rampUp
  try dsimp only
  repeat' first
    | intro _ | with_reducible assumption | with_reducible apply State.applyFeed_closed H
    | with_reducible apply State.chDead_closed H | with_reducible apply State.chFault_closed H
    | with_reducible apply State.enterCh_closed H | with_reducible apply State.modCh_closed H
    | with_reducible apply State.put_closed H | with_reducible apply H.ite | split
    | fail_if_no_progress with_reducible apply H.set | dsimp only

theorem State.gainDone_closed (H : Closed Q) {s0 s : State} (h0 : Q s0 s) {n : Nat} :
    Q s0 (State.gainDone s n) := by
  unfold State.gainDone
  try dsimp only
  repeat' first
    | intro _ | with_reducible assumption | with_reducible apply State.applyFeed_closed H
    | with_reducible apply State.enterCh_closed H | with_reducible apply State.gainRun_closed H
    | with_reducible apply State.rampDown_closed H | with_reducible apply State.setCh_closed H | with_reducible apply H.ite
    | split | fail_if_no_progress with_reducible apply H.set | dsimp only

theorem State.dcTest_closed (H : Closed Q) {s0 s : State} (h0 : Q s0 s) {n : Nat} {kind : Nat} :
    Q s0 (State.dcTest s n kind) := by
  unfold State.dcTest
  try dsimp only
  repeat' first
    | intro _ | with_reducible assumption | with_reducible apply State.enterCh_closed H
    | with_reducible apply State.modCh_closed H | with_reducible apply State.put_closed H
    | fail_if_no_progress with_reducible apply H.set | dsimp only

theorem State.chStart_closed (H : Closed Q) {s0 s : State} (h0 : Q s0 s) {n : Nat} :
    Q s0 (State.chStart s n) := by
  unfold State.chStart
  try dsimp only
  repeat' first
    | intro _ | with_reducible assumption | with_reducible apply State.dcTest_closed H
    | with_reducible apply State.modCh_closed H | with_reducible apply State.put_closed H
    | with_reducible apply State.rampUp_closed H | with_reducible apply H.ite | split
    | fail_if_no_progress with_reducible apply H.set | dsimp only

theorem State.chArm_closed (H : Closed Q) {s0 s : State} (h0 : Q s0 s) {n : Nat} :
    Q s0 (State.chArm s n) := by
  unfold State.chArm
  try dsimp only
  repeat' first
    | intro _ | with_reducible assumption | with_reducible apply State.chStart_closed H
    | with_reducible apply State.modCh_closed H | with_reducible apply H.ite | split
    | fail_if_no_progress with_reducible apply H.set | dsimp only

theorem State.armAll_closed (H : Closed Q) {s0 s : State} (h0 : Q s0 s)  :
    Q s0 (State.armAll s) := by
  unfold State.armAll
  try dsimp only
  repeat' first
    | intro _ | with_reducible assumption | with_reducible apply State.chArm_closed H | with_reducible apply H.each
    | dsimp only

theorem State.retryGo_closed (H : Closed Q) {s0 s : State} (h0 : Q s0 s) {n : Nat} :
    Q s0 (State.retryGo s n) := by
  unfold State.retryGo
  try dsimp only
  repeat' first
    | intro _ | with_reducible assumption | with_reducible apply State.chDead_closed H
    | with_reducible apply State.dcTest_closed H | with_reducible apply State.modCh_closed H
    | with_reducible apply State.put_closed H | with_reducible apply H.ite | split
    | fail_if_no_progress with_reducible apply H.set | dsimp only

theorem State.chResume_closed (H : Closed Q) {s0 s : State} (h0 : Q s0 s) {n : Nat} :
    Q s0 (State.chResume s n) := by
  unfold State.chResume
  try dsimp only
  repeat' first
    | intro _ | with_reducible assumption | with_reducible apply State.chDead_closed H
    | with_reducible apply State.put_closed H | with_reducible apply State.rampUp_closed H | with_reducible apply H.ite | split
    | dsimp only

theorem State.diagRail_closed (H : Closed Q) {s0 s : State} (h0 : Q s0 s)  :
    Q s0 (State.diagRail s) := by
  unfold State.diagRail
  try dsimp only
  repeat' first
    | intro _ | with_reducible assumption | with_reducible apply State.dcTest_closed H | with_reducible apply H.ite | split
    | fail_if_no_progress with_reducible apply H.set | dsimp only

theorem State.railReached_closed (H : Closed Q) {s0 s : State} (h0 : Q s0 s) {r : Nat} :
    Q s0 (State.railReached s r) := by
  unfold State.railReached
  try dsimp only
  repeat' first
    | intro _ | with_reducible assumption | with_reducible apply State.chResume_closed H
    | with_reducible apply State.chStart_closed H | with_reducible apply State.diagRail_closed H
    | with_reducible apply State.retryGo_closed H | with_reducible apply H.ite | with_reducible apply H.each | split
    | dsimp only

theorem State.railShow_closed (H : Closed Q) {s0 s : State} (h0 : Q s0 s) {r : Nat} :
    Q s0 (State.railShow s r) := by
  unfold State.railShow
  try dsimp only
  repeat' first
    | intro _ | with_reducible assumption | with_reducible apply State.put_closed H | dsimp only

theorem State.railTrack_closed (H : Closed Q) {s0 s : State} (h0 : Q s0 s) {r : Nat} :
    Q s0 (State.railTrack s r) := by
  unfold State.railTrack
  try dsimp only
  repeat' first
    | intro _ | with_reducible assumption | with_reducible apply State.modRail_closed H
    | with_reducible apply State.put_closed H | with_reducible apply State.railReached_closed H
    | with_reducible apply State.railShow_closed H | fail_if_no_progress with_reducible apply H.set | dsimp only

theorem State.railSoft_closed (H : Closed Q) {s0 s : State} (h0 : Q s0 s) {r : Nat} :
    Q s0 (State.railSoft s r) := by
  unfold State.railSoft
  try dsimp only
  repeat' first
    | intro _ | with_reducible assumption | with_reducible apply State.modRail_closed H
    | with_reducible apply State.put_closed H | with_reducible apply State.railShow_closed H
    | with_reducible apply State.railTrack_closed H | with_reducible apply H.ite | split
    | fail_if_no_progress with_reducible apply H.set | dsimp only

theorem State.railOff_closed (H : Closed Q) {s0 s : State} (h0 : Q s0 s) {r : Nat} {cause : Nat} :
    Q s0 (State.railOff s r cause) := by
  unfold State.railOff
  try dsimp only
  repeat' first
    | intro _ | with_reducible assumption | with_reducible apply State.modRail_closed H
    | with_reducible apply State.put_closed H | with_reducible apply State.railShow_closed H | with_reducible apply H.ite
    | split | fail_if_no_progress with_reducible apply H.set | dsimp only

theorem State.railRest_closed (H : Closed Q) {s0 s : State} (h0 : Q s0 s) {r : Nat} :
    Q s0 (State.railRest s r) := by
  unfold State.railRest
  try dsimp only
  repeat' first
    | intro _ | with_reducible assumption | with_reducible apply State.railOff_closed H | with_reducible apply H.ite | split
    | dsimp only

theorem State.railEval_closed (H : Closed Q) {s0 s : State} (h0 : Q s0 s) {r : Nat} :
    Q s0 (State.railEval s r) := by
  unfold State.railEval
  try dsimp only
  repeat' first
    | intro _ | with_reducible assumption | with_reducible apply State.railRest_closed H
    | with_reducible apply State.railSoft_closed H | with_reducible apply H.ite | split | dsimp only

theorem State.railsEval_closed (H : Closed Q) {s0 s : State} (h0 : Q s0 s)  :
    Q s0 (State.railsEval s) := by
  unfold State.railsEval
  try dsimp only
  repeat' first
    | intro _ | with_reducible assumption | with_reducible apply State.railEval_closed H | with_reducible apply H.each
    | dsimp only

theorem State.railDrops_closed (H : Closed Q) {s0 s : State} (h0 : Q s0 s) {r : Nat} {latched : Bool} :
    Q s0 (State.railDrops s r latched) := by
  unfold State.railDrops
  try dsimp only
  repeat' first
    | intro _ | with_reducible assumption | with_reducible apply State.chDead_closed H
    | with_reducible apply State.chMark_closed H | with_reducible apply State.modCh_closed H
    | with_reducible apply State.put_closed H | with_reducible apply H.ite | with_reducible apply H.each | split
    | fail_if_no_progress with_reducible apply H.set | dsimp only

theorem State.railFault_closed (H : Closed Q) {s0 s : State} (h0 : Q s0 s) {r : Nat} {cause : Nat} :
    Q s0 (State.railFault s r cause) := by
  unfold State.railFault
  try dsimp only
  repeat' first
    | intro _ | with_reducible assumption | with_reducible apply State.bump_closed H
    | with_reducible apply State.modRail_closed H | with_reducible apply State.put_closed H
    | with_reducible apply State.railDrops_closed H | with_reducible apply State.railShow_closed H
    | with_reducible apply State.raise_closed H | with_reducible apply H.ite | split
    | fail_if_no_progress with_reducible apply H.set | dsimp only

theorem State.railNtc_closed (H : Closed Q) {s0 s : State} (h0 : Q s0 s) {r : Nat} :
    Q s0 (State.railNtc s r) := by
  unfold State.railNtc
  try dsimp only
  repeat' first
    | intro _ | with_reducible assumption | with_reducible apply State.railFault_closed H | with_reducible apply H.ite | split
    | dsimp only

theorem State.chStop_closed (H : Closed Q) {s0 s : State} (h0 : Q s0 s) {n : Nat} {goal : Nat} :
    Q s0 (State.chStop s n goal) := by
  unfold State.chStop
  try dsimp only
  repeat' first
    | intro _ | with_reducible assumption | with_reducible apply State.chDead_closed H
    | with_reducible apply State.diagCut_closed H | with_reducible apply State.gainRun_closed H
    | with_reducible apply State.modCh_closed H | with_reducible apply State.put_closed H
    | with_reducible apply State.rampDown_closed H | with_reducible apply H.ite | split
    | fail_if_no_progress with_reducible apply H.set | dsimp only

theorem State.stopAll_closed (H : Closed Q) {s0 s : State} (h0 : Q s0 s)  :
    Q s0 (State.stopAll s) := by
  unfold State.stopAll
  try dsimp only
  repeat' first
    | intro _ | with_reducible assumption | with_reducible apply State.chDead_closed H
    | with_reducible apply State.chStop_closed H | with_reducible apply H.ite | with_reducible apply H.each | split
    | dsimp only

theorem State.forceOff_closed (H : Closed Q) {s0 s : State} (h0 : Q s0 s) {cause : Nat} :
    Q s0 (State.forceOff s cause) := by
  unfold State.forceOff
  try dsimp only
  repeat' first
    | intro _ | with_reducible assumption | with_reducible apply State.chDead_closed H
    | with_reducible apply State.chMark_closed H | with_reducible apply State.diagCut_closed H
    | with_reducible apply State.modCh_closed H | with_reducible apply H.ite | with_reducible apply H.each | split
    | fail_if_no_progress with_reducible apply H.set | dsimp only

theorem State.railsOff_closed (H : Closed Q) {s0 s : State} (h0 : Q s0 s) {cause : Nat} :
    Q s0 (State.railsOff s cause) := by
  unfold State.railsOff
  try dsimp only
  repeat' first
    | intro _ | with_reducible assumption | with_reducible apply State.railOff_closed H | with_reducible apply H.ite
    | with_reducible apply H.each | split | dsimp only

theorem State.forcedStop_closed (H : Closed Q) {s0 s : State} (h0 : Q s0 s) {cause : Nat} :
    Q s0 (State.forcedStop s cause) := by
  unfold State.forcedStop
  try dsimp only
  repeat' first
    | intro _ | with_reducible assumption | with_reducible apply State.forceOff_closed H
    | with_reducible apply State.railsOff_closed H | dsimp only

theorem State.muteEval_closed (H : Closed Q) {s0 s : State} (h0 : Q s0 s) {n : Nat} :
    Q s0 (State.muteEval s n) := by
  unfold State.muteEval
  try dsimp only
  repeat' first
    | intro _ | with_reducible assumption | with_reducible apply State.enterCh_closed H
    | with_reducible apply State.gainRun_closed H | with_reducible apply H.ite | split | dsimp only

theorem State.muteAll_closed (H : Closed Q) {s0 s : State} (h0 : Q s0 s)  :
    Q s0 (State.muteAll s) := by
  unfold State.muteAll
  try dsimp only
  repeat' first
    | intro _ | with_reducible assumption | with_reducible apply State.muteEval_closed H | with_reducible apply H.each
    | dsimp only

theorem State.pchCommit_closed (H : Closed Q) {s0 s : State} (h0 : Q s0 s) {old : State} {n : Nat} :
    Q s0 (State.pchCommit s old n) := by
  unfold State.pchCommit
  try dsimp only
  repeat' first
    | intro _ | with_reducible assumption | with_reducible apply State.applyFeed_closed H
    | with_reducible apply State.chArm_closed H | with_reducible apply State.chStop_closed H
    | with_reducible apply State.gainRun_closed H | with_reducible apply State.muteEval_closed H
    | with_reducible apply State.setCh_closed H | with_reducible apply H.ite | split
    | fail_if_no_progress with_reducible apply H.set | dsimp only

theorem State.bstCommit_closed (H : Closed Q) {s0 s : State} (h0 : Q s0 s) {r : Nat} :
    Q s0 (State.bstCommit s r) := by
  unfold State.bstCommit
  try dsimp only
  repeat' first
    | intro _ | with_reducible assumption | with_reducible apply State.railEval_closed H | dsimp only

theorem State.clockChange_closed (H : Closed Q) {s0 s : State} (h0 : Q s0 s) {was : Bool} :
    Q s0 (State.clockChange s was) := by
  unfold State.clockChange
  try dsimp only
  repeat' first
    | intro _ | with_reducible assumption | with_reducible apply State.chDead_closed H
    | with_reducible apply State.gainRun_closed H | with_reducible apply State.modCh_closed H
    | with_reducible apply State.put_closed H | with_reducible apply State.raise_closed H
    | with_reducible apply State.send_closed H | with_reducible apply H.ite | with_reducible apply H.each
    | with_reducible apply H.when | split | fail_if_no_progress with_reducible apply H.set | dsimp only

theorem State.linkLoss_closed (H : Closed Q) {s0 s : State} (h0 : Q s0 s)  :
    Q s0 (State.linkLoss s) := by
  unfold State.linkLoss
  try dsimp only
  repeat' first
    | intro _ | with_reducible assumption | with_reducible apply State.clockChange_closed H | with_reducible apply H.ite
    | split | fail_if_no_progress with_reducible apply H.set | dsimp only

theorem State.linkTake_closed (H : Closed Q) {s0 s : State} (h0 : Q s0 s)  :
    Q s0 (State.linkTake s) := by
  unfold State.linkTake
  try dsimp only
  repeat' first
    | intro _ | with_reducible assumption | fail_if_no_progress with_reducible apply H.set | dsimp only

theorem State.railTick_closed (H : Closed Q) {s0 s : State} (h0 : Q s0 s) {r : Nat} :
    Q s0 (State.railTick s r) := by
  unfold State.railTick
  try dsimp only
  repeat' first
    | intro _ | with_reducible assumption | with_reducible apply State.bump_closed H
    | with_reducible apply State.modRail_closed H | with_reducible apply State.put_closed H
    | with_reducible apply State.railShow_closed H | with_reducible apply H.ite | split
    | fail_if_no_progress with_reducible apply H.set | dsimp only

theorem State.railLimited_closed (H : Closed Q) {s0 s : State} (h0 : Q s0 s) {n : Nat} :
    Q s0 (State.railLimited s n) := by
  unfold State.railLimited
  try dsimp only
  repeat' first
    | intro _ | with_reducible assumption | with_reducible apply State.bump_closed H
    | with_reducible apply State.modCh_closed H | with_reducible apply State.put_closed H
    | with_reducible apply State.raise_closed H | with_reducible apply H.ite | split
    | fail_if_no_progress with_reducible apply H.set | dsimp only

theorem State.feedPush_closed (H : Closed Q) {s0 s : State} (h0 : Q s0 s) {n : Nat} {x : List Int} {peak : Nat} :
    Q s0 (State.feedPush s n x peak) := by
  unfold State.feedPush
  try dsimp only
  repeat' first
    | intro _ | with_reducible assumption | with_reducible apply State.modCh_closed H
    | fail_if_no_progress with_reducible apply H.set | dsimp only

theorem State.pchTick_closed (H : Closed Q) {s0 s : State} (h0 : Q s0 s) {n : Nat} :
    Q s0 (State.pchTick s n) := by
  unfold State.pchTick
  try dsimp only
  repeat' first
    | intro _ | with_reducible assumption | with_reducible apply State.put_closed H
    | with_reducible apply State.railLimited_closed H | with_reducible apply State.send_closed H
    | with_reducible apply State.setCh_closed H | with_reducible apply H.ite | with_reducible apply H.when | split
    | fail_if_no_progress with_reducible apply H.set | dsimp only

theorem State.brownTick_closed (H : Closed Q) {s0 s : State} (h0 : Q s0 s)  :
    Q s0 (State.brownTick s) := by
  unfold State.brownTick
  try dsimp only
  repeat' first
    | intro _ | with_reducible assumption | with_reducible apply State.bump_closed H | with_reducible apply H.ite | split
    | fail_if_no_progress with_reducible apply H.set | dsimp only

theorem State.powerTick_closed (H : Closed Q) {s0 s : State} (h0 : Q s0 s)  :
    Q s0 (State.powerTick s) := by
  unfold State.powerTick
  try dsimp only
  repeat' first
    | intro _ | with_reducible assumption | with_reducible apply State.brownTick_closed H
    | with_reducible apply State.linkTake_closed H | with_reducible apply State.pchTick_closed H
    | with_reducible apply State.railNtc_closed H | with_reducible apply State.railRest_closed H
    | with_reducible apply State.railTick_closed H | with_reducible apply H.ite | with_reducible apply H.each
    | with_reducible apply H.when | split | fail_if_no_progress with_reducible apply H.set | dsimp only

end Sys2Proof.Machine
end

