-- ==== Sys2Proof/Laws/ClosedDiag.lean ====
section
/-! SUPPORT. The relations of Laws/Closed.lean hold across the operations of Machine/Diag.lean: one lemma for each. -/

namespace Sys2Proof.Machine

variable {Q : State → State → Prop}

theorem State.setDiag_closed (H : Closed Q) {s0 s : State} (h0 : Q s0 s) {x : Diag} :
    Q s0 (State.setDiag s x) := by
  unfold State.setDiag
  try dsimp only
  repeat' first
    | intro _ | with_reducible assumption | fail_if_no_progress with_reducible apply H.set | dsimp only

theorem State.diagOver_closed (H : Closed Q) {s0 s : State} (h0 : Q s0 s)  :
    Q s0 (State.diagOver s) := by
  unfold State.diagOver
  try dsimp only
  repeat' first
    | intro _ | with_reducible assumption | with_reducible apply State.put_closed H | with_reducible apply State.raise_closed H
    | with_reducible apply State.setDiag_closed H | dsimp only

theorem State.diagNext_closed (H : Closed Q) {s0 s : State} (h0 : Q s0 s)  :
    Q s0 (State.diagNext s) := by
  unfold State.diagNext
  try dsimp only
  repeat' first
    | intro _ | with_reducible assumption | with_reducible apply State.diagOver_closed H
    | with_reducible apply State.diagRail_closed H | with_reducible apply State.enterCh_closed H
    | with_reducible apply State.railsEval_closed H | with_reducible apply State.setDiag_closed H | split
    | fail_if_no_progress with_reducible apply H.set | dsimp only

theorem State.diagGo_closed (H : Closed Q) {s0 s : State} (h0 : Q s0 s) {op : Nat} {mask : Nat} :
    Q s0 (State.diagGo s op mask) := by
  unfold State.diagGo
  try dsimp only
  repeat' first
    | intro _ | with_reducible assumption | with_reducible apply State.diagNext_closed H
    | with_reducible apply State.hostErr_closed H | with_reducible apply State.put_closed H
    | with_reducible apply State.setDiag_closed H | with_reducible apply H.ite | split | dsimp only

theorem State.diagAbort_closed (H : Closed Q) {s0 s : State} (h0 : Q s0 s)  :
    Q s0 (State.diagAbort s) := by
  unfold State.diagAbort
  try dsimp only
  repeat' first
    | intro _ | with_reducible assumption | with_reducible apply State.chDead_closed H
    | with_reducible apply State.diagOver_closed H | with_reducible apply State.put_closed H | split
    | fail_if_no_progress with_reducible apply H.set | dsimp only

theorem State.deviation_closed (H : Closed Q) {s0 s : State} (h0 : Q s0 s) {n : Nat} :
    Q s0 (State.deviation s n) := by
  unfold State.deviation
  try dsimp only
  repeat' first
    | intro _ | with_reducible assumption | with_reducible apply State.bump_closed H
    | with_reducible apply State.putBit_closed H | with_reducible apply State.raise_closed H | dsimp only

theorem State.testPassed_closed (H : Closed Q) {s0 s : State} (h0 : Q s0 s) {n : Nat} :
    Q s0 (State.testPassed s n) := by
  unfold State.testPassed
  try dsimp only
  repeat' first
    | intro _ | with_reducible assumption | with_reducible apply State.chDead_closed H
    | with_reducible apply State.modCh_closed H | with_reducible apply State.put_closed H
    | with_reducible apply State.rampUp_closed H | with_reducible apply H.ite | split
    | fail_if_no_progress with_reducible apply H.set | dsimp only

theorem State.dcDone_closed (H : Closed Q) {s0 s : State} (h0 : Q s0 s) {n : Nat} {ohms : Nat} :
    Q s0 (State.dcDone s n ohms) := by
  unfold State.dcDone
  try dsimp only
  repeat' first
    | intro _ | with_reducible assumption | with_reducible apply State.chTrip_closed H
    | with_reducible apply State.deviation_closed H | with_reducible apply State.modCh_closed H
    | with_reducible apply State.put_closed H | with_reducible apply State.retryFails_closed H
    | with_reducible apply State.setDiag_closed H | with_reducible apply State.testPassed_closed H | with_reducible apply H.ite
    | with_reducible apply H.when | split | fail_if_no_progress with_reducible apply H.set | dsimp only

theorem State.sweepJudge_closed (H : Closed Q) {s0 s : State} (h0 : Q s0 s) {n : Nat} :
    Q s0 (State.sweepJudge s n) := by
  unfold State.sweepJudge
  try dsimp only
  repeat' first
    | intro _ | with_reducible assumption | with_reducible apply State.deviation_closed H
    | with_reducible apply State.modCh_closed H | with_reducible apply State.put_closed H
    | with_reducible apply State.putI_closed H | with_reducible apply H.ite | with_reducible apply H.each | split
    | fail_if_no_progress with_reducible apply H.set | dsimp only

theorem State.pilotOpen_closed (H : Closed Q) {s0 s : State} (h0 : Q s0 s) {n : Nat} :
    Q s0 (State.pilotOpen s n) := by
  unfold State.pilotOpen
  try dsimp only
  repeat' first
    | intro _ | with_reducible assumption | with_reducible apply State.modCh_closed H
    | fail_if_no_progress with_reducible apply H.set | dsimp only

theorem State.pilotJudge_closed (H : Closed Q) {s0 s : State} (h0 : Q s0 s) {n : Nat} {mag : Nat} {phase : Int} :
    Q s0 (State.pilotJudge s n mag phase) := by
  unfold State.pilotJudge
  try dsimp only
  repeat' first
    | intro _ | with_reducible assumption | with_reducible apply State.deviation_closed H
    | with_reducible apply State.put_closed H | with_reducible apply State.putBit_closed H
    | with_reducible apply State.putI_closed H | with_reducible apply State.setCh_closed H | with_reducible apply H.ite | split
    | fail_if_no_progress with_reducible apply H.set | dsimp only

theorem State.diagCommit_closed (H : Closed Q) {s0 s : State} (h0 : Q s0 s) {old : State} :
    Q s0 (State.diagCommit s old) := by
  unfold State.diagCommit
  try dsimp only
  repeat' first
    | intro _ | with_reducible assumption | with_reducible apply State.modCh_closed H | with_reducible apply H.ite
    | with_reducible apply H.each | split | fail_if_no_progress with_reducible apply H.set | dsimp only

theorem State.baselineWrite_closed (H : Closed Q) {s0 s : State} (h0 : Q s0 s) {a : Nat} :
    Q s0 (State.baselineWrite s a) := by
  unfold State.baselineWrite
  try dsimp only
  repeat' first
    | intro _ | with_reducible assumption | with_reducible apply State.modCh_closed H | with_reducible apply H.ite | split
    | fail_if_no_progress with_reducible apply H.set | dsimp only

end Sys2Proof.Machine
end

