-- ==== Sys2Proof/Laws/ClosedSupply.lean ====
section
/-! SUPPORT. The relations of Laws/Closed.lean hold across the operations of Machine/Supply.lean: one lemma for each. -/

namespace Sys2Proof.Machine

variable {Q : State → State → Prop}

theorem State.setSlot_closed (H : Closed Q) {s0 s : State} (h0 : Q s0 s) {k : Nat} {x : OcdSlot} :
    Q s0 (State.setSlot s k x) := by
  unfold State.setSlot
  try dsimp only
  repeat' first
    | intro _ | with_reducible assumption | fail_if_no_progress with_reducible apply H.set | dsimp only

theorem State.slotCount_closed (H : Closed Q) {s0 s : State} (h0 : Q s0 s) {k : Nat} :
    Q s0 (State.slotCount s k).2 := by
  unfold State.slotCount
  try dsimp only
  repeat' first
    | intro _ | with_reducible assumption | with_reducible apply State.setSlot_closed H
    | fail_if_no_progress with_reducible apply H.set | dsimp only

theorem State.heartbeat_closed (H : Closed Q) {s0 s : State} (h0 : Q s0 s) {notice : Bool} :
    Q s0 (State.heartbeat s notice) := by
  unfold State.heartbeat
  try dsimp only
  repeat' first
    | intro _ | with_reducible assumption | with_reducible apply State.slotCount_closed H
    | with_reducible apply State.submit_closed H | with_reducible apply H.ite | with_reducible apply H.foldl
    | with_reducible apply H.foldl_on (fun b : _ × State => b.2) | with_reducible apply H.foldl_on (fun b : State × _ => b.1)
    | with_reducible apply H.foldl_on (fun b : _ × _ × State => b.2.2)
    | with_reducible apply H.foldl_on (fun b : _ × _ × _ × State => b.2.2.2) | split | dsimp only

theorem State.demote_closed (H : Closed Q) {s0 s : State} (h0 : Q s0 s)  :
    Q s0 (State.demote s) := by
  unfold State.demote
  try dsimp only
  repeat' first
    | intro _ | with_reducible assumption | with_reducible apply State.heartbeat_closed H | with_reducible apply H.ite | split
    | fail_if_no_progress with_reducible apply H.set | dsimp only

theorem State.fatal_closed (H : Closed Q) {s0 s : State} (h0 : Q s0 s) {c : FatalCause} : Q s0 (s.fatal c) := by
  have h1 : Q s0 (State.raiseFatal ((if s.get R.EVT_FATAL_CAUSE = 0 then
      (s.put R.EVT_FATAL_CAUSE (causeCode c)).put R.EVT_FATAL_TICK_TICK (s.tickNum % 2 ^ 32) else s).put R.EVT_FATAL_VALID 1)
      (causeEvent c) (causeCode c)) := by
    refine State.raiseFatal_closed H (State.put_closed H ?_)
    split
    · exact State.put_closed H (State.put_closed H h0)
    · exact h0
  unfold State.fatal
  dsimp only
  generalize State.raiseFatal _ _ _ = t at h1 ⊢
  have h2 : Q s0 (if t.dev = .run ∨ t.dev = .ready then t.demote else t) := by
    split
    · exact State.demote_closed H h1
    · exact h1
  generalize (if t.dev = .run ∨ t.dev = .ready then t.demote else t) = u at h2 ⊢
  split
  · exact H.trans h2 (H.waits u ‹_›)
  · exact h2

theorem State.holdOver_closed (H : Closed Q) {s0 s : State} (h0 : Q s0 s)  :
    Q s0 (State.holdOver s) := by
  unfold State.holdOver
  try dsimp only
  repeat' first
    | intro _ | with_reducible assumption | with_reducible apply State.bump_closed H | with_reducible apply H.ite | split
    | fail_if_no_progress with_reducible apply H.set | dsimp only

theorem State.ntcWarnCh_closed (H : Closed Q) {s0 s : State} (h0 : Q s0 s) {n : Nat} {code : Nat} :
    Q s0 (State.ntcWarnCh s n code) := by
  unfold State.ntcWarnCh
  try dsimp only
  repeat' first
    | intro _ | with_reducible assumption | with_reducible apply State.put_closed H | with_reducible apply State.raise_closed H
    | with_reducible apply H.ite | split | dsimp only

theorem State.ntcWarnRail_closed (H : Closed Q) {s0 s : State} (h0 : Q s0 s) {r : Nat} :
    Q s0 (State.ntcWarnRail s r) := by
  unfold State.ntcWarnRail
  try dsimp only
  repeat' first
    | intro _ | with_reducible assumption | with_reducible apply State.modRail_closed H
    | with_reducible apply State.raise_closed H | with_reducible apply H.ite | split
    | fail_if_no_progress with_reducible apply H.set | dsimp only

theorem State.ntcShutCh_closed (H : Closed Q) {s0 s : State} (h0 : Q s0 s) {n : Nat} :
    Q s0 (State.ntcShutCh s n) := by
  unfold State.ntcShutCh
  try dsimp only
  repeat' first
    | intro _ | with_reducible assumption | with_reducible apply State.chFault_closed H
    | with_reducible apply State.chStop_closed H | with_reducible apply State.modCh_closed H | with_reducible apply H.ite
    | split | fail_if_no_progress with_reducible apply H.set | dsimp only

theorem State.ntcShutRail_closed (H : Closed Q) {s0 s : State} (h0 : Q s0 s) {r : Nat} :
    Q s0 (State.ntcShutRail s r) := by
  unfold State.ntcShutRail
  try dsimp only
  repeat' first
    | intro _ | with_reducible assumption | with_reducible apply State.chStop_closed H
    | with_reducible apply State.modRail_closed H | with_reducible apply State.railNtc_closed H | with_reducible apply H.ite
    | with_reducible apply H.each | split | fail_if_no_progress with_reducible apply H.set | dsimp only

theorem State.ntcEndCh_closed (H : Closed Q) {s0 s : State} (h0 : Q s0 s) {n : Nat} :
    Q s0 (State.ntcEndCh s n) := by
  unfold State.ntcEndCh
  try dsimp only
  repeat' first
    | intro _ | with_reducible assumption | with_reducible apply State.chResume_closed H
    | with_reducible apply State.modCh_closed H | with_reducible apply State.put_closed H | with_reducible apply H.ite | split
    | fail_if_no_progress with_reducible apply H.set | dsimp only

theorem State.ntcEndRail_closed (H : Closed Q) {s0 s : State} (h0 : Q s0 s) {r : Nat} :
    Q s0 (State.ntcEndRail s r) := by
  unfold State.ntcEndRail
  try dsimp only
  repeat' first
    | intro _ | with_reducible assumption | with_reducible apply State.modRail_closed H
    | with_reducible apply State.railEval_closed H | with_reducible apply State.railOff_closed H | with_reducible apply H.ite
    | split | fail_if_no_progress with_reducible apply H.set | dsimp only

theorem State.ntcWarns_closed (H : Closed Q) {s0 s : State} (h0 : Q s0 s) {k : Nat} {code : Nat} :
    Q s0 (State.ntcWarns s k code) := by
  unfold State.ntcWarns
  try dsimp only
  repeat' first
    | intro _ | with_reducible assumption | with_reducible apply State.ntcWarnCh_closed H
    | with_reducible apply State.ntcWarnRail_closed H | with_reducible apply State.put_closed H | with_reducible apply H.ite
    | with_reducible apply H.each | with_reducible apply H.when | split | dsimp only

theorem State.ntcCommit_closed (H : Closed Q) {s0 s : State} (h0 : Q s0 s) {old : State} :
    Q s0 (State.ntcCommit s old) := by
  unfold State.ntcCommit
  try dsimp only
  repeat' first
    | intro _ | with_reducible assumption | with_reducible apply State.ntcEndCh_closed H
    | with_reducible apply State.ntcEndRail_closed H | with_reducible apply State.ntcShutCh_closed H
    | with_reducible apply State.ntcShutRail_closed H | with_reducible apply State.ntcWarnCh_closed H
    | with_reducible apply State.ntcWarnRail_closed H | with_reducible apply H.ite | with_reducible apply H.each
    | with_reducible apply H.when | split | dsimp only

theorem State.measure_closed (H : Closed Q) {s0 s : State} (h0 : Q s0 s) {e'0 : Meas} :
    Q s0 (State.measure s e'0) := by
  cases e'0 <;> unfold State.measure <;> (try dsimp only) <;> repeat' first
    | intro _ | with_reducible assumption | with_reducible apply State.bumpBy_closed H
    | with_reducible apply State.put_closed H | with_reducible apply State.putI_closed H | dsimp only

end Sys2Proof.Machine
end

