-- ==== Sys2Proof/Laws/ClosedMixer.lean ====
section
/-! SUPPORT. The relations of Laws/Closed.lean hold across the operations of Machine/Mixer.lean: one lemma for each. -/

namespace Sys2Proof.Machine

variable {Q : State → State → Prop}

theorem State.lineRun_closed (H : Closed Q) {s0 s : State} (h0 : Q s0 s) {d : Nat} {x : Nat} {y : List Int} :
    Q s0 (State.lineRun s d x y).2 := by
  unfold State.lineRun
  try dsimp only
  repeat' first
    | intro _ | with_reducible assumption | with_reducible apply State.setWord_closed H | with_reducible apply H.foldl
    | with_reducible apply H.foldl_on (fun b : _ × State => b.2) | with_reducible apply H.foldl_on (fun b : State × _ => b.1)
    | with_reducible apply H.foldl_on (fun b : _ × _ × State => b.2.2)
    | with_reducible apply H.foldl_on (fun b : _ × _ × _ × State => b.2.2.2) | split
    | fail_if_no_progress with_reducible apply H.set | dsimp only

theorem State.mixTake_closed (H : Closed Q) {s0 s : State} (h0 : Q s0 s) {pages : List Nat} {m : Nat} :
    Q s0 (State.mixTake s pages m) := by
  unfold State.mixTake
  try dsimp only
  repeat' first
    | intro _ | with_reducible assumption | with_reducible apply State.withShadow_closed H | with_reducible apply H.ite | split
    | fail_if_no_progress with_reducible apply H.set | dsimp only

theorem State.mixPublish_closed (H : Closed Q) {s0 s : State} (h0 : Q s0 s) {old : State} {pages : List Nat} :
    Q s0 (State.mixPublish s old pages) := by
  unfold State.mixPublish
  try dsimp only
  repeat' first
    | intro _ | with_reducible assumption | with_reducible apply State.put_closed H | with_reducible apply State.raise_closed H
    | with_reducible apply H.ite | with_reducible apply H.each | with_reducible apply H.when | split
    | fail_if_no_progress with_reducible apply H.set | dsimp only

theorem State.mixCommit_closed (H : Closed Q) {s0 s : State} (h0 : Q s0 s) {old : State} {pages : List Nat} :
    Q s0 (State.mixCommit s old pages) := by
  unfold State.mixCommit
  try dsimp only
  repeat' first
    | intro _ | with_reducible assumption | with_reducible apply State.mixPublish_closed H
    | with_reducible apply State.mixTake_closed H | with_reducible apply H.ite | split
    | fail_if_no_progress with_reducible apply H.set | dsimp only

theorem State.mixBack_closed (H : Closed Q) {s0 s : State} (h0 : Q s0 s)  :
    Q s0 (State.mixBack s) := by
  unfold State.mixBack
  try dsimp only
  repeat' first
    | intro _ | with_reducible assumption | split | fail_if_no_progress with_reducible apply H.set | dsimp only

theorem State.mixStart_closed (H : Closed Q) {s0 s : State} (h0 : Q s0 s)  :
    Q s0 (State.mixStart s) := by
  unfold State.mixStart
  try dsimp only
  repeat' first
    | intro _ | with_reducible assumption | fail_if_no_progress with_reducible apply H.set | dsimp only

theorem State.alignTick_closed (H : Closed Q) {s0 s : State} (h0 : Q s0 s) {T : Nat} :
    Q s0 (State.alignTick s T) := by
  unfold State.alignTick
  try dsimp only
  repeat' first
    | intro _ | with_reducible assumption | with_reducible apply State.putBit_closed H
    | with_reducible apply State.raise_closed H | with_reducible apply H.ite | with_reducible apply H.when
    | with_reducible apply H.foldl | with_reducible apply H.foldl_on (fun b : _ × State => b.2)
    | with_reducible apply H.foldl_on (fun b : State × _ => b.1)
    | with_reducible apply H.foldl_on (fun b : _ × _ × State => b.2.2)
    | with_reducible apply H.foldl_on (fun b : _ × _ × _ × State => b.2.2.2) | split
    | fail_if_no_progress with_reducible apply H.set | dsimp only

theorem State.clipRecord_closed (H : Closed Q) {s0 s : State} (h0 : Q s0 s) {d : Nat} {tick : Nat} {n : Nat} :
    Q s0 (State.clipRecord s d tick n) := by
  unfold State.clipRecord
  try dsimp only
  repeat' first
    | intro _ | with_reducible assumption | with_reducible apply State.bump_closed H | with_reducible apply State.put_closed H
    | with_reducible apply State.raise_closed H | with_reducible apply State.setWord_closed H | with_reducible apply H.ite
    | split | fail_if_no_progress with_reducible apply H.set | dsimp only

theorem State.formDest_closed (H : Closed Q) {s0 s : State} (h0 : Q s0 s) {d : Nat} {m : Nat} {tick : Nat} {x : Nat} {read : Nat → List Int} :
    Q s0 (State.formDest s d m tick x read).2 := by
  unfold State.formDest
  try dsimp only
  repeat' first
    | intro _ | with_reducible assumption | with_reducible apply State.clipRecord_closed H
    | with_reducible apply State.lineRun_closed H | dsimp only

theorem State.maskView_closed (H : Closed Q) {s0 s : State} (h0 : Q s0 s)  :
    Q s0 (State.maskView s) := by
  unfold State.maskView
  try dsimp only
  repeat' first
    | intro _ | with_reducible assumption | with_reducible apply State.withShadow_closed H | dsimp only

theorem State.bankErrors_closed (H : Closed Q) {s0 s : State} (h0 : Q s0 s) {errs : List EccErr} :
    Q s0 (State.bankErrors s errs) := by
  unfold State.bankErrors
  try dsimp only
  repeat' first
    | intro _ | with_reducible assumption | with_reducible apply State.bump_closed H | with_reducible apply State.put_closed H
    | with_reducible apply State.raise_closed H | with_reducible apply H.ite | with_reducible apply H.foldl
    | with_reducible apply H.foldl_on (fun b : _ × State => b.2) | with_reducible apply H.foldl_on (fun b : State × _ => b.1)
    | with_reducible apply H.foldl_on (fun b : _ × _ × State => b.2.2)
    | with_reducible apply H.foldl_on (fun b : _ × _ × _ × State => b.2.2.2) | split
    | fail_if_no_progress with_reducible apply H.set | dsimp only

theorem State.earlyOpen_closed (H : Closed Q) {s0 s : State} (h0 : Q s0 s) {errs : List EccErr} :
    Q s0 (State.earlyOpen s errs) := by
  unfold State.earlyOpen
  try dsimp only
  repeat' first
    | intro _ | with_reducible assumption | with_reducible apply State.bankErrors_closed H
    | with_reducible apply State.mixTake_closed H | with_reducible apply H.when
    | fail_if_no_progress with_reducible apply H.set | dsimp only

theorem State.earlyPasses_closed (H : Closed Q) {s0 s : State} (h0 : Q s0 s)  :
    Q s0 (State.earlyPasses s) := by
  unfold State.earlyPasses
  try dsimp only
  repeat' first
    | intro _ | with_reducible assumption | with_reducible apply State.maskView_closed H
    | with_reducible apply State.nonAudioEntry_closed H | with_reducible apply State.put_closed H
    | with_reducible apply State.underrunEntry_closed H | with_reducible apply H.ite | with_reducible apply H.foldl
    | with_reducible apply H.foldl_on (fun b : _ × State => b.2) | with_reducible apply H.foldl_on (fun b : State × _ => b.1)
    | with_reducible apply H.foldl_on (fun b : _ × _ × State => b.2.2)
    | with_reducible apply H.foldl_on (fun b : _ × _ × _ × State => b.2.2.2) | split
    | fail_if_no_progress with_reducible apply H.set | dsimp only

theorem State.lateFeed_closed (H : Closed Q) {s0 s : State} (h0 : Q s0 s)  :
    Q s0 (State.lateFeed s) := by
  unfold State.lateFeed
  try dsimp only
  repeat' first
    | intro _ | with_reducible assumption | with_reducible apply State.alignTick_closed H
    | with_reducible apply State.formDest_closed H | with_reducible apply State.put_closed H
    | with_reducible apply State.spMissTick_closed H | with_reducible apply State.spNonAudio_closed H
    | with_reducible apply H.ite | with_reducible apply H.each | with_reducible apply H.foldl
    | with_reducible apply H.foldl_on (fun b : _ × State => b.2) | with_reducible apply H.foldl_on (fun b : State × _ => b.1)
    | with_reducible apply H.foldl_on (fun b : _ × _ × State => b.2.2)
    | with_reducible apply H.foldl_on (fun b : _ × _ × _ × State => b.2.2.2) | split
    | fail_if_no_progress with_reducible apply H.set | dsimp only

theorem State.lateOutput_closed (H : Closed Q) {s0 s : State} (h0 : Q s0 s)  :
    Q s0 (State.lateOutput s).2 := by
  unfold State.lateOutput
  try dsimp only
  repeat' first
    | intro _ | with_reducible assumption | with_reducible apply State.formDest_closed H
    | with_reducible apply State.maskView_closed H | with_reducible apply State.put_closed H
    | with_reducible apply State.setTxSample_closed H | with_reducible apply State.spOutStore_closed H
    | with_reducible apply H.ite | with_reducible apply H.each | with_reducible apply H.foldl
    | with_reducible apply H.foldl_on (fun b : _ × State => b.2) | with_reducible apply H.foldl_on (fun b : State × _ => b.1)
    | with_reducible apply H.foldl_on (fun b : _ × _ × State => b.2.2)
    | with_reducible apply H.foldl_on (fun b : _ × _ × _ × State => b.2.2.2) | split
    | fail_if_no_progress with_reducible apply H.set | dsimp only

theorem State.clearRead_closed (H : Closed Q) {s0 s : State} (h0 : Q s0 s)  :
    Q s0 (State.clearRead s) := by
  unfold State.clearRead
  try dsimp only
  repeat' first
    | intro _ | with_reducible assumption | with_reducible apply State.clearValidTick_closed H
    | with_reducible apply State.spClearTick_closed H | with_reducible apply H.ite | split | dsimp only

theorem State.copyBank_closed (H : Closed Q) {s0 s : State} (h0 : Q s0 s) {a b : Nat} : Q s0 (s.copyBank a b) := by
  unfold State.copyBank
  exact H.setMem h0 fun w => Sparse.wf_foldl_put (fun e : Nat × BitVec 8 => (e.1 - bankBase a + bankBase b, e.2)) _ (Sparse.wf_eraseRange _ _ w)

end Sys2Proof.Machine
end

