-- ==== Sys2Proof/Laws/ClosedCutList.lean ====
section
/-! SUPPORT. The relations of Laws/Closed.lean hold across the operations of Machine/CutList.lean: one lemma for each. -/

namespace Sys2Proof.Machine

variable {Q : State → State → Prop}

theorem State.copyRecord_closed (H : Closed Q) {s0 s : State} (h0 : Q s0 s) {d : Desc} :
    Q s0 (State.copyRecord s d) := by
  unfold State.copyRecord
  try dsimp only
  repeat' first
    | intro _ | with_reducible assumption | with_reducible apply State.setBytes_closed H | dsimp only

theorem State.setInst_closed (H : Closed Q) {s0 s : State} (h0 : Q s0 s) {id : Nat} {x : Inst} :
    Q s0 (State.setInst s id x) := by
  unfold State.setInst
  try dsimp only
  repeat' first
    | intro _ | with_reducible assumption | with_reducible apply State.put_closed H
    | fail_if_no_progress with_reducible apply H.set | dsimp only

theorem State.initEngine_closed (H : Closed Q) {s0 s : State} (h0 : Q s0 s) {n : Nat} :
    Q s0 (State.initEngine s n) := by
  unfold State.initEngine
  try dsimp only
  repeat' first
    | intro _ | with_reducible assumption | with_reducible apply State.setInst_closed H | with_reducible apply H.foldl
    | with_reducible apply H.foldl_on (fun b : _ × State => b.2) | with_reducible apply H.foldl_on (fun b : State × _ => b.1)
    | with_reducible apply H.foldl_on (fun b : _ × _ × State => b.2.2)
    | with_reducible apply H.foldl_on (fun b : _ × _ × _ × State => b.2.2.2) | fail_if_no_progress with_reducible apply H.set
    | dsimp only

theorem State.loadCut_closed (H : Closed Q) {s0 s : State} (h0 : Q s0 s) {c : Cut} :
    Q s0 (State.loadCut s c) := by
  unfold State.loadCut
  try dsimp only
  repeat' first
    | intro _ | with_reducible assumption | with_reducible apply State.copyRecord_closed H
    | with_reducible apply State.put_closed H | with_reducible apply H.ite | with_reducible apply H.each
    | with_reducible apply H.foldl | with_reducible apply H.foldl_on (fun b : _ × State => b.2)
    | with_reducible apply H.foldl_on (fun b : State × _ => b.1)
    | with_reducible apply H.foldl_on (fun b : _ × _ × State => b.2.2)
    | with_reducible apply H.foldl_on (fun b : _ × _ × _ × State => b.2.2.2) | split
    | fail_if_no_progress with_reducible apply H.set | dsimp only

theorem State.paramUpdate_closed (H : Closed Q) {s0 s : State} (h0 : Q s0 s) {n : Nat} {k : Nat} :
    Q s0 (State.paramUpdate s n k) := by
  unfold State.paramUpdate
  try dsimp only
  repeat' first
    | intro _ | with_reducible assumption | with_reducible apply State.copyRecord_closed H
    | with_reducible apply State.put_closed H | with_reducible apply H.ite | split
    | fail_if_no_progress with_reducible apply H.set | dsimp only

theorem State.restartEngine_closed (H : Closed Q) {s0 s : State} (h0 : Q s0 s) {n : Nat} :
    Q s0 (State.restartEngine s n) := by
  unfold State.restartEngine
  try dsimp only
  repeat' first
    | intro _ | with_reducible assumption | with_reducible apply State.copyRecord_closed H
    | with_reducible apply State.initEngine_closed H | with_reducible apply State.put_closed H | with_reducible apply H.ite
    | with_reducible apply H.foldl | with_reducible apply H.foldl_on (fun b : _ × State => b.2)
    | with_reducible apply H.foldl_on (fun b : State × _ => b.1)
    | with_reducible apply H.foldl_on (fun b : _ × _ × State => b.2.2)
    | with_reducible apply H.foldl_on (fun b : _ × _ × _ × State => b.2.2.2) | split | dsimp only

theorem State.engineCommit_closed (H : Closed Q) {s0 s : State} (h0 : Q s0 s) {old : State} {pages : List Nat} {cut : Option Cut} :
    Q s0 (State.engineCommit s old pages cut) := by
  unfold State.engineCommit
  try dsimp only
  repeat' first
    | intro _ | with_reducible assumption | with_reducible apply State.initEngine_closed H
    | with_reducible apply State.loadCut_closed H | with_reducible apply State.paramUpdate_closed H
    | with_reducible apply State.restartEngine_closed H | with_reducible apply H.ite | with_reducible apply H.each
    | with_reducible apply H.when | split | fail_if_no_progress with_reducible apply H.set | dsimp only

end Sys2Proof.Machine
end

