-- ==== Sys2Proof/Laws/ClosedEngine.lean ====
section
/-! SUPPORT. The relations of Laws/Closed.lean hold across the operations of Machine/Engine.lean: one lemma for each. -/

namespace Sys2Proof.Machine

variable {Q : State → State → Prop}

theorem State.engineFault_closed (H : Closed Q) {s0 s : State} (h0 : Q s0 s) {n : Nat} {cause : Nat} {inst : Option Nat} :
    Q s0 (State.engineFault s n cause inst) := by
  unfold State.engineFault
  try dsimp only
  repeat' first
    | intro _ | with_reducible assumption | with_reducible apply State.bump_closed H
    | with_reducible apply State.demote_closed H | with_reducible apply State.put_closed H
    | with_reducible apply State.raise_closed H | with_reducible apply H.ite | with_reducible apply H.when | split | dsimp only

theorem State.runInit_closed (H : Closed Q) {s0 s : State} (h0 : Q s0 s) {d : Desc} {w : List Nat} :
    Q s0 (State.runInit s d w) := by
  unfold State.runInit
  try dsimp only
  repeat' first
    | intro _ | with_reducible assumption | with_reducible apply State.bump_closed H
    | with_reducible apply State.setInst_closed H | with_reducible apply H.ite | split | dsimp only

theorem State.control_closed (H : Closed Q) {s0 s : State} (h0 : Q s0 s) {d : Desc} {w : List Nat} {c : Nat} :
    Q s0 (State.control s d w c) := by
  unfold State.control
  try dsimp only
  repeat' first
    | intro _ | with_reducible assumption | with_reducible apply State.bump_closed H
    | with_reducible apply State.setInst_closed H | with_reducible apply H.ite | split
    | fail_if_no_progress with_reducible apply H.set | dsimp only

theorem State.readControl_closed (H : Closed Q) {s0 s : State} (h0 : Q s0 s) {d : Desc} :
    Q s0 (State.readControl s d) := by
  unfold State.readControl
  try dsimp only
  repeat' first
    | intro _ | with_reducible assumption | with_reducible apply State.control_closed H
    | with_reducible apply State.denyRecord_closed H | with_reducible apply State.engineFault_closed H
    | with_reducible apply State.runInit_closed H | with_reducible apply State.setInst_closed H | with_reducible apply H.ite
    | split | fail_if_no_progress with_reducible apply H.set | dsimp only

theorem State.readControls_closed (H : Closed Q) {s0 s : State} (h0 : Q s0 s)  :
    Q s0 (State.readControls s) := by
  unfold State.readControls
  try dsimp only
  repeat' first
    | intro _ | with_reducible assumption | with_reducible apply State.readControl_closed H | with_reducible apply H.ite
    | with_reducible apply H.foldl | with_reducible apply H.foldl_on (fun b : _ × State => b.2)
    | with_reducible apply H.foldl_on (fun b : State × _ => b.1)
    | with_reducible apply H.foldl_on (fun b : _ × _ × State => b.2.2)
    | with_reducible apply H.foldl_on (fun b : _ × _ × _ × State => b.2.2.2) | split | dsimp only

theorem State.engWrite_closed (H : Closed Q) {s0 s : State} (h0 : Q s0 s) {a : Nat} {v : Nat} :
    Q s0 (State.engWrite s a v).2 := by
  unfold State.engWrite
  try dsimp only
  repeat' first
    | intro _ | with_reducible assumption | with_reducible apply State.denyRecord_closed H
    | with_reducible apply State.setWord_closed H | with_reducible apply H.ite | split | dsimp only

theorem State.engWrites_closed (H : Closed Q) {s0 s : State} (h0 : Q s0 s) {a : Nat} {e'0 : List Nat} :
    Q s0 (State.engWrites s a e'0).2 := by
  induction e'0 generalizing s a with
  | nil =>
    unfold State.engWrites
    try dsimp only
    repeat' first
      | intro _ | with_reducible assumption | with_reducible apply State.engWrite_closed H | with_reducible apply H.ite | split
      | dsimp only
  | cons x l ih =>
    unfold State.engWrites
    try dsimp only
    repeat' first
      | intro _ | with_reducible assumption | with_reducible apply ih | with_reducible apply State.engWrite_closed H
      | with_reducible apply H.ite | split | dsimp only

theorem blockGain_closed (H : Closed Q) {s0 s : State} (h0 : Q s0 s) {w : List Nat} {x : Inst} {xs : List (List Int)} :
    Q s0 (blockGain w s x xs).s := by
  unfold blockGain
  try dsimp only
  repeat' first
    | intro _ | with_reducible assumption | with_reducible apply H.ite | split | fail_if_no_progress with_reducible apply H.set
    | dsimp only

theorem blockBiquad_closed (H : Closed Q) {s0 s : State} (h0 : Q s0 s) {d : Desc} {w : List Nat} {x : Inst} {xs : List (List Int)} :
    Q s0 (blockBiquad d w s x xs).s := by
  unfold blockBiquad
  try dsimp only
  repeat' first
    | intro _ | with_reducible assumption | with_reducible apply State.hist_closed H
    | fail_if_no_progress with_reducible apply H.set | dsimp only

theorem blockFir_closed (H : Closed Q) {s0 s : State} (h0 : Q s0 s) {d : Desc} {w : List Nat} {x : Inst} {xs : List (List Int)} :
    Q s0 (blockFir d w s x xs).s := by
  unfold blockFir
  try dsimp only
  repeat' first
    | intro _ | with_reducible assumption | with_reducible apply State.hist_closed H
    | fail_if_no_progress with_reducible apply H.set | dsimp only

theorem blockDelay_closed (H : Closed Q) {s0 s : State} (h0 : Q s0 s) {w : List Nat} {x : Inst} {xs : List (List Int)} :
    Q s0 (blockDelay w s x xs).s := by
  unfold blockDelay
  try dsimp only
  repeat' first
    | intro _ | with_reducible assumption | with_reducible apply State.denyRecord_closed H
    | with_reducible apply State.engWrite_closed H | with_reducible apply H.ite | with_reducible apply H.foldl
    | with_reducible apply H.foldl_on (fun b : _ × State => b.2) | with_reducible apply H.foldl_on (fun b : State × _ => b.1)
    | with_reducible apply H.foldl_on (fun b : _ × _ × State => b.2.2)
    | with_reducible apply H.foldl_on (fun b : _ × _ × _ × State => b.2.2.2) | split
    | fail_if_no_progress with_reducible apply H.set | dsimp only

theorem blockLimiter_closed (H : Closed Q) {s0 s : State} (h0 : Q s0 s) {w : List Nat} {x : Inst} {xs : List Int} :
    Q s0 (blockLimiter w s x xs).s := by
  unfold blockLimiter
  try dsimp only
  repeat' first
    | intro _ | with_reducible assumption | with_reducible apply State.gainRun_closed H
    | fail_if_no_progress with_reducible apply H.set | dsimp only

theorem blockCompressor_closed (H : Closed Q) {s0 s : State} (h0 : Q s0 s) {w : List Nat} {x : Inst} {xs : List Int} :
    Q s0 (blockCompressor w s x xs).s := by
  unfold blockCompressor
  try dsimp only
  repeat' first
    | intro _ | with_reducible assumption | with_reducible apply State.gainRun_closed H
    | fail_if_no_progress with_reducible apply H.set | dsimp only

theorem blockAgc_closed (H : Closed Q) {s0 s : State} (h0 : Q s0 s) {w : List Nat} {x : Inst} {xs : List Int} :
    Q s0 (blockAgc w s x xs).s := by
  unfold blockAgc
  try dsimp only
  repeat' first
    | intro _ | with_reducible assumption | with_reducible apply State.gainRun_closed H | with_reducible apply H.ite | split
    | fail_if_no_progress with_reducible apply H.set | dsimp only

theorem blockNoise_closed (H : Closed Q) {s0 s : State} (h0 : Q s0 s) {w : List Nat} {x : Inst} {xs : List (List Int)} :
    Q s0 (blockNoise w s x xs).s := by
  unfold blockNoise
  try dsimp only
  repeat' first
    | intro _ | with_reducible assumption | with_reducible apply H.ite | split | dsimp only

theorem blockAng_closed (H : Closed Q) {s0 s : State} (h0 : Q s0 s) {w : List Nat} {aux : List Int} {x : Inst} {xs : List (List Int)} :
    Q s0 (blockAng w aux s x xs).s := by
  unfold blockAng
  try dsimp only
  repeat' first
    | intro _ | with_reducible assumption | with_reducible apply State.engWrites_closed H | with_reducible apply H.ite | split
    | fail_if_no_progress with_reducible apply H.set | dsimp only

theorem blockAec_closed (H : Closed Q) {s0 s : State} (h0 : Q s0 s) {d : Desc} {w : List Nat} {aux : List Int} {x : Inst} {xs : List (List Int)} :
    Q s0 (blockAec d w aux s x xs).s := by
  unfold blockAec
  try dsimp only
  repeat' first
    | intro _ | with_reducible assumption | with_reducible apply State.engWrites_closed H
    | with_reducible apply State.hist_closed H | with_reducible apply H.ite | split
    | fail_if_no_progress with_reducible apply H.set | dsimp only

theorem blockTone_closed (H : Closed Q) {s0 s : State} (h0 : Q s0 s) {w : List Nat} {x : Inst} {xs : List (List Int)} :
    Q s0 (blockTone w s x xs).s := by
  unfold blockTone
  try dsimp only
  repeat' first
    | intro _ | with_reducible assumption | with_reducible apply H.ite | with_reducible apply H.foldl
    | with_reducible apply H.foldl_on (fun b : _ × State => b.2) | with_reducible apply H.foldl_on (fun b : State × _ => b.1)
    | with_reducible apply H.foldl_on (fun b : _ × _ × State => b.2.2)
    | with_reducible apply H.foldl_on (fun b : _ × _ × _ × State => b.2.2.2) | split
    | fail_if_no_progress with_reducible apply H.set | dsimp only

theorem State.clipCodes_closed (H : Closed Q) {s0 s : State} (h0 : Q s0 s) {base : Nat} {e'0 : List Nat} :
    Q s0 (State.clipCodes s base e'0).2.2 := by
  induction e'0 generalizing s base with
  | nil =>
    unfold State.clipCodes
    try dsimp only
    repeat' first
      | intro _ | with_reducible assumption | with_reducible apply State.denyRecord_closed H | with_reducible apply H.ite
      | split | dsimp only
  | cons x l ih =>
    unfold State.clipCodes
    try dsimp only
    repeat' first
      | intro _ | with_reducible assumption | with_reducible apply ih | with_reducible apply State.denyRecord_closed H
      | with_reducible apply H.ite | split | dsimp only

theorem blockClip_closed (H : Closed Q) {s0 s : State} (h0 : Q s0 s) {d : Desc} {w : List Nat} {x : Inst} {xs : List (List Int)} :
    Q s0 (blockClip d w s x xs).s := by
  unfold blockClip
  extract_lets g p len held p2 total have_ coef ends present xin codes dec alg r q1 q2 src je t pos u
  have hc : Q s0 codes.2.2 := by
    unfold codes
    split
    · exact h0
    · exact State.clipCodes_closed H h0
  clear_value codes
  have hr : Q s0 r.2.2.2 := by
    refine H.foldl_on (fun b : List Int × Bool × Bool × State => b.2.2.2) hc fun a v h => ?_
    dsimp only
    repeat' split
    · exact h
    · exact h
    · exact State.denyRecord_closed H h
    · exact h
    · exact h
  clear_value r
  have ht : Q s0 t := by
    unfold t
    split
    · exact H.set hr
    · exact hr
  clear_value t
  show Q s0 u.2
  unfold u
  split
  · exact ht
  · exact State.engWrites_closed H ht

theorem blockEncoder_closed (H : Closed Q) {s0 s : State} (h0 : Q s0 s) {w : List Nat} {x : Inst} {xs : List (List Int)} :
    Q s0 (blockEncoder w s x xs).s := by
  unfold blockEncoder
  try dsimp only
  repeat' first
    | intro _ | with_reducible assumption | with_reducible apply State.denyRecord_closed H
    | with_reducible apply State.engWrites_closed H | with_reducible apply State.setByte_closed H | with_reducible apply H.ite
    | with_reducible apply H.foldl | with_reducible apply H.foldl_on (fun b : _ × State => b.2)
    | with_reducible apply H.foldl_on (fun b : State × _ => b.1)
    | with_reducible apply H.foldl_on (fun b : _ × _ × State => b.2.2)
    | with_reducible apply H.foldl_on (fun b : _ × _ × _ × State => b.2.2.2) | split
    | fail_if_no_progress with_reducible apply H.set | dsimp only

theorem blockMeter_closed (H : Closed Q) {s0 s : State} (h0 : Q s0 s) {w : List Nat} {x : Inst} {xs : List (List Int)} :
    Q s0 (blockMeter w s x xs).s := by
  unfold blockMeter
  try dsimp only
  repeat' first
    | intro _ | with_reducible assumption | with_reducible apply State.engWrites_closed H | with_reducible apply H.ite | split
    | fail_if_no_progress with_reducible apply H.set | dsimp only

theorem blockEnvelope_closed (H : Closed Q) {s0 s : State} (h0 : Q s0 s) {w : List Nat} {x : Inst} {xs : List (List Int)} :
    Q s0 (blockEnvelope w s x xs).s := by
  unfold blockEnvelope
  try dsimp only
  repeat' first
    | intro _ | with_reducible assumption | with_reducible apply H.foldl
    | with_reducible apply H.foldl_on (fun b : _ × State => b.2) | with_reducible apply H.foldl_on (fun b : State × _ => b.1)
    | with_reducible apply H.foldl_on (fun b : _ × _ × State => b.2.2)
    | with_reducible apply H.foldl_on (fun b : _ × _ × _ × State => b.2.2.2) | fail_if_no_progress with_reducible apply H.set
    | dsimp only

theorem blockRun_closed (H : Closed Q) {s0 s : State} (h0 : Q s0 s) {d : Desc} {w : List Nat} {aux : List Int} {x : Inst} {xs : List (List Int)} :
    Q s0 (blockRun d w aux s x xs).s := by
  unfold blockRun
  try dsimp only
  repeat' first
    | intro _ | with_reducible assumption | with_reducible apply blockAec_closed H | with_reducible apply blockAgc_closed H
    | with_reducible apply blockAng_closed H | with_reducible apply blockBiquad_closed H
    | with_reducible apply blockClip_closed H | with_reducible apply blockCompressor_closed H
    | with_reducible apply blockDelay_closed H | with_reducible apply blockEncoder_closed H
    | with_reducible apply blockEnvelope_closed H | with_reducible apply blockFir_closed H
    | with_reducible apply blockGain_closed H | with_reducible apply blockLimiter_closed H
    | with_reducible apply blockMeter_closed H | with_reducible apply blockNoise_closed H
    | with_reducible apply blockTone_closed H | split | fail_if_no_progress with_reducible apply H.set | dsimp only

theorem State.instRun_closed (H : Closed Q) {s0 s : State} (h0 : Q s0 s) {d : Desc} {buses : Sparse (List Int)} :
    Q s0 (State.instRun s d buses).2 := by
  unfold State.instRun
  try dsimp only
  repeat' first
    | intro _ | with_reducible assumption | with_reducible apply State.engineFault_closed H
    | with_reducible apply State.put_closed H | with_reducible apply State.runInit_closed H
    | with_reducible apply State.setInst_closed H | with_reducible apply blockRun_closed H | with_reducible apply H.ite
    | with_reducible apply H.foldl | with_reducible apply H.foldl_on (fun b : _ × State => b.2)
    | with_reducible apply H.foldl_on (fun b : State × _ => b.1)
    | with_reducible apply H.foldl_on (fun b : _ × _ × State => b.2.2)
    | with_reducible apply H.foldl_on (fun b : _ × _ × _ × State => b.2.2.2) | split
    | fail_if_no_progress with_reducible apply H.set | dsimp only

theorem State.instsRun_closed (H : Closed Q) {s0 s : State} (h0 : Q s0 s) {n : Nat} {e'0 : List Desc} {e'1 : Sparse (List Int)} :
    Q s0 (State.instsRun s n e'0 e'1).2 := by
  induction e'0 generalizing s n e'1 with
  | nil =>
    unfold State.instsRun
    try dsimp only
    repeat' first
      | intro _ | with_reducible assumption | with_reducible apply State.instRun_closed H | with_reducible apply H.ite | split
      | dsimp only
  | cons x l ih =>
    unfold State.instsRun
    try dsimp only
    repeat' first
      | intro _ | with_reducible assumption | with_reducible apply ih | with_reducible apply State.instRun_closed H
      | with_reducible apply H.ite | split | dsimp only

theorem State.dropPeaks_closed (H : Closed Q) {s0 s : State} (h0 : Q s0 s) {n : Nat} :
    Q s0 (State.dropPeaks s n) := by
  unfold State.dropPeaks
  try dsimp only
  repeat' first
    | intro _ | with_reducible assumption | with_reducible apply H.foldl
    | with_reducible apply H.foldl_on (fun b : _ × State => b.2) | with_reducible apply H.foldl_on (fun b : State × _ => b.1)
    | with_reducible apply H.foldl_on (fun b : _ × _ × State => b.2.2)
    | with_reducible apply H.foldl_on (fun b : _ × _ × _ × State => b.2.2.2) | fail_if_no_progress with_reducible apply H.set
    | dsimp only

theorem State.engineTick_closed (H : Closed Q) {s0 s : State} (h0 : Q s0 s) {late : List EngLate} {n : Nat} :
    Q s0 (State.engineTick s late n) := by
  unfold State.engineTick
  try dsimp only
  repeat' first
    | intro _ | with_reducible assumption | with_reducible apply State.bump_closed H
    | with_reducible apply State.dropPeaks_closed H | with_reducible apply State.engineFault_closed H
    | with_reducible apply State.instsRun_closed H | with_reducible apply State.put_closed H
    | with_reducible apply State.raise_closed H | with_reducible apply State.setInst_closed H | with_reducible apply H.ite
    | with_reducible apply H.when | with_reducible apply H.foldl | with_reducible apply H.foldl_on (fun b : _ × State => b.2)
    | with_reducible apply H.foldl_on (fun b : State × _ => b.1)
    | with_reducible apply H.foldl_on (fun b : _ × _ × State => b.2.2)
    | with_reducible apply H.foldl_on (fun b : _ × _ × _ × State => b.2.2.2) | split
    | fail_if_no_progress with_reducible apply H.set | dsimp only

theorem State.stormCheck_closed (H : Closed Q) {s0 s : State} (h0 : Q s0 s)  :
    Q s0 (State.stormCheck s) := by
  unfold State.stormCheck
  try dsimp only
  repeat' first
    | intro _ | with_reducible assumption | with_reducible apply State.fatal_closed H | with_reducible apply State.put_closed H
    | with_reducible apply H.when | fail_if_no_progress with_reducible apply H.set | dsimp only

theorem State.clipShort_closed (H : Closed Q) {s0 s : State} (h0 : Q s0 s)  :
    Q s0 (State.clipShort s) := by
  unfold State.clipShort
  try dsimp only
  repeat' first
    | intro _ | with_reducible assumption | with_reducible apply State.bump_closed H
    | with_reducible apply State.raise_closed H | with_reducible apply H.each | with_reducible apply H.when
    | fail_if_no_progress with_reducible apply H.set | dsimp only

theorem State.engineFaults_closed (H : Closed Q) {s0 s : State} (h0 : Q s0 s) {faults : List EngFault} {ecc : List EccErr} :
    Q s0 (State.engineFaults s faults ecc) := by
  unfold State.engineFaults
  try dsimp only
  repeat' first
    | intro _ | with_reducible assumption | with_reducible apply State.bump_closed H
    | with_reducible apply State.engineFault_closed H | with_reducible apply State.put_closed H | with_reducible apply H.ite
    | with_reducible apply H.foldl | with_reducible apply H.foldl_on (fun b : _ × State => b.2)
    | with_reducible apply H.foldl_on (fun b : State × _ => b.1)
    | with_reducible apply H.foldl_on (fun b : _ × _ × State => b.2.2)
    | with_reducible apply H.foldl_on (fun b : _ × _ × _ × State => b.2.2.2) | split
    | fail_if_no_progress with_reducible apply H.set | dsimp only

theorem State.enginesRun_closed (H : Closed Q) {s0 s : State} (h0 : Q s0 s) {late : List EngLate} :
    Q s0 (State.enginesRun s late) := by
  unfold State.enginesRun
  try dsimp only
  repeat' first
    | intro _ | with_reducible assumption | with_reducible apply State.clipShort_closed H
    | with_reducible apply State.engineTick_closed H | with_reducible apply State.stormCheck_closed H
    | with_reducible apply H.foldl | with_reducible apply H.foldl_on (fun b : _ × State => b.2)
    | with_reducible apply H.foldl_on (fun b : State × _ => b.1)
    | with_reducible apply H.foldl_on (fun b : _ × _ × State => b.2.2)
    | with_reducible apply H.foldl_on (fun b : _ × _ × _ × State => b.2.2.2) | fail_if_no_progress with_reducible apply H.set
    | dsimp only

theorem State.enginesStop_closed (H : Closed Q) {s0 s : State} (h0 : Q s0 s)  :
    Q s0 (State.enginesStop s) := by
  unfold State.enginesStop
  try dsimp only
  repeat' first
    | intro _ | with_reducible assumption | fail_if_no_progress with_reducible apply H.set | dsimp only

theorem State.prefetch_closed (H : Closed Q) {s0 s : State} (h0 : Q s0 s) {d : Desc} {c : Clip} {bytes : Nat} :
    Q s0 (State.prefetch s d c bytes) := by
  unfold State.prefetch
  try dsimp only
  repeat' first
    | intro _ | with_reducible assumption | with_reducible apply State.bump_closed H
    | with_reducible apply State.denyRecord_closed H | with_reducible apply State.raise_closed H
    | with_reducible apply State.setByte_closed H | with_reducible apply State.setInst_closed H | with_reducible apply H.ite
    | with_reducible apply H.foldl | with_reducible apply H.foldl_on (fun b : _ × State => b.2)
    | with_reducible apply H.foldl_on (fun b : State × _ => b.1)
    | with_reducible apply H.foldl_on (fun b : _ × _ × State => b.2.2)
    | with_reducible apply H.foldl_on (fun b : _ × _ × _ × State => b.2.2.2) | split
    | fail_if_no_progress with_reducible apply H.set | dsimp only

end Sys2Proof.Machine
end

