-- ==== Sys2Proof/Laws/ClosedServices.lean ====
section
/-! SUPPORT. The relations of Laws/Closed.lean hold across the operations of Machine/Services.lean: one lemma for each. -/

namespace Sys2Proof.Machine

variable {Q : State → State → Prop}

theorem State.svcWrite_closed (H : Closed Q) {s0 s : State} (h0 : Q s0 s) {a : Nat} {ws : List Nat} :
    Q s0 (State.svcWrite s a ws) := by
  unfold State.svcWrite
  try dsimp only
  repeat' first
    | intro _ | with_reducible assumption | with_reducible apply State.denyRecord_closed H
    | with_reducible apply State.setWord_closed H | with_reducible apply H.ite | with_reducible apply H.foldl
    | with_reducible apply H.foldl_on (fun b : _ × State => b.2) | with_reducible apply H.foldl_on (fun b : State × _ => b.1)
    | with_reducible apply H.foldl_on (fun b : _ × _ × State => b.2.2)
    | with_reducible apply H.foldl_on (fun b : _ × _ × _ × State => b.2.2.2) | split | dsimp only

theorem State.svcRecord_closed (H : Closed Q) {s0 s : State} (h0 : Q s0 s) {id : Nat} {outcome : Nat} {reason : Nat} {pos : Nat} {endCode : Nat} {other : Nat} :
    Q s0 (State.svcRecord s id outcome reason pos endCode other) := by
  unfold State.svcRecord
  try dsimp only
  repeat' first
    | intro _ | with_reducible assumption | with_reducible apply State.bump_closed H | with_reducible apply State.put_closed H
    | with_reducible apply State.raise_closed H | with_reducible apply State.svcWrite_closed H | with_reducible apply H.ite
    | split | fail_if_no_progress with_reducible apply H.set | dsimp only

theorem State.refuse_closed (H : Closed Q) {s0 s : State} (h0 : Q s0 s) {id : Word} {reason : Nat} :
    Q s0 (State.refuse s id reason) := by
  unfold State.refuse
  try dsimp only
  repeat' first
    | intro _ | with_reducible assumption | with_reducible apply State.svcRecord_closed H | dsimp only

theorem State.svcControl_closed (H : Closed Q) {s0 s : State} (h0 : Q s0 s) {inst : Nat} {word : Nat} :
    Q s0 (State.svcControl s inst word) := by
  unfold State.svcControl
  try dsimp only
  repeat' first
    | intro _ | with_reducible assumption | with_reducible apply State.svcWrite_closed H | split
    | fail_if_no_progress with_reducible apply H.set | dsimp only

theorem State.callSet_closed (H : Closed Q) {s0 s : State} (h0 : Q s0 s) {slot : Nat} {state : Nat} {console : Nat} {id : Nat} :
    Q s0 (State.callSet s slot state console id) := by
  unfold State.callSet
  try dsimp only
  repeat' first
    | intro _ | with_reducible assumption | with_reducible apply State.put_closed H | with_reducible apply State.raise_closed H
    | dsimp only

theorem State.svcAct_closed (H : Closed Q) {s0 s : State} (h0 : Q s0 s) {e'0 : SvcAct} :
    Q s0 (State.svcAct s e'0) := by
  cases e'0 <;> unfold State.svcAct <;> (try dsimp only) <;> repeat' first
    | intro _ | with_reducible assumption | with_reducible apply State.callSet_closed H
    | with_reducible apply State.control_closed H | with_reducible apply State.svcControl_closed H
    | with_reducible apply State.svcRecord_closed H | with_reducible apply H.ite | split
    | fail_if_no_progress with_reducible apply H.set | dsimp only

theorem State.svcDo_closed (H : Closed Q) {s0 s : State} (h0 : Q s0 s) {a : SvcAct} :
    Q s0 (State.svcDo s a) := by
  unfold State.svcDo
  try dsimp only
  repeat' first
    | intro _ | with_reducible assumption | fail_if_no_progress with_reducible apply H.set | dsimp only

theorem State.asReq_closed (H : Closed Q) {s0 s : State} (h0 : Q s0 s) {id : Nat} {f : State → State} (hf_f : ∀ t, Q s0 t → Q s0 (f t)) :
    Q s0 (State.asReq s id f) := by
  unfold State.asReq
  try dsimp only
  repeat' first
    | intro _ | with_reducible assumption | apply hf_f | fail_if_no_progress with_reducible apply H.set | dsimp only

theorem State.endGrant_closed (H : Closed Q) {s0 s : State} (h0 : Q s0 s) {g : Grant} {fade : Bool} {stop : Bool} {rec : SvcAct} :
    Q s0 (State.endGrant s g fade stop rec) := by
  unfold State.endGrant
  try dsimp only
  repeat' first
    | intro _ | with_reducible assumption | with_reducible apply State.svcDo_closed H | with_reducible apply H.ite
    | with_reducible apply H.foldl | with_reducible apply H.foldl_on (fun b : _ × State => b.2)
    | with_reducible apply H.foldl_on (fun b : State × _ => b.1)
    | with_reducible apply H.foldl_on (fun b : _ × _ × State => b.2.2)
    | with_reducible apply H.foldl_on (fun b : _ × _ × _ × State => b.2.2.2) | split
    | fail_if_no_progress with_reducible apply H.set | dsimp only

theorem State.preempt_closed (H : Closed Q) {s0 s : State} (h0 : Q s0 s) {g : Grant} {fade : Bool} {other : Word} :
    Q s0 (State.preempt s g fade other) := by
  unfold State.preempt
  try dsimp only
  repeat' first
    | intro _ | with_reducible assumption | with_reducible apply State.endGrant_closed H | dsimp only

theorem State.duckRecords_closed (H : Closed Q) {s0 s : State} (h0 : Q s0 s)  :
    Q s0 (State.duckRecords s) := by
  unfold State.duckRecords
  try dsimp only
  repeat' first
    | intro _ | with_reducible assumption | with_reducible apply State.svcDo_closed H | with_reducible apply H.ite
    | with_reducible apply H.foldl | with_reducible apply H.foldl_on (fun b : _ × State => b.2)
    | with_reducible apply H.foldl_on (fun b : State × _ => b.1)
    | with_reducible apply H.foldl_on (fun b : _ × _ × State => b.2.2)
    | with_reducible apply H.foldl_on (fun b : _ × _ × _ × State => b.2.2.2) | split
    | fail_if_no_progress with_reducible apply H.set | dsimp only

theorem State.defer_closed (H : Closed Q) {s0 s : State} (h0 : Q s0 s) {r : SvcReq} {call : Bool} {zs : List Nat} {forRes : Bool} {was : Option Waiting} :
    Q s0 (State.defer s r call zs forRes was) := by
  unfold State.defer
  try dsimp only
  repeat' first
    | intro _ | with_reducible assumption | with_reducible apply State.raise_closed H
    | with_reducible apply State.refuse_closed H | with_reducible apply State.svcDo_closed H
    | with_reducible apply State.svcRecord_closed H | with_reducible apply H.ite | with_reducible apply H.when
    | with_reducible apply H.foldl | with_reducible apply H.foldl_on (fun b : _ × State => b.2)
    | with_reducible apply H.foldl_on (fun b : State × _ => b.1)
    | with_reducible apply H.foldl_on (fun b : _ × _ × State => b.2.2)
    | with_reducible apply H.foldl_on (fun b : _ × _ × _ × State => b.2.2.2) | split
    | fail_if_no_progress with_reducible apply H.set | dsimp only

theorem State.grantNow_closed (H : Closed Q) {s0 s : State} (h0 : Q s0 s) {r : SvcReq} {call : Bool} {preempted : List Grant} {evicted : List Grant} {k : Option Nat} :
    Q s0 (State.grantNow s r call preempted evicted k) := by
  unfold State.grantNow
  try dsimp only
  repeat' first
    | intro _ | with_reducible assumption | with_reducible apply State.bump_closed H
    | with_reducible apply State.duckRecords_closed H | with_reducible apply State.preempt_closed H
    | with_reducible apply State.svcDo_closed H | with_reducible apply H.ite | with_reducible apply H.foldl
    | with_reducible apply H.foldl_on (fun b : _ × State => b.2) | with_reducible apply H.foldl_on (fun b : State × _ => b.1)
    | with_reducible apply H.foldl_on (fun b : _ × _ × State => b.2.2)
    | with_reducible apply H.foldl_on (fun b : _ × _ × _ × State => b.2.2.2) | split
    | fail_if_no_progress with_reducible apply H.set | dsimp only

theorem State.decidePlay_closed (H : Closed Q) {s0 s : State} (h0 : Q s0 s) {r : SvcReq} {was : Option Waiting} :
    Q s0 (State.decidePlay s r was) := by
  unfold State.decidePlay
  try dsimp only
  repeat' first
    | intro _ | with_reducible assumption | with_reducible apply State.defer_closed H
    | with_reducible apply State.grantNow_closed H | with_reducible apply State.refuse_closed H | with_reducible apply H.ite
    | split | fail_if_no_progress with_reducible apply H.set | dsimp only

theorem State.decideCall_closed (H : Closed Q) {s0 s : State} (h0 : Q s0 s) {r : SvcReq} {was : Option Waiting} :
    Q s0 (State.decideCall s r was) := by
  unfold State.decideCall
  try dsimp only
  repeat' first
    | intro _ | with_reducible assumption | with_reducible apply State.defer_closed H
    | with_reducible apply State.grantNow_closed H | with_reducible apply State.refuse_closed H | split
    | fail_if_no_progress with_reducible apply H.set | dsimp only

theorem State.queuePass_closed (H : Closed Q) {s0 s : State} (h0 : Q s0 s)  :
    Q s0 (State.queuePass s) := by
  unfold State.queuePass
  try dsimp only
  repeat' first
    | intro _ | with_reducible assumption | with_reducible apply State.asReq_closed H
    | with_reducible apply State.decideCall_closed H | with_reducible apply State.decidePlay_closed H
    | with_reducible apply H.ite | with_reducible apply H.foldl | with_reducible apply H.foldl_on (fun b : _ × State => b.2)
    | with_reducible apply H.foldl_on (fun b : State × _ => b.1)
    | with_reducible apply H.foldl_on (fun b : _ × _ × State => b.2.2)
    | with_reducible apply H.foldl_on (fun b : _ × _ × _ × State => b.2.2.2) | split | dsimp only

theorem State.redecide_closed (H : Closed Q) {s0 s : State} (h0 : Q s0 s) {e'0 : Nat} :
    Q s0 (State.redecide s e'0) := by
  induction e'0 generalizing s with
  | zero =>
    unfold State.redecide
    try dsimp only
    repeat' first
      | intro _ | with_reducible assumption | with_reducible apply State.queuePass_closed H | with_reducible apply H.ite
      | split | dsimp only
  | succ n ih =>
    unfold State.redecide
    try dsimp only
    repeat' first
      | intro _ | with_reducible assumption | with_reducible apply ih | with_reducible apply State.queuePass_closed H
      | with_reducible apply H.ite | split | dsimp only

theorem State.thenQueue_closed (H : Closed Q) {s0 s : State} (h0 : Q s0 s) {f : State → State} (hf_f : ∀ t, Q s0 t → Q s0 (f t)) :
    Q s0 (State.thenQueue s f) := by
  unfold State.thenQueue
  try dsimp only
  repeat' first
    | intro _ | with_reducible assumption | apply hf_f | with_reducible apply State.duckRecords_closed H
    | with_reducible apply State.redecide_closed H | with_reducible apply H.ite | split | dsimp only

theorem State.granted1_closed (H : Closed Q) {s0 s : State} (h0 : Q s0 s) {id : Word} :
    Q s0 (State.granted1 s id) := by
  unfold State.granted1
  try dsimp only
  repeat' first
    | intro _ | with_reducible assumption | with_reducible apply State.svcDo_closed H | dsimp only

theorem State.decideAnswer_closed (H : Closed Q) {s0 s : State} (h0 : Q s0 s) {r : SvcReq} :
    Q s0 (State.decideAnswer s r) := by
  unfold State.decideAnswer
  try dsimp only
  repeat' first
    | intro _ | with_reducible assumption | with_reducible apply State.granted1_closed H
    | with_reducible apply State.refuse_closed H | with_reducible apply State.svcDo_closed H | with_reducible apply H.ite
    | split | fail_if_no_progress with_reducible apply H.set | dsimp only

theorem State.dropLock_closed (H : Closed Q) {s0 s : State} (h0 : Q s0 s) {l : Nat × Nat × Nat} :
    Q s0 (State.dropLock s l) := by
  unfold State.dropLock
  try dsimp only
  repeat' first
    | intro _ | with_reducible assumption | with_reducible apply State.svcDo_closed H
    | fail_if_no_progress with_reducible apply H.set | dsimp only

theorem State.decideUnlock_closed (H : Closed Q) {s0 s : State} (h0 : Q s0 s) {r : SvcReq} :
    Q s0 (State.decideUnlock s r) := by
  unfold State.decideUnlock
  try dsimp only
  repeat' first
    | intro _ | with_reducible assumption | with_reducible apply State.dropLock_closed H
    | with_reducible apply State.granted1_closed H | with_reducible apply State.refuse_closed H | split
    | fail_if_no_progress with_reducible apply H.set | dsimp only

theorem State.decideRelease_closed (H : Closed Q) {s0 s : State} (h0 : Q s0 s) {r : SvcReq} :
    Q s0 (State.decideRelease s r) := by
  unfold State.decideRelease
  try dsimp only
  repeat' first
    | intro _ | with_reducible assumption | with_reducible apply State.decideUnlock_closed H
    | with_reducible apply State.endGrant_closed H | with_reducible apply State.granted1_closed H
    | with_reducible apply State.svcDo_closed H | with_reducible apply H.ite | split
    | fail_if_no_progress with_reducible apply H.set | dsimp only

theorem State.decideLock_closed (H : Closed Q) {s0 s : State} (h0 : Q s0 s) {r : SvcReq} :
    Q s0 (State.decideLock s r) := by
  unfold State.decideLock
  try dsimp only
  repeat' first
    | intro _ | with_reducible assumption | with_reducible apply State.dropLock_closed H
    | with_reducible apply State.granted1_closed H | with_reducible apply State.refuse_closed H | with_reducible apply H.ite
    | with_reducible apply H.foldl | with_reducible apply H.foldl_on (fun b : _ × State => b.2)
    | with_reducible apply H.foldl_on (fun b : State × _ => b.1)
    | with_reducible apply H.foldl_on (fun b : _ × _ × State => b.2.2)
    | with_reducible apply H.foldl_on (fun b : _ × _ × _ × State => b.2.2.2) | split
    | fail_if_no_progress with_reducible apply H.set | dsimp only

theorem State.decideGood_closed (H : Closed Q) {s0 s : State} (h0 : Q s0 s) {ty : Nat} {r : SvcReq} :
    Q s0 (State.decideGood s ty r) := by
  unfold State.decideGood
  try dsimp only
  repeat' first
    | intro _ | with_reducible assumption | with_reducible apply State.decideAnswer_closed H
    | with_reducible apply State.decideCall_closed H | with_reducible apply State.decideLock_closed H
    | with_reducible apply State.decidePlay_closed H | with_reducible apply State.decideRelease_closed H
    | with_reducible apply State.decideUnlock_closed H | with_reducible apply State.refuse_closed H
    | with_reducible apply State.thenQueue_closed H | with_reducible apply H.ite | split | dsimp only

theorem State.decideReq_closed (H : Closed Q) {s0 s : State} (h0 : Q s0 s) {ty : Nat} {r : SvcReq} :
    Q s0 (State.decideReq s ty r) := by
  unfold State.decideReq
  try dsimp only
  repeat' first
    | intro _ | with_reducible assumption | with_reducible apply State.asReq_closed H
    | with_reducible apply State.decideGood_closed H | with_reducible apply State.refuse_closed H | with_reducible apply H.ite
    | split | dsimp only

theorem State.svcDucks_closed (H : Closed Q) {s0 s : State} (h0 : Q s0 s)  :
    Q s0 (State.svcDucks s) := by
  unfold State.svcDucks
  try dsimp only
  repeat' first
    | intro _ | with_reducible assumption | with_reducible apply State.shPut_closed H | with_reducible apply H.ite
    | with_reducible apply H.foldl | with_reducible apply H.foldl_on (fun b : _ × State => b.2)
    | with_reducible apply H.foldl_on (fun b : State × _ => b.1)
    | with_reducible apply H.foldl_on (fun b : _ × _ × State => b.2.2)
    | with_reducible apply H.foldl_on (fun b : _ × _ × _ × State => b.2.2.2) | split
    | fail_if_no_progress with_reducible apply H.set | dsimp only

theorem State.svcBank_closed (H : Closed Q) {s0 s : State} (h0 : Q s0 s) {table : List Nat} :
    Q s0 (State.svcBank s table) := by
  unfold State.svcBank
  try dsimp only
  repeat' first
    | intro _ | with_reducible assumption | with_reducible apply State.setBytes_closed H
    | with_reducible apply State.shPut_closed H | with_reducible apply H.foldl
    | with_reducible apply H.foldl_on (fun b : _ × State => b.2) | with_reducible apply H.foldl_on (fun b : State × _ => b.1)
    | with_reducible apply H.foldl_on (fun b : _ × _ × State => b.2.2)
    | with_reducible apply H.foldl_on (fun b : _ × _ × _ × State => b.2.2.2) | fail_if_no_progress with_reducible apply H.set
    | dsimp only

theorem State.svcArm_closed (H : Closed Q) {s0 s : State} (h0 : Q s0 s)  :
    Q s0 (State.svcArm s) := by
  unfold State.svcArm
  try dsimp only
  repeat' first
    | intro _ | with_reducible assumption | with_reducible apply State.svcBank_closed H
    | with_reducible apply State.svcDucks_closed H | with_reducible apply H.ite | split
    | fail_if_no_progress with_reducible apply H.set | dsimp only

theorem State.svcEffect_closed (H : Closed Q) {s0 s : State} (h0 : Q s0 s)  :
    Q s0 (State.svcEffect s) := by
  unfold State.svcEffect
  try dsimp only
  repeat' first
    | intro _ | with_reducible assumption | with_reducible apply State.svcAct_closed H | with_reducible apply H.foldl
    | with_reducible apply H.foldl_on (fun b : _ × State => b.2) | with_reducible apply H.foldl_on (fun b : State × _ => b.1)
    | with_reducible apply H.foldl_on (fun b : _ × _ × State => b.2.2)
    | with_reducible apply H.foldl_on (fun b : _ × _ × _ × State => b.2.2.2) | fail_if_no_progress with_reducible apply H.set
    | dsimp only

theorem State.svcRejected_closed (H : Closed Q) {s0 s : State} (h0 : Q s0 s)  :
    Q s0 (State.svcRejected s) := by
  unfold State.svcRejected
  try dsimp only
  repeat' first
    | intro _ | with_reducible assumption | with_reducible apply State.control_closed H
    | with_reducible apply State.duckRecords_closed H | with_reducible apply State.refuse_closed H | with_reducible apply H.ite
    | with_reducible apply H.foldl | with_reducible apply H.foldl_on (fun b : _ × State => b.2)
    | with_reducible apply H.foldl_on (fun b : State × _ => b.1)
    | with_reducible apply H.foldl_on (fun b : _ × _ × State => b.2.2)
    | with_reducible apply H.foldl_on (fun b : _ × _ × _ × State => b.2.2.2) | split
    | fail_if_no_progress with_reducible apply H.set | dsimp only

theorem State.svcStop_closed (H : Closed Q) {s0 s : State} (h0 : Q s0 s)  :
    Q s0 (State.svcStop s) := by
  unfold State.svcStop
  try dsimp only
  repeat' first
    | intro _ | with_reducible assumption | with_reducible apply State.callSet_closed H
    | with_reducible apply State.svcArm_closed H | with_reducible apply State.svcDo_closed H | with_reducible apply H.ite
    | with_reducible apply H.foldl | with_reducible apply H.foldl_on (fun b : _ × State => b.2)
    | with_reducible apply H.foldl_on (fun b : State × _ => b.1)
    | with_reducible apply H.foldl_on (fun b : _ × _ × State => b.2.2)
    | with_reducible apply H.foldl_on (fun b : _ × _ × _ × State => b.2.2.2) | split
    | fail_if_no_progress with_reducible apply H.set | dsimp only

theorem State.svcStart_closed (H : Closed Q) {s0 s : State} (h0 : Q s0 s)  :
    Q s0 (State.svcStart s) := by
  unfold State.svcStart
  try dsimp only
  repeat' first
    | intro _ | with_reducible assumption | fail_if_no_progress with_reducible apply H.set | dsimp only

theorem State.svcPublish_closed (H : Closed Q) {s0 s : State} (h0 : Q s0 s)  :
    Q s0 (State.svcPublish s) := by
  unfold State.svcPublish
  try dsimp only
  repeat' first
    | intro _ | with_reducible assumption | with_reducible apply State.put_closed H | with_reducible apply H.each | dsimp only

theorem State.svcFades_closed (H : Closed Q) {s0 s : State} (h0 : Q s0 s)  :
    Q s0 (State.svcFades s) := by
  unfold State.svcFades
  try dsimp only
  repeat' first
    | intro _ | with_reducible assumption | with_reducible apply H.ite | split | fail_if_no_progress with_reducible apply H.set
    | dsimp only

theorem State.svcDone_closed (H : Closed Q) {s0 s : State} (h0 : Q s0 s) {test : Grant → Bool} :
    Q s0 (State.svcDone s test) := by
  unfold State.svcDone
  try dsimp only
  repeat' first
    | intro _ | with_reducible assumption | with_reducible apply State.endGrant_closed H
    | with_reducible apply State.thenQueue_closed H | with_reducible apply H.foldl
    | with_reducible apply H.foldl_on (fun b : _ × State => b.2) | with_reducible apply H.foldl_on (fun b : State × _ => b.1)
    | with_reducible apply H.foldl_on (fun b : _ × _ × State => b.2.2)
    | with_reducible apply H.foldl_on (fun b : _ × _ × _ × State => b.2.2.2) | dsimp only

theorem State.svcAng_closed (H : Closed Q) {s0 s : State} (h0 : Q s0 s)  :
    Q s0 (State.svcAng s) := by
  unfold State.svcAng
  try dsimp only
  repeat' first
    | intro _ | with_reducible assumption | with_reducible apply State.svcControl_closed H | with_reducible apply H.ite
    | with_reducible apply H.foldl | with_reducible apply H.foldl_on (fun b : _ × State => b.2)
    | with_reducible apply H.foldl_on (fun b : State × _ => b.1)
    | with_reducible apply H.foldl_on (fun b : _ × _ × State => b.2.2)
    | with_reducible apply H.foldl_on (fun b : _ × _ × _ × State => b.2.2.2) | split
    | fail_if_no_progress with_reducible apply H.set | dsimp only

theorem State.noteTaken_closed (H : Closed Q) {s0 s : State} (h0 : Q s0 s) {w : List Nat} :
    Q s0 (State.noteTaken s w) := by
  unfold State.noteTaken
  try dsimp only
  repeat' first
    | intro _ | with_reducible assumption | with_reducible apply H.ite | split | fail_if_no_progress with_reducible apply H.set
    | dsimp only

theorem State.svcTake_closed (H : Closed Q) {s0 s : State} (h0 : Q s0 s) {e'0 : Nat} :
    Q s0 (State.svcTake s e'0) := by
  induction e'0 generalizing s with
  | zero =>
    unfold State.svcTake
    try dsimp only
    repeat' first
      | intro _ | with_reducible assumption | with_reducible apply State.decideReq_closed H
      | with_reducible apply State.denyRecord_closed H | with_reducible apply State.noteTaken_closed H
      | with_reducible apply State.put_closed H | with_reducible apply H.ite | split | dsimp only
  | succ n ih =>
    unfold State.svcTake
    try dsimp only
    repeat' first
      | intro _ | with_reducible assumption | with_reducible apply ih | with_reducible apply State.decideReq_closed H
      | with_reducible apply State.denyRecord_closed H | with_reducible apply State.noteTaken_closed H
      | with_reducible apply State.put_closed H | with_reducible apply H.ite | split | dsimp only

theorem State.svcTick_closed (H : Closed Q) {s0 s : State} (h0 : Q s0 s)  :
    Q s0 (State.svcTick s) := by
  unfold State.svcTick
  try dsimp only
  repeat' first
    | intro _ | with_reducible assumption | with_reducible apply State.svcAng_closed H
    | with_reducible apply State.svcArm_closed H | with_reducible apply State.svcDone_closed H
    | with_reducible apply State.svcFades_closed H | with_reducible apply State.svcPublish_closed H
    | with_reducible apply State.svcStart_closed H | with_reducible apply State.svcStop_closed H
    | with_reducible apply State.svcTake_closed H | with_reducible apply H.ite | with_reducible apply H.when | split
    | fail_if_no_progress with_reducible apply H.set | dsimp only

theorem State.svcCommand_closed (H : Closed Q) {s0 s : State} (h0 : Q s0 s) {ty : Nat} {r : SvcReq} :
    Q s0 (State.svcCommand s ty r) := by
  unfold State.svcCommand
  try dsimp only
  repeat' first
    | intro _ | with_reducible assumption | with_reducible apply State.decideReq_closed H
    | with_reducible apply State.noteTaken_closed H | with_reducible apply State.svcPublish_closed H
    | with_reducible apply H.ite | split | dsimp only

end Sys2Proof.Machine
end

