-- ==== Sys2Proof/Laws/ClosedValidate.lean ====
section
/-! SUPPORT. The relations of Laws/Closed.lean hold across the operations of Machine/Validate.lean: one lemma for each. -/

namespace Sys2Proof.Machine

variable {Q : State → State → Prop}

theorem State.ahead_closed (H : Closed Q) {s0 s : State} (h0 : Q s0 s) : Q s0 s.ahead.1 := by
  unfold State.ahead
  refine H.foldl_on (fun b : State × List Nat => b.1) h0 fun t c h => ?_
  dsimp only
  split
  · exact h
  · exact H.set (State.withShadow_closed H h)

end Sys2Proof.Machine
end

