-- ==== Sys2Proof/Laws/ClosedPair.lean ====
section
/-! SUPPORT. The relations of Laws/Closed.lean hold across the operations of Machine/Pair.lean: one lemma for each. -/

namespace Sys2Proof.Machine

variable {Q : State → State → Prop}

theorem State.wantRole_closed (H : Closed Q) {s0 s : State} (h0 : Q s0 s) {r : Role} {cause : Nat} :
    Q s0 (State.wantRole s r cause) := by
  unfold State.wantRole
  try dsimp only
  repeat' first
    | intro _ | with_reducible assumption | fail_if_no_progress with_reducible apply H.set | dsimp only

theorem State.partnerGone_closed (H : Closed Q) {s0 s : State} (h0 : Q s0 s) {cause : Nat} :
    Q s0 (State.partnerGone s cause) := by
  unfold State.partnerGone
  try dsimp only
  repeat' first
    | intro _ | with_reducible assumption | with_reducible apply State.wantRole_closed H | with_reducible apply H.ite | split
    | fail_if_no_progress with_reducible apply H.set | dsimp only

theorem State.lostCheck_closed (H : Closed Q) {s0 s : State} (h0 : Q s0 s)  :
    Q s0 (State.lostCheck s) := by
  unfold State.lostCheck
  try dsimp only
  repeat' first
    | intro _ | with_reducible assumption | with_reducible apply State.partnerGone_closed H
    | with_reducible apply State.put_closed H | with_reducible apply State.raise_closed H | with_reducible apply H.ite | split
    | fail_if_no_progress with_reducible apply H.set | dsimp only

theorem State.seatRest_closed (H : Closed Q) {s0 s : State} (h0 : Q s0 s)  :
    Q s0 (State.seatRest s) := by
  unfold State.seatRest
  try dsimp only
  repeat' first
    | intro _ | with_reducible assumption | with_reducible apply State.put_closed H | with_reducible apply H.ite | split
    | dsimp only

theorem State.seatAbort_closed (H : Closed Q) {s0 s : State} (h0 : Q s0 s) {cause : Nat} :
    Q s0 (State.seatAbort s cause) := by
  unfold State.seatAbort
  try dsimp only
  repeat' first
    | intro _ | with_reducible assumption | with_reducible apply State.bump_closed H | with_reducible apply State.put_closed H
    | with_reducible apply State.raise_closed H | with_reducible apply State.seatRest_closed H
    | fail_if_no_progress with_reducible apply H.set | dsimp only

theorem State.braceDown_closed (H : Closed Q) {s0 s : State} (h0 : Q s0 s)  :
    Q s0 (State.braceDown s) := by
  unfold State.braceDown
  try dsimp only
  repeat' first
    | intro _ | with_reducible assumption | with_reducible apply State.lostCheck_closed H
    | with_reducible apply State.put_closed H | with_reducible apply State.raise_closed H
    | with_reducible apply State.seatAbort_closed H | with_reducible apply State.wantRole_closed H | with_reducible apply H.ite
    | with_reducible apply H.when | split | fail_if_no_progress with_reducible apply H.set | dsimp only

end Sys2Proof.Machine
end

