-- ==== Sys2Proof/Laws/ClosedPlls.lean ====
section
/-! SUPPORT. The relations of Laws/Closed.lean hold across the operations of Machine/Plls.lean: one lemma for each. -/

namespace Sys2Proof.Machine

variable {Q : State → State → Prop}

theorem State.pllsShow_closed (H : Closed Q) {s0 s : State} (h0 : Q s0 s) {gate : Bool} :
    Q s0 (State.pllsShow s gate) := by
  unfold State.pllsShow
  try dsimp only
  repeat' first
    | intro _ | with_reducible assumption | with_reducible apply State.braceDown_closed H
    | with_reducible apply State.bump_closed H | with_reducible apply State.linkDown_closed H
    | with_reducible apply State.put_closed H | with_reducible apply State.raise_closed H | with_reducible apply H.ite
    | with_reducible apply H.each | with_reducible apply H.when | split | dsimp only

theorem State.setVco_closed (H : Closed Q) {s0 s : State} (h0 : Q s0 s) {k : Nat} {v : Nat} :
    Q s0 (State.setVco s k v) := by
  unfold State.setVco
  try dsimp only
  repeat' first
    | intro _ | with_reducible assumption | with_reducible apply State.put_closed H
    | fail_if_no_progress with_reducible apply H.set | dsimp only

theorem State.pllsPower_closed (H : Closed Q) {s0 s : State} (h0 : Q s0 s)  :
    Q s0 (State.pllsPower s) := by
  unfold State.pllsPower
  try dsimp only
  repeat' first
    | intro _ | with_reducible assumption | with_reducible apply State.pllsShow_closed H
    | with_reducible apply State.put_closed H | with_reducible apply State.setVco_closed H | with_reducible apply H.ite
    | with_reducible apply H.foldl | with_reducible apply H.foldl_on (fun b : _ × State => b.2)
    | with_reducible apply H.foldl_on (fun b : State × _ => b.1)
    | with_reducible apply H.foldl_on (fun b : _ × _ × State => b.2.2)
    | with_reducible apply H.foldl_on (fun b : _ × _ × _ × State => b.2.2.2) | split | dsimp only

theorem State.pllmAcquire_closed (H : Closed Q) {s0 s : State} (h0 : Q s0 s)  :
    Q s0 (State.pllmAcquire s) := by
  unfold State.pllmAcquire
  try dsimp only
  repeat' first
    | intro _ | with_reducible assumption | with_reducible apply State.put_closed H | split
    | fail_if_no_progress with_reducible apply H.set | dsimp only

theorem State.pllmGate_closed (H : Closed Q) {s0 s : State} (h0 : Q s0 s)  :
    Q s0 (State.pllmGate s) := by
  unfold State.pllmGate
  try dsimp only
  repeat' first
    | intro _ | with_reducible assumption | with_reducible apply State.asrcAllUnlock_closed H
    | with_reducible apply State.bump_closed H | with_reducible apply State.clkoutGate_closed H
    | with_reducible apply State.put_closed H | with_reducible apply State.spPllmGates_closed H | with_reducible apply H.ite
    | with_reducible apply H.when | split | fail_if_no_progress with_reducible apply H.set | dsimp only

theorem State.shim_closed (H : Closed Q) {s0 s : State} (h0 : Q s0 s) {n : Int} :
    Q s0 (State.shim s n) := by
  unfold State.shim
  try dsimp only
  repeat' first
    | intro _ | with_reducible assumption | with_reducible apply State.put_closed H
    | fail_if_no_progress with_reducible apply H.set | dsimp only

theorem State.pllmUngate_closed (H : Closed Q) {s0 s : State} (h0 : Q s0 s)  :
    Q s0 (State.pllmUngate s) := by
  unfold State.pllmUngate
  try dsimp only
  repeat' first
    | intro _ | with_reducible assumption | with_reducible apply State.asrcFixed_closed H
    | with_reducible apply State.clkoutGate_closed H | with_reducible apply State.put_closed H
    | with_reducible apply State.shim_closed H | with_reducible apply State.spPllmUngates_closed H | with_reducible apply H.ite
    | split | fail_if_no_progress with_reducible apply H.set | dsimp only

theorem State.pllmTick_closed (H : Closed Q) {s0 s : State} (h0 : Q s0 s)  :
    Q s0 (State.pllmTick s) := by
  unfold State.pllmTick
  try dsimp only
  repeat' first
    | intro _ | with_reducible assumption | with_reducible apply State.bump_closed H
    | with_reducible apply State.pllmUngate_closed H | with_reducible apply State.put_closed H
    | with_reducible apply State.shim_closed H | with_reducible apply H.when | fail_if_no_progress with_reducible apply H.set
    | dsimp only

theorem State.pllcGate_closed (H : Closed Q) {s0 s : State} (h0 : Q s0 s)  :
    Q s0 (State.pllcGate s) := by
  unfold State.pllcGate
  try dsimp only
  repeat' first
    | intro _ | with_reducible assumption | with_reducible apply State.put_closed H | with_reducible apply H.ite | split
    | fail_if_no_progress with_reducible apply H.set | dsimp only

theorem State.pllcLocked_closed (H : Closed Q) {s0 s : State} (h0 : Q s0 s)  :
    Q s0 (State.pllcLocked s) := by
  unfold State.pllcLocked
  try dsimp only
  repeat' first
    | intro _ | with_reducible assumption | with_reducible apply State.fatal_closed H | with_reducible apply State.put_closed H
    | with_reducible apply State.raise_closed H | with_reducible apply H.ite | split
    | fail_if_no_progress with_reducible apply H.set | dsimp only

theorem State.plockGone_closed (H : Closed Q) {s0 s : State} (h0 : Q s0 s) {l : LoopId} {quiet : Bool} :
    Q s0 (State.plockGone s l quiet) := by
  unfold State.plockGone
  try dsimp only
  repeat' first
    | intro _ | with_reducible assumption | with_reducible apply State.bump_closed H | with_reducible apply State.put_closed H
    | with_reducible apply State.raise_closed H | with_reducible apply H.ite | with_reducible apply H.when | split
    | fail_if_no_progress with_reducible apply H.set | dsimp only

theorem State.flockGone_closed (H : Closed Q) {s0 s : State} (h0 : Q s0 s) {l : LoopId} :
    Q s0 (State.flockGone s l) := by
  unfold State.flockGone
  try dsimp only
  repeat' first
    | intro _ | with_reducible assumption | with_reducible apply State.pllcGate_closed H
    | with_reducible apply State.pllmAcquire_closed H | with_reducible apply State.pllmGate_closed H
    | with_reducible apply State.pllsShow_closed H | with_reducible apply State.plockGone_closed H
    | with_reducible apply State.put_closed H | with_reducible apply State.setVco_closed H | with_reducible apply H.ite | split
    | fail_if_no_progress with_reducible apply H.set | dsimp only

theorem State.refGone_closed (H : Closed Q) {s0 s : State} (h0 : Q s0 s) {k : Nat} :
    Q s0 (State.refGone s k) := by
  unfold State.refGone
  try dsimp only
  repeat' first
    | intro _ | with_reducible assumption | with_reducible apply State.put_closed H | dsimp only

theorem State.pllCount_closed (H : Closed Q) {s0 s : State} (h0 : Q s0 s) {l : LoopId} {count : Nat} :
    Q s0 (State.pllCount s l count) := by
  unfold State.pllCount
  try dsimp only
  repeat' first
    | intro _ | with_reducible assumption | with_reducible apply State.put_closed H | split
    | fail_if_no_progress with_reducible apply H.set | dsimp only

theorem State.pllPhase_closed (H : Closed Q) {s0 s : State} (h0 : Q s0 s) {l : LoopId} {ps : Int} :
    Q s0 (State.pllPhase s l ps) := by
  unfold State.pllPhase
  try dsimp only
  repeat' first
    | intro _ | with_reducible assumption | with_reducible apply State.putI_closed H | with_reducible apply H.ite | split
    | dsimp only

theorem State.calStart_closed (H : Closed Q) {s0 s : State} (h0 : Q s0 s)  :
    Q s0 (State.calStart s) := by
  unfold State.calStart
  try dsimp only
  repeat' first
    | intro _ | with_reducible assumption | with_reducible apply State.pllmGate_closed H
    | with_reducible apply State.plockGone_closed H | with_reducible apply State.put_closed H | dsimp only

theorem State.pllmOff_closed (H : Closed Q) {s0 s : State} (h0 : Q s0 s)  :
    Q s0 (State.pllmOff s) := by
  unfold State.pllmOff
  try dsimp only
  repeat' first
    | intro _ | with_reducible assumption | with_reducible apply State.pllmGate_closed H
    | with_reducible apply State.plockGone_closed H | with_reducible apply State.put_closed H | dsimp only

end Sys2Proof.Machine
end

