-- ==== Sys2Proof/Laws/ClosedCommit.lean ====
section
/-! SUPPORT. The relations of Laws/Closed.lean hold across the operations of Machine/Commit.lean: one lemma for each. -/

namespace Sys2Proof.Machine

variable {Q : State → State → Prop}

theorem State.mirrorWords_closed (H : Closed Q) {s0 s : State} (h0 : Q s0 s) {who : Initiator} {a : Nat} {n : Nat} :
    Q s0 (State.mirrorWords s who a n) := by
  unfold State.mirrorWords
  try dsimp only
  repeat' first
    | intro _ | with_reducible assumption | with_reducible apply State.mirrorOut_closed H | with_reducible apply H.each
    | dsimp only

theorem State.mirrorContent_closed (H : Closed Q) {s0 s : State} (h0 : Q s0 s) {who : Initiator} {pages : List Nat} :
    Q s0 (State.mirrorContent s who pages) := by
  unfold State.mirrorContent
  try dsimp only
  repeat' first
    | intro _ | with_reducible assumption | with_reducible apply State.mirrorWords_closed H
    | with_reducible apply State.withShadow_closed H | with_reducible apply H.ite | with_reducible apply H.each
    | with_reducible apply H.when | with_reducible apply H.foldl | with_reducible apply H.foldl_on (fun b : _ × State => b.2)
    | with_reducible apply H.foldl_on (fun b : State × _ => b.1)
    | with_reducible apply H.foldl_on (fun b : _ × _ × State => b.2.2)
    | with_reducible apply H.foldl_on (fun b : _ × _ × _ × State => b.2.2.2) | split
    | fail_if_no_progress with_reducible apply H.set | dsimp only

theorem State.armPages_closed (H : Closed Q) {s0 s : State} (h0 : Q s0 s) {pages : List Nat} {service : Bool} :
    Q s0 (State.armPages s pages service) := by
  unfold State.armPages
  try dsimp only
  repeat' first
    | intro _ | with_reducible assumption | fail_if_no_progress with_reducible apply H.set | dsimp only

theorem State.armPage_closed (H : Closed Q) {s0 s : State} (h0 : Q s0 s) {who : Initiator} {p : Nat} :
    Q s0 (State.armPage s who p) := by
  unfold State.armPage
  try dsimp only
  repeat' first
    | intro _ | with_reducible assumption | with_reducible apply State.armPages_closed H
    | with_reducible apply State.hostErr_closed H | with_reducible apply State.mirrorContent_closed H
    | with_reducible apply State.mirrorOut_closed H | with_reducible apply H.ite | with_reducible apply H.when | split
    | dsimp only

theorem State.commitTick_closed (H : Closed Q) {s0 s : State} (h0 : Q s0 s)  :
    Q s0 (State.commitTick s) := by
  unfold State.commitTick
  try dsimp only
  repeat' first
    | intro _ | with_reducible assumption | with_reducible apply State.put_closed H | dsimp only

theorem State.commitRejected_closed (H : Closed Q) {s0 s : State} (h0 : Q s0 s) {c : Commit} {f : Fail} :
    Q s0 (State.commitRejected s c f) := by
  unfold State.commitRejected
  try dsimp only
  repeat' first
    | intro _ | with_reducible assumption | with_reducible apply State.acmpDone_closed H
    | with_reducible apply State.commitTick_closed H | with_reducible apply State.put_closed H
    | with_reducible apply State.raise_closed H | with_reducible apply State.svcRejected_closed H | with_reducible apply H.when
    | with_reducible apply H.foldl | with_reducible apply H.foldl_on (fun b : _ × State => b.2)
    | with_reducible apply H.foldl_on (fun b : State × _ => b.1)
    | with_reducible apply H.foldl_on (fun b : _ × _ × State => b.2.2)
    | with_reducible apply H.foldl_on (fun b : _ × _ × _ × State => b.2.2.2) | dsimp only

theorem State.rejectAll_closed (H : Closed Q) {s0 s : State} (h0 : Q s0 s)  :
    Q s0 (State.rejectAll s) := by
  unfold State.rejectAll
  try dsimp only
  repeat' first
    | intro _ | with_reducible assumption | with_reducible apply State.commitRejected_closed H
    | with_reducible apply State.mixBack_closed H | with_reducible apply H.foldl
    | with_reducible apply H.foldl_on (fun b : _ × State => b.2) | with_reducible apply H.foldl_on (fun b : State × _ => b.1)
    | with_reducible apply H.foldl_on (fun b : _ × _ × State => b.2.2)
    | with_reducible apply H.foldl_on (fun b : _ × _ × _ × State => b.2.2.2) | fail_if_no_progress with_reducible apply H.set
    | dsimp only

theorem State.commitResult_closed (H : Closed Q) {s0 s : State} (h0 : Q s0 s) {k : Nat} {c : Commit} {r : Except Fail (Option Cut)} {due : Nat} :
    Q s0 (State.commitResult s k c r due) := by
  unfold State.commitResult
  try dsimp only
  repeat' first
    | intro _ | with_reducible assumption | with_reducible apply State.commitRejected_closed H | split
    | fail_if_no_progress with_reducible apply H.set | dsimp only

theorem State.resultOut_closed (H : Closed Q) {s0 s : State} (h0 : Q s0 s) {c : Commit} {r : Except Fail (Option Cut)} :
    Q s0 (State.resultOut s c r) := by
  unfold State.resultOut
  try dsimp only
  repeat' first
    | intro _ | with_reducible assumption | with_reducible apply H.when | split
    | fail_if_no_progress with_reducible apply H.set | dsimp only

theorem State.takeResults_closed (H : Closed Q) {s0 s : State} (h0 : Q s0 s)  :
    Q s0 (State.takeResults s) := by
  unfold State.takeResults
  try dsimp only
  repeat' first
    | intro _ | with_reducible assumption | with_reducible apply State.commitResult_closed H | with_reducible apply H.foldl
    | with_reducible apply H.foldl_on (fun b : _ × State => b.2) | with_reducible apply H.foldl_on (fun b : State × _ => b.1)
    | with_reducible apply H.foldl_on (fun b : _ × _ × State => b.2.2)
    | with_reducible apply H.foldl_on (fun b : _ × _ × _ × State => b.2.2.2) | split
    | fail_if_no_progress with_reducible apply H.set | dsimp only

theorem State.anCommit_closed (H : Closed Q) {s0 s : State} (h0 : Q s0 s) {old : State} {p : Nat} :
    Q s0 (State.anCommit s old p) := by
  unfold State.anCommit
  try dsimp only
  repeat' first
    | intro _ | with_reducible assumption | with_reducible apply State.linkDown_closed H
    | with_reducible apply State.linkPass_closed H | with_reducible apply State.put_closed H | with_reducible apply H.ite
    | split | dsimp only

theorem State.macCommit_closed (H : Closed Q) {s0 s : State} (h0 : Q s0 s) {old : State} :
    Q s0 (State.macCommit s old) := by
  unfold State.macCommit
  try dsimp only
  repeat' first
    | intro _ | with_reducible assumption | with_reducible apply State.anCommit_closed H
    | with_reducible apply State.linkDown_closed H | with_reducible apply State.plcaStop_closed H
    | with_reducible apply State.t1sLinks_closed H | with_reducible apply H.ite | with_reducible apply H.each | split
    | dsimp only

theorem State.braceCommit_closed (H : Closed Q) {s0 s : State} (h0 : Q s0 s) {old : State} :
    Q s0 (State.braceCommit s old) := by
  unfold State.braceCommit
  try dsimp only
  repeat' first
    | intro _ | with_reducible assumption | with_reducible apply State.put_closed H | with_reducible apply H.ite | split
    | fail_if_no_progress with_reducible apply H.set | dsimp only

theorem State.commitWork_closed (H : Closed Q) {s0 s : State} (h0 : Q s0 s) {old : State} {pages : List Nat} {cut : Option Cut} :
    Q s0 (State.commitWork s old pages cut) := by
  unfold State.commitWork
  try dsimp only
  repeat' first
    | intro _ | with_reducible assumption | with_reducible apply State.acmpOverride_closed H
    | with_reducible apply State.admission_closed H | with_reducible apply State.asrcCommit_closed H
    | with_reducible apply State.braceCommit_closed H | with_reducible apply State.bstCommit_closed H
    | with_reducible apply State.clkoutCommit_closed H | with_reducible apply State.diagCommit_closed H
    | with_reducible apply State.effAll_closed H | with_reducible apply State.engineCommit_closed H
    | with_reducible apply State.hostPoll_closed H | with_reducible apply State.macCommit_closed H
    | with_reducible apply State.mixCommit_closed H | with_reducible apply State.ntcCommit_closed H
    | with_reducible apply State.pchCommit_closed H | with_reducible apply State.pllsPower_closed H
    | with_reducible apply State.plumbCommit_closed H | with_reducible apply State.ptpRefresh_closed H
    | with_reducible apply State.put_closed H | with_reducible apply State.spCommitAll_closed H
    | with_reducible apply State.tasAll_closed H | with_reducible apply H.each | with_reducible apply H.when | dsimp only

theorem State.commitDone_closed (H : Closed Q) {s0 s : State} (h0 : Q s0 s) {c : Commit} :
    Q s0 (State.commitDone s c) := by
  unfold State.commitDone
  try dsimp only
  repeat' first
    | intro _ | with_reducible assumption | with_reducible apply State.acmpDone_closed H
    | with_reducible apply State.commitTick_closed H | with_reducible apply State.put_closed H
    | with_reducible apply State.raise_closed H | with_reducible apply State.svcEffect_closed H | with_reducible apply H.when
    | dsimp only

theorem State.takeCommits_closed (H : Closed Q) {s0 s : State} (h0 : Q s0 s)  :
    Q s0 (State.takeCommits s) := by
  unfold State.takeCommits
  try dsimp only
  repeat' first
    | intro _ | with_reducible assumption | with_reducible apply State.commitDone_closed H
    | with_reducible apply State.commitWork_closed H | with_reducible apply State.dropShadow_closed H
    | with_reducible apply State.withShadow_closed H | with_reducible apply H.ite | with_reducible apply H.foldl
    | with_reducible apply H.foldl_on (fun b : _ × State => b.2) | with_reducible apply H.foldl_on (fun b : State × _ => b.1)
    | with_reducible apply H.foldl_on (fun b : _ × _ × State => b.2.2)
    | with_reducible apply H.foldl_on (fun b : _ × _ × _ × State => b.2.2.2) | split
    | fail_if_no_progress with_reducible apply H.set | dsimp only

end Sys2Proof.Machine
end

