-- ==== Sys2Proof/Laws/ClosedBrace.lean ====
section
/-! SUPPORT. The relations of Laws/Closed.lean hold across the operations of Machine/Brace.lean: one lemma for each. -/

namespace Sys2Proof.Machine

variable {Q : State → State → Prop}

theorem State.hear_closed (H : Closed Q) {s0 s : State} (h0 : Q s0 s) {net : Bool} {role : Nat} {dev : Nat} {notice : Bool} :
    Q s0 (State.hear s net role dev notice) := by
  unfold State.hear
  try dsimp only
  repeat' first
    | intro _ | with_reducible assumption | with_reducible apply State.bump_closed H
    | with_reducible apply State.partnerGone_closed H | with_reducible apply State.put_closed H
    | with_reducible apply State.wantRole_closed H | with_reducible apply H.ite | with_reducible apply H.when | split
    | fail_if_no_progress with_reducible apply H.set | dsimp only

theorem State.compareAt_closed (H : Closed Q) {s0 s : State} (h0 : Q s0 s) {tick : Nat} :
    Q s0 (State.compareAt s tick) := by
  unfold State.compareAt
  try dsimp only
  repeat' first
    | intro _ | with_reducible assumption | with_reducible apply State.bump_closed H | with_reducible apply State.put_closed H
    | with_reducible apply State.raise_closed H | with_reducible apply State.wantRole_closed H | with_reducible apply H.ite
    | with_reducible apply H.when | split | fail_if_no_progress with_reducible apply H.set | dsimp only

theorem State.digestTick_closed (H : Closed Q) {s0 s : State} (h0 : Q s0 s) {outs : Sparse (List Int)} :
    Q s0 (State.digestTick s outs) := by
  unfold State.digestTick
  try dsimp only
  repeat' first
    | intro _ | with_reducible assumption | with_reducible apply State.compareAt_closed H | with_reducible apply H.ite | split
    | fail_if_no_progress with_reducible apply H.set | dsimp only

theorem State.clearLacks_closed (H : Closed Q) {s0 s : State} (h0 : Q s0 s) {l : Lacks} {tick : Nat} :
    Q s0 (State.clearLacks s l tick) := by
  unfold State.clearLacks
  try dsimp only
  repeat' first
    | intro _ | with_reducible assumption | with_reducible apply State.setByte_closed H
    | with_reducible apply State.setWord_closed H | with_reducible apply H.ite | with_reducible apply H.foldl
    | with_reducible apply H.foldl_on (fun b : _ × State => b.2) | with_reducible apply H.foldl_on (fun b : State × _ => b.1)
    | with_reducible apply H.foldl_on (fun b : _ × _ × State => b.2.2)
    | with_reducible apply H.foldl_on (fun b : _ × _ × _ × State => b.2.2.2) | split | dsimp only

theorem State.agree_closed (H : Closed Q) {s0 s : State} (h0 : Q s0 s)  :
    Q s0 (State.agree s) := by
  unfold State.agree
  try dsimp only
  repeat' first
    | intro _ | with_reducible assumption | with_reducible apply State.bump_closed H
    | with_reducible apply State.clearLacks_closed H | with_reducible apply State.earlyPasses_closed H
    | with_reducible apply H.ite | split | fail_if_no_progress with_reducible apply H.set | dsimp only

theorem State.mirrorClear_closed (H : Closed Q) {s0 s : State} (h0 : Q s0 s)  :
    Q s0 (State.mirrorClear s) := by
  unfold State.mirrorClear
  try dsimp only
  repeat' first
    | intro _ | with_reducible assumption | fail_if_no_progress with_reducible apply H.set | dsimp only

theorem State.braceTx_closed (H : Closed Q) {s0 s : State} (h0 : Q s0 s)  :
    Q s0 (State.braceTx s) := by
  unfold State.braceTx
  try dsimp only
  repeat' first
    | intro _ | with_reducible assumption | with_reducible apply State.mirrorClear_closed H
    | with_reducible apply State.send_closed H | with_reducible apply H.ite | with_reducible apply H.when | split
    | fail_if_no_progress with_reducible apply H.set | dsimp only

theorem State.seatStore_closed (H : Closed Q) {s0 s : State} (h0 : Q s0 s) {a : Nat} {v : Nat} :
    Q s0 (State.seatStore s a v) := by
  unfold State.seatStore
  try dsimp only
  repeat' first
    | intro _ | with_reducible assumption | with_reducible apply State.setWord_closed H | with_reducible apply H.ite | split
    | fail_if_no_progress with_reducible apply H.set | dsimp only

theorem State.bankWord_closed (H : Closed Q) {s0 s : State} (h0 : Q s0 s) {bank : Nat} {off : Nat} {v : Nat} :
    Q s0 (State.bankWord s bank off v) := by
  unfold State.bankWord
  try dsimp only
  repeat' first
    | intro _ | with_reducible assumption | with_reducible apply State.setWord_closed H | dsimp only

theorem State.takeMirror_closed (H : Closed Q) {s0 s : State} (h0 : Q s0 s) {m : Mirror} :
    Q s0 (State.takeMirror s m) := by
  unfold State.takeMirror
  try dsimp only
  repeat' first
    | intro _ | with_reducible assumption | with_reducible apply State.armPages_closed H
    | with_reducible apply State.bankWord_closed H | with_reducible apply State.copyBank_closed H
    | with_reducible apply State.seatStore_closed H | with_reducible apply State.shPut_closed H | with_reducible apply H.ite
    | with_reducible apply H.foldl | with_reducible apply H.foldl_on (fun b : _ × State => b.2)
    | with_reducible apply H.foldl_on (fun b : State × _ => b.1)
    | with_reducible apply H.foldl_on (fun b : _ × _ × State => b.2.2)
    | with_reducible apply H.foldl_on (fun b : _ × _ × _ × State => b.2.2.2) | split
    | fail_if_no_progress with_reducible apply H.set | dsimp only

theorem State.takeRequests_closed (H : Closed Q) {s0 s : State} (h0 : Q s0 s) {f : BraceFrame} {tick : Nat} :
    Q s0 (State.takeRequests s f tick) := by
  unfold State.takeRequests
  try dsimp only
  repeat' first
    | intro _ | with_reducible assumption | with_reducible apply State.decideReq_closed H
    | with_reducible apply State.svcArm_closed H | with_reducible apply State.svcPublish_closed H | with_reducible apply H.ite
    | with_reducible apply H.foldl | with_reducible apply H.foldl_on (fun b : _ × State => b.2)
    | with_reducible apply H.foldl_on (fun b : State × _ => b.1)
    | with_reducible apply H.foldl_on (fun b : _ × _ × State => b.2.2)
    | with_reducible apply H.foldl_on (fun b : _ × _ × _ × State => b.2.2.2) | split
    | fail_if_no_progress with_reducible apply H.set | dsimp only

theorem State.takeActive_closed (H : Closed Q) {s0 s : State} (h0 : Q s0 s) {f : BraceFrame} {tick : Nat} :
    Q s0 (State.takeActive s f tick) := by
  unfold State.takeActive
  try dsimp only
  repeat' first
    | intro _ | with_reducible assumption | with_reducible apply State.asrcSet_closed H
    | with_reducible apply State.put_closed H | with_reducible apply State.spStore_closed H
    | with_reducible apply State.takeMirror_closed H | with_reducible apply State.takeRequests_closed H
    | with_reducible apply State.takeResults_closed H | with_reducible apply H.ite | with_reducible apply H.foldl
    | with_reducible apply H.foldl_on (fun b : _ × State => b.2) | with_reducible apply H.foldl_on (fun b : State × _ => b.1)
    | with_reducible apply H.foldl_on (fun b : _ × _ × State => b.2.2)
    | with_reducible apply H.foldl_on (fun b : _ × _ × _ × State => b.2.2.2) | split
    | fail_if_no_progress with_reducible apply H.set | dsimp only

theorem State.takeAcks_closed (H : Closed Q) {s0 s : State} (h0 : Q s0 s) {a : Nat × Nat} :
    Q s0 (State.takeAcks s a) := by
  unfold State.takeAcks
  try dsimp only
  repeat' first
    | intro _ | with_reducible assumption | fail_if_no_progress with_reducible apply H.set | dsimp only

theorem State.braceValid_closed (H : Closed Q) {s0 s : State} (h0 : Q s0 s)  :
    Q s0 (State.braceValid s) := by
  unfold State.braceValid
  try dsimp only
  repeat' first
    | intro _ | with_reducible assumption | with_reducible apply State.put_closed H
    | with_reducible apply State.wantRole_closed H | with_reducible apply H.ite | with_reducible apply H.when | split
    | fail_if_no_progress with_reducible apply H.set | dsimp only

theorem State.takeLead_closed (H : Closed Q) {s0 s : State} (h0 : Q s0 s) {r : BraceRx} :
    Q s0 (State.takeLead s r) := by
  unfold State.takeLead
  try dsimp only
  repeat' first
    | intro _ | with_reducible assumption | with_reducible apply State.braceValid_closed H
    | with_reducible apply State.hear_closed H | with_reducible apply State.refOffer_closed H
    | with_reducible apply State.seatRest_closed H | with_reducible apply H.ite | with_reducible apply H.when | split
    | fail_if_no_progress with_reducible apply H.set | dsimp only

theorem State.takeRest_closed (H : Closed Q) {s0 s : State} (h0 : Q s0 s) {f : BraceFrame} {role : Nat} {tick : Nat} :
    Q s0 (State.takeRest s f role tick) := by
  unfold State.takeRest
  try dsimp only
  repeat' first
    | intro _ | with_reducible assumption | with_reducible apply State.compareAt_closed H
    | with_reducible apply State.takeAcks_closed H | with_reducible apply State.takeActive_closed H
    | with_reducible apply H.ite | split | fail_if_no_progress with_reducible apply H.set | dsimp only

theorem State.setRelay_closed (H : Closed Q) {s0 s : State} (h0 : Q s0 s) {k : Nat} {x : RelayHid} :
    Q s0 (State.setRelay s k x) := by
  unfold State.setRelay
  try dsimp only
  repeat' first
    | intro _ | with_reducible assumption | with_reducible apply State.put_closed H
    | fail_if_no_progress with_reducible apply H.set | dsimp only

theorem State.relayArm_closed (H : Closed Q) {s0 s : State} (h0 : Q s0 s) {k : Nat} {v : Nat} {channels : List Nat} :
    Q s0 (State.relayArm s k v channels) := by
  unfold State.relayArm
  try dsimp only
  repeat' first
    | intro _ | with_reducible assumption | with_reducible apply State.armPages_closed H
    | with_reducible apply State.setRelay_closed H | with_reducible apply State.shPut_closed H | with_reducible apply H.ite
    | with_reducible apply H.foldl | with_reducible apply H.foldl_on (fun b : _ × State => b.2)
    | with_reducible apply H.foldl_on (fun b : State × _ => b.1)
    | with_reducible apply H.foldl_on (fun b : _ × _ × State => b.2.2)
    | with_reducible apply H.foldl_on (fun b : _ × _ × _ × State => b.2.2.2) | split
    | fail_if_no_progress with_reducible apply H.set | dsimp only

theorem State.relayCommit_closed (H : Closed Q) {s0 s : State} (h0 : Q s0 s) {k : Nat} {v : Nat} :
    Q s0 (State.relayCommit s k v) := by
  unfold State.relayCommit
  try dsimp only
  repeat' first
    | intro _ | with_reducible assumption | with_reducible apply State.relayArm_closed H | dsimp only

theorem State.relayOwed_closed (H : Closed Q) {s0 s : State} (h0 : Q s0 s) {k : Nat} :
    Q s0 (State.relayOwed s k) := by
  unfold State.relayOwed
  try dsimp only
  repeat' first
    | intro _ | with_reducible assumption | with_reducible apply State.relayArm_closed H | with_reducible apply H.ite | split
    | dsimp only

theorem State.relayBegin_closed (H : Closed Q) {s0 s : State} (h0 : Q s0 s) {k : Nat} {release : Bool} :
    Q s0 (State.relayBegin s k release) := by
  unfold State.relayBegin
  try dsimp only
  repeat' first
    | intro _ | with_reducible assumption | with_reducible apply State.bump_closed H | with_reducible apply State.put_closed H
    | with_reducible apply State.raise_closed H | with_reducible apply State.relayCommit_closed H
    | with_reducible apply State.setRelay_closed H | with_reducible apply H.ite | with_reducible apply H.when | split
    | dsimp only

theorem State.relaysDue_closed (H : Closed Q) {s0 s : State} (h0 : Q s0 s)  :
    Q s0 (State.relaysDue s) := by
  unfold State.relaysDue
  try dsimp only
  repeat' first
    | intro _ | with_reducible assumption | with_reducible apply State.relayBegin_closed H | with_reducible apply H.ite
    | with_reducible apply H.each | split | dsimp only

theorem State.relayRest_closed (H : Closed Q) {s0 s : State} (h0 : Q s0 s) {k : Nat} :
    Q s0 (State.relayRest s k) := by
  unfold State.relayRest
  try dsimp only
  repeat' first
    | intro _ | with_reducible assumption | with_reducible apply State.put_closed H
    | with_reducible apply State.setRelay_closed H | with_reducible apply H.ite | split | dsimp only

theorem State.seatFlush_closed (H : Closed Q) {s0 s : State} (h0 : Q s0 s)  :
    Q s0 (State.seatFlush s) := by
  unfold State.seatFlush
  try dsimp only
  repeat' first
    | intro _ | with_reducible assumption | with_reducible apply State.send_closed H
    | fail_if_no_progress with_reducible apply H.set | dsimp only

theorem State.seatRestore_closed (H : Closed Q) {s0 s : State} (h0 : Q s0 s) {x : Saved} : Q s0 (s.seatRestore x) := by
  unfold State.seatRestore
  have ht := H.foldl h0 (f := fun (u : State) (e : Nat × Nat) => u.setWord e.1 e.2) (l := x.words) fun _ _ h => State.setWord_closed H h
  exact H.setMem ht fun w => Sparse.wf_foldl_put (fun e : Nat × BitVec 8 => e) _ (Sparse.wf_eraseRange _ _ w)

theorem State.enginesClear_closed (H : Closed Q) {s0 s : State} (h0 : Q s0 s)  :
    Q s0 (State.enginesClear s) := by
  unfold State.enginesClear
  try dsimp only
  repeat' first
    | intro _ | with_reducible assumption | with_reducible apply State.put_closed H | with_reducible apply H.each | dsimp only

theorem State.coldBegin_closed (H : Closed Q) {s0 s : State} (h0 : Q s0 s)  :
    Q s0 (State.coldBegin s) := by
  unfold State.coldBegin
  try dsimp only
  repeat' first
    | intro _ | with_reducible assumption | with_reducible apply State.copyRecord_closed H
    | with_reducible apply State.enginesClear_closed H | with_reducible apply State.enginesStop_closed H
    | with_reducible apply State.initEngine_closed H | with_reducible apply State.seatAbort_closed H
    | with_reducible apply State.seatRestore_closed H | with_reducible apply State.svcStop_closed H
    | with_reducible apply H.each | with_reducible apply H.foldl | with_reducible apply H.foldl_on (fun b : _ × State => b.2)
    | with_reducible apply H.foldl_on (fun b : State × _ => b.1)
    | with_reducible apply H.foldl_on (fun b : _ × _ × State => b.2.2)
    | with_reducible apply H.foldl_on (fun b : _ × _ × _ × State => b.2.2.2) | split
    | fail_if_no_progress with_reducible apply H.set | dsimp only

theorem State.setRole_closed (H : Closed Q) {s0 s : State} (h0 : Q s0 s) {new : Role} {cause : Nat} :
    Q s0 (State.setRole s new cause) := by
  unfold State.setRole
  try dsimp only
  repeat' first
    | intro _ | with_reducible assumption | with_reducible apply State.bump_closed H
    | with_reducible apply State.coldBegin_closed H | with_reducible apply State.entityAvailable_closed H
    | with_reducible apply State.mixStart_closed H | with_reducible apply State.muteAll_closed H
    | with_reducible apply State.ptpRefresh_closed H | with_reducible apply State.put_closed H
    | with_reducible apply State.raise_closed H | with_reducible apply State.seatRest_closed H
    | with_reducible apply State.setRelay_closed H | with_reducible apply State.txStates_closed H | with_reducible apply H.ite
    | with_reducible apply H.each | with_reducible apply H.when | split | fail_if_no_progress with_reducible apply H.set
    | dsimp only

theorem State.sealTake_closed (H : Closed Q) {s0 s : State} (h0 : Q s0 s)  :
    Q s0 (State.sealTake s) := by
  unfold State.sealTake
  try dsimp only
  repeat' first
    | intro _ | with_reducible assumption | with_reducible apply State.bump_closed H
    | with_reducible apply State.enginesClear_closed H | with_reducible apply State.put_closed H
    | with_reducible apply State.raise_closed H | with_reducible apply State.setRole_closed H | split
    | fail_if_no_progress with_reducible apply H.set | dsimp only

theorem State.roleTick_closed (H : Closed Q) {s0 s : State} (h0 : Q s0 s)  :
    Q s0 (State.roleTick s) := by
  unfold State.roleTick
  try dsimp only
  repeat' first
    | intro _ | with_reducible assumption | with_reducible apply State.sealTake_closed H
    | with_reducible apply State.setRole_closed H | with_reducible apply H.ite | split
    | fail_if_no_progress with_reducible apply H.set | dsimp only

theorem State.braceTick_closed (H : Closed Q) {s0 s : State} (h0 : Q s0 s)  :
    Q s0 (State.braceTick s) := by
  unfold State.braceTick
  try dsimp only
  repeat' first
    | intro _ | with_reducible assumption | with_reducible apply State.muteAll_closed H
    | with_reducible apply State.put_closed H | with_reducible apply State.relayOwed_closed H
    | with_reducible apply State.relayRest_closed H | with_reducible apply State.relaysDue_closed H
    | with_reducible apply State.roleTick_closed H | with_reducible apply State.seatFlush_closed H
    | with_reducible apply H.each | with_reducible apply H.when | dsimp only

theorem State.roleLeave_closed (H : Closed Q) {s0 s : State} (h0 : Q s0 s)  :
    Q s0 (State.roleLeave s) := by
  unfold State.roleLeave
  try dsimp only
  repeat' first
    | intro _ | with_reducible assumption | with_reducible apply State.seatRest_closed H
    | with_reducible apply State.setRole_closed H | with_reducible apply H.ite | split
    | fail_if_no_progress with_reducible apply H.set | dsimp only

theorem State.seatBegin_closed (H : Closed Q) {s0 s : State} (h0 : Q s0 s)  :
    Q s0 (State.seatBegin s) := by
  unfold State.seatBegin
  try dsimp only
  repeat' first
    | intro _ | with_reducible assumption | with_reducible apply State.put_closed H
    | with_reducible apply State.seatFlush_closed H | with_reducible apply H.ite | with_reducible apply H.when | split
    | fail_if_no_progress with_reducible apply H.set | dsimp only

theorem State.seatWord_closed (H : Closed Q) {s0 s : State} (h0 : Q s0 s) {m : Mirror} :
    Q s0 (State.seatWord s m) := by
  unfold State.seatWord
  try dsimp only
  repeat' first
    | intro _ | with_reducible assumption | with_reducible apply State.put_closed H
    | with_reducible apply State.seatStore_closed H | with_reducible apply H.ite | with_reducible apply H.foldl
    | with_reducible apply H.foldl_on (fun b : _ × State => b.2) | with_reducible apply H.foldl_on (fun b : State × _ => b.1)
    | with_reducible apply H.foldl_on (fun b : _ × _ × State => b.2.2)
    | with_reducible apply H.foldl_on (fun b : _ × _ × _ × State => b.2.2.2) | split | dsimp only

end Sys2Proof.Machine
end

