-- ==== Sys2Proof/Laws/ClosedImage.lean ====
section
/-! SUPPORT. The relations of Laws/Closed.lean hold across the operations of Machine/Image.lean: one lemma for each. -/

namespace Sys2Proof.Machine

variable {Q : State → State → Prop}

theorem State.holdReason_closed (H : Closed Q) {s0 s : State} (h0 : Q s0 s) {b : Bad} :
    Q s0 (State.holdReason s b) := by
  unfold State.holdReason
  try dsimp only
  repeat' first
    | intro _ | with_reducible assumption | with_reducible apply State.put_closed H | dsimp only

theorem State.protLoad_closed (H : Closed Q) {s0 s : State} (h0 : Q s0 s) {base : Nat} :
    Q s0 (State.protLoad s base) := by
  unfold State.protLoad
  try dsimp only
  repeat' first
    | intro _ | with_reducible assumption | with_reducible apply State.put_closed H | with_reducible apply H.ite
    | with_reducible apply H.each | split | fail_if_no_progress with_reducible apply H.set | dsimp only

theorem State.protFallback_closed (H : Closed Q) {s0 s : State} (h0 : Q s0 s)  :
    Q s0 (State.protFallback s) := by
  unfold State.protFallback
  try dsimp only
  repeat' first
    | intro _ | with_reducible assumption | with_reducible apply State.put_closed H | with_reducible apply H.ite | split
    | fail_if_no_progress with_reducible apply H.set | dsimp only

theorem State.presetWrite_closed (H : Closed Q) {s0 s : State} (h0 : Q s0 s) {a : Nat} {v : Nat} :
    Q s0 (State.presetWrite s a v) := by
  unfold State.presetWrite
  try dsimp only
  repeat' first
    | intro _ | with_reducible assumption | with_reducible apply State.avdCtrlWritten_closed H
    | with_reducible apply State.baselineWrite_closed H | with_reducible apply State.shPut_closed H
    | with_reducible apply State.writeField_closed H | with_reducible apply State.writeHeader_closed H
    | with_reducible apply H.ite | with_reducible apply H.when | with_reducible apply H.foldl
    | with_reducible apply H.foldl_on (fun b : _ × State => b.2) | with_reducible apply H.foldl_on (fun b : State × _ => b.1)
    | with_reducible apply H.foldl_on (fun b : _ × _ × State => b.2.2)
    | with_reducible apply H.foldl_on (fun b : _ × _ × _ × State => b.2.2.2) | split | dsimp only

theorem State.shadowReset_closed (H : Closed Q) {s0 s : State} (h0 : Q s0 s)  :
    Q s0 (State.shadowReset s) := by
  unfold State.shadowReset
  try dsimp only
  repeat' first
    | intro _ | with_reducible assumption | with_reducible apply State.shPut_closed H | with_reducible apply H.foldl
    | with_reducible apply H.foldl_on (fun b : _ × State => b.2) | with_reducible apply H.foldl_on (fun b : State × _ => b.1)
    | with_reducible apply H.foldl_on (fun b : _ × _ × State => b.2.2)
    | with_reducible apply H.foldl_on (fun b : _ × _ × _ × State => b.2.2.2) | split
    | fail_if_no_progress with_reducible apply H.set | dsimp only

theorem State.entryWords_closed (H : Closed Q) {s0 s : State} (h0 : Q s0 s) {page : Nat} {off : Nat} {n : Nat} {ws : List Nat} :
    Q s0 (State.entryWords s page off n ws) := by
  unfold State.entryWords
  try dsimp only
  repeat' first
    | intro _ | with_reducible assumption | with_reducible apply State.shPut_closed H | with_reducible apply H.foldl
    | with_reducible apply H.foldl_on (fun b : _ × State => b.2) | with_reducible apply H.foldl_on (fun b : State × _ => b.1)
    | with_reducible apply H.foldl_on (fun b : _ × _ × State => b.2.2)
    | with_reducible apply H.foldl_on (fun b : _ × _ × _ × State => b.2.2.2) | dsimp only

theorem State.streamWords_closed (H : Closed Q) {s0 s : State} (h0 : Q s0 s) {a : Nat} :
    Q s0 (State.streamWords s a) := by
  unfold State.streamWords
  try dsimp only
  repeat' first
    | intro _ | with_reducible assumption | with_reducible apply State.entryWords_closed H | with_reducible apply H.each
    | dsimp only

theorem State.tableWords_closed (H : Closed Q) {s0 s : State} (h0 : Q s0 s) {a len : Nat} : Q s0 (s.tableWords a len) := by
  unfold State.tableWords
  exact State.shPut_closed H (State.setBytes_closed H (H.setMem h0 fun w => Sparse.wf_eraseRange _ _ w))

theorem State.imgInfo_closed (H : Closed Q) {s0 s : State} (h0 : Q s0 s) {base : Nat} :
    Q s0 (State.imgInfo s base) := by
  unfold State.imgInfo
  try dsimp only
  repeat' first
    | intro _ | with_reducible assumption | with_reducible apply State.put_closed H | split
    | fail_if_no_progress with_reducible apply H.set | dsimp only

theorem State.imgCommit_closed (H : Closed Q) {s0 t : State} (h0 : Q s0 t) {s : State} {cut : Cut} :
    Q s0 (State.imgCommit t s cut) := by
  unfold State.imgCommit
  try dsimp only
  repeat' first
    | intro _ | with_reducible assumption | with_reducible apply State.commitWork_closed H
    | with_reducible apply State.dropShadow_closed H | with_reducible apply State.withShadow_closed H
    | fail_if_no_progress with_reducible apply H.set | dsimp only

end Sys2Proof.Machine
end

