-- ==== Sys2Proof/Laws/ClosedModes.lean ====
section
/-! SUPPORT. The relations of Laws/Closed.lean hold across the operations of Machine/Modes.lean: one lemma for each. -/

namespace Sys2Proof.Machine

variable {Q : State → State → Prop}

theorem State.follow_closed (H : Closed Q) {s0 s : State} (h0 : Q s0 s)  :
    Q s0 (State.follow s) := by
  unfold State.follow
  try dsimp only
  repeat' first
    | intro _ | with_reducible assumption | with_reducible apply State.ptpRefresh_closed H
    | with_reducible apply State.spRefreshAll_closed H | with_reducible apply State.txStates_closed H | dsimp only

theorem State.netStart_closed (H : Closed Q) {s0 s : State} (h0 : Q s0 s)  :
    Q s0 (State.netStart s) := by
  unfold State.netStart
  try dsimp only
  repeat' first
    | intro _ | with_reducible assumption | with_reducible apply State.admission_closed H
    | with_reducible apply State.effAll_closed H | with_reducible apply State.hostPoll_closed H
    | with_reducible apply State.macCommit_closed H | with_reducible apply State.pllsPower_closed H
    | with_reducible apply State.seatRest_closed H | dsimp only

theorem State.egrFlush_closed (H : Closed Q) {s0 s : State} (h0 : Q s0 s)  :
    Q s0 (State.egrFlush s) := by
  unfold State.egrFlush
  try dsimp only
  repeat' first
    | intro _ | with_reducible assumption | with_reducible apply State.t1sSend_closed H | with_reducible apply H.ite
    | with_reducible apply H.each | split | dsimp only

theorem State.lanesSleep_closed (H : Closed Q) {s0 s : State} (h0 : Q s0 s)  :
    Q s0 (State.lanesSleep s) := by
  unfold State.lanesSleep
  try dsimp only
  repeat' first
    | intro _ | with_reducible assumption | with_reducible apply State.linkGone_closed H | with_reducible apply H.ite
    | with_reducible apply H.each | split | dsimp only

end Sys2Proof.Machine
end

