-- ==== Sys2Proof/Laws/ClosedBoot.lean ====
section
/-! SUPPORT. The relations of Laws/Closed.lean hold across the operations of Machine/Boot.lean: one lemma for each. -/

namespace Sys2Proof.Machine

variable {Q : State → State → Prop}

theorem State.bootEnd_closed (H : Closed Q) {s0 s : State} (h0 : Q s0 s) {us : Nat} :
    Q s0 (State.bootEnd s us) := by
  unfold State.bootEnd
  try dsimp only
  repeat' first
    | intro _ | with_reducible assumption | with_reducible apply State.mediaStart_closed H
    | with_reducible apply State.pllmUngate_closed H | with_reducible apply State.put_closed H
    | with_reducible apply State.raise_closed H | with_reducible apply H.when | fail_if_no_progress with_reducible apply H.set
    | dsimp only

theorem State.headerTake_closed (H : Closed Q) {s0 s : State} (h0 : Q s0 s)  :
    Q s0 (State.headerTake s) := by
  unfold State.headerTake
  try dsimp only
  repeat' first
    | intro _ | with_reducible assumption | with_reducible apply State.put_closed H
    | fail_if_no_progress with_reducible apply H.set | dsimp only

theorem State.flashErr_closed (H : Closed Q) {s0 s : State} (h0 : Q s0 s)  :
    Q s0 (State.flashErr s) := by
  unfold State.flashErr
  try dsimp only
  repeat' first
    | intro _ | with_reducible assumption | with_reducible apply State.bump_closed H | with_reducible apply State.put_closed H
    | dsimp only

end Sys2Proof.Machine
end

