-- ==== Sys2Proof/Laws/ClosedAccess.lean ====
section
/-! SUPPORT. The relations of Laws/Closed.lean hold across the operations of Machine/Access.lean: one lemma for each. -/

namespace Sys2Proof.Machine

variable {Q : State → State → Prop}

theorem State.clearFld_closed (H : Closed Q) {s0 s : State} (h0 : Q s0 s) {p : Nat} {f : Fld} :
    Q s0 (State.clearFld s p f) := by
  unfold State.clearFld
  try dsimp only
  repeat' first
    | intro _ | with_reducible assumption | with_reducible apply H.ite | split | fail_if_no_progress with_reducible apply H.set
    | dsimp only

theorem State.clearCounters_closed (H : Closed Q) {s0 s : State} (h0 : Q s0 s) {p : Nat} : Q s0 (s.clearCounters p) := by
  unfold State.clearCounters
  exact H.when (H.foldl h0 fun _ _ h => State.clearFld_closed H h) fun _ h => H.setMem h fun w => Sparse.wf_eraseRange _ _ w

theorem State.srst_closed (H : Closed Q) {s0 s : State} (h0 : Q s0 s) {p : Nat} :
    Q s0 (State.srst s p) := by
  unfold State.srst
  try dsimp only
  repeat' first
    | intro _ | with_reducible assumption | with_reducible apply State.clearCounters_closed H
    | with_reducible apply State.clearFld_closed H | with_reducible apply State.put_closed H | with_reducible apply H.ite
    | with_reducible apply H.foldl | with_reducible apply H.foldl_on (fun b : _ × State => b.2)
    | with_reducible apply H.foldl_on (fun b : State × _ => b.1)
    | with_reducible apply H.foldl_on (fun b : _ × _ × State => b.2.2)
    | with_reducible apply H.foldl_on (fun b : _ × _ × _ × State => b.2.2.2) | split | dsimp only

theorem State.srstWrite_closed (H : Closed Q) {s0 s : State} (h0 : Q s0 s) {p : Nat} :
    Q s0 (State.srstWrite s p) := by
  unfold State.srstWrite
  try dsimp only
  repeat' first
    | intro _ | with_reducible assumption | with_reducible apply State.hostErr_closed H
    | with_reducible apply State.srst_closed H | with_reducible apply H.ite | split | dsimp only

theorem State.setFence_closed (H : Closed Q) {s0 s : State} (h0 : Q s0 s) {who : Initiator} {l : List (Nat × Peer)} :
    Q s0 (State.setFence s who l) := by
  unfold State.setFence
  try dsimp only
  repeat' first
    | intro _ | with_reducible assumption | fail_if_no_progress with_reducible apply H.set | dsimp only

theorem State.fenceStart_closed (H : Closed Q) {s0 s : State} (h0 : Q s0 s) {who : Initiator} :
    Q s0 (State.fenceStart s who) := by
  unfold State.fenceStart
  try dsimp only
  repeat' first
    | intro _ | with_reducible assumption | with_reducible apply State.setFence_closed H | dsimp only

theorem State.flFill_closed (H : Closed Q) {s0 s : State} (h0 : Q s0 s) {k : Nat} {e'0 : List Byte} :
    Q s0 (State.flFill s k e'0) := by
  induction e'0 generalizing s k with
  | nil =>
    unfold State.flFill
    try dsimp only
    repeat' first
      | intro _ | with_reducible assumption | with_reducible apply State.put_closed H | dsimp only
  | cons x l ih =>
    unfold State.flFill
    try dsimp only
    repeat' first
      | intro _ | with_reducible assumption | with_reducible apply ih | with_reducible apply State.put_closed H | dsimp only

theorem State.flashStart_closed (H : Closed Q) {s0 s : State} (h0 : Q s0 s) {write : Bool} {opcode : Nat} {ab : Nat} {len : Nat} :
    Q s0 (State.flashStart s write opcode ab len) := by
  unfold State.flashStart
  try dsimp only
  repeat' first
    | intro _ | with_reducible assumption | with_reducible apply State.hostErr_closed H
    | with_reducible apply State.put_closed H | with_reducible apply State.send_closed H | with_reducible apply H.ite | split
    | dsimp only

theorem State.otpStart_closed (H : Closed Q) {s0 s : State} (h0 : Q s0 s) {op : Nat} {index : Nat} :
    Q s0 (State.otpStart s op index) := by
  unfold State.otpStart
  try dsimp only
  repeat' first
    | intro _ | with_reducible assumption | with_reducible apply State.hostErr_closed H
    | with_reducible apply State.put_closed H | with_reducible apply H.ite | split | dsimp only

theorem State.mirrorWrite_closed (H : Closed Q) {s0 s t : State} (h0 : Q s0 t) {who : Initiator} {a v : Nat} :
    Q s0 (s.mirrorWrite t who a v) := by
  unfold State.mirrorWrite
  dsimp only
  split
  · exact State.mirrorOut_closed H h0
  · exact h0

theorem State.memStore_closed (H : Closed Q) {s0 s : State} (h0 : Q s0 s) {who : Initiator} {a : Nat} {v : Nat} :
    Q s0 (State.memStore s who a v) := by
  unfold State.memStore
  try dsimp only
  repeat' first
    | intro _ | with_reducible assumption | with_reducible apply State.hostErr_closed H
    | with_reducible apply State.mirrorOut_closed H | with_reducible apply State.setWord_closed H | with_reducible apply H.ite
    | split | fail_if_no_progress with_reducible apply H.set | dsimp only

theorem State.readWord_closed (H : Closed Q) {s0 s : State} (h0 : Q s0 s) {who : Initiator} {a : Nat} :
    Q s0 (State.readWord s who a).2 := by
  unfold State.readWord
  try dsimp only
  repeat' first
    | intro _ | with_reducible assumption | with_reducible apply State.deny_closed H | with_reducible apply State.draw_closed H
    | with_reducible apply State.latchRead_closed H | with_reducible apply State.raise_closed H | with_reducible apply H.ite
    | split | dsimp only

end Sys2Proof.Machine
end

