-- ==== Sys2Proof/Laws/ClosedHostPath.lean ====
section
/-! SUPPORT. The relations of Laws/Closed.lean hold across the operations of Machine/HostPath.lean: one lemma for each. -/

namespace Sys2Proof.Machine

variable {Q : State → State → Prop}

theorem State.qspiReject_closed (H : Closed Q) {s0 s : State} (h0 : Q s0 s)  :
    Q s0 (State.qspiReject s) := by
  unfold State.qspiReject
  try dsimp only
  repeat' first
    | intro _ | with_reducible assumption | with_reducible apply State.bump_closed H | with_reducible apply State.put_closed H
    | with_reducible apply State.raise_closed H | dsimp only

theorem State.qspiCut_closed (H : Closed Q) {s0 s : State} (h0 : Q s0 s) {b : Bool} :
    Q s0 (State.qspiCut s b) := by
  unfold State.qspiCut
  try dsimp only
  repeat' first
    | intro _ | with_reducible assumption | with_reducible apply State.bump_closed H | with_reducible apply State.put_closed H
    | with_reducible apply H.when | dsimp only

theorem State.qspiWords_closed (H : Closed Q) {s0 s : State} (h0 : Q s0 s) {tx : QspiTx} {k : Nat} {e'0 : Nat} :
    Q s0 (State.qspiWords s tx k e'0).2 := by
  induction e'0 generalizing s tx k with
  | zero =>
    unfold State.qspiWords
    try dsimp only
    repeat' first
      | intro _ | with_reducible assumption | with_reducible apply State.bump_closed H
      | with_reducible apply State.put_closed H | with_reducible apply State.readWord_closed H | with_reducible apply H.ite
      | with_reducible apply H.when | split | dsimp only
  | succ n ih =>
    unfold State.qspiWords
    try dsimp only
    repeat' first
      | intro _ | with_reducible assumption | with_reducible apply ih | with_reducible apply State.bump_closed H
      | with_reducible apply State.put_closed H | with_reducible apply State.readWord_closed H | with_reducible apply H.ite
      | with_reducible apply H.when | split | dsimp only

theorem State.qspiRead_closed (H : Closed Q) {s0 s : State} (h0 : Q s0 s) {code : Nat} {tx : QspiTx} :
    Q s0 (State.qspiRead s code tx) := by
  unfold State.qspiRead
  try dsimp only
  repeat' first
    | intro _ | with_reducible assumption | with_reducible apply State.qspiCut_closed H
    | with_reducible apply State.qspiReject_closed H | with_reducible apply State.qspiWords_closed H
    | with_reducible apply State.send_closed H | with_reducible apply H.ite | split | dsimp only

theorem State.ocdorSend_closed (H : Closed Q) {s0 s : State} (h0 : Q s0 s) {k : Nat} {to' : Peer} {op : Nat} {seq : Nat} {status : Nat} {addr : Nat} {data : List Nat} :
    Q s0 (State.ocdorSend s k to' op seq status addr data) := by
  unfold State.ocdorSend
  try dsimp only
  repeat' first
    | intro _ | with_reducible assumption | with_reducible apply State.slotCount_closed H
    | with_reducible apply State.submit_closed H | dsimp only

theorem State.ocdorAnswer_closed (H : Closed Q) {s0 s : State} (h0 : Q s0 s) {f : OcdorFrame} {status : Nat} {data : List Nat} :
    Q s0 (State.ocdorAnswer s f status data) := by
  unfold State.ocdorAnswer
  try dsimp only
  repeat' first
    | intro _ | with_reducible assumption | with_reducible apply State.ocdorSend_closed H | dsimp only

theorem State.ocdor_closed (H : Closed Q) {s0 s : State} (h0 : Q s0 s) {f : OcdorFrame} {op : Nat} {g : State → State} (hf_g : ∀ t, Q s0 t → Q s0 (g t)) :
    Q s0 (State.ocdor s f op g) := by
  unfold State.ocdor
  try dsimp only
  repeat' first
    | intro _ | with_reducible assumption | apply hf_g | with_reducible apply State.bump_closed H
    | with_reducible apply State.ocdorAnswer_closed H | with_reducible apply State.raise_closed H
    | with_reducible apply State.setSlot_closed H | with_reducible apply H.ite | split
    | fail_if_no_progress with_reducible apply H.set | dsimp only

theorem State.ibWords_closed (H : Closed Q) {s0 s : State} (h0 : Q s0 s) {who : Initiator} {a : Nat} {k : Nat} {e'0 : Nat} :
    Q s0 (State.ibWords s who a k e'0).2 := by
  induction e'0 generalizing s who a k with
  | zero =>
    unfold State.ibWords
    try dsimp only
    repeat' first
      | intro _ | with_reducible assumption | with_reducible apply State.readWord_closed H | dsimp only
  | succ n ih =>
    unfold State.ibWords
    try dsimp only
    repeat' first
      | intro _ | with_reducible assumption | with_reducible apply ih | with_reducible apply State.readWord_closed H
      | dsimp only

theorem State.eventFrames_closed (H : Closed Q) {s0 s : State} (h0 : Q s0 s)  :
    Q s0 (State.eventFrames s) := by
  unfold State.eventFrames
  try dsimp only
  repeat' first
    | intro _ | with_reducible assumption | with_reducible apply State.ocdorSend_closed H
    | with_reducible apply State.setSlot_closed H | with_reducible apply H.ite | with_reducible apply H.each
    | with_reducible apply H.foldl | with_reducible apply H.foldl_on (fun b : _ × State => b.2)
    | with_reducible apply H.foldl_on (fun b : State × _ => b.1)
    | with_reducible apply H.foldl_on (fun b : _ × _ × State => b.2.2)
    | with_reducible apply H.foldl_on (fun b : _ × _ × _ × State => b.2.2.2) | split
    | fail_if_no_progress with_reducible apply H.set | dsimp only

end Sys2Proof.Machine
end

