-- ==== Sys2Proof/Laws/ClosedTick.lean ====
section
/-! SUPPORT. The relations of Laws/Closed.lean hold across the operations of Machine/Tick.lean: one lemma for each. -/

namespace Sys2Proof.Machine

variable {Q : State → State → Prop}

theorem State.windowOpen_closed (H : Closed Q) {s0 s : State} (h0 : Q s0 s) {faults : List EngFault} {ecc : List EccErr} :
    Q s0 (State.windowOpen s faults ecc) := by
  unfold State.windowOpen
  try dsimp only
  repeat' first
    | intro _ | with_reducible assumption | with_reducible apply State.braceTx_closed H
    | with_reducible apply State.earlyOpen_closed H | with_reducible apply State.earlyPasses_closed H
    | with_reducible apply State.engineFaults_closed H | with_reducible apply H.ite | with_reducible apply H.when | split
    | fail_if_no_progress with_reducible apply H.set | dsimp only

theorem State.deadline_closed (H : Closed Q) {s0 s : State} (h0 : Q s0 s) {late : List EngLate} :
    Q s0 (State.deadline s late) := by
  unfold State.deadline
  try dsimp only
  repeat' first
    | intro _ | with_reducible assumption | with_reducible apply State.agree_closed H
    | with_reducible apply State.digestTick_closed H | with_reducible apply State.enginesRun_closed H
    | with_reducible apply State.lateOutput_closed H | with_reducible apply State.windowOpen_closed H
    | with_reducible apply H.ite | with_reducible apply H.when | split | fail_if_no_progress with_reducible apply H.set
    | dsimp only

theorem State.feedAll_closed (H : Closed Q) {s0 s : State} (h0 : Q s0 s)  :
    Q s0 (State.feedAll s) := by
  unfold State.feedAll
  try dsimp only
  repeat' first
    | intro _ | with_reducible assumption | with_reducible apply State.feedPush_closed H | with_reducible apply H.ite
    | with_reducible apply H.each | split | dsimp only

theorem State.boundaryPart_closed (H : Closed Q) {s0 s : State} (h0 : Q s0 s) {f : State → State}
    (hf : ∀ s1 t, Q s1 t → Q s1 (f t)) : Q s0 (s.boundaryPart f) := by
  unfold State.boundaryPart
  split
  · exact State.atBoundary_closed H (State.deadline_closed H h0) hf
  · exact h0

theorem State.tickWork_closed (H : Closed Q) {s0 s : State} (h0 : Q s0 s)  :
    Q s0 (State.tickWork s) := by
  unfold State.tickWork
  try dsimp only
  repeat' first
    | intro _ | with_reducible assumption | with_reducible apply State.clearRead_closed H
    | with_reducible apply State.clkTick_closed H | with_reducible apply State.eventFrames_closed H
    | with_reducible apply State.feedAll_closed H | with_reducible apply State.igmpTick_closed H
    | with_reducible apply State.lateFeed_closed H | with_reducible apply State.powerTick_closed H
    | with_reducible apply State.readControls_closed H | with_reducible apply State.sapWithdraw_closed H
    | with_reducible apply State.svcTick_closed H | with_reducible apply State.txTick_closed H | with_reducible apply H.each
    | dsimp only

end Sys2Proof.Machine
end

