-- ==== Sys2Proof/Laws/ClosedExec.lean ====
section
/-! SUPPORT. The relations of Laws/Closed.lean hold across every command: one lemma for each. -/

namespace Sys2Proof.Machine

variable {Q : State → State → Prop}

theorem execPauseRefresh_closed (H : Closed Q) {s t : State} {port : Fin 8}
    (h : execPauseRefresh port s = .next t) : Q s t := by
  have h0 := H.refl s
  unfold execPauseRefresh at h
  injection h with h
  subst h
  try dsimp only
  repeat' first
    | intro _ | with_reducible assumption | with_reducible apply State.sendPause_closed H | with_reducible apply H.ite | split
    | dsimp only

theorem execPauseCancel_closed (H : Closed Q) {s t : State} {port : Fin 8}
    (h : execPauseCancel port s = .next t) : Q s t := by
  have h0 := H.refl s
  unfold execPauseCancel at h
  injection h with h
  subst h
  try dsimp only
  repeat' first
    | intro _ | with_reducible assumption | with_reducible apply State.put_closed H
    | with_reducible apply State.sendPause_closed H | with_reducible apply H.ite | split | dsimp only

theorem execPauseRx_closed (H : Closed Q) {s t : State} {port : Fin 8} {f : PauseFrame}
    (h : execPauseRx port f s = .next t) : Q s t := by
  have h0 := H.refl s
  unfold execPauseRx at h
  injection h with h
  subst h
  try dsimp only
  repeat' first
    | intro _ | with_reducible assumption | with_reducible apply State.bump_closed H
    | with_reducible apply State.macControl_closed H | with_reducible apply H.ite | split | dsimp only

theorem execPauseTimerExpiry_closed (H : Closed Q) {s t : State} {port : Fin 8} {prio : Option (Fin 8)}
    (h : execPauseTimerExpiry port prio s = .next t) : Q s t := by
  have h0 := H.refl s
  unfold execPauseTimerExpiry at h
  injection h with h
  subst h
  try dsimp only
  repeat' first
    | intro _ | with_reducible assumption | with_reducible apply State.put_closed H
    | with_reducible apply State.putBit_closed H | with_reducible apply H.ite | split
    | fail_if_no_progress with_reducible apply H.set | dsimp only

theorem execMdioC22Read_closed (H : Closed Q) {s t : State} {who : Initiator} {phy : Fin 32} {reg : Fin 32}
    (h : execMdioC22Read who phy reg s = .next t) : Q s t := by
  have h0 := H.refl s
  unfold execMdioC22Read at h
  injection h with h
  subst h
  try dsimp only
  repeat' first
    | intro _ | with_reducible assumption | with_reducible apply State.command_closed H
    | with_reducible apply State.mdioStart_closed H | dsimp only

theorem execMdioC22Write_closed (H : Closed Q) {s t : State} {who : Initiator} {phy : Fin 32} {reg : Fin 32}
    (h : execMdioC22Write who phy reg s = .next t) : Q s t := by
  have h0 := H.refl s
  unfold execMdioC22Write at h
  injection h with h
  subst h
  try dsimp only
  repeat' first
    | intro _ | with_reducible assumption | with_reducible apply State.command_closed H
    | with_reducible apply State.mdioStart_closed H | dsimp only

theorem execMdioC45Address_closed (H : Closed Q) {s t : State} {who : Initiator} {phy : Fin 32} {dev : Fin 32}
    (h : execMdioC45Address who phy dev s = .next t) : Q s t := by
  have h0 := H.refl s
  unfold execMdioC45Address at h
  injection h with h
  subst h
  try dsimp only
  repeat' first
    | intro _ | with_reducible assumption | with_reducible apply State.command_closed H
    | with_reducible apply State.mdioStart_closed H | dsimp only

theorem execMdioC45Write_closed (H : Closed Q) {s t : State} {who : Initiator} {phy : Fin 32} {dev : Fin 32}
    (h : execMdioC45Write who phy dev s = .next t) : Q s t := by
  have h0 := H.refl s
  unfold execMdioC45Write at h
  injection h with h
  subst h
  try dsimp only
  repeat' first
    | intro _ | with_reducible assumption | with_reducible apply State.command_closed H
    | with_reducible apply State.mdioStart_closed H | dsimp only

theorem execMdioC45Read_closed (H : Closed Q) {s t : State} {who : Initiator} {phy : Fin 32} {dev : Fin 32}
    (h : execMdioC45Read who phy dev s = .next t) : Q s t := by
  have h0 := H.refl s
  unfold execMdioC45Read at h
  injection h with h
  subst h
  try dsimp only
  repeat' first
    | intro _ | with_reducible assumption | with_reducible apply State.command_closed H
    | with_reducible apply State.mdioStart_closed H | dsimp only

theorem execMdioDone_closed (H : Closed Q) {s t : State} {data : BitVec 16}
    (h : execMdioDone data s = .next t) : Q s t := by
  have h0 := H.refl s
  unfold execMdioDone at h
  injection h with h
  subst h
  try dsimp only
  repeat' first
    | intro _ | with_reducible assumption | with_reducible apply State.put_closed H | with_reducible apply H.ite | split
    | dsimp only

theorem execPlcaBeaconTx_closed (H : Closed Q) {s t : State} {t1s : Fin 2}
    (h : execPlcaBeaconTx t1s s = .next t) : Q s t := by
  have h0 := H.refl s
  unfold execPlcaBeaconTx at h
  injection h with h
  subst h
  try dsimp only
  repeat' first
    | intro _ | with_reducible assumption | with_reducible apply State.plcaCycle_closed H
    | with_reducible apply State.plcaStop_closed H | with_reducible apply State.put_closed H
    | with_reducible apply State.send_closed H | with_reducible apply H.ite | split | dsimp only

theorem execPlcaBeaconRx_closed (H : Closed Q) {s t : State} {t1s : Fin 2}
    (h : execPlcaBeaconRx t1s s = .next t) : Q s t := by
  have h0 := H.refl s
  unfold execPlcaBeaconRx at h
  injection h with h
  subst h
  try dsimp only
  repeat' first
    | intro _ | with_reducible assumption | with_reducible apply State.plcaCycle_closed H
    | with_reducible apply State.plcaFault_closed H | with_reducible apply State.plcaStop_closed H | with_reducible apply H.ite
    | split | dsimp only

theorem execPlcaTxOpportunity_closed (H : Closed Q) {s t : State} {t1s : Fin 2}
    (h : execPlcaTxOpportunity t1s s = .next t) : Q s t := by
  have h0 := H.refl s
  unfold execPlcaTxOpportunity at h
  injection h with h
  subst h
  try dsimp only
  repeat' first
    | intro _ | with_reducible assumption | with_reducible apply State.poolUpdate_closed H
    | with_reducible apply State.t1sSend_closed H | with_reducible apply H.ite | with_reducible apply H.each | split
    | dsimp only

theorem execPlcaBeaconLost_closed (H : Closed Q) {s t : State} {t1s : Fin 2}
    (h : execPlcaBeaconLost t1s s = .next t) : Q s t := by
  have h0 := H.refl s
  unfold execPlcaBeaconLost at h
  injection h with h
  subst h
  try dsimp only
  repeat' first
    | intro _ | with_reducible assumption | with_reducible apply State.plcaFault_closed H
    | with_reducible apply State.put_closed H | with_reducible apply H.ite | split | dsimp only

theorem execPlcaCollision_closed (H : Closed Q) {s t : State} {t1s : Fin 2}
    (h : execPlcaCollision t1s s = .next t) : Q s t := by
  have h0 := H.refl s
  unfold execPlcaCollision at h
  injection h with h
  subst h
  try dsimp only
  repeat' first
    | intro _ | with_reducible assumption | with_reducible apply State.bump_closed H
    | with_reducible apply State.dropFrame_closed H | with_reducible apply State.plcaFault_closed H
    | with_reducible apply State.setPh_closed H | with_reducible apply H.ite | split
    | fail_if_no_progress with_reducible apply H.set | dsimp only

theorem execFdbLookup_closed (H : Closed Q) {s t : State} {who : Initiator}
    (h : execFdbLookup who s = .next t) : Q s t := by
  have h0 := H.refl s
  unfold execFdbLookup at h
  injection h with h
  subst h
  try dsimp only
  repeat' first
    | intro _ | with_reducible assumption | with_reducible apply State.command_closed H
    | with_reducible apply State.fdbStart_closed H | dsimp only

theorem execFdbAddStatic_closed (H : Closed Q) {s t : State} {who : Initiator}
    (h : execFdbAddStatic who s = .next t) : Q s t := by
  have h0 := H.refl s
  unfold execFdbAddStatic at h
  injection h with h
  subst h
  try dsimp only
  repeat' first
    | intro _ | with_reducible assumption | with_reducible apply State.command_closed H
    | with_reducible apply State.fdbStart_closed H | dsimp only

theorem execFdbDelete_closed (H : Closed Q) {s t : State} {who : Initiator}
    (h : execFdbDelete who s = .next t) : Q s t := by
  have h0 := H.refl s
  unfold execFdbDelete at h
  injection h with h
  subst h
  try dsimp only
  repeat' first
    | intro _ | with_reducible assumption | with_reducible apply State.command_closed H
    | with_reducible apply State.fdbStart_closed H | dsimp only

theorem execFdbFlushDynamic_closed (H : Closed Q) {s t : State} {who : Initiator}
    (h : execFdbFlushDynamic who s = .next t) : Q s t := by
  have h0 := H.refl s
  unfold execFdbFlushDynamic at h
  injection h with h
  subst h
  try dsimp only
  repeat' first
    | intro _ | with_reducible assumption | with_reducible apply State.command_closed H
    | with_reducible apply State.fdbStart_closed H | dsimp only

theorem execFdbCmdDone_closed (H : Closed Q) {s t : State} 
    (h : execFdbCmdDone s = .next t) : Q s t := by
  have h0 := H.refl s
  unfold execFdbCmdDone at h
  injection h with h
  subst h
  try dsimp only
  repeat' first
    | intro _ | with_reducible assumption | with_reducible apply State.fdbRun_closed H
    | with_reducible apply State.put_closed H | with_reducible apply H.ite | split | dsimp only

theorem execFdbAgeOut_closed (H : Closed Q) {s t : State} {mac : Mac} {vid : Fin 4096}
    (h : execFdbAgeOut mac vid s = .next t) : Q s t := by
  have h0 := H.refl s
  unfold execFdbAgeOut at h
  injection h with h
  subst h
  try dsimp only
  repeat' first
    | intro _ | with_reducible assumption | with_reducible apply State.setFdb_closed H | with_reducible apply H.ite | split
    | fail_if_no_progress with_reducible apply H.set | dsimp only

theorem execTsnFilterUnblock_closed (H : Closed Q) {s t : State} {who : Initiator} {filter : Fin 512}
    (h : execTsnFilterUnblock who filter s = .next t) : Q s t := by
  have h0 := H.refl s
  unfold execTsnFilterUnblock at h
  injection h with h
  subst h
  try dsimp only
  repeat' first
    | intro _ | with_reducible assumption | with_reducible apply State.command_closed H
    | with_reducible apply State.put_closed H | dsimp only

theorem execFrerResetTimeout_closed (H : Closed Q) {s t : State} {entry : Fin 256}
    (h : execFrerResetTimeout entry s = .next t) : Q s t := by
  have h0 := H.refl s
  unfold execFrerResetTimeout at h
  injection h with h
  subst h
  try dsimp only
  repeat' first
    | intro _ | with_reducible assumption | with_reducible apply State.bump_closed H
    | with_reducible apply State.frerEvent_closed H | with_reducible apply State.setFrer_closed H | with_reducible apply H.ite
    | split | dsimp only

theorem execMacFrameRx_closed (H : Closed Q) {s t : State} {port : Fin 8} {f : FrameIn}
    (h : execMacFrameRx port f s = .next t) : Q s t := by
  have h0 := H.refl s
  unfold execMacFrameRx at h
  injection h with h
  subst h
  try dsimp only
  repeat' first
    | intro _ | with_reducible assumption | with_reducible apply State.badFrame_closed H
    | with_reducible apply State.bridgeFrame_closed H | with_reducible apply State.bump_closed H | with_reducible apply H.ite
    | split | dsimp only

theorem execHostFrameSubmit_closed (H : Closed Q) {s t : State} {who : Initiator} {tail : Fin 1024}
    (h : execHostFrameSubmit who tail s = .next t) : Q s t := by
  have h0 := H.refl s
  unfold execHostFrameSubmit at h
  injection h with h
  subst h
  try dsimp only
  repeat' first
    | intro _ | with_reducible assumption | with_reducible apply State.command_closed H
    | with_reducible apply State.htxTail_closed H | dsimp only

theorem execTasConfigChange_closed (H : Closed Q) {s t : State} {port : Fin 8}
    (h : execTasConfigChange port s = .next t) : Q s t := by
  have h0 := H.refl s
  unfold execTasConfigChange at h
  injection h with h
  subst h
  try dsimp only
  repeat' first
    | intro _ | with_reducible assumption | with_reducible apply State.put_closed H | with_reducible apply State.setPh_closed H
    | with_reducible apply State.tasPurge_closed H | with_reducible apply H.ite | split
    | fail_if_no_progress with_reducible apply H.set | dsimp only

theorem execTasGateAdvance_closed (H : Closed Q) {s t : State} {port : Fin 8}
    (h : execTasGateAdvance port s = .next t) : Q s t := by
  have h0 := H.refl s
  unfold execTasGateAdvance at h
  injection h with h
  subst h
  try dsimp only
  repeat' first
    | intro _ | with_reducible assumption | with_reducible apply State.put_closed H | with_reducible apply State.setPh_closed H
    | with_reducible apply H.ite | split | fail_if_no_progress with_reducible apply H.set | dsimp only

theorem execAvtpRx_closed (H : Closed Q) {s t : State} {p : AvtpPacket}
    (h : execAvtpRx p s = .next t) : Q s t := by
  have h0 := H.refl s
  unfold execAvtpRx at h
  injection h with h
  subst h
  try dsimp only
  repeat' first
    | intro _ | with_reducible assumption | with_reducible apply State.aafPacket_closed H
    | with_reducible apply State.bump_closed H | with_reducible apply H.ite | split
    | fail_if_no_progress with_reducible apply H.set | dsimp only

theorem execRtpRx_closed (H : Closed Q) {s t : State} {p : RtpPacket}
    (h : execRtpRx p s = .next t) : Q s t := by
  have h0 := H.refl s
  unfold execRtpRx at h
  injection h with h
  subst h
  try dsimp only
  repeat' first
    | intro _ | with_reducible assumption | with_reducible apply State.bump_closed H
    | with_reducible apply State.rtpPacket_closed H | with_reducible apply H.ite | split
    | fail_if_no_progress with_reducible apply H.set | dsimp only

theorem execRtcpRx_closed (H : Closed Q) {s t : State} 
    (h : execRtcpRx s = .next t) : Q s t := by
  have h0 := H.refl s
  unfold execRtcpRx at h
  injection h with h
  subst h
  try dsimp only
  repeat' first
    | intro _ | with_reducible assumption | with_reducible apply State.bump_closed H | with_reducible apply H.ite | split
    | dsimp only

theorem execCrfRx_closed (H : Closed Q) {s t : State} {p : CrfPdu}
    (h : execCrfRx p s = .next t) : Q s t := by
  have h0 := H.refl s
  unfold execCrfRx at h
  injection h with h
  subst h
  try dsimp only
  repeat' first
    | intro _ | with_reducible assumption | with_reducible apply State.bump_closed H
    | with_reducible apply State.crfTake_closed H | with_reducible apply State.dupCount_closed H
    | with_reducible apply State.setRx_closed H | with_reducible apply H.ite | split
    | fail_if_no_progress with_reducible apply H.set | dsimp only

theorem execRxStarved_closed (H : Closed Q) {s t : State} {entry : Fin 512}
    (h : execRxStarved entry s = .next t) : Q s t := by
  have h0 := H.refl s
  unfold execRxStarved at h
  injection h with h
  subst h
  try dsimp only
  repeat' first
    | intro _ | with_reducible assumption | with_reducible apply State.rxEnter_closed H | with_reducible apply H.ite | split
    | dsimp only

theorem execAsrcLock_closed (H : Closed Q) {s t : State} {group : Fin 32} {ratio : Nat}
    (h : execAsrcLock group ratio s = .next t) : Q s t := by
  have h0 := H.refl s
  unfold execAsrcLock at h
  injection h with h
  subst h
  try dsimp only
  repeat' first
    | intro _ | with_reducible assumption | with_reducible apply State.asrcSet_closed H
    | with_reducible apply State.put_closed H | with_reducible apply H.ite | split | dsimp only

theorem execAsrcUnlock_closed (H : Closed Q) {s t : State} {group : Fin 32} {rangeErr : Bool}
    (h : execAsrcUnlock group rangeErr s = .next t) : Q s t := by
  have h0 := H.refl s
  unfold execAsrcUnlock at h
  injection h with h
  subst h
  try dsimp only
  repeat' first
    | intro _ | with_reducible assumption | with_reducible apply State.asrcSet_closed H
    | with_reducible apply State.put_closed H | with_reducible apply H.ite | split | dsimp only

theorem execSpClockLoss_closed (H : Closed Q) {s t : State} {port : Fin 8}
    (h : execSpClockLoss port s = .next t) : Q s t := by
  have h0 := H.refl s
  unfold execSpClockLoss at h
  injection h with h
  subst h
  try dsimp only
  repeat' first
    | intro _ | with_reducible assumption | with_reducible apply State.spGroupsLose_closed H
    | with_reducible apply State.spLose_closed H | with_reducible apply H.ite | split | dsimp only

theorem execSpClockReturn_closed (H : Closed Q) {s t : State} {port : Fin 8}
    (h : execSpClockReturn port s = .next t) : Q s t := by
  have h0 := H.refl s
  unfold execSpClockReturn at h
  injection h with h
  subst h
  try dsimp only
  repeat' first
    | intro _ | with_reducible assumption | with_reducible apply State.put_closed H | with_reducible apply State.setSp_closed H
    | with_reducible apply State.spRefresh_closed H | with_reducible apply H.ite | split
    | fail_if_no_progress with_reducible apply H.set | dsimp only

theorem execSpFrameRx_closed (H : Closed Q) {s t : State} {f : SpFrame}
    (h : execSpFrameRx f s = .next t) : Q s t := by
  have h0 := H.refl s
  unfold execSpFrameRx at h
  injection h with h
  subst h
  try dsimp only
  repeat' first
    | intro _ | with_reducible assumption | with_reducible apply State.spFrameIn_closed H | with_reducible apply H.ite | split
    | dsimp only

theorem execSpFrameTxStart_closed (H : Closed Q) {s t : State} {port : Fin 8} {index : Nat}
    (h : execSpFrameTxStart port index s = .next t) : Q s t := by
  have h0 := H.refl s
  unfold execSpFrameTxStart at h
  injection h with h
  subst h
  try dsimp only
  repeat' first
    | intro _ | with_reducible assumption | with_reducible apply State.spFrameOut_closed H | with_reducible apply H.ite | split
    | dsimp only

theorem execPtpSyncRx_closed (H : Closed Q) {s t : State} {port : Fin 8} {m : PtpMsg}
    (h : execPtpSyncRx port m s = .next t) : Q s t := by
  have h0 := H.refl s
  unfold execPtpSyncRx at h
  injection h with h
  subst h
  try dsimp only
  repeat' first
    | intro _ | with_reducible assumption | with_reducible apply State.ptpServo_closed H
    | with_reducible apply State.ptpTake_closed H | with_reducible apply State.setPtp_closed H | with_reducible apply H.ite
    | split | fail_if_no_progress with_reducible apply H.set | dsimp only

theorem execPtpFollowUpRx_closed (H : Closed Q) {s t : State} {port : Fin 8} {m : PtpMsg}
    (h : execPtpFollowUpRx port m s = .next t) : Q s t := by
  have h0 := H.refl s
  unfold execPtpFollowUpRx at h
  injection h with h
  subst h
  try dsimp only
  repeat' first
    | intro _ | with_reducible assumption | with_reducible apply State.ptpServo_closed H
    | with_reducible apply State.ptpTake_closed H | with_reducible apply H.ite | split
    | fail_if_no_progress with_reducible apply H.set | dsimp only

theorem execPtpAnnounceRx_closed (H : Closed Q) {s t : State} {port : Fin 8} {m : PtpMsg} {v : PtpVector}
    (h : execPtpAnnounceRx port m v s = .next t) : Q s t := by
  have h0 := H.refl s
  unfold execPtpAnnounceRx at h
  injection h with h
  subst h
  try dsimp only
  repeat' first
    | intro _ | with_reducible assumption | with_reducible apply State.ptpSelect_closed H
    | with_reducible apply State.ptpTake_closed H | with_reducible apply State.setPtp_closed H | with_reducible apply H.ite
    | split | fail_if_no_progress with_reducible apply H.set | dsimp only

theorem execPtpPdelayReqRx_closed (H : Closed Q) {s t : State} {port : Fin 8} {m : PdelayReq}
    (h : execPtpPdelayReqRx port m s = .next t) : Q s t := by
  have h0 := H.refl s
  unfold execPtpPdelayReqRx at h
  injection h with h
  subst h
  try dsimp only
  repeat' first
    | intro _ | with_reducible assumption | with_reducible apply State.ptpSend_closed H
    | with_reducible apply State.ptpTake_closed H | dsimp only

theorem execPtpPdelayRespRx_closed (H : Closed Q) {s t : State} {port : Fin 8} {m : PtpMsg}
    (h : execPtpPdelayRespRx port m s = .next t) : Q s t := by
  have h0 := H.refl s
  unfold execPtpPdelayRespRx at h
  injection h with h
  subst h
  try dsimp only
  repeat' first
    | intro _ | with_reducible assumption | with_reducible apply State.ptpTake_closed H
    | with_reducible apply State.put_closed H | with_reducible apply State.putI_closed H
    | with_reducible apply State.setPtp_closed H | with_reducible apply H.ite | split
    | fail_if_no_progress with_reducible apply H.set | dsimp only

theorem execPtpDelayReqRx_closed (H : Closed Q) {s t : State} {port : Fin 8} {m : PtpMsg}
    (h : execPtpDelayReqRx port m s = .next t) : Q s t := by
  have h0 := H.refl s
  unfold execPtpDelayReqRx at h
  injection h with h
  subst h
  try dsimp only
  repeat' first
    | intro _ | with_reducible assumption | with_reducible apply State.ptpSend_closed H
    | with_reducible apply State.ptpTake_closed H | with_reducible apply H.ite | split | dsimp only

theorem execPtpDelayRespRx_closed (H : Closed Q) {s t : State} {port : Fin 8} {m : PtpMsg}
    (h : execPtpDelayRespRx port m s = .next t) : Q s t := by
  have h0 := H.refl s
  unfold execPtpDelayRespRx at h
  injection h with h
  subst h
  try dsimp only
  repeat' first
    | intro _ | with_reducible assumption | with_reducible apply State.ptpTake_closed H
    | with_reducible apply State.putI_closed H | with_reducible apply State.setPtp_closed H | with_reducible apply H.ite
    | split | fail_if_no_progress with_reducible apply H.set | dsimp only

theorem execPtpSyncTx_closed (H : Closed Q) {s t : State} {port : Fin 8} {ns : Nat}
    (h : execPtpSyncTx port ns s = .next t) : Q s t := by
  have h0 := H.refl s
  unfold execPtpSyncTx at h
  injection h with h
  subst h
  try dsimp only
  repeat' first
    | intro _ | with_reducible assumption | with_reducible apply State.ptpSend_closed H
    | with_reducible apply State.ptpSeq_closed H | with_reducible apply H.ite | split | dsimp only

theorem execPtpAnnounceTx_closed (H : Closed Q) {s t : State} {port : Fin 8}
    (h : execPtpAnnounceTx port s = .next t) : Q s t := by
  have h0 := H.refl s
  unfold execPtpAnnounceTx at h
  injection h with h
  subst h
  try dsimp only
  repeat' first
    | intro _ | with_reducible assumption | with_reducible apply State.ptpSend_closed H
    | with_reducible apply State.ptpSeq_closed H | with_reducible apply H.ite | split
    | fail_if_no_progress with_reducible apply H.set | dsimp only

theorem execPtpDelayRequestTx_closed (H : Closed Q) {s t : State} {port : Fin 8} {ns : Nat}
    (h : execPtpDelayRequestTx port ns s = .next t) : Q s t := by
  have h0 := H.refl s
  unfold execPtpDelayRequestTx at h
  injection h with h
  subst h
  try dsimp only
  repeat' first
    | intro _ | with_reducible assumption | with_reducible apply State.ptpSend_closed H
    | with_reducible apply State.ptpSeq_closed H | with_reducible apply State.setPtp_closed H | with_reducible apply H.ite
    | split | fail_if_no_progress with_reducible apply H.set | dsimp only

theorem execPtpSyncTimeout_closed (H : Closed Q) {s t : State} 
    (h : execPtpSyncTimeout s = .next t) : Q s t := by
  have h0 := H.refl s
  unfold execPtpSyncTimeout at h
  injection h with h
  subst h
  try dsimp only
  repeat' first
    | intro _ | with_reducible assumption | with_reducible apply State.ptpUnsync_closed H | with_reducible apply H.ite | split
    | dsimp only

theorem execPtpAnnounceTimeout_closed (H : Closed Q) {s t : State} {port : Fin 8}
    (h : execPtpAnnounceTimeout port s = .next t) : Q s t := by
  have h0 := H.refl s
  unfold execPtpAnnounceTimeout at h
  injection h with h
  subst h
  try dsimp only
  repeat' first
    | intro _ | with_reducible assumption | with_reducible apply State.ptpSelect_closed H
    | with_reducible apply State.setPtp_closed H | with_reducible apply H.ite | split
    | fail_if_no_progress with_reducible apply H.set | dsimp only

theorem execLinkUp_closed (H : Closed Q) {s t : State} {port : Fin 8} {speed : Fin 7} {pause : Fin 4}
    (h : execLinkUp port speed pause s = .next t) : Q s t := by
  have h0 := H.refl s
  unfold execLinkUp at h
  injection h with h
  subst h
  try dsimp only
  repeat' first
    | intro _ | with_reducible assumption | with_reducible apply State.linkUp_closed H | with_reducible apply H.ite | split
    | dsimp only

theorem execLinkDown_closed (H : Closed Q) {s t : State} {port : Fin 8}
    (h : execLinkDown port s = .next t) : Q s t := by
  have h0 := H.refl s
  unfold execLinkDown at h
  injection h with h
  subst h
  try dsimp only
  repeat' first
    | intro _ | with_reducible assumption | with_reducible apply State.linkDown_closed H | with_reducible apply H.ite | split
    | dsimp only

theorem execLinkSpeedChange_closed (H : Closed Q) {s t : State} {port : Fin 8} {speed : Fin 7}
    (h : execLinkSpeedChange port speed s = .next t) : Q s t := by
  have h0 := H.refl s
  unfold execLinkSpeedChange at h
  injection h with h
  subst h
  try dsimp only
  repeat' first
    | intro _ | with_reducible assumption | with_reducible apply State.linkPass_closed H
    | with_reducible apply State.put_closed H | with_reducible apply H.ite | split | dsimp only

theorem execPhyPoll_closed (H : Closed Q) {s t : State} {port : Fin 8} {up : Bool}
    (h : execPhyPoll port up s = .next t) : Q s t := by
  have h0 := H.refl s
  unfold execPhyPoll at h
  injection h with h
  subst h
  try dsimp only
  repeat' first
    | intro _ | with_reducible assumption | with_reducible apply State.linkDown_closed H
    | with_reducible apply State.pollSend_closed H | with_reducible apply State.put_closed H | with_reducible apply H.ite
    | split | dsimp only

theorem execAdpEntityAvailable_closed (H : Closed Q) {s t : State} 
    (h : execAdpEntityAvailable s = .next t) : Q s t := by
  have h0 := H.refl s
  unfold execAdpEntityAvailable at h
  injection h with h
  subst h
  try dsimp only
  repeat' first
    | intro _ | with_reducible assumption | with_reducible apply State.entityAvailable_closed H | with_reducible apply H.ite
    | split | dsimp only

theorem execAdpEntityDiscover_closed (H : Closed Q) {s t : State} {m : AvdMsg}
    (h : execAdpEntityDiscover m s = .next t) : Q s t := by
  have h0 := H.refl s
  unfold execAdpEntityDiscover at h
  injection h with h
  subst h
  try dsimp only
  repeat' first
    | intro _ | with_reducible assumption | with_reducible apply State.entityAvailable_closed H | with_reducible apply H.ite
    | split | dsimp only

theorem execConnectTx_closed (H : Closed Q) {s t : State} {m : AvdMsg}
    (h : execConnectTx m s = .next t) : Q s t := by
  have h0 := H.refl s
  unfold execConnectTx at h
  injection h with h
  subst h
  try dsimp only
  repeat' first
    | intro _ | with_reducible assumption | with_reducible apply State.acmpTalker_closed H | dsimp only

theorem execDisconnectTx_closed (H : Closed Q) {s t : State} {m : AvdMsg}
    (h : execDisconnectTx m s = .next t) : Q s t := by
  have h0 := H.refl s
  unfold execDisconnectTx at h
  injection h with h
  subst h
  try dsimp only
  repeat' first
    | intro _ | with_reducible assumption | with_reducible apply State.acmpTalker_closed H | dsimp only

theorem execGetTxState_closed (H : Closed Q) {s t : State} {m : AvdMsg}
    (h : execGetTxState m s = .next t) : Q s t := by
  have h0 := H.refl s
  unfold execGetTxState at h
  injection h with h
  subst h
  try dsimp only
  repeat' first
    | intro _ | with_reducible assumption | with_reducible apply State.acmpTalker_closed H | dsimp only

theorem execGetTxConnection_closed (H : Closed Q) {s t : State} {m : AvdMsg}
    (h : execGetTxConnection m s = .next t) : Q s t := by
  have h0 := H.refl s
  unfold execGetTxConnection at h
  injection h with h
  subst h
  try dsimp only
  repeat' first
    | intro _ | with_reducible assumption | with_reducible apply State.acmpTalker_closed H | dsimp only

theorem execConnectRx_closed (H : Closed Q) {s t : State} {m : AvdMsg}
    (h : execConnectRx m s = .next t) : Q s t := by
  have h0 := H.refl s
  unfold execConnectRx at h
  injection h with h
  subst h
  try dsimp only
  repeat' first
    | intro _ | with_reducible assumption | with_reducible apply State.connectRx_closed H | dsimp only

theorem execDisconnectRx_closed (H : Closed Q) {s t : State} {m : AvdMsg}
    (h : execDisconnectRx m s = .next t) : Q s t := by
  have h0 := H.refl s
  unfold execDisconnectRx at h
  injection h with h
  subst h
  try dsimp only
  repeat' first
    | intro _ | with_reducible assumption | with_reducible apply State.acmpAnswer_closed H
    | with_reducible apply State.setRx_closed H | with_reducible apply H.ite | split
    | fail_if_no_progress with_reducible apply H.set | dsimp only

theorem execGetRxState_closed (H : Closed Q) {s t : State} {m : AvdMsg}
    (h : execGetRxState m s = .next t) : Q s t := by
  have h0 := H.refl s
  unfold execGetRxState at h
  injection h with h
  subst h
  try dsimp only
  repeat' first
    | intro _ | with_reducible assumption | with_reducible apply State.acmpAnswer_closed H | with_reducible apply H.ite | split
    | dsimp only

theorem execAcquireEntity_closed (H : Closed Q) {s t : State} {m : AvdMsg}
    (h : execAcquireEntity m s = .next t) : Q s t := by
  have h0 := H.refl s
  unfold execAcquireEntity at h
  injection h with h
  subst h
  try dsimp only
  repeat' first
    | intro _ | with_reducible assumption | with_reducible apply State.aecpAnswer_closed H
    | with_reducible apply State.put_closed H | with_reducible apply H.ite | split | dsimp only

theorem execLockEntity_closed (H : Closed Q) {s t : State} {m : AvdMsg}
    (h : execLockEntity m s = .next t) : Q s t := by
  have h0 := H.refl s
  unfold execLockEntity at h
  injection h with h
  subst h
  try dsimp only
  repeat' first
    | intro _ | with_reducible assumption | with_reducible apply State.aecpAnswer_closed H
    | with_reducible apply State.put_closed H | with_reducible apply H.ite | split
    | fail_if_no_progress with_reducible apply H.set | dsimp only

theorem execAecpEntityAvailable_closed (H : Closed Q) {s t : State} {m : AvdMsg}
    (h : execAecpEntityAvailable m s = .next t) : Q s t := by
  have h0 := H.refl s
  unfold execAecpEntityAvailable at h
  injection h with h
  subst h
  try dsimp only
  repeat' first
    | intro _ | with_reducible assumption | with_reducible apply State.aecpAsk_closed H | dsimp only

theorem execControllerAvailable_closed (H : Closed Q) {s t : State} {m : AvdMsg}
    (h : execControllerAvailable m s = .next t) : Q s t := by
  have h0 := H.refl s
  unfold execControllerAvailable at h
  injection h with h
  subst h
  try dsimp only
  repeat' first
    | intro _ | with_reducible assumption | with_reducible apply State.aecpAsk_closed H | dsimp only

theorem execReadDescriptor_closed (H : Closed Q) {s t : State} {m : AvdMsg}
    (h : execReadDescriptor m s = .next t) : Q s t := by
  have h0 := H.refl s
  unfold execReadDescriptor at h
  injection h with h
  subst h
  try dsimp only
  repeat' first
    | intro _ | with_reducible assumption | with_reducible apply State.aecpAsk_closed H | dsimp only

theorem execGetConfiguration_closed (H : Closed Q) {s t : State} {m : AvdMsg}
    (h : execGetConfiguration m s = .next t) : Q s t := by
  have h0 := H.refl s
  unfold execGetConfiguration at h
  injection h with h
  subst h
  try dsimp only
  repeat' first
    | intro _ | with_reducible assumption | with_reducible apply State.aecpAsk_closed H | dsimp only

theorem execGetStreamFormat_closed (H : Closed Q) {s t : State} {m : AvdMsg}
    (h : execGetStreamFormat m s = .next t) : Q s t := by
  have h0 := H.refl s
  unfold execGetStreamFormat at h
  injection h with h
  subst h
  try dsimp only
  repeat' first
    | intro _ | with_reducible assumption | with_reducible apply State.streamAsk_closed H | dsimp only

theorem execGetStreamInfo_closed (H : Closed Q) {s t : State} {m : AvdMsg}
    (h : execGetStreamInfo m s = .next t) : Q s t := by
  have h0 := H.refl s
  unfold execGetStreamInfo at h
  injection h with h
  subst h
  try dsimp only
  repeat' first
    | intro _ | with_reducible assumption | with_reducible apply State.streamAsk_closed H | dsimp only

theorem execGetName_closed (H : Closed Q) {s t : State} {m : AvdMsg}
    (h : execGetName m s = .next t) : Q s t := by
  have h0 := H.refl s
  unfold execGetName at h
  injection h with h
  subst h
  try dsimp only
  repeat' first
    | intro _ | with_reducible assumption | with_reducible apply State.aecpAsk_closed H | with_reducible apply H.ite | split
    | dsimp only

theorem execSetName_closed (H : Closed Q) {s t : State} {m : AvdMsg}
    (h : execSetName m s = .next t) : Q s t := by
  have h0 := H.refl s
  unfold execSetName at h
  injection h with h
  subst h
  try dsimp only
  repeat' first
    | intro _ | with_reducible assumption | with_reducible apply State.aecpAnswer_closed H | with_reducible apply H.ite | split
    | fail_if_no_progress with_reducible apply H.set | dsimp only

theorem execGetCounters_closed (H : Closed Q) {s t : State} {m : AvdMsg}
    (h : execGetCounters m s = .next t) : Q s t := by
  have h0 := H.refl s
  unfold execGetCounters at h
  injection h with h
  subst h
  try dsimp only
  repeat' first
    | intro _ | with_reducible assumption | with_reducible apply State.streamAsk_closed H | dsimp only

theorem execGetAvbInfo_closed (H : Closed Q) {s t : State} {m : AvdMsg}
    (h : execGetAvbInfo m s = .next t) : Q s t := by
  have h0 := H.refl s
  unfold execGetAvbInfo at h
  injection h with h
  subst h
  try dsimp only
  repeat' first
    | intro _ | with_reducible assumption | with_reducible apply State.aecpAsk_closed H | with_reducible apply H.ite | split
    | dsimp only

theorem execGetAsPath_closed (H : Closed Q) {s t : State} {m : AvdMsg}
    (h : execGetAsPath m s = .next t) : Q s t := by
  have h0 := H.refl s
  unfold execGetAsPath at h
  injection h with h
  subst h
  try dsimp only
  repeat' first
    | intro _ | with_reducible assumption | with_reducible apply State.aecpAsk_closed H | with_reducible apply H.ite | split
    | dsimp only

theorem execRegisterUnsolicitedNotification_closed (H : Closed Q) {s t : State} {m : AvdMsg}
    (h : execRegisterUnsolicitedNotification m s = .next t) : Q s t := by
  have h0 := H.refl s
  unfold execRegisterUnsolicitedNotification at h
  injection h with h
  subst h
  try dsimp only
  repeat' first
    | intro _ | with_reducible assumption | with_reducible apply State.aecpAnswer_closed H | with_reducible apply H.ite | split
    | fail_if_no_progress with_reducible apply H.set | dsimp only

theorem execDeregisterUnsolicitedNotification_closed (H : Closed Q) {s t : State} {m : AvdMsg}
    (h : execDeregisterUnsolicitedNotification m s = .next t) : Q s t := by
  have h0 := H.refl s
  unfold execDeregisterUnsolicitedNotification at h
  injection h with h
  subst h
  try dsimp only
  repeat' first
    | intro _ | with_reducible assumption | with_reducible apply State.aecpAnswer_closed H | with_reducible apply H.ite | split
    | fail_if_no_progress with_reducible apply H.set | dsimp only

theorem execAecpUnsupported_closed (H : Closed Q) {s t : State} {m : AvdMsg}
    (h : execAecpUnsupported m s = .next t) : Q s t := by
  have h0 := H.refl s
  unfold execAecpUnsupported at h
  injection h with h
  subst h
  try dsimp only
  repeat' first
    | intro _ | with_reducible assumption | with_reducible apply State.aecpAnswer_closed H
    | with_reducible apply State.bump_closed H | with_reducible apply H.ite | split | dsimp only

theorem execArpRequest_closed (H : Closed Q) {s t : State} {port : Fin 8} {target : Word} {sender : ArpSender}
    (h : execArpRequest port target sender s = .next t) : Q s t := by
  have h0 := H.refl s
  unfold execArpRequest at h
  injection h with h
  subst h
  try dsimp only
  repeat' first
    | intro _ | with_reducible assumption | with_reducible apply State.ipSend_closed H | with_reducible apply H.ite | split
    | dsimp only

theorem execIgmpQuery_closed (H : Closed Q) {s t : State} {port : Fin 8} {v2 : Bool}
    (h : execIgmpQuery port v2 s = .next t) : Q s t := by
  have h0 := H.refl s
  unfold execIgmpQuery at h
  injection h with h
  subst h
  try dsimp only
  repeat' first
    | intro _ | with_reducible assumption | with_reducible apply State.igmpReport_closed H | with_reducible apply H.ite
    | with_reducible apply H.foldl | with_reducible apply H.foldl_on (fun b : _ × State => b.2)
    | with_reducible apply H.foldl_on (fun b : State × _ => b.1)
    | with_reducible apply H.foldl_on (fun b : _ × _ × State => b.2.2)
    | with_reducible apply H.foldl_on (fun b : _ × _ × _ × State => b.2.2.2) | split
    | fail_if_no_progress with_reducible apply H.set | dsimp only

theorem execSapAnnounce_closed (H : Closed Q) {s t : State} 
    (h : execSapAnnounce s = .next t) : Q s t := by
  have h0 := H.refl s
  unfold execSapAnnounce at h
  injection h with h
  subst h
  try dsimp only
  repeat' first
    | intro _ | with_reducible assumption | with_reducible apply State.sapSend_closed H
    | with_reducible apply State.sapWithdraw_closed H | with_reducible apply H.ite | with_reducible apply H.foldl
    | with_reducible apply H.foldl_on (fun b : _ × State => b.2) | with_reducible apply H.foldl_on (fun b : State × _ => b.1)
    | with_reducible apply H.foldl_on (fun b : _ × _ × State => b.2.2)
    | with_reducible apply H.foldl_on (fun b : _ × _ × _ × State => b.2.2.2) | split
    | fail_if_no_progress with_reducible apply H.set | dsimp only

theorem execSapRx_closed (H : Closed Q) {s t : State} {m : SapMsg}
    (h : execSapRx m s = .next t) : Q s t := by
  have h0 := H.refl s
  unfold execSapRx at h
  injection h with h
  subst h
  try dsimp only
  repeat' first
    | intro _ | with_reducible assumption | with_reducible apply State.discStore_closed H
    | with_reducible apply State.put_closed H | with_reducible apply H.ite | split
    | fail_if_no_progress with_reducible apply H.set | dsimp only

theorem execPpsInEdge_closed (H : Closed Q) {s t : State} {period : Nat} {offset : Int}
    (h : execPpsInEdge period offset s = .next t) : Q s t := by
  have h0 := H.refl s
  unfold execPpsInEdge at h
  injection h with h
  subst h
  try dsimp only
  repeat' first
    | intro _ | with_reducible assumption | with_reducible apply State.refEdge_closed H | with_reducible apply H.ite | split
    | dsimp only

theorem execPpsInAbsent_closed (H : Closed Q) {s t : State} 
    (h : execPpsInAbsent s = .next t) : Q s t := by
  have h0 := H.refl s
  unfold execPpsInAbsent at h
  injection h with h
  subst h
  try dsimp only
  repeat' first
    | intro _ | with_reducible assumption | with_reducible apply State.refSilent_closed H | with_reducible apply H.ite | split
    | dsimp only

theorem execWclkInEdge_closed (H : Closed Q) {s t : State} {k : Fin 2} {period : Nat} {offset : Int}
    (h : execWclkInEdge k period offset s = .next t) : Q s t := by
  have h0 := H.refl s
  unfold execWclkInEdge at h
  injection h with h
  subst h
  try dsimp only
  repeat' first
    | intro _ | with_reducible assumption | with_reducible apply State.refEdge_closed H | with_reducible apply H.ite | split
    | dsimp only

theorem execWclkInAbsent_closed (H : Closed Q) {s t : State} {k : Fin 2}
    (h : execWclkInAbsent k s = .next t) : Q s t := by
  have h0 := H.refl s
  unfold execWclkInAbsent at h
  injection h with h
  subst h
  try dsimp only
  repeat' first
    | intro _ | with_reducible assumption | with_reducible apply State.refSilent_closed H | with_reducible apply H.ite | split
    | dsimp only

theorem execClkoutAlign_closed (H : Closed Q) {s t : State} {who : Initiator} {mask : Fin 64}
    (h : execClkoutAlign who mask s = .next t) : Q s t := by
  have h0 := H.refl s
  unfold execClkoutAlign at h
  injection h with h
  subst h
  try dsimp only
  repeat' first
    | intro _ | with_reducible assumption | with_reducible apply State.command_closed H
    | with_reducible apply State.setClk_closed H | with_reducible apply H.ite | with_reducible apply H.each | split
    | fail_if_no_progress with_reducible apply H.set | dsimp only

theorem execRefLockout_closed (H : Closed Q) {s t : State} {who : Initiator} {slot : Fin 8} {on : Bool}
    (h : execRefLockout who slot on s = .next t) : Q s t := by
  have h0 := H.refl s
  unfold execRefLockout at h
  injection h with h
  subst h
  try dsimp only
  repeat' first
    | intro _ | with_reducible assumption | with_reducible apply State.command_closed H
    | with_reducible apply State.put_closed H | dsimp only

theorem execRefQualified_closed (H : Closed Q) {s t : State} {slot : Fin 8}
    (h : execRefQualified slot s = .next t) : Q s t := by
  have h0 := H.refl s
  unfold execRefQualified at h
  injection h with h
  subst h
  try dsimp only
  repeat' first
    | intro _ | with_reducible assumption | with_reducible apply State.put_closed H
    | with_reducible apply State.setRef_closed H | with_reducible apply H.ite | split
    | fail_if_no_progress with_reducible apply H.set | dsimp only

theorem execWtrExpiry_closed (H : Closed Q) {s t : State} 
    (h : execWtrExpiry s = .next t) : Q s t := by
  have h0 := H.refl s
  unfold execWtrExpiry at h
  injection h with h
  subst h
  try dsimp only
  repeat' first
    | intro _ | with_reducible assumption | with_reducible apply H.ite | split | fail_if_no_progress with_reducible apply H.set
    | dsimp only

theorem execAcquireDone_closed (H : Closed Q) {s t : State} 
    (h : execAcquireDone s = .next t) : Q s t := by
  have h0 := H.refl s
  unfold execAcquireDone at h
  injection h with h
  subst h
  try dsimp only
  repeat' first
    | intro _ | with_reducible assumption | with_reducible apply State.plumbEnter_closed H | with_reducible apply H.ite | split
    | dsimp only

theorem execHoldEstUpdate_closed (H : Closed Q) {s t : State} {_bare : Unit}
    (h : execHoldEstUpdate _bare s = .next t) : Q s t := by
  have h0 := H.refl s
  unfold execHoldEstUpdate at h
  injection h with h
  subst h
  try dsimp only
  repeat' first
    | intro _ | with_reducible assumption | with_reducible apply State.holdValid_closed H
    | with_reducible apply State.putI_closed H | with_reducible apply H.ite | split
    | fail_if_no_progress with_reducible apply H.set | dsimp only

theorem execReepoch_closed (H : Closed Q) {s t : State} {who : Initiator}
    (h : execReepoch who s = .next t) : Q s t := by
  have h0 := H.refl s
  unfold execReepoch at h
  injection h with h
  subst h
  try dsimp only
  repeat' first
    | intro _ | with_reducible assumption | with_reducible apply State.command_closed H
    | with_reducible apply State.hostErr_closed H | with_reducible apply State.put_closed H
    | with_reducible apply State.tasNoTime_closed H | with_reducible apply H.ite | with_reducible apply H.each | split
    | dsimp only

theorem execGainRampEnd_closed (H : Closed Q) {s t : State} {ch : Fin 8}
    (h : execGainRampEnd ch s = .next t) : Q s t := by
  have h0 := H.refl s
  unfold execGainRampEnd at h
  injection h with h
  subst h
  try dsimp only
  repeat' first
    | intro _ | with_reducible assumption | with_reducible apply State.gainDone_closed H | with_reducible apply H.ite | split
    | dsimp only

theorem execRetryWaitExpiry_closed (H : Closed Q) {s t : State} {ch : Fin 8}
    (h : execRetryWaitExpiry ch s = .next t) : Q s t := by
  have h0 := H.refl s
  unfold execRetryWaitExpiry at h
  injection h with h
  subst h
  try dsimp only
  repeat' first
    | intro _ | with_reducible assumption | with_reducible apply State.retryGo_closed H | with_reducible apply H.ite | split
    | dsimp only

theorem execRetryNumClear_closed (H : Closed Q) {s t : State} {ch : Fin 8}
    (h : execRetryNumClear ch s = .next t) : Q s t := by
  have h0 := H.refl s
  unfold execRetryNumClear at h
  injection h with h
  subst h
  try dsimp only
  repeat' first
    | intro _ | with_reducible assumption | with_reducible apply State.modCh_closed H | with_reducible apply State.put_closed H
    | with_reducible apply H.ite | split | fail_if_no_progress with_reducible apply H.set | dsimp only

theorem execRailSoftStartDone_closed (H : Closed Q) {s t : State} {rail : Fin 2}
    (h : execRailSoftStartDone rail s = .next t) : Q s t := by
  have h0 := H.refl s
  unfold execRailSoftStartDone at h
  injection h with h
  subst h
  try dsimp only
  repeat' first
    | intro _ | with_reducible assumption | with_reducible apply State.railTrack_closed H | with_reducible apply H.ite | split
    | dsimp only

theorem execBoostOvp_closed (H : Closed Q) {s t : State} {rail : Fin 2} {above : Bool} {lasted : Bool} {cycles : Nat}
    (h : execBoostOvp rail above lasted cycles s = .next t) : Q s t := by
  have h0 := H.refl s
  unfold execBoostOvp at h
  injection h with h
  subst h
  try dsimp only
  repeat' first
    | intro _ | with_reducible assumption | with_reducible apply State.bumpBy_closed H
    | with_reducible apply State.put_closed H | with_reducible apply State.railFault_closed H | with_reducible apply H.ite
    | split | dsimp only

theorem execBoostUvp_closed (H : Closed Q) {s t : State} {rail : Fin 2}
    (h : execBoostUvp rail s = .next t) : Q s t := by
  have h0 := H.refl s
  unfold execBoostUvp at h
  injection h with h
  subst h
  try dsimp only
  repeat' first
    | intro _ | with_reducible assumption | with_reducible apply State.railFault_closed H | with_reducible apply H.ite | split
    | dsimp only

theorem execBoostPhaseOcp_closed (H : Closed Q) {s t : State} {rail : Fin 2} {_phase : Fin 2}
    (h : execBoostPhaseOcp rail _phase s = .next t) : Q s t := by
  have h0 := H.refl s
  unfold execBoostPhaseOcp at h
  injection h with h
  subst h
  try dsimp only
  repeat' first
    | intro _ | with_reducible assumption | with_reducible apply State.railFault_closed H | with_reducible apply H.ite | split
    | dsimp only

theorem execBoostRetryExpiry_closed (H : Closed Q) {s t : State} {rail : Fin 2}
    (h : execBoostRetryExpiry rail s = .next t) : Q s t := by
  have h0 := H.refl s
  unfold execBoostRetryExpiry at h
  injection h with h
  subst h
  try dsimp only
  repeat' first
    | intro _ | with_reducible assumption | with_reducible apply State.railEval_closed H
    | with_reducible apply State.railOff_closed H | with_reducible apply H.ite | split | dsimp only

theorem execBstClear_closed (H : Closed Q) {s t : State} {who : Initiator} {rail : Fin 2}
    (h : execBstClear who rail s = .next t) : Q s t := by
  have h0 := H.refl s
  unfold execBstClear at h
  injection h with h
  subst h
  try dsimp only
  repeat' first
    | intro _ | with_reducible assumption | with_reducible apply State.command_closed H
    | with_reducible apply State.modRail_closed H | with_reducible apply State.railEval_closed H
    | with_reducible apply State.railOff_closed H | with_reducible apply H.ite | split
    | fail_if_no_progress with_reducible apply H.set | dsimp only

theorem execPchClear_closed (H : Closed Q) {s t : State} {who : Initiator} {ch : Fin 8}
    (h : execPchClear who ch s = .next t) : Q s t := by
  have h0 := H.refl s
  unfold execPchClear at h
  injection h with h
  subst h
  try dsimp only
  repeat' first
    | intro _ | with_reducible assumption | with_reducible apply State.chArm_closed H
    | with_reducible apply State.chDead_closed H | with_reducible apply State.command_closed H
    | with_reducible apply State.modCh_closed H | with_reducible apply State.put_closed H | with_reducible apply H.ite | split
    | fail_if_no_progress with_reducible apply H.set | dsimp only

theorem execOcpCycleLimit_closed (H : Closed Q) {s t : State} {ch : Fin 8} {cycles : Nat}
    (h : execOcpCycleLimit ch cycles s = .next t) : Q s t := by
  have h0 := H.refl s
  unfold execOcpCycleLimit at h
  injection h with h
  subst h
  try dsimp only
  repeat' first
    | intro _ | with_reducible assumption | with_reducible apply State.bumpBy_closed H
    | with_reducible apply State.diagCut_closed H | with_reducible apply State.rampDown_closed H | with_reducible apply H.ite
    | split | dsimp only

theorem execOcpSustained_closed (H : Closed Q) {s t : State} {ch : Fin 8}
    (h : execOcpSustained ch s = .next t) : Q s t := by
  have h0 := H.refl s
  unfold execOcpSustained at h
  injection h with h
  subst h
  try dsimp only
  repeat' first
    | intro _ | with_reducible assumption | with_reducible apply State.chTrip_closed H | with_reducible apply H.ite | split
    | dsimp only

theorem execOcpFast_closed (H : Closed Q) {s t : State} {ch : Fin 8}
    (h : execOcpFast ch s = .next t) : Q s t := by
  have h0 := H.refl s
  unfold execOcpFast at h
  injection h with h
  subst h
  try dsimp only
  repeat' first
    | intro _ | with_reducible assumption | with_reducible apply State.chTrip_closed H | with_reducible apply H.ite | split
    | dsimp only

theorem execDcFault_closed (H : Closed Q) {s t : State} {ch : Fin 8}
    (h : execDcFault ch s = .next t) : Q s t := by
  have h0 := H.refl s
  unfold execDcFault at h
  injection h with h
  subst h
  try dsimp only
  repeat' first
    | intro _ | with_reducible assumption | with_reducible apply State.bump_closed H
    | with_reducible apply State.chDead_closed H | with_reducible apply State.chFault_closed H
    | with_reducible apply State.diagCut_closed H | with_reducible apply State.modCh_closed H | with_reducible apply H.ite
    | split | fail_if_no_progress with_reducible apply H.set | dsimp only

theorem execSenseLoss_closed (H : Closed Q) {s t : State} {ch : Fin 8}
    (h : execSenseLoss ch s = .next t) : Q s t := by
  have h0 := H.refl s
  unfold execSenseLoss at h
  injection h with h
  subst h
  try dsimp only
  repeat' first
    | intro _ | with_reducible assumption | with_reducible apply State.bump_closed H
    | with_reducible apply State.chTrip_closed H | with_reducible apply State.modCh_closed H
    | with_reducible apply State.put_closed H | with_reducible apply State.raise_closed H | with_reducible apply H.ite | split
    | fail_if_no_progress with_reducible apply H.set | dsimp only

theorem execSyncSlip_closed (H : Closed Q) {s t : State} {ch : Fin 8}
    (h : execSyncSlip ch s = .next t) : Q s t := by
  have h0 := H.refl s
  unfold execSyncSlip at h
  injection h with h
  subst h
  try dsimp only
  repeat' first
    | intro _ | with_reducible assumption | with_reducible apply State.bump_closed H
    | with_reducible apply State.modCh_closed H | with_reducible apply State.put_closed H | with_reducible apply H.ite | split
    | fail_if_no_progress with_reducible apply H.set | dsimp only

theorem execSyncRelock_closed (H : Closed Q) {s t : State} {ch : Fin 8}
    (h : execSyncRelock ch s = .next t) : Q s t := by
  have h0 := H.refl s
  unfold execSyncRelock at h
  injection h with h
  subst h
  try dsimp only
  repeat' first
    | intro _ | with_reducible assumption | with_reducible apply State.modCh_closed H
    | fail_if_no_progress with_reducible apply H.set | dsimp only

theorem execDacClockLoss_closed (H : Closed Q) {s t : State} 
    (h : execDacClockLoss s = .next t) : Q s t := by
  have h0 := H.refl s
  unfold execDacClockLoss at h
  injection h with h
  subst h
  try dsimp only
  repeat' first
    | intro _ | with_reducible assumption | with_reducible apply State.clockChange_closed H | with_reducible apply H.ite
    | split | fail_if_no_progress with_reducible apply H.set | dsimp only

theorem execDieLinkFrame_closed (H : Closed Q) {s t : State} {ok : Bool}
    (h : execDieLinkFrame ok s = .next t) : Q s t := by
  have h0 := H.refl s
  unfold execDieLinkFrame at h
  injection h with h
  subst h
  try dsimp only
  repeat' first
    | intro _ | with_reducible assumption | with_reducible apply State.chStart_closed H
    | with_reducible apply State.clockChange_closed H | with_reducible apply State.linkLoss_closed H
    | with_reducible apply State.linkTake_closed H | with_reducible apply State.railsEval_closed H
    | with_reducible apply State.send_closed H | with_reducible apply H.ite | with_reducible apply H.each | split
    | fail_if_no_progress with_reducible apply H.set | dsimp only

theorem execDieLinkLoss_closed (H : Closed Q) {s t : State} 
    (h : execDieLinkLoss s = .next t) : Q s t := by
  have h0 := H.refl s
  unfold execDieLinkLoss at h
  injection h with h
  subst h
  try dsimp only
  repeat' first
    | intro _ | with_reducible assumption | with_reducible apply State.linkLoss_closed H | with_reducible apply H.ite | split
    | dsimp only

theorem execDieLinkShutdown_closed (H : Closed Q) {s t : State} 
    (h : execDieLinkShutdown s = .next t) : Q s t := by
  have h0 := H.refl s
  unfold execDieLinkShutdown at h
  injection h with h
  subst h
  try dsimp only
  repeat' first
    | intro _ | with_reducible assumption | with_reducible apply State.forcedStop_closed H | with_reducible apply H.ite | split
    | fail_if_no_progress with_reducible apply H.set | dsimp only

theorem execReactiveRailLimit_closed (H : Closed Q) {s t : State} {ch : Fin 8}
    (h : execReactiveRailLimit ch s = .next t) : Q s t := by
  have h0 := H.refl s
  unfold execReactiveRailLimit at h
  injection h with h
  subst h
  try dsimp only
  repeat' first
    | intro _ | with_reducible assumption | with_reducible apply State.modCh_closed H
    | with_reducible apply State.railLimited_closed H | with_reducible apply State.send_closed H | with_reducible apply H.ite
    | split | fail_if_no_progress with_reducible apply H.set | dsimp only

theorem execDiagDc_closed (H : Closed Q) {s t : State} {who : Initiator} {mask : Fin 256}
    (h : execDiagDc who mask s = .next t) : Q s t := by
  have h0 := H.refl s
  unfold execDiagDc at h
  injection h with h
  subst h
  try dsimp only
  repeat' first
    | intro _ | with_reducible assumption | with_reducible apply State.command_closed H
    | with_reducible apply State.diagGo_closed H | dsimp only

theorem execDiagSweep_closed (H : Closed Q) {s t : State} {who : Initiator} {mask : Fin 256}
    (h : execDiagSweep who mask s = .next t) : Q s t := by
  have h0 := H.refl s
  unfold execDiagSweep at h
  injection h with h
  subst h
  try dsimp only
  repeat' first
    | intro _ | with_reducible assumption | with_reducible apply State.command_closed H
    | with_reducible apply State.diagGo_closed H | dsimp only

theorem execDiagLearn_closed (H : Closed Q) {s t : State} {who : Initiator} {mask : Fin 256}
    (h : execDiagLearn who mask s = .next t) : Q s t := by
  have h0 := H.refl s
  unfold execDiagLearn at h
  injection h with h
  subst h
  try dsimp only
  repeat' first
    | intro _ | with_reducible assumption | with_reducible apply State.command_closed H
    | with_reducible apply State.diagGo_closed H | dsimp only

theorem execDcTestDone_closed (H : Closed Q) {s t : State} {ch : Fin 8} {ohms : Nat}
    (h : execDcTestDone ch ohms s = .next t) : Q s t := by
  have h0 := H.refl s
  unfold execDcTestDone at h
  injection h with h
  subst h
  try dsimp only
  repeat' first
    | intro _ | with_reducible assumption | with_reducible apply State.dcDone_closed H | with_reducible apply H.ite | split
    | dsimp only

theorem execSweepToneDone_closed (H : Closed Q) {s t : State} {mag : Nat} {phase : Int}
    (h : execSweepToneDone mag phase s = .next t) : Q s t := by
  have h0 := H.refl s
  unfold execSweepToneDone at h
  injection h with h
  subst h
  try dsimp only
  repeat' first
    | intro _ | with_reducible assumption | with_reducible apply State.put_closed H | with_reducible apply State.putI_closed H
    | with_reducible apply State.send_closed H | with_reducible apply State.setDiag_closed H | with_reducible apply H.ite
    | split | fail_if_no_progress with_reducible apply H.set | dsimp only

theorem execCmRampEnd_closed (H : Closed Q) {s t : State} {ch : Fin 8} {trim : Option Int}
    (h : execCmRampEnd ch trim s = .next t) : Q s t := by
  have h0 := H.refl s
  unfold execCmRampEnd at h
  injection h with h
  subst h
  try dsimp only
  repeat' first
    | intro _ | with_reducible assumption | with_reducible apply State.chDead_closed H
    | with_reducible apply State.chMark_closed H | with_reducible apply State.chResume_closed H
    | with_reducible apply State.enterCh_closed H | with_reducible apply State.gainRun_closed H
    | with_reducible apply State.modCh_closed H | with_reducible apply State.put_closed H
    | with_reducible apply State.putI_closed H | with_reducible apply State.railNtc_closed H
    | with_reducible apply State.send_closed H | with_reducible apply State.setDiag_closed H | with_reducible apply H.ite
    | split | fail_if_no_progress with_reducible apply H.set | dsimp only

theorem execDiagChannelDone_closed (H : Closed Q) {s t : State} 
    (h : execDiagChannelDone s = .next t) : Q s t := by
  have h0 := H.refl s
  unfold execDiagChannelDone at h
  injection h with h
  subst h
  try dsimp only
  repeat' first
    | intro _ | with_reducible assumption | with_reducible apply State.chDead_closed H
    | with_reducible apply State.chStart_closed H | with_reducible apply State.diagNext_closed H
    | with_reducible apply State.railsEval_closed H | with_reducible apply State.sweepJudge_closed H
    | with_reducible apply H.ite | split | fail_if_no_progress with_reducible apply H.set | dsimp only

theorem execPilotWindowEnd_closed (H : Closed Q) {s t : State} {ch : Fin 8} {quiet : Bool} {mag : Nat} {phase : Int}
    (h : execPilotWindowEnd ch quiet mag phase s = .next t) : Q s t := by
  have h0 := H.refl s
  unfold execPilotWindowEnd at h
  injection h with h
  subst h
  try dsimp only
  repeat' first
    | intro _ | with_reducible assumption | with_reducible apply State.bump_closed H
    | with_reducible apply State.pilotJudge_closed H | with_reducible apply State.pilotOpen_closed H
    | with_reducible apply H.ite | split | dsimp only

theorem execFatalFault_closed (H : Closed Q) {s t : State} {cause : FatalCause}
    (h : execFatalFault cause s = .next t) : Q s t := by
  have h0 := H.refl s
  unfold execFatalFault at h
  injection h with h
  subst h
  try dsimp only
  repeat' first
    | intro _ | with_reducible assumption | with_reducible apply State.fatal_closed H | with_reducible apply State.put_closed H
    | with_reducible apply State.raise_closed H | with_reducible apply H.ite | split | dsimp only

theorem execVinWarn_closed (H : Closed Q) {s t : State} 
    (h : execVinWarn s = .next t) : Q s t := by
  have h0 := H.refl s
  unfold execVinWarn at h
  injection h with h
  subst h
  try dsimp only
  repeat' first
    | intro _ | with_reducible assumption | with_reducible apply State.holdOver_closed H
    | with_reducible apply State.put_closed H | with_reducible apply State.raise_closed H | with_reducible apply H.ite | split
    | fail_if_no_progress with_reducible apply H.set | dsimp only

theorem execVinWarnClear_closed (H : Closed Q) {s t : State} 
    (h : execVinWarnClear s = .next t) : Q s t := by
  have h0 := H.refl s
  unfold execVinWarnClear at h
  injection h with h
  subst h
  try dsimp only
  repeat' first
    | intro _ | with_reducible assumption | with_reducible apply State.put_closed H | with_reducible apply H.ite | split
    | fail_if_no_progress with_reducible apply H.set | dsimp only

theorem execVinReset_closed (H : Closed Q) {s t : State} 
    (h : execVinReset s = .next t) : Q s t := by
  have h0 := H.refl s
  unfold execVinReset at h
  injection h with h
  subst h
  try dsimp only
  repeat' first
    | intro _ | with_reducible assumption | with_reducible apply State.forcedStop_closed H
    | with_reducible apply State.holdOver_closed H | with_reducible apply State.put_closed H
    | with_reducible apply State.raise_closed H | with_reducible apply H.ite | split | dsimp only

theorem execVinRecover_closed (H : Closed Q) {s t : State} 
    (h : execVinRecover s = .next t) : Q s t := by
  have h0 := H.refl s
  unfold execVinRecover at h
  injection h with h
  subst h
  try dsimp only
  repeat' first
    | intro _ | with_reducible assumption | with_reducible apply State.put_closed H
    | with_reducible apply State.railsEval_closed H | with_reducible apply H.ite | split | dsimp only

theorem execVgdWarn_closed (H : Closed Q) {s t : State} {below : Bool}
    (h : execVgdWarn below s = .next t) : Q s t := by
  have h0 := H.refl s
  unfold execVgdWarn at h
  injection h with h
  subst h
  try dsimp only
  repeat' first
    | intro _ | with_reducible assumption | with_reducible apply State.put_closed H | with_reducible apply State.raise_closed H
    | with_reducible apply H.ite | split | dsimp only

theorem execVgdUvlo_closed (H : Closed Q) {s t : State} 
    (h : execVgdUvlo s = .next t) : Q s t := by
  have h0 := H.refl s
  unfold execVgdUvlo at h
  injection h with h
  subst h
  try dsimp only
  repeat' first
    | intro _ | with_reducible assumption | with_reducible apply State.forcedStop_closed H
    | with_reducible apply State.put_closed H | with_reducible apply State.raise_closed H | with_reducible apply H.ite | split
    | dsimp only

theorem execVgdUvloClear_closed (H : Closed Q) {s t : State} 
    (h : execVgdUvloClear s = .next t) : Q s t := by
  have h0 := H.refl s
  unfold execVgdUvloClear at h
  injection h with h
  subst h
  try dsimp only
  repeat' first
    | intro _ | with_reducible assumption | with_reducible apply State.put_closed H
    | with_reducible apply State.railsEval_closed H | with_reducible apply H.ite | split | dsimp only

theorem execCoreWarn_closed (H : Closed Q) {s t : State} {below : Bool}
    (h : execCoreWarn below s = .next t) : Q s t := by
  have h0 := H.refl s
  unfold execCoreWarn at h
  injection h with h
  subst h
  try dsimp only
  repeat' first
    | intro _ | with_reducible assumption | with_reducible apply State.put_closed H | with_reducible apply State.raise_closed H
    | with_reducible apply H.ite | split | dsimp only

theorem execIoWarn_closed (H : Closed Q) {s t : State} {rail : Fin 7} {outside : Bool} {stop : Bool}
    (h : execIoWarn rail outside stop s = .next t) : Q s t := by
  have h0 := H.refl s
  unfold execIoWarn at h
  injection h with h
  subst h
  try dsimp only
  repeat' first
    | intro _ | with_reducible assumption | with_reducible apply State.forcedStop_closed H
    | with_reducible apply State.put_closed H | with_reducible apply State.putBit_closed H
    | with_reducible apply State.railsEval_closed H | with_reducible apply State.raise_closed H | with_reducible apply H.ite
    | split | dsimp only

theorem execNtcWarn_closed (H : Closed Q) {s t : State} {k : Fin 4} {code : Fin 4096}
    (h : execNtcWarn k code s = .next t) : Q s t := by
  have h0 := H.refl s
  unfold execNtcWarn at h
  injection h with h
  subst h
  try dsimp only
  repeat' first
    | intro _ | with_reducible assumption | with_reducible apply State.ntcWarns_closed H | with_reducible apply H.ite | split
    | dsimp only

theorem execNtcShutdown_closed (H : Closed Q) {s t : State} {k : Fin 4} {code : Fin 4096}
    (h : execNtcShutdown k code s = .next t) : Q s t := by
  have h0 := H.refl s
  unfold execNtcShutdown at h
  injection h with h
  subst h
  try dsimp only
  repeat' first
    | intro _ | with_reducible assumption | with_reducible apply State.ntcShutCh_closed H
    | with_reducible apply State.ntcShutRail_closed H | with_reducible apply State.ntcWarns_closed H
    | with_reducible apply H.ite | with_reducible apply H.each | with_reducible apply H.when | split | dsimp only

theorem execNtcWarnEnd_closed (H : Closed Q) {s t : State} {k : Fin 4} {code : Fin 4096}
    (h : execNtcWarnEnd k code s = .next t) : Q s t := by
  have h0 := H.refl s
  unfold execNtcWarnEnd at h
  injection h with h
  subst h
  try dsimp only
  repeat' first
    | intro _ | with_reducible assumption | with_reducible apply State.ntcEndCh_closed H
    | with_reducible apply State.ntcEndRail_closed H | with_reducible apply State.put_closed H | with_reducible apply H.ite
    | with_reducible apply H.each | with_reducible apply H.when | split | dsimp only

theorem execPowerDieOvertemp_closed (H : Closed Q) {s t : State} 
    (h : execPowerDieOvertemp s = .next t) : Q s t := by
  have h0 := H.refl s
  unfold execPowerDieOvertemp at h
  injection h with h
  subst h
  try dsimp only
  repeat' first
    | intro _ | with_reducible assumption | with_reducible apply State.forcedStop_closed H
    | with_reducible apply State.put_closed H | with_reducible apply State.raise_closed H | with_reducible apply H.ite | split
    | dsimp only

theorem execPowerDieTempRelease_closed (H : Closed Q) {s t : State} 
    (h : execPowerDieTempRelease s = .next t) : Q s t := by
  have h0 := H.refl s
  unfold execPowerDieTempRelease at h
  injection h with h
  subst h
  try dsimp only
  repeat' first
    | intro _ | with_reducible assumption | with_reducible apply State.put_closed H
    | with_reducible apply State.railsEval_closed H | with_reducible apply H.ite | split | dsimp only

theorem execLogicDieOvertemp_closed (H : Closed Q) {s t : State} 
    (h : execLogicDieOvertemp s = .next t) : Q s t := by
  have h0 := H.refl s
  unfold execLogicDieOvertemp at h
  injection h with h
  subst h
  try dsimp only
  repeat' first
    | intro _ | with_reducible assumption | with_reducible apply State.fatal_closed H | with_reducible apply State.put_closed H
    | with_reducible apply H.ite | split | dsimp only

theorem execTempWarn_closed (H : Closed Q) {s t : State} {die : Fin 2} {temp : Int}
    (h : execTempWarn die temp s = .next t) : Q s t := by
  have h0 := H.refl s
  unfold execTempWarn at h
  injection h with h
  subst h
  try dsimp only
  repeat' first
    | intro _ | with_reducible assumption | with_reducible apply State.put_closed H | with_reducible apply State.putI_closed H
    | with_reducible apply State.raise_closed H | with_reducible apply H.ite | split | dsimp only

theorem execSpWatchdogExpiry_closed (H : Closed Q) {s t : State} 
    (h : execSpWatchdogExpiry s = .next t) : Q s t := by
  have h0 := H.refl s
  unfold execSpWatchdogExpiry at h
  injection h with h
  subst h
  try dsimp only
  repeat' first
    | intro _ | with_reducible assumption | with_reducible apply State.bump_closed H
    | with_reducible apply State.fatal_closed H | with_reducible apply State.raise_closed H | with_reducible apply H.ite
    | split | fail_if_no_progress with_reducible apply H.set | dsimp only

theorem execXpmCopy_closed (H : Closed Q) {s t : State} {who : Initiator}
    (h : execXpmCopy who s = .next t) : Q s t := by
  have h0 := H.refl s
  unfold execXpmCopy at h
  injection h with h
  subst h
  try dsimp only
  repeat' first
    | intro _ | with_reducible assumption | with_reducible apply State.command_closed H
    | with_reducible apply State.hostErr_closed H | with_reducible apply State.mirrorOut_closed H
    | with_reducible apply State.put_closed H | with_reducible apply H.ite | split | dsimp only

theorem execXpmCopyDone_closed (H : Closed Q) {s t : State} 
    (h : execXpmCopyDone s = .next t) : Q s t := by
  have h0 := H.refl s
  unfold execXpmCopyDone at h
  injection h with h
  subst h
  try dsimp only
  repeat' first
    | intro _ | with_reducible assumption | with_reducible apply State.copyBank_closed H
    | with_reducible apply State.put_closed H | with_reducible apply H.ite | split
    | fail_if_no_progress with_reducible apply H.set | dsimp only

theorem execDpoolRepack_closed (H : Closed Q) {s t : State} {who : Initiator}
    (h : execDpoolRepack who s = .next t) : Q s t := by
  have h0 := H.refl s
  unfold execDpoolRepack at h
  injection h with h
  subst h
  try dsimp only
  repeat' first
    | intro _ | with_reducible assumption | with_reducible apply State.command_closed H
    | with_reducible apply State.hostErr_closed H | with_reducible apply H.ite | split
    | fail_if_no_progress with_reducible apply H.set | dsimp only

theorem execClipPrefetchDone_closed (H : Closed Q) {s t : State} {inst : Fin 8192} {bytes : Nat}
    (h : execClipPrefetchDone inst bytes s = .next t) : Q s t := by
  have h0 := H.refl s
  unfold execClipPrefetchDone at h
  injection h with h
  subst h
  try dsimp only
  repeat' first
    | intro _ | with_reducible assumption | with_reducible apply State.prefetch_closed H | with_reducible apply H.ite | split
    | fail_if_no_progress with_reducible apply H.set | dsimp only

theorem execSvcPlay_closed (H : Closed Q) {s t : State} {r : SvcReq}
    (h : execSvcPlay r s = .next t) : Q s t := by
  have h0 := H.refl s
  unfold execSvcPlay at h
  injection h with h
  subst h
  try dsimp only
  repeat' first
    | intro _ | with_reducible assumption | with_reducible apply State.svcCommand_closed H | dsimp only

theorem execSvcCall_closed (H : Closed Q) {s t : State} {r : SvcReq}
    (h : execSvcCall r s = .next t) : Q s t := by
  have h0 := H.refl s
  unfold execSvcCall at h
  injection h with h
  subst h
  try dsimp only
  repeat' first
    | intro _ | with_reducible assumption | with_reducible apply State.svcCommand_closed H | dsimp only

theorem execSvcAnswer_closed (H : Closed Q) {s t : State} {r : SvcReq}
    (h : execSvcAnswer r s = .next t) : Q s t := by
  have h0 := H.refl s
  unfold execSvcAnswer at h
  injection h with h
  subst h
  try dsimp only
  repeat' first
    | intro _ | with_reducible assumption | with_reducible apply State.svcCommand_closed H | dsimp only

theorem execSvcRelease_closed (H : Closed Q) {s t : State} {r : SvcReq}
    (h : execSvcRelease r s = .next t) : Q s t := by
  have h0 := H.refl s
  unfold execSvcRelease at h
  injection h with h
  subst h
  try dsimp only
  repeat' first
    | intro _ | with_reducible assumption | with_reducible apply State.svcCommand_closed H | dsimp only

theorem execSvcLock_closed (H : Closed Q) {s t : State} {r : SvcReq}
    (h : execSvcLock r s = .next t) : Q s t := by
  have h0 := H.refl s
  unfold execSvcLock at h
  injection h with h
  subst h
  try dsimp only
  repeat' first
    | intro _ | with_reducible assumption | with_reducible apply State.svcCommand_closed H | dsimp only

theorem execSvcUnlock_closed (H : Closed Q) {s t : State} {r : SvcReq}
    (h : execSvcUnlock r s = .next t) : Q s t := by
  have h0 := H.refl s
  unfold execSvcUnlock at h
  injection h with h
  subst h
  try dsimp only
  repeat' first
    | intro _ | with_reducible assumption | with_reducible apply State.svcCommand_closed H | dsimp only

theorem execServiceCommitArm_closed (H : Closed Q) {s t : State} 
    (h : execServiceCommitArm s = .next t) : Q s t := by
  have h0 := H.refl s
  unfold execServiceCommitArm at h
  injection h with h
  subst h
  try dsimp only
  repeat' first
    | intro _ | with_reducible assumption | with_reducible apply State.svcArm_closed H | with_reducible apply H.ite | split
    | dsimp only

theorem execSvcClipDone_closed (H : Closed Q) {s t : State} {player : Fin 32}
    (h : execSvcClipDone player s = .next t) : Q s t := by
  have h0 := H.refl s
  unfold execSvcClipDone at h
  injection h with h
  subst h
  try dsimp only
  repeat' first
    | intro _ | with_reducible assumption | with_reducible apply State.svcDone_closed H
    | with_reducible apply State.svcPublish_closed H | with_reducible apply H.ite | split | dsimp only

theorem execClipCrcCheckDone_closed (H : Closed Q) {s t : State} {id : Fin 4096}
    (h : execClipCrcCheckDone id s = .next t) : Q s t := by
  have h0 := H.refl s
  unfold execClipCrcCheckDone at h
  injection h with h
  subst h
  try dsimp only
  repeat' first
    | intro _ | with_reducible assumption | with_reducible apply State.bump_closed H | with_reducible apply H.ite | split
    | fail_if_no_progress with_reducible apply H.set | dsimp only

theorem execPllRefLost_closed (H : Closed Q) {s t : State} {loop : LoopId}
    (h : execPllRefLost loop s = .next t) : Q s t := by
  have h0 := H.refl s
  unfold execPllRefLost at h
  injection h with h
  subst h
  try dsimp only
  repeat' first
    | intro _ | with_reducible assumption | with_reducible apply State.flockGone_closed H
    | with_reducible apply State.refGone_closed H | with_reducible apply H.ite | split
    | fail_if_no_progress with_reducible apply H.set | dsimp only

theorem execPllFlockSet_closed (H : Closed Q) {s t : State} {loop : LoopId} {count : Nat}
    (h : execPllFlockSet loop count s = .next t) : Q s t := by
  have h0 := H.refl s
  unfold execPllFlockSet at h
  injection h with h
  subst h
  try dsimp only
  repeat' first
    | intro _ | with_reducible assumption | with_reducible apply State.pllCount_closed H
    | with_reducible apply State.pllsShow_closed H | with_reducible apply State.put_closed H
    | with_reducible apply State.setVco_closed H | with_reducible apply H.ite | split
    | fail_if_no_progress with_reducible apply H.set | dsimp only

theorem execPllFlockClear_closed (H : Closed Q) {s t : State} {loop : LoopId} {count : Nat}
    (h : execPllFlockClear loop count s = .next t) : Q s t := by
  have h0 := H.refl s
  unfold execPllFlockClear at h
  injection h with h
  subst h
  try dsimp only
  repeat' first
    | intro _ | with_reducible assumption | with_reducible apply State.flockGone_closed H
    | with_reducible apply State.pllCount_closed H | with_reducible apply H.ite | split
    | fail_if_no_progress with_reducible apply H.set | dsimp only

theorem execPllPlockSet_closed (H : Closed Q) {s t : State} {loop : LoopId} {phase : PhaseRun}
    (h : execPllPlockSet loop phase s = .next t) : Q s t := by
  have h0 := H.refl s
  unfold execPllPlockSet at h
  injection h with h
  subst h
  try dsimp only
  repeat' first
    | intro _ | with_reducible assumption | with_reducible apply State.pllPhase_closed H
    | with_reducible apply State.pllcLocked_closed H | with_reducible apply State.pllsShow_closed H
    | with_reducible apply State.put_closed H | with_reducible apply State.raise_closed H
    | with_reducible apply State.setVco_closed H | with_reducible apply H.ite | split
    | fail_if_no_progress with_reducible apply H.set | dsimp only

theorem execPllPlockClear_closed (H : Closed Q) {s t : State} {loop : LoopId} {ps : Int}
    (h : execPllPlockClear loop ps s = .next t) : Q s t := by
  have h0 := H.refl s
  unfold execPllPlockClear at h
  injection h with h
  subst h
  try dsimp only
  repeat' first
    | intro _ | with_reducible assumption | with_reducible apply State.pllPhase_closed H
    | with_reducible apply State.pllsShow_closed H | with_reducible apply State.plockGone_closed H
    | with_reducible apply State.setVco_closed H | with_reducible apply H.ite | split
    | fail_if_no_progress with_reducible apply H.set | dsimp only

theorem execPllmCeilingTrip_closed (H : Closed Q) {s t : State} {count : Nat}
    (h : execPllmCeilingTrip count s = .next t) : Q s t := by
  have h0 := H.refl s
  unfold execPllmCeilingTrip at h
  injection h with h
  subst h
  try dsimp only
  repeat' first
    | intro _ | with_reducible assumption | with_reducible apply State.bump_closed H
    | with_reducible apply State.flockGone_closed H | with_reducible apply H.ite | split | dsimp only

theorem execClkMuteRelease_closed (H : Closed Q) {s t : State} 
    (h : execClkMuteRelease s = .next t) : Q s t := by
  have h0 := H.refl s
  unfold execClkMuteRelease at h
  injection h with h
  subst h
  try dsimp only
  repeat' first
    | intro _ | with_reducible assumption | with_reducible apply State.clockChange_closed H | with_reducible apply H.ite
    | split | fail_if_no_progress with_reducible apply H.set | dsimp only

theorem execPllmCal_closed (H : Closed Q) {s t : State} {who : Initiator}
    (h : execPllmCal who s = .next t) : Q s t := by
  have h0 := H.refl s
  unfold execPllmCal at h
  injection h with h
  subst h
  try dsimp only
  repeat' first
    | intro _ | with_reducible assumption | with_reducible apply State.calStart_closed H
    | with_reducible apply State.command_closed H | with_reducible apply State.hostErr_closed H | with_reducible apply H.ite
    | split | dsimp only

theorem execPllmCalDone_closed (H : Closed Q) {s t : State} {ranges : List (Nat × Nat)}
    (h : execPllmCalDone ranges s = .next t) : Q s t := by
  have h0 := H.refl s
  unfold execPllmCalDone at h
  injection h with h
  subst h
  try dsimp only
  repeat' first
    | intro _ | with_reducible assumption | with_reducible apply State.pllmAcquire_closed H
    | with_reducible apply State.put_closed H | with_reducible apply H.ite | with_reducible apply H.foldl
    | with_reducible apply H.foldl_on (fun b : _ × State => b.2) | with_reducible apply H.foldl_on (fun b : State × _ => b.1)
    | with_reducible apply H.foldl_on (fun b : _ × _ × State => b.2.2)
    | with_reducible apply H.foldl_on (fun b : _ × _ × _ × State => b.2.2.2) | split | dsimp only

theorem execPllmBandRetry_closed (H : Closed Q) {s t : State} 
    (h : execPllmBandRetry s = .next t) : Q s t := by
  have h0 := H.refl s
  unfold execPllmBandRetry at h
  injection h with h
  subst h
  try dsimp only
  repeat' first
    | intro _ | with_reducible assumption | with_reducible apply State.calStart_closed H | with_reducible apply H.ite | split
    | dsimp only

theorem execArm_closed (H : Closed Q) {s t : State} {who : Initiator} {page : Fin 256}
    (h : execArm who page s = .next t) : Q s t := by
  have h0 := H.refl s
  unfold execArm at h
  injection h with h
  subst h
  try dsimp only
  repeat' first
    | intro _ | with_reducible assumption | with_reducible apply State.armPage_closed H
    | with_reducible apply State.command_closed H | dsimp only

theorem execGroupCommit_closed (H : Closed Q) {s t : State} {who : Initiator}
    (h : execGroupCommit who s = .next t) : Q s t := by
  have h0 := H.refl s
  unfold execGroupCommit at h
  injection h with h
  subst h
  try dsimp only
  repeat' first
    | intro _ | with_reducible assumption | with_reducible apply State.armPages_closed H
    | with_reducible apply State.command_closed H | with_reducible apply State.mirrorContent_closed H
    | with_reducible apply State.mirrorOut_closed H | with_reducible apply H.when | dsimp only

theorem execCommitValidated_closed (H : Closed Q) {s t : State} 
    (h : execCommitValidated s = .next t) : Q s t := by
  have h0 := H.refl s
  unfold execCommitValidated at h
  injection h with h
  subst h
  try dsimp only
  repeat' first
    | intro _ | with_reducible assumption | with_reducible apply State.commitResult_closed H
    | with_reducible apply State.resultOut_closed H | with_reducible apply H.ite | split
    | fail_if_no_progress with_reducible apply H.set | dsimp only

theorem execBracePathSilent_closed (H : Closed Q) {s t : State} 
    (h : execBracePathSilent s = .next t) : Q s t := by
  have h0 := H.refl s
  unfold execBracePathSilent at h
  injection h with h
  subst h
  try dsimp only
  repeat' first
    | intro _ | with_reducible assumption | with_reducible apply State.braceDown_closed H | with_reducible apply H.ite | split
    | dsimp only

theorem execNetPathSilent_closed (H : Closed Q) {s t : State} 
    (h : execNetPathSilent s = .next t) : Q s t := by
  have h0 := H.refl s
  unfold execNetPathSilent at h
  injection h with h
  subst h
  try dsimp only
  repeat' first
    | intro _ | with_reducible assumption | with_reducible apply State.lostCheck_closed H
    | with_reducible apply State.put_closed H | with_reducible apply State.raise_closed H | with_reducible apply H.ite | split
    | dsimp only

theorem execNetworkHeartbeatTx_closed (H : Closed Q) {s t : State} 
    (h : execNetworkHeartbeatTx s = .next t) : Q s t := by
  have h0 := H.refl s
  unfold execNetworkHeartbeatTx at h
  injection h with h
  subst h
  try dsimp only
  repeat' first
    | intro _ | with_reducible assumption | with_reducible apply State.heartbeat_closed H | with_reducible apply H.ite | split
    | dsimp only

theorem execNetworkHeartbeatRx_closed (H : Closed Q) {s t : State} {h : Heartbeat}
    (h : execNetworkHeartbeatRx h s = .next t) : Q s t := by
  have h0 := H.refl s
  unfold execNetworkHeartbeatRx at h
  injection h with h
  subst h
  try dsimp only
  repeat' first
    | intro _ | with_reducible assumption | with_reducible apply State.bump_closed H | with_reducible apply State.hear_closed H
    | with_reducible apply State.put_closed H | with_reducible apply State.raise_closed H | with_reducible apply H.ite | split
    | fail_if_no_progress with_reducible apply H.set | dsimp only

theorem execBraceFrameRx_closed (H : Closed Q) {s t : State} {r : BraceRx}
    (h : execBraceFrameRx r s = .next t) : Q s t := by
  have h0 := H.refl s
  unfold execBraceFrameRx at h
  injection h with h
  subst h
  try dsimp only
  repeat' first
    | intro _ | with_reducible assumption | with_reducible apply State.bump_closed H
    | with_reducible apply State.takeLead_closed H | with_reducible apply State.takeRest_closed H | with_reducible apply H.ite
    | split | dsimp only

theorem execRelayTakeover_closed (H : Closed Q) {s t : State} {k : Fin 4}
    (h : execRelayTakeover k s = .next t) : Q s t := by
  have h0 := H.refl s
  unfold execRelayTakeover at h
  injection h with h
  subst h
  try dsimp only
  repeat' first
    | intro _ | with_reducible assumption | with_reducible apply State.relayBegin_closed H | with_reducible apply H.ite | split
    | dsimp only

theorem execRelayRelease_closed (H : Closed Q) {s t : State} {k : Fin 4}
    (h : execRelayRelease k s = .next t) : Q s t := by
  have h0 := H.refl s
  unfold execRelayRelease at h
  injection h with h
  subst h
  try dsimp only
  repeat' first
    | intro _ | with_reducible assumption | with_reducible apply State.relayBegin_closed H | with_reducible apply H.ite | split
    | dsimp only

theorem execRelayEnergise_closed (H : Closed Q) {s t : State} {k : Fin 4}
    (h : execRelayEnergise k s = .next t) : Q s t := by
  have h0 := H.refl s
  unfold execRelayEnergise at h
  injection h with h
  subst h
  try dsimp only
  repeat' first
    | intro _ | with_reducible assumption | with_reducible apply State.put_closed H | with_reducible apply State.send_closed H
    | with_reducible apply State.setRelay_closed H | with_reducible apply H.ite | split | dsimp only

theorem execRelaySettled_closed (H : Closed Q) {s t : State} {k : Fin 4}
    (h : execRelaySettled k s = .next t) : Q s t := by
  have h0 := H.refl s
  unfold execRelaySettled at h
  injection h with h
  subst h
  try dsimp only
  repeat' first
    | intro _ | with_reducible assumption | with_reducible apply State.relayCommit_closed H
    | with_reducible apply State.setRelay_closed H | with_reducible apply H.ite | split | dsimp only

theorem execFormationTimeout_closed (H : Closed Q) {s t : State} 
    (h : execFormationTimeout s = .next t) : Q s t := by
  have h0 := H.refl s
  unfold execFormationTimeout at h
  injection h with h
  subst h
  try dsimp only
  repeat' first
    | intro _ | with_reducible assumption | with_reducible apply State.wantRole_closed H | with_reducible apply H.ite | split
    | dsimp only

theorem execSwap_closed (H : Closed Q) {s t : State} {who : Initiator}
    (h : execSwap who s = .next t) : Q s t := by
  have h0 := H.refl s
  unfold execSwap at h
  injection h with h
  subst h
  try dsimp only
  repeat' first
    | intro _ | with_reducible assumption | with_reducible apply State.command_closed H
    | with_reducible apply State.demote_closed H | with_reducible apply State.hostErr_closed H | with_reducible apply H.ite
    | split | dsimp only

theorem execReseatStart_closed (H : Closed Q) {s t : State} 
    (h : execReseatStart s = .next t) : Q s t := by
  have h0 := H.refl s
  unfold execReseatStart at h
  injection h with h
  subst h
  try dsimp only
  repeat' first
    | intro _ | with_reducible assumption | with_reducible apply State.seatBegin_closed H | dsimp only

theorem execReseatRetry_closed (H : Closed Q) {s t : State} 
    (h : execReseatRetry s = .next t) : Q s t := by
  have h0 := H.refl s
  unfold execReseatRetry at h
  injection h with h
  subst h
  try dsimp only
  repeat' first
    | intro _ | with_reducible assumption | with_reducible apply State.seatBegin_closed H | dsimp only

theorem execReseatRoundDone_closed (H : Closed Q) {s t : State} {dirty : Nat} {seated : List Mirror}
    (h : execReseatRoundDone dirty seated s = .next t) : Q s t := by
  have h0 := H.refl s
  unfold execReseatRoundDone at h
  injection h with h
  subst h
  try dsimp only
  repeat' first
    | intro _ | with_reducible assumption | with_reducible apply State.put_closed H
    | with_reducible apply State.seatFlush_closed H | with_reducible apply State.seatWord_closed H | with_reducible apply H.ite
    | with_reducible apply H.when | with_reducible apply H.foldl | with_reducible apply H.foldl_on (fun b : _ × State => b.2)
    | with_reducible apply H.foldl_on (fun b : State × _ => b.1)
    | with_reducible apply H.foldl_on (fun b : _ × _ × State => b.2.2)
    | with_reducible apply H.foldl_on (fun b : _ × _ × _ × State => b.2.2.2) | split
    | fail_if_no_progress with_reducible apply H.set | dsimp only

theorem execSealSend_closed (H : Closed Q) {s t : State} 
    (h : execSealSend s = .next t) : Q s t := by
  have h0 := H.refl s
  unfold execSealSend at h
  injection h with h
  subst h
  try dsimp only
  repeat' first
    | intro _ | with_reducible assumption | with_reducible apply State.seatFlush_closed H
    | with_reducible apply State.send_closed H | with_reducible apply H.ite | split
    | fail_if_no_progress with_reducible apply H.set | dsimp only

theorem execSealRx_closed (H : Closed Q) {s t : State} {inTime : Bool} {seat : Seat}
    (h : execSealRx inTime seat s = .next t) : Q s t := by
  have h0 := H.refl s
  unfold execSealRx at h
  injection h with h
  subst h
  try dsimp only
  repeat' first
    | intro _ | with_reducible assumption | with_reducible apply State.sealTake_closed H
    | with_reducible apply State.wantRole_closed H | with_reducible apply H.ite | split
    | fail_if_no_progress with_reducible apply H.set | dsimp only

theorem execReseatTimeout_closed (H : Closed Q) {s t : State} 
    (h : execReseatTimeout s = .next t) : Q s t := by
  have h0 := H.refl s
  unfold execReseatTimeout at h
  injection h with h
  subst h
  try dsimp only
  repeat' first
    | intro _ | with_reducible assumption | with_reducible apply State.seatAbort_closed H | with_reducible apply H.ite | split
    | dsimp only

theorem execColdStartDone_closed (H : Closed Q) {s t : State} 
    (h : execColdStartDone s = .next t) : Q s t := by
  have h0 := H.refl s
  unfold execColdStartDone at h
  injection h with h
  subst h
  try dsimp only
  repeat' first
    | intro _ | with_reducible assumption | with_reducible apply State.wantRole_closed H | with_reducible apply H.ite | split
    | dsimp only

theorem execServiceFirmwareStart_closed (H : Closed Q) {s t : State} 
    (h : execServiceFirmwareStart s = .next t) : Q s t := by
  have h0 := H.refl s
  unfold execServiceFirmwareStart at h
  injection h with h
  subst h
  try dsimp only
  repeat' first
    | intro _ | with_reducible assumption | with_reducible apply State.put_closed H | with_reducible apply H.ite | split
    | fail_if_no_progress with_reducible apply H.set | dsimp only

theorem execCntClr_closed (H : Closed Q) {s t : State} {who : Initiator} {page : Fin 256}
    (h : execCntClr who page s = .next t) : Q s t := by
  have h0 := H.refl s
  unfold execCntClr at h
  injection h with h
  subst h
  try dsimp only
  repeat' first
    | intro _ | with_reducible assumption | with_reducible apply State.clearCounters_closed H
    | with_reducible apply State.command_closed H | split | fail_if_no_progress with_reducible apply H.set | dsimp only

theorem execSrst_closed (H : Closed Q) {s t : State} {who : Initiator} {page : Fin 256}
    (h : execSrst who page s = .next t) : Q s t := by
  have h0 := H.refl s
  unfold execSrst at h
  injection h with h
  subst h
  try dsimp only
  repeat' first
    | intro _ | with_reducible assumption | with_reducible apply State.command_closed H
    | with_reducible apply State.srstWrite_closed H | dsimp only

theorem execFenceStart_closed (H : Closed Q) {s t : State} {who : Initiator}
    (h : execFenceStart who s = .next t) : Q s t := by
  have h0 := H.refl s
  unfold execFenceStart at h
  injection h with h
  subst h
  try dsimp only
  repeat' first
    | intro _ | with_reducible assumption | with_reducible apply State.command_closed H
    | with_reducible apply State.fenceStart_closed H | dsimp only

theorem execFlashCmdFill_closed (H : Closed Q) {s t : State} {who : Initiator} {opcode : Fin 256} {addrBytes : Fin 3} {len : Fin 257}
    (h : execFlashCmdFill who opcode addrBytes len s = .next t) : Q s t := by
  have h0 := H.refl s
  unfold execFlashCmdFill at h
  injection h with h
  subst h
  try dsimp only
  repeat' first
    | intro _ | with_reducible assumption | with_reducible apply State.command_closed H
    | with_reducible apply State.flashStart_closed H | dsimp only

theorem execFlashCmdSend_closed (H : Closed Q) {s t : State} {who : Initiator} {opcode : Fin 256} {addrBytes : Fin 3} {len : Fin 257}
    (h : execFlashCmdSend who opcode addrBytes len s = .next t) : Q s t := by
  have h0 := H.refl s
  unfold execFlashCmdSend at h
  injection h with h
  subst h
  try dsimp only
  repeat' first
    | intro _ | with_reducible assumption | with_reducible apply State.command_closed H
    | with_reducible apply State.flashStart_closed H | dsimp only

theorem execFlashCmdDone_closed (H : Closed Q) {s t : State} {data : List Byte} {changed : List (Nat × Byte)}
    (h : execFlashCmdDone data changed s = .next t) : Q s t := by
  have h0 := H.refl s
  unfold execFlashCmdDone at h
  injection h with h
  subst h
  try dsimp only
  repeat' first
    | intro _ | with_reducible assumption | with_reducible apply State.flFill_closed H
    | with_reducible apply State.put_closed H | with_reducible apply State.setByte_closed H | with_reducible apply H.ite
    | with_reducible apply H.when | with_reducible apply H.foldl | with_reducible apply H.foldl_on (fun b : _ × State => b.2)
    | with_reducible apply H.foldl_on (fun b : State × _ => b.1)
    | with_reducible apply H.foldl_on (fun b : _ × _ × State => b.2.2)
    | with_reducible apply H.foldl_on (fun b : _ × _ × _ × State => b.2.2.2) | split | dsimp only

theorem execOtpCfgSigReq_closed (H : Closed Q) {s t : State} {who : Initiator}
    (h : execOtpCfgSigReq who s = .next t) : Q s t := by
  have h0 := H.refl s
  unfold execOtpCfgSigReq at h
  injection h with h
  subst h
  try dsimp only
  repeat' first
    | intro _ | with_reducible assumption | with_reducible apply State.command_closed H
    | with_reducible apply State.otpStart_closed H | dsimp only

theorem execOtpCustKeyHash_closed (H : Closed Q) {s t : State} {who : Initiator} {index : Fin 4}
    (h : execOtpCustKeyHash who index s = .next t) : Q s t := by
  have h0 := H.refl s
  unfold execOtpCustKeyHash at h
  injection h with h
  subst h
  try dsimp only
  repeat' first
    | intro _ | with_reducible assumption | with_reducible apply State.command_closed H
    | with_reducible apply State.otpStart_closed H | dsimp only

theorem execOtpRevokeKey_closed (H : Closed Q) {s t : State} {who : Initiator} {index : Fin 4}
    (h : execOtpRevokeKey who index s = .next t) : Q s t := by
  have h0 := H.refl s
  unfold execOtpRevokeKey at h
  injection h with h
  subst h
  try dsimp only
  repeat' first
    | intro _ | with_reducible assumption | with_reducible apply State.command_closed H
    | with_reducible apply State.otpStart_closed H | dsimp only

theorem execOtpIbKey_closed (H : Closed Q) {s t : State} {who : Initiator} {index : Fin 4}
    (h : execOtpIbKey who index s = .next t) : Q s t := by
  have h0 := H.refl s
  unfold execOtpIbKey at h
  injection h with h
  subst h
  try dsimp only
  repeat' first
    | intro _ | with_reducible assumption | with_reducible apply State.command_closed H
    | with_reducible apply State.otpStart_closed H | dsimp only

theorem execOtpRaiseFwMin_closed (H : Closed Q) {s t : State} {who : Initiator}
    (h : execOtpRaiseFwMin who s = .next t) : Q s t := by
  have h0 := H.refl s
  unfold execOtpRaiseFwMin at h
  injection h with h
  subst h
  try dsimp only
  repeat' first
    | intro _ | with_reducible assumption | with_reducible apply State.command_closed H
    | with_reducible apply State.otpStart_closed H | dsimp only

theorem execOtpJtagDisable_closed (H : Closed Q) {s t : State} {who : Initiator}
    (h : execOtpJtagDisable who s = .next t) : Q s t := by
  have h0 := H.refl s
  unfold execOtpJtagDisable at h
  injection h with h
  subst h
  try dsimp only
  repeat' first
    | intro _ | with_reducible assumption | with_reducible apply State.command_closed H
    | with_reducible apply State.otpStart_closed H | dsimp only

theorem execQspiRead_closed (H : Closed Q) {s t : State} {tx : QspiTx}
    (h : execQspiRead tx s = .next t) : Q s t := by
  have h0 := H.refl s
  unfold execQspiRead at h
  injection h with h
  subst h
  try dsimp only
  repeat' first
    | intro _ | with_reducible assumption | with_reducible apply State.qspiRead_closed H | dsimp only

theorem execQspiQread_closed (H : Closed Q) {s t : State} {tx : QspiTx}
    (h : execQspiQread tx s = .next t) : Q s t := by
  have h0 := H.refl s
  unfold execQspiQread at h
  injection h with h
  subst h
  try dsimp only
  repeat' first
    | intro _ | with_reducible assumption | with_reducible apply State.qspiRead_closed H | dsimp only

theorem execQspiStatus_closed (H : Closed Q) {s t : State} 
    (h : execQspiStatus s = .next t) : Q s t := by
  have h0 := H.refl s
  unfold execQspiStatus at h
  injection h with h
  subst h
  try dsimp only
  repeat' first
    | intro _ | with_reducible assumption | with_reducible apply State.send_closed H | with_reducible apply H.ite | split
    | dsimp only

theorem execOcdorRead_closed (H : Closed Q) {s t : State} {f : OcdorFrame}
    (h : execOcdorRead f s = .next t) : Q s t := by
  have h0 := H.refl s
  unfold execOcdorRead at h
  injection h with h
  subst h
  try dsimp only
  repeat' first
    | intro _ | with_reducible assumption | with_reducible apply State.ibWords_closed H
    | with_reducible apply State.ocdor_closed H | with_reducible apply State.ocdorAnswer_closed H | dsimp only

theorem execOcdorFence_closed (H : Closed Q) {s t : State} {f : OcdorFrame}
    (h : execOcdorFence f s = .next t) : Q s t := by
  have h0 := H.refl s
  unfold execOcdorFence at h
  injection h with h
  subst h
  try dsimp only
  repeat' first
    | intro _ | with_reducible assumption | with_reducible apply State.ocdor_closed H
    | with_reducible apply State.setFence_closed H | dsimp only

theorem execOcdorSubscribe_closed (H : Closed Q) {s t : State} {f : OcdorFrame}
    (h : execOcdorSubscribe f s = .next t) : Q s t := by
  have h0 := H.refl s
  unfold execOcdorSubscribe at h
  injection h with h
  subst h
  try dsimp only
  repeat' first
    | intro _ | with_reducible assumption | with_reducible apply State.ocdor_closed H
    | with_reducible apply State.ocdorAnswer_closed H | with_reducible apply State.setSlot_closed H
    | with_reducible apply H.ite | split | fail_if_no_progress with_reducible apply H.set | dsimp only

theorem execFenceDone_closed (H : Closed Q) {s t : State} {who : Initiator}
    (h : execFenceDone who s = .next t) : Q s t := by
  have h0 := H.refl s
  unfold execFenceDone at h
  injection h with h
  subst h
  try dsimp only
  repeat' first
    | intro _ | with_reducible assumption | with_reducible apply State.ocdorSend_closed H
    | with_reducible apply State.raise_closed H | with_reducible apply H.foldl
    | with_reducible apply H.foldl_on (fun b : _ × State => b.2) | with_reducible apply H.foldl_on (fun b : State × _ => b.1)
    | with_reducible apply H.foldl_on (fun b : _ × _ × State => b.2.2)
    | with_reducible apply H.foldl_on (fun b : _ × _ × _ × State => b.2.2.2) | split
    | fail_if_no_progress with_reducible apply H.set | dsimp only

theorem execGpioEdge_closed (H : Closed Q) {s t : State} {pin : Fin 16} {level : Bool}
    (h : execGpioEdge pin level s = .next t) : Q s t := by
  have h0 := H.refl s
  unfold execGpioEdge at h
  injection h with h
  subst h
  try dsimp only
  repeat' first
    | intro _ | with_reducible assumption | with_reducible apply State.putBit_closed H
    | with_reducible apply State.raise_closed H | with_reducible apply H.ite | split | dsimp only

theorem execCutListWindowStart_closed (H : Closed Q) {s t : State} {faults : List EngFault} {ecc : List EccErr}
    (h : execCutListWindowStart faults ecc s = .next t) : Q s t := by
  have h0 := H.refl s
  unfold execCutListWindowStart at h
  injection h with h
  subst h
  try dsimp only
  repeat' first
    | intro _ | with_reducible assumption | with_reducible apply State.windowOpen_closed H | with_reducible apply H.ite | split
    | dsimp only

theorem execPresenceAgreement_closed (H : Closed Q) {s t : State} 
    (h : execPresenceAgreement s = .next t) : Q s t := by
  have h0 := H.refl s
  unfold execPresenceAgreement at h
  injection h with h
  subst h
  try dsimp only
  repeat' first
    | intro _ | with_reducible assumption | with_reducible apply State.agree_closed H
    | with_reducible apply State.windowOpen_closed H | with_reducible apply H.ite | split | dsimp only

theorem execEngineDeadline_closed (H : Closed Q) {s t : State} {late : List EngLate}
    (h : execEngineDeadline late s = .next t) : Q s t := by
  have h0 := H.refl s
  unfold execEngineDeadline at h
  injection h with h
  subst h
  try dsimp only
  repeat' first
    | intro _ | with_reducible assumption | with_reducible apply State.deadline_closed H | with_reducible apply H.ite | split
    | dsimp only

theorem execRoleChange_closed (H : Closed Q) {s t : State} 
    (h : execRoleChange s = .next t) : Q s t := by
  have h0 := H.refl s
  unfold execRoleChange at h
  injection h with h
  subst h
  try dsimp only
  repeat' first
    | intro _ | with_reducible assumption | with_reducible apply State.boundaryPart_closed H
    | with_reducible apply State.roleTick_closed H | dsimp only

theorem execPllmUngate_closed (H : Closed Q) {s t : State} 
    (h : execPllmUngate s = .next t) : Q s t := by
  have h0 := H.refl s
  unfold execPllmUngate at h
  injection h with h
  subst h
  try dsimp only
  repeat' first
    | intro _ | with_reducible assumption | with_reducible apply State.boundaryPart_closed H
    | with_reducible apply State.pllmUngate_closed H | with_reducible apply H.ite | split | dsimp only

theorem execEvtRawExpiry_closed (H : Closed Q) {s t : State} {event : Fin 96}
    (h : execEvtRawExpiry event s = .next t) : Q s t := by
  have h0 := H.refl s
  unfold execEvtRawExpiry at h
  injection h with h
  subst h
  try dsimp only
  repeat' first
    | intro _ | with_reducible assumption | fail_if_no_progress with_reducible apply H.set | dsimp only

end Sys2Proof.Machine
end

