-- ==== Sys2Proof/Laws/ClosedWideX.lean ====
section
/-! SUPPORT. The relations of Laws/Closed.lean hold across the operations and commands that change the device state: one lemma for each. -/

namespace Sys2Proof.Machine

variable {Q : State → State → Prop}

theorem State.readyEnter_wide (H : Wide Q) {s0 s : State} (h0 : Q s0 s)  :
    Q s0 (State.readyEnter s) := by
  unfold State.readyEnter
  try dsimp only
  repeat' first
    | intro _ | with_reducible assumption | with_reducible apply State.enginesStop_closed H.closed
    | with_reducible apply State.follow_closed H.closed | with_reducible apply State.railsEval_closed H.closed
    | with_reducible apply State.seatAbort_closed H.closed | with_reducible apply State.svcPublish_closed H.closed
    | with_reducible apply State.svcStop_closed H.closed | with_reducible apply H.closed.when
    | fail_if_no_progress with_reducible apply H.closed.set | fail_if_no_progress with_reducible apply H.set | dsimp only

theorem State.runEnter_wide (H : Wide Q) {s0 s : State} (h0 : Q s0 s)  :
    Q s0 (State.runEnter s) := by
  unfold State.runEnter
  try dsimp only
  repeat' first
    | intro _ | with_reducible assumption | with_reducible apply State.armAll_closed H.closed
    | with_reducible apply State.follow_closed H.closed | with_reducible apply State.mixStart_closed H.closed
    | with_reducible apply State.netStart_closed H.closed | with_reducible apply State.railsEval_closed H.closed
    | with_reducible apply H.closed.when | fail_if_no_progress with_reducible apply H.closed.set
    | fail_if_no_progress with_reducible apply H.set | dsimp only

theorem State.heldEnter_wide (H : Wide Q) {s0 s : State} (h0 : Q s0 s)  :
    Q s0 (State.heldEnter s) := by
  unfold State.heldEnter
  try dsimp only
  repeat' first
    | intro _ | with_reducible assumption | with_reducible apply State.clkoutLow_closed H.closed
    | with_reducible apply State.diagAbort_closed H.closed | with_reducible apply State.egrClear_closed H.closed
    | with_reducible apply State.follow_closed H.closed | with_reducible apply State.put_closed H.closed
    | with_reducible apply State.railsEval_closed H.closed | with_reducible apply State.roleLeave_closed H.closed
    | with_reducible apply H.closed.ite | split | fail_if_no_progress with_reducible apply H.closed.set
    | fail_if_no_progress with_reducible apply H.set | dsimp only

theorem State.stopRun_wide (H : Wide Q) {s0 s : State} (h0 : Q s0 s) {andThen : Nat} {cause : Nat} {bootsel : Nat} :
    Q s0 (State.stopRun s andThen cause bootsel) := by
  unfold State.stopRun
  try dsimp only
  repeat' first
    | intro _ | with_reducible assumption | with_reducible apply State.demote_closed H.closed
    | with_reducible apply State.entityDeparting_closed H.closed | with_reducible apply State.stopAll_closed H.closed
    | with_reducible apply State.txStates_closed H.closed | fail_if_no_progress with_reducible apply H.closed.set
    | fail_if_no_progress with_reducible apply H.set | dsimp only

theorem State.bootEnter_wide (H : Wide Q) {s0 s : State} (h0 : Q s0 s) {bootsel : Nat} :
    Q s0 (State.bootEnter s bootsel) := by
  unfold State.bootEnter
  try dsimp only
  repeat' first
    | intro _ | with_reducible assumption | with_reducible apply State.calStart_closed H.closed
    | with_reducible apply State.draw_closed H.closed | with_reducible apply State.put_closed H.closed
    | fail_if_no_progress with_reducible apply H.closed.set | fail_if_no_progress with_reducible apply H.set | dsimp only

theorem State.warmReset_wide (H : Wide Q) {s0 s : State} (h0 : Q s0 s) {cause bootsel : Nat} : Q s0 (s.warmReset cause bootsel) := by
  unfold State.warmReset
  extract_lets w r p1 p2 p3 t
  have h1 : Q s0 w := H.closed.when h0 fun _ h => State.clkoutLow_closed H.closed h
  clear_value w
  have h2 : Q w t := H.any rfl rfl rfl rfl fun h => Sparse.wf_filter (d := memDefault) _ h
  clear_value t
  with_reducible apply State.bootEnter_wide H
  with_reducible apply State.put_closed H.closed
  exact H.trans h1 h2

theorem State.offReset_wide (H : Wide Q) {s0 s : State} (h0 : Q s0 s) {causes : Bool} : Q s0 (s.offReset causes) := by
  unfold State.offReset
  exact H.upd h0 rfl rfl rfl rfl fun w => Sparse.wf_filter _ w

theorem State.sleepEnter_wide (H : Wide Q) {s0 s : State} (h0 : Q s0 s)  :
    Q s0 (State.sleepEnter s) := by
  unfold State.sleepEnter
  try dsimp only
  repeat' first
    | intro _ | with_reducible assumption | with_reducible apply State.demote_closed H.closed
    | with_reducible apply State.diagAbort_closed H.closed | with_reducible apply State.egrClear_closed H.closed
    | with_reducible apply State.egrFlush_closed H.closed | with_reducible apply State.entityDeparting_closed H.closed
    | with_reducible apply State.follow_closed H.closed | with_reducible apply State.lanesSleep_closed H.closed
    | with_reducible apply State.pllmOff_closed H.closed | with_reducible apply State.pllsPower_closed H.closed
    | with_reducible apply State.railsEval_closed H.closed | with_reducible apply State.rejectAll_closed H.closed
    | with_reducible apply State.roleLeave_closed H.closed | fail_if_no_progress with_reducible apply H.closed.set
    | fail_if_no_progress with_reducible apply H.set | dsimp only

theorem State.wakeStart_wide (H : Wide Q) {s0 s : State} (h0 : Q s0 s) {src : Nat} {gp : Nat} {andThen : Nat} {cause : Nat} {bootsel : Nat} :
    Q s0 (State.wakeStart s src gp andThen cause bootsel) := by
  unfold State.wakeStart
  try dsimp only
  repeat' first
    | intro _ | with_reducible assumption | with_reducible apply State.put_closed H.closed
    | fail_if_no_progress with_reducible apply H.closed.set | fail_if_no_progress with_reducible apply H.set | dsimp only

theorem State.warmRequest_wide (H : Wide Q) {s0 s : State} (h0 : Q s0 s) {cause : Nat} {bootsel : Nat} :
    Q s0 (State.warmRequest s cause bootsel) := by
  unfold State.warmRequest
  try dsimp only
  repeat' first
    | intro _ | with_reducible assumption | with_reducible apply State.wakeStart_wide H
    | with_reducible apply State.warmReset_wide H | with_reducible apply State.stopRun_wide H | split
    | fail_if_no_progress with_reducible apply H.closed.set | fail_if_no_progress with_reducible apply H.set | dsimp only

theorem State.safeEnter_wide (H : Wide Q) {s0 s : State} (h0 : Q s0 s)  :
    Q s0 (State.safeEnter s) := by
  unfold State.safeEnter
  try dsimp only
  repeat' first
    | intro _ | with_reducible assumption | with_reducible apply State.diagAbort_closed H.closed
    | with_reducible apply State.enginesStop_closed H.closed | with_reducible apply State.entityDeparting_closed H.closed
    | with_reducible apply State.follow_closed H.closed | with_reducible apply State.railsEval_closed H.closed
    | with_reducible apply State.rejectAll_closed H.closed | with_reducible apply State.seatAbort_closed H.closed
    | with_reducible apply State.setRole_closed H.closed | with_reducible apply State.stopAll_closed H.closed
    | with_reducible apply State.svcPublish_closed H.closed | with_reducible apply State.svcStop_closed H.closed
    | with_reducible apply H.closed.ite | with_reducible apply H.closed.when | split
    | fail_if_no_progress with_reducible apply H.closed.set | fail_if_no_progress with_reducible apply H.set | dsimp only

theorem State.bootHold_wide (H : Wide Q) {s0 s : State} (h0 : Q s0 s) {b : Bad} {us : Nat} :
    Q s0 (State.bootHold s b us) := by
  unfold State.bootHold
  try dsimp only
  repeat' first
    | intro _ | with_reducible assumption | with_reducible apply State.heldEnter_wide H
    | with_reducible apply State.bootEnd_closed H.closed | with_reducible apply State.holdReason_closed H.closed
    | with_reducible apply State.raise_closed H.closed | fail_if_no_progress with_reducible apply H.set | dsimp only

theorem State.bootFail_wide (H : Wide Q) {s0 s : State} (h0 : Q s0 s) {b : Bad} :
    Q s0 (State.bootFail s b) := by
  unfold State.bootFail
  try dsimp only
  repeat' first
    | intro _ | with_reducible assumption | with_reducible apply State.bootHold_wide H
    | with_reducible apply State.draw_closed H.closed | fail_if_no_progress with_reducible apply H.set | dsimp only

theorem State.bootFailEarly_wide (H : Wide Q) {s0 s : State} (h0 : Q s0 s) {b : Bad} :
    Q s0 (State.bootFailEarly s b) := by
  unfold State.bootFailEarly
  try dsimp only
  repeat' first
    | intro _ | with_reducible assumption | with_reducible apply State.bootFail_wide H
    | with_reducible apply State.protFallback_closed H.closed | fail_if_no_progress with_reducible apply H.set | dsimp only

theorem State.imageTaken_wide (H : Wide Q) {s0 s t : State} (h0 : Q s0 t) {cut : Cut} {a : Nat} {dev : Dev} {op : HostOp} :
    Q s0 (s.imageTaken t cut a dev op) := by
  unfold State.imageTaken
  exact State.seatRest_closed H.closed (State.follow_closed H.closed (State.imgCommit_closed H.closed (H.set
    (State.holdReason_closed H.closed (State.imgInfo_closed H.closed h0)))))

theorem State.loadFail_wide (H : Wide Q) {s0 s : State} (h0 : Q s0 s) {b : Bad} :
    Q s0 (State.loadFail s b) := by
  unfold State.loadFail
  try dsimp only
  repeat' first
    | intro _ | with_reducible assumption | with_reducible apply State.heldEnter_wide H
    | with_reducible apply State.holdReason_closed H.closed | with_reducible apply State.raise_closed H.closed
    | fail_if_no_progress with_reducible apply H.closed.set | fail_if_no_progress with_reducible apply H.set | dsimp only

theorem State.startNow_wide (H : Wide Q) {s0 s : State} (h0 : Q s0 s)  :
    Q s0 (State.startNow s) := by
  unfold State.startNow
  try dsimp only
  repeat' first
    | intro _ | with_reducible assumption | with_reducible apply State.runEnter_wide H | with_reducible apply H.closed.ite
    | split | fail_if_no_progress with_reducible apply H.set | dsimp only

theorem State.boundaryCommits_wide (H : Wide Q) {s0 s : State} (h0 : Q s0 s)  :
    Q s0 (State.boundaryCommits s) := by
  unfold State.boundaryCommits
  try dsimp only
  repeat' first
    | intro _ | with_reducible assumption | with_reducible apply State.safeEnter_wide H
    | with_reducible apply State.takeCommits_closed H.closed | with_reducible apply State.takeResults_closed H.closed
    | fail_if_no_progress with_reducible apply H.set | dsimp only

theorem State.boundaryChanges_wide (H : Wide Q) {s0 s : State} (h0 : Q s0 s) {refs : List RefMeas} :
    Q s0 (State.boundaryChanges s refs) := by
  unfold State.boundaryChanges
  try dsimp only
  repeat' first
    | intro _ | with_reducible assumption | with_reducible apply State.boundaryCommits_wide H
    | with_reducible apply State.startNow_wide H | with_reducible apply State.braceTick_closed H.closed
    | with_reducible apply State.passIfDue_closed H.closed | with_reducible apply State.pllmTick_closed H.closed
    | with_reducible apply State.plumbTick_closed H.closed | with_reducible apply State.restamp_closed H.closed
    | with_reducible apply H.closed.when | fail_if_no_progress with_reducible apply H.set | dsimp only

theorem execStart_wide (H : Wide Q) {s t : State} {who : Initiator}
    (h : execStart who s = .next t) : Q s t := by
  have h0 := H.refl s
  unfold execStart at h
  injection h with h
  subst h
  try dsimp only
  repeat' first
    | intro _ | with_reducible assumption | with_reducible apply State.command_closed H.closed
    | with_reducible apply State.hostErr_closed H.closed | with_reducible apply H.closed.ite | split
    | fail_if_no_progress with_reducible apply H.closed.set | fail_if_no_progress with_reducible apply H.set | dsimp only

theorem execStartValidationDone_wide (H : Wide Q) {s t : State} 
    (h : execStartValidationDone s = .next t) : Q s t := by
  have h0 := H.refl s
  unfold execStartValidationDone at h
  injection h with h
  subst h
  try dsimp only
  repeat' first
    | intro _ | with_reducible assumption | with_reducible apply State.holdReason_closed H.closed
    | with_reducible apply State.raise_closed H.closed | with_reducible apply H.closed.ite | split
    | fail_if_no_progress with_reducible apply H.closed.set | fail_if_no_progress with_reducible apply H.set | dsimp only

theorem execStop_wide (H : Wide Q) {s t : State} {who : Initiator}
    (h : execStop who s = .next t) : Q s t := by
  have h0 := H.refl s
  unfold execStop at h
  injection h with h
  subst h
  try dsimp only
  repeat' first
    | intro _ | with_reducible assumption | with_reducible apply State.command_closed H.closed
    | with_reducible apply State.hostErr_closed H.closed | with_reducible apply State.stopRun_wide H
    | with_reducible apply H.closed.ite | split | fail_if_no_progress with_reducible apply H.closed.set
    | fail_if_no_progress with_reducible apply H.set | dsimp only

theorem execPorstNLow_wide (H : Wide Q) {s t : State} {powerRemoved : Bool}
    (h : execPorstNLow powerRemoved s = .next t) : Q s t := by
  have h0 := H.refl s
  unfold execPorstNLow at h
  injection h with h
  subst h
  try dsimp only
  repeat' first
    | intro _ | with_reducible assumption | with_reducible apply State.put_closed H.closed
    | with_reducible apply State.offReset_wide H | with_reducible apply H.closed.ite | split
    | fail_if_no_progress with_reducible apply H.closed.set | fail_if_no_progress with_reducible apply H.set | dsimp only

theorem execPorstNRise_wide (H : Wide Q) {s t : State} {bootsel : Fin 4} {iob33 : Bool}
    (h : execPorstNRise bootsel iob33 s = .next t) : Q s t := by
  have h0 := H.refl s
  unfold execPorstNRise at h
  injection h with h
  subst h
  try dsimp only
  repeat' first
    | intro _ | with_reducible assumption | with_reducible apply State.put_closed H.closed
    | with_reducible apply State.bootEnter_wide H | with_reducible apply H.closed.ite | split
    | fail_if_no_progress with_reducible apply H.closed.set | fail_if_no_progress with_reducible apply H.set | dsimp only

theorem execVddCoreReset_wide (H : Wide Q) {s t : State} 
    (h : execVddCoreReset s = .next t) : Q s t := by
  have h0 := H.refl s
  unfold execVddCoreReset at h
  injection h with h
  subst h
  try dsimp only
  repeat' first
    | intro _ | with_reducible assumption | with_reducible apply State.put_closed H.closed
    | with_reducible apply State.offReset_wide H | with_reducible apply H.closed.ite | split
    | fail_if_no_progress with_reducible apply H.closed.set | fail_if_no_progress with_reducible apply H.set | dsimp only

theorem execVddCoreResetClear_wide (H : Wide Q) {s t : State} {bootsel : Fin 4}
    (h : execVddCoreResetClear bootsel s = .next t) : Q s t := by
  have h0 := H.refl s
  unfold execVddCoreResetClear at h
  injection h with h
  subst h
  try dsimp only
  repeat' first
    | intro _ | with_reducible assumption | with_reducible apply State.bootEnter_wide H | with_reducible apply H.closed.ite
    | split | fail_if_no_progress with_reducible apply H.closed.set | fail_if_no_progress with_reducible apply H.set
    | dsimp only

theorem execSleep_wide (H : Wide Q) {s t : State} {who : Initiator}
    (h : execSleep who s = .next t) : Q s t := by
  have h0 := H.refl s
  unfold execSleep at h
  injection h with h
  subst h
  try dsimp only
  repeat' first
    | intro _ | with_reducible assumption | with_reducible apply State.command_closed H.closed
    | with_reducible apply State.hostErr_closed H.closed | with_reducible apply State.stopRun_wide H
    | with_reducible apply State.sleepEnter_wide H | with_reducible apply H.closed.ite | split
    | fail_if_no_progress with_reducible apply H.set | dsimp only

theorem execWrstNPulse_wide (H : Wide Q) {s t : State} {bootsel : Fin 4}
    (h : execWrstNPulse bootsel s = .next t) : Q s t := by
  have h0 := H.refl s
  unfold execWrstNPulse at h
  injection h with h
  subst h
  try dsimp only
  repeat' first
    | intro _ | with_reducible assumption | with_reducible apply State.warmRequest_wide H | with_reducible apply H.closed.ite
    | split | fail_if_no_progress with_reducible apply H.set | dsimp only

theorem execWreset_wide (H : Wide Q) {s t : State} {who : Initiator} {bootsel : Fin 4}
    (h : execWreset who bootsel s = .next t) : Q s t := by
  have h0 := H.refl s
  unfold execWreset at h
  injection h with h
  subst h
  try dsimp only
  repeat' first
    | intro _ | with_reducible assumption | with_reducible apply State.command_closed H.closed
    | with_reducible apply State.warmRequest_wide H | fail_if_no_progress with_reducible apply H.set | dsimp only

theorem execSelfReset_wide (H : Wide Q) {s t : State} {bootsel : Fin 4}
    (h : execSelfReset bootsel s = .next t) : Q s t := by
  have h0 := H.refl s
  unfold execSelfReset at h
  injection h with h
  subst h
  try dsimp only
  repeat' first
    | intro _ | with_reducible assumption | with_reducible apply State.warmReset_wide H | with_reducible apply H.closed.ite
    | split | fail_if_no_progress with_reducible apply H.set | dsimp only

theorem execAutoWarmReset_wide (H : Wide Q) {s t : State} {bootsel : Fin 4}
    (h : execAutoWarmReset bootsel s = .next t) : Q s t := by
  have h0 := H.refl s
  unfold execAutoWarmReset at h
  injection h with h
  subst h
  try dsimp only
  repeat' first
    | intro _ | with_reducible assumption | with_reducible apply State.warmReset_wide H | with_reducible apply H.closed.ite
    | split | fail_if_no_progress with_reducible apply H.set | dsimp only

theorem execStopDone_wide (H : Wide Q) {s t : State} 
    (h : execStopDone s = .next t) : Q s t := by
  have h0 := H.refl s
  unfold execStopDone at h
  injection h with h
  subst h
  try dsimp only
  repeat' first
    | intro _ | with_reducible assumption | with_reducible apply State.readyEnter_wide H
    | with_reducible apply State.warmReset_wide H | with_reducible apply State.sleepEnter_wide H
    | with_reducible apply H.closed.ite | split | fail_if_no_progress with_reducible apply H.closed.set
    | fail_if_no_progress with_reducible apply H.set | dsimp only

theorem execWakeFilterMatch_wide (H : Wide Q) {s t : State} {port : Fin 8} {frame : FrameIn}
    (h : execWakeFilterMatch port frame s = .next t) : Q s t := by
  have h0 := H.refl s
  unfold execWakeFilterMatch at h
  injection h with h
  subst h
  try dsimp only
  repeat' first
    | intro _ | with_reducible assumption | with_reducible apply State.put_closed H.closed
    | with_reducible apply State.putBit_closed H.closed | with_reducible apply State.raise_closed H.closed
    | with_reducible apply State.wakeStart_wide H | with_reducible apply H.closed.ite | with_reducible apply H.closed.foldl
    | with_reducible apply H.closed.foldl_on (fun b : _ × State => b.2)
    | with_reducible apply H.closed.foldl_on (fun b : State × _ => b.1)
    | with_reducible apply H.closed.foldl_on (fun b : _ × _ × State => b.2.2)
    | with_reducible apply H.closed.foldl_on (fun b : _ × _ × _ × State => b.2.2.2) | split
    | fail_if_no_progress with_reducible apply H.closed.set | fail_if_no_progress with_reducible apply H.set | dsimp only

theorem execGpWake_wide (H : Wide Q) {s t : State} {pin : Fin 16} {level : Bool}
    (h : execGpWake pin level s = .next t) : Q s t := by
  have h0 := H.refl s
  unfold execGpWake at h
  injection h with h
  subst h
  try dsimp only
  repeat' first
    | intro _ | with_reducible assumption | with_reducible apply State.wakeStart_wide H | with_reducible apply H.closed.ite
    | split | fail_if_no_progress with_reducible apply H.set | dsimp only

theorem execQspiWake_wide (H : Wide Q) {s t : State} 
    (h : execQspiWake s = .next t) : Q s t := by
  have h0 := H.refl s
  unfold execQspiWake at h
  injection h with h
  subst h
  try dsimp only
  repeat' first
    | intro _ | with_reducible assumption | with_reducible apply State.wakeStart_wide H | with_reducible apply H.closed.ite
    | split | fail_if_no_progress with_reducible apply H.set | dsimp only

theorem execWakeDone_wide (H : Wide Q) {s t : State} 
    (h : execWakeDone s = .next t) : Q s t := by
  have h0 := H.refl s
  unfold execWakeDone at h
  injection h with h
  subst h
  try dsimp only
  repeat' first
    | intro _ | with_reducible assumption | with_reducible apply State.follow_closed H.closed
    | with_reducible apply State.netStart_closed H.closed | with_reducible apply State.pllmAcquire_closed H.closed
    | with_reducible apply State.plumbStart_closed H.closed | with_reducible apply State.warmReset_wide H
    | with_reducible apply H.closed.ite | split | fail_if_no_progress with_reducible apply H.closed.set
    | fail_if_no_progress with_reducible apply H.set | dsimp only

theorem execBootRomStart_wide (H : Wide Q) {s t : State} {flashOk : Bool}
    (h : execBootRomStart flashOk s = .next t) : Q s t := by
  have h0 := H.refl s
  unfold execBootRomStart at h
  injection h with h
  subst h
  try dsimp only
  repeat' first
    | intro _ | with_reducible assumption | with_reducible apply State.headerTake_closed H.closed
    | with_reducible apply State.bootFailEarly_wide H | with_reducible apply H.closed.ite | split
    | fail_if_no_progress with_reducible apply H.set | dsimp only

theorem execFirmwareLoaded_wide (H : Wide Q) {s t : State} {flashOk : Bool}
    (h : execFirmwareLoaded flashOk s = .next t) : Q s t := by
  have h0 := H.refl s
  unfold execFirmwareLoaded at h
  injection h with h
  subst h
  try dsimp only
  repeat' first
    | intro _ | with_reducible assumption | with_reducible apply State.protLoad_closed H.closed
    | with_reducible apply State.bootFailEarly_wide H | with_reducible apply H.closed.ite | split
    | fail_if_no_progress with_reducible apply H.closed.set | fail_if_no_progress with_reducible apply H.set | dsimp only

theorem execImageReadDone_wide (H : Wide Q) {s t : State} {flashOk : Bool}
    (h : execImageReadDone flashOk s = .next t) : Q s t := by
  have h0 := H.refl s
  unfold execImageReadDone at h
  injection h with h
  subst h
  try dsimp only
  repeat' first
    | intro _ | with_reducible assumption | with_reducible apply State.bootFail_wide H | with_reducible apply H.closed.ite
    | split | fail_if_no_progress with_reducible apply H.closed.set | fail_if_no_progress with_reducible apply H.set
    | dsimp only

theorem execLoad_wide (H : Wide Q) {s t : State} {who : Initiator}
    (h : execLoad who s = .next t) : Q s t := by
  have h0 := H.refl s
  unfold execLoad at h
  injection h with h
  subst h
  try dsimp only
  repeat' first
    | intro _ | with_reducible assumption | with_reducible apply State.command_closed H.closed
    | with_reducible apply State.egrClear_closed H.closed | with_reducible apply State.hostErr_closed H.closed
    | with_reducible apply H.closed.ite | split | fail_if_no_progress with_reducible apply H.closed.set
    | fail_if_no_progress with_reducible apply H.set | dsimp only

theorem execFlashReadTimeout_wide (H : Wide Q) {s t : State} {read : FlashRead}
    (h : execFlashReadTimeout read s = .next t) : Q s t := by
  have h0 := H.refl s
  unfold execFlashReadTimeout at h
  injection h with h
  subst h
  try dsimp only
  repeat' first
    | intro _ | with_reducible assumption | with_reducible apply State.flashErr_closed H.closed
    | with_reducible apply State.raise_closed H.closed | with_reducible apply State.bootFail_wide H
    | with_reducible apply State.bootFailEarly_wide H | with_reducible apply State.loadFail_wide H
    | with_reducible apply H.closed.ite | split | fail_if_no_progress with_reducible apply H.closed.set
    | fail_if_no_progress with_reducible apply H.set | dsimp only

theorem execCommitTakeEffect_wide (H : Wide Q) {s t : State} 
    (h : execCommitTakeEffect s = .next t) : Q s t := by
  have h0 := H.refl s
  unfold execCommitTakeEffect at h
  injection h with h
  subst h
  try dsimp only
  repeat' first
    | intro _ | with_reducible assumption | with_reducible apply State.boundaryPart_closed H.closed
    | with_reducible apply State.boundaryCommits_wide H | fail_if_no_progress with_reducible apply H.set | dsimp only

theorem execSafeEntry_wide (H : Wide Q) {s t : State} 
    (h : execSafeEntry s = .next t) : Q s t := by
  have h0 := H.refl s
  unfold execSafeEntry at h
  injection h with h
  subst h
  try dsimp only
  repeat' first
    | intro _ | with_reducible assumption | with_reducible apply State.boundaryPart_closed H.closed
    | with_reducible apply State.safeEnter_wide H | fail_if_no_progress with_reducible apply H.set | dsimp only

/-- What an action bit of a register write starts. -/
theorem State.scAction_wide (H : Wide Q) {s0 s : State} (h0 : Q s0 s) {who : Initiator} {p v : Nat} {f : Fld} :
    Q s0 (s.scAction who p v f) := by
  have ha {x : Ans} (hx : ∀ t, x = .next t → Q s t) : Q s0 (after x s) := by
    unfold after
    split
    · exact H.trans h0 (hx _ rfl)
    · exact h0
    · exact h0
  unfold State.scAction
  repeat' first
    | with_reducible assumption | with_reducible exact ha fun _ h => execReepoch_closed H.closed h
    | with_reducible exact ha fun _ h => execGroupCommit_closed H.closed h
    | with_reducible exact ha fun _ h => execClkoutAlign_closed H.closed h
    | with_reducible exact ha fun _ h => execPllmCal_closed H.closed h
    | with_reducible exact ha fun _ h => execXpmCopy_closed H.closed h
    | with_reducible exact ha fun _ h => execDpoolRepack_closed H.closed h
    | with_reducible exact ha fun _ h => execPchClear_closed H.closed h
    | with_reducible exact ha fun _ h => execBstClear_closed H.closed h
    | with_reducible exact ha fun _ h => execSwap_closed H.closed h | with_reducible exact ha fun _ h => execStart_wide H h
    | with_reducible exact ha fun _ h => execStop_wide H h | with_reducible exact ha fun _ h => execLoad_wide H h
    | with_reducible exact ha fun _ h => execSleep_wide H h | with_reducible apply State.clearCounters_closed H.closed
    | with_reducible apply State.warmRequest_wide H | with_reducible apply State.draw_closed H.closed
    | with_reducible apply State.mdioStart_closed H.closed | with_reducible apply State.fdbStart_closed H.closed
    | with_reducible apply State.diagGo_closed H.closed | with_reducible apply State.otpStart_closed H.closed
    | with_reducible apply State.flashStart_closed H.closed | with_reducible apply H.closed.ite | dsimp only

theorem State.presets_closed (H : Closed Q) {s0 s t : State} (h0 : Q s0 s) {a i n : Nat} (h : s.presets a i n = .ok t) : Q s0 t := by
  induction n generalizing s i with
  | zero =>
    unfold State.presets at h
    injection h with h
    exact h ▸ h0
  | succ n ih =>
    unfold State.presets at h
    dsimp only at h
    split at h
    · exact ih (State.presetWrite_closed H h0) h
    · cases h

theorem State.imgShadow_closed (H : Closed Q) {s0 s t : State} (h0 : Q s0 s) {a : Nat} {cut : Cut} (h : s.imgShadow a = .ok (t, cut)) :
    Q s0 t := by
  unfold State.imgShadow at h
  dsimp only at h
  split at h
  · cases h
  · split at h
    · cases h
    · rename_i u hp
      split at h
      · cases h
      · injection h with h
        injection h with h _
        subst h
        exact H.set (State.streamWords_closed H (State.tableWords_closed H (State.presets_closed H (State.shadowReset_closed H h0) hp)))

theorem State.imgCheck_closed (H : Closed Q) {s0 s t : State} (h0 : Q s0 s) {a : Nat} {cut : Cut} (h : s.imgCheck a = .ok (t, cut)) :
    Q s0 t := by
  unfold State.imgCheck at h
  split at h
  · cases h
  · rename_i u cut' hs
    dsimp only at h
    split at h
    · cases h
    · split at h
      · cases h
      · split at h
        · cases h
        · injection h with h
          injection h with h _
          subst h
          exact State.imgShadow_closed H h0 hs

theorem State.loadCheck_closed (H : Closed Q) {s0 s t : State} (h0 : Q s0 s) {a len : Nat} {ok : Bool} {cut : Cut}
    (h : s.loadCheck a len ok = .ok (t, cut)) : Q s0 t := by
  unfold State.loadCheck at h
  repeat' split at h
  all_goals first | (cases h; done) | exact State.imgCheck_closed H h0 h

theorem execImageValidationDone_wide (H : Wide Q) {s t : State} {us : Nat}
    (h : execImageValidationDone us s = .next t) : Q s t := by
  have h0 := H.refl s
  unfold execImageValidationDone at h
  injection h with h
  subst h
  try dsimp only
  repeat' first
    | intro _ | with_reducible assumption | with_reducible apply State.bootEnd_closed H.closed
    | with_reducible apply State.pllmUngate_closed H.closed | with_reducible apply State.bootHold_wide H
    | with_reducible apply State.imageTaken_wide H | with_reducible apply H.closed.ite | split
    | fail_if_no_progress with_reducible apply H.closed.set | fail_if_no_progress with_reducible apply H.set
    | exact State.imgCheck_closed H.closed h0 (by assumption) | exact State.loadCheck_closed H.closed h0 (by assumption)
    | dsimp only

theorem execLoadValidationDone_wide (H : Wide Q) {s t : State} {flashOk : Bool}
    (h : execLoadValidationDone flashOk s = .next t) : Q s t := by
  have h0 := H.refl s
  unfold execLoadValidationDone at h
  injection h with h
  subst h
  try dsimp only
  repeat' first
    | intro _ | with_reducible assumption | with_reducible apply State.put_closed H.closed
    | with_reducible apply State.raise_closed H.closed | with_reducible apply State.imageTaken_wide H
    | with_reducible apply State.loadFail_wide H | split | fail_if_no_progress with_reducible apply H.closed.set
    | fail_if_no_progress with_reducible apply H.set | exact State.imgCheck_closed H.closed h0 (by assumption)
    | exact State.loadCheck_closed H.closed h0 (by assumption) | dsimp only

theorem State.regStore_wide (H : Wide Q) {s0 s : State} (h0 : Q s0 s) {who : Initiator} {a : Nat} {v : Nat} :
    Q s0 (State.regStore s who a v) := by
  unfold State.regStore
  try dsimp only
  repeat' first
    | intro _ | with_reducible assumption | with_reducible apply State.scAction_wide H
    | with_reducible apply State.armPage_closed H.closed | with_reducible apply State.avdCtrlWritten_closed H.closed
    | with_reducible apply State.baselineWrite_closed H.closed | with_reducible apply State.fenceStart_closed H.closed
    | with_reducible apply State.htxTail_closed H.closed | with_reducible apply State.mirrorWrite_closed H.closed
    | with_reducible apply State.regWrite_closed H.closed | with_reducible apply State.srst_closed H.closed
    | with_reducible apply H.closed.ite | with_reducible apply H.closed.when | with_reducible apply H.closed.foldl
    | with_reducible apply H.closed.foldl_on (fun b : _ × State => b.2)
    | with_reducible apply H.closed.foldl_on (fun b : State × _ => b.1)
    | with_reducible apply H.closed.foldl_on (fun b : _ × _ × State => b.2.2)
    | with_reducible apply H.closed.foldl_on (fun b : _ × _ × _ × State => b.2.2.2) | split
    | fail_if_no_progress with_reducible apply H.set | dsimp only

theorem State.writeWord_wide (H : Wide Q) {s0 s : State} (h0 : Q s0 s) {who : Initiator} {a : Nat} {v : Nat} :
    Q s0 (State.writeWord s who a v) := by
  unfold State.writeWord
  try dsimp only
  repeat' first
    | intro _ | with_reducible assumption | with_reducible apply State.regStore_wide H
    | with_reducible apply State.command_closed H.closed | with_reducible apply State.memStore_closed H.closed
    | with_reducible apply H.closed.ite | split | fail_if_no_progress with_reducible apply H.set | dsimp only

theorem State.writeWords_wide (H : Wide Q) {s0 s : State} (h0 : Q s0 s) {who : Initiator} {a k : Nat} {l : List Word} :
    Q s0 (s.writeWords who a k l) := by
  induction l generalizing s k with
  | nil => exact h0
  | cons x l ih => exact ih (State.writeWord_wide H h0)

theorem State.qspiWrite_wide (H : Wide Q) {s0 s : State} (h0 : Q s0 s) {code : Nat} {tx : QspiTx} :
    Q s0 (State.qspiWrite s code tx) := by
  unfold State.qspiWrite
  try dsimp only
  repeat' first
    | intro _ | with_reducible assumption | with_reducible apply State.writeWords_wide H
    | with_reducible apply State.qspiCut_closed H.closed | with_reducible apply State.qspiReject_closed H.closed
    | with_reducible apply H.closed.ite | split | fail_if_no_progress with_reducible apply H.set | dsimp only

theorem execRegisterWrite_wide (H : Wide Q) {s t : State} {who : Initiator} {addr : Word} {data : Word}
    (h : execRegisterWrite who addr data s = .next t) : Q s t := by
  have h0 := H.refl s
  unfold execRegisterWrite at h
  injection h with h
  subst h
  try dsimp only
  repeat' first
    | intro _ | with_reducible assumption | with_reducible apply State.writeWord_wide H
    | fail_if_no_progress with_reducible apply H.set | dsimp only

theorem execOcdorWrite_wide (H : Wide Q) {s t : State} {f : OcdorFrame}
    (h : execOcdorWrite f s = .next t) : Q s t := by
  have h0 := H.refl s
  unfold execOcdorWrite at h
  injection h with h
  subst h
  try dsimp only
  repeat' first
    | intro _ | with_reducible assumption | with_reducible apply State.ocdor_closed H.closed
    | with_reducible apply State.ocdorAnswer_closed H.closed | with_reducible apply State.writeWords_wide H
    | fail_if_no_progress with_reducible apply H.set | dsimp only

theorem execQspiQwrite_wide (H : Wide Q) {s t : State} {tx : QspiTx}
    (h : execQspiQwrite tx s = .next t) : Q s t := by
  have h0 := H.refl s
  unfold execQspiQwrite at h
  injection h with h
  subst h
  try dsimp only
  repeat' first
    | intro _ | with_reducible assumption | with_reducible apply State.qspiWrite_wide H
    | fail_if_no_progress with_reducible apply H.set | dsimp only

theorem execQspiWrite_wide (H : Wide Q) {s t : State} {tx : QspiTx}
    (h : execQspiWrite tx s = .next t) : Q s t := by
  have h0 := H.refl s
  unfold execQspiWrite at h
  injection h with h
  subst h
  try dsimp only
  repeat' first
    | intro _ | with_reducible assumption | with_reducible apply State.qspiWrite_wide H
    | fail_if_no_progress with_reducible apply H.set | dsimp only

/-- The tick that begins. -/
theorem State.tickBegin_wide (H : Wide Q) (ht : ∀ (s : State) n, Q s { s with tg := n }) {s0 s : State} (h0 : Q s0 s) {meas : List Meas} :
    Q s0 (s.tickBegin meas) := by
  have h1 : Q s0 { s with tg := s.tg + 1 } := H.trans h0 (ht s _)
  have h2 := H.closed.set h1 (tickNum := (s.tickNum + 1) % 2 ^ 48) (win := .overhead) (logged := s.logged.filter (fun r => r.2 == s.tg + 1))
    (role := s.role) (regs := s.regs) (shadow := s.shadow)
    (latch := s.latch) (queue := s.queue) (repack := s.repack) (porst := s.porst) (coreLow := s.coreLow) (raw := s.raw)
    (net := s.net) (ptp := s.ptp) (str := s.str) (plumb := s.plumb) (plls := s.plls) (host := s.host) (boot := s.boot)
    (serial := s.serial) (zeroTick := s.zeroTick) (peerEpoch := s.peerEpoch) (power := s.power) (diag := s.diag)
    (brace := { s.brace with clips := s.brace.clipsTo, clipsTo := [], mine := [] }) (mix := s.mix) (je := s.je) (clips := s.clips) (svc := s.svc) (free := s.free)
  exact State.rxIdleTick_closed H.closed (H.closed.foldl (State.egressAll_closed H.closed (State.hostPoll_closed H.closed
    (State.expireRaw_closed H.closed h2)))
    fun _ _ h => State.measure_closed H.closed h)

/-- TICK_BOUNDARY, for a relation that does not speak of the ticks run. -/
theorem execTickBoundary_wide (H : Wide Q) (ht : ∀ (s : State) n, Q s { s with tg := n }) {s t : State} {refs : List RefMeas}
    {meas : List Meas} (h : execTickBoundary refs meas s = .next t) : Q s t := by
  unfold execTickBoundary at h
  injection h with h
  subst h
  split
  · exact State.tickWork_closed H.closed (State.boundaryChanges_wide H (State.tickBegin_wide H ht (State.deadline_closed H.closed (H.refl s))))
  · split
    · exact State.plumbTick_closed H.closed (ht s _)
    · exact H.refl s

end Sys2Proof.Machine
end

