-- ==== Sys2Proof/Laws/Reg.lean ====
section
/-! SUPPORT. Reading a register field after a field is written, a counter counts, bytes are stored or an event is raised. -/

namespace Sys2Proof.Machine

/-! ### Keys -/

theorem Fld.key_eq_iff (f g : Fld) (i j i' j' : Nat) :
    f.key i j = g.key i' j' ↔ f.base = g.base ∧ i % 65536 = i' % 65536 ∧ j % 65536 = j' % 65536 := by
  unfold Fld.key Fld.base
  have h₁ := Nat.mod_lt i (show 0 < 65536 by decide)
  have h₂ := Nat.mod_lt j (show 0 < 65536 by decide)
  have h₃ := Nat.mod_lt i' (show 0 < 65536 by decide)
  have h₄ := Nat.mod_lt j' (show 0 < 65536 by decide)
  constructor
  · intro h
    omega
  · rintro ⟨h, hi, hj⟩
    rw [h, hi, hj]

theorem Fld.key_ne_of_base {f g : Fld} (h : f.base ≠ g.base) (i j i' j' : Nat) : f.key i j ≠ g.key i' j' :=
  fun e => h ((Fld.key_eq_iff f g i j i' j').1 e).1

theorem Fld.key_ne_of_inst {f : Fld} {i i' : Nat} (h : i % 65536 ≠ i' % 65536) (j j' : Nat) : f.key i j ≠ f.key i' j' :=
  fun e => h ((Fld.key_eq_iff f f i j i' j').1 e).2.1

/-! ### put -/

@[simp] theorem State.get_put_same (s : State) (f : Fld) (v i j : Nat) : (s.put f v i j).get f i j = v % 2 ^ f.width := by
  simp [State.get, State.put]

theorem State.get_put_key (s : State) {f g : Fld} {i j i' j' : Nat} (v : Nat) (h : f.key i j ≠ g.key i' j') :
    (s.put f v i j).get g i' j' = s.get g i' j' := by
  simp [State.get, State.put, Sparse.get_put_ne _ _ _ _ h]

/-- A field other than the one written. -/
theorem State.get_put_ne (s : State) {f g : Fld} (v i j i' j' : Nat) (h : f.base ≠ g.base) :
    (s.put f v i j).get g i' j' = s.get g i' j' :=
  s.get_put_key v (Fld.key_ne_of_base h i j i' j')

/-- Another instance of the field written. -/
theorem State.get_put_inst (s : State) {f : Fld} {i i' : Nat} (v j j' : Nat) (h : i % 65536 ≠ i' % 65536) :
    (s.put f v i j).get f i' j' = s.get f i' j' :=
  s.get_put_key v (Fld.key_ne_of_inst h j j')

theorem State.flag_put_same (s : State) (f : Fld) (v i j : Nat) : (s.put f v i j).flag f i j = (v % 2 ^ f.width == 1) := by
  simp [State.flag]

theorem State.flag_put_ne (s : State) {f g : Fld} (v i j i' j' : Nat) (h : f.base ≠ g.base) :
    (s.put f v i j).flag g i' j' = s.flag g i' j' := by
  simp [State.flag, s.get_put_ne v i j i' j' h]

theorem State.bit_put_ne (s : State) {f g : Fld} (v i j i' j' k : Nat) (h : f.base ≠ g.base) :
    (s.put f v i j).bit g k i' j' = s.bit g k i' j' := by
  simp [State.bit, s.get_put_ne v i j i' j' h]

theorem State.get_putI_ne (s : State) {f g : Fld} (x : Int) (i j i' j' : Nat) (h : f.base ≠ g.base) :
    (s.putI f x i j).get g i' j' = s.get g i' j' := s.get_put_ne _ i j i' j' h

theorem State.get_putBit_ne (s : State) {f g : Fld} (k : Nat) (b : Bool) (i j i' j' : Nat) (h : f.base ≠ g.base) :
    (s.putBit f k b i j).get g i' j' = s.get g i' j' := s.get_put_ne _ i j i' j' h

/-- A number in range is its two's complement read back. -/
theorem signedOf_toTwos (w : Nat) (x : Int) (h₁ : -((2 ^ w : Nat) : Int) ≤ 2 * x) (h₂ : 2 * x < ((2 ^ w : Nat) : Int)) :
    signedOf w (toTwos w x % 2 ^ w) = x := by
  have hp : 0 < 2 ^ w := Nat.two_pow_pos w
  generalize hP : 2 ^ w = P at *
  have hm : toTwos w x = (x % (P : Int)).toNat := by unfold toTwos; rw [hP]
  have h0 : 0 ≤ x % (P : Int) := Int.emod_nonneg _ (by omega)
  have h3 : x % (P : Int) < P := Int.emod_lt_of_pos _ (by omega)
  unfold signedOf
  rw [hm, hP]
  have hlt : (x % (P : Int)).toNat < P := by omega
  rw [Nat.mod_eq_of_lt hlt]
  by_cases hx : 0 ≤ x
  · have : x % (P : Int) = x := Int.emod_eq_of_lt hx (by omega)
    rw [this]
    split <;> omega
  · have : x % (P : Int) = x + P := by
      rw [← Int.add_emod_right, Int.emod_eq_of_lt] <;> omega
    rw [this]
    split <;> omega

theorem satTo_range (w : Nat) (x : Int) (hw : 0 < w) :
    -((2 ^ w : Nat) : Int) ≤ 2 * satTo w x ∧ 2 * satTo w x < ((2 ^ w : Nat) : Int) := by
  obtain ⟨n, rfl⟩ : ∃ n, w = n + 1 := ⟨w - 1, by omega⟩
  have hp : 0 < 2 ^ n := Nat.two_pow_pos n
  unfold satTo
  simp only [Nat.add_sub_cancel, Nat.pow_succ]
  generalize 2 ^ n = P at *
  split
  · push_cast; omega
  · split
    · push_cast; omega
    · push_cast; omega

/-- A signed field reads back what was written, saturated to its range. -/
theorem State.getI_putI_same (s : State) (f : Fld) (x : Int) (i j : Nat) : (s.putI f x i j).getI f i j = satTo f.width x := by
  have hw : 0 < f.width := by unfold Fld.width; omega
  have h := satTo_range f.width x hw
  simp only [State.getI, State.putI, State.get_put_same]
  exact signedOf_toTwos f.width _ h.1 h.2

theorem State.getI_put_ne (s : State) {f g : Fld} (v i j i' j' : Nat) (h : f.base ≠ g.base) :
    (s.put f v i j).getI g i' j' = s.getI g i' j' := by
  simp [State.getI, s.get_put_ne v i j i' j' h]

/-! ### Single bits -/

theorem bitAt_eq_testBit (v k : Nat) : bitAt v k = v.testBit k := by
  rw [Nat.testBit_eq_decide_div_mod_eq]
  rfl

theorem bitAt_setBit_same (v k : Nat) (b : Bool) : bitAt (setBit v k b) k = b := by
  have hp : 0 < 2 ^ k := Nat.two_pow_pos k
  unfold setBit
  cases b
  · simp only [Bool.false_eq_true, ↓reduceIte]
    split
    · rename_i h
      simp only [bitAt, beq_iff_eq] at h
      simp only [bitAt, beq_eq_false_iff_ne]
      have hge : 2 ^ k ≤ v := by
        by_contra hlt
        rw [Nat.div_eq_of_lt (by omega)] at h
        omega
      have : (v - 2 ^ k) / 2 ^ k = v / 2 ^ k - 1 := by
        have := Nat.sub_mul_div v (2 ^ k) 1
        simpa using this
      rw [this]
      omega
    · rename_i h
      simpa using h
  · simp only [↓reduceIte]
    split
    · assumption
    · rename_i h
      simp only [bitAt, beq_iff_eq] at h ⊢
      rw [Nat.add_div_right _ hp]
      omega

theorem State.bit_putBit_same (s : State) (f : Fld) (k : Nat) (b : Bool) (i j : Nat) (h : k < f.width) :
    (s.putBit f k b i j).bit f k i j = b := by
  simp only [State.bit, State.putBit, State.get_put_same]
  rw [bitAt_eq_testBit, Nat.testBit_mod_two_pow, ← bitAt_eq_testBit, bitAt_setBit_same]
  simp [h]

/-! ### Counters (R480) -/

theorem State.get_bumpBy_same (s : State) (f : Fld) (n i j : Nat) (h : f.base ≠ R.PG_STATUS_SAT_SEEN.base) :
    (s.bumpBy f n i j).get f i j = min (s.get f i j + n) (2 ^ f.width - 1) := by
  have hp : 0 < 2 ^ f.width := Nat.two_pow_pos _
  unfold State.bumpBy
  split
  · rw [State.get_put_ne _ _ _ _ _ _ h.symm, State.get_put_same, Nat.mod_eq_of_lt (by omega)]
    omega
  · rw [State.get_put_same, Nat.mod_eq_of_lt (by omega)]
    omega

theorem State.get_bumpBy_ne (s : State) {f g : Fld} (n i j i' j' : Nat) (h : f.base ≠ g.base)
    (h' : R.PG_STATUS_SAT_SEEN.base ≠ g.base) : (s.bumpBy f n i j).get g i' j' = s.get g i' j' := by
  unfold State.bumpBy
  split
  · rw [State.get_put_ne _ _ _ _ _ _ h', State.get_put_ne _ _ _ _ _ _ h]
  · rw [State.get_put_ne _ _ _ _ _ _ h]

theorem State.get_bump_same (s : State) (f : Fld) (i j : Nat) (h : f.base ≠ R.PG_STATUS_SAT_SEEN.base) :
    (s.bump f i j).get f i j = min (s.get f i j + 1) (2 ^ f.width - 1) := s.get_bumpBy_same f 1 i j h

theorem State.get_bump_ne (s : State) {f g : Fld} (i j i' j' : Nat) (h : f.base ≠ g.base)
    (h' : R.PG_STATUS_SAT_SEEN.base ≠ g.base) : (s.bump f i j).get g i' j' = s.get g i' j' :=
  s.get_bumpBy_ne 1 i j i' j' h h'

/-- A counter changes registers and nothing else. -/
theorem State.bumpBy_eq (s : State) (f : Fld) (n i j : Nat) : s.bumpBy f n i j = { s with regs := (s.bumpBy f n i j).regs } := by
  unfold State.bumpBy
  split <;> rfl

/-! ### Memory -/

@[simp] theorem State.byte_setByte_same (s : State) (a : Nat) (b : BitVec 8) : (s.setByte a b).byte a = b := by
  simp [State.byte, State.setByte]

theorem State.byte_setByte_ne (s : State) {a a' : Nat} (b : BitVec 8) (h : a ≠ a') : (s.setByte a b).byte a' = s.byte a' := by
  simp [State.byte, State.setByte, Sparse.get_put_ne _ _ _ _ h]

/-- Bytes outside those stored read as before. -/
theorem State.byte_setBytes_out (s : State) (a : Nat) (bs : List (BitVec 8)) (x : Nat) (h : x < a ∨ a + bs.length ≤ x) :
    (s.setBytes a bs).byte x = s.byte x := by
  induction bs generalizing s a with
  | nil => rfl
  | cons b bs ih =>
    simp only [List.length_cons] at h
    show ((s.setByte a b).setBytes (a + 1) bs).byte x = _
    rw [ih _ _ (by omega), State.byte_setByte_ne _ _ (by omega)]

/-- A byte among those stored reads as stored. -/
theorem State.byte_setBytes_in (s : State) (a : Nat) (bs : List (BitVec 8)) (k : Nat) (h : k < bs.length) :
    (s.setBytes a bs).byte (a + k) = bs[k] := by
  induction bs generalizing s a k with
  | nil => simp at h
  | cons b bs ih =>
    show ((s.setByte a b).setBytes (a + 1) bs).byte (a + k) = _
    cases k with
    | zero => rw [State.byte_setBytes_out _ _ _ _ (by omega)]; simp
    | succ k =>
      have := ih (s.setByte a b) (a + 1) k (by simpa using h)
      rw [show a + (k + 1) = a + 1 + k by omega, this]
      rfl

theorem leBytes_length (n v : Nat) : (leBytes n v).length = n := by
  induction n generalizing v with
  | zero => rfl
  | succ n ih => simp [leBytes, ih]

theorem leVal_leBytes (n v : Nat) : leVal (leBytes n v) = v % 256 ^ n := by
  induction n generalizing v with
  | zero => simp [leBytes, leVal, Nat.mod_one]
  | succ n ih =>
    have h : leVal (leBytes (n + 1) v) = v % 256 + 256 * (v / 256 % 256 ^ n) := by
      rw [← ih]
      rfl
    rw [h, Nat.pow_succ, Nat.mul_comm (256 ^ n) 256, Nat.mod_mul]

/-- The bytes stored read back. -/
theorem State.bytes_setBytes (s : State) (a : Nat) (bs : List (BitVec 8)) : (s.setBytes a bs).bytes a bs.length = bs := by
  induction bs generalizing s a with
  | nil => rfl
  | cons b bs ih =>
    show ((s.setByte a b).setBytes (a + 1) bs).byte a :: ((s.setByte a b).setBytes (a + 1) bs).bytes (a + 1) bs.length = _
    rw [ih, State.byte_setBytes_out _ _ _ _ (by omega), State.byte_setByte_same]

@[simp] theorem State.word_setWord_same (s : State) (a v : Nat) : (s.setWord a v).word a = v % 2 ^ 32 := by
  have h := s.bytes_setBytes a (leBytes 4 v)
  rw [leBytes_length] at h
  simp [State.word, State.le, State.setWord, h, leVal_leBytes]

theorem State.byte_setWord_out (s : State) (a v x : Nat) (h : x < a ∨ a + 4 ≤ x) : (s.setWord a v).byte x = s.byte x := by
  unfold State.setWord
  exact s.byte_setBytes_out a _ x (by rw [leBytes_length]; exact h)

/-- A memory operation keeps the canonical form. -/
theorem State.setByte_wf (s : State) (a : Nat) (b : BitVec 8) (w : Memory.wf s.mem = true) : Memory.wf (s.setByte a b).mem = true :=
  Sparse.wf_put a b w

theorem State.setBytes_wf (s : State) (a : Nat) (bs : List (BitVec 8)) (w : Memory.wf s.mem = true) :
    Memory.wf (s.setBytes a bs).mem = true := by
  induction bs generalizing s a with
  | nil => exact w
  | cons b bs ih => exact ih _ _ (s.setByte_wf a b w)

theorem State.setWord_wf (s : State) (a v : Nat) (w : Memory.wf s.mem = true) : Memory.wf (s.setWord a v).mem = true :=
  s.setBytes_wf a _ w

@[simp] theorem State.get_setBytes (s : State) (a : Nat) (bs : List (BitVec 8)) (f : Fld) (i j : Nat) :
    (s.setBytes a bs).get f i j = s.get f i j := by
  simp [State.get]

@[simp] theorem State.get_setWord (s : State) (a v : Nat) (f : Fld) (i j : Nat) : (s.setWord a v).get f i j = s.get f i j :=
  s.get_setBytes a _ f i j

@[simp] theorem State.get_send (s : State) (o : Out) (f : Fld) (i j : Nat) : (s.send o).get f i j = s.get f i j := rfl

@[simp] theorem State.byte_put (s : State) (f : Fld) (v i j a : Nat) : (s.put f v i j).byte a = s.byte a := rfl

@[simp] theorem State.byte_send (s : State) (o : Out) (a : Nat) : (s.send o).byte a = s.byte a := rfl

theorem State.byte_bumpBy (s : State) (f : Fld) (n i j a : Nat) : (s.bumpBy f n i j).byte a = s.byte a := by
  rw [s.bumpBy_eq f n i j]
  rfl

theorem State.byte_congr {s t : State} (h : t.mem = s.mem) (a : Nat) : t.byte a = s.byte a := by
  simp [State.byte, h]

theorem State.get_congr {s t : State} (h : t.regs = s.regs) (f : Fld) (i j : Nat) : t.get f i j = s.get f i j := by
  simp [State.get, h]

end Sys2Proof.Machine
end

