-- ==== Sys2Proof/WellFormed.lean ====
section
/-! DEFINITION. The commands that the outside can send: what the operand types leave open is checked here. Every meaning answers on
an ill-formed command too; these checks say which commands the hardware can be given. -/

namespace Sys2Proof

/-- No number twice. -/
def noTwice : List Nat → Bool
  | [] => true
  | x :: xs => !xs.contains x && noTwice xs

/-- The opcodes of the host QSPI target (R435). -/
def qspiOpcodes : List Nat := [0x0B, 0x02, 0xEB, 0x38, 0x05, 0xAB]

/-- A transaction of a row: its own opcode or an unknown one, which R436 rejects; words for a write, a count for a read, late words
within the count. -/
def QspiTx.wf (t : QspiTx) (code : Nat) (write : Bool) : Bool :=
  (t.opcode.toNat == code || !qspiOpcodes.contains t.opcode.toNat) &&
  (if write then t.count == 0 && t.late == [] else t.words == []) && t.late.all (fun k => decide (k < t.count))

/-- An Ocdor frame: COUNT fits its field, and a write carries COUNT words (R437). -/
def OcdorFrame.wf (f : OcdorFrame) : Bool :=
  decide (f.count < 65536) && (f.op.toNat % 16 == 1 || f.op.toNat % 16 == 3 || f.data.length == f.count)

/-- A frame on the line is no empty one, and no longer than the line allows a controller to count. -/
def FrameIn.wf (f : FrameIn) : Bool := f.bytes != [] && decide (f.bytes.length < 65536)

/-- An AAF packet: a format of R83 and at least one sample frame; frames of one width. -/
def AvtpPacket.wf (p : AvtpPacket) : Bool :=
  decide (1 ≤ p.format) && decide (p.format ≤ 4) && p.frames.all (fun x => x.length == ((p.frames.head?).map List.length).getD 0)

/-- An RTP datagram: L16 or L24 (R87), frames of one width. -/
def RtpPacket.wf (p : RtpPacket) : Bool :=
  (p.format == 5 || p.format == 6) && decide (p.version < 4) && decide (p.pt < 128) &&
  p.frames.all (fun x => x.length == ((p.frames.head?).map List.length).getD 0)

/-- A PTP message: one of the two profiles, a domain and port that fit their fields. -/
def PtpMsg.wf (m : PtpMsg) : Bool := decide (m.profile < 2) && decide (m.domain < 256) && decide (m.srcPort < 65536)

/-- A PTP vector: each number fits its field. -/
def PtpVector.wf (v : PtpVector) : Bool :=
  decide (v.priority1 < 256) && decide (v.clkClass < 256) && decide (v.accuracy < 256) && decide (v.variance < 65536) &&
  decide (v.priority2 < 256) && decide (v.steps < 65536) && decide (v.traceable < 4)

/-- A pause frame: one quanta value, or one for each of eight priorities, each of 16 bits (R134, R136). -/
def PauseFrame.wf (f : PauseFrame) : Bool :=
  (f.quanta.length == 1 || f.quanta.length == 8) && f.quanta.all (fun q => decide (q < 65536))

/-- An AVDECC message: a name of at most 64 bytes. -/
def AvdMsg.wf (m : AvdMsg) : Bool := decide (m.name.length ≤ 64) && decide (m.descType < 65536) && decide (m.flags < 2 ^ 32)

/-- A discovery record of at most 256 bytes (R88). -/
def SapMsg.wf (m : SapMsg) : Bool := decide (m.record.length ≤ 256)

/-- A completed frame of a serial port: 2 to 32 slots, at most 4 frames waiting (R225, R239). -/
def SpFrame.wf (f : SpFrame) : Bool := decide (2 ≤ f.slots.length) && decide (f.slots.length ≤ 32) && decide (f.waiting ≤ 4)

/-- A measured quantity fits its register. -/
def Meas.wf : Meas → Bool
  | .vin v => decide (v < 65536) | .vgd v => decide (v < 65536) | .core v => decide (v < 65536) | .sm v => decide (v < 65536)
  | .sd v => decide (v < 65536) | .sda v => decide (v < 65536) | .ioa v => decide (v < 65536) | .iob v => decide (v < 65536)
  | .vb _ v => decide (v < 65536) | .iin _ v => decide (v < 65536) | .iinHeld _ _ => true
  | .ntc _ code => decide (code < 4096)
  | .tempLogic _ => true | .tempPower _ => true
  | .bootLow _ _ => true | .tuning _ => true

/-- A brace frame: role and device codes of R409 and R446, a 48-bit tick number. -/
def BraceFrame.wf (f : BraceFrame) : Bool :=
  decide (f.role < 6) && decide (f.dev < 7) && decide (f.device < 1024) && decide (f.tick < 2 ^ 48) &&
  f.ratios.all (fun r => (r.2.map (fun x => decide (x < 2 ^ 32))).getD true)

/-- A heartbeat: role and device codes of R409 and R446, a 48-bit tick number. -/
def Heartbeat.wf (h : Heartbeat) : Bool :=
  decide (h.role < 6) && decide (h.dev < 7) && decide (h.device < 1024) && decide (h.tick < 2 ^ 48)

/-- The service firmware and the boot ROM give no command of the host path; who writes a register through its own row. -/
def Initiator.host : Initiator → Bool
  | .hq => true
  | .ib _ => true
  | .sp => true
  | .boot => false

/-- A command that the outside can send. -/
def Instr.wf : Instr → Bool
  | .wreset who _ | .start who | .stop who | .load who | .sleep who | .reepoch who | .groupCommit who | .fenceStart who
  | .fenceDone who | .pllmCal who | .xpmCopy who | .dpoolRepack who | .swap who => who.host
  | .cntClr who _ | .srst who _ | .arm who _ => who.host
  | .registerWrite _ a _ => a.toNat % 4 == 0
  | .wakeFilterMatch _ f => f.wf && f.fcsOk
  | .tickBoundary refs meas => noTwice (refs.map (fun r => r.slot.val)) && meas.all Meas.wf
  | .engineDeadline late => noTwice (late.map (fun e => e.engine.val)) && late.all (fun e => decide (e.cycles ≤ 122880))
  | .qspiRead t => t.wf 0x0B false
  | .qspiWrite t => t.wf 0x02 true
  | .qspiQread t => t.wf 0xEB false
  | .qspiQwrite t => t.wf 0x38 true
  | .ocdorRead f | .ocdorWrite f | .ocdorFence f | .ocdorSubscribe f => f.wf
  | .macFrameRx _ f => f.wf
  | .pauseRx _ f => f.wf
  | .pllmCalDone ranges => decide (ranges.length ≤ 32) && ranges.all (fun r => decide (r.1 ≤ r.2) && decide (r.2 < 65536))
  | .ptpSyncRx _ m | .ptpFollowUpRx _ m | .ptpPdelayRespRx _ m | .ptpDelayReqRx _ m | .ptpDelayRespRx _ m => m.wf
  | .ptpPdelayReqRx _ m => m.msg.wf && decide (m.msg.ns ≤ m.sent)
  | .ptpAnnounceRx _ m v => m.wf && v.wf
  | .avtpRx p => p.wf
  | .rtpRx p => p.wf
  | .crfRx p => p.stamps != []
  | .sapRx m => m.wf
  | .adpEntityDiscover m | .connectTx m | .disconnectTx m | .getTxState m | .getTxConnection m | .connectRx m | .disconnectRx m
  | .getRxState m | .acquireEntity m | .lockEntity m | .aecpEntityAvailable m | .controllerAvailable m | .readDescriptor m
  | .getConfiguration m | .getStreamFormat m | .getStreamInfo m | .getName m | .setName m | .getCounters m | .getAvbInfo m
  | .getAsPath m | .registerUnsolicitedNotification m | .deregisterUnsolicitedNotification m | .aecpUnsupported m => m.wf
  | .spFrameRx f => f.wf
  | .asrcLock _ ratio => decide (ratio < 2 ^ 32)
  | .clipPrefetchDone _ n => decide (n ≤ 4096)
  | .flashCmdDone data changed => decide (data.length ≤ 256) && changed.all (fun e => decide (e.1 < 0x20000000))
  | .dcTestDone _ ohms => decide (ohms < 65536)
  | .sweepToneDone mag _ | .pilotWindowEnd _ _ mag _ => decide (mag < 65536)
  | .braceFrameRx r => r.frame.wf
  | .pllPlockSet _ p => decide (p.ps.natAbs ≤ p.worst)
  | .networkHeartbeatRx h => h.wf
  | .porstNRise _ _ | .porstNLow _ | .vddCoreReset | .wrstNPulse _ | .bootRomStart _ | .firmwareLoaded _ | .serviceFirmwareStart
  | .imageReadDone _ | .imageValidationDone _ | .startValidationDone | .stopDone | .loadValidationDone _ | .gpWake _ _
  | .qspiWake | .wakeDone | .evtRawExpiry _ | .cutListWindowStart _ _ | .presenceAgreement | .commitValidated
  | .commitTakeEffect | .qspiStatus | .refLockout _ _ _ | .refQualified _ | .wtrExpiry | .acquireDone | .holdEstUpdate _
  | .ppsInEdge _ _ | .ppsInAbsent | .wclkInEdge _ _ _ | .clkoutAlign _ _ | .pllRefLost _ | .pllFlockSet _ _ | .pllFlockClear _ _
  | .pllPlockClear _ _ | .pllmCeilingTrip _ | .pllmUngate | .clkMuteRelease | .pllmBandRetry | .selfReset _
  | .fatalFault _ | .safeEntry | .autoWarmReset _ | .spWatchdogExpiry | .pauseRefresh _ | .pauseCancel _ | .pauseTimerExpiry _ _
  | .linkUp _ _ _ | .linkDown _ | .phyPoll _ _ | .mdioC22Read _ _ _ | .mdioC22Write _ _ _ | .mdioC45Address _ _ _
  | .mdioC45Write _ _ _ | .mdioC45Read _ _ _ | .mdioDone _ | .plcaBeaconTx _ | .plcaBeaconRx _ | .plcaTxOpportunity _
  | .plcaBeaconLost _ | .plcaCollision _ | .fdbLookup _ | .fdbAddStatic _ | .fdbDelete _ | .fdbFlushDynamic _ | .fdbCmdDone
  | .fdbAgeOut _ _ | .hostFrameSubmit _ _ | .tasConfigChange _ | .tasGateAdvance _ | .tsnFilterUnblock _ _ | .frerResetTimeout _
  | .ptpSyncTx _ _ | .ptpAnnounceTx _ | .ptpDelayRequestTx _ _ | .ptpSyncTimeout | .ptpAnnounceTimeout _ | .rtcpRx
  | .rxStarved _ | .arpRequest _ _ _ | .igmpQuery _ _ | .sapAnnounce | .adpEntityAvailable | .spFrameTxStart _ _
  | .spClockLoss _ | .spClockReturn _ | .asrcUnlock _ _ | .xpmCopyDone | .flashReadTimeout _ | .flashCmdFill _ _ _ _
  | .flashCmdSend _ _ _ _ | .otpCfgSigReq _ | .otpCustKeyHash _ _ | .otpRevokeKey _ _ | .otpIbKey _ _ | .otpRaiseFwMin _
  | .otpJtagDisable _ | .otpCmdDone _ | .clipCrcCheckDone _ | .svcPlay _ | .svcCall _ | .svcAnswer _ | .svcRelease _
  | .svcLock _ | .svcUnlock _ | .serviceCommitArm | .svcClipDone _ | .dieLinkFrame _ | .dieLinkLoss | .dieLinkShutdown
  | .dacClockLoss | .gainRampEnd _ | .cmRampEnd _ _ | .pchClear _ _ | .ocpCycleLimit _ _ | .ocpSustained _ | .ocpFast _
  | .retryWaitExpiry _ | .retryNumClear _ | .dcFault _ | .senseLoss _ | .syncSlip _ | .syncRelock _ | .ntcWarn _ _
  | .ntcShutdown _ _ | .ntcWarnEnd _ _ | .powerDieOvertemp | .logicDieOvertemp | .tempWarn _ _ | .vinWarn | .vinWarnClear
  | .vinReset | .vinRecover | .vgdWarn _ | .vgdUvlo | .vgdUvloClear | .coreWarn _ | .ioWarn _ _ _ | .railSoftStartDone _
  | .boostOvp _ _ _ _ | .boostUvp _ | .boostPhaseOcp _ _ | .boostRetryExpiry _ | .bstClear _ _ | .reactiveRailLimit _
  | .diagDc _ _ | .diagSweep _ _ | .diagLearn _ _ | .diagChannelDone | .bracePathSilent | .networkHeartbeatTx | .netPathSilent
  | .formationTimeout | .roleChange | .reseatStart | .reseatRoundDone _ _ | .sealSend | .sealRx _ _ | .reseatTimeout
  | .reseatRetry | .coldStartDone | .relayTakeover _ | .relayEnergise _ | .relaySettled _ | .relayRelease _ | .gpioEdge _ _
  | .vddCoreResetClear _ | .powerDieTempRelease | .linkSpeedChange _ _ | .wclkInAbsent _ => true

end Sys2Proof
end

