-- ==== Sys2Proof/Tests/Slice0.lean ====
section
/-! SUPPORT. Tests: ill-formed commands that the checks refuse, single steps whose results the spec gives, and for every statement
with hypotheses a concrete state and operands that meet them together, clause by clause, at the ends of the ranges. -/

namespace Sys2Proof.Tests

open Sys2Proof.Machine

set_option Elab.async false

/-! ### Helpers -/

/-- Register values set one after the other: field, value, instance, entry. -/
def puts (s : State) (l : List (Fld × Nat × Nat × Nat)) : State := l.foldl (fun t e => t.put e.1 e.2.1 e.2.2.1 e.2.2.2) s

/-- A unit in a device state whose first region lets every class read and write everything, with further register values. -/
def unit (d : Dev) (l : List (Fld × Nat × Nat × Nat) := []) : State :=
  puts { State.reset with dev := d, porst := false, boot := { Boot.init with regions := true, fwValid := true } }
    ([(R.PROT_BASE_VALID, 1, 0, 0), (R.PROT_SIZE_PAGES, 0xFFFFF, 0, 0), (R.PROT_PERM_HQ, 3, 0, 0), (R.PROT_PERM_IB, 3, 0, 0),
      (R.PROT_PERM_SP, 3, 0, 0), (R.PROT_PERM_ENG, 3, 0, 0), (R.PROT_PERM_SDMA, 3, 0, 0), (R.PROT_PERM_FDMA, 3, 0, 0)] ++ l)

/-- The state a command leads to, and the state itself where it stops. -/
def after (c : Instr) (s : State) : State :=
  match exec c s with
  | .next t => t
  | _ => s

/-- A command completes. -/
def completes (c : Instr) (s : State) : Bool :=
  match exec c s with
  | .next _ => true
  | _ => false

theorem next_after {c : Instr} {s : State} (h : completes c s = true) : exec c s = .next (after c s) := by
  unfold completes at h
  unfold after
  split at h
  · rename_i t e
    rw [e]
  · cases h

/-- A QSPI read of one word. -/
def tx : QspiTx := ⟨0x0B, 0x10000000, [], 1, [], false⟩
/-- An in-band read of one word. -/
def ocd : OcdorFrame := ⟨1, 1, 7, 0, 0, 1, 0x10000000, 0, 5, [], 0, 0, 0x21, none, none⟩
/-- A frame of 64 bytes. -/
def frame : FrameIn := ⟨List.replicate 64 0, true, false, 0⟩
/-- A PTP message that answers the device's own request. -/
def ptp : PtpMsg := ⟨0, 0, 9, 0x1234, 1, 0xFFFE000000, false, 0, 1000, 2000⟩
/-- An Announce vector. -/
def vec : PtpVector := ⟨246, 248, 254, 0xFFFF, 248, 0x1234, 1, 0⟩
/-- An AAF packet of one sample of one channel. -/
def aaf : AvtpPacket := ⟨0x77, true, false, true, false, 3, 0, 1, 48000, [[5]], 0, 0⟩
/-- An RTP datagram of one sample of one channel. -/
def rtp : RtpPacket := ⟨2, 97, 3, 0, 0x55, 0xEF000001, 5004, 5, [[5]], 0, 0⟩
/-- A CRF PDU of one timestamp. -/
def crf : CrfPdu := ⟨0x77, 3, true, 48000, true, 96, [1000], 0, 0⟩
/-- An AVDECC message to a unit whose entity number is still 0. -/
def avd : AvdMsg := ⟨0x42, 0, 6, 0, 0, 0x77, 0, [], 0, 0x21⟩
/-- A brace frame. -/
def bf : BraceFrame := ⟨true, true, 0, 3, 4, 1, 1000, true, false, ⟨[], [], []⟩, none, (0, 0), (0, 0), [], [], [], [], [], none⟩
/-- A heartbeat. -/
def hb : Heartbeat := ⟨0, 0, 1, 0, 0, 3, 4, 1, false⟩
/-- A frame of a serial port of two slots. -/
def spf : SpFrame := ⟨0, 5, [1, 2], true, 0, 4800000, 1⟩

/-! ### Ill-formed commands -/

theorem smoke_initiators : (Instr.start .boot).wf = false ∧ (Instr.cntClr .boot 1).wf = false ∧ (Instr.start .hq).wf = true ∧
    (Instr.arm (.ib 3) 255).wf = true := by decide

theorem smoke_register_write_aligned : (Instr.registerWrite .hq 0x00046 0).wf = false ∧ (Instr.registerWrite .hq 0x00044 0).wf = true := by
  decide

theorem smoke_wake_frame_has_its_fcs : (Instr.wakeFilterMatch 0 { frame with fcsOk := false }).wf = false ∧
    (Instr.wakeFilterMatch 0 frame).wf = true := by decide +kernel

theorem frame_wf (n : Nat) : (Instr.macFrameRx 0 { frame with bytes := List.replicate n 0 }).wf = decide (0 < n ∧ n < 65536) := by
  cases n <;> simp [Instr.wf, FrameIn.wf, List.replicate_succ]

theorem smoke_frame_length : (Instr.macFrameRx 0 { frame with bytes := List.replicate 0 0 }).wf = false ∧
    (Instr.macFrameRx 0 { frame with bytes := List.replicate 65536 0 }).wf = false ∧
    (Instr.macFrameRx 0 { frame with bytes := List.replicate 65535 0 }).wf = true :=
  ⟨(frame_wf 0).trans (by decide), (frame_wf 65536).trans (by decide), (frame_wf 65535).trans (by decide)⟩

theorem smoke_one_measurement_per_slot : (Instr.tickBoundary [⟨3, 0⟩, ⟨3, 1⟩] []).wf = false ∧
    (Instr.tickBoundary [⟨3, 0⟩, ⟨4, 1⟩] []).wf = true := by decide

theorem smoke_measured_values_fit : (Instr.tickBoundary [] [.ntc 0 4096]).wf = false ∧ (Instr.tickBoundary [] [.vin 65536]).wf = false ∧
    (Instr.tickBoundary [] [.iin 1 65536]).wf = false ∧ (Instr.tickBoundary [] [.ntc 0 4095, .vin 65535]).wf = true := by decide

theorem smoke_engine_deadline : (Instr.engineDeadline [⟨2, 0, none⟩, ⟨2, 5, none⟩]).wf = false ∧
    (Instr.engineDeadline [⟨2, 122881, none⟩]).wf = false ∧ (Instr.engineDeadline [⟨2, 122880, none⟩]).wf = true := by decide

theorem smoke_qspi_opcode : (Instr.qspiRead { tx with opcode := 0x02 }).wf = false ∧ (Instr.qspiRead tx).wf = true ∧
    (Instr.qspiRead { tx with opcode := 0x99 }).wf = true := by decide

theorem smoke_qspi_words : (Instr.qspiRead { tx with words := [1] }).wf = false ∧ (Instr.qspiWrite { tx with opcode := 0x02 }).wf = false ∧
    (Instr.qspiRead { tx with late := [1] }).wf = false ∧ (Instr.qspiRead { tx with late := [0] }).wf = true := by decide

theorem smoke_ocdor_count : (Instr.ocdorRead { ocd with count := 65536 }).wf = false ∧
    (Instr.ocdorWrite { ocd with op := 2, count := 2, data := [1] }).wf = false ∧ (Instr.ocdorRead ocd).wf = true := by decide

theorem smoke_avtp_packet : (Instr.avtpRx { aaf with format := 0 }).wf = false ∧ (Instr.avtpRx { aaf with format := 5 }).wf = false ∧
    (Instr.avtpRx { aaf with frames := [[1], [2, 3]] }).wf = false ∧ (Instr.avtpRx aaf).wf = true := by decide

theorem smoke_rtp_packet : (Instr.rtpRx { rtp with format := 4 }).wf = false ∧ (Instr.rtpRx { rtp with version := 4 }).wf = false ∧
    (Instr.rtpRx { rtp with pt := 128 }).wf = false ∧ (Instr.rtpRx { rtp with frames := [[1], []] }).wf = false ∧
    (Instr.rtpRx rtp).wf = true := by decide

theorem smoke_crf_has_a_stamp : (Instr.crfRx { crf with stamps := [] }).wf = false ∧ (Instr.crfRx crf).wf = true := by decide

theorem smoke_ptp_message : (Instr.ptpSyncRx 0 { ptp with profile := 2 }).wf = false ∧ (Instr.ptpSyncRx 0 { ptp with domain := 256 }).wf = false ∧
    (Instr.ptpSyncRx 0 { ptp with srcPort := 65536 }).wf = false ∧ (Instr.ptpSyncRx 0 ptp).wf = true := by decide

theorem smoke_ptp_vector : (Instr.ptpAnnounceRx 0 ptp { vec with priority1 := 256 }).wf = false ∧
    (Instr.ptpAnnounceRx 0 ptp { vec with clkClass := 256 }).wf = false ∧ (Instr.ptpAnnounceRx 0 ptp { vec with accuracy := 256 }).wf = false ∧
    (Instr.ptpAnnounceRx 0 ptp { vec with variance := 65536 }).wf = false ∧ (Instr.ptpAnnounceRx 0 ptp { vec with priority2 := 256 }).wf = false ∧
    (Instr.ptpAnnounceRx 0 ptp { vec with steps := 65536 }).wf = false ∧ (Instr.ptpAnnounceRx 0 ptp vec).wf = true := by decide

theorem smoke_pause_frame : (Instr.pauseRx 0 ⟨0, 1, 0, []⟩).wf = false ∧ (Instr.pauseRx 0 ⟨0, 1, 0, [65536]⟩).wf = false ∧
    (Instr.pauseRx 0 ⟨0, 1, 0, [65535]⟩).wf = true := by decide

theorem smoke_avdecc_message : (Instr.connectRx { avd with name := List.replicate 65 0 }).wf = false ∧
    (Instr.readDescriptor { avd with descType := 65536 }).wf = false ∧ (Instr.acquireEntity { avd with flags := 2 ^ 32 }).wf = false ∧
    (Instr.acquireEntity { avd with flags := 2 ^ 32 - 1 }).wf = true := by decide

theorem smoke_sap_record : (Instr.sapRx ⟨1, 1, false, List.replicate 257 0⟩).wf = false ∧
    (Instr.sapRx ⟨1, 1, false, List.replicate 256 0⟩).wf = true := by decide +kernel

theorem smoke_serial_frame : (Instr.spFrameRx { spf with slots := [1] }).wf = false ∧
    (Instr.spFrameRx { spf with slots := List.replicate 33 1 }).wf = false ∧ (Instr.spFrameRx { spf with waiting := 5 }).wf = false ∧
    (Instr.spFrameRx spf).wf = true := by decide

theorem smoke_counts_and_numbers_fit : (Instr.asrcLock 0 (2 ^ 32)).wf = false ∧ (Instr.clipPrefetchDone 0 4097).wf = false ∧
    (Instr.flashCmdDone (List.replicate 257 0) []).wf = false ∧ (Instr.flashCmdDone [] [(0x20000000, 0)]).wf = false ∧
    (Instr.dcTestDone 0 65536).wf = false ∧ (Instr.sweepToneDone 65536 0).wf = false ∧ (Instr.pilotWindowEnd 0 true 65536 0).wf = false ∧
    (Instr.asrcLock 0 (2 ^ 32 - 1)).wf = true ∧ (Instr.clipPrefetchDone 0 4096).wf = true := by decide +kernel

theorem smoke_calibration_ranges : (Instr.pllmCalDone (List.replicate 33 (1, 2))).wf = false ∧ (Instr.pllmCalDone [(3, 2)]).wf = false ∧
    (Instr.pllmCalDone [(3, 65536)]).wf = false ∧ (Instr.pllmCalDone [(3, 65535)]).wf = true := by decide +kernel

theorem smoke_brace_frame : (Instr.braceFrameRx ⟨{ bf with role := 6 }, 0⟩).wf = false ∧ (Instr.braceFrameRx ⟨{ bf with dev := 7 }, 0⟩).wf = false ∧
    (Instr.braceFrameRx ⟨{ bf with device := 1024 }, 0⟩).wf = false ∧ (Instr.braceFrameRx ⟨{ bf with tick := 2 ^ 48 }, 0⟩).wf = false ∧
    (Instr.braceFrameRx ⟨{ bf with ratios := [(0, some (2 ^ 32))] }, 0⟩).wf = false ∧ (Instr.braceFrameRx ⟨bf, 0⟩).wf = true := by decide

theorem smoke_phase_run_and_response_time : (Instr.pllPlockSet .m ⟨256, 10, -11, 0, 0⟩).wf = false ∧
    (Instr.pllPlockSet .m ⟨256, 10, -10, 0, 0⟩).wf = true ∧ (Instr.ptpPdelayReqRx 0 ⟨ptp, 1999⟩).wf = false ∧
    (Instr.ptpPdelayReqRx 0 ⟨ptp, 2000⟩).wf = true ∧ (Instr.ptpAnnounceRx 0 ptp { vec with traceable := 4 }).wf = false := by decide

theorem smoke_heartbeat : (Instr.networkHeartbeatRx { hb with role := 6 }).wf = false ∧ (Instr.networkHeartbeatRx { hb with dev := 7 }).wf = false ∧
    (Instr.networkHeartbeatRx { hb with device := 1024 }).wf = false ∧ (Instr.networkHeartbeatRx { hb with tick := 2 ^ 48 }).wf = false ∧
    (Instr.networkHeartbeatRx hb).wf = true := by decide

/-! ### Witnesses: step, invariants, registers, events -/

/-- A unit in RUN whose stop is over and leads to a warm reset with cause 3. -/
def stopped : State := { unit .run with op := .stopping 1 3 2 }

theorem witness_IdleOnEmptyQueue : (unit .run).pending = [] := rfl

theorem witness_MemoryCanonical : Memory.wf (unit .run).mem = true ∧
    exec (.registerWrite .hq 0x10000000#32 7#32) (unit .run) = .next (after (.registerWrite .hq 0x10000000#32 7#32) (unit .run)) :=
  ⟨by decide +kernel, next_after (by decide +kernel)⟩

theorem witness_MemoryCanonical_step : Memory.wf (unit .run).mem = true ∧ step (unit .run) = .next (unit .run) := by
  refine ⟨by decide +kernel, ?_⟩
  have h : (unit .run).pending = [] := rfl
  simp only [step, h]

theorem witness_OperationFitsKept : (unit .ready).opFits = true ∧ stopped.opFits = true ∧
    exec (.start .hq) (unit .ready) = .next (after (.start .hq) (unit .ready)) ∧ exec .stopDone stopped = .next (after .stopDone stopped) :=
  ⟨by decide +kernel, by decide +kernel, next_after (by decide +kernel), next_after (by decide +kernel)⟩

theorem witness_DeviceStateTable_move : (unit .ready).opFits = true ∧
    exec (.sleep .hq) (unit .ready) = .next (after (.sleep .hq) (unit .ready)) ∧ (after (.sleep .hq) (unit .ready)).dev = .sleep :=
  ⟨by decide +kernel, next_after (by decide +kernel), by decide +kernel⟩

theorem witness_DeviceStateTable_two_moves : stopped.opFits = true ∧ exec .stopDone stopped = .next (after .stopDone stopped) ∧
    stopped.dev = .run :=
  ⟨by decide +kernel, next_after (by decide +kernel), by decide +kernel⟩

/-- A unit with fuse command 6 under way. -/
def fusing : State := unit .ready [(R.SEC_OTP_CMD_OP, 6, 0, 0), (R.SEC_OTP_CMD_BUSY, 1, 0, 0)]

theorem witness_FusesNeverClear : exec (.otpCmdDone true) fusing = .next (after (.otpCmdDone true) fusing) ∧
    (after (.otpCmdDone true) fusing).otp.jtag = true :=
  ⟨next_after (by decide +kernel), by decide +kernel⟩

theorem witness_QueueAndWireKept : exec .qspiStatus (unit .run) = .next (after .qspiStatus (unit .run)) ∧
    (after .qspiStatus (unit .run)).wire ≠ [] :=
  ⟨next_after (by decide +kernel), by decide +kernel⟩

theorem witness_TicksCount : exec (.tickBoundary [] []) (unit .ready) = .next (after (.tickBoundary [] []) (unit .ready)) ∧
    (unit .ready).ticking = true ∧ ((unit .boot).dev = .boot ∧ (unit .boot).plls.clockLost = false) ∧
    exec (.tickBoundary [] []) (unit .boot) = .next (after (.tickBoundary [] []) (unit .boot)) :=
  ⟨next_after (by decide +kernel), by decide +kernel, by decide +kernel, next_after (by decide +kernel)⟩

theorem witness_RegisterStore : R.SYS_GP_WAKE_EN.base ≠ R.SYS_GP_WAKE_LEVEL.base ∧ 0 % 65536 ≠ 65535 % 65536 ∧
    R.PROT_DENY_CNT.base ≠ R.PG_STATUS_SAT_SEEN.base ∧ 2 ^ R.PROT_DENY_CNT.width - 1 ≤ State.reset.get R.PROT_DENY_CNT + (2 ^ 32 - 1) := by
  decide +kernel

theorem witness_ShadowWrite_field : R.RTP_IPADDR_ADDR.acc = .rws ∧ R.RTP_IPADDR_ADDR.base < 2 ^ 32 ∧
    0x24 ≠ R.RTP_IPADDR_ADDR.pageOf 0 := by decide +kernel

theorem witness_ShadowWrite_bank : ∀ a : Word, a = 0x08040000 ∨ a = 0x0805FFFC → 0x08040000 ≤ a.toNat ∧ a.toNat < 0x08060000 ∧
    a.toNat % 4 = 0 ∧ (unit .run).takes .hq a.toNat = true ∧ (unit .run).get R.XPM_STATUS_ACTIVE_BANK < 2 ∧
    (unit .run).flag R.XPM_STATUS_COPY_BUSY = false ∧ (unit .run).pagePending 0x38 = false ∧ (unit .run).svcBlocked .hq 0x38 = false ∧
    (unit .run).pairBlocked .hq 0x38 = false := by
  rintro a (rfl | rfl) <;> decide +kernel

theorem witness_EventRaised : (95 < 96 ∧ 0 < 96 ∧ 0 ≠ 95) ∧ (∀ f ∈ eventFlds, f.base ≠ R.SYS_GP_WAKE_EN.base) := by decide +kernel

/-- A unit that logs event 95 at page 0x10000. -/
def logging : State := unit .run [(R.EVT_LOG_CTRL_EN, 1, 0, 0), (R.EVT_LOG_CTRL_ENTRIES, 16, 0, 0), (R.EVT_LOG_MASK_MASK, 2 ^ 31, 2, 0),
  (R.EVT_LOG_BASE_BASE, 0x10000, 0, 0)]

theorem witness_EventLogRecord :
    (logging.flag R.EVT_LOG_CTRL_EN && logging.bit R.EVT_LOG_MASK_MASK (95 % 32) (95 / 32) && !logging.loggedNow 95) = true ∧
    ({ logging with logged := [(95, 0)] } : State).loggedNow 95 = true ∧
    ({ logging with logged := [(95, 0)], dev := .boot } : State).loggedNow 95 = false ∧
    logging.permits .sp true logging.logAddr = true ∧ (puts logging [(R.PROT_PERM_SP, 1, 0, 0)]).permits .sp true logging.logAddr = false ∧
    (logging.flag R.EVT_LOG_CTRL_EN && logging.bit R.EVT_LOG_MASK_MASK (0 % 32) (0 / 32) && !logging.loggedNow 0) = false := by
  decide +kernel

theorem witness_CommandAdmission : givenAt (.pchClear (.ib 3) 7) = some (.ib 3, 0x57040) ∧
    (unit .held).hears (.ib 3) = false ∧ (unit .ready).hears (.ib 3) = true ∧
    (puts (unit .ready) [(R.PROT_PERM_IB, 1, 0, 0)]).permits .ib true 0x57040 = false ∧
    ({ unit .held with boot := { Boot.init with regions := true } } : State).hears .hq = true ∧
    ({ unit .held with boot := { Boot.init with regions := true } } : State).permits .hq true 0x57040 = true ∧
    ({ unit .held with boot := { Boot.init with regions := true } } : State).pageServed 0x57040 = false := by decide +kernel

theorem witness_DeniedAccess : (unit .ready).flag R.PROT_DENY_INFO_VALID = false ∧
    (puts (unit .ready) [(R.PROT_DENY_INFO_VALID, 1, 0, 0)]).flag R.PROT_DENY_INFO_VALID = true := by decide +kernel

theorem witness_FatalIrq : (unit .run).flag R.EVT_CTRL_FATAL_IRQ = true ∧
    (puts (unit .run) [(R.EVT_FATAL_VALID, 1, 0, 0)]).flag R.EVT_FATAL_VALID = true ∧ (unit .run).flag R.EVT_FATAL_VALID = false ∧
    (unit .run).dev ≠ .off ∧ FatalCause.storm ≠ .clockLoss ∧ FatalCause.storm ≠ .smCorrected ∧
    (unit .safe).takes .hq 0x01048 = true ∧ FatalCause.overTemp ≠ .smCorrected ∧
    (puts (unit .run) [(R.EVT_FATAL_VALID, 1, 0, 0)]).irq 0 = true ∧ (puts (unit .boot) [(R.EVT_FATAL_VALID, 1, 0, 0)]).irq 0 = true ∧
    ({ unit .boot with op := .starting } : State).op = .starting ∧ (unit .boot).dev = .boot ∧ (unit .boot).op ≠ .starting := by decide +kernel

theorem witness_ResetCause : (unit .run).dev ≠ .off ∧ (unit .safe).plls.clockLost = false ∧ (unit .held).takes .hq 0x00044 = true ∧
    (unit .ready).takes .hq 0x00064 = true ∧ (puts (unit .safe) [(R.EVT_CTRL_AUTO_WRST, 1, 0, 0)]).flag R.EVT_CTRL_AUTO_WRST = true ∧
    ({ unit .ready with plls := { State.reset.plls with fatalWait := true } } : State).plls.fatalWait = true := by decide +kernel

theorem witness_ResetCause_stop : (5 : Nat) < 6 ∧ stopped.dev = .run ∧ stopped.op = .stopping 1 3 2 ∧ stopped.safeWait = false ∧
    (List.range 8).all stopped.atRest = true ∧ ({ unit .sleep with op := .waking 1 5 0 } : State).op = .waking 1 5 0 := by decide +kernel

theorem witness_PowerAndResets : (unit .sleep).dev ≠ .off ∧ State.reset.porst = true ∧ State.reset.coreLow = false ∧
    State.reset.dev = .off ∧ ({ unit .off with coreLow := true } : State).coreLow = true ∧ (unit .off).dev = .off ∧
    (unit .off).porst = false := by decide +kernel

/-! ### Witnesses: boot, modes, ticks, commits -/

/-- Words of memory set one after the other. -/
def wordsAt (s : State) (l : List (Nat × Nat)) : State := l.foldl (fun t e => t.setWord e.1 e.2) s

/-- The register of a CRC-32 after bytes, each value looked at before the next, which keeps the kernel's evaluation flat. -/
def crcRun : List Byte → Nat → Nat
  | [], c => c
  | b :: bs, c =>
    if (crc32Byte (BitVec.ofNat 32 c) b).toNat = 0 then crcRun bs (crc32Byte (BitVec.ofNat 32 c) b).toNat
    else crcRun bs (crc32Byte (BitVec.ofNat 32 c) b).toNat

theorem crcRun_eq (bs : List Byte) (c : BitVec 32) : crcRun bs c.toNat = (bs.foldl crc32Byte c).toNat := by
  induction bs generalizing c with
  | nil => rfl
  | cons b bs ih => simp [crcRun, ih]

theorem crc32_run (bs : List Byte) : (crc32 bs).toNat = crcRun bs 0xFFFFFFFF ^^^ 0xFFFFFFFF := by
  simp [crc32, ← crcRun_eq bs 0xFFFFFFFF#32]

/-- A unit in BOOT that reads from RAM, at a stage, with blobs at 0x1000 and 0x2000 of its set. -/
def booting (stage : Nat) (l : List (Nat × Nat)) : State :=
  wordsAt { unit .boot [(R.PLL_STATUS_GATED, 0, 1, 0)] with boot :=
    { Boot.init with base := 0x10000000, fromHost := true, stage := stage, fwOffset := 0x1000, fwLen := 4096, imgOffset := 0x2000, imgLen := 0xA180 } } l

/-- Its boot header, the CRC over it worked out by the rule of R421. -/
def header : List (Nat × Nat) := [(0x10000000, 0x43584248), (0x10000004, 0x01000100), (0x10000008, 0x1000), (0x1000000C, 0x1000),
  (0x10000010, 0x2000), (0x10000014, 0xB000), (0x100001A0, 0xd73a786d)]

theorem witness_BootRows_header : (booting 0 header).dev = .boot ∧ (booting 0 header).boot.stage = 0 ∧ (booting 0 header).op = .none ∧
    ((booting 0 header).get R.SYS_BOOTSEL_SEL ≠ 1 ∨ (booting 0 header).boot.fromHost = true) ∧
    (booting 0 header).flag R.PLL_STATUS_GATED 1 = false ∧
    (booting 0 header).loadAreaOk (booting 0 header).boot.base ((booting 0 header).get R.SYS_LOAD_LEN_LEN) = true ∧
    readFails false (booting 0 header).boot.base = false ∧ (booting 0 header).headerOk (booting 0 header).boot.base = true := by
  refine ⟨by decide +kernel, by decide +kernel, by decide +kernel, by decide +kernel, by decide +kernel, by decide +kernel,
    by decide +kernel, ?_⟩
  have b : (booting 0 header).boot.base = 0x10000000 := by decide +kernel
  rw [b, State.headerOk, crc32_run]
  decide +kernel

theorem bytes_of_mem {s t : State} (h : s.mem = t.mem) (a n : Nat) : s.bytes a n = t.bytes a n := by
  induction n generalizing a with
  | zero => rfl
  | succ n ih => simp [State.bytes, State.byte, h, ih]

/-- Firmware of one byte under the key whose hash the fuses hold; version 0. -/
def firmware : State :=
  { booting 1 [(0x10001084, 1)] with otp := { State.reset.otp with yamondHash := Config.sha256 ((booting 1 [(0x10001084, 1)]).bytes 0x10001000 64) } }

/-- ECDSA is a function that the model leaves open (log entry 18), so that its acceptance of the signature stands as a hypothesis. -/
theorem witness_BootRows_firmware (accepts : Config.ecdsaVerify ((booting 1 [(0x10001084, 1)]).bytes 0x10001000 64)
      ((booting 1 [(0x10001084, 1)]).bytes 0x10001040 64) (Config.sha256 ((booting 1 [(0x10001084, 1)]).bytes 0x100010C0 1)) = true) :
    firmware.dev = .boot ∧ firmware.boot.stage = 1 ∧ readFails true (firmware.boot.base + firmware.boot.fwOffset) = false ∧
    firmware.firmwareBad (firmware.boot.base + firmware.boot.fwOffset) firmware.boot.fwLen = none := by
  refine ⟨by decide +kernel, by decide +kernel, by decide +kernel, ?_⟩
  have a : firmware.boot.base + firmware.boot.fwOffset = 0x10001000 := by decide +kernel
  have n : firmware.boot.fwLen = 4096 := by decide +kernel
  have body : firmware.word (0x10001000 + 132) = 1 := by decide +kernel
  have zero : (firmware.bytes (0x10001000 + 136) 56).all (fun b => b == 0) = true := by decide +kernel
  have version : ¬ firmware.word (0x10001000 + 128) < firmware.otp.fwMin := by decide +kernel
  rw [a, n]
  unfold State.firmwareBad
  simp only [body, zero, version]
  have k (x y : Nat) : firmware.bytes x y = (booting 1 [(0x10001084, 1)]).bytes x y := bytes_of_mem (by simp only [firmware]) x y
  have h : firmware.otp.yamondHash = Config.sha256 ((booting 1 [(0x10001084, 1)]).bytes 0x10001000 64) := by simp only [firmware]
  simp [k, h, accepts]

theorem witness_BootRows_stages : (booting 2 []).dev = .boot ∧ (booting 2 []).boot.stage = 2 ∧ (booting 3 []).boot.stage = 3 ∧
    (booting 3 []).boot.imgOffset ≠ 0 ∧ (booting 3 []).boot.imgLen ≠ 0 ∧
    readFails false ((booting 3 []).boot.base + (booting 3 []).boot.imgOffset) = false ∧ (booting 4 []).boot.stage = 4 := by decide +kernel

theorem witness_BootRows_lock : (unit .boot).flag R.PROT_CTRL_LOCK = false ∧ (unit .boot [(R.PROT_CTRL_LOCK, 1, 0, 0)]).flag R.PROT_CTRL_LOCK = true ∧
    firmware.boot.fwLen = 4096 ∧ (booting 1 []).firmwareBad (booting 1 []).boot.base 0 ≠ none := by decide +kernel

theorem witness_StartStopSleep : (unit .ready).takes .sp 0x00044 = true ∧ (unit .ready).op = .none ∧ (unit .ready).dev = .ready ∧
    (unit .held).takes .hq 0x00044 = true ∧ (unit .held).op = .none ∧ (unit .run).takes (.ib 0) 0x00044 = true ∧
    ({ unit .ready with op := .starting } : State).takes .hq 0x00044 = true ∧ ({ unit .ready with op := .starting } : State).queue = [] ∧
    ({ unit .ready with op := .starting, queue := [⟨[0x23], false, .queued, none⟩] } : State).queue ≠ [] ∧
    HostOp.starting ≠ .startValidating false ∧ (unit .ready).op ≠ .starting ∧
    ({ unit .held with op := .startValidating false } : State).takes .hq 0x00044 = true := by decide +kernel

theorem witness_StartStopSleep_ends : ({ unit .held [(R.SP_AREA_BASE_BASE, 0x10000, 0, 0)] with op := .startValidating false } : State).queue = [] ∧
    ({ unit .held [(R.SP_AREA_BASE_BASE, 0x10000, 0, 0)] with op := .startValidating false } : State).validateForce = none ∧
    ({ unit .run with op := .stopping 0 0 0 } : State).safeWait = false ∧
    (List.range 8).all ({ unit .run with op := .stopping 0 0 0 } : State).atRest = true := by decide +kernel

/-- A unit in HELD whose configuration in force R94 rejects. -/
def badStart : State := { unit .held [(R.STRX_ENTRY2_ENABLE, 1, 511, 0), (R.STRX_ENTRY2_FORMAT, 1, 511, 0)] with op := .startValidating false }

theorem witness_StartStopSleep_rejected : ∃ f, badStart.op = .startValidating false ∧ badStart.dev = .held ∧ badStart.queue = [] ∧
    badStart.validateForce = some f := by
  have h : badStart.validateForce.isSome = true := by decide +kernel
  obtain ⟨f, e⟩ := Option.isSome_iff_exists.mp h
  exact ⟨f, by decide +kernel, by decide +kernel, by decide +kernel, e⟩

/-- A unit in READY that loads an image of no bytes (R418: NO_IMAGE). -/
def loading : State := { unit .ready with op := .loading 0x10000000 0 }

theorem witness_LoadRows : (unit .ready).takes .hq 0x00044 = true ∧ (unit .ready).op = .none ∧ (unit .held).boot.fwValid = true ∧
    (unit .held).takes .hq 0x00044 = true ∧ loading.op = .loading 0x10000000 0 ∧
    (match loading.loadCheck 0x10000000 0 true with | .error b => b == (NO_IMAGE, 0) | .ok _ => false) = true ∧
    ({ loading with dev := .held } : State).dev = .held ∧ loading.dev ≠ .held ∧
    ({ unit .held with boot := Boot.init } : State).boot.fwValid = false ∧
    ({ unit .held with boot := { Boot.init with regions := true } } : State).takes .hq 0x00044 = true ∧
    ({ unit .boot with boot := { Boot.init with base := 0x40000000, stage := 3 } } : State).boot.base = 0x40000000 ∧
    ({ unit .boot with boot := { Boot.init with base := 0x40000000, stage := 3 } } : State).op = .none ∧
    ({ unit .held with op := .loading 0x40000000 1 } : State).dev ≠ .boot ∧ 0x40000000 ≤ (0x40000000 : Nat) := by decide +kernel

/-- A player in phase 1 or 2. -/
def playing (phase : Nat) : State :=
  { unit .run with je := { State.reset.je with
      insts := [(8191, { Inst.init0 with play := ⟨phase, 5, false, 0, 0, 0, false, 0⟩ })]
      cut := ⟨[⟨0, 0x0C, false, 8191, 1, 0, 0, 0, 0, 0, 0, 0, 0, [0x00, 0x00, 0x00, 0x10]⟩], 1, [], []⟩ } }

theorem witness_LoadRows_clip : ((playing 1).inst 8191).play.phase = 1 ∧ ((playing 2).inst 8191).play.phase = 2 ∧
    (playing 1).je.cut.descs.any (fun d => d.id == 8191) = true ∧ (playing 2).je.cut.descs.any (fun d => d.id == 8191) = true := by
  decide +kernel

/-- A sleeping unit whose pin 15 and whose pattern 15 on port 7 wake it. -/
def sleeping : State := unit .sleep [(R.SYS_GP_WAKE_EN, 0x8000, 0, 0), (R.SYS_GP_WAKE_LEVEL, 0x8000, 0, 0), (R.WAKE_CTRL_EN, 1, 0, 0),
  (R.PG_CTRL_EN, 1, 0x17, 0), (R.MAC_CTRL_MODE, 6, 7, 0), (R.MAC_STATUS_LINK, 1, 7, 0),
  (R.WAKE_PAT_CFG_EN, 1, 15, 0), (R.WAKE_PAT_CFG_PORTS, 0x20, 15, 0), (R.WAKE_PAT_MASK0_MASK, 1, 15, 0), (R.WAKE_PAT_CRC_CHECK, 0xE1F0, 15, 0)]

theorem witness_WakeRows : sleeping.asleep = true ∧ sleeping.bit R.SYS_GP_WAKE_EN 15 = true ∧ sleeping.bit R.SYS_GP_WAKE_LEVEL 15 = true ∧
    sleeping.bit R.GPIO_OE_OE 15 = false ∧ ({ unit .sleep with op := .waking 0 2 1 } : State).flag R.SYS_IMG_INFO_AUTOSTART = false ∧
    ({ unit .sleep [(R.SYS_IMG_INFO_AUTOSTART, 1, 0, 0)] with op := .waking 0 2 1 } : State).flag R.SYS_IMG_INFO_AUTOSTART = true := by
  decide +kernel

theorem witness_WakeRows_pattern : sleeping.asleep = true ∧ sleeping.flag R.WAKE_CTRL_EN = true ∧ sleeping.link 7 = true ∧
    ({ sleeping with op := .waking 0 0 0 } : State).asleep = false ∧ (unit .ready).asleep = false ∧
    ({ sleeping with op := .waking 0 0 0 } : State).plls.clockLost = false ∧ ({ sleeping with op := .waking 0 0 0 } : State).link 7 = true ∧
    (unit .ready).dev ≠ .sleep ∧ (unit .sleep).flag R.WAKE_CTRL_EN = false ∧ sleeping.link 6 = false ∧
    (List.range 16).filter ((unit .sleep).wakeMatch 7 frame) = [] ∧
    (List.range 16).filter (sleeping.wakeMatch 7 frame) = [15] := by decide +kernel

theorem witness_TickRows : (unit .ready).ticking = true ∧ (unit .ready).win = .overhead ∧ (unit .held).ticking = true ∧
    ({ unit .run with raw := [(95, 4, true)], tg := 5 } : State).raw = [(95, 4, true)] ∧
    4 + 1 ≤ ({ unit .run with raw := [(95, 4, true)], tg := 5 } : State).tg ∧ ({ unit .sleep with raw := [(0, 4, true)] } : State).ticking = false ∧
    (unit .boot).ticking = false ∧ (unit .boot).plls.clockLost = false ∧ (unit .run [(R.TICK_STATUS_EPOCH_VALID, 1, 0, 0)]).flag R.TICK_STATUS_EPOCH_VALID = true ∧
    ({ unit .run with safeWait := true } : State).ticking = true ∧ ({ unit .run with safeWait := true } : State).dev = .run ∧
    ({ unit .ready with plls := { State.reset.plls with ungateWait := true } } : State).powered = true ∧
    ({ unit .ready with plls := { State.reset.plls with ungateWait := true } } : State).plls.ungateWait = true := by decide +kernel

theorem witness_CommitRows : (unit .run).takes .hq (0x23 * 4096 + 0xc) = true ∧ pageListed 0x23 = true ∧ (unit .run).pagePending 0x23 = false ∧
    (unit .run).pairBlocked .hq 0x23 = false ∧ (unit .run).svcBlocked .hq 0x23 = false ∧ (unit .run).takes .hq 0x000c8 = true ∧
    ({ unit .run with queue := [⟨[0x23], false, .queued, none⟩] } : State).pagePending 0x23 = true ∧
    ({ unit .run with queue := [⟨[0x23], false, .queued, none⟩] } : State).nextQueued = some (⟨[0x23], false, .queued, none⟩, 0) ∧
    ({ unit .run with queue := [⟨[0x23], false, .queued, none⟩] } : State).awaits ⟨[0x23], false, .queued, none⟩ = false ∧
    ({ unit .run with queue := [⟨[0x23], false, .queued, none⟩] } : State).unacked ⟨[0x23], false, .queued, none⟩ = false ∧
    ({ unit .run with queue := [⟨[0x23], false, .queued, none⟩] } : State).dev ≠ .off ∧ pageListed 0xff = false ∧
    (unit .run).takes .hq (0xff * 4096 + 0xc) = true ∧ (unit .run).nextQueued = none := by decide +kernel

/-- A unit in step with its partner in a pair, with a commit that waits. -/
def paired (role : Role) (partner : Nat) : State :=
  { unit .run [(R.PG_CTRL_EN, 1, 0x60, 0), (R.BRACE_STATUS_BRACE_PRESENT, 1, 0, 0), (R.BRACE_STATUS_PARTNER_ROLE, partner, 0, 0)] with
    role := role, queue := [⟨[0x20], false, .queued, none⟩] }

theorem witness_CommitRows_pair : (paired .inStep 1).nextQueued = some (⟨[0x20], false, .queued, none⟩, 0) ∧
    (paired .inStep 1).awaits ⟨[0x20], false, .queued, none⟩ = true ∧ (paired .active 3).unacked ⟨[0x20], false, .queued, none⟩ = false ∧
    ({ paired .active 3 with brace := { State.reset.brace with outMir := [⟨0x2000c#32, 0, 1⟩] } } : State).unacked
      ⟨[0x20], false, .queued, none⟩ = true := by decide +kernel

/-- A commit of the RTP page, waiting and due at the next boundary. -/
def waiting : Commit := ⟨[0x23], false, .queued, none⟩
/-- The same, due. -/
def due : Commit := ⟨[0x23], false, .scheduled 8, none⟩

/-- The last window part of tick 7, with that commit due at the next boundary. -/
def ending : State := { unit .run with queue := [due], tg := 7, win := .kerf }

theorem witness_CommitOutcome_effect : ending.queue = [due] ∧ due.phase = .scheduled (ending.tg + 1) ∧ due.service = false ∧
    ending.ticking = true ∧ ending.win = .kerf ∧ ending.safeWait = false ∧ ending.brace.results = [] ∧
    ({ ending with safeWait := true } : State).queue = [due] ∧ ({ ending with safeWait := true } : State).ticking = true ∧
    ({ ending with safeWait := true } : State).safeWait = true ∧ ({ ending with safeWait := true } : State).dev = .run := by decide +kernel

theorem witness_CommitOutcome_ok : ({ unit .run with queue := [waiting] } : State).mirrors = false ∧
    ({ unit .run with queue := [waiting] } : State).awaits waiting = false ∧ ({ unit .run with queue := [waiting] } : State).dev ≠ .off ∧
    waiting.phase = .queued ∧
    (match ({ unit .run with queue := [waiting] } : State).validate waiting with | .ok _ => true | .error _ => false) = true := by
  decide +kernel

/-- A commit of the receive table that enables an entry without a format, which R94 rejects. -/
def rejected : State :=
  { (unit .run).shPut R.STRX_ENTRY2_ENABLE 1 511 with queue := [⟨[0x20], false, .queued, none⟩] }

theorem witness_CommitOutcome_rejected : rejected.queue = [⟨[0x20], false, .queued, none⟩] ∧ rejected.awaits ⟨[0x20], false, .queued, none⟩ = false ∧
    rejected.unacked ⟨[0x20], false, .queued, none⟩ = false ∧ rejected.dev ≠ .off ∧
    (match rejected.validate ⟨[0x20], false, .queued, none⟩ with | .ok _ => false | .error _ => true) = true := by decide +kernel

/-! ### Witnesses: host paths, references, loops -/

theorem witness_HostAccess : (unit .run).takes .hq 0x00070 = true ∧ (unit .run).takes .hq 0x23044 = true ∧ (unit .run).pagePending 0x23 = false ∧
    (unit .run).pairBlocked .hq 0x23 = false ∧ (unit .run).takes .sp 0x10000000 = true ∧ (unit .run).takes .hq 0x10FFFFFC = true ∧
    (unit .run).dev ≠ .off ∧ (unit .run).plls.clockLost = false := by decide +kernel

theorem witness_HostAccess_registers : (cntClrOf 0x10).isSome = true ∧ (unit .run).takes .hq (0x10 * 4096 + ((cntClrOf 0x10).map (·.off)).getD 0) = true ∧
    (unit .run).takes .hq (0x10 * 4096 + 4) = true ∧ pageListed 0x10 = true ∧
    counters.any (fun g => g.onPage 0x10) = true ∧ (pageFields 0x10).any (fun g => g.acc == .w1c && g.onPage 0x10) = true := by
  decide +kernel

theorem witness_HostAccess_qspi : tx.count = 1 ∧ tx.late = [] ∧ tx.partialWord = false ∧ tx.addr.toNat % 4 = 0 ∧ tx.opcode = 0x0B ∧
    (unit .run).hears .hq = true ∧ (unit .run).permits .hq false tx.addr.toNat = true ∧ 0x10000000 ≤ tx.addr.toNat ∧
    tx.addr.toNat < 0x11000000 ∧ (unit .run).inSeatArea tx.addr.toNat = false ∧ ({ tx with words := [9], addr := 0x10FFFFFC } : QspiTx).words = [9] ∧
    (unit .run).takes .hq ({ tx with words := [9], addr := 0x10FFFFFC } : QspiTx).addr.toNat = true ∧
    ({ tx with words := [9], addr := 0x10FFFFFC } : QspiTx).addr.toNat < 0x11000000 := by decide +kernel

theorem witness_FenceRows : (unit .run).takes .hq 0x000c0 = true ∧
    (Sparse.find (({ unit .run with host := ⟨[(0, [])], []⟩ } : State).host.fences) (whoIdx .hq)).isSome = true ∧
    Sparse.find (({ unit .run with host := ⟨[(whoIdx (.ib 3), [])], []⟩ } : State).host.fences) (whoIdx (.ib 3)) = some [] ∧
    Sparse.find (unit .run).host.fences (whoIdx (.ib 3)) = none ∧ (unit .run).dev ≠ .off ∧ (unit .run).plls.clockLost = false ∧
    (unit .run).bit R.GPIO_IN_IN 15 = !true ∧ (unit .run [(R.GPIO_EV_CFG_RISE, 0x8000, 0, 0)]).bit R.GPIO_EV_CFG_RISE 15 = true ∧
    (unit .run [(R.GPIO_EV_CFG_RISE, 0x8000, 0, 0)]).bit R.GPIO_EV_SRC_EDGE 15 = false ∧
    (unit .run).bit R.GPIO_EV_CFG_RISE 15 = false := by decide +kernel

/-- A unit whose in-band slots 0 and 3 are in use with a key. -/
def keyed : State :=
  { unit .ready [(R.SEC_IB_CTRL_SLOT_EN, 9, 0, 0)] with otp := { State.reset.otp with ibKey := [(0, 5), (3, 5)] } }

/-- A frame with the tag that the key gives it. -/
def tagged (f : OcdorFrame) : OcdorFrame := { f with tag := Config.cmac64 5#128 (ocdorCovered f) }

/-- Whatever the MAC computes, a frame tagged with it is right under its slot. -/
theorem tagOk_tagged (f : OcdorFrame) (s : State) (k : f.slot.toNat < 4) (e : s.bit R.SEC_IB_CTRL_SLOT_EN f.slot.toNat = true)
    (key : s.ibKey f.slot.toNat = some 5#128) : s.tagOk (tagged f) = true := by
  have slot : (tagged f).slot = f.slot := rfl
  have covered : ocdorCovered (tagged f) = ocdorCovered f := rfl
  have tag : (tagged f).tag = Config.cmac64 5#128 (ocdorCovered f) := rfl
  simp [State.tagOk, slot, covered, tag, k, e, key]

theorem witness_OcdorRows_read : keyed.netUp = true ∧ keyed.tagOk (tagged ocd) = true ∧
    (tagged ocd).session.toNat = keyed.get R.SEC_IB_SESSION_SESSION ∧ (keyed.slot (tagged ocd).slot.toNat).last = none ∧
    (tagged ocd).addr.toNat % 4 = 0 ∧ (tagged ocd).version = 1 ∧ (tagged ocd).op = 1 ∧ (tagged ocd).count = 1 ∧
    0x10000000 ≤ (tagged ocd).addr.toNat ∧ (tagged ocd).addr.toNat < 0x11000000 ∧ keyed.permits .ib false (tagged ocd).addr.toNat = true ∧
    keyed.inSeatArea (tagged ocd).addr.toNat = false :=
  ⟨by decide +kernel, tagOk_tagged ocd keyed (by decide) (by decide +kernel) (by decide +kernel), by decide +kernel, by decide +kernel,
    by decide, by decide, by decide, by decide, by decide, by decide, by decide +kernel, by decide +kernel⟩

/-- A frame of another session, and one whose address is not that of a word. -/
def ocdStray : OcdorFrame := { ocd with session := 9 }
/-- A frame whose address is not that of a word. -/
def ocdOdd : OcdorFrame := { ocd with addr := 0x10000002, count := 257 }

theorem witness_OcdorRows_stale_malformed : keyed.tagOk (tagged ocdStray) = true ∧
    (tagged ocdStray).session.toNat ≠ keyed.get R.SEC_IB_SESSION_SESSION ∧ keyed.tagOk (tagged ocdOdd) = true ∧
    (tagged ocdOdd).session.toNat = keyed.get R.SEC_IB_SESSION_SESSION ∧ (tagged ocdOdd).addr.toNat % 4 ≠ 0 ∧ 256 < (tagged ocdOdd).count ∧
    (unit .held).netUp = false :=
  ⟨tagOk_tagged ocdStray keyed (by decide) (by decide +kernel) (by decide +kernel), by decide +kernel,
    tagOk_tagged ocdOdd keyed (by decide) (by decide +kernel) (by decide +kernel), by decide +kernel, by decide, by decide, by decide +kernel⟩

/-- A write of the last word of shared memory in slot 3. -/
def ocdWrite : OcdorFrame := { ocd with op := 2, slot := 3, addr := 0x10FFFFFC, data := [9] }

theorem witness_OcdorRows_write : keyed.tagOk (tagged ocdWrite) = true ∧ (tagged ocdWrite).session.toNat = keyed.get R.SEC_IB_SESSION_SESSION ∧
    (keyed.slot (tagged ocdWrite).slot.toNat).last = none ∧ (tagged ocdWrite).addr.toNat % 4 = 0 ∧ (tagged ocdWrite).version = 1 ∧
    (tagged ocdWrite).op = 2 ∧ (tagged ocdWrite).count = 1 ∧ (tagged ocdWrite).data = [9] ∧ 0x10000000 ≤ (tagged ocdWrite).addr.toNat ∧
    (tagged ocdWrite).addr.toNat < 0x11000000 ∧ keyed.permits .ib true (tagged ocdWrite).addr.toNat = true :=
  ⟨tagOk_tagged ocdWrite keyed (by decide) (by decide +kernel) (by decide +kernel), by decide +kernel, by decide +kernel,
    by decide, by decide, by decide, by decide, by decide, by decide, by decide, by decide +kernel⟩

/-- A FENCE of the longest COUNT and a SUBSCRIBE. -/
def ocdFence : OcdorFrame := { ocd with op := 3, count := 256, addr := 0 }
/-- A SUBSCRIBE. -/
def ocdSubscribe : OcdorFrame := { ocd with op := 4, count := 3, data := [1, 2, 3], addr := 0 }

theorem witness_OcdorRows_fence_subscribe : keyed.tagOk (tagged ocdFence) = true ∧ (tagged ocdFence).op = 3 ∧ (tagged ocdFence).count ≤ 256 ∧
    (tagged ocdFence).addr.toNat % 4 = 0 ∧ (tagged ocdFence).version = 1 ∧
    keyed.tagOk (tagged ocdSubscribe) = true ∧ (tagged ocdSubscribe).op = 4 ∧ (tagged ocdSubscribe).count = 3 ∧
    (tagged ocdSubscribe).data = [1, 2, 3] :=
  ⟨tagOk_tagged ocdFence keyed (by decide) (by decide +kernel) (by decide +kernel), by decide, by decide, by decide, by decide,
    tagOk_tagged ocdSubscribe keyed (by decide) (by decide +kernel) (by decide +kernel), by decide, by decide, by decide⟩

/-- The same unit, which has taken a frame of replay count 5 already. -/
def replayed : State := { keyed with host := ⟨[], [(0, { OcdSlot.init with last := some 5 })]⟩ }

theorem witness_OcdorRows_refused : (unit .held).dev ≠ .off ∧ (unit .held).dev ≠ .sleep ∧ (unit .held).plls.clockLost = false ∧
    (unit .held).tagOk ocd = false ∧ replayed.netUp = true ∧ replayed.tagOk (tagged ocd) = true ∧
    (replayed.slot (tagged ocd).slot.toNat).last = some 5 ∧ (tagged ocd).replay.toNat ≤ 5 :=
  ⟨by decide, by decide, by decide, by decide +kernel, by decide +kernel,
    tagOk_tagged ocd replayed (by decide) (by decide +kernel) (by decide +kernel), by decide, by decide⟩

/-- A unit with PPS_IN on slot 7, WCLK_IN1 on slot 0, slot 3 passing since tick 1. -/
def refs : State :=
  { unit .ready [(R.REF_CFG_SOURCE, 11, 7, 0), (R.REF_CFG_SOURCE, 10, 0, 0), (R.REF_STATUS_STATE, 1, 3, 0), (R.REF_QUAL_QUAL_TIME, 1, 3, 0),
      (R.TICK_STATUS_EPOCH_VALID, 1, 0, 0)] with
    tg := 6000, plumb := { State.reset.plumb with refs := [(3, { RefHid.init with passAt := 1 })] } }

theorem witness_ReferenceRows : refs.takes .hq (0x09040 + 32 * 7) = true ∧ refs.plumbOn = true ∧ refs.get R.REF_CFG_SOURCE 7 = 11 ∧
    refs.get R.REF_CFG_SOURCE 0 = 9 + (1 : Fin 2).val ∧ refs.get R.REF_STATUS_STATE 3 = 1 ∧ refs.flag R.REF_CFG_LOCKOUT 3 = false ∧
    refs.get R.REF_QUAL_QUAL_TIME 3 * 6000 ≤ refs.tg + 1 - (refs.ref 3).passAt ∧ refs.netUp = true ∧
    refs.flag R.TICK_STATUS_EPOCH_VALID = true := by decide +kernel

/-- A unit that follows slot 7 while slot 0, better by its priority, has been qualified for 12 s. -/
def choosing : State :=
  { unit .ready [(R.REF_CFG_SOURCE, 11, 0, 0), (R.REF_CFG_SOURCE, 9, 7, 0), (R.REF_CFG_PRIORITY, 1, 7, 0), (R.REF_CFG_PRIORITY, 0, 0, 0), (R.REF_STATUS_STATE, 2, 0, 0),
      (R.REF_STATUS_STATE, 2, 7, 0), (R.TICK_STATUS_EPOCH_VALID, 1, 0, 0), (R.PLUMB_STATUS_SEL, 7, 0, 0), (R.PLUMB_WTR_SECONDS, 12, 0, 0),
      (R.PLUMB_CTRL_REVERTIVE, 1, 0, 0)] with tg := 72000 }

theorem witness_ReferenceRows_selection : choosing.netUp = true ∧ choosing.bestRef choosing.cands = some 0 ∧
    choosing.wtrOver 0 (choosing.tg + 1) = true ∧ choosing.sel ≠ 15 ∧ choosing.cands.contains choosing.sel = true ∧
    choosing.get R.REF_CFG_PRIORITY 0 < choosing.get R.REF_CFG_PRIORITY choosing.sel ∧ 15 < 16 ∧ 15 ≠ choosing.sel := by decide +kernel

theorem test_edge_period_limits : (choosing.edgeOk 0 999000000000, choosing.edgeOk 0 998999999999, choosing.edgeOk 0 1001000000000,
    choosing.edgeOk 0 1001000000001) = (true, false, true, false) := by decide +kernel

/-- A unit in ACQUIRE long enough. -/
def acquiring : State := { unit .ready [(R.PLUMB_STATUS_STATE, 1, 0, 0), (R.PLUMB_STATUS_SEL, 7, 0, 0)] with tg := 240000 }

theorem witness_PlumbRows : acquiring.netUp = true ∧ acquiring.get R.PLUMB_STATUS_STATE = 1 ∧ acquiring.sel ≠ 15 ∧
    240000 / acquiring.bw10 ≤ acquiring.tg + 1 - acquiring.plumb.acqAt ∧ (unit .ready [(R.PLUMB_STATUS_STATE, 2, 0, 0)]).get R.PLUMB_STATUS_STATE = 2 ∧
    ({ unit .ready [(R.PLUMB_STATUS_STATE, 2, 0, 0), (R.PLUMB_HOLD_CFG_HOLD_AVG, 1, 0, 0)] with
        plumb := { State.reset.plumb with lockedTicks := 6000, holdTicks := 6000 } } : State).netUp = true ∧
    (unit .ready).takes .hq 0x0d048 = true ∧ bitAt (32 : Fin 64).val 5 = true ∧ bitAt (32 : Fin 64).val 4 = false ∧
    (unit .held).takes .hq 0x48054 = true ∧ (unit .run).takes .hq 0x48054 = true ∧ (unit .run).dev ≠ .ready ∧ (unit .run).dev ≠ .held := by
  decide +kernel

/-- A unit whose loops PLL-M and PLL-C hold both locks. -/
def locked : State := unit .ready [(R.PLL_STATUS_FLOCK, 1, 0, 0), (R.PLL_STATUS_PLOCK, 1, 0, 0), (R.PLL_STATUS_GATED, 0, 0, 0),
  (R.PLL_STATUS_FLOCK, 1, 1, 0), (R.PLL_STATUS_PLOCK, 1, 1, 0), (R.PLL_STATUS_GATED, 0, 1, 0)]

/-- A unit whose PPS_OUT was asked to align, a tick before its natural boundary. -/
def aligning : State :=
  { unit .ready with tickNum := 5999, plumb := { State.reset.plumb with clks := [(0, { ClkHid.init with step := true })], align := [(0, 5)] } }

theorem witness_PlumbRows_align : (aligning.clk 0).step = true ∧ aligning.get R.TSN_TAS_CTRL_EN 5 = 0 ∧
    (let t := { aligning with tickNum := 6000 }
     t.clkNext 0 (max (8192 * t.tickNum) (t.clk 0).quiet) < 8192 * t.tickNum + 8192) ∧
    (unit .held [(R.TSN_TAS_CTRL_EN, 1, 5, 0)]).flag R.TSN_TAS_CTRL_EN 5 = true ∧
    (unit .held [(R.TSN_TAS_CTRL_EN, 1, 5, 0)]).flag R.TSN_TAS_STATUS_NO_TIME 5 = false := by decide +kernel

theorem witness_PllLockRows_flock : locked.powered = true ∧ locked.pllInTol .c 66667 = true ∧ locked.pllInTol .c 66673 = true ∧
    locked.pllInTol .c 66674 = false ∧ locked.flag R.PLL_STATUS_FLOCK 1 = true ∧ locked.flag R.PLL_STATUS_GATED 1 = false ∧
    locked.pllInTol .m 0 = false ∧ locked.flag R.PLL_STATUS_FLOCK 0 = true := by decide +kernel

theorem witness_PllLockRows_plock : (puts locked [(R.PLL_STATUS_PLOCK, 0, 0, 0)]).pllRuns .m = true ∧
    (puts locked [(R.PLL_STATUS_PLOCK, 0, 0, 0)]).flag R.PLL_STATUS_FLOCK 0 = true ∧
    (puts locked [(R.PLL_STATUS_PLOCK, 0, 0, 0)]).flag R.PLL_STATUS_PLOCK 0 = false ∧
    (puts locked [(R.PLL_STATUS_PLOCK, 0, 1, 0)]).flag R.PLL_STATUS_FLOCK 1 = true ∧
    (puts locked [(R.PLL_STATUS_PLOCK, 0, 1, 0)]).flag R.PLL_STATUS_PLOCK 1 = false ∧
    ({ puts locked [(R.PLL_STATUS_PLOCK, 0, 1, 0)] with plls := { State.reset.plls with clockLost := true } } : State).plls.clockLost = true ∧
    locked.flag R.PLL_STATUS_PLOCK 0 = true ∧ locked.get R.PLL_LOCK_CFG_PLOCK_N 0 ≤ (PhaseRun.mk 256 500 (-500) 4096 9).cycles ∧
    (PhaseRun.mk 256 500 (-500) 4096 9).worst ≤ 100 * locked.get R.PLL_LOCK_CFG_PHASE_WIN 0 ∧
    locked.get R.PLL_LOCK_CFG_PLOCK_N 1 ≤ (PhaseRun.mk 256 500 (-500) 0 9).cycles ∧
    (PhaseRun.mk 256 500 (-500) 0 9).ps.natAbs ≤ 100 * locked.get R.PLL_LOCK_CFG_PHASE_WIN 1 ∧
    (PhaseRun.mk 255 500 (-500) 0 9).cycles < locked.get R.PLL_LOCK_CFG_PLOCK_N 0 ∧
    100 * locked.get R.PLL_LOCK_CFG_PHASE_WIN 0 < (100 * (locked.get R.PLL_LOCK_CFG_PHASE_WIN 0 : Int) + 1).natAbs ∧
    locked.pllmGated = false ∧ 512 < 513 ∧
    ({ locked with power := { State.reset.power with pllLost := true } } : State).power.pllLost = true ∧
    ({ locked with power := { State.reset.power with pllLost := true } } : State).power.linkLost = false ∧
    (∃ n, n < 8 ∧ ({ locked with diag := ⟨2, [], some 7, 8, []⟩ } : State).diag.cur = some n) ∧
    (puts locked [(R.DIAG_CFG_SWEEP_LEVEL, 100, 0, 0)]).powered = true ∧ ((puts locked [(R.DIAG_CFG_SWEEP_LEVEL, 100, 0, 0)]).toneSpec 0).peak ≠ 0 := by decide +kernel

theorem witness_PllmCalRows : (unit .held).takes .hq 0x0a080 = true ∧ (unit .held).flag R.PLLM_CAL_CAL_BUSY = false ∧
    (unit .run).takes .hq 0x0a080 = true ∧ (unit .ready [(R.PLLM_CAL_CAL_BUSY, 1, 0, 0)]).takes .hq 0x0a080 = true ∧
    (unit .ready [(R.PLLM_CAL_CAL_BUSY, 1, 0, 0)]).flag R.PLLM_CAL_CAL_BUSY = true ∧ (unit .run [(R.PLLM_BAND_NO_BAND, 1, 0, 0)]).powered = true ∧
    (unit .run [(R.PLLM_BAND_NO_BAND, 1, 0, 0)]).flag R.PLLM_BAND_NO_BAND = true ∧ (unit .run).dev ≠ .sleep ∧
    (unit .run [(R.PLLM_CAL_CAL_BUSY, 1, 0, 0), (R.PLLM_BAND_CFG_EN, 1, 0, 0)]).flag R.PLLM_CAL_CAL_BUSY = true ∧
    (unit .run [(R.PLLM_CAL_CAL_BUSY, 1, 0, 0), (R.PLLM_BAND_CFG_EN, 1, 0, 0)]).flag R.PLLM_BAND_CFG_EN 0 = true := by decide +kernel

/-! ### Witnesses: ports and bridge -/

/-- A unit in READY with its links up and the further registers. -/
def linked (l : List (Fld × Nat × Nat × Nat)) : State :=
  unit .ready ((List.range 8).map (fun p => (R.MAC_STATUS_LINK, 1, p, 0)) ++ (List.range 8).map (fun p => (R.PG_CTRL_EN, 1, 0x10 + p, 0)) ++ l)

theorem witness_LinkRows : (unit .ready [(R.PG_CTRL_EN, 1, 0x17, 0), (R.MAC_CTRL_MODE, 6, 7, 0)]).powered = true ∧
    (unit .ready [(R.PG_CTRL_EN, 1, 0x17, 0), (R.MAC_CTRL_MODE, 6, 7, 0)]).laneOn 7 = true ∧ (unit .ready).dev ≠ .sleep ∧
    (unit .ready [(R.PG_CTRL_EN, 1, 0x17, 0), (R.MAC_CTRL_MODE, 6, 7, 0)]).link 7 = false ∧
    (unit .ready [(R.PG_CTRL_EN, 1, 0x17, 0), (R.MAC_CTRL_MODE, 6, 7, 0)]).modeSpeed 7 6 ≠ 0 ∧
    (unit .ready [(R.PG_CTRL_EN, 1, 0x17, 0), (R.MAC_CTRL_MODE, 6, 7, 0)]).flag R.MAC_PHY_POLL_EN 7 = false ∧
    (linked []).link 0 = true ∧ (linked [(R.MAC_CTRL_MODE, 5, 5, 0), (R.MAC_STATUS_SPEED, 3, 5, 0)]).get R.MAC_STATUS_SPEED 5 ≠ (1 : Fin 7).val ∧
    (linked [(R.MAC_CTRL_MODE, 5, 5, 0)]).portMode 5 = 5 ∧ (linked [(R.MAC_CTRL_AN_EN, 1, 5, 0)]).flag R.MAC_CTRL_AN_EN 5 = true ∧
    (5 : Nat) < 6 ∧ (linked [(R.MAC_PHY_POLL_EN, 1, 5, 0)]).flag R.MAC_PHY_POLL_EN 5 = true ∧
    (linked []).flag R.MDIO_CMD_BUSY = false ∧ (linked [(R.MDIO_CMD_BUSY, 1, 0, 0)]).flag R.MDIO_CMD_BUSY = true ∧
    (List.range 6).all (fun q => (linked []).flag R.TSN_TAS_STATUS_OPER q == false) = true := by decide +kernel

/-- The speed of each mode (R119, R120): 25, 10, 5 and 1 Gbit/s, SGMII resolved or at 1 Gbit/s, 10 Mbit/s. -/
theorem test_link_speeds : ([1, 2, 3, 4, 5, 6].map (fun m => (linked [(R.MAC_CTRL_MODE, m, 5, 0), (R.MAC_CTRL_AN_EN, 1, 5, 0)]).modeSpeed 5 2)) =
    [6, 5, 4, 3, 2, 1] ∧ (linked [(R.MAC_CTRL_MODE, 5, 5, 0), (R.MAC_CTRL_AN_EN, 0, 5, 0)]).modeSpeed 5 2 = 3 := by decide +kernel

theorem witness_FrameReception : (linked []).dev ≠ .off ∧ (linked []).dev ≠ .sleep ∧ (linked []).plls.clockLost = false ∧ (linked []).link 7 = true ∧
    ({ frame with symErr := true } : FrameIn).symErr = true ∧ ({ frame with bytes := List.replicate 63 0 } : FrameIn).bytes.length < 64 ∧
    64 ≤ ({ frame with bytes := List.replicate 1523 0 } : FrameIn).bytes.length ∧
    (linked []).sizeLimit 7 (tagCount (List.replicate 1523 0)) < ({ frame with bytes := List.replicate 1523 0 } : FrameIn).bytes.length ∧
    frame.symErr = false ∧ 64 ≤ frame.bytes.length ∧ frame.bytes.length ≤ (linked []).sizeLimit 7 (tagCount frame.bytes) ∧
    ({ frame with fcsOk := false } : FrameIn).fcsOk = false ∧ frame.fcsOk = true ∧ (linked []).netUp = true ∧
    ({ linked [] with dev := .held } : State).netUp = false ∧ ({ linked [] with dev := .held } : State).link 7 = true := by decide +kernel

/-- A tagged frame of class A to an address that no database entry knows. -/
def classA : FrameIn := ⟨[2, 0, 0, 0, 0, 9, 2, 0, 0, 0, 0, 8, 0x81, 0, 0x60, 1, 0x22, 0xF0] ++ List.replicate 46 0, true, false, 0⟩
/-- A bridge that floods unicast frames of VLAN 1 to ports 0 and 1. -/
def bridging : State := linked [(R.BR_VLAN_CFG_MEMBER, 3, 1, 0), (R.BR_PORT_CFG_STP_STATE, 2, 0, 0), (R.BR_PORT_CFG_STP_STATE, 2, 1, 0),
  (R.BR_CTRL_LEARN_EN, 0, 0, 0), (R.BR_CTRL_UC_FLOOD, 1, 0, 0), (R.BR_PCP_MAP_MAP, 5 * 2 ^ 9, 0, 0), (R.BR_CLASS_TC_A, 5, 0, 0),
  (R.BR_BUF_SIZE_PAGES, 64, 0, 0), (R.BR_PORT_CFG2_RES_PAGES, 16, 0, 0), (R.MAC_FRAME_MAX_LEN, 1518, 0, 0)]

theorem witness_FrameReception_forward : bridging.netUp = true ∧ bridging.link 0 = true ∧ classA.symErr = false ∧ classA.fcsOk = true ∧
    64 ≤ classA.bytes.length ∧ classA.bytes.length ≤ bridging.sizeLimit 0 (tagCount classA.bytes) ∧
    (bridging.hdr 0 classA.bytes).et ≠ 0x8808 ∧ isReservedDa (bridging.hdr 0 classA.bytes).da = false ∧
    bridging.member (bridging.hdr 0 classA.bytes).vid 0 = true ∧ bridging.streamFilter 0 (bridging.hdr 0 classA.bytes) = none ∧
    bridging.flag R.BR_CTRL_LEARN_EN = false ∧
    bridging.isAudioTc (bridging.frameTc classA.bytes (bridging.hdr 0 classA.bytes)) = true ∧
    bridging.poolUsed 0 true + classA.bytes.length ≤ bridging.poolSize 0 true ∧
    bridging.forwardSet 0 classA.bytes (bridging.hdr 0 classA.bytes) = [1] ∧ bridging.toInternal (bridging.hdr 0 classA.bytes) = false ∧
    bridging.frerEntry (bridging.hdr 0 classA.bytes) = none ∧
    bridging.tasOversize 1 (bridging.frameTc classA.bytes (bridging.hdr 0 classA.bytes))
      ((bridging.egressBytes 1 (classA.bytes.take (classA.bytes.length - 4)) (bridging.hdr 0 classA.bytes)).length + 4) = false := by decide +kernel

/-- A PAUSE frame. -/
def pause (q : Nat) : PauseFrame := ⟨0x0180C2000001, 1, 0, [q]⟩

theorem witness_PauseRows : (linked []).netUp = true ∧ (linked []).link 5 = true ∧ (5 : Fin 8).val < 6 ∧
    (linked []).macControlDa 5 (pause 65535).da.toNat = true ∧ (pause 65535).opcode = 1 ∧ (pause 65535).quanta = [65535] ∧
    (linked [(R.MAC_CTRL_PAUSE_HONOUR, 1, 5, 0)]).get R.MAC_CTRL_PAUSE_HONOUR 5 ≠ 2 ∧ (pause 0).quanta = [0] ∧
    ({ linked [] with dev := .held } : State).dev = .held ∧ (linked []).flag R.MAC_STATUS_RX_PAUSED 5 = false ∧ 6 ≤ (6 : Fin 8).val ∧ (linked []).link 7 = true ∧ (linked []).powered = true := by
  decide +kernel

/-- A port that has asserted PAUSE with frames of half its pool waiting. -/
def pausing (low : Nat) : State :=
  let s := linked [(R.MAC_STATUS_TX_PAUSE_ACTIVE, 1, 5, 0), (R.MAC_CTRL_PAUSE_GEN, 1, 5, 0), (R.MAC_WATERMARK_LOW_PCT, low, 5, 0),
    (R.BR_BUF_SIZE_PAGES, 4096, 0, 0), (R.BR_PORT_CFG2_BE_PAGES, 1, 5, 0), (R.BR_PORT_CFG2_RES_PAGES, 1, 5, 0)]
  { s with net := { s.net with egr := [⟨0, 1, 0, 2048, 5, false, .beacon⟩] } }

theorem witness_PauseRows_generation : (pausing 49).netUp = true ∧ (pausing 49).link 5 = true ∧
    (pausing 49).flag R.MAC_STATUS_TX_PAUSE_ACTIVE 5 = true ∧ (pausing 49).get R.MAC_CTRL_PAUSE_GEN 5 = 1 ∧
    (pausing 49).get R.MAC_WATERMARK_LOW_PCT 5 * (pausing 49).poolSize 5 false < (pausing 49).poolUsed 5 false * 100 ∧
    (pausing 50).poolUsed 5 false * 100 ≤ (pausing 50).get R.MAC_WATERMARK_LOW_PCT 5 * (pausing 50).poolSize 5 false := by
  decide +kernel

theorem witness_MdioRows : (unit .ready).takes .sp mdioCmdAddr = true ∧ (unit .ready).flag R.MDIO_CMD_BUSY = false ∧
    (unit .ready [(R.MDIO_CMD_BUSY, 1, 0, 0)]).takes .hq mdioCmdAddr = true ∧ (unit .ready [(R.MDIO_CMD_BUSY, 1, 0, 0)]).flag R.MDIO_CMD_BUSY = true := by
  decide +kernel

/-- A T1S port in PLCA with node ID n. -/
def plca (n : Nat) : State := linked [(R.MAC_CTRL_MODE, 6, 7, 0), (R.PLCA_CTRL_EN, 1, 1, 0), (R.PLCA_CTRL_NODE_ID, n, 1, 0),
  (R.PLCA_STATUS_ACTIVE, 1, 1, 0), (R.PLCA_TIMERS_BURST_CNT, 0, 1, 0)]

theorem witness_PlcaRows : (plca 0).plcaCoordinator 1 = true ∧ (plca 0).netUp = true ∧ (plca 0).portMode (6 + 1) = 6 ∧
    (plca 0).flag R.PLCA_CTRL_EN 1 = true ∧ (plca 31).plcaCoordinator 1 = false ∧ (plca 31).portMode (6 + 1) = 6 ∧
    (plca 31).flag R.PLCA_CTRL_EN 1 = true ∧ (plca 31).flag R.PLCA_STATUS_ACTIVE 1 = true ∧
    (plca 31).flag R.PLCA_STATUS_COORDINATOR 1 = false ∧ (puts (plca 31) [(R.PLCA_STATUS_COORDINATOR, 1, 1, 0)]).flag R.PLCA_STATUS_COORDINATOR 1 = true ∧
    (plca 31).nextEgress (6 + 1) ((plca 31).lineNs (6 + 1)) = none := by decide +kernel

/-- The same port with a frame waiting and k collisions behind it. -/
def colliding (k : Nat) : State :=
  { plca 31 with net := { State.reset.net with
      ports := [(7, { PortHid.init with attempts := [(0, k)] })], egr := [⟨0, 7, 0, 64, 0, false, .beacon⟩] } }

theorem witness_PlcaRows_egress : (colliding 0).netUp = true ∧ (colliding 0).portMode (6 + 1) = 6 ∧
    (colliding 0).flag R.PLCA_STATUS_ACTIVE 1 = true ∧ ((colliding 0).ph (6 + 1)).burst = 0 ∧
    (colliding 0).nextEgress (6 + 1) ((colliding 0).lineNs (6 + 1)) = some ⟨0, 7, 0, 64, 0, false, .beacon⟩ ∧ ((colliding 14).ph (6 + 1)).tries 0 < 15 ∧
    15 ≤ ((colliding 15).ph (6 + 1)).tries 0 ∧ (colliding 15).nextEgress (6 + 1) ((colliding 15).lineNs (6 + 1)) = some ⟨0, 7, 0, 64, 0, false, .beacon⟩ := by decide +kernel

/-- A bridge whose database holds a static entry at VLAN 0, address 0 and a dynamic one at the last of both; an operation under way. -/
def fdb (op : Nat) : State :=
  { unit .ready [(R.BR_FDB_CMD_BUSY, 1, 0, 0), (R.BR_FDB_CMD_OP, op, 0, 0), (R.BR_AGE_SECONDS, 1, 0, 0)] with
    net := { State.reset.net with fdb := [(0, ⟨3, true⟩), (fdbKey 4095 0xFFFFFFFFFFFF, ⟨4, false⟩)] } }

theorem witness_FdbRows : (unit .ready).takes .hq fdbCmdAddr = true ∧ (unit .ready).flag R.BR_FDB_CMD_BUSY = false ∧
    (fdb 3).takes .hq fdbCmdAddr = true ∧ (fdb 0).flag R.BR_FDB_CMD_BUSY = true ∧ (fdb 0).get R.BR_FDB_CMD_OP = 0 ∧
    Sparse.find (fdb 0).net.fdb (fdbKey (fdb 0).fdbArg.1 (fdb 0).fdbArg.2) = some ⟨3, true⟩ ∧
    Sparse.find State.reset.net.fdb (fdbKey (fdb 0).fdbArg.1 (fdb 0).fdbArg.2) = none ∧ (fdb 1).get R.BR_FDB_CMD_OP = 1 ∧
    (fdb 1).net.fdb.length < 8192 ∧ (fdb 2).get R.BR_FDB_CMD_OP = 2 ∧ (fdb 3).get R.BR_FDB_CMD_OP = 3 ∧
    (fdb 3).fdbFind (4095 : Fin 4096).val (0xFFFFFFFFFFFF : Mac).toNat = some ⟨4, false⟩ ∧ (fdb 3).powered = true ∧
    (fdb 3).get R.BR_AGE_SECONDS ≠ 0 := by decide +kernel

/-- A transmit ring of one descriptor at 0x10001000 that sends 60 bytes at 0x10002000, untagged in class 7, to port 3. -/
def ring : State :=
  wordsAt (linked [(R.BR_HTX_CTRL_EN, 1, 0, 0), (R.BR_HTX_CTRL_ENTRIES, 16, 0, 0), (R.BR_HTX_BASE_BASE, 0x10001, 0, 0),
    (R.MAC_FRAME_MAX_LEN, 1518, 3, 0), (R.BR_BUF_SIZE_PAGES, 4096, 0, 0), (R.BR_PORT_CFG2_RES_PAGES, 16, 3, 0)])
    [(0x10001000, 0x10002000), (0x10001004, 60 + 2 ^ 19 + 7 * 2 ^ 24), (0x1000100C, 2 ^ 31)]

theorem witness_BridgeRows_ring : ring.takes .hq 0x180a8 = true ∧ ring.flag R.BR_HTX_CTRL_EN = true ∧ ring.netUp = true ∧
    ring.get R.BR_HTX_HEAD_INDEX + 1 = (1 : Fin 1024).val ∧ (1 : Fin 1024).val < ring.get R.BR_HTX_CTRL_ENTRIES ∧
    ring.owned 0x10001000 = true ∧ (wordsAt ring [(0x1000100C, 0)]).owned 0x10001000 = false ∧ ring.poolFull 3 true (max 60 60 + 4) = false ∧
    ring.word 0x10001000 = 0x10002000 ∧ ring.word 0x10001004 % 16384 = 60 ∧ bitsAt (ring.word 0x10001004) 23 16 = 2 ^ 3 ∧
    ring.areaGranted .hq false 0x10002000 60 = true ∧ 60 + 4 ≤ ring.sizeLimit 3 (tagCount (ring.bytes 0x10002000 60)) ∧
    ring.link 3 = true ∧ ring.flag R.TSN_TAS_STATUS_OPER 3 = false ∧ bitsAt (ring.word 0x10001004) 26 24 = 7 ∧
    (puts ring [(R.MAC_STATUS_LINK, 0, 3, 0)]).link 3 = false ∧
    (puts ring [(R.PROT_PERM_HQ, 2, 0, 0)]).areaGranted .hq false 0x10002000 60 = false ∧
    (puts ring [(R.PROT_PERM_HQ, 2, 0, 0)]).takes .hq 0x180a8 = true := by decide +kernel

/-- A shaper that waits for its config-change time, or that operates, on port 5. -/
def shaping (oper : List (Nat × Nat)) : State :=
  { linked [(R.TICK_STATUS_EPOCH_VALID, 1, 0, 0), (R.TSN_TAS_STATUS_OPER, 1, 5, 0)] with
    net := { State.reset.net with ports := [(5, { PortHid.init with tas := ⟨oper, 0, 1000, 0, some 4000⟩ })] } }

theorem witness_BridgeRows_tsn : (shaping []).netUp = true ∧ (shaping []).flag R.TICK_STATUS_EPOCH_VALID = true ∧ (5 : Fin 8).val < 6 ∧
    ((shaping []).ph 5).tas.changeAt = some 4000 ∧ (shaping [(255, 500)]).powered = true ∧
    (shaping [(255, 500)]).flag R.TSN_TAS_STATUS_OPER 5 = true ∧ ((shaping [(255, 500)]).ph 5).tas.oper ≠ [] ∧
    (unit .ready).takes .hq 0x190bc = true ∧
    ({ unit .ready [(R.FRER_ID_HI_EN, 1, 255, 0)] with net := { State.reset.net with frer := [(255, ⟨false, 3, [], false⟩)] } } : State).flag
      R.FRER_ID_HI_EN 255 = true ∧
    (({ unit .ready [(R.FRER_ID_HI_EN, 1, 255, 0)] with net := { State.reset.net with frer := [(255, ⟨false, 3, [], false⟩)] } } : State).frerSt
      255).takeAny = false := by decide +kernel

/-- A frame of the device's own: one that port 3 takes in class 7, and one too long for it. -/
theorem witness_BridgeRows_own : ring.takesFrame 3 7 (.frame (List.replicate 60 0)) = true ∧
    (puts ring [(R.MAC_FRAME_MAX_LEN, 64, 3, 0)]).sizeLimit 3 (Wire.frame (List.replicate 61 0)).tags < (Wire.frame (List.replicate 61 0)).len := by
  decide +kernel
/-! ### Witnesses: network time, streams, services of the network -/

/-- A unit that takes part in PTP on port 5, in the port's state, with the profile and what the port remembers. -/
def ptpUnit (profile state : Nat) (port : PtpPort) : State :=
  { linked [(R.PTP_CTRL_EN, 1, 0, 0), (R.PTP_CTRL_PROFILE, profile, 0, 0), (R.PTP_DOMAIN_DOMAIN, 255, 0, 0), (R.PTP_PORT_EN_PORTS, 0x20, 0, 0),
      (R.PTP_PORT_STATUS_STATE, state, 5, 0), (R.PTP_STATUS_IS_GM, 1, 0, 0), (R.PTP_CTRL_ONE_STEP, 1, 0, 0), (R.BR_BUF_SIZE_PAGES, 4096, 0, 0),
      (R.BR_PORT_CFG2_RES_PAGES, 16, 5, 0), (R.MAC_FRAME_MAX_LEN, 1518, 5, 0)] with
    ptp := { State.reset.ptp with ports := [(5, port)] } }

/-- A message of that domain. -/
def msg (profile : Nat) (two : Bool) : PtpMsg := { ptp with profile := profile, domain := 255, twoStep := two }

theorem fits (profile state : Nat) (port : PtpPort) (two : Bool) (p : profile < 2)
    (h : ∀ k, k < 2 → (ptpUnit k state port).ptpPortOn 5 = true ∧ (msg k two).profile = (ptpUnit k state port).get R.PTP_CTRL_PROFILE ∧
      (msg k two).domain = (ptpUnit k state port).get R.PTP_DOMAIN_DOMAIN) : PtpFits (ptpUnit profile state port) 5 (msg profile two) :=
  ⟨(h profile p).1, (h profile p).2.1, (h profile p).2.2⟩

theorem witness_PtpReceive_sync : PtpFits (ptpUnit 0 3 PtpPort.init) 5 (msg 0 true) ∧ (msg 0 true).twoStep = true ∧
    PtpFits (ptpUnit 0 3 PtpPort.init) 5 (msg 0 false) ∧ (msg 0 false).twoStep = false ∧
    (ptpUnit 0 3 PtpPort.init).get R.PTP_PORT_STATUS_STATE 5 = 3 ∧
    ((ptpUnit 0 3 { PtpPort.init with sync := some (9, 2000, 0) }).ptpSt 5).sync = some ((msg 0 true).seq.toNat, 2000, 0) :=
  ⟨fits 0 3 _ true (by decide) (by decide +kernel), rfl, fits 0 3 _ false (by decide) (by decide +kernel), rfl, by decide +kernel,
    by decide +kernel⟩

theorem witness_PtpReceive_announce : PtpFits (ptpUnit 0 3 PtpPort.init) 5 (msg 0 false) ∧
    (msg 0 false).srcId.toNat ≠ (ptpUnit 0 3 PtpPort.init).clockId ∧ ((ptpUnit 0 3 PtpPort.init).ptpSt 5).best = none :=
  ⟨fits 0 3 _ false (by decide) (by decide +kernel), by decide +kernel, by decide +kernel⟩

theorem witness_PtpReceive_delay_request : PtpFits (ptpUnit 0 2 PtpPort.init) 5 (msg 0 false) ∧
    (ptpUnit 0 2 PtpPort.init).flag R.PTP_CTRL_PROFILE = false ∧ PtpFits (ptpUnit 1 2 PtpPort.init) 5 (msg 1 false) ∧
    (ptpUnit 1 2 PtpPort.init).flag R.PTP_CTRL_PROFILE = true ∧ (ptpUnit 1 2 PtpPort.init).get R.PTP_PORT_STATUS_STATE 5 = 2 :=
  ⟨fits 0 2 _ false (by decide) (by decide +kernel), by decide +kernel, fits 1 2 _ false (by decide) (by decide +kernel),
    by decide +kernel, by decide +kernel⟩

/-- A port that waits for the answer to its request 9. -/
def asking : PtpPort := { PtpPort.init with delayTx := some (9, 500), lastSync := some (10, 20) }

theorem witness_PtpReceive_delay_response : PtpFits (ptpUnit 0 3 asking) 5 (msg 0 false) ∧ PtpFits (ptpUnit 1 3 asking) 5 (msg 1 false) ∧
    ((ptpUnit 0 3 asking).ptpSt 5).delayTx = some ((msg 0 false).seq.toNat, 500) ∧ (msg 0 false).reqId.toNat = (ptpUnit 0 3 asking).clockId ∧
    ((ptpUnit 1 3 asking).ptpSt 5).lastSync = some (10, 20) :=
  ⟨fits 0 3 _ false (by decide) (by decide +kernel), fits 1 3 _ false (by decide) (by decide +kernel), by decide +kernel, by decide +kernel,
    by decide +kernel⟩

theorem witness_PtpSend : (ptpUnit 0 2 PtpPort.init).ptpPortOn 5 = true ∧ (ptpUnit 0 2 PtpPort.init).get R.PTP_PORT_STATUS_STATE 5 = 2 ∧
    (ptpUnit 0 2 PtpPort.init).flag R.PTP_STATUS_IS_GM = true ∧ (ptpUnit 0 2 PtpPort.init).flag R.PTP_CTRL_ONE_STEP = true ∧
    (ptpUnit 0 2 PtpPort.init).ptpMaster = none ∧ (ptpUnit 0 2 PtpPort.init).flag R.PTP_CTRL_PROFILE = false ∧
    (ptpUnit 0 2 PtpPort.init).flag R.PTP_CTRL_EN = true ∧ (ptpUnit 0 2 PtpPort.init).netUp = true ∧
    (puts (ptpUnit 0 2 PtpPort.init) [(R.PTP_STATUS_SYNCED, 1, 0, 0)]).flag R.PTP_STATUS_SYNCED = true ∧
    (∀ k, k < 7 → ∀ f ∈ [[], [tsField ((ptpUnit 0 2 PtpPort.init).ptpOut 5 0), 0], annKey (ptpUnit 0 2 PtpPort.init).ownVector
        (ptpUnit 0 2 PtpPort.init).clockId ++ [(ptpUnit 0 2 PtpPort.init).ownVector.traceable]], (ptpUnit 0 2 PtpPort.init).takesFrame 5 7
      (.ptp ((ptpUnit 0 2 PtpPort.init).ptpHead 5 k).1 ((ptpUnit 0 2 PtpPort.init).ptpHead 5 k).2 k 0 f) = true) ∧
    (ptpUnit 1 3 PtpPort.init).flag R.PTP_CTRL_PROFILE = true ∧ (ptpUnit 1 3 PtpPort.init).get R.PTP_PORT_STATUS_STATE 5 = 3 ∧
    (ptpUnit 1 3 PtpPort.init).takesFrame 5 7
      (.ptp ((ptpUnit 1 3 PtpPort.init).ptpHead 5 4).1 ((ptpUnit 1 3 PtpPort.init).ptpHead 5 4).2 4 0 []) = true := by decide +kernel

/-- A unit whose receive entry 511 is enabled in a format, with one channel and a state. -/
def receiving (format state : Nat) : State := linked [(R.AVTP_CTRL_RX_EN, 1, 0, 0), (R.RTP_CTRL_EN, 1, 0, 0),
  (R.STRX_ENTRY2_ENABLE, 1, 511, 0), (R.STRX_ENTRY2_FORMAT, format, 511, 0), (R.STRX_ENTRY2_CHANNELS, 1, 511, 0),
  (R.STRX_ENTRY0_SID_LO, 0x77, 511, 0), (R.STRX_STAT0_STATE, state, 511, 0), (R.STRX_STAT1_RING_ADDR, 0x10004000, 511, 0),
  (R.STRX_ENTRY3_DEPTH, 12, 511, 0), (R.STRX_ENTRY4_PRES_OFFSET, 64, 511, 0), (R.STRX_ENTRY6_PT, 97, 511, 0)]

theorem witness_StreamReception_refused : (receiving 1 3).netUp = true ∧ (receiving 1 3).flag R.AVTP_CTRL_RX_EN = true ∧
    ({ aaf with subtypeOk := false } : AvtpPacket).subtypeOk = false ∧ aaf.subtypeOk = true ∧
    (receiving 1 3).avtpEntry ({ aaf with sid := 1 } : AvtpPacket).sid.toNat = none ∧
    (receiving 1 3).avtpEntry aaf.sid.toNat = some 511 ∧ (receiving 1 3).rxOpen 511 = true ∧
    ({ aaf with format := 4 } : AvtpPacket).format ≠ (receiving 1 3).get R.STRX_ENTRY2_FORMAT 511 := by decide +kernel

theorem witness_StreamReception_avtp : ∀ state, state = 2 ∨ state = rxRunning → (receiving 1 state).netUp = true ∧
    (receiving 1 state).flag R.AVTP_CTRL_RX_EN = true ∧ (receiving 1 state).avtpEntry aaf.sid.toNat = some 511 ∧
    (receiving 1 state).rxOpen 511 = true ∧ aaf.format = (receiving 1 state).get R.STRX_ENTRY2_FORMAT 511 ∧ aaf.rate = 48000 ∧
    (receiving 1 state).get R.STRX_ENTRY3_RATE 511 = 0 ∧ (receiving 1 state).get R.STRX_ENTRY2_CHANNELS 511 = 1 ∧ aaf.frames = [[5]] ∧
    ((receiving 1 state).rx 511).started = false ∧ aaf.tv = true ∧ aaf.tu = false ∧
    avtpS0 aaf.ts.toNat ((receiving 1 state).ingressNs aaf.port.val aaf.ns) + (receiving 1 state).getI R.STRX_ENTRY4_PRES_OFFSET 511 = ((64 : Nat) : Int) ∧
    (receiving 1 state).isLate ((receiving 1 state).ingress10 aaf.port.val aaf.ns) (64 / 8) = false ∧ (receiving 1 state).isEarly 511 ((receiving 1 state).ingress10 aaf.port.val aaf.ns) (64 / 8) = false ∧
    (receiving 1 state).rxValid 511 64 = false ∧
    (receiving 1 state).permits .sdma true ((receiving 1 state).ringAddr 511 64 0) = true := by
  rintro s (rfl | rfl) <;> decide +kernel

/-- Entry 511 bound to the datagram's group and port. -/
def receivingRtp (state : Nat) : State :=
  puts (receiving 5 state) [(R.STRX_ENTRY0_SID_LO, 5004 * 2 ^ 16, 511, 0), (R.STRX_ENTRY1_SID_HI, 0xEF000001, 511, 0)]

theorem witness_StreamReception_rtp : ∀ state, state = 2 ∨ state = rxRunning → (receivingRtp state).netUp = true ∧
    (receivingRtp state).flag R.RTP_CTRL_EN = true ∧ ({ rtp with version := 3 } : RtpPacket).version ≠ 2 ∧ rtp.version = 2 ∧
    (receivingRtp state).rtpEntry { rtp with dstPort := 1 } true = none ∧ (receivingRtp state).rtpEntry { rtp with dstPort := 1 } false = none ∧
    (receivingRtp state).rtpEntry rtp true = some 511 ∧ (receivingRtp state).rxOpen 511 = true ∧
    rtp.pt = (receivingRtp state).get R.STRX_ENTRY6_PT 511 ∧ rtp.format = (receivingRtp state).get R.STRX_ENTRY2_FORMAT 511 ∧
    (receivingRtp state).get R.STRX_ENTRY3_RATE 511 = 0 ∧ (receivingRtp state).get R.STRX_ENTRY2_CHANNELS 511 = 1 ∧ rtp.frames = [[5]] ∧
    ((receivingRtp state).rx 511).started = false ∧
    rtpS0 rtp.ts.toNat ((receivingRtp state).get R.STRX_ENTRY5_TS_OFFSET 511) ((receivingRtp state).ingressNs rtp.port.val rtp.ns) 48000 +
      (receivingRtp state).getI R.STRX_ENTRY4_PRES_OFFSET 511 = ((64 : Nat) : Int) ∧
    (receivingRtp state).isLate ((receivingRtp state).ingress10 rtp.port.val rtp.ns) (64 / 8) = false ∧ (receivingRtp state).isEarly 511 ((receivingRtp state).ingress10 rtp.port.val rtp.ns) (64 / 8) = false ∧
    (receivingRtp state).rxValid 511 64 = false ∧ (receivingRtp state).permits .sdma true ((receivingRtp state).ringAddr 511 64 0) = true := by
  rintro s (rfl | rfl) <;> decide +kernel

theorem witness_StreamReception_crf : (receiving 7 3).avtpEntry crf.sid.toNat = some 511 ∧ (receiving 7 3).rxOpen 511 = true ∧
    (receiving 7 3).get R.STRX_ENTRY2_FORMAT 511 = 7 ∧ ((receiving 7 3).rx 511).started = false ∧ crf.audioSample = true ∧ crf.baseHz = 48000 ∧ crf.pullOne = true ∧ crf.interval ≠ 0 ∧ crf.stamps = [1000] ∧
    (receiving 1 rxRunning).rxState 511 = rxRunning ∧
    ({ puts (receiving 1 rxRunning) [(R.STRX_CTRL_STARVE_TICKS, 8, 0, 0)] with
        str := { State.reset.str with rx := [(511, { RxHid.init with idle := 8 })] } } : State).get R.STRX_CTRL_STARVE_TICKS ≤
      (({ puts (receiving 1 rxRunning) [(R.STRX_CTRL_STARVE_TICKS, 8, 0, 0)] with
        str := { State.reset.str with rx := [(511, { RxHid.init with idle := 8 })] } } : State).rx 511).idle := by decide +kernel

/-- A unit with a group in use and a session to announce, both on port 5. -/
def ipUnit : State := puts (receivingRtp 3) [(R.RTP_IFMASK_PORTS, 0x20, 0, 0), (R.RTP_IPADDR_ADDR, 0xC0A80002, 0, 0),
  (R.RTP_CTRL_SAP_TX_EN, 1, 0, 0), (R.RTP_CTRL_SAP_RX_EN, 1, 0, 0), (R.STTX_ENTRY4_ENABLE, 1, 511, 0), (R.STTX_ENTRY4_SAP_EN, 1, 511, 0),
  (R.STTX_ENTRY4_FORMAT, 5, 511, 0), (R.STTX_STAT0_STATE, 2, 511, 0), (R.BR_PORT_CFG2_BR_EGQ_LIMIT, 64, 5, 0), (R.MAC_FRAME_MAX_LEN, 1518, 5, 0)]

/-- The same with a session announced that is one no longer. -/
def ipStale : State := { puts ipUnit [(R.STTX_ENTRY4_SAP_EN, 0, 511, 0)] with str := { State.reset.str with announced := [511] } }

theorem witness_IpServices : ipUnit.netUp = true ∧ ipUnit.flag R.RTP_CTRL_EN = true ∧ ipUnit.bit R.RTP_IFMASK_PORTS 5 = true ∧
    ipUnit.link 5 = true ∧ (0xC0A80002 : Word).toNat = ipUnit.get R.RTP_IPADDR_ADDR ∧ ipUnit.net.v2Querier = false ∧
    ipUnit.flag R.RTP_CTRL_IGMP_V2 = false ∧ ipUnit.groups = [0xEF000001] ∧ ipUnit.ifPorts = [(5 : Fin 8).val] ∧
    ipUnit.flag R.RTP_CTRL_SAP_TX_EN = true ∧ ipUnit.speaks = true ∧ (List.range 512).filter ipUnit.sapEntry = [511] ∧
    ipUnit.flag R.RTP_CTRL_SAP_RX_EN = true ∧ ipUnit.permits .sdma true (ipUnit.get R.RTP_DISC_BASE_BASE * 4096 + 256 * 255) = true := by
  decide +kernel

/-- Its frames: the answer to a request, the reports of both versions, an announcement and a withdrawal. -/
theorem witness_IpServices_frames : ipUnit.takesFrame 5 (ipUnit.tcOf 0) (.ip ⟨0x21, ipUnit.portMac 5, none⟩ none 0
      [0xC0A80002, ipUnit.portMac 5, 0xC0A80001, 0x21]) = true ∧
    ipUnit.takesFrame 5 (ipUnit.tcOf 0) (ipUnit.groupFrame 5 0xE0000016 0 1 1 [0xEF000001]) = true ∧
    ipUnit.takesFrame 5 (ipUnit.tcOf 0) (ipUnit.groupFrame 5 0xEF000001 0 1 2 [0xEF000001]) = true ∧
    ipUnit.takesFrame 5 (ipUnit.tcOf 0) (ipUnit.groupFrame 5 0xEFFFFFFF 9875 (ipUnit.get R.RTP_IFMASK_TTL) 3 (ipUnit.sdp 511)) = true ∧
    (∀ a ∈ ({ ipUnit with str := { State.reset.str with announced := [511] } } : State).str.announced, a = 511) ∧
    ipStale.netUp = true ∧ ipStale.speaks = true ∧ ipStale.ifPorts = [5] ∧ ipStale.str.announced = [511] ∧ ipStale.sapEntry 511 = false ∧
    ipStale.takesFrame 5 (ipStale.tcOf 0) (ipStale.groupFrame 5 0xEFFFFFFF 9875 (ipStale.get R.RTP_IFMASK_TTL) 4 [511]) = true := by
  decide +kernel

/-- An AVDECC entity whose entries 0 of both directions are enabled in AAF; what it remembers of streams. -/
def entity (str : Streams) : State :=
  { unit .ready [(R.AVD_CTRL_EN, 1, 0, 0), (R.AVD_CTRL_ADP_EN, 1, 0, 0), (R.AVD_CTRL_ACMP_EN, 1, 0, 0), (R.AVD_CTRL_AECP_EN, 1, 0, 0),
      (R.MAC_STATUS_LINK, 1, 0, 0), (R.STTX_ENTRY4_ENABLE, 1, 0, 0), (R.STTX_ENTRY4_FORMAT, 4, 0, 0), (R.STRX_ENTRY2_ENABLE, 1, 0, 0),
      (R.STRX_ENTRY2_FORMAT, 4, 0, 0), (R.STRX_ENTRY2_ACMP_BIND, 1, 0, 0), (R.BR_PORT_CFG2_BR_EGQ_LIMIT, 64, 0, 0),
      (R.MAC_FRAME_MAX_LEN, 1518, 0, 0)] with str := str }

theorem witness_AcmpRows : (entity State.reset.str).avdOn = true ∧ (entity State.reset.str).flag R.AVD_CTRL_ADP_EN = true ∧
    (entity State.reset.str).link 0 = true ∧ (entity State.reset.str).link 1 = false ∧ avd.entity = 0 ∧
    (entity State.reset.str).acmpOn avd = true ∧ (entity State.reset.str).aafTx avd.entry.val = true ∧
    (entity State.reset.str).acmpOn { avd with entry := 511 } = true ∧ (entity State.reset.str).aafTx (511 : Fin 512).val = false ∧
    (entity State.reset.str).aafRx avd.entry.val = true ∧ (entity State.reset.str).flag R.STRX_ENTRY2_ACMP_BIND avd.entry.val = true ∧
    ((entity State.reset.str).rx avd.entry.val).bound = none ∧ (entity State.reset.str).pagePending 0x20 = false ∧
    (entity State.reset.str).str.acmpWait = none ∧
    ((entity { State.reset.str with rx := [(0, { RxHid.init with bound := some 0x42 })] }).rx avd.entry.val).bound.isSome = true := by
  decide +kernel

theorem witness_AecpControl : (entity State.reset.str).aecpOn avd = true ∧ (entity State.reset.str).avdBarred avd.controller = 0 ∧
    avd.descType = 0 ∧ (entity { State.reset.str with lockOwner := some 0x99 }).aecpOn avd = true ∧
    (entity { State.reset.str with lockOwner := some 0x99 }).avdBarred avd.controller ≠ 0 ∧
    avd.controller ∈ ({ State.reset.str with unsolicited := [0x42] } : Streams).unsolicited := by decide +kernel

theorem witness_AecpReads : (entity State.reset.str).aecpOn { avd with descType := 5 } = true ∧
    (entity State.reset.str).aafRx avd.entry.val = true ∧ (entity State.reset.str).aafRx (511 : Fin 512).val = false ∧
    (entity State.reset.str).aecpOn { avd with descType := 5, entry := 511 } = true ∧
    (entity State.reset.str).aecpOn { avd with descType := 9, entry := 1 } = true ∧ (1 : Fin 512).val < 2 := by decide +kernel

/-- Its answers, and its advertisement, fit and find room. -/
theorem witness_AvdeccFrames : (entity State.reset.str).takesFrame 0 ((entity State.reset.str).tcOf 0)
      (.avdecc ⟨avdGroup, (entity State.reset.str).portMac 0, none⟩ 0 0 0 [(entity State.reset.str).entityId, 1, 31, 0]) = true ∧
    (∀ k ∈ [0, 2, 4, 12, 6, 8, 10], (entity State.reset.str).takesFrame avd.port.val ((entity State.reset.str).tcOf 0)
      ((entity State.reset.str).acmpFrame avd k 0 ((entity State.reset.str).talkerFields avd.entry.val)) = true) ∧
    (∀ k ∈ [16, 2, 3, 7, 39, 40, 5], (entity State.reset.str).takesFrame avd.port.val ((entity State.reset.str).tcOf 0)
      ((entity State.reset.str).aecpFrame avd k 0 [0, 0, 0, 0]) = true) ∧
    (∀ k ∈ [9, 15, 41, 4, 17], (entity State.reset.str).takesFrame avd.port.val ((entity State.reset.str).tcOf 0)
      ((entity State.reset.str).aecpFrame avd k 0 [0, 0, 0, 0, 0]) = true) ∧
    (∀ k ∈ [0, 5, 9], (entity State.reset.str).takesFrame avd.port.val ((entity State.reset.str).tcOf 0)
      ((entity State.reset.str).aecpFrame avd 4 ((entity State.reset.str).descriptor k 0).1 ((entity State.reset.str).descriptor k 0).2) = true) ∧
    (entity { State.reset.str with lockOwner := some 0x99 }).takesFrame avd.port.val ((entity State.reset.str).tcOf 0)
      ((entity { State.reset.str with lockOwner := some 0x99 }).aecpFrame avd 16
        ((entity { State.reset.str with lockOwner := some 0x99 }).avdBarred avd.controller) []) = true := by decide +kernel
/-! ### Witnesses: serial ports, mixer, flash, fuses, services -/

/-- A master at 48 kHz on serial port 7 in a state, with one slot in each direction. -/
def serial (state : Nat) : State := unit .run [(R.PG_CTRL_EN, 1, 0x2F, 0), (R.SP_CFG_MODE, 1, 7, 0), (R.SP_CFG_MASTER, 1, 7, 0),
  (R.SP_CFG_RATE, 0, 7, 0), (R.SP_RX_MASK_MASK, 2, 7, 0), (R.SP_TX_MASK_MASK, 1, 7, 0), (R.SP_STATUS_STATE, state, 7, 0)]

/-- A frame of that port. -/
def spf7 (waiting : Nat) (lengthOk : Bool) : SpFrame := { spf with port := 7, waiting := waiting, lengthOk := lengthOk }

theorem witness_SerialPortRows_input : (serial 3).ticking = true ∧ (serial 3).get R.SP_STATUS_STATE 7 = 3 ∧ (serial 3).spDirect 7 = true ∧
    (spf7 3 true).waiting < 4 ∧ ((serial 3).spPort 7).notBefore ≤ (spf7 3 true).began ∧ ((serial 3).spPort 7).masks = [] ∧ ((serial 3).spPort 7).maskWait = none ∧
    (serial 3).follows = false ∧ (serial 3).siOn 7 = false ∧ (serial 3).rxSlotsOf 7 = [1] ∧ (spf7 3 true).slots[1]? = some 2 ∧
    (serial 3).permits .sdma true ((serial 3).spInAddr 7 (spf7 3 true).began 1) = true ∧
    (serial 3).permits .sdma true ((serial 3).spInValid 7 (spf7 3 true).began) = true ∧ (serial 3).flag R.SP_CFG_MASTER 7 = true ∧
    (puts (serial 3) [(R.SP_CFG_MASTER, 0, 7, 0)]).flag R.SP_CFG_MASTER 7 = false ∧ (spf7 0 false).lengthOk = false ∧
    4 ≤ (spf7 4 true).waiting ∧ (spf7 4 true).lengthOk = true ∧ ((serial 3).spPort 7).ovrRun = false ∧
    (List.range 16).all (fun k => ((serial 3).siPair 7 k).endAt == none) = true ∧
    (({ serial 3 with serial := { State.reset.serial with ports := [(7, { SpHid.init with ovrRun := true })] } } : State).spPort 7).ovrRun = true := by decide +kernel

/-- The same port with the sample of index 9 present. -/
def fed : State := (serial 3).setWord ((serial 3).spOutValid 7 9) 1

theorem witness_SerialPortRows_output : (serial 2).ticking = true ∧ ((serial 2).spPort 7).notBefore ≤ (serial 2).spBegin 7 9 ∧
    ((serial 2).spPort 7).masks = [] ∧ ((serial 2).spPort 7).maskWait = none ∧
    (serial 2).permits .sdma false ((serial 2).spOutValid 7 9) = true ∧ (serial 2).get R.SP_STATUS_STATE 7 = 2 ∧ fed.get R.SP_STATUS_STATE 7 = 3 ∧
    fed.role ≠ .seating ∧ fed.role ≠ .coldStart ∧ fed.settling = false ∧ fed.spDirect 7 = true ∧ fed.txSlotsOf 7 = [0] ∧
    bitAt (fed.word (fed.spOutValid 7 9)) 0 = true ∧
    fed.permits .sdma false (fed.spOutAddr 7 9 0) = true ∧ bitAt ((serial 3).word ((serial 3).spOutValid 7 9)) 0 = false := by decide +kernel

theorem witness_SerialPortRows_clock : (puts (serial 3) [(R.SP_CFG_MASTER, 0, 7, 0)]).ticking = true ∧
    (puts (serial 3) [(R.SP_CFG_MASTER, 0, 7, 0)]).spMode 7 ≠ 0 ∧ (puts (serial 3) [(R.SP_CFG_MASTER, 0, 7, 0)]).flag R.SP_CFG_MASTER 7 = false ∧
    (serial 3).dev = .run ∧ ((serial 3).spPort 7).refused = false ∧ ((serial 3).spPort 7).clkLost = false ∧
    (serial 3).get R.SP_STATUS_STATE 7 ≠ 4 ∧ (serial 3).follows = false ∧
    (puts (serial 3) [(R.ASRC_GRP_CFG_SRC, 1, 31, 0), (R.ASRC_GRP_CFG_PORT, 7, 31, 0)]).get R.ASRC_GRP_CFG_PORT 31 = 7 ∧
    (({ serial 4 with serial := { State.reset.serial with ports := [(7, { SpHid.init with clkLost := true, good := 8 })] } } : State).spPort 7).clkLost = true ∧
    8 ≤ (({ serial 4 with serial := { State.reset.serial with ports := [(7, { SpHid.init with clkLost := true, good := 8 })] } } : State).spPort 7).good := by decide +kernel

theorem witness_SerialPortRows_groups : (unit .run).ticking = true ∧ (unit .run).follows = false ∧
    (unit .run [(R.ASRC_GRP_CFG_SRC, 2, 31, 0)]).get R.ASRC_GRP_CFG_SRC 31 = 2 ∧
    (unit .run [(R.PLL_STATUS_GATED, 0, 0, 0)]).pllmGated = false ∧ (2 ^ 32 - 1 : Nat) < 2 ^ 32 ∧
    (unit .run [(R.ASRC_GRP_STATUS_LOCK, 1, 31, 0)]).flag R.ASRC_GRP_STATUS_LOCK 31 = true := by decide +kernel

theorem witness_MixerFlashRows_copy : (unit .run).takes .hq 0x38040 = true ∧ (unit .run).flag R.XPM_STATUS_COPY_BUSY = false ∧
    (unit .run).pagePending 0x38 = false ∧ (unit .run).svcBlocked .hq 0x38 = false ∧ (unit .run).pairBlocked .hq 0x38 = false ∧ (unit .run).mirrors = false ∧
    (unit .run [(R.XPM_STATUS_COPY_BUSY, 1, 0, 0)]).flag R.XPM_STATUS_COPY_BUSY = true ∧
    Memory.wf (unit .run [(R.XPM_STATUS_COPY_BUSY, 1, 0, 0)]).mem = true ∧ (unit .run [(R.XPM_STATUS_COPY_BUSY, 1, 0, 0)]).activeBank < 2 ∧
    (unit .ready).takes .hq 0x39040 = true ∧ (unit .ready).pairBlocked .hq 0x39 = false := by decide +kernel

/-- A clip player that waits to begin, its buffer at 0x10010000; clip 5 of 100 bytes is in flash, its record holding this CRC. -/
def prefetching (crc : Nat) : State :=
  { (playing 1).setWord (localBase 0) 0x10010000 with clips := [(5, ⟨0x40000000, 100, 1, crc, false⟩)] }

theorem witness_MixerFlashRows_prefetch : ∃ d, (prefetching 0).je.cut.descs.find? (fun e => e.id == 8191 && (e.type == 0x0C || e.type == 0x0D)) = some d ∧
    (((prefetching 0).paramWords d)[0]?).getD 0 = 0x10010000 ∧
    (prefetching 0).clipOf ((prefetching 0).inst 8191).play.clip = some ⟨0x40000000, 100, 1, 0, false⟩ ∧
    ((prefetching 0).inst 8191).play.phase = 1 ∧ ((prefetching 0).inst 8191).play.loop = false ∧ (100 : Nat) ≠ 0 ∧
    ((prefetching 0).inst 8191).play.got + 100 ≤ 100 ∧
    100 ≤ 4096 - (((prefetching 0).inst 8191).play.got - min ((prefetching 0).inst 8191).play.got (clipBytes d.type ((prefetching 0).inst 8191).play.pos)) ∧
    ∀ j, j < 100 → (prefetching 0).permits .fdma false (0x40000000 + (((prefetching 0).inst 8191).play.got + j) % 100) = true ∧
      (prefetching 0).permits .fdma true (0x10010000 + (((prefetching 0).inst 8191).play.got + j) % 4096) = true :=
  ⟨⟨0, 0x0C, false, 8191, 1, 0, 0, 0, 0, 0, 0, 0, 0, [0x00, 0x00, 0x00, 0x10]⟩, by decide +kernel⟩

theorem witness_MixerFlashRows_clip : (prefetching 0).ticking = true ∧ (prefetching 0).boot.fwValid = true ∧
    Sparse.find (prefetching 0).clips 5 = some ⟨0x40000000, 100, 1, 0, false⟩ ∧ (crc32 ((prefetching 0).bytes 0x40000000 100)).toNat ≠ 0 ∧
    (crc32 ((prefetching 64128641).bytes 0x40000000 100)).toNat = 64128641 := by
  rw [crc32_run, crc32_run]
  decide +kernel

theorem witness_MixerFlashRows_flash : (unit .ready).takes .sp 0x71048 = true ∧ (unit .ready).flag R.FL_STATUS_BUSY = false ∧
    (unit .ready [(R.FL_STATUS_BUSY, 1, 0, 0), (R.FL_CMD_WRITE, 1, 0, 0)]).takes .hq 0x71048 = true ∧
    (unit .ready [(R.FL_STATUS_BUSY, 1, 0, 0), (R.FL_CMD_WRITE, 1, 0, 0)]).flag R.FL_STATUS_BUSY = true ∧
    (unit .ready [(R.FL_STATUS_BUSY, 1, 0, 0), (R.FL_CMD_WRITE, 1, 0, 0)]).flag R.FL_CMD_WRITE = true ∧ (0x1FFFFFFF : Nat) < 0x20000000 ∧
    (unit .ready [(R.FL_STATUS_BUSY, 1, 0, 0), (R.FL_CMD_LEN, 256, 0, 0)]).flag R.FL_CMD_WRITE = false ∧
    (List.replicate 256 (7 : Byte)).length ≤ 256 ∧
    (List.replicate 256 (7 : Byte)).length ≤ (unit .ready [(R.FL_STATUS_BUSY, 1, 0, 0), (R.FL_CMD_LEN, 256, 0, 0)]).get R.FL_CMD_LEN := by
  decide +kernel

/-- A fuse command under way: its operation and index, and the fuses. -/
def fuse (op index : Nat) (o : Otp) : State :=
  { unit .ready [(R.SEC_OTP_CMD_OP, op, 0, 0), (R.SEC_OTP_CMD_INDEX, index, 0, 0), (R.SEC_OTP_CMD_BUSY, 1, 0, 0)] with otp := o }

theorem witness_OtpRows_start : (unit .held).takes .hq otpAddr = true ∧ (unit .held).flag R.SEC_OTP_CMD_BUSY = false ∧
    (fuse 1 0 State.reset.otp).takes .hq otpAddr = true ∧ (fuse 1 0 State.reset.otp).flag R.SEC_OTP_CMD_BUSY = true ∧
    (unit .run).takes .hq otpAddr = true ∧ (unit .run).flag R.SEC_OTP_CMD_BUSY = false ∧ (unit .run).dev ≠ .ready ∧ (unit .run).dev ≠ .held := by
  decide +kernel

/-- Fuses with both customer keys. -/
def keys : Otp := { State.reset.otp with custHash := [(0, 1), (1, 2)], ibKey := [(3, 5)], fwMin := 32 }

theorem witness_OtpRows_end : (fuse 1 0 State.reset.otp).get R.SEC_OTP_CMD_OP = 1 ∧ State.reset.otp.usable 0 = false ∧
    State.reset.otp.usable 1 = false ∧ keys.usable 1 = true ∧ (fuse 2 2 keys).get R.SEC_OTP_CMD_OP = 2 ∧ (fuse 2 2 keys).get R.SEC_OTP_CMD_INDEX = 2 ∧
    (fuse 2 1 keys).get R.SEC_OTP_CMD_INDEX = 1 ∧ (Sparse.find keys.custHash 1).isSome = true ∧ Sparse.find State.reset.otp.custHash 1 = none ∧
    (fuse 3 1 keys).get R.SEC_OTP_CMD_OP = 3 ∧ ({ keys with revoke := 1 } : Otp).usable 1 = true ∧
    ({ keys with revoke := 1 } : Otp).usable (1 - 1) = false ∧ keys.usable (1 - 1) = true ∧ (fuse 4 3 keys).get R.SEC_OTP_CMD_OP = 4 ∧
    (Sparse.find keys.ibKey 3).isSome = true ∧ Sparse.find State.reset.otp.ibKey 3 = none ∧ (fuse 5 0 keys).get R.SEC_OTP_CMD_OP = 5 ∧
    ({ keys with fwMin := 31 } : Otp).fwMin < 32 ∧ 32 ≤ keys.fwMin ∧ (fuse 6 0 keys).get R.SEC_OTP_CMD_OP = 6 := by decide +kernel

/-- A plan with a LIVE source and an ENDPOINT, one zone, one call slot and one console. -/
def plan : Plan :=
  ⟨[⟨0, 0, false, 0, 0⟩], [⟨1, 1, 0, 3, 0, 0⟩, ⟨2, 4, 0, 3, 0, 0⟩], [⟨0, 0, [], []⟩], [], [0x300], [(0, 0)]⟩

/-- Services that run on that plan. -/
def serving (svc : Svc) : State := { unit .run [(R.XPM_CTRL_SVC_OWN, 1, 0, 0)] with svc := { svc with running := true, plan := some plan } }

/-- A request of a source that names zone 0 and, for an end or an answer, request 7. -/
def req (source : Fin 256) : SvcReq := ⟨9, source, 0, false, 0, 1, 7, 0, true⟩

/-- Request 7 as a call in slot 0 that nobody has answered. -/
def call7 : Grant := ⟨⟨7, 1, 0, false, 0, 1, 0, 0, true⟩, true, 0, none, some 0, false, false, none⟩

theorem witness_ServiceRows_admission : (unit .run).ticking = true ∧ (unit .run).boot.fwValid = true ∧ (unit .run).ownsRing = true ∧
    (unit .run).svc.running = false ∧ (unit .run).paired = false ∧ (serving State.reset.svc).ticking = true ∧ (serving State.reset.svc).boot.fwValid = true ∧
    (serving State.reset.svc).ownsRing = true ∧ (serving State.reset.svc).svc.running = true ∧ (serving State.reset.svc).svc.queue = [] ∧
    (serving State.reset.svc).svc.grants = [] ∧ (serving State.reset.svc).reqOk 1 (req 0) = true ∧
    ((serving State.reset.svc).plan.source (req 0).source.val).kind = 1 ∧ (serving State.reset.svc).svc.locks = [] ∧
    (serving State.reset.svc).room (req 0) false [] = .take none [] ∧ (serving State.reset.svc).plan.zoneList (req 0) = [0] ∧
    bitAt ((7, 2, 1) : Nat × Nat × Nat).2.2 0 = true ∧
    ((7, 2, 1) : Nat × Nat × Nat).2.1 < ((serving State.reset.svc).plan.source (req 0).source.val).prio ∧
    (serving State.reset.svc).reqOk 2 (req 1) = true ∧ ((serving State.reset.svc).plan.source (req 1).source.val).kind = 4 ∧
    (req 1).console.val < (serving State.reset.svc).plan.consoles.length ∧
    (serving State.reset.svc).room (req 1) true [] = .take (some 0) [] := by decide +kernel

theorem witness_ServiceRows_ends : (serving { State.reset.svc with grants := [call7] }).reqOk 3 (req 1) = true ∧
    (serving { State.reset.svc with grants := [call7] }).svc.grants.find? (fun h => h.req.id == (req 1).target && h.call && !h.joined) = some call7 ∧
    (serving { State.reset.svc with grants := [call7] }).reqOk 4 (req 1) = true ∧
    (serving { State.reset.svc with grants := [call7] }).svc.grants.find? (fun h => h.req.id == (req 1).target) = some call7 ∧
    (serving State.reset.svc).reqOk 5 (req 0) = true ∧
    (∀ l ∈ ([(7, 2, 2)] : List (Nat × Nat × Nat)), ∀ z ∈ plan.zoneList (req 0), bitAt l.2.2 z = false) ∧
    (serving { State.reset.svc with locks := [(7, 2, 1)] }).reqOk 6 (req 0) = true ∧
    (serving { State.reset.svc with locks := [(7, 2, 1)] }).svc.locks.find? (fun x => x.1 == (req 0).target.toNat) = some (7, 2, 1) := by
  decide +kernel

theorem witness_ServiceRows_arm : (serving { State.reset.svc with dirty := true }).svc.dirty = true ∧
    (serving { State.reset.svc with dirty := true }).pagePending 0x38 = false ∧
    (serving { State.reset.svc with dirty := true }).svc.doneAt ≠ some (serving { State.reset.svc with dirty := true }).tg ∧
    (serving { State.reset.svc with dirty := true }).flag R.XPM_STATUS_COPY_BUSY = false ∧
    (serving { State.reset.svc with dirty := true }).flag R.XPM_CTRL_SVC_OWN = true ∧
    (serving { State.reset.svc with dirty := true }).stateBlocked 0x38 = false := by decide +kernel

/-- A request that plays on player 31, whose clip has ended: the done flag stands at 0x10020000. -/
def ended : Grant := ⟨req 0, false, 0, some 31, none, false, false, some 4⟩
/-- The services with that request alone. -/
def playedOut : State :=
  { wordsAt (unit .run) [(0x10020000, 2)] with
    tg := 5
    je := { State.reset.je with cut := ⟨[⟨0, 0x0C, true, 77, 1, 0, 0, 0, 0, 0, 0, 0, 0, [0, 0, 0, 0, 0, 0, 0, 0, 0, 0, 2, 16]⟩], 1, [], []⟩ }
    svc := { State.reset.svc with running := true, grants := [ended], plan := some { plan with players := List.replicate 32 77 } } }

theorem witness_ServiceRows_clip : playedOut.svc.running = true ∧ playedOut.svc.grants = [ended] ∧ playedOut.svc.queue = [] ∧
    ended.player = some (31 : Fin 32).val ∧ playedOut.clipDone ended = true := by decide +kernel

/-! ### Witnesses: supplies, power stage, diagnostics, pairs -/

theorem witness_SupplyRows : (unit .run).powered = true ∧ (unit .run).flag R.SUP_PWR_STATUS_VIN_WARN = false ∧
    (unit .run [(R.SUP_PWR_STATUS_VIN_WARN, 1, 0, 0)]).flag R.SUP_PWR_STATUS_VIN_WARN = true ∧
    (unit .run [(R.SUP_PWR_STATUS_VIN_WARN, 1, 0, 0)]).flag R.SUP_PWR_STATUS_VIN_RESET = false ∧
    (unit .run).flag R.SUP_PWR_STATUS_VGD_WARN = false ∧ (unit .run).flag R.SUP_PWR_STATUS_CORE_WARN = false ∧
    (unit .run [(R.SUP_PWR_STATUS_VGD_WARN, 1, 0, 0)]).flag R.SUP_PWR_STATUS_VGD_WARN = true ∧
    (unit .run [(R.SUP_PWR_STATUS_CORE_WARN, 1, 0, 0)]).flag R.SUP_PWR_STATUS_CORE_WARN = true ∧ (5 : Fin 7).val ≠ 6 ∧
    (unit .run).flag (ioWarnBit (5 : Fin 7).val) = false := by decide +kernel

/-- A unit whose rail 1 is enabled and off while its input is below the reset level. -/
def shutOff (f : Fld) : State := unit .run [(f, 1, 0, 0), (R.BST_CTRL_EN, 1, 1, 0), (R.PG_CTRL_EN, 1, 0x59, 0)]

theorem witness_SupplyRows_shutdown : (unit .run).flag R.SUP_PWR_STATUS_VIN_RESET = false ∧ (unit .run).flag R.SUP_PWR_STATUS_VGD_UVLO = false ∧
    (unit .run).flag R.SUP_LOGIC_STATUS_VDD5_STOP = false ∧
    ∀ f ∈ [R.SUP_PWR_STATUS_VIN_RESET, R.SUP_PWR_STATUS_VGD_UVLO, R.SUP_LOGIC_STATUS_VDD5_STOP], (shutOff f).powered = true ∧
      (shutOff f).flag f = true ∧ (shutOff f).dev = .run ∧ (shutOff f).flag R.BST_CTRL_EN 1 = true ∧
      (shutOff f).flag R.PG_CTRL_EN (0x58 + 1) = true ∧ ((shutOff f).put f 0).gatesHeld = false ∧ ((shutOff f).rail 1).ntcShut = false ∧
      (shutOff f).get R.BST_STATUS_STATE 1 = 0 := by decide +kernel

/-- Thermistor 3, which channel 7 and rail 1 follow, with channel 7 in a state. -/
def warm (state : Nat) : State := unit .run [(R.NTC_THR_WARN_CODE, 1000, 3, 0), (R.NTC_THR_SHUT_CODE, 800, 3, 0), (R.PCH_CFG_NTC_EN, 1, 7, 0),
  (R.PCH_CFG_NTC_SEL, 3, 7, 0), (R.BST_SENSE_NTC_EN, 1, 1, 0), (R.BST_SENSE_NTC_SEL, 3, 1, 0), (R.PCH_STATUS_STATE, state, 7, 0)]

theorem witness_ThermalRows_ntc : (warm chMute).powered = true ∧ (1000 : Fin 4096).val ≤ (warm chMute).get R.NTC_THR_WARN_CODE 3 ∧
    (warm chMute).chNtc 7 3 = true ∧ (warm chMute).flag R.PCH_STATUS_THERM_LIM 7 = false ∧ (warm chMute).railNtcOn 1 3 = true ∧
    (warm chMute).get R.NTC_THR_WARN_CODE 3 < (1001 : Fin 4096).val ∧ 40 ≤ (1001 : Fin 4096).val ∧ (4000 : Fin 4096).val ≤ 4000 ∧
    (800 : Fin 4096).val ≤ (warm chMute).get R.NTC_THR_SHUT_CODE 3 ∧ ((warm chMute).ch 7).ntcShut = false ∧ (warm chMute).chState 7 = chMute ∧
    (warm chUp).chState 7 = chUp ∧ (puts (warm chMute) [(R.BST_SENSE_NTC_EN, 0, 1, 0)]).railNtcOn (7 / 4) 3 = false ∧
    (warm chMute).get R.NTC_THR_WARN_CODE 3 + 64 ≤ (1064 : Fin 4096).val := by decide +kernel

theorem witness_ThermalRows_dies : (unit .run).powered = true ∧ (unit .run).flag R.TEMP_STATUS_POWER_SHUT = false ∧
    (unit .run [(R.TEMP_STATUS_POWER_SHUT, 1, 0, 0)]).flag R.TEMP_STATUS_POWER_SHUT = true ∧ (unit .run).get R.EVT_FATAL_CAUSE = 0 ∧
    (unit .run).flag R.TEMP_STATUS_LOGIC_WARN = false ∧ (unit .run).flag R.TEMP_STATUS_POWER_WARN = false ∧
    (unit .run [(R.TEMP_STATUS_LOGIC_WARN, 1, 0, 0)]).flag R.TEMP_STATUS_LOGIC_WARN = true ∧
    4 * ((unit .run).get R.TEMP_THRESH_LOGIC_WARN : Int) - 20 < 4 * ((unit .run).get R.TEMP_THRESH_LOGIC_WARN : Int) - 19 ∧
    (unit .run).boot.fwValid = true ∧ (unit .run).svc.wdt = none ∧
    ({ unit .run with tg := 60000, svc := { State.reset.svc with wdt := some 1 } } : State).svc.wdt = some 1 ∧
    ({ unit .run with tg := 60000, svc := { State.reset.svc with wdt := some 1 } } : State).tg < 1 + 60000 := by decide +kernel

/-- Rail 1 in a state, with faults at ticks; its channel 7 plays. -/
def railed (state : Nat) (faults : List Nat) : State :=
  { unit .run [(R.BST_STATUS_STATE, state, 1, 0), (R.BST_CTRL_EN, 1, 1, 0), (R.PG_CTRL_EN, 1, 0x59, 0), (R.BST_CFG_VMIN, 14, 1, 0),
      (R.PCH_STATUS_STATE, chPlay, 7, 0)] with
    tg := 360000, power := { State.reset.power with rails := [(1, { RailHid.init with faults := faults })] } }

theorem witness_RailRows : (railed 0 []).powered = true ∧ (railed 0 []).railRuns 1 = false ∧ (railed 1 []).get R.BST_STATUS_STATE (1 : Fin 2).val = 1 ∧ (railed 1 []).railRuns 1 = true ∧ (railed 2 []).railRuns 1 = true ∧
    ((railed 2 [1, 0]).railRecent 1).length < 2 ∧ 2 ≤ ((railed 2 [2, 1]).railRecent 1).length ∧
    switching ((railed 2 []).chState (4 * 1 + 3)) = true ∧ (railed 3 []).get R.BST_STATUS_STATE 1 = 3 ∧
    (railed 3 []).get R.BST_STATUS_CAUSE 1 ≠ 4 ∧ (railed 3 []).dev = .run ∧ (railed 3 []).flag R.BST_CTRL_EN 1 = true ∧
    (railed 3 []).flag R.PG_CTRL_EN (0x58 + 1) = true ∧ (railed 3 []).gatesHeld = false ∧ ((railed 3 []).rail 1).ntcShut = false ∧
    (railed 3 []).get R.SUP_VIN_MEAS_VOLTS * 10000 < (railed 3 []).vmin 1 ∧ (railed 4 []).takes .hq (0x58040 + 0x1000 * 1) = true ∧
    (puts (railed 4 []) [(R.BST_CTRL_EN, 0, 1, 0)]).get R.BST_STATUS_STATE 1 = 4 ∧
    (puts (railed 4 []) [(R.BST_CTRL_EN, 0, 1, 0)]).flag R.BST_CTRL_EN 1 = false ∧ (railed 3 []).get R.BST_STATUS_STATE 1 ≠ 4 ∧
    (railed 4 []).powered = true := by decide +kernel

/-- Channel 7 in a state, on, with its rail in TRACK and the hidden state given. -/
def channel (state : Nat) (x : PchHid) (l : List (Fld × Nat × Nat × Nat) := []) : State :=
  { unit .run ([(R.PCH_STATUS_STATE, state, 7, 0), (R.PCH_CTRL_ON, 1, 7, 0), (R.PG_CTRL_EN, 1, 0x57, 0), (R.BST_STATUS_STATE, 2, 1, 0)] ++ l) with
    power := { State.reset.power with ch := [(7, x)] } }

theorem witness_ChannelRows_gain : (channel chPlay { PchHid.init with dir := 1 }).powered = true ∧
    (channel chPlay { PchHid.init with dir := 1 }).clockError = false ∧ (channel chPlay { PchHid.init with dir := 1 }).chState 7 = chPlay ∧
    ((channel chPlay { PchHid.init with dir := 1 }).ch 7).dir = 1 ∧
    ((channel chPlay { PchHid.init with dir := 2, gainEnd := .toDown }).ch 7).gainEnd = .toDown ∧
    ((channel chPlay { PchHid.init with dir := 2, gainEnd := .toMute }).ch 7).dir = 2 ∧
    (channel chPlay { PchHid.init with dir := 2, gainEnd := .toMute } [(R.PCH_CTRL_MUTE, 1, 7, 0)]).muteWanted 7 = true := by decide +kernel

theorem witness_ChannelRows_cm : (channel chUp PchHid.init).powered = true ∧ (channel chUp PchHid.init).clockError = false ∧
    (channel chUp PchHid.init).chState 7 = chUp ∧ (channel chUp PchHid.init [(R.PCH_CTRL_MUTE, 0, 7, 0)]).muteWanted 7 = false ∧
    (channel chDown PchHid.init).chState 7 = chDown ∧ ((channel chDown PchHid.init).ch 7).stopTo = 0 ∧
    ({ channel chDiag PchHid.init with diag := ⟨2, [], some 7, 2, []⟩ } : State).chState 7 = chDiag ∧
    ({ channel chDiag PchHid.init with diag := ⟨2, [], some 7, 2, []⟩ } : State).diag.cur = some (7 : Fin 8).val ∧
    ({ channel chDiag PchHid.init with diag := ⟨2, [], some 7, 2, []⟩ } : State).diag.step = 2 := by decide +kernel

theorem witness_ChannelRows_retry : ({ channel chLatched PchHid.init with dev := .ready } : State).takes .hq (0x50040 + 0x1000 * 7) = true ∧
    ({ channel chLatched PchHid.init with dev := .ready } : State).runs = false ∧
    ({ channel chLatched PchHid.init with dev := .ready } : State).chState 7 = chLatched ∧ (channel chRetry PchHid.init).chState 7 = chRetry ∧
    (channel chRetry PchHid.init).get R.PCH_STATUS_CAUSE 7 ≠ 5 ∧ (channel chRetry PchHid.init).get R.PCH_STATUS_CAUSE 7 ≠ 6 ∧
    (channel chRetry PchHid.init).runs = true ∧ (channel chRetry PchHid.init).chOn 7 = true ∧ (channel chRetry PchHid.init).railTracks 7 = true ∧
    (channel chRetry PchHid.init [(R.PCH_CTRL_ON, 0, 7, 0)]).chOn 7 = false ∧ ((channel chPlay PchHid.init).ch 7).limAt ≠ some 0 ∧
    (channel chPlay PchHid.init).power.limTick = none ∧ (channel chPlay PchHid.init).chDriven 7 = true ∧
    ((channel chPlay PchHid.init).ch 7).slipped = false ∧ ((channel chPlay { PchHid.init with slipped := true }).ch 7).slipped = true ∧
    ((channel chPlay { PchHid.init with mod := 1 }).ch 7).mod = 1 ∧
    (channel chPlay { PchHid.init with mod := 1 } [(R.PCH_STATUS_OPEN_LOOP, 0, 7, 0)]).flag R.PCH_STATUS_OPEN_LOOP 7 = false := by decide +kernel

theorem witness_ChannelFaults_sweep : ∀ k, k = 2 ∨ k = 9 →
    ({ channel chDiag PchHid.init with diag := ⟨2, [], some 7, k, []⟩ } : State).chState 7 = chDiag ∧
    ({ channel chDiag PchHid.init with diag := ⟨2, [], some 7, k, []⟩ } : State).chDriven 7 = true ∧
    ({ channel chDiag PchHid.init with diag := ⟨2, [], some 7, k, []⟩ } : State).diag.cur = some (7 : Fin 8).val ∧
    2 ≤ ({ channel chDiag PchHid.init with diag := ⟨2, [], some 7, k, []⟩ } : State).diag.step ∧
    ({ channel chDiag PchHid.init with diag := ⟨2, [], some 7, k, []⟩ } : State).diag.step ≤ 9 := by
  rintro k (rfl | rfl) <;> decide +kernel

theorem witness_ChannelFaults : (channel chPlay PchHid.init).chDriven 7 = true ∧ (channel chDown PchHid.init).powered = true ∧ switching ((channel chUp PchHid.init).chState 7) = true ∧
    switching ((channel chDown PchHid.init).chState 7) = true ∧ (channel chDown PchHid.init).diag.cur ≠ some (7 : Fin 8).val ∧
    ((channel chPlay PchHid.init).ch 7).retried = false ∧ ((channel chPlay { PchHid.init with retried := true }).ch 7).retried = true ∧
    (channel chPlay PchHid.init [(R.PCH_STATUS_RETRY_NUM, 1, 7, 0)]).get R.PCH_STATUS_RETRY_NUM 7 < 2 ∧
    2 ≤ (channel chPlay PchHid.init [(R.PCH_STATUS_RETRY_NUM, 2, 7, 0)]).get R.PCH_STATUS_RETRY_NUM 7 ∧
    (channel chPlay PchHid.init [(R.PCH_STATUS_OPEN_LOOP, 0, 7, 0), (R.PCH_CFG_AUTO_FB, 1, 7, 0)]).flag R.PCH_STATUS_OPEN_LOOP 7 = false ∧
    ((channel chPlay PchHid.init).ch 7).mod ≠ 2 ∧
    (channel chPlay PchHid.init [(R.PCH_STATUS_OPEN_LOOP, 0, 7, 0), (R.PCH_CFG_AUTO_FB, 1, 7, 0)]).flag R.PCH_CFG_AUTO_FB 7 = true := by decide +kernel

theorem witness_DieLinkRows : (unit .run).powered = true ∧ ({ unit .run with power := { State.reset.power with badFrames := 14 } } : State).power.badFrames < 15 ∧
    15 ≤ ({ unit .run with power := { State.reset.power with badFrames := 15 } } : State).power.badFrames ∧
    ({ unit .run with power := { State.reset.power with linkLost := true } } : State).power.linkLost = true ∧ (unit .run).dev ≠ .safe ∧
    (unit .run).power.linkLost = false ∧ (unit .run).power.pllLost = false ∧ (unit .run [(R.PLL_STATUS_GATED, 1, 0, 0)]).pllmGated = true := by
  decide +kernel

theorem witness_DiagRows_start : (unit .run).takes .hq 0x5a040 = true ∧ (unit .run).flag R.DIAG_CMD_BUSY = false ∧ (unit .run).dev = .run ∧
    (128 : Fin 256).val = 2 ^ (7 : Fin 8).val ∧ (unit .run).chState 7 = chOff ∧
    (unit .run [(R.DIAG_CMD_BUSY, 1, 0, 0)]).takes .hq 0x5a040 = true ∧ (unit .run [(R.DIAG_CMD_BUSY, 1, 0, 0)]).flag R.DIAG_CMD_BUSY = true := by
  decide +kernel

/-- Channel 7 in DIAG with a DC test, or in an operation at a step. -/
def testing (test op step : Nat) : State :=
  { channel chDiag { PchHid.init with test := test } [(R.DIAG_CFG_SHORT_OHMS, 10, 0, 0)] with diag := ⟨op, [], if op = 0 then none else some 7, step, []⟩ }

theorem witness_DiagRows_results : (testing 3 1 1).powered = true ∧ (testing 3 1 1).chState 7 = chDiag ∧ (65535 : Nat) < 65536 ∧
    ((testing 3 1 1).ch 7).test = 3 ∧ (testing 3 1 1).diag.op = 1 ∧ ((testing 1 0 0).ch 7).test = 1 ∧
    (testing 1 0 0).diag.cur ≠ some (7 : Fin 8).val ∧ ((testing 1 0 0).ch 7).retried = false ∧ (testing 1 0 0).dcClass 7 0 false = 2 ∧
    (testing 0 2 3).clockError = false ∧ (testing 0 2 3).diag.cur = some 7 ∧ (testing 0 2 3).diag.step = 3 + 0 ∧ (testing 0 2 7).diag.step = 3 + 4 ∧
    ({ testing 0 2 10 with dev := .ready } : State).dev = .ready ∧ ({ testing 0 2 10 with dev := .ready } : State).diag.step = 10 ∧
    ({ testing 0 2 10 with dev := .ready } : State).diag.tones = [] ∧ ({ testing 0 2 10 with dev := .ready } : State).diag.left = [] := by
  decide +kernel

/-- Channel 7 playing at the end of a pilot window that opened at tick `winAt`, counted as run. -/
def piloting (winAt : Nat) : State :=
  { channel chPlay { PchHid.init with winAt := winAt } [(R.DIAG_PILOT_EN, 128, 0, 0)] with tg := 1540, tickNum := 1536 }

theorem witness_DiagRows_window : (piloting 4).ticking = true ∧ (piloting 4).bit R.DIAG_PILOT_EN 7 = true ∧ (piloting 4).tickNum % 1536 = 0 ∧
    ((piloting 4).ch 7).winAt ≠ (piloting 4).tg ∧ (piloting 4).tg = ((piloting 4).ch 7).winAt + 1536 ∧ ((piloting 4).ch 7).base = none ∧
    ((piloting 4).ch 7).pilotBad = false ∧ (piloting 4).chState 7 = chPlay ∧ (piloting 4).clockError = false ∧
    (piloting 4).flag R.DIAG_BASE_CTRL_VALID 7 = false ∧ ((piloting 1540).ch 7).winAt = (piloting 1540).tg ∧
    ({ piloting 4 with tickNum := 1537 } : State).tickNum % 1536 ≠ 0 := by decide +kernel

theorem witness_DiagRows_pilot : (channel chPlay PchHid.init [(R.DIAG_PILOT_EN, 128, 0, 0)]).ticking = true ∧
    (channel chPlay PchHid.init [(R.DIAG_PILOT_EN, 128, 0, 0)]).bit R.DIAG_PILOT_EN 7 = true ∧ ((channel chPlay PchHid.init).ch 7).pilotBad = false ∧
    (channel chPlay PchHid.init).clockError = false ∧ (channel chPlay PchHid.init).flag R.DIAG_BASE_CTRL_VALID 7 = false := by decide +kernel

/-- A paired unit in a role and device state, which sees its partner on both paths. -/
def pair (d : Dev) (role : Role) (partner : Nat) (l : List (Fld × Nat × Nat × Nat) := []) (b : Brace := State.reset.brace) : State :=
  { unit d ([(R.BRACE_CFG_PAIR_EN, 1, 0, 0), (R.BRACE_STATUS_BRACE_PRESENT, 1, 0, 0), (R.BRACE_STATUS_NET_PRESENT, 1, 0, 0),
      (R.BRACE_STATUS_PARTNER_ROLE, partner, 0, 0), (R.PLL_STATUS_GATED, 0, 2, 0), (R.MAC_STATUS_LINK, 1, 1, 0)] ++ l) with role := role, brace := b }

/-- The sixth valid brace frame in a row comes. -/
def sixth : State := { pair .run .seating 0 [(R.BRACE_STATUS_BRACE_PRESENT, 0, 0, 0)] { State.reset.brace with last := some 4, run := 5 } with tg := 5 }

theorem witness_BraceRows_frame : (pair .run .inStep 1).braceOn = true ∧ (pair .run .inStep 1).braceLane = true ∧ sixth.braceLane = true ∧ ({ bf with leadOk := false } : BraceFrame).leadOk = false ∧ bf.leadOk = true ∧
    ({ bf with restOk := false } : BraceFrame).restOk = false ∧
    ({ bf with device := 1023 } : BraceFrame).device ≠ (pair .run .inStep 1).get R.BRACE_CFG_PARTNER_ID ∧ sixth.braceOn = true ∧
    bf.restOk = true ∧ bf.device = sixth.get R.BRACE_CFG_PARTNER_ID ∧ bf.role = 3 ∧ bf.notice = false ∧ bf.digest = none ∧ sixth.role ≠ .active ∧
    sixth.role ≠ .detached ∧ sixth.flag R.BRACE_STATUS_BRACE_PRESENT = false ∧ sixth.brace.last = some 4 ∧ sixth.tg = 4 + 1 ∧ 5 ≤ sixth.brace.run := by
  decide +kernel

theorem witness_BraceRows_paths : (pair .run .inStep 1).flag R.BRACE_STATUS_BRACE_PRESENT = true ∧
    (pair .run .inStep 1).flag R.BRACE_STATUS_NET_PRESENT = true ∧ (pair .run .inStep 1).seating = false ∧ (pair .run .inStep 1).ringUp = true ∧
    (pair .run .inStep 1 [(R.BRACE_STATUS_BRACE_PRESENT, 0, 0, 0)]).flag R.BRACE_STATUS_BRACE_PRESENT = false ∧
    (pair .run .inStep 1).brace.lost = false ∧ (pair .run .inStep 1).beatOk hb = false ∧
    hb.device = (pair .run .inStep 1).get R.BRACE_CFG_PARTNER_ID ∧ hb.notice = false ∧ hb.role < 6 ∧ (pair .run .inStep 1).role ≠ .active := by
  decide +kernel

/-- The same unit with a key in slot 0. -/
def keyedPair : State :=
  { pair .run .inStep 1 [(R.SEC_IB_CTRL_SLOT_EN, 1, 0, 0)] with otp := { State.reset.otp with ibKey := [(0, 5)] } }

/-- A heartbeat with the tag that the key gives it. -/
def taggedBeat (h : Heartbeat) : Heartbeat :=
  { h with tag := Config.cmac64 5#128 (ocdorBytes 1 5 0 0 0 6 beatAddr h.session.toNat h.count.toNat
    (beatWords h.device h.role h.dev h.tick h.notice)) }

/-- Whatever the MAC computes, the first heartbeat tagged with it is right. -/
theorem beatOk_tagged (h : Heartbeat) (z : h.slot = 0) : keyedPair.beatOk (taggedBeat h) = true := by
  have key : keyedPair.ibKey 0 = some 5#128 := by decide +kernel
  have en : keyedPair.bit R.SEC_IB_CTRL_SLOT_EN 0 = true := by decide +kernel
  have beat : keyedPair.brace.beat = none := by decide +kernel
  simp [State.beatOk, key, en, beat, taggedBeat, beatWords, z]

theorem witness_BraceRows_beats : keyedPair.braceOn = true ∧ keyedPair.beatOk (taggedBeat hb) = true ∧
    keyedPair.beatOk (taggedBeat { hb with device := 1023 }) = true ∧
    (taggedBeat { hb with device := 1023 }).device ≠ keyedPair.get R.BRACE_CFG_PARTNER_ID ∧
    (taggedBeat hb).device = keyedPair.get R.BRACE_CFG_PARTNER_ID ∧ (taggedBeat hb).notice = false ∧ (taggedBeat hb).role < 6 ∧
    keyedPair.role ≠ .active :=
  ⟨by decide +kernel, beatOk_tagged hb rfl, beatOk_tagged _ rfl, by decide +kernel, by decide +kernel, rfl, by decide, by decide +kernel⟩

/-- A paired unit whose heartbeat leaves by port 0. -/
def beating : State := pair .run .inStep 1 [(R.MAC_STATUS_LINK, 1, 0, 0), (R.MAC_STATUS_LINK, 0, 1, 0), (R.BR_PORT_CFG2_BR_EGQ_LIMIT, 64, 0, 0),
  (R.MAC_FRAME_MAX_LEN, 1518, 0, 0), (R.BR_BUF_SIZE_PAGES, 4096, 0, 0), (R.BR_PORT_CFG2_RES_PAGES, 16, 0, 0)]

/-- What the MAC computes has no part in whether a port takes the frame. -/
theorem witness_BraceRows_heartbeat (tag : BitVec 64) : beating.braceOn = true ∧ beating.tickNum % 6 = 0 ∧ beating.link 0 = true ∧
    beating.link 1 = false ∧ beating.takesFrame 0 (beating.tcOf (beating.get R.BRACE_HB_CFG_PCP)) (.ocdor
      ⟨0, beating.portMac 0, some (beating.get R.BRACE_HB_CFG_VID, beating.get R.BRACE_HB_CFG_PCP)⟩ none beating.hbSlot 5 0 0 6 0x60000
      (beating.get R.SEC_IB_SESSION_SESSION) 1 [0, 3, 4, 0, 0, 0] tag) = true ∧ ({ beating with tickNum := 1 } : State).tickNum % 6 ≠ 0 := by
  refine ⟨by decide +kernel, by decide +kernel, by decide +kernel, by decide +kernel, ?_, by decide +kernel⟩
  have h : ∀ w : Wire, w.len = 74 → w.tags = 1 → beating.takesFrame 0 (beating.tcOf (beating.get R.BRACE_HB_CFG_PCP)) w = true := by
    intro w l t
    unfold State.takesFrame
    rw [l, t]
    decide +kernel
  exact h _ rfl rfl

theorem witness_BraceRows_roles : (pair .ready .seating 0).paired = true ∧ (pair .ready .seating 0).role = .seating ∧
    (pair .ready .seating 0).heardNow = false ∧ (pair .ready .active 3).takes .hq 0x60040 = true ∧ (pair .ready .active 3).pairInStep = true ∧
    (pair .ready .active 2).pairInStep = false ∧
    (pair .ready .inStep 1).takes .hq 0x60040 = true ∧ (pair .ready .inStep 1).role ≠ .active := by decide +kernel

theorem witness_ReseatRelayRows_start : (pair .run .active 3).seatReady = false ∧ (pair .run .active 2 [] { State.reset.brace with ptnDev := 4 }).seatReady = true ∧
    (pair .run .seating 1 [(R.PLUMB_STATUS_STATE, 2, 0, 0), (R.PLUMB_STATUS_SEL, 7, 0, 0), (R.REF_CFG_SOURCE, 8, 7, 0)]).seatReady = true ∧
    (pair .run .seating 1).role = .seating ∧ (pair .run .seating 1).brace.saved = none ∧ (pair .run .active 2).role = .active := by decide +kernel

/-- A unit in a phase of a re-seat, the FINAL boundary being tick 4. -/
def seatingAt (role : Role) (phase : Nat) : State :=
  { pair .run role 2 [(R.BRACE_SEAT_STATUS_PHASE, phase, 0, 0)] { State.reset.brace with finalAt := some 4 } with tg := 6 }

theorem witness_ReseatRelayRows_rounds : (seatingAt .active 2).seatPhase = 2 ∧ (seatingAt .active 2).role = .active ∧ (255 : Nat) < 256 ∧
    (seatingAt .active 3).seatPhase = 3 ∧ (seatingAt .active 3).brace.finalAt = some 4 ∧ 4 + 2 ≤ (seatingAt .active 3).tg ∧ ({ seatingAt .active 3 with win := .kerf } : State).win = .kerf ∧ (seatingAt .active 3).win ≠ .kerf ∧
    ({ seatingAt .active 3 with tg := 5 } : State).tg < 4 + 2 ∧
    (seatingAt .seating 3).role = .seating ∧ (seatingAt .seating 3).seatPhase = 3 ∧ (seatingAt .seating 3).win = .overhead ∧
    ({ seatingAt .seating 3 with win := .window } : State).win ≠ .overhead ∧ (seatingAt .seating 3).seating = true ∧
    (pair .run .coldStart 0).role = .coldStart := by decide +kernel

/-- Relay 3, which serves channel 7, at a step. -/
def relaying (step chState : Nat) (on : Nat) : State :=
  pair .run .active 3 [(R.BRACE_RELAY_CFG_TARGET, 128, 3, 0), (R.PCH_STATUS_STATE, chState, 7, 0), (R.PCH_CTRL_ON, on, 7, 0),
    (R.BRACE_RELAY_STATUS_PHASE, 2, 3, 0), (R.BRACE_RELAY_STATUS_ENERGISED, 1, 3, 0)] { State.reset.brace with relays := [(3, ⟨step, false, []⟩)] }

theorem witness_ReseatRelayRows_relays : (relaying 4 chPlay 1).ticking = true ∧ ((relaying 4 chPlay 1).relay (3 : Fin 4).val).step = 4 ∧
    (relaying 4 chPlay 1).relayTargets 3 = [7] ∧ (relaying 4 chPlay 1).chState 7 ≠ chLatched ∧ (relaying 4 chPlay 1).chState 7 ≠ chRetry ∧
    (relaying 4 chPlay 1).flag R.PCH_CTRL_ON 7 = true ∧ (relaying 0 chOff 0).role = .active ∧
    (relaying 0 chOff 0).get R.BRACE_STATUS_PARTNER_ROLE = 3 ∧ (relaying 0 chOff 0).get R.BRACE_RELAY_STATUS_PHASE 3 = 2 ∧
    (relaying 0 chOff 0).flag R.BRACE_RELAY_STATUS_ENERGISED 3 = true ∧ ((relaying 1 chLatched 1).relay 3).step = 1 ∧ ((relaying 1 chLatched 1).relay 3).owe = [] ∧
    (∀ n ∈ (relaying 1 chLatched 1).relayTargets 3, (relaying 1 chLatched 1).chState n = chOff ∨ (relaying 1 chLatched 1).chState n = chLatched ∨
      (relaying 1 chLatched 1).chState n = chRetry) ∧ ((relaying 2 chOff 0).relay 3).step = 2 ∧ (relaying 2 chOff 0).chState 7 = chOff ∧
    (relaying 2 chOff 0).flag R.PCH_CTRL_ON 7 = false := by decide +kernel

/-! ### Single steps, with the results that the spec states -/

/-- The check value of the IEEE 802.3 CRC over "123456789", and that of CRC-16/CCITT-FALSE, as their definitions publish them (R421, R143). -/
theorem test_crc_check_values : (crc32 [0x31, 0x32, 0x33, 0x34, 0x35, 0x36, 0x37, 0x38, 0x39]) = 0xCBF43926#32 ∧
    crc16 [0x31, 0x32, 0x33, 0x34, 0x35, 0x36, 0x37, 0x38, 0x39] = 0x29B1#16 := by decide +kernel

/-- R429: START in READY is under way until the next boundary; in RUN it is refused with EV_HOST_ERR. -/
theorem test_start : (after (.start .hq) (unit .ready)).op = .starting ∧ (after (.start .hq) (unit .run)).sticky EV_HOST_ERR = true := by
  decide +kernel

/-- R432: SLEEP in READY is entered at once; R433: a pin named in SYS_GP_WAKE wakes the unit and records itself. -/
theorem test_sleep_and_wake : (after (.sleep .hq) (unit .ready)).dev = .sleep ∧ (after (.gpWake 15 true) sleeping).get R.SYS_WAKE_CAUSE_GP = 15 := by
  decide +kernel

/-- R61: a write of a shadowed register changes the shadow, and a read returns it, while the value in force stays. -/
theorem test_shadow_write : (after (.registerWrite .hq 0x23044#32 0xC0A80002#32) (unit .run)).get R.RTP_IPADDR_ADDR = 0 ∧
    (after (.registerWrite .hq 0x23044#32 0xC0A80002#32) (unit .run)).shGet R.RTP_IPADDR_ADDR = 0xC0A80002 := by decide +kernel

/-- R435: a QSPI read returns the word that stands there, bytes little-endian (R449). -/
theorem test_qspi_read : (after (.qspiRead tx) ((unit .run).setBytes 0x10000000 [0x11, 0x22, 0x33, 0x44])).wire = [.qspi [0x44332211]] := by
  decide +kernel

/-- R480: a counter at its largest value stays there and sets SAT_SEEN. -/
theorem test_counter_saturates : ((unit .run [(R.PROT_DENY_CNT, 2 ^ 32 - 1, 0, 0)]).deny .hq true 0).get R.PROT_DENY_CNT = 2 ^ 32 - 1 ∧
    ((unit .run [(R.PROT_DENY_CNT, 2 ^ 32 - 1, 0, 0)]).deny .hq true 0).flag R.PG_STATUS_SAT_SEEN (R.PROT_DENY_CNT.pageOf 0) = true := by
  decide +kernel

/-- R458 to R460: a storm in RUN is due SAFE, records its cause and holds IRQ0_N. -/
theorem test_fatal_storm : (after (.fatalFault .storm) (unit .run)).safeWait = true ∧
    (after (.fatalFault .storm) (unit .run)).irq 0 = true := by decide +kernel

/-- R442: a key command programs its own field, once. -/
theorem test_otp_key_once : (after (.otpCmdDone true) (fuse 4 3 State.reset.otp)).get R.SEC_OTP_RESULT_RESULT = 0 ∧
    (after (.otpCmdDone true) (fuse 4 3 keys)).get R.SEC_OTP_RESULT_RESULT = 1 := by decide +kernel

/-- R127, R125: a frame of 63 bytes is a runt and is not forwarded. -/
theorem test_runt : (after (.macFrameRx 7 { frame with bytes := List.replicate 63 0 }) (linked [])).get R.RUNT_CNT 7 = 1 ∧
    (after (.macFrameRx 7 { frame with bytes := List.replicate 63 0 }) (linked [])).net.egr = [] := by decide +kernel

/-- R139: the coordinator's cycle starts with its BEACON. -/
theorem test_plca_beacon : (after (.plcaBeaconTx 1) (plca 0)).wire = [.net 7 .beacon] ∧ (after (.plcaBeaconTx 1) (plca 1)).wire = [] := by
  decide +kernel

/-- R94, R95: the received sample stands at its index in house format, the 16 payload bits at the top of the word. -/
theorem test_avtp_sample : (after (.avtpRx { aaf with frames := [[0x8001]] }) (receiving 1 rxRunning)).word
    ((receiving 1 rxRunning).ringAddr 511 64 0) = 0x80010000 := by decide +kernel

/-- R228, R233: a 16-bit slot's sample stands at the top of its word, with its valid bit. -/
theorem test_serial_input : (after (.spFrameRx (spf7 0 true)) (serial 3)).spValid 7 5 1 = true := by decide +kernel

/-- R313: a DC fault latches at once; R312: CLEAR takes the channel to OFF. -/
theorem test_dc_fault_latches : (after (.dcFault 7) (channel chPlay PchHid.init)).chState 7 = chLatched ∧
    (after (.pchClear .hq 7) { channel chLatched PchHid.init with dev := .ready }).chState 7 = chOff := by decide +kernel

/-- R321: the third fault within 60 s latches the rail. -/
theorem test_third_rail_fault_latches : (after (.boostUvp 1) (railed 2 [2, 1])).get R.BST_STATUS_STATE 1 = 4 ∧
    (after (.boostUvp 1) (railed 2 [1, 0])).get R.BST_STATUS_STATE 1 = 3 := by decide +kernel

/-- R324: VIN_RESET takes a playing channel to OFF and leaves a latched one. -/
theorem test_vin_reset : (after .vinReset (channel chPlay PchHid.init)).chState 7 = chOff ∧
    (after .vinReset (channel chLatched PchHid.init)).chState 7 = chLatched := by decide +kernel

/-- R381: a heartbeat whose authentication fails is dropped with its event. -/
theorem test_heartbeat_refused : (after (.networkHeartbeatRx hb) (pair .run .inStep 1)).sticky EV_INBAND_AUTH_FAIL = true := by
  decide +kernel

/-- R357: the services' arm queues one commit of the XPM page. -/
theorem test_service_arm : (after .serviceCommitArm (serving { State.reset.svc with dirty := true })).queue = [⟨[0x38], true, .queued, none⟩] := by
  decide +kernel

end Sys2Proof.Tests
end

/-! PROOFS. The sample path's statements: the device states (O7), the admission of commands (O15), resets (O19), the die link (O57). -/

namespace Sys2Proof.Machine

/-! ### The commands that only apply plain operations -/

/-- The commands that may change the device state, the operation under way, a pending SAFE entry, the fuses or the ticks run. -/
def modeRow : Instr → Bool
  | .porstNRise _ _ | .porstNLow _ | .vddCoreReset | .wrstNPulse _ | .wreset _ _ | .bootRomStart _ | .firmwareLoaded _ | .imageReadDone _
  | .imageValidationDone _ | .start _ | .startValidationDone | .stop _ | .stopDone | .load _ | .loadValidationDone _ | .sleep _
  | .wakeFilterMatch _ _ | .gpWake _ _ | .qspiWake | .wakeDone | .tickBoundary _ _ | .commitTakeEffect | .registerWrite _ _ _
  | .qspiWrite _ | .qspiQwrite _ | .ocdorWrite _ | .selfReset _ | .safeEntry | .autoWarmReset _ | .flashReadTimeout _ | .otpCmdDone _
  | .vddCoreResetClear _ => true
  | _ => false

/-- Every other command respects each relation of Laws/Closed.lean. -/
theorem exec_closed {Q : State → State → Prop} (H : Closed Q) {c : Instr} {s t : State} (hc : modeRow c = false)
    (h : exec c s = .next t) : Q s t := by
  cases c with
  | serviceFirmwareStart => exact execServiceFirmwareStart_closed H h
  | evtRawExpiry _ => exact execEvtRawExpiry_closed H h
  | cutListWindowStart _ _ => exact execCutListWindowStart_closed H h
  | presenceAgreement => exact execPresenceAgreement_closed H h
  | engineDeadline _ => exact execEngineDeadline_closed H h
  | reepoch _ => exact execReepoch_closed H h
  | cntClr _ _ => exact execCntClr_closed H h
  | srst _ _ => exact execSrst_closed H h
  | arm _ _ => exact execArm_closed H h
  | groupCommit _ => exact execGroupCommit_closed H h
  | commitValidated => exact execCommitValidated_closed H h
  | fenceStart _ => exact execFenceStart_closed H h
  | fenceDone _ => exact execFenceDone_closed H h
  | qspiRead _ => exact execQspiRead_closed H h
  | qspiQread _ => exact execQspiQread_closed H h
  | qspiStatus => exact execQspiStatus_closed H h
  | ocdorRead _ => exact execOcdorRead_closed H h
  | ocdorFence _ => exact execOcdorFence_closed H h
  | ocdorSubscribe _ => exact execOcdorSubscribe_closed H h
  | refLockout _ _ _ => exact execRefLockout_closed H h
  | refQualified _ => exact execRefQualified_closed H h
  | wtrExpiry => exact execWtrExpiry_closed H h
  | acquireDone => exact execAcquireDone_closed H h
  | holdEstUpdate bare => exact execHoldEstUpdate_closed (_bare := bare) H h
  | ppsInEdge _ _ => exact execPpsInEdge_closed H h
  | ppsInAbsent => exact execPpsInAbsent_closed H h
  | wclkInEdge _ _ _ => exact execWclkInEdge_closed H h
  | clkoutAlign _ _ => exact execClkoutAlign_closed H h
  | pllRefLost _ => exact execPllRefLost_closed H h
  | pllFlockSet _ _ => exact execPllFlockSet_closed H h
  | pllFlockClear _ _ => exact execPllFlockClear_closed H h
  | pllPlockSet _ _ => exact execPllPlockSet_closed H h
  | pllPlockClear _ _ => exact execPllPlockClear_closed H h
  | pllmCeilingTrip _ => exact execPllmCeilingTrip_closed H h
  | pllmUngate => exact execPllmUngate_closed H h
  | clkMuteRelease => exact execClkMuteRelease_closed H h
  | pllmCal _ => exact execPllmCal_closed H h
  | pllmCalDone _ => exact execPllmCalDone_closed H h
  | pllmBandRetry => exact execPllmBandRetry_closed H h
  | fatalFault _ => exact execFatalFault_closed H h
  | spWatchdogExpiry => exact execSpWatchdogExpiry_closed H h
  | macFrameRx _ _ => exact execMacFrameRx_closed H h
  | pauseRefresh _ => exact execPauseRefresh_closed H h
  | pauseCancel _ => exact execPauseCancel_closed H h
  | pauseRx _ _ => exact execPauseRx_closed H h
  | pauseTimerExpiry _ _ => exact execPauseTimerExpiry_closed H h
  | linkUp _ _ _ => exact execLinkUp_closed H h
  | linkDown _ => exact execLinkDown_closed H h
  | phyPoll _ _ => exact execPhyPoll_closed H h
  | mdioC22Read _ _ _ => exact execMdioC22Read_closed H h
  | mdioC22Write _ _ _ => exact execMdioC22Write_closed H h
  | mdioC45Address _ _ _ => exact execMdioC45Address_closed H h
  | mdioC45Write _ _ _ => exact execMdioC45Write_closed H h
  | mdioC45Read _ _ _ => exact execMdioC45Read_closed H h
  | mdioDone _ => exact execMdioDone_closed H h
  | plcaBeaconTx _ => exact execPlcaBeaconTx_closed H h
  | plcaBeaconRx _ => exact execPlcaBeaconRx_closed H h
  | plcaTxOpportunity _ => exact execPlcaTxOpportunity_closed H h
  | plcaBeaconLost _ => exact execPlcaBeaconLost_closed H h
  | plcaCollision _ => exact execPlcaCollision_closed H h
  | fdbLookup _ => exact execFdbLookup_closed H h
  | fdbAddStatic _ => exact execFdbAddStatic_closed H h
  | fdbDelete _ => exact execFdbDelete_closed H h
  | fdbFlushDynamic _ => exact execFdbFlushDynamic_closed H h
  | fdbCmdDone => exact execFdbCmdDone_closed H h
  | fdbAgeOut _ _ => exact execFdbAgeOut_closed H h
  | hostFrameSubmit _ _ => exact execHostFrameSubmit_closed H h
  | tasConfigChange _ => exact execTasConfigChange_closed H h
  | tasGateAdvance _ => exact execTasGateAdvance_closed H h
  | tsnFilterUnblock _ _ => exact execTsnFilterUnblock_closed H h
  | frerResetTimeout _ => exact execFrerResetTimeout_closed H h
  | ptpSyncRx _ _ => exact execPtpSyncRx_closed H h
  | ptpFollowUpRx _ _ => exact execPtpFollowUpRx_closed H h
  | ptpAnnounceRx _ _ _ => exact execPtpAnnounceRx_closed H h
  | ptpPdelayReqRx _ _ => exact execPtpPdelayReqRx_closed H h
  | ptpPdelayRespRx _ _ => exact execPtpPdelayRespRx_closed H h
  | ptpDelayReqRx _ _ => exact execPtpDelayReqRx_closed H h
  | ptpDelayRespRx _ _ => exact execPtpDelayRespRx_closed H h
  | ptpSyncTx _ _ => exact execPtpSyncTx_closed H h
  | ptpAnnounceTx _ => exact execPtpAnnounceTx_closed H h
  | ptpDelayRequestTx _ _ => exact execPtpDelayRequestTx_closed H h
  | ptpSyncTimeout => exact execPtpSyncTimeout_closed H h
  | ptpAnnounceTimeout _ => exact execPtpAnnounceTimeout_closed H h
  | avtpRx p => exact execAvtpRx_closed (p := p) H h
  | rtpRx _ => exact execRtpRx_closed H h
  | rtcpRx => exact execRtcpRx_closed H h
  | crfRx p => exact execCrfRx_closed (p := p) H h
  | rxStarved _ => exact execRxStarved_closed H h
  | arpRequest _ _ _ => exact execArpRequest_closed H h
  | igmpQuery _ _ => exact execIgmpQuery_closed H h
  | sapAnnounce => exact execSapAnnounce_closed H h
  | sapRx _ => exact execSapRx_closed H h
  | adpEntityAvailable => exact execAdpEntityAvailable_closed H h
  | adpEntityDiscover _ => exact execAdpEntityDiscover_closed H h
  | connectTx _ => exact execConnectTx_closed H h
  | disconnectTx _ => exact execDisconnectTx_closed H h
  | getTxState _ => exact execGetTxState_closed H h
  | getTxConnection _ => exact execGetTxConnection_closed H h
  | connectRx _ => exact execConnectRx_closed H h
  | disconnectRx _ => exact execDisconnectRx_closed H h
  | getRxState _ => exact execGetRxState_closed H h
  | acquireEntity _ => exact execAcquireEntity_closed H h
  | lockEntity _ => exact execLockEntity_closed H h
  | aecpEntityAvailable _ => exact execAecpEntityAvailable_closed H h
  | controllerAvailable _ => exact execControllerAvailable_closed H h
  | readDescriptor _ => exact execReadDescriptor_closed H h
  | getConfiguration _ => exact execGetConfiguration_closed H h
  | getStreamFormat _ => exact execGetStreamFormat_closed H h
  | getStreamInfo _ => exact execGetStreamInfo_closed H h
  | getName _ => exact execGetName_closed H h
  | setName _ => exact execSetName_closed H h
  | getCounters _ => exact execGetCounters_closed H h
  | getAvbInfo _ => exact execGetAvbInfo_closed H h
  | getAsPath _ => exact execGetAsPath_closed H h
  | registerUnsolicitedNotification _ => exact execRegisterUnsolicitedNotification_closed H h
  | deregisterUnsolicitedNotification _ => exact execDeregisterUnsolicitedNotification_closed H h
  | aecpUnsupported _ => exact execAecpUnsupported_closed H h
  | spFrameRx _ => exact execSpFrameRx_closed H h
  | spFrameTxStart _ _ => exact execSpFrameTxStart_closed H h
  | spClockLoss _ => exact execSpClockLoss_closed H h
  | spClockReturn _ => exact execSpClockReturn_closed H h
  | asrcLock _ _ => exact execAsrcLock_closed H h
  | asrcUnlock _ _ => exact execAsrcUnlock_closed H h
  | xpmCopy _ => exact execXpmCopy_closed H h
  | xpmCopyDone => exact execXpmCopyDone_closed H h
  | dpoolRepack _ => exact execDpoolRepack_closed H h
  | clipPrefetchDone _ _ => exact execClipPrefetchDone_closed H h
  | flashCmdFill _ _ _ _ => exact execFlashCmdFill_closed H h
  | flashCmdSend _ _ _ _ => exact execFlashCmdSend_closed H h
  | flashCmdDone _ _ => exact execFlashCmdDone_closed H h
  | otpCfgSigReq _ => exact execOtpCfgSigReq_closed H h
  | otpCustKeyHash _ _ => exact execOtpCustKeyHash_closed H h
  | otpRevokeKey _ _ => exact execOtpRevokeKey_closed H h
  | otpIbKey _ _ => exact execOtpIbKey_closed H h
  | otpRaiseFwMin _ => exact execOtpRaiseFwMin_closed H h
  | otpJtagDisable _ => exact execOtpJtagDisable_closed H h
  | clipCrcCheckDone _ => exact execClipCrcCheckDone_closed H h
  | svcPlay _ => exact execSvcPlay_closed H h
  | svcCall _ => exact execSvcCall_closed H h
  | svcAnswer _ => exact execSvcAnswer_closed H h
  | svcRelease _ => exact execSvcRelease_closed H h
  | svcLock _ => exact execSvcLock_closed H h
  | svcUnlock _ => exact execSvcUnlock_closed H h
  | serviceCommitArm => exact execServiceCommitArm_closed H h
  | svcClipDone _ => exact execSvcClipDone_closed H h
  | dieLinkFrame _ => exact execDieLinkFrame_closed H h
  | dieLinkLoss => exact execDieLinkLoss_closed H h
  | dieLinkShutdown => exact execDieLinkShutdown_closed H h
  | dacClockLoss => exact execDacClockLoss_closed H h
  | gainRampEnd _ => exact execGainRampEnd_closed H h
  | cmRampEnd _ _ => exact execCmRampEnd_closed H h
  | pchClear _ _ => exact execPchClear_closed H h
  | ocpCycleLimit _ _ => exact execOcpCycleLimit_closed H h
  | ocpSustained _ => exact execOcpSustained_closed H h
  | ocpFast _ => exact execOcpFast_closed H h
  | retryWaitExpiry _ => exact execRetryWaitExpiry_closed H h
  | retryNumClear _ => exact execRetryNumClear_closed H h
  | dcFault _ => exact execDcFault_closed H h
  | senseLoss _ => exact execSenseLoss_closed H h
  | syncSlip _ => exact execSyncSlip_closed H h
  | syncRelock _ => exact execSyncRelock_closed H h
  | ntcWarn _ _ => exact execNtcWarn_closed H h
  | ntcShutdown _ _ => exact execNtcShutdown_closed H h
  | ntcWarnEnd _ _ => exact execNtcWarnEnd_closed H h
  | powerDieOvertemp => exact execPowerDieOvertemp_closed H h
  | logicDieOvertemp => exact execLogicDieOvertemp_closed H h
  | tempWarn _ _ => exact execTempWarn_closed H h
  | vinWarn => exact execVinWarn_closed H h
  | vinWarnClear => exact execVinWarnClear_closed H h
  | vinReset => exact execVinReset_closed H h
  | vinRecover => exact execVinRecover_closed H h
  | vgdWarn _ => exact execVgdWarn_closed H h
  | vgdUvlo => exact execVgdUvlo_closed H h
  | vgdUvloClear => exact execVgdUvloClear_closed H h
  | coreWarn _ => exact execCoreWarn_closed H h
  | ioWarn _ _ _ => exact execIoWarn_closed H h
  | railSoftStartDone _ => exact execRailSoftStartDone_closed H h
  | boostOvp _ _ _ _ => exact execBoostOvp_closed H h
  | boostUvp _ => exact execBoostUvp_closed H h
  | boostPhaseOcp _ phase => exact execBoostPhaseOcp_closed (_phase := phase) H h
  | boostRetryExpiry _ => exact execBoostRetryExpiry_closed H h
  | bstClear _ _ => exact execBstClear_closed H h
  | reactiveRailLimit _ => exact execReactiveRailLimit_closed H h
  | diagDc _ _ => exact execDiagDc_closed H h
  | diagSweep _ _ => exact execDiagSweep_closed H h
  | diagLearn _ _ => exact execDiagLearn_closed H h
  | dcTestDone _ _ => exact execDcTestDone_closed H h
  | sweepToneDone _ _ => exact execSweepToneDone_closed H h
  | diagChannelDone => exact execDiagChannelDone_closed H h
  | pilotWindowEnd _ _ _ _ => exact execPilotWindowEnd_closed H h
  | braceFrameRx _ => exact execBraceFrameRx_closed H h
  | bracePathSilent => exact execBracePathSilent_closed H h
  | networkHeartbeatTx => exact execNetworkHeartbeatTx_closed H h
  | networkHeartbeatRx _ => exact execNetworkHeartbeatRx_closed H h
  | netPathSilent => exact execNetPathSilent_closed H h
  | formationTimeout => exact execFormationTimeout_closed H h
  | roleChange => exact execRoleChange_closed H h
  | swap _ => exact execSwap_closed H h
  | reseatStart => exact execReseatStart_closed H h
  | reseatRoundDone _ _ => exact execReseatRoundDone_closed H h
  | sealSend => exact execSealSend_closed H h
  | sealRx _ _ => exact execSealRx_closed H h
  | reseatTimeout => exact execReseatTimeout_closed H h
  | reseatRetry => exact execReseatRetry_closed H h
  | coldStartDone => exact execColdStartDone_closed H h
  | relayTakeover _ => exact execRelayTakeover_closed H h
  | relayEnergise _ => exact execRelayEnergise_closed H h
  | relaySettled _ => exact execRelaySettled_closed H h
  | relayRelease _ => exact execRelayRelease_closed H h
  | gpioEdge _ _ => exact execGpioEdge_closed H h
  | powerDieTempRelease => exact execPowerDieTempRelease_closed H h
  | linkSpeedChange _ _ => exact execLinkSpeedChange_closed H h
  | wclkInAbsent _ => exact execWclkInAbsent_closed H h
  | _ => nomatch hc

/-! ### What the plain operations keep of the device state -/

/-- The device state and the operation under way stay, and SAFE falls due only in RUN. -/
structure KeepsMode (s t : State) : Prop where
  dev : t.dev = s.dev
  op : t.op = s.op
  safeWait : t.safeWait = true → s.safeWait = true ∨ s.dev = .run

theorem mode_closed : Closed KeepsMode where
  refl _ := ⟨rfl, rfl, .inl⟩
  trans h h' := ⟨h'.dev.trans h.dev, h'.op.trans h.op, fun hw => (h'.safeWait hw).elim h.safeWait fun hr => .inr (h.dev ▸ hr)⟩
  upd := by intros; exact ⟨rfl, rfl, .inl⟩
  sends _ _ := ⟨rfl, rfl, .inl⟩
  waits _ hr := ⟨rfl, rfl, fun _ => .inr hr⟩
  boundary _ _ _ h := ⟨h.dev, h.op, h.safeWait⟩

theorem KeepsMode.rfl {s : State} : KeepsMode s s := mode_closed.refl s

theorem KeepsMode.trans {s t u : State} (h : KeepsMode s t) (h' : KeepsMode t u) : KeepsMode s u := mode_closed.trans h h'

/-! ### What an operation that fits the device state says -/

theorem State.dev_of_safeWait {s : State} (hfit : s.opFits = true) (hw : s.safeWait = true) : s.dev = .run := by
  simpa [hw] using (Bool.and_eq_true_iff.1 hfit).2

theorem State.dev_of_starting {s : State} (hfit : s.opFits = true) (hop : s.op = .starting) :
    s.dev = .ready ∨ s.dev = .held ∨ s.dev = .boot ∨ s.dev = .sleep := by
  have h := (Bool.and_eq_true_iff.1 hfit).1
  simpa [hop, or_assoc] using h

theorem State.dev_of_loading {s : State} {a n : Nat} (hfit : s.opFits = true) (hop : s.op = .loading a n) :
    s.dev = .ready ∨ s.dev = .held := by
  have h := (Bool.and_eq_true_iff.1 hfit).1
  simpa [hop] using h

theorem KeepsMode.opFits {s t : State} (h : KeepsMode s t) (hfit : s.opFits = true) : t.opFits = true := by
  have hsafe : t.safeWait = true → s.dev = .run := fun hw => (h.safeWait hw).elim (State.dev_of_safeWait hfit) id
  obtain ⟨hop, -⟩ := Bool.and_eq_true_iff.1 hfit
  unfold State.opFits
  rw [h.dev, h.op, hop]
  cases hw : t.safeWait with
  | false => rfl
  | true => simp [hsafe hw]

/-! ### The device state that each operation ends in -/

/-- What only applies plain operations to a state ends in that state's device state. -/
theorem KeepsMode.dev_eq {s t : State} {d : Dev} (h : KeepsMode s t) (hd : s.dev = d) : t.dev = d := h.dev.trans hd

theorem State.runEnter_dev (s : State) : s.runEnter.dev = .run :=
  (State.railsEval_closed mode_closed (State.armAll_closed mode_closed (State.follow_closed mode_closed
    (State.mixStart_closed mode_closed (mode_closed.when (mode_closed.refl _) fun _ h =>
      State.netStart_closed mode_closed h))))).dev_eq rfl

theorem State.readyEnter_dev (s : State) : s.readyEnter.dev = .ready :=
  (State.railsEval_closed mode_closed (State.follow_closed mode_closed (State.svcPublish_closed mode_closed
    (State.svcStop_closed mode_closed (State.enginesStop_closed mode_closed (mode_closed.when (mode_closed.refl _) fun _ h =>
      State.seatAbort_closed mode_closed h)))))).dev_eq rfl

theorem State.heldEnter_dev (s : State) : s.heldEnter.dev = .held := by
  unfold State.heldEnter
  extract_lets t
  split
  · rfl
  · exact (State.put_closed mode_closed (State.clkoutLow_closed mode_closed (State.egrClear_closed mode_closed
      (State.railsEval_closed mode_closed (State.follow_closed mode_closed (State.roleLeave_closed mode_closed
        (State.diagAbort_closed mode_closed (mode_closed.refl t)))))))).dev_eq rfl

theorem State.stopRun_dev (s : State) (andThen cause bootsel : Nat) : (s.stopRun andThen cause bootsel).dev = s.dev :=
  (State.txStates_closed mode_closed (State.stopAll_closed mode_closed (State.entityDeparting_closed mode_closed
    (State.demote_closed mode_closed (mode_closed.refl _))))).dev_eq rfl

theorem State.bootEnter_dev (s : State) (bootsel : Nat) : (s.bootEnter bootsel).dev = .boot :=
  (State.calStart_closed mode_closed (mode_closed.refl _)).dev_eq rfl

theorem State.warmReset_dev (s : State) (cause bootsel : Nat) : (s.warmReset cause bootsel).dev = .boot :=
  State.bootEnter_dev _ bootsel

@[simp] theorem State.offReset_dev (s : State) (causes : Bool) : (s.offReset causes).dev = .off := rfl

theorem State.sleepEnter_dev (s : State) : s.sleepEnter.dev = .sleep :=
  (State.railsEval_closed mode_closed (State.pllsPower_closed mode_closed (State.lanesSleep_closed mode_closed
    (State.egrClear_closed mode_closed (State.pllmOff_closed mode_closed (State.follow_closed mode_closed
      (State.roleLeave_closed mode_closed (State.rejectAll_closed mode_closed (mode_closed.refl _))))))))).dev_eq rfl

@[simp] theorem State.wakeStart_dev (s : State) (src gp andThen cause bootsel : Nat) :
    (s.wakeStart src gp andThen cause bootsel).dev = s.dev := rfl

/-- Entry into SAFE, where it is due. -/
theorem State.safeEnter_safe (s : State) (hw : s.safeWait = true) : s.safeEnter.dev = .safe ∧ s.safeEnter.op = .none := by
  have h : KeepsMode { s with dev := .safe, safeWait := false, op := .none } s.safeEnter := by
    unfold State.safeEnter
    rw [hw]
    exact State.railsEval_closed mode_closed (State.stopAll_closed mode_closed (State.follow_closed mode_closed
      (State.diagAbort_closed mode_closed (State.svcPublish_closed mode_closed (State.svcStop_closed mode_closed
        (State.enginesStop_closed mode_closed (mode_closed.when (mode_closed.when
          (State.entityDeparting_closed mode_closed (State.rejectAll_closed mode_closed (mode_closed.refl _)))
          fun _ h => State.seatAbort_closed mode_closed h) fun _ h => State.setRole_closed mode_closed (mode_closed.set h))))))))
  exact ⟨h.dev, h.op⟩

theorem State.safeEnter_idle (s : State) (hw : s.safeWait = false) : s.safeEnter = s := by
  unfold State.safeEnter
  simp [hw]

theorem State.bootEnd_dev (s : State) (us : Nat) : (s.bootEnd us).dev = s.dev :=
  (State.bootEnd_closed mode_closed (mode_closed.refl s)).dev

theorem State.bootHold_dev (s : State) (b : Bad) (us : Nat) : (s.bootHold b us).dev = .held :=
  (State.raise_closed mode_closed (State.bootEnd_closed mode_closed (mode_closed.refl _))).dev_eq (State.heldEnter_dev _)

theorem State.bootFail_dev (s : State) (b : Bad) : (s.bootFail b).dev = .held := State.bootHold_dev _ b _

theorem State.bootFailEarly_dev (s : State) (b : Bad) : (s.bootFailEarly b).dev = .held := State.bootFail_dev _ b

theorem State.loadFail_dev (s : State) (b : Bad) : (s.loadFail b).dev = .held :=
  (State.raise_closed mode_closed (mode_closed.refl _)).dev_eq (State.heldEnter_dev _)

theorem State.imageTaken_dev (s t : State) (cut : Cut) (a : Nat) (dev : Dev) (op : HostOp) :
    (s.imageTaken t cut a dev op).dev = dev :=
  (State.seatRest_closed mode_closed (State.follow_closed mode_closed (State.imgCommit_closed mode_closed
    (mode_closed.refl _)))).dev_eq rfl

/-! ### The moves of R40's table -/

/-- The device state stays, or moves as R40's table lists. -/
def R40Move (s t : State) : Prop := t.dev = s.dev ∨ (s.dev, t.dev) ∈ r40Moves

theorem KeepsMode.move {s t : State} (h : KeepsMode s t) : R40Move s t := .inl h.dev

/-- A move that begins or ends with plain operations. -/
theorem KeepsMode.move_trans {s t u : State} (h : KeepsMode s t) (hm : R40Move t u) : R40Move s u := by
  unfold R40Move at *
  rwa [← h.dev]

theorem R40Move.keeps {s t u : State} (hm : R40Move s t) (h : KeepsMode t u) : R40Move s u := by
  unfold R40Move at *
  rwa [h.dev]

theorem R40Move.of_eq {s t : State} {a b : Dev} (hs : s.dev = a) (ht : t.dev = b) (h : (a, b) ∈ r40Moves) : R40Move s t :=
  .inr (hs ▸ ht ▸ h)

theorem move_to_off (d : Dev) : (d, Dev.off) ∈ r40Moves := by
  cases d <;> decide

/-! ### Commands of the host: READY to SLEEP, and to BOOT by a warm reset or a LOAD without firmware (R412, R428, R432) -/

/-- The moves that a write of SYS_CTRL can make, one after the other where several of its bits are set. -/
def HostMove (s t : State) : Prop :=
  t.dev = s.dev ∨ (s.dev = .ready ∧ t.dev = .sleep) ∨
  ((s.dev = .ready ∨ s.dev = .held ∨ s.dev = .safe ∨ s.dev = .sleep) ∧ t.dev = .boot)

theorem HostMove.trans {s t u : State} (h : HostMove s t) (h' : HostMove t u) : HostMove s u := by
  unfold HostMove at *
  rcases h with h | ⟨hs, ht⟩ | ⟨hs, ht⟩
  · rwa [← h]
  · rcases h' with h' | ⟨h', -⟩ | ⟨-, hu⟩
    · exact .inr (.inl ⟨hs, h'.trans ht⟩)
    · simp [ht] at h'
    · exact .inr (.inr ⟨.inl hs, hu⟩)
  · rcases h' with h' | ⟨h', -⟩ | ⟨h', -⟩
    · exact .inr (.inr ⟨hs, h'.trans ht⟩)
    · simp [ht] at h'
    · simp [ht] at h'

theorem HostMove.move {s t : State} (h : HostMove s t) : R40Move s t := by
  rcases h with h | ⟨hs, ht⟩ | ⟨hs, ht⟩
  · exact .inl h
  · exact .of_eq hs ht (by decide)
  · rcases hs with hs | hs | hs | hs <;> exact .of_eq hs ht (by decide)

theorem hostMove_closed : Closed HostMove where
  refl _ := .inl rfl
  trans h h' := h.trans h'
  upd := by intros; exact .inl rfl
  sends _ _ := .inl rfl
  waits _ _ := .inl rfl
  boundary _ _ _ h := h

/-- A command given by a register write makes a move of the host where its effect does. -/
theorem State.command_hostMove {s : State} {who : Initiator} {a : Nat} {f : State → State} (hf : HostMove s (f s)) :
    HostMove s (s.command who a f) := by
  unfold State.command
  split
  · exact .inl rfl
  · split
    · exact State.deny_closed hostMove_closed (.inl rfl)
    · split
      · exact State.raise_closed hostMove_closed (.inl rfl)
      · exact hf

theorem State.hostErr_hostMove (s : State) : HostMove s s.hostErr := State.hostErr_closed hostMove_closed (.inl rfl)

theorem State.stopRun_hostMove (s : State) (andThen cause bootsel : Nat) : HostMove s (s.stopRun andThen cause bootsel) :=
  .inl (s.stopRun_dev andThen cause bootsel)

theorem State.warmRequest_hostMove (s : State) (cause bootsel : Nat) : HostMove s (s.warmRequest cause bootsel) := by
  have hreset (hd : s.dev = .ready ∨ s.dev = .held ∨ s.dev = .safe ∨ s.dev = .sleep) : HostMove s (s.warmReset cause bootsel) :=
    .inr (.inr ⟨hd, s.warmReset_dev cause bootsel⟩)
  unfold State.warmRequest
  split
  · exact .inl rfl
  · exact .inl rfl
  · split
    · exact .inl rfl
    · exact s.stopRun_hostMove 1 cause bootsel
  · next hsleep =>
    split
    · exact .inl rfl
    · exact .inl rfl
    · exact hreset (.inr (.inr (.inr hsleep)))
  · next hoff hboot hrun hsleep =>
    cases hd : s.dev with
    | off => exact absurd hd hoff
    | boot => exact absurd hd hboot
    | run => exact absurd hd hrun
    | sleep => exact absurd hd hsleep
    | held => exact hreset (by simp [hd])
    | ready => exact hreset (by simp [hd])
    | safe => exact hreset (by simp [hd])

theorem execStart_hostMove {who : Initiator} {s t : State} (h : execStart who s = .next t) : HostMove s t := by
  unfold execStart at h
  injection h with h
  subst h
  apply State.command_hostMove
  split
  · exact s.hostErr_hostMove
  · split
    · exact .inl rfl
    · split
      · exact .inl rfl
      · exact s.hostErr_hostMove

theorem execStop_hostMove {who : Initiator} {s t : State} (h : execStop who s = .next t) : HostMove s t := by
  unfold execStop at h
  injection h with h
  subst h
  apply State.command_hostMove
  split
  · exact .inl rfl
  · split
    · exact s.stopRun_hostMove 0 0 0
    · exact s.hostErr_hostMove
  · exact s.hostErr_hostMove

theorem execSleep_hostMove {who : Initiator} {s t : State} (h : execSleep who s = .next t) : HostMove s t := by
  unfold execSleep at h
  injection h with h
  subst h
  apply State.command_hostMove
  split
  · exact s.hostErr_hostMove
  · split
    · next hready => exact .inr (.inl ⟨hready, s.sleepEnter_dev⟩)
    · split
      · exact s.stopRun_hostMove 2 0 0
      · exact s.hostErr_hostMove

theorem execLoad_hostMove {who : Initiator} {s t : State} (h : execLoad who s = .next t) : HostMove s t := by
  unfold execLoad at h
  injection h with h
  subst h
  apply State.command_hostMove
  split
  · exact s.hostErr_hostMove
  · extract_lets a u
    split
    · next hheld =>
      exact .inr (.inr ⟨.inr (.inl hheld.1), (State.egrClear_closed mode_closed (mode_closed.refl _)).dev_eq rfl⟩)
    · exact .inl rfl

/-- What a row of its own leaves of the state makes a move of the host where the row does. -/
theorem after_hostMove {s : State} {x : Ans} (hx : ∀ t, x = .next t → HostMove s t) : HostMove s (after x s) := by
  cases x with
  | next t => exact hx t rfl
  | fault _ => exact .inl rfl
  | refused _ => exact .inl rfl

/-- The action of a register's SC bit. -/
theorem State.scAction_hostMove (s : State) (who : Initiator) (p v : Nat) (f : Fld) :
    HostMove s (s.scAction who p v f) := by
  have H := hostMove_closed
  have h0 := H.refl s
  unfold State.scAction
  repeat' with_reducible apply H.ite
  · exact State.clearCounters_closed H h0
  · exact after_hostMove fun _ h => execReepoch_closed H h
  · exact after_hostMove fun _ h => execGroupCommit_closed H h
  · exact after_hostMove fun _ h => execStart_hostMove h
  · exact after_hostMove fun _ h => execStop_hostMove h
  · exact after_hostMove fun _ h => execLoad_hostMove h
  · exact State.warmRequest_hostMove _ 3 _
  · exact after_hostMove fun _ h => execSleep_hostMove h
  · exact State.mdioStart_closed H h0
  · exact State.fdbStart_closed H h0
  · exact after_hostMove fun _ h => execClkoutAlign_closed H h
  · exact after_hostMove fun _ h => execPllmCal_closed H h
  · exact after_hostMove fun _ h => execXpmCopy_closed H h
  · exact after_hostMove fun _ h => execDpoolRepack_closed H h
  · exact after_hostMove fun _ h => execPchClear_closed H h
  · exact after_hostMove fun _ h => execBstClear_closed H h
  · exact State.diagGo_closed H h0
  · exact after_hostMove fun _ h => execSwap_closed H h
  · exact State.otpStart_closed H h0
  · exact State.flashStart_closed H h0
  · exact h0

/-- A write of a register word, with the actions of its SC bits in turn. -/
theorem State.regStore_hostMove (s : State) (who : Initiator) (a v : Nat) : HostMove s (s.regStore who a v) := by
  have H := hostMove_closed
  unfold State.regStore
  extract_lets p b t fs has t1 t2 t3
  have hb : HostMove s b := H.ite (H.refl s) (State.baselineWrite_closed H (H.refl s))
  have ht : HostMove s t := State.mirrorWrite_closed H (State.regWrite_closed H hb)
  have h1 : HostMove s t1 := H.when ht fun _ h => State.fenceStart_closed H h
  have h2 : HostMove s t2 := H.when h1 fun _ h => State.avdCtrlWritten_closed H h
  have h3 : HostMove s t3 := H.when h2 fun _ h => State.htxTail_closed H h
  refine H.ite ht (H.ite (H.ite ?_ (H.ite ?_ ht)) (H.ite ht ?_))
  · exact H.when ht fun _ h => State.srst_closed H h
  · exact H.when ht fun _ h => State.armPage_closed H h
  · exact H.foldl h3 fun _ _ h => H.trans h (State.scAction_hostMove _ who p v _)

theorem State.writeWord_hostMove (s : State) (who : Initiator) (a v : Nat) : HostMove s (s.writeWord who a v) :=
  State.command_hostMove (hostMove_closed.ite (s.regStore_hostMove who a v)
    (State.memStore_closed hostMove_closed (hostMove_closed.refl s)))

theorem State.writeWords_hostMove (s : State) (who : Initiator) (a k : Nat) (l : List Word) :
    HostMove s (s.writeWords who a k l) := by
  induction l generalizing s k with
  | nil => exact hostMove_closed.refl s
  | cons w ws ih => exact (s.writeWord_hostMove who (wordAddr a k) w.toNat).trans (ih _ _)

theorem State.qspiWrite_hostMove (s : State) (code : Nat) (tx : QspiTx) : HostMove s (s.qspiWrite code tx) := by
  have H := hostMove_closed
  exact H.ite (H.refl s) (H.ite (State.qspiReject_closed H (H.refl s))
    (State.qspiCut_closed H (s.writeWords_hostMove .hq tx.addr.toNat 0 tx.words)))

theorem execOcdorWrite_hostMove {f : OcdorFrame} {s t : State} (h : execOcdorWrite f s = .next t) : HostMove s t := by
  have H := hostMove_closed
  unfold execOcdorWrite at h
  injection h with h
  subst h
  exact State.ocdor_closed H (H.refl s) fun u hu =>
    State.ocdorAnswer_closed H (H.trans hu (u.writeWords_hostMove (ocdorWho f) f.addr.toNat 0 _))

/-! ### The tick boundary (R429, R459) -/

/-- A START that waits for the boundary takes the device into RUN from the states in which it can wait. -/
theorem State.startNow_move (s : State)
    (hfit : s.op = .starting → s.dev = .ready ∨ s.dev = .held ∨ s.dev = .boot ∨ s.dev = .sleep) :
    R40Move s s.startNow := by
  unfold State.startNow
  split
  · next h =>
    rcases hfit h.1 with hd | hd | hd | hd <;> exact .of_eq hd s.runEnter_dev (by decide)
  · exact .inl rfl

theorem State.startNow_idle (s : State) (hop : s.op ≠ .starting) : s.startNow = s := by
  unfold State.startNow
  simp [hop]

/-- The commits of a boundary: SAFE is entered first where it is due. -/
theorem State.boundaryCommits_keeps (s : State) : KeepsMode s.safeEnter s.boundaryCommits :=
  State.takeCommits_closed mode_closed (State.takeResults_closed mode_closed (mode_closed.refl _))

theorem State.safeEnter_move (s : State) (hfit : s.opFits = true) : R40Move s s.safeEnter := by
  cases hw : s.safeWait with
  | false => exact .inl (congrArg State.dev (s.safeEnter_idle hw))
  | true => exact .of_eq (State.dev_of_safeWait hfit hw) (s.safeEnter_safe hw).1 (by decide)

theorem State.boundaryCommits_move (s : State) (hfit : s.opFits = true) : R40Move s s.boundaryCommits :=
  (s.safeEnter_move hfit).keeps s.boundaryCommits_keeps

/-- One boundary makes one move: a device that enters SAFE has no START left to begin. -/
theorem State.boundaryChanges_move (s : State) (refs : List RefMeas) (hfit : s.opFits = true) :
    R40Move s (s.boundaryChanges refs) := by
  have hpass : KeepsMode s.boundaryCommits s.boundaryCommits.passIfDue := State.passIfDue_closed mode_closed (mode_closed.refl _)
  have hrest : KeepsMode s.boundaryCommits.passIfDue.startNow (s.boundaryChanges refs) := by
    unfold State.boundaryChanges
    extract_lets t
    have ht : KeepsMode s.boundaryCommits.passIfDue.startNow t :=
      State.pllmTick_closed mode_closed (State.plumbTick_closed mode_closed (State.braceTick_closed mode_closed (mode_closed.refl _)))
    exact mode_closed.when ht fun _ h => State.restamp_closed mode_closed h
  refine R40Move.keeps ?_ hrest
  cases hw : s.safeWait with
  | false =>
    have hidle : KeepsMode s s.boundaryCommits.passIfDue := by
      have h := s.boundaryCommits_keeps.trans hpass
      rwa [s.safeEnter_idle hw] at h
    exact hidle.move_trans (State.startNow_move _ (State.dev_of_starting (hidle.opFits hfit)))
  | true =>
    have hop : s.boundaryCommits.passIfDue.op ≠ .starting := by
      rw [hpass.op, s.boundaryCommits_keeps.op, (s.safeEnter_safe hw).2]
      exact HostOp.noConfusion
    rw [State.startNow_idle _ hop]
    exact (s.boundaryCommits_move hfit).keeps hpass

/-- A part of the boundary that a row of its own names. -/
theorem State.boundaryPart_move (s : State) {f : State → State} (hf : ∀ u : State, u.opFits = true → R40Move u (f u))
    (hfit : s.opFits = true) : R40Move s (s.boundaryPart f) := by
  unfold State.boundaryPart
  split
  · have hd : KeepsMode s (s.deadline []) := State.deadline_closed mode_closed (mode_closed.refl s)
    exact hd.move_trans (hf { s.deadline [] with tg := _, tickNum := _ } (hd.opFits hfit))
  · exact .inl rfl

theorem State.tickBegin_keeps (s : State) (meas : List Meas) : KeepsMode s (s.tickBegin meas) := by
  have h1 : KeepsMode s { s with
      tg := s.tg + 1, tickNum := (s.tickNum + 1) % 2 ^ 48, win := .overhead, logged := s.logged.filter (fun r => r.2 == s.tg + 1)
      brace := { s.brace with clips := s.brace.clipsTo, clipsTo := [], mine := [] } } := ⟨rfl, rfl, .inl⟩
  exact State.rxIdleTick_closed mode_closed (mode_closed.foldl (State.egressAll_closed mode_closed (State.hostPoll_closed mode_closed
    (State.expireRaw_closed mode_closed h1))) fun _ _ h => State.measure_closed mode_closed h)

theorem execTickBoundary_move {refs : List RefMeas} {meas : List Meas} {s t : State} (hfit : s.opFits = true)
    (h : execTickBoundary refs meas s = .next t) : R40Move s t := by
  unfold execTickBoundary at h
  injection h with h
  subst h
  split
  · have hb : KeepsMode s ((s.deadline []).tickBegin meas) :=
      (State.deadline_closed mode_closed (mode_closed.refl s)).trans (State.tickBegin_keeps _ meas)
    have hc := hb.move_trans (State.boundaryChanges_move _ refs (hb.opFits hfit))
    exact hc.keeps (State.tickWork_closed mode_closed (mode_closed.refl _))
  · split
    · have h1 : KeepsMode s { s with tg := s.tg + 1 } := ⟨rfl, rfl, .inl⟩
      exact (State.plumbTick_closed mode_closed h1).move
    · exact .inl rfl

theorem execCommitTakeEffect_move {s t : State} (hfit : s.opFits = true) (h : execCommitTakeEffect s = .next t) : R40Move s t := by
  unfold execCommitTakeEffect at h
  injection h with h
  subst h
  exact s.boundaryPart_move State.boundaryCommits_move hfit

theorem execSafeEntry_move {s t : State} (hfit : s.opFits = true) (h : execSafeEntry s = .next t) : R40Move s t := by
  unfold execSafeEntry at h
  injection h with h
  subst h
  exact s.boundaryPart_move State.safeEnter_move hfit

/-! ### Power and resets (R410 to R413) -/

theorem execPorstNLow_move {removed : Bool} {s t : State} (h : execPorstNLow removed s = .next t) : R40Move s t := by
  unfold execPorstNLow at h
  injection h with h
  subst h
  split <;> exact .of_eq rfl rfl (move_to_off s.dev)

theorem execPorstNRise_move {bootsel : Fin 4} {iob33 : Bool} {s t : State} (h : execPorstNRise bootsel iob33 s = .next t) :
    R40Move s t := by
  unfold execPorstNRise at h
  injection h with h
  subst h
  extract_lets u
  split
  · exact .inl rfl
  · split
    · exact .inl rfl
    · next hoff =>
      have hdev : s.dev = .off := by
        by_contra hne
        exact hoff (by simp [u, hne])
      exact .of_eq hdev (State.bootEnter_dev _ _) (by decide)

theorem execVddCoreReset_move {s t : State} (h : execVddCoreReset s = .next t) : R40Move s t := by
  unfold execVddCoreReset at h
  injection h with h
  subst h
  split
  · exact .inl rfl
  · exact .of_eq rfl rfl (move_to_off s.dev)

theorem execVddCoreResetClear_move {bootsel : Fin 4} {s t : State} (h : execVddCoreResetClear bootsel s = .next t) :
    R40Move s t := by
  unfold execVddCoreResetClear at h
  injection h with h
  subst h
  extract_lets u
  split
  · exact .inl rfl
  · split
    · exact .inl rfl
    · next hoff =>
      have hdev : s.dev = .off := by
        by_contra hne
        exact hoff (by simp [u, hne])
      exact .of_eq hdev (State.bootEnter_dev _ _) (by decide)

theorem execWrstNPulse_hostMove {bootsel : Fin 4} {s t : State} (h : execWrstNPulse bootsel s = .next t) : HostMove s t := by
  unfold execWrstNPulse at h
  injection h with h
  subst h
  exact hostMove_closed.ite (hostMove_closed.refl s) (s.warmRequest_hostMove 2 bootsel.val)

theorem execWreset_hostMove {who : Initiator} {bootsel : Fin 4} {s t : State} (h : execWreset who bootsel s = .next t) :
    HostMove s t := by
  unfold execWreset at h
  injection h with h
  subst h
  exact State.command_hostMove (s.warmRequest_hostMove 3 bootsel.val)

theorem execSelfReset_move {bootsel : Fin 4} {s t : State} (h : execSelfReset bootsel s = .next t) : R40Move s t := by
  unfold execSelfReset at h
  injection h with h
  subst h
  split
  · next hreset =>
    have hboot := s.warmReset_dev 4 bootsel.val
    simp only [Bool.and_eq_true, bne_iff_ne] at hreset
    obtain ⟨⟨-, hoff⟩, hrun⟩ := hreset
    cases hd : s.dev with
    | off => exact absurd hd hoff
    | run => exact absurd hd hrun
    | boot => exact .of_eq hd hboot (by decide)
    | held => exact .of_eq hd hboot (by decide)
    | ready => exact .of_eq hd hboot (by decide)
    | safe => exact .of_eq hd hboot (by decide)
    | sleep => exact .of_eq hd hboot (by decide)
  · exact .inl rfl

theorem execAutoWarmReset_move {bootsel : Fin 4} {s t : State} (h : execAutoWarmReset bootsel s = .next t) : R40Move s t := by
  unfold execAutoWarmReset at h
  injection h with h
  subst h
  split
  · next hreset =>
    simp only [Bool.and_eq_true, decide_eq_true_eq] at hreset
    exact .of_eq hreset.1.1 (s.warmReset_dev 4 bootsel.val) (by decide)
  · exact .inl rfl

/-! ### The end of a stop, and waking (R430, R432, R433) -/

/-- The end of a stop makes one move, but where it leads to a warm reset (R412). -/
theorem execStopDone_move {s t : State} (h : execStopDone s = .next t) :
    R40Move s t ∨ (s.dev = .run ∧ t.dev = .boot ∧ ∃ x y, s.op = .stopping 1 x y) := by
  unfold execStopDone at h
  injection h with h
  subst h
  split
  · next andThen cause bootsel hop =>
    split
    · exact .inl (.inl rfl)
    · next hgo =>
      have hrun : s.dev = .run := by
        by_contra hne
        exact hgo (.inl hne)
      dsimp only
      split
      · next hthen => exact .inr ⟨hrun, State.warmReset_dev _ cause bootsel, cause, bootsel, hthen ▸ hop⟩
      · split
        · exact .inl (.of_eq hrun (State.sleepEnter_dev _) (by decide))
        · exact .inl (.of_eq hrun s.readyEnter_dev (by decide))
  · exact .inl (.inl rfl)

theorem execStartValidationDone_dev {s t : State} (h : execStartValidationDone s = .next t) : t.dev = s.dev := by
  unfold execStartValidationDone at h
  injection h with h
  subst h
  split
  · split
    · rfl
    · split
      · exact (State.raise_closed mode_closed (State.holdReason_closed mode_closed (mode_closed.refl _))).dev_eq rfl
      · exact (State.holdReason_closed mode_closed (mode_closed.refl _)).dev_eq rfl
  · rfl

theorem execWakeFilterMatch_dev {port : Fin 8} {frame : FrameIn} {s t : State} (h : execWakeFilterMatch port frame s = .next t) :
    t.dev = s.dev := by
  unfold execWakeFilterMatch at h
  injection h with h
  subst h
  extract_lets hits waking u
  have hu : KeepsMode s u := mode_closed.foldl (mode_closed.refl s) fun _ _ h => State.putBit_closed mode_closed h
  clear_value u waking hits
  split
  · rfl
  · split
    · rfl
    · split
      · exact hu.dev
      · exact (State.raise_closed mode_closed (State.put_closed mode_closed (State.put_closed mode_closed
          (State.put_closed mode_closed hu)))).dev

theorem execGpWake_dev {pin : Fin 16} {level : Bool} {s t : State} (h : execGpWake pin level s = .next t) : t.dev = s.dev := by
  unfold execGpWake at h
  injection h with h
  subst h
  split <;> rfl

theorem execQspiWake_dev {s t : State} (h : execQspiWake s = .next t) : t.dev = s.dev := by
  unfold execQspiWake at h
  injection h with h
  subst h
  split <;> rfl

theorem execWakeDone_move {s t : State} (h : execWakeDone s = .next t) : R40Move s t := by
  unfold execWakeDone at h
  injection h with h
  subst h
  split
  · next andThen cause bootsel hop =>
    split
    · exact .inl rfl
    · next hsleep =>
      have hdev : s.dev = .sleep := not_not.1 hsleep
      extract_lets u
      have hu : KeepsMode { s with op := .none } u :=
        State.pllmAcquire_closed mode_closed (State.plumbStart_closed mode_closed (mode_closed.refl _))
      clear_value u
      split
      · exact .of_eq hdev (State.warmReset_dev _ cause bootsel) (by decide)
      · split
        · exact .inl hu.dev
        · have hready : ({ u with dev := .ready }.netStart.follow).dev = .ready :=
            (State.follow_closed mode_closed (State.netStart_closed mode_closed (mode_closed.refl _))).dev_eq rfl
          exact .of_eq hdev hready (by decide)
  · exact .inl rfl

/-! ### BOOT and LOAD (R415 to R428) -/

theorem State.move_to_held {s t : State} (hs : s.dev = .boot ∨ s.dev = .ready ∨ s.dev = .held) (ht : t.dev = .held) : R40Move s t := by
  rcases hs with hs | hs | hs <;> exact .of_eq hs ht (by decide)

theorem execBootRomStart_move {flashOk : Bool} {s t : State} (h : execBootRomStart flashOk s = .next t) : R40Move s t := by
  unfold execBootRomStart at h
  injection h with h
  subst h
  split
  · exact .inl rfl
  · next hgo =>
    have hboot : s.dev = .boot := not_not.1 fun hne => hgo (.inl hne)
    have hfail (b : Bad) : R40Move s (s.bootFailEarly b) := State.move_to_held (.inl hboot) (s.bootFailEarly_dev b)
    split
    · exact hfail _
    · split
      · exact hfail _
      · split
        · exact hfail _
        · split
          · exact hfail _
          · exact (State.headerTake_closed mode_closed (mode_closed.refl s)).move

theorem execFirmwareLoaded_move {flashOk : Bool} {s t : State} (h : execFirmwareLoaded flashOk s = .next t) : R40Move s t := by
  unfold execFirmwareLoaded at h
  injection h with h
  subst h
  split
  · exact .inl rfl
  · next hgo =>
    have hboot : s.dev = .boot := not_not.1 fun hne => hgo (.inl hne)
    have hfail (b : Bad) : R40Move s (s.bootFailEarly b) := State.move_to_held (.inl hboot) (s.bootFailEarly_dev b)
    extract_lets a
    split
    · exact hfail _
    · split
      · exact hfail _
      · exact (mode_closed.set (State.protLoad_closed mode_closed (mode_closed.refl s))).move

theorem execImageReadDone_move {flashOk : Bool} {s t : State} (h : execImageReadDone flashOk s = .next t) : R40Move s t := by
  unfold execImageReadDone at h
  injection h with h
  subst h
  split
  · exact .inl rfl
  · next hgo =>
    have hboot : s.dev = .boot := not_not.1 fun hne => hgo (.inl hne)
    have hfail (b : Bad) : R40Move s (s.bootFail b) := State.move_to_held (.inl hboot) (s.bootFail_dev b)
    extract_lets a
    split
    · exact hfail _
    · split
      · exact hfail _
      · split
        · exact hfail _
        · exact .inl rfl

theorem execImageValidationDone_move {us : Nat} {s t : State} (h : execImageValidationDone us s = .next t) : R40Move s t := by
  unfold execImageValidationDone at h
  injection h with h
  subst h
  split
  · exact .inl rfl
  · next hgo =>
    have hboot : s.dev = .boot := not_not.1 fun hne => hgo (.inl hne)
    have hfail (b : Bad) : R40Move s (s.bootHold b us) := State.move_to_held (.inl hboot) (s.bootHold_dev b us)
    extract_lets a auto
    clear_value auto
    split
    · exact hfail _
    · split
      · exact hfail _
      · next u cut _ =>
        have hend (d : Dev) (op : HostOp) : ((s.imageTaken u.pllmUngate cut a d op).bootEnd us).dev = d :=
          (State.bootEnd_dev _ us).trans (State.imageTaken_dev _ _ _ _ _ _)
        cases auto with
        | true => exact .of_eq hboot (hend .boot .starting) (by decide)
        | false => exact .of_eq hboot (hend .ready .none) (by decide)

theorem execLoadValidationDone_move {flashOk : Bool} {s t : State} (hfit : s.opFits = true)
    (h : execLoadValidationDone flashOk s = .next t) : R40Move s t := by
  unfold execLoadValidationDone at h
  injection h with h
  subst h
  split
  · next a len hop =>
    have hdev := State.dev_of_loading hfit hop
    split
    · exact State.move_to_held (.inr hdev) (State.loadFail_dev _ _)
    · next u cut _ =>
      have hready := (State.raise_closed mode_closed (e := EV_COMMIT_DONE) (State.put_closed mode_closed (f := R.SYS_COMMIT_STATUS_REASON)
        (v := 0) (i := 0) (j := 0) (mode_closed.refl _))).dev_eq (s.imageTaken_dev u cut a .ready .none)
      rcases hdev with hdev | hdev
      · exact .of_eq hdev hready (by decide)
      · exact .of_eq hdev hready (by decide)
  · exact .inl rfl

theorem execFlashReadTimeout_move {read : FlashRead} {s t : State} (hfit : s.opFits = true)
    (h : execFlashReadTimeout read s = .next t) : R40Move s t := by
  unfold execFlashReadTimeout at h
  injection h with h
  subst h
  split
  · extract_lets booting
    have hboot (x : Bool) (hb : (booting && x) = true) : s.dev = .boot := by
      simp only [booting, Bool.and_eq_true, beq_iff_eq] at hb
      obtain ⟨⟨⟨hdev, -⟩, -⟩, -⟩ := hb
      exact hdev
    split
    · next hb => exact State.move_to_held (.inl (hboot _ hb)) (State.bootFailEarly_dev _ _)
    · split
      · next hb => exact State.move_to_held (.inl (hboot _ hb)) (State.bootFail_dev _ _)
      · split
        · next a n hop =>
          split
          · exact State.move_to_held (.inr (State.dev_of_loading hfit hop)) (State.loadFail_dev _ _)
          · exact .inl rfl
        · exact .inl rfl
  · extract_lets p
    split
    · exact (State.raise_closed mode_closed (State.flashErr_closed mode_closed (mode_closed.refl s))).move
    · exact .inl rfl

theorem execOtpCmdDone_dev {ok : Bool} {s t : State} (h : execOtpCmdDone ok s = .next t) : t.dev = s.dev := by
  unfold execOtpCmdDone at h
  injection h with h
  subst h
  extract_lets r u
  split
  · rfl
  · split <;> rfl

/-! ### O7 -/

/-- Settles O7: the plain commands keep the device state, and each of the others makes one move of R40's table. -/
theorem deviceStateTable : Obligations.DeviceStateTable := by
  unfold Obligations.DeviceStateTable
  intro c s t hfit h
  have one (hm : R40Move s t) : t.dev = s.dev ∨ (s.dev, t.dev) ∈ r40Moves ∨
      (c = .stopDone ∧ s.dev = .run ∧ t.dev = .boot ∧ ∃ x y, s.op = .stopping 1 x y) := hm.imp_right .inl
  cases c with
  | porstNLow _ => exact one (execPorstNLow_move h)
  | porstNRise _ _ => exact one (execPorstNRise_move h)
  | vddCoreReset => exact one (execVddCoreReset_move h)
  | vddCoreResetClear _ => exact one (execVddCoreResetClear_move h)
  | wrstNPulse _ => exact one (execWrstNPulse_hostMove h).move
  | wreset _ _ => exact one (execWreset_hostMove h).move
  | selfReset _ => exact one (execSelfReset_move h)
  | autoWarmReset _ => exact one (execAutoWarmReset_move h)
  | stopDone => exact (execStopDone_move h).elim one fun hr => .inr (.inr ⟨rfl, hr⟩)
  | start _ => exact one (execStart_hostMove h).move
  | stop _ => exact one (execStop_hostMove h).move
  | load _ => exact one (execLoad_hostMove h).move
  | sleep _ => exact one (execSleep_hostMove h).move
  | startValidationDone => exact .inl (execStartValidationDone_dev h)
  | wakeFilterMatch _ _ => exact .inl (execWakeFilterMatch_dev h)
  | gpWake _ _ => exact .inl (execGpWake_dev h)
  | qspiWake => exact .inl (execQspiWake_dev h)
  | wakeDone => exact one (execWakeDone_move h)
  | bootRomStart _ => exact one (execBootRomStart_move h)
  | firmwareLoaded _ => exact one (execFirmwareLoaded_move h)
  | imageReadDone _ => exact one (execImageReadDone_move h)
  | imageValidationDone _ => exact one (execImageValidationDone_move h)
  | loadValidationDone _ => exact one (execLoadValidationDone_move hfit h)
  | flashReadTimeout _ => exact one (execFlashReadTimeout_move hfit h)
  | tickBoundary _ _ => exact one (execTickBoundary_move hfit h)
  | commitTakeEffect => exact one (execCommitTakeEffect_move hfit h)
  | safeEntry => exact one (execSafeEntry_move hfit h)
  | registerWrite who a v => exact one (Host.Outcome.next.inj h ▸ s.writeWord_hostMove who a.toNat v.toNat).move
  | qspiWrite tx => exact one (Host.Outcome.next.inj h ▸ s.qspiWrite_hostMove 0x02 tx).move
  | qspiQwrite tx => exact one (Host.Outcome.next.inj h ▸ s.qspiWrite_hostMove 0x38 tx).move
  | ocdorWrite _ => exact one (execOcdorWrite_hostMove h).move
  | otpCmdDone _ => exact .inl (execOtpCmdDone_dev h)
  | _ => exact .inl (exec_closed mode_closed rfl h).dev

/-! ### Commands given by a register write (R42, R76, R417) -/

theorem State.command_unheard {s : State} {who : Initiator} {a : Nat} (f : State → State) (hh : s.hears who = false) :
    s.command who a f = s := by
  simp [State.command, hh]

theorem State.command_denied {s : State} {who : Initiator} {a : Nat} (f : State → State) (hh : s.hears who = true)
    (hp : s.permits (clsOf who) true a = false) : s.command who a f = s.deny (clsOf who) true a := by
  simp [State.command, hh, hp]

theorem State.command_unserved {s : State} {who : Initiator} {a : Nat} (f : State → State) (hh : s.hears who = true)
    (hp : s.permits (clsOf who) true a = true) (hs : s.pageServed a = false) : s.command who a f = s.raise EV_HOST_ERR := by
  simp [State.command, hh, hp, hs]

theorem given_of {c : Instr} {who who' : Initiator} {a a' : Nat} {f : State → State} (hg : some (who', a') = some (who, a))
    (h : ∀ s, exec c s = .next (s.command who' a' f)) : ∃ f, ∀ s, exec c s = .next (s.command who a f) := by
  cases hg
  exact ⟨f, h⟩

/-- A command given by a register write is the command at that register with some effect. -/
theorem exec_given {c : Instr} {who : Initiator} {a : Nat} (hg : givenAt c = some (who, a)) :
    ∃ f, ∀ s, exec c s = .next (s.command who a f) := by
  cases c with
  | wreset _ _ | start _ | stop _ | load _ | sleep _ | reepoch _ | srst _ _ | arm _ _ | groupCommit _ | fenceStart _ | refLockout _ _ _
  | clkoutAlign _ _ | pllmCal _ | mdioC22Read _ _ _ | mdioC22Write _ _ _ | mdioC45Address _ _ _ | mdioC45Write _ _ _
  | mdioC45Read _ _ _ | fdbLookup _ | fdbAddStatic _ | fdbDelete _ | fdbFlushDynamic _ | hostFrameSubmit _ _ | tsnFilterUnblock _ _
  | xpmCopy _ | dpoolRepack _ | flashCmdFill _ _ _ _ | flashCmdSend _ _ _ _ | otpCfgSigReq _ | otpCustKeyHash _ _ | otpRevokeKey _ _
  | otpIbKey _ _ | otpRaiseFwMin _ | otpJtagDisable _ | pchClear _ _ | bstClear _ _ | diagDc _ _ | diagSweep _ _ | diagLearn _ _
  | swap _ => exact given_of hg fun _ => rfl
  | _ => nomatch hg

/-! ### O15 -/

/-- Settles O15: what the register access does before the command's own effect. -/
theorem commandAdmission : Obligations.CommandAdmission := by
  unfold Obligations.CommandAdmission
  intro c s who a hg
  obtain ⟨f, hf⟩ := exec_given hg
  rw [hf s]
  refine ⟨fun hh => ?_, fun hh hp => ?_, fun hh hp hs => ?_⟩
  · rw [State.command_unheard f hh]
  · rw [State.command_denied f hh hp]
  · rw [State.command_unserved f hh hp hs]

/-! ### What an operation leaves as it was, but for a list of registers -/

/-- Nothing of the device's modes, roles, fuses, commits and ticks differs between s and t, nor what the power stage holds beside its
channels and rails, and no register but those of the fields listed. -/
structure Keeps (l : List Fld) (s t : State) : Prop where
  core : SameCore s t
  queue : t.queue = s.queue
  porst : t.porst = s.porst
  coreLow : t.coreLow = s.coreLow
  power : t.power = { s.power with ch := t.power.ch, rails := t.power.rails }
  regs : ∀ (g : Fld) (i j : Nat), (∀ f ∈ l, f.base ≠ g.base) → t.get g i j = s.get g i j

theorem SameCore.rfl {s : State} : SameCore s s := ⟨by rfl, by rfl, by rfl, by rfl, by rfl, by rfl, by rfl⟩

theorem SameCore.dev_eq {s t : State} (h : SameCore s t) : t.dev = s.dev := by
  obtain ⟨hdev, -⟩ := h
  exact hdev

theorem SameCore.trans {s t u : State} (h : SameCore s t) (h' : SameCore t u) : SameCore s u := by
  obtain ⟨hdev, hop, hrole, hotp, hpend, htg, hnum⟩ := h
  obtain ⟨hdev', hop', hrole', hotp', hpend', htg', hnum'⟩ := h'
  exact ⟨hdev'.trans hdev, hop'.trans hop, hrole'.trans hrole, hotp'.trans hotp, hpend'.trans hpend, htg'.trans htg, hnum'.trans hnum⟩

section
variable {l : List Fld} {s0 s : State}

theorem Keeps.refl (l : List Fld) (s : State) : Keeps l s s :=
  ⟨SameCore.rfl, rfl, rfl, rfl, rfl, fun _ _ _ _ => rfl⟩

theorem Keeps.trans {t u : State} (h : Keeps l s t) (h' : Keeps l t u) : Keeps l s u where
  core := h.core.trans h'.core
  queue := h'.queue.trans h.queue
  porst := h'.porst.trans h.porst
  coreLow := h'.coreLow.trans h.coreLow
  power := by rw [h'.power, h.power]
  regs g i j hg := (h'.regs g i j hg).trans (h.regs g i j hg)

theorem Keeps.mono {l' : List Fld} (hl : l ⊆ l') (h : Keeps l s0 s) : Keeps l' s0 s :=
  { h with regs := fun g i j hg => h.regs g i j fun f hf => hg f (hl hf) }

/-- An update of parts of the state that `Keeps` does not speak of. -/
theorem Keeps.set (h : Keeps l s0 s) {win shadow latch mem repack safeWait raw logged net ptp str plumb plls host boot serial zeroTick
    peerEpoch ch rails diag brace mix je clips svc free wire} :
    Keeps l s0 { s with
      win := win, shadow := shadow, latch := latch, mem := mem, repack := repack, safeWait := safeWait, raw := raw, logged := logged
      net := net, ptp := ptp, str := str, plumb := plumb, plls := plls, host := host, boot := boot, serial := serial, zeroTick := zeroTick
      peerEpoch := peerEpoch, power := { s.power with ch := ch, rails := rails }, diag := diag, brace := brace, mix := mix, je := je
      clips := clips, svc := svc, free := free, wire := wire } :=
  h.trans ⟨SameCore.rfl, rfl, rfl, rfl, rfl, fun _ _ _ _ => rfl⟩

theorem Keeps.put (h : Keeps l s0 s) {f : Fld} (hf : f ∈ l) {v i j : Nat} : Keeps l s0 (s.put f v i j) :=
  h.trans ⟨SameCore.rfl, rfl, rfl, rfl, rfl, fun _ i' j' hg => s.get_put_ne v i j i' j' (hg f hf)⟩

theorem Keeps.putBit (h : Keeps l s0 s) {f : Fld} (hf : f ∈ l) {k i j : Nat} {b : Bool} : Keeps l s0 (s.putBit f k b i j) := h.put hf

theorem Keeps.bumpBy (h : Keeps l s0 s) {f : Fld} (hf : f ∈ l) (hsat : R.PG_STATUS_SAT_SEEN ∈ l) {n i j : Nat} :
    Keeps l s0 (s.bumpBy f n i j) := by
  unfold State.bumpBy
  split
  · exact (h.put hf).put hsat
  · exact h.put hf

theorem Keeps.bump (h : Keeps l s0 s) {f : Fld} (hf : f ∈ l) (hsat : R.PG_STATUS_SAT_SEEN ∈ l) {i j : Nat} :
    Keeps l s0 (s.bump f i j) := h.bumpBy hf hsat

theorem Keeps.setWord (h : Keeps l s0 s) {a v : Nat} : Keeps l s0 (s.setWord a v) := by
  unfold State.setWord
  rw [State.setBytes_eq]
  exact h.set

theorem Keeps.send (h : Keeps l s0 s) {o : Out} : Keeps l s0 (s.send o) := h.set

theorem Keeps.ite {t u : State} {c : Prop} [Decidable c] (ht : Keeps l s0 t) (hu : Keeps l s0 u) : Keeps l s0 (if c then t else u) := by
  split
  · exact ht
  · exact hu

theorem Keeps.when (h : Keeps l s0 s) {b : Bool} {f : State → State} (hf : ∀ t, Keeps l s0 t → Keeps l s0 (f t)) :
    Keeps l s0 (s.when b f) := Keeps.ite (hf s h) h

/-- What holds before the first number and passes from each to the next holds at the end. -/
theorem State.each_rec {P : Nat → State → Prop} {n : Nat} {f : State → Nat → State} (h0 : P 0 s)
    (hstep : ∀ k t, k < n → P k t → P (k + 1) (f t k)) : P n (s.each n f) := by
  induction n with
  | zero => exact h0
  | succ n ih =>
    have hn : s.each (n + 1) f = f (s.each n f) n := by simp [State.each, List.range_succ]
    rw [hn]
    exact hstep n _ (Nat.lt_succ_self n) (ih fun k t hk => hstep k t (Nat.lt_succ_of_lt hk))

theorem Keeps.each (h : Keeps l s0 s) {n : Nat} {f : State → Nat → State} (hf : ∀ t k, Keeps l s0 t → Keeps l s0 (f t k)) :
    Keeps l s0 (s.each n f) := State.each_rec (P := fun _ => Keeps l s0) h fun k t _ => hf t k

theorem Keeps.flag (h : Keeps l s0 s) {g : Fld} (hg : ∀ f ∈ l, f.base ≠ g.base) (i j : Nat) : s.flag g i j = s0.flag g i j := by
  simp [State.flag, h.regs g i j hg]

end

/-! ### Raising an event -/

/-- The registers that a record of the event log writes. -/
def logFlds : List Fld :=
  [R.EVT_LOG_SEQ, R.EVT_LOG_HEAD_INDEX, R.PG_STATUS_SAT_SEEN, R.PROT_DENY_ADDR_ADDR, R.PROT_DENY_INFO_CLASS, R.PROT_DENY_INFO_WRITE,
   R.PROT_DENY_INFO_VALID, R.PROT_DENY_CNT, R.SVC_DENY_CNT]

section
variable {l : List Fld} {s0 s : State}

theorem Keeps.denyRecord (hl : logFlds ⊆ l) (h : Keeps l s0 s) {c : Cls} {wr : Bool} {a : Nat} : Keeps l s0 (s.denyRecord c wr a) := by
  have hsat := hl (a := R.PG_STATUS_SAT_SEEN) (by decide)
  unfold State.denyRecord
  extract_lets t u
  have ht : Keeps l s0 t :=
    h.ite ((((h.put (hl (by decide))).put (hl (by decide))).put (hl (by decide))).put (hl (by decide)))
  exact (Keeps.ite (ht.bump (hl (by decide)) hsat) ht).bump (hl (by decide)) hsat

theorem Keeps.logRecord (hl : logFlds ⊆ l) (h : Keeps l s0 s) {e : Nat} {cause : Option Nat} : Keeps l s0 (s.logRecord e cause) := by
  unfold State.logRecord
  extract_lets counted s1 a w0 s2
  have h1 : Keeps l s0 s1 := (h.bump (f := R.EVT_LOG_SEQ) (hl (by decide)) (hl (by decide))).set
  have h2 : Keeps l s0 s2 := Keeps.ite h1.setWord.setWord.setWord.setWord (h1.denyRecord hl)
  exact h2.put (hl (by decide))

theorem Keeps.noteInBand (h : Keeps l s0 s) {e : Nat} : Keeps l s0 (s.noteInBand e) := Keeps.ite h.set h

theorem Keeps.note (hl : eventFlds ⊆ l) (h : Keeps l s0 s) {e : Nat} : Keeps l s0 (s.note e) :=
  (((h.putBit (hl (by decide))).set.put (hl (by decide))).put (hl (by decide))).noteInBand

theorem logFlds_subset_eventFlds : logFlds ⊆ eventFlds := by
  unfold logFlds eventFlds
  simp

theorem Keeps.raise (hl : eventFlds ⊆ l) (h : Keeps l s0 s) {e : Nat} : Keeps l s0 (s.raise e) :=
  Keeps.ite ((h.note hl).logRecord (List.Subset.trans logFlds_subset_eventFlds hl)) (h.note hl)

end

/-- Raising an event sets its sticky bit (R451). -/
theorem State.sticky_raise_same (s : State) (e : Nat) : (s.raise e).sticky e = true := by
  have hnote : (s.note e).sticky e = true := by
    have hband : Keeps [R.EVT_LAST_EVENT, R.EVT_LAST_TICK_TICK] (s.putBit R.EVT_STICKY_STICKY (e % 32) true (e / 32)) (s.note e) :=
      (((Keeps.refl _ _).set.put (by simp)).put (by simp)).noteInBand
    unfold State.sticky State.bit
    rw [hband.regs R.EVT_STICKY_STICKY _ _ (by decide)]
    exact s.bit_putBit_same R.EVT_STICKY_STICKY (e % 32) true (e / 32) 0 (Nat.mod_lt e (by decide))
  have hlog : Keeps logFlds (s.note e) (s.raise e) := by
    unfold State.raise
    exact Keeps.ite ((Keeps.refl _ _).logRecord (List.Subset.refl _)) (Keeps.refl _ _)
  unfold State.sticky State.bit at *
  rwa [hlog.regs R.EVT_STICKY_STICKY _ _ (by decide)]

/-! ### PLL-M's gate (R208, R213, R216) -/

/-- The registers that change where PLL-M's outputs gate: its lock, the fallback clock, the serial ports, the rate groups and the
clock outputs. -/
def gateFlds : List Fld :=
  [R.PLL_STATUS_FLOCK, R.PLL_STATUS_PLOCK, R.PLL_STATUS_UNLOCK_SEEN, R.PLL_UNLOCK_CNT, R.PLL_STATUS_GATED, R.TICK_STATUS_FALLBACK,
   R.PLLM_FALLBACK_CNT, R.SP_STATUS_CLK_PRESENT, R.SP_STATUS_STATE, R.SP_STATUS_CLK_LOSS, R.CLK_LOSS_CNT, R.ASRC_GRP_STATUS_LOCK,
   R.ASRC_LOCK_LOCK, R.ASRC_LOCK_CHG_CHG, R.STRX_STAT0_ASRC_LOCK, R.ASRC_GRP_UNLOCK_CNT, R.CLKOUT_STATUS_GATED] ++ eventFlds

theorem eventFlds_subset_gateFlds : eventFlds ⊆ gateFlds := List.subset_append_right _ _

section
variable {s0 s : State}

theorem Keeps.gateRaise (h : Keeps gateFlds s0 s) {e : Nat} : Keeps gateFlds s0 (s.raise e) := h.raise eventFlds_subset_gateFlds

theorem Keeps.plockGone (h : Keeps gateFlds s0 s) {x : LoopId} {quiet : Bool} : Keeps gateFlds s0 (s.plockGone x quiet) := by
  unfold State.plockGone
  extract_lets k t u
  have ht : Keeps gateFlds s0 t := ((h.put (by decide)).put (by decide)).bump (by decide) (by decide)
  have hu : Keeps gateFlds s0 u := ht.when fun _ h => h.set
  exact h.ite (Keeps.ite hu hu.gateRaise)

theorem Keeps.spRefresh (h : Keeps gateFlds s0 s) {p : Nat} : Keeps gateFlds s0 (s.spRefresh p) := by
  unfold State.spRefresh
  extract_lets w t x u
  have ht : Keeps gateFlds s0 t := h.put (by decide)
  have hu : Keeps gateFlds s0 u := Keeps.ite ht.set ht
  exact h.ite (Keeps.ite ((hu.put (by decide)).bump (by decide) (by decide)).gateRaise hu)

theorem Keeps.spLose (h : Keeps gateFlds s0 s) {p : Nat} : Keeps gateFlds s0 (s.spLose p) :=
  h.ite (h.set.put (by decide)).spRefresh

theorem Keeps.spPllmGates (h : Keeps gateFlds s0 s) : Keeps gateFlds s0 s.spPllmGates :=
  h.each fun _ _ h => Keeps.ite (Keeps.ite h.spLose.set h.spLose) h

theorem Keeps.asrcLockShow (h : Keeps gateFlds s0 s) {n : Nat} : Keeps gateFlds s0 (s.asrcLockShow n) := h.put (by decide)

/-- The entries of a rate group show its lock. -/
theorem Keeps.asrcShown (h : Keeps gateFlds s0 s) {g : Nat} : Keeps gateFlds s0 (s.each 512 fun u n =>
    if u.get R.STRX_ENTRY3_RATE n != 0 && u.get R.STRX_ENTRY3_ASRC_GROUP n == g then u.asrcLockShow n else u) :=
  h.each fun _ _ h => Keeps.ite h.asrcLockShow h

/-- A rate group counts that it has lost its lock. -/
theorem Keeps.asrcLost (h : Keeps gateFlds s0 s) {unlockAt : Sparse Nat} {g : Nat} :
    Keeps gateFlds s0 (({ s with serial := { s.serial with unlockAt := unlockAt } }.bump R.ASRC_GRP_UNLOCK_CNT g).raise EV_ASRC_UNLOCK) :=
  (h.set.bump (by decide) (by decide)).gateRaise

theorem Keeps.asrcSet (h : Keeps gateFlds s0 s) {g : Nat} {on : Bool} : Keeps gateFlds s0 (s.asrcSet g on) := by
  unfold State.asrcSet
  dsimp only
  refine h.ite (Keeps.ite ?_ (Keeps.asrcLost ?_)) <;>
    exact (((h.put (by decide)).putBit (by decide)).putBit (by decide)).asrcShown

theorem Keeps.clkoutLow (h : Keeps gateFlds s0 s) : Keeps gateFlds s0 s.clkoutLow :=
  (h.each fun _ _ h => h.set).send

theorem Keeps.clkoutGate (h : Keeps gateFlds s0 s) : Keeps gateFlds s0 s.clkoutGate :=
  (h.when fun _ h => h.clkoutLow).put (by decide)

theorem Keeps.pllmGate (h : Keeps gateFlds s0 s) : Keeps gateFlds s0 s.pllmGate := by
  unfold State.pllmGate
  extract_lets plls t u v
  have ht : Keeps gateFlds s0 t := h.set
  have hu : Keeps gateFlds s0 u := (ht.put (by decide)).when fun _ h => h.put (by decide)
  have hv : Keeps gateFlds s0 v := hu.when fun _ h => h.bump (by decide) (by decide)
  have hsp : Keeps gateFlds s0 v.spPllmGates := hv.spPllmGates
  have hasrc : Keeps gateFlds s0 v.spPllmGates.asrcAllUnlock := hsp.each fun _ _ h => h.asrcSet
  exact ht.ite hasrc.clkoutGate

end

/-- Calibration sets CAL_BUSY and gates PLL-M. -/
theorem State.calStart_keeps (s : State) : Keeps gateFlds (s.put R.PLLM_CAL_CAL_BUSY 1) s.calStart :=
  (((Keeps.refl _ _).put (by decide)).plockGone).pllmGate

/-! ### What the resets leave (R410 to R413) -/

theorem Sparse.get_filter {α : Type} (d : α) (m : Sparse α) (p : Nat → Bool) (k : Nat) :
    Sparse.get d (m.filter fun e => p e.1) k = if p k then Sparse.get d m k else d := by
  induction m with
  | nil => simp [Sparse.get]
  | cons e m ih =>
    obtain ⟨k', v⟩ := e
    by_cases hk : k' = k
    · subst hk
      cases hp : p k' <;> simp [Sparse.get, hp, ih]
    · cases hp : p k' <;> simp [Sparse.get, hp, hk, ih]

theorem Fld.key_div (f : Fld) (i j : Nat) : f.key i j / 2 ^ 32 / 32 = f.base / 32 := by
  have hi := Nat.mod_lt i (show 0 < 65536 by decide)
  have hj := Nat.mod_lt j (show 0 < 65536 by decide)
  unfold Fld.key Fld.base
  omega

/-- OFF keeps no register but the causes of resets. -/
theorem State.offReset_get (s : State) (causes : Bool) {f : Fld} (hf : f.base / 32 ≠ 0x64) (i j : Nat) :
    (s.offReset causes).get f i j = f.resetAt i := by
  unfold State.get State.offReset
  rw [Sparse.get_filter _ _ (fun k => causes && decide (k / 2 ^ 32 / 32 = 0x64))]
  rw [Fld.key_div, decide_eq_false hf, Bool.and_false]
  rfl

/-- OFF keeps no memory but the flash, whose addresses are the highest. -/
theorem State.offReset_byte (s : State) (causes : Bool) (a : Nat) :
    (s.offReset causes).byte a = if 0x40000000 ≤ a then s.byte a else memDefault a := by
  unfold State.byte State.offReset
  rw [Sparse.get_filter _ _ (fun k => decide (0x40000000 ≤ k))]
  simp

/-! ### O19 -/

/-- A register of SYS_RESET_CAUSE is none of those that OFF puts at their reset values. -/
theorem State.get_put_cause (s : State) {f g : Fld} (v i j : Nat) (hf : f.base / 32 = 0x64) (hg : g.base / 32 ≠ 0x64) :
    (s.put f v).get g i j = s.get g i j := s.get_put_ne v 0 0 i j fun hb => hg (hb ▸ hf)

/-- The registers that the start of BOOT writes. -/
def bootFlds : List Fld := [R.SYS_BOOTSEL_SEL, R.SEC_IB_SESSION_SESSION, R.PLLM_CAL_CAL_BUSY] ++ gateFlds

theorem State.bootEnter_keeps (s : State) (bootsel : Nat) : Keeps bootFlds { s with dev := .boot } (s.bootEnter bootsel) := by
  unfold State.bootEnter
  extract_lets d
  have hd : Keeps bootFlds { s with dev := .boot } d.2 := (Keeps.refl _ _).set
  have hcal := (((hd.put (f := R.SYS_BOOTSEL_SEL) (v := bootsel) (i := 0) (j := 0) (by decide)).put
    (f := R.SEC_IB_SESSION_SESSION) (v := d.1) (i := 0) (j := 0) (by decide)).put
    (f := R.PLLM_CAL_CAL_BUSY) (v := 1) (i := 0) (j := 0) (by decide))
  exact hcal.trans ((State.calStart_keeps _).mono (List.subset_append_right _ _))

/-- BOOTSEL is as sampled (R411). -/
theorem State.bootEnter_bootsel (s : State) (bs : Fin 4) : (s.bootEnter bs.val).get R.SYS_BOOTSEL_SEL = bs.val := by
  unfold State.bootEnter
  rw [(State.calStart_keeps _).regs _ _ _ (by decide), State.get_put_ne _ _ _ _ _ _ (by decide),
    State.get_put_ne _ _ _ _ _ _ (by decide), State.get_put_same]
  exact Nat.mod_eq_of_lt bs.isLt

/-- PLL-M calibrates from the start of BOOT (R208). -/
theorem State.bootEnter_calBusy (s : State) (bootsel : Nat) : (s.bootEnter bootsel).flag R.PLLM_CAL_CAL_BUSY = true := by
  unfold State.bootEnter
  rw [(State.calStart_keeps _).flag (by decide), State.flag_put_same]
  rfl

/-- What PORST_N low leaves. -/
theorem execPorstNLow_leaves (s : State) (removed : Bool) : ∃ t, exec (.porstNLow removed) s = .next t ∧
    t.dev = .off ∧ t.role = .solo ∧ t.op = .none ∧ t.porst = true ∧ t.otp = s.otp ∧ t.shadow = [] ∧ t.queue = [] ∧
    (∀ a, t.byte a = if 0x40000000 ≤ a then s.byte a else memDefault a) ∧
    (∀ (f : Fld) (i j : Nat), f.base / 32 ≠ 0x64 → t.get f i j = f.resetAt i) := by
  cases removed with
  | true =>
    exact ⟨_, rfl, rfl, rfl, rfl, rfl, rfl, rfl, rfl, State.offReset_byte _ false, fun f i j hf => State.offReset_get _ false hf i j⟩
  | false =>
    refine ⟨_, rfl, rfl, rfl, rfl, rfl, rfl, rfl, rfl, State.offReset_byte _ true, fun f i j hf => ?_⟩
    exact (State.get_put_cause _ 1 i j (by decide) hf).trans (State.offReset_get _ true hf i j)

/-- What a reset by VDD_CORE leaves. -/
theorem execVddCoreReset_leaves (s : State) (hon : s.dev ≠ .off) : ∃ t, exec .vddCoreReset s = .next t ∧
    t.dev = .off ∧ t.role = .solo ∧ t.op = .none ∧ t.coreLow = true ∧ t.porst = s.porst ∧ t.otp = s.otp ∧
    t.boot.coreUv = true ∧ t.flag R.SUP_PWR_STATUS_CORE_RESET_SEEN = true ∧ t.queue = [] ∧
    (∀ a, t.byte a = if 0x40000000 ≤ a then s.byte a else memDefault a) ∧
    (∀ (f : Fld) (i j : Nat), f.base / 32 ≠ 0x64 → f.base ≠ R.SUP_PWR_STATUS_CORE_RESET_SEEN.base →
      f.base ≠ R.SUP_LOGIC_STATUS_IOB_33.base → t.get f i j = f.resetAt i) := by
  refine ⟨_, congrArg Host.Outcome.next (if_neg hon), rfl, rfl, rfl, rfl, rfl, rfl, rfl, ?_, rfl, State.offReset_byte _ true,
    fun f i j hcause hseen hiob => ?_⟩
  · exact (State.flag_put_ne _ _ _ _ _ _ (by decide)).trans (State.flag_put_same _ _ _ _ _)
  · exact (State.get_put_ne _ _ _ _ _ _ hiob.symm).trans ((State.get_put_ne _ _ _ _ _ _ hseen.symm).trans
      ((State.get_put_cause _ 1 i j (by decide) hcause).trans (State.offReset_get _ true hcause i j)))

/-- PORST_N rises with the core up. -/
theorem execPorstNRise_boots (s : State) (bs : Fin 4) (io : Bool) (hporst : s.porst = true) (hcore : s.coreLow = false)
    (hoff : s.dev = .off) : ∃ t, exec (.porstNRise bs io) s = .next t ∧ t.dev = .boot ∧ t.porst = false ∧
      t.get R.SYS_BOOTSEL_SEL = bs.val ∧ t.flag R.SUP_LOGIC_STATUS_IOB_33 = io ∧ t.flag R.PLLM_CAL_CAL_BUSY = true ∧ t.otp = s.otp ∧
      t.role = s.role ∧ t.queue = s.queue := by
  have hexec : exec (.porstNRise bs io) s =
      .next ((({ s with porst := false } : State).put R.SUP_LOGIC_STATUS_IOB_33 (b2n io)).bootEnter bs.val) := by
    show execPorstNRise bs io s = _
    simp [execPorstNRise, hporst, hcore, hoff]
  have hkeeps := State.bootEnter_keeps (({ s with porst := false } : State).put R.SUP_LOGIC_STATUS_IOB_33 (b2n io)) bs.val
  obtain ⟨-, -, hrole, hotp, -⟩ := hkeeps.core
  refine ⟨_, hexec, State.bootEnter_dev _ _, hkeeps.porst, State.bootEnter_bootsel _ bs, ?_, State.bootEnter_calBusy _ _, hotp, hrole,
    hkeeps.queue⟩
  rw [hkeeps.flag (by decide)]
  refine (State.flag_put_same _ _ _ _ _).trans ?_
  cases io <;> rfl

/-- VDD_CORE returns with PORST_N high. -/
theorem execVddCoreResetClear_boots (s : State) (bs : Fin 4) (hcore : s.coreLow = true) (hoff : s.dev = .off) (hporst : s.porst = false) :
    ∃ t, exec (.vddCoreResetClear bs) s = .next t ∧ t.dev = .boot ∧ t.coreLow = false ∧ t.get R.SYS_BOOTSEL_SEL = bs.val ∧
      t.otp = s.otp := by
  have hexec : exec (.vddCoreResetClear bs) s = .next (({ s with coreLow := false } : State).bootEnter bs.val) := by
    show execVddCoreResetClear bs s = _
    simp [execVddCoreResetClear, hporst, hcore, hoff]
  have hkeeps := State.bootEnter_keeps ({ s with coreLow := false } : State) bs.val
  obtain ⟨-, -, -, hotp, -⟩ := hkeeps.core
  exact ⟨_, hexec, State.bootEnter_dev _ _, hkeeps.coreLow, State.bootEnter_bootsel _ bs, hotp⟩

/-- Settles O19: what each reset leaves, and the two ways from OFF to BOOT. -/
theorem powerAndResets : Obligations.PowerAndResets := by
  unfold Obligations.PowerAndResets
  exact ⟨execPorstNLow_leaves, execVddCoreReset_leaves, execPorstNRise_boots, execVddCoreResetClear_boots⟩

/-! ### The power stage: what its operations leave (R305 to R321) -/

/-- The registers that a channel's stops, faults and starts write beside its state. -/
def sideFlds : List Fld :=
  [R.PCH_STATUS_OPEN_LOOP, R.PCH_STATUS_WAIT_RAIL, R.PCH_STATUS_CLK_MUTE, R.PCH_STATE_CHG_CHG, R.PCH_STATUS_CAUSE,
   R.PCH_STATUS_FAULT_SEEN, R.PCH_FAULT_INFO_CAUSE, R.PCH_FAULT_INFO_TICK, R.DIAG_RES_AC_RESULT] ++ eventFlds

/-- The same with the channel's state. -/
def chFlds : List Fld := R.PCH_STATUS_STATE :: sideFlds

/-- The registers that show a boost rail. -/
def railFlds : List Fld :=
  [R.BST_STATUS_STATE, R.BST_STATUS_CAUSE, R.BST_STATUS_FAULT_SEEN, R.BST_STATUS_PASS, R.BST_VSET_VOLTS]

theorem eventFlds_subset_sideFlds : eventFlds ⊆ sideFlds := List.subset_append_right _ _

section
variable {l : List Fld} {s0 s : State}

theorem Keeps.modCh (h : Keeps l s0 s) {n : Nat} {f : PchHid → PchHid} : Keeps l s0 (s.modCh n f) := h.set

theorem Keeps.modRail (h : Keeps l s0 s) {r : Nat} {f : RailHid → RailHid} : Keeps l s0 (s.modRail r f) := h.set

theorem Keeps.gainRun (h : Keeps l s0 s) {n dir : Nat} {e : GainEnd} : Keeps l s0 (s.gainRun n dir e) := h.modCh

theorem Keeps.applyFeed (hl : sideFlds ⊆ l) (h : Keeps l s0 s) {n : Nat} : Keeps l s0 (s.applyFeed n) := by
  unfold State.applyFeed
  extract_lets t
  have ht : Keeps l s0 t := h.modCh
  exact ht.ite (ht.put (hl (by decide)))

theorem Keeps.chMark (hl : sideFlds ⊆ l) (h : Keeps l s0 s) {n cause : Nat} : Keeps l s0 (s.chMark n cause) :=
  (h.put (hl (by decide))).put (hl (by decide))

theorem Keeps.chFault (hl : sideFlds ⊆ l) (h : Keeps l s0 s) {n cause : Nat} : Keeps l s0 (s.chFault n cause) :=
  (((h.chMark hl).put (hl (by decide))).put (hl (by decide))).raise (List.Subset.trans eventFlds_subset_sideFlds hl)

theorem Keeps.diagCut (hl : sideFlds ⊆ l) (h : Keeps l s0 s) {n : Nat} : Keeps l s0 (s.diagCut n) := by
  have hstep : Keeps l s0 { s with diag := { s.diag with step := 10 } } := h.set
  exact Keeps.ite ((hstep.put (hl (by decide))).when fun _ h => h.send) h

end

section
variable {l : List Fld} (hl : chFlds ⊆ l) {s0 s : State}
include hl

theorem sideFlds_subset_of_chFlds : sideFlds ⊆ l := List.Subset.trans (List.subset_cons_self _ _) hl

theorem Keeps.enterCh (h : Keeps l s0 s) {n st : Nat} : Keeps l s0 (s.enterCh n st) := by
  have hev := List.Subset.trans eventFlds_subset_sideFlds (sideFlds_subset_of_chFlds hl)
  unfold State.enterCh
  extract_lets old keeps t
  have ht : Keeps l s0 t := h.modCh
  exact h.ite ((((ht.put (hl (by decide))).putBit (hl (by decide))).put (hl (by decide))).raise hev)

theorem Keeps.chDead (h : Keeps l s0 s) {n st : Nat} : Keeps l s0 (s.chDead n st) :=
  ((h.modCh.applyFeed (sideFlds_subset_of_chFlds hl)).put (hl (by decide))).enterCh hl

theorem Keeps.rampUp (h : Keeps l s0 s) {n : Nat} : Keeps l s0 (s.rampUp n) := by
  have hs := sideFlds_subset_of_chFlds hl
  unfold State.rampUp
  extract_lets t u
  have ht : Keeps l s0 t := (h.applyFeed hs).put (hl (by decide))
  have hu : Keeps l s0 u := ht.modCh
  exact Keeps.ite ((h.chFault hs).chDead hl) ((hu.put (hl (by decide))).enterCh hl)

theorem Keeps.dcTest (h : Keeps l s0 s) {n kind : Nat} : Keeps l s0 (s.dcTest n kind) :=
  (h.modCh.put (hl (by decide))).enterCh hl

theorem Keeps.chStart (h : Keeps l s0 s) {n : Nat} : Keeps l s0 (s.chStart n) :=
  h.ite (Keeps.ite (h.put (hl (by decide))) (Keeps.ite (h.modCh.dcTest hl) (h.rampUp hl)))

theorem Keeps.retryGo (h : Keeps l s0 s) {n : Nat} : Keeps l s0 (s.retryGo n) :=
  Keeps.ite (h.chDead hl) (Keeps.ite (h.modCh.put (hl (by decide))) (h.modCh.dcTest hl))

theorem Keeps.chResume (h : Keeps l s0 s) {n : Nat} : Keeps l s0 (s.chResume n) :=
  Keeps.ite (h.chDead hl) (Keeps.ite (h.put (hl (by decide))) (h.rampUp hl))

theorem Keeps.diagRail (h : Keeps l s0 s) : Keeps l s0 s.diagRail := by
  have hstep : Keeps l s0 { s with diag := { s.diag with step := 1 } } := h.set
  unfold State.diagRail
  split
  · exact Keeps.ite (hstep.dcTest hl) h
  · exact h

theorem Keeps.railReached (h : Keeps l s0 s) {r : Nat} : Keeps l s0 (s.railReached r) :=
  (h.each fun _ _ h => Keeps.ite (h.chStart hl) (Keeps.ite (h.chResume hl) (Keeps.ite (h.chResume hl)
    (Keeps.ite (h.retryGo hl) h)))).diagRail hl

end

section
variable {l : List Fld} (hl : railFlds ⊆ l) {s0 s : State}
include hl

theorem Keeps.railShow (h : Keeps l s0 s) {r : Nat} : Keeps l s0 (s.railShow r) :=
  (h.put (hl (by decide))).put (hl (by decide))

theorem Keeps.railOff (h : Keeps l s0 s) {r cause : Nat} : Keeps l s0 (s.railOff r cause) := by
  unfold State.railOff
  extract_lets t u
  have ht : Keeps l s0 t := h.modRail.put (hl (by decide))
  have hu : Keeps l s0 u := ht.ite ((ht.put (hl (by decide))).put (hl (by decide)))
  exact hu.railShow hl

theorem Keeps.railsOff (h : Keeps l s0 s) {cause : Nat} : Keeps l s0 (s.railsOff cause) :=
  h.each fun _ _ h => h.ite (h.railOff hl)

theorem Keeps.railRest (h : Keeps l s0 s) {r : Nat} : Keeps l s0 (s.railRest r) := Keeps.ite (h.railOff hl) h

variable (hch : chFlds ⊆ l)
include hch

theorem Keeps.railTrack (h : Keeps l s0 s) {r : Nat} : Keeps l s0 (s.railTrack r) :=
  ((h.modRail.put (hl (by decide))).railShow hl).railReached hch

theorem Keeps.railSoft (h : Keeps l s0 s) {r : Nat} : Keeps l s0 (s.railSoft r) := by
  unfold State.railSoft
  extract_lets vin t
  have ht : Keeps l s0 t := h.modRail.put (hl (by decide))
  exact Keeps.ite (ht.railTrack hl hch) (ht.railShow hl)

theorem Keeps.railEval (h : Keeps l s0 s) {r : Nat} : Keeps l s0 (s.railEval r) :=
  Keeps.ite (h.railRest hl) (Keeps.ite (h.railSoft hl hch) h)

theorem Keeps.railsEval (h : Keeps l s0 s) : Keeps l s0 s.railsEval := h.each fun _ _ h => h.railEval hl hch

end

/-- The mute of the channels follows the clock error. -/
theorem Keeps.clockChange {l : List Fld} (hl : chFlds ⊆ l) {s0 s : State} (h : Keeps l s0 s) {was : Bool} :
    Keeps l s0 (s.clockChange was) := by
  have hev := List.Subset.trans eventFlds_subset_sideFlds (sideFlds_subset_of_chFlds hl)
  unfold State.clockChange
  refine h.ite (Keeps.ite (Keeps.raise hev (h.each fun t n ht => ?_)) (h.each fun t n ht => ?_))
  · exact Keeps.ite (Keeps.ite (ht.chDead hl) (ht.modCh.put (hl (by decide)))) (ht.when fun _ h => h.send)
  · extract_lets u
    have hu : Keeps l s0 u := (ht.put (hl (by decide))).when fun _ h => h.send
    exact Keeps.ite hu.modCh.gainRun hu

section
variable {l : List Fld} {s t : State}

theorem Keeps.pllLost (h : Keeps l s t) : t.power.pllLost = s.power.pllLost := by rw [h.power]

theorem Keeps.linkLost (h : Keeps l s t) : t.power.linkLost = s.power.linkLost := by rw [h.power]

theorem Keeps.linkOff (h : Keeps l s t) : t.power.linkOff = s.power.linkOff := by rw [h.power]

end

/-! ### A forced stop (R315) -/

theorem State.put_chState (s : State) {n m : Nat} (v : Nat) (hn : n < 8) (hm : m < 8) :
    (s.put R.PCH_STATUS_STATE v n).chState m = if m = n then v % 8 else s.chState m := by
  unfold State.chState
  by_cases h : m = n
  · rw [if_pos h, h, State.get_put_same]
    rfl
  · rw [if_neg h, State.get_put_inst s v 0 0 (by omega)]

theorem Keeps.chState {s t : State} (h : Keeps sideFlds s t) (n : Nat) : t.chState n = s.chState n :=
  h.regs R.PCH_STATUS_STATE n 0 (by decide)

/-- A channel enters the state it is told to, and no other channel moves. -/
theorem State.enterCh_chState (s : State) {n m st : Nat} (hn : n < 8) (hm : m < 8) (hst : st < 8) :
    (s.enterCh n st).chState m = if m = n then st else s.chState m := by
  unfold State.enterCh
  extract_lets old keeps t
  split
  next h =>
    split
    next hmn => exact hmn ▸ h
    next => rfl
  next =>
    have hput : (t.put R.PCH_STATUS_STATE st n).chState m = if m = n then st else s.chState m := by
      rw [State.put_chState t st hn hm, Nat.mod_eq_of_lt hst]
      rfl
    have hk : Keeps sideFlds (t.put R.PCH_STATUS_STATE st n) (((((t.put R.PCH_STATUS_STATE st n).putBit R.PCH_STATE_CHG_CHG n true).put
        R.PCH_STATUS_CLK_MUTE (b2n (switching st && s.clockError)) n).raise EV_PCH_STATE)) :=
      (((Keeps.refl _ _).putBit (by decide)).put (by decide)).raise eventFlds_subset_sideFlds
    exact (hk.chState m).trans hput

theorem State.chDead_chState (s : State) {n m st : Nat} (hn : n < 8) (hm : m < 8) (hst : st < 8) :
    (s.chDead n st).chState m = if m = n then st else s.chState m := by
  unfold State.chDead
  extract_lets t
  have ht : Keeps sideFlds s ((t.applyFeed n).put R.PCH_STATUS_WAIT_RAIL 0 n) :=
    ((Keeps.refl _ _).modCh.applyFeed (List.Subset.refl _)).put (by decide)
  rw [State.enterCh_chState _ hn hm hst, ht.chState]

/-- The channel that a forced stop takes: OFF, but for a LATCHED one. -/
def stopped (st : Nat) : Nat := if st = chLatched then chLatched else chOff

/-- The first k channels have been stopped by force. -/
structure ForcedTo (s : State) (k : Nat) (t : State) : Prop where
  keeps : Keeps chFlds s t
  state : ∀ m, m < 8 → t.chState m = if m < k then stopped (s.chState m) else s.chState m

theorem ForcedTo.stay {s t : State} {k : Nat} (h : ForcedTo s k t) (hs : t.chState k = chOff ∨ t.chState k = chLatched) (hk : k < 8) :
    ForcedTo s (k + 1) t where
  keeps := h.keeps
  state m hm := by
    have hmk := h.state m hm
    have hkk := h.state k hk
    rw [if_neg (Nat.lt_irrefl k)] at hkk
    rw [hmk]
    by_cases hlt : m = k
    · subst hlt
      rw [if_neg (Nat.lt_irrefl m), if_pos (Nat.lt_succ_self m)]
      rcases hs with hs | hs <;> rw [← hkk, hs] <;> rfl
    · simp only [show m < k + 1 ↔ m < k by omega]

theorem ForcedTo.stop {s t u : State} {k : Nat} (h : ForcedTo s k t) (hs : t.chState k ≠ chLatched) (hk : k < 8)
    (hu : Keeps sideFlds t u) : ForcedTo s (k + 1) (u.chDead k chOff) where
  keeps := (h.keeps.trans (hu.mono (List.subset_cons_self _ _))).chDead (List.Subset.refl _)
  state m hm := by
    have hkk := h.state k hk
    rw [if_neg (Nat.lt_irrefl k)] at hkk
    rw [State.chDead_chState u hk hm (by decide), hu.chState, h.state m hm]
    by_cases hlt : m = k
    · subst hlt
      rw [if_pos rfl, if_pos (Nat.lt_succ_self m), stopped, if_neg (hkk ▸ hs)]
    · simp only [hlt, if_false, show m < k + 1 ↔ m < k by omega]

theorem State.forceOff_forced (s : State) (cause : Nat) : ForcedTo s 8 (s.forceOff cause) := by
  unfold State.forceOff
  refine State.each_rec ⟨Keeps.refl _ _, fun m _ => rfl⟩ fun k t hk h => ?_
  extract_lets st
  split
  next hs => exact h.stay (by simpa using hs) hk
  next hs =>
    have hs' := List.Subset.refl sideFlds
    exact h.stop (fun e => hs (by simp [st, e])) hk (((Keeps.refl _ t).diagCut hs').chMark hs').modCh

theorem State.railOff_state (s : State) {r q : Nat} (cause : Nat) (hr : r < 2) (hq : q < 2) :
    (s.railOff r cause).get R.BST_STATUS_STATE q = if q = r then 0 else s.get R.BST_STATUS_STATE q := by
  unfold State.railOff
  extract_lets t u
  have ht : t.get R.BST_STATUS_STATE q = if q = r then 0 else s.get R.BST_STATUS_STATE q := by
    split
    next h => exact h ▸ State.get_put_same _ R.BST_STATUS_STATE 0 r 0
    next h => exact State.get_put_inst _ 0 0 0 (by omega)
  have hu : Keeps [R.BST_STATUS_CAUSE, R.BST_STATUS_FAULT_SEEN, R.BST_STATUS_PASS, R.BST_VSET_VOLTS] t (u.railShow r) :=
    (((Keeps.refl _ t).ite (((Keeps.refl _ t).put (by decide)).put (by decide))).put (by decide)).put (by decide)
  exact (hu.regs _ q 0 (by decide)).trans ht

/-- The first k rails are OFF, but for LATCHED ones. -/
structure RailsTo (s : State) (k : Nat) (t : State) : Prop where
  keeps : Keeps railFlds s t
  state : ∀ r, r < 2 → t.get R.BST_STATUS_STATE r =
    if r < k ∧ s.get R.BST_STATUS_STATE r ≠ 4 then 0 else s.get R.BST_STATUS_STATE r

theorem State.railsOff_off (s : State) (cause : Nat) : RailsTo s 2 (s.railsOff cause) := by
  unfold State.railsOff
  refine State.each_rec ⟨Keeps.refl _ _, fun r _ => by simp⟩ fun k t hk h => ?_
  have hkk := h.state k hk
  rw [if_neg (by simp)] at hkk
  split
  next hs =>
    refine ⟨h.keeps, fun r hr => ?_⟩
    rw [h.state r hr]
    by_cases hrk : r = k
    · simp [hrk, ← hkk, hs]
    · simp only [show r < k + 1 ↔ r < k by omega]
  next hs =>
    refine ⟨h.keeps.railOff (List.Subset.refl _), fun r hr => ?_⟩
    rw [State.railOff_state t cause hk hr, h.state r hr]
    by_cases hrk : r = k
    · subst hrk
      rw [if_pos rfl, if_pos ⟨Nat.lt_succ_self r, hkk ▸ hs⟩]
    · simp only [hrk, if_false, show r < k + 1 ↔ r < k by omega]

/-- A forced stop puts every channel and rail that is not LATCHED into OFF, and writes nothing but their registers. -/
structure ForcedStop (s t : State) : Prop where
  keeps : Keeps (chFlds ++ railFlds) s t
  channels : ∀ n, n < 8 → t.chState n = if s.chState n = chLatched then chLatched else chOff
  rails : ∀ r, r < 2 → t.get R.BST_STATUS_STATE r = if s.get R.BST_STATUS_STATE r = 4 then 4 else 0

theorem State.forcedStop_stops (s : State) (cause : Nat) : ForcedStop s (s.forcedStop cause) := by
  unfold State.forcedStop
  obtain ⟨hck, hcs⟩ := s.forceOff_forced cause
  generalize s.forceOff cause = t at hck hcs
  obtain ⟨hrk, hrs⟩ := t.railsOff_off (cause - 2)
  refine ⟨(hck.mono (List.subset_append_left _ _)).trans (hrk.mono (List.subset_append_right _ _)), fun n hn => ?_, fun r hr => ?_⟩
  · have hst : (t.railsOff (cause - 2)).chState n = t.chState n := hrk.regs R.PCH_STATUS_STATE n 0 (by decide)
    rw [hst, hcs n hn, if_pos hn, stopped]
  · have hst : t.get R.BST_STATUS_STATE r = s.get R.BST_STATUS_STATE r := hck.regs R.BST_STATUS_STATE r 0 (by decide)
    rw [hrs r hr, hst]
    by_cases h4 : s.get R.BST_STATUS_STATE r = 4
    · simp [h4]
    · simp [h4, hr]

theorem execDieLinkShutdown_leaves {s : State} (hp : s.powered = true) (hl : s.power.linkLost = true) :
    ∃ t, exec .dieLinkShutdown s = .next t ∧ t.power.linkOff = true ∧ SameCore s t ∧
      (∀ n, n < 8 → t.chState n = if s.chState n = chLatched then chLatched else chOff) ∧
      ∀ r, r < 2 → t.get R.BST_STATUS_STATE r = if s.get R.BST_STATUS_STATE r = 4 then 4 else 0 := by
  have he : exec .dieLinkShutdown s = .next (State.forcedStop { s with power := { s.power with linkOff := true } } 10) := by
    show execDieLinkShutdown s = _
    simp [execDieLinkShutdown, hp, hl]
  obtain ⟨hkeeps, hch, hrl⟩ := State.forcedStop_stops { s with power := { s.power with linkOff := true } } 10
  exact ⟨_, he, hkeeps.linkOff, hkeeps.core, hch, hrl⟩

/-! ### Good and failed frames (R22, R23) -/

/-- A good frame that ends a loss: its counters are as after no failure, and the clock error is over where only the link was lost. -/
def State.linkGood (s : State) : State :=
  { s with power := { s.power with badFrames := 0, linkLost := false, linkOff := false, linkTicks := 0 } }

theorem execDieLinkFrame_good {s : State} (hp : s.powered = true) :
    ∃ t, exec (.dieLinkFrame true) s = .next t ∧ t.power.badFrames = 0 ∧ t.power.linkLost = false ∧ t.power.linkOff = false ∧
      t.power.linkTicks = 0 ∧ t.power.pllLost = s.power.pllLost ∧
      t.power.link.setpoints = (List.range 2).map (fun r => (t.rail r).setp) ∧
      t.power.link.status = (List.range 8).map t.chState ++ (List.range 2).map (fun r => t.get R.BST_STATUS_STATE r) ∧ SameCore s t := by
  have he : exec (.dieLinkFrame true) s =
      .next (((s.linkGood.clockChange s.clockError).railsEval.each 8 State.chStart).linkTake) := by
    show execDieLinkFrame true s = _
    simp [execDieLinkFrame, hp, State.linkGood]
  have hch : chFlds ⊆ chFlds ++ railFlds := List.subset_append_left _ _
  have hk : Keeps (chFlds ++ railFlds) s.linkGood ((s.linkGood.clockChange s.clockError).railsEval.each 8 State.chStart) :=
    (((Keeps.refl _ _).clockChange hch).railsEval (List.subset_append_right _ _) hch).each fun _ _ h => h.chStart hch
  generalize (s.linkGood.clockChange s.clockError).railsEval.each 8 State.chStart = u at he hk
  exact ⟨_, he, congrArg Power.badFrames hk.power, hk.linkLost, hk.linkOff,
    congrArg Power.linkTicks hk.power, hk.pllLost, rfl, rfl, hk.core⟩

theorem execDieLinkFrame_bad {s : State} (hp : s.powered = true) (hb : s.power.badFrames < 15) :
    exec (.dieLinkFrame false) s = .next ({ s with power := { s.power with badFrames := s.power.badFrames + 1 } }.send
      (.dieHeld s.power.link.samples s.power.link.setpoints)) := by
  have h16 : ¬16 ≤ s.power.badFrames + 1 := by omega
  show execDieLinkFrame false s = _
  simp [execDieLinkFrame, hp, State.send, h16]

/-! ### The mute (R309) -/

/-- The registers that a mute of the channels writes. -/
def muteFlds : List Fld := R.PCH_STATUS_CLK_MUTE :: eventFlds

/-- The first k channels have been muted: those that switch. -/
structure MutedTo (s : State) (k : Nat) (t : State) : Prop where
  keeps : Keeps [R.PCH_STATUS_CLK_MUTE] s t
  muted : ∀ m, m < k → m < 8 → switching (s.chState m) = true → t.flag R.PCH_STATUS_CLK_MUTE m = true

theorem MutedTo.next {s t u : State} {k : Nat} (h : MutedTo s k t) (hu : Keeps [R.PCH_STATUS_CLK_MUTE] t u)
    (hold : ∀ m, m < 8 → t.flag R.PCH_STATUS_CLK_MUTE m = true → u.flag R.PCH_STATUS_CLK_MUTE m = true)
    (hnew : switching (s.chState k) = true → u.flag R.PCH_STATUS_CLK_MUTE k = true) : MutedTo s (k + 1) u where
  keeps := h.keeps.trans hu
  muted m hm h8 hsw := by
    by_cases hmk : m = k
    · exact hmk ▸ hnew (hmk ▸ hsw)
    · exact hold m h8 (h.muted m (by omega) h8 hsw)

theorem State.clkMute_put (s : State) {n m : Nat} (hn : n < 8) (hm : m < 8) (h : m = n ∨ s.flag R.PCH_STATUS_CLK_MUTE m = true) :
    (s.put R.PCH_STATUS_CLK_MUTE 1 n).flag R.PCH_STATUS_CLK_MUTE m = true := by
  by_cases hmn : m = n
  · rw [hmn, State.flag_put_same]
    rfl
  · rw [State.flag, State.get_put_inst s 1 0 0 (by omega)]
    exact h.resolve_left hmn

/-- A state that begins a clock error: the error shows, every channel that switches is muted, and none moves. -/
theorem State.clockChange_mutes {s : State} (hc : s.clockError = true) (hd : s.dev ≠ .safe) :
    Keeps muteFlds s (s.clockChange false) ∧ (s.clockChange false).sticky EV_CLK_MUTE = true ∧
      ∀ n, n < 8 → switching (s.chState n) = true → (s.clockChange false).flag R.PCH_STATUS_CLK_MUTE n = true := by
  unfold State.clockChange
  rw [if_neg (by simp [hc]), if_pos hc]
  generalize hv : s.each 8 _ = v
  have hm : MutedTo s 8 v := by
    rw [← hv]
    refine State.each_rec ⟨Keeps.refl _ _, fun m hm => absurd hm (Nat.not_lt_zero m)⟩ fun k t hk h => ?_
    have hdev : t.dev ≠ .safe := h.keeps.core.dev_eq ▸ hd
    have hst : t.chState k = s.chState k := h.keeps.regs R.PCH_STATUS_STATE k 0 (by decide)
    rw [if_neg hdev, hst]
    split
    next hsw =>
      exact h.next ((Keeps.refl _ t).modCh.put (by simp)) (fun m h8 hf => State.clkMute_put _ hk h8 (.inr hf))
        fun _ => State.clkMute_put _ hk hk (.inl rfl)
    next hsw =>
      have hw : Keeps [] t (t.when (decide (t.toneNow k ≠ 0)) fun v => v.send (.toneStop k)) := (Keeps.refl _ t).when fun _ h => h.send
      exact h.next (hw.mono (List.nil_subset _)) (fun m _ hf => (hw.flag (by simp) m 0).trans hf) fun hsw' => absurd hsw' hsw
  have hr : Keeps eventFlds v (v.raise EV_CLK_MUTE) := (Keeps.refl _ v).raise (List.Subset.refl _)
  exact ⟨(hm.keeps.mono (by simp [muteFlds])).trans (hr.mono (List.subset_cons_self _ _)), State.sticky_raise_same v EV_CLK_MUTE,
    fun n hn hsw => (hr.flag (by decide) n 0).trans (hm.muted n hn hn hsw)⟩

/-- A state that differs from s in what is lost alone: the DAC clock is. -/
structure LosesClock (s u : State) : Prop where
  core : SameCore s u
  regs : u.regs = s.regs
  lost : u.clockError = true

theorem LosesClock.mutes {s u : State} (h : LosesClock s u) (hd : s.dev ≠ .safe) :
    (u.clockChange false).clockError = true ∧ (u.clockChange false).sticky EV_CLK_MUTE = true ∧ SameCore s (u.clockChange false) ∧
      (u.clockChange false).power.linkLost = u.power.linkLost ∧ (u.clockChange false).power.pllLost = u.power.pllLost ∧
      ∀ n, n < 8 → (u.clockChange false).chState n = s.chState n ∧
        (switching (s.chState n) = true → (u.clockChange false).flag R.PCH_STATUS_CLK_MUTE n = true) := by
  obtain ⟨hk, hsticky, hmute⟩ := State.clockChange_mutes h.lost (h.core.dev_eq ▸ hd)
  have hst (n : Nat) : u.chState n = s.chState n := by simp only [State.chState, State.get, h.regs]
  have herr : (u.clockChange false).clockError = u.clockError := by simp only [State.clockError, hk.linkLost, hk.pllLost]
  exact ⟨herr.trans h.lost, hsticky, h.core.trans hk.core, hk.linkLost, hk.pllLost,
    fun n hn => ⟨(hk.regs R.PCH_STATUS_STATE n 0 (by decide)).trans (hst n), fun hsw => hmute n hn ((hst n).symm ▸ hsw)⟩⟩

/-- The loss of the die link begins a clock error where there was none. -/
theorem State.linkLoss_eq {s : State} (hl : s.power.linkLost = false) (hp : s.power.pllLost = false) :
    s.linkLoss = State.clockChange { s with power := { s.power with linkLost := true, linkTicks := 0 } } false := by
  have herr : s.clockError = false := by simp [State.clockError, hl, hp]
  simp [State.linkLoss, hl, herr]

theorem execDieLinkLoss_eq {s : State} (hp : s.powered = true) : exec .dieLinkLoss s = .next s.linkLoss := by
  show execDieLinkLoss s = _
  rw [execDieLinkLoss, if_pos hp]

/-- The state that a failed frame leaves before a loss is looked for: the failure counted, the frame before repeated. -/
def State.linkHeld (s : State) : State :=
  { s with power := { s.power with badFrames := s.power.badFrames + 1 } }.send (.dieHeld s.power.link.samples s.power.link.setpoints)

theorem execDieLinkFrame_lost {s : State} (hp : s.powered = true) (hb : 15 ≤ s.power.badFrames) :
    exec (.dieLinkFrame false) s = .next s.linkHeld.linkLoss := by
  have h16 : 16 ≤ s.linkHeld.power.badFrames := Nat.succ_le_succ hb
  show execDieLinkFrame false s = _
  simp only [execDieLinkFrame, hp]
  exact congrArg Host.Outcome.next (if_pos h16)

theorem execDacClockLoss_eq {s : State} (hp : s.powered = true) (hg : s.pllmGated = true) (hpll : s.power.pllLost = false)
    (hl : s.power.linkLost = false) :
    exec .dacClockLoss s = .next (State.clockChange { s with power := { s.power with pllLost := true } } false) := by
  have herr : s.clockError = false := by simp [State.clockError, hl, hpll]
  show execDacClockLoss s = _
  simp [execDacClockLoss, hp, hg, hpll, herr]

theorem exec_losesClock {s : State} {c : Instr} (hp : s.powered = true) (hl : s.power.linkLost = false) (hpll : s.power.pllLost = false)
    (hc : c = .dieLinkLoss ∨ (c = .dieLinkFrame false ∧ 15 ≤ s.power.badFrames) ∨ (c = .dacClockLoss ∧ s.pllmGated = true)) :
    ∃ u, exec c s = .next (u.clockChange false) ∧ LosesClock s u ∧ (c ≠ .dacClockLoss → u.power.linkLost = true) ∧
      (c = .dacClockLoss → u.power.pllLost = true) := by
  rcases hc with rfl | ⟨rfl, hb⟩ | ⟨rfl, hg⟩
  · have he := execDieLinkLoss_eq hp
    rw [State.linkLoss_eq hl hpll] at he
    exact ⟨_, he, ⟨SameCore.rfl, rfl, Bool.or_true _⟩, fun _ => rfl, nofun⟩
  · have he := execDieLinkFrame_lost hp hb
    rw [State.linkLoss_eq (s := s.linkHeld) hl hpll] at he
    exact ⟨_, he, ⟨SameCore.rfl, rfl, Bool.or_true _⟩, fun _ => rfl, nofun⟩
  · exact ⟨_, execDacClockLoss_eq hp hg hpll hl, ⟨SameCore.rfl, rfl, Bool.true_or _⟩, fun h => absurd rfl h, fun _ => rfl⟩

/-- Settles O57: a good frame keeps everything but the channels and rails it lets start, a forced stop is followed channel by channel and
rail by rail, and each loss of the DAC clock is one mute of the channels that switch. -/
theorem dieLinkRows : Obligations.DieLinkRows := by
  refine ⟨fun s hp => ⟨execDieLinkFrame_good hp, execDieLinkFrame_bad hp, execDieLinkShutdown_leaves hp⟩,
    fun s c hp hd hl hpll hc => ?_⟩
  obtain ⟨u, he, hloss, hlink, hdac⟩ := exec_losesClock hp hl hpll hc
  obtain ⟨herr, hsticky, hcore, hlinkLost, hpllLost, hch⟩ := hloss.mutes hd
  exact ⟨_, he, herr, hsticky, hcore, fun h => hlinkLost.trans (hlink h), fun h => hpllLost.trans (hdac h), hch⟩

end Sys2Proof.Machine

/-! PROOFS. The tick and the cut list: the ticks run (O10), denied accesses (O16), fences and edges (O28), arming and validating
commits (O25), what a commit leaves (O26) and
the rows of a tick (O24). -/

namespace Sys2Proof.Machine

/-! ### The ticks run -/

/-- Every command but TICK_BOUNDARY and the end of a fuse command respects each wide relation of Laws/Closed.lean. -/
theorem exec_wide {Q : State → State → Prop} (H : Wide Q) {c : Instr} {s t : State} (htick : ∀ refs meas, c ≠ .tickBoundary refs meas)
    (hfuse : ∀ ok, c ≠ .otpCmdDone ok) (h : exec c s = .next t) : Q s t := by
  cases c with
  | tickBoundary refs meas => exact absurd rfl (htick refs meas)
  | otpCmdDone ok => exact absurd rfl (hfuse ok)
  | porstNLow _ => exact execPorstNLow_wide H h
  | porstNRise _ _ => exact execPorstNRise_wide H h
  | vddCoreReset => exact execVddCoreReset_wide H h
  | vddCoreResetClear _ => exact execVddCoreResetClear_wide H h
  | wrstNPulse _ => exact execWrstNPulse_wide H h
  | wreset _ _ => exact execWreset_wide H h
  | selfReset _ => exact execSelfReset_wide H h
  | autoWarmReset _ => exact execAutoWarmReset_wide H h
  | bootRomStart _ => exact execBootRomStart_wide H h
  | firmwareLoaded _ => exact execFirmwareLoaded_wide H h
  | imageReadDone _ => exact execImageReadDone_wide H h
  | imageValidationDone _ => exact execImageValidationDone_wide H h
  | start _ => exact execStart_wide H h
  | startValidationDone => exact execStartValidationDone_wide H h
  | stop _ => exact execStop_wide H h
  | stopDone => exact execStopDone_wide H h
  | load _ => exact execLoad_wide H h
  | loadValidationDone _ => exact execLoadValidationDone_wide H h
  | flashReadTimeout _ => exact execFlashReadTimeout_wide H h
  | sleep _ => exact execSleep_wide H h
  | wakeFilterMatch _ _ => exact execWakeFilterMatch_wide H h
  | gpWake _ _ => exact execGpWake_wide H h
  | qspiWake => exact execQspiWake_wide H h
  | wakeDone => exact execWakeDone_wide H h
  | commitTakeEffect => exact execCommitTakeEffect_wide H h
  | safeEntry => exact execSafeEntry_wide H h
  | registerWrite _ _ _ => exact execRegisterWrite_wide H h
  | qspiWrite _ => exact execQspiWrite_wide H h
  | qspiQwrite _ => exact execQspiQwrite_wide H h
  | ocdorWrite _ => exact execOcdorWrite_wide H h
  | _ => exact exec_closed H.closed rfl h

/-- The count of ticks is the same before and after. -/
def SameTicks (s t : State) : Prop := t.tg = s.tg

theorem sameTicks_wide : Wide SameTicks where
  refl _ := rfl
  trans h h' := Eq.trans h' h
  any _ _ _ h _ := h
  sends _ _ := rfl
  boundary _ _ _ _ := rfl

theorem execOtpCmdDone_tg {ok : Bool} {s t : State} (h : execOtpCmdDone ok s = .next t) : t.tg = s.tg := by
  unfold execOtpCmdDone at h
  injection h with h
  subst h
  extract_lets r u
  split
  · rfl
  · split <;> rfl

/-- What follows the count at a boundary where ticks run leaves it. -/
theorem State.tickBegin_tg (s : State) (meas : List Meas) : (s.tickBegin meas).tg = s.tg + 1 :=
  State.rxIdleTick_closed sameTicks_wide.closed (sameTicks_wide.closed.foldl (State.egressAll_closed sameTicks_wide.closed
    (State.hostPoll_closed sameTicks_wide.closed (State.expireRaw_closed sameTicks_wide.closed (sameTicks_wide.refl { s with
      tg := s.tg + 1, tickNum := (s.tickNum + 1) % 2 ^ 48, win := .overhead, logged := s.logged.filter (fun r => r.2 == s.tg + 1)
      brace := { s.brace with clips := s.brace.clipsTo, clipsTo := [], mine := [] } }))))
    fun _ _ h => State.measure_closed sameTicks_wide.closed h)

theorem State.deadline_tg (s : State) (late : List EngLate) : (s.deadline late).tg = s.tg :=
  State.deadline_closed sameTicks_wide.closed (sameTicks_wide.refl s)

theorem State.tickWork_tg (s : State) : s.tickWork.tg = s.tg := State.tickWork_closed sameTicks_wide.closed (sameTicks_wide.refl s)

theorem State.boundaryChanges_tg (s : State) (refs : List RefMeas) : (s.boundaryChanges refs).tg = s.tg :=
  State.boundaryChanges_wide sameTicks_wide (sameTicks_wide.refl s)

theorem State.bootTick_tg (s : State) (refs : List RefMeas) : (s.bootTick refs).tg = s.tg + 1 :=
  State.plumbTick_closed sameTicks_wide.closed (sameTicks_wide.refl { s with tg := s.tg + 1 })

/-- Settles O10: TICK_BOUNDARY counts where ticks run or BOOT evaluates its slots, and every other command leaves the count. -/
theorem ticksCount : Obligations.TicksCount := by
  unfold Obligations.TicksCount
  intro c s t h
  have hsame (htick : ∀ refs meas, c ≠ .tickBoundary refs meas) : t.tg = s.tg := by
    cases c with
    | otpCmdDone ok => exact execOtpCmdDone_tg h
    | _ => exact exec_wide sameTicks_wide htick (fun _ => Instr.noConfusion) h
  cases c with
  | tickBoundary refs meas =>
    have ht : execTickBoundary refs meas s = .next t := h
    unfold execTickBoundary at ht
    injection ht with ht
    subst ht
    by_cases hrun : s.ticking = true
    · simp [hrun, State.tickWork_tg, State.boundaryChanges_tg, State.tickBegin_tg, State.deadline_tg]
    · by_cases hboot : s.dev = .boot ∧ s.plls.clockLost = false <;> simp [hrun, hboot, State.bootTick_tg]
  | _ => exact hsame fun _ _ => Instr.noConfusion

/-! ### A denied access (R76) -/

/-- Nothing differs between s and t but what recording a denied access or raising an event changes: registers, memory, the raw bits, the
log's bookkeeping and what in-band slots wait for. -/
def RecordsOnly (s t : State) : Prop :=
  t = { s with regs := t.regs, mem := t.mem, raw := t.raw, logged := t.logged, host := { s.host with slots := t.host.slots } }

section
variable {s0 s : State}

theorem RecordsOnly.refl (s : State) : RecordsOnly s s := rfl

theorem RecordsOnly.trans {t u : State} (h : RecordsOnly s t) (h' : RecordsOnly t u) : RecordsOnly s u := by
  unfold RecordsOnly at *
  rw [h', h]

theorem RecordsOnly.put (h : RecordsOnly s0 s) {f : Fld} {v i j : Nat} : RecordsOnly s0 (s.put f v i j) := h.trans rfl

theorem RecordsOnly.ite {t u : State} {c : Prop} [Decidable c] (ht : RecordsOnly s0 t) (hu : RecordsOnly s0 u) :
    RecordsOnly s0 (if c then t else u) := by
  split
  · exact ht
  · exact hu

theorem RecordsOnly.bump (h : RecordsOnly s0 s) {f : Fld} {i j : Nat} : RecordsOnly s0 (s.bump f i j) := h.put.put.ite h.put

theorem RecordsOnly.setWord (h : RecordsOnly s0 s) {a v : Nat} : RecordsOnly s0 (s.setWord a v) :=
  h.trans (by rw [State.setWord, State.setBytes_eq]; rfl)

theorem RecordsOnly.denyRecord (h : RecordsOnly s0 s) {c : Cls} {wr : Bool} {a : Nat} : RecordsOnly s0 (s.denyRecord c wr a) := by
  unfold State.denyRecord
  extract_lets t u
  have ht : RecordsOnly s0 t := h.ite h.put.put.put.put
  exact (ht.bump.ite ht).bump

theorem RecordsOnly.logRecord (h : RecordsOnly s0 s) {e : Nat} {cause : Option Nat} : RecordsOnly s0 (s.logRecord e cause) := by
  unfold State.logRecord
  extract_lets counted s1 a w0 s2
  have hcounted : RecordsOnly s0 counted := h.bump
  have h1 : RecordsOnly s0 s1 := hcounted.trans rfl
  have h2 : RecordsOnly s0 s2 := h1.setWord.setWord.setWord.setWord.ite h1.denyRecord
  exact h2.put

theorem RecordsOnly.note (h : RecordsOnly s0 s) {e : Nat} : RecordsOnly s0 (s.note e) := by
  unfold State.note State.noteInBand
  exact RecordsOnly.ite (h.trans rfl) (h.trans rfl)

theorem RecordsOnly.raise (h : RecordsOnly s0 s) {e : Nat} : RecordsOnly s0 (s.raise e) := h.note.logRecord.ite h.note

end

/-- The registers that every raise of an event writes, whether it logs or not. -/
def noteFlds : List Fld := [R.EVT_STICKY_STICKY, R.EVT_LAST_EVENT, R.EVT_LAST_TICK_TICK]

theorem State.note_keeps (s : State) (e : Nat) : Keeps noteFlds s (s.note e) :=
  ((((Keeps.refl _ s).putBit (by decide)).set.put (by decide)).put (by decide)).noteInBand

theorem State.denyRecord_keeps (s : State) (c : Cls) (wr : Bool) (a : Nat) : Keeps logFlds s (s.denyRecord c wr a) :=
  (Keeps.refl _ s).denyRecord (List.Subset.refl _)

/-- Once a denied access has been captured, the capture stays and the count never falls (R76). -/
structure DenialKept (s t : State) : Prop where
  valid : t.flag R.PROT_DENY_INFO_VALID = s.flag R.PROT_DENY_INFO_VALID
  addr : t.get R.PROT_DENY_ADDR_ADDR = s.get R.PROT_DENY_ADDR_ADDR
  cls : t.get R.PROT_DENY_INFO_CLASS = s.get R.PROT_DENY_INFO_CLASS
  write : t.get R.PROT_DENY_INFO_WRITE = s.get R.PROT_DENY_INFO_WRITE
  count : s.get R.PROT_DENY_CNT ≤ 2 ^ R.PROT_DENY_CNT.width - 1 →
    s.get R.PROT_DENY_CNT ≤ t.get R.PROT_DENY_CNT ∧ t.get R.PROT_DENY_CNT ≤ 2 ^ R.PROT_DENY_CNT.width - 1

theorem DenialKept.trans {s t u : State} (h : DenialKept s t) (h' : DenialKept t u) : DenialKept s u where
  valid := h'.valid.trans h.valid
  addr := h'.addr.trans h.addr
  cls := h'.cls.trans h.cls
  write := h'.write.trans h.write
  count hc := by
    obtain ⟨hle, hmax⟩ := h.count hc
    obtain ⟨hle', hmax'⟩ := h'.count hmax
    exact ⟨hle.trans hle', hmax'⟩

/-- Registers of the capture and the count are none of those listed. -/
theorem Keeps.denialKept {l : List Fld} {s t : State} (h : Keeps l s t)
    (hl : ∀ g ∈ [R.PROT_DENY_INFO_VALID, R.PROT_DENY_ADDR_ADDR, R.PROT_DENY_INFO_CLASS, R.PROT_DENY_INFO_WRITE, R.PROT_DENY_CNT],
      ∀ f ∈ l, f.base ≠ g.base) : DenialKept s t where
  valid := h.flag (hl _ (by decide)) 0 0
  addr := h.regs _ 0 0 (hl _ (by decide))
  cls := h.regs _ 0 0 (hl _ (by decide))
  write := h.regs _ 0 0 (hl _ (by decide))
  count hc := by
    rw [h.regs R.PROT_DENY_CNT 0 0 (hl _ (by decide))]
    exact ⟨Nat.le_refl _, hc⟩

section
variable (s : State) (c : Cls) (wr : Bool) (a : Nat)

/-- The denied access in the capture registers, where they are free. -/
def State.denyCapture : State :=
  if s.flag R.PROT_DENY_INFO_VALID then s
  else (((s.put R.PROT_DENY_ADDR_ADDR a).put R.PROT_DENY_INFO_CLASS c.code).put R.PROT_DENY_INFO_WRITE (b2n wr)).put R.PROT_DENY_INFO_VALID 1

/-- A denied access is captured and then counted. -/
theorem State.denyRecord_eq :
    s.denyRecord c wr a = (if c == .sp then (s.denyCapture c wr a).bump R.SVC_DENY_CNT else s.denyCapture c wr a).bump R.PROT_DENY_CNT := rfl

theorem State.denyCapture_held (h : s.flag R.PROT_DENY_INFO_VALID = true) : s.denyCapture c wr a = s := if_pos h

theorem State.denyCapture_keeps :
    Keeps [R.PROT_DENY_ADDR_ADDR, R.PROT_DENY_INFO_CLASS, R.PROT_DENY_INFO_WRITE, R.PROT_DENY_INFO_VALID] s (s.denyCapture c wr a) :=
  Keeps.ite (Keeps.refl _ s) (((((Keeps.refl _ s).put (by decide)).put (by decide)).put (by decide)).put (by decide))

theorem State.denyCapture_valid : (s.denyCapture c wr a).flag R.PROT_DENY_INFO_VALID = true := by
  cases h : s.flag R.PROT_DENY_INFO_VALID with
  | true => rw [s.denyCapture_held c wr a h, h]
  | false =>
    rw [State.denyCapture, h, if_neg Bool.false_ne_true, State.flag_put_same]
    rfl

/-- A free capture takes the address, the class and the direction of the access. -/
theorem State.denyCapture_free (h : s.flag R.PROT_DENY_INFO_VALID = false) :
    (s.denyCapture c wr a).get R.PROT_DENY_ADDR_ADDR = a % 2 ^ 32 ∧ (s.denyCapture c wr a).get R.PROT_DENY_INFO_CLASS = c.code ∧
      (s.denyCapture c wr a).get R.PROT_DENY_INFO_WRITE = b2n wr := by
  rw [State.denyCapture, h, if_neg Bool.false_ne_true]
  refine ⟨?_, ?_, ?_⟩
  · rw [State.get_put_ne _ _ _ _ _ _ (by decide), State.get_put_ne _ _ _ _ _ _ (by decide), State.get_put_ne _ _ _ _ _ _ (by decide),
      State.get_put_same]
    rfl
  · rw [State.get_put_ne _ _ _ _ _ _ (by decide), State.get_put_ne _ _ _ _ _ _ (by decide), State.get_put_same]
    cases c <;> rfl
  · rw [State.get_put_ne _ _ _ _ _ _ (by decide), State.get_put_same]
    cases wr <;> rfl

/-- The counts that follow leave the capture. -/
theorem State.denyRecord_counts : Keeps [R.SVC_DENY_CNT, R.PROT_DENY_CNT, R.PG_STATUS_SAT_SEEN] (s.denyCapture c wr a) (s.denyRecord c wr a) := by
  rw [State.denyRecord_eq]
  have h := Keeps.refl [R.SVC_DENY_CNT, R.PROT_DENY_CNT, R.PG_STATUS_SAT_SEEN] (s.denyCapture c wr a)
  exact (Keeps.ite (h.bump (by decide) (by decide)) h).bump (by decide) (by decide)

theorem State.denyRecord_cnt :
    (s.denyRecord c wr a).get R.PROT_DENY_CNT = min (s.get R.PROT_DENY_CNT + 1) (2 ^ R.PROT_DENY_CNT.width - 1) := by
  have h : Keeps [R.SVC_DENY_CNT, R.PG_STATUS_SAT_SEEN] (s.denyCapture c wr a)
      (if c == .sp then (s.denyCapture c wr a).bump R.SVC_DENY_CNT else s.denyCapture c wr a) :=
    Keeps.ite ((Keeps.refl _ _).bump (by decide) (by decide)) (Keeps.refl _ _)
  rw [State.denyRecord_eq, State.get_bump_same _ _ _ _ (by decide), h.regs _ _ _ (by decide),
    (s.denyCapture_keeps c wr a).regs _ _ _ (by decide)]

theorem State.denyRecord_svc :
    (s.denyRecord .sp wr a).get R.SVC_DENY_CNT = min (s.get R.SVC_DENY_CNT + 1) (2 ^ R.SVC_DENY_CNT.width - 1) := by
  rw [State.denyRecord_eq, if_pos (by decide), State.get_bump_ne _ _ _ _ _ (by decide) (by decide),
    State.get_bump_same _ _ _ _ (by decide), (s.denyCapture_keeps .sp wr a).regs _ _ _ (by decide)]

theorem State.denyRecord_denial : DenialKept (s.denyCapture c wr a) (s.denyRecord c wr a) where
  valid := (s.denyRecord_counts c wr a).flag (by decide) 0 0
  addr := (s.denyRecord_counts c wr a).regs _ 0 0 (by decide)
  cls := (s.denyRecord_counts c wr a).regs _ 0 0 (by decide)
  write := (s.denyRecord_counts c wr a).regs _ 0 0 (by decide)
  count hc := by
    rw [State.denyRecord_cnt, ← (s.denyCapture_keeps c wr a).regs R.PROT_DENY_CNT 0 0 (by decide)]
    exact ⟨Nat.le_min.2 ⟨Nat.le_succ _, hc⟩, Nat.min_le_right _ _⟩

theorem State.denyRecord_mem : (s.denyRecord c wr a).mem = s.mem := by
  have hput (t : State) (f : Fld) : (t.bump f).mem = t.mem := by rw [State.bump, State.bumpBy_eq]
  have hcap : (s.denyCapture c wr a).mem = s.mem := by
    unfold State.denyCapture
    split <;> rfl
  rw [State.denyRecord_eq, hput]
  split
  · rw [hput, hcap]
  · exact hcap

end

/-- A record of the log moves no capture: a denied write of the record finds it taken. -/
theorem State.logRecord_denial (s : State) (e : Nat) (cause : Option Nat) (hv : s.flag R.PROT_DENY_INFO_VALID = true) :
    DenialKept s (s.logRecord e cause) := by
  unfold State.logRecord
  extract_lets counted s1 a w0 s2
  have h1 : Keeps [R.EVT_LOG_SEQ, R.PG_STATUS_SAT_SEEN] s s1 := ((Keeps.refl _ s).bump (by decide) (by decide)).set
  have hv1 : s1.flag R.PROT_DENY_INFO_VALID = true := (h1.flag (by decide) 0 0).trans hv
  have h2 : DenialKept s1 s2 := by
    by_cases hp : s1.permits .sp true a = true
    · have hword : Keeps [] s1 s2 := by
        rw [show s2 = _ from if_pos hp]
        exact (Keeps.refl _ s1).setWord.setWord.setWord.setWord
      exact hword.denialKept (by decide)
    · have hd := s1.denyRecord_denial .sp true a
      rw [s1.denyCapture_held .sp true a hv1] at hd
      rwa [show s2 = _ from if_neg hp]
  have h3 : Keeps [R.EVT_LOG_HEAD_INDEX] s2 (s2.put R.EVT_LOG_HEAD_INDEX
      (if s.get R.EVT_LOG_HEAD_INDEX + 1 ≥ s.get R.EVT_LOG_CTRL_ENTRIES then 0 else s.get R.EVT_LOG_HEAD_INDEX + 1)) :=
    (Keeps.refl _ s2).put (by decide)
  exact ((h1.denialKept (by decide)).trans h2).trans (h3.denialKept (by decide))

theorem State.raise_denial (s : State) (e : Nat) (hv : s.flag R.PROT_DENY_INFO_VALID = true) : DenialKept s (s.raise e) := by
  have hnote : DenialKept s (s.note e) := (s.note_keeps e).denialKept (by decide)
  unfold State.raise
  dsimp only
  split
  · exact hnote.trans ((s.note e).logRecord_denial e none (hnote.valid.trans hv))
  · exact hnote

/-! ### What the event log writes (R456) -/

/-- The address of the next record depends on two registers alone. -/
theorem Keeps.logAddr {l : List Fld} {s t : State} (h : Keeps l s t) (hb : ∀ f ∈ l, f.base ≠ R.EVT_LOG_BASE_BASE.base)
    (hi : ∀ f ∈ l, f.base ≠ R.EVT_LOG_HEAD_INDEX.base) : t.logAddr = s.logAddr := by
  simp [State.logAddr, h.regs _ 0 0 hb, h.regs _ 0 0 hi]

/-- The four words of a record take 16 bytes. -/
theorem State.byte_setRecord_out (s : State) (a v₀ v₁ v₂ v₃ x : Nat) (hx : x < a ∨ a + 16 ≤ x) :
    ((((s.setWord a v₀).setWord (a + 4) v₁).setWord (a + 8) v₂).setWord (a + 12) v₃).byte x = s.byte x := by
  rw [State.byte_setWord_out _ _ _ _ (by omega), State.byte_setWord_out _ _ _ _ (by omega), State.byte_setWord_out _ _ _ _ (by omega),
    State.byte_setWord_out _ _ _ _ (by omega)]

theorem State.byte_logRecord_out (s : State) (e : Nat) (cause : Option Nat) (x : Nat) (hx : x < s.logAddr ∨ s.logAddr + 16 ≤ x) :
    (s.logRecord e cause).byte x = s.byte x := by
  unfold State.logRecord
  extract_lets counted s1 a w0 s2
  have h1 : s1.byte x = s.byte x := s.byte_bumpBy R.EVT_LOG_SEQ 1 0 0 x
  have h2 : s2.byte x = s1.byte x := by
    by_cases hp : s1.permits .sp true a = true
    · rw [show s2 = _ from if_pos hp]
      exact s1.byte_setRecord_out a _ _ _ _ x hx
    · rw [show s2 = _ from if_neg hp]
      exact State.byte_congr (s1.denyRecord_mem .sp true a) x
  rw [State.byte_put, h2, h1]

theorem State.note_mem (s : State) (e : Nat) : (s.note e).mem = s.mem := by
  unfold State.note State.noteInBand
  dsimp only
  split <;> rfl

/-- An event changes no byte outside the log's next record. -/
theorem State.byte_raise_out (s : State) (e x : Nat) (hx : x < s.logAddr ∨ s.logAddr + 16 ≤ x) : (s.raise e).byte x = s.byte x := by
  have ha : (s.note e).logAddr = s.logAddr := (s.note_keeps e).logAddr (by decide) (by decide)
  have hnote : (s.note e).byte x = s.byte x := State.byte_congr (s.note_mem e) x
  unfold State.raise
  dsimp only
  split
  · rw [State.byte_logRecord_out _ _ _ _ (by rwa [ha]), hnote]
  · exact hnote

/-! ### O16 -/

theorem State.deny_host {c : Cls} (hc : c = .hq ∨ c = .ib) (s : State) (wr : Bool) (a : Nat) :
    s.deny c wr a = (s.denyRecord c wr a).raise EV_HOST_ERR := by
  rcases hc with rfl | rfl <;> rfl

theorem State.deny_other {c : Cls} (hq : c ≠ .hq) (hib : c ≠ .ib) (s : State) (wr : Bool) (a : Nat) :
    s.deny c wr a = s.denyRecord c wr a := by
  simp [State.deny, hq, hib]

/-- The event of a host's denied access leaves what the record shows. -/
theorem State.deny_denial (s : State) (c : Cls) (wr : Bool) (a : Nat) : DenialKept (s.denyRecord c wr a) (s.deny c wr a) := by
  have hv : (s.denyRecord c wr a).flag R.PROT_DENY_INFO_VALID = true :=
    (s.denyRecord_denial c wr a).valid.trans (s.denyCapture_valid c wr a)
  by_cases hc : c = .hq ∨ c = .ib
  · rw [State.deny_host hc]
    exact State.raise_denial _ _ hv
  · rw [State.deny_other (fun h => hc (.inl h)) fun h => hc (.inr h)]
    exact ⟨rfl, rfl, rfl, rfl, fun hc => ⟨Nat.le_refl _, hc⟩⟩

theorem State.byte_deny_out (s : State) (c : Cls) (wr : Bool) (a x : Nat) (hx : x < s.logAddr ∨ s.logAddr + 16 ≤ x) :
    (s.deny c wr a).byte x = s.byte x := by
  have hrec : (s.denyRecord c wr a).byte x = s.byte x := State.byte_congr (s.denyRecord_mem c wr a) x
  by_cases hc : c = .hq ∨ c = .ib
  · have ha : (s.denyRecord c wr a).logAddr = s.logAddr := by
      rw [(s.denyRecord_counts c wr a).logAddr (by decide) (by decide), (s.denyCapture_keeps c wr a).logAddr (by decide) (by decide)]
    rw [State.deny_host hc, State.byte_raise_out _ _ _ (by rwa [ha]), hrec]
  · rw [State.deny_other (fun h => hc (.inl h)) fun h => hc (.inr h), hrec]

/-- Settles O16: the record captures and counts, and the event of a host's access finds the capture taken. -/
theorem deniedAccess : Obligations.DeniedAccess := by
  unfold Obligations.DeniedAccess
  intro s c wr a t
  have hrec := s.denyRecord_denial c wr a
  have hdeny : DenialKept (s.denyRecord c wr a) t := s.deny_denial c wr a
  have hkept := hrec.trans hdeny
  have hvalid : t.flag R.PROT_DENY_INFO_VALID = true := hkept.valid.trans (s.denyCapture_valid c wr a)
  refine ⟨fun hc => ?_, fun hq hib => ?_, hvalid, fun hfree => ?_, fun hheld => ?_, ?_, fun hsp => ?_, s.byte_deny_out c wr a⟩
  · rw [show t = _ from State.deny_host hc s wr a, State.sticky_raise_same]
  · rw [show t = _ from State.deny_other hq hib s wr a]
    refine ⟨?_, s.denyRecord_mem c wr a, s.denyRecord_cnt c wr a⟩
    unfold State.sticky State.bit
    rw [(s.denyRecord_keeps c wr a).regs R.EVT_STICKY_STICKY _ _ (by decide)]
  · obtain ⟨haddr, hcls, hwrite⟩ := s.denyCapture_free c wr a hfree
    exact ⟨hkept.addr.trans haddr, hkept.cls.trans hcls, hkept.write.trans hwrite⟩
  · rw [s.denyCapture_held c wr a hheld] at hkept
    exact ⟨hkept.addr, hkept.cls, hkept.write, hvalid⟩
  · have hcnt := s.denyRecord_cnt c wr a
    rw [← hcnt]
    exact (hdeny.count (hcnt ▸ Nat.min_le_right _ _)).1
  · subst hsp
    rw [show t = _ from State.deny_other (by decide) (by decide) s wr a, s.denyRecord_svc]

/-! ### Commands that are taken -/

theorem State.command_taken {s : State} {who : Initiator} {a : Nat} (f : State → State) (h : s.takes who a = true) :
    s.command who a f = f s := by
  simp only [State.takes, Bool.and_eq_true] at h
  obtain ⟨⟨hh, hp⟩, hs⟩ := h
  simp [State.command, hh, hp, hs]

/-! ### O28 -/

theorem State.raise_keeps (s : State) (e : Nat) : Keeps eventFlds s (s.raise e) := (Keeps.refl _ s).raise (List.Subset.refl _)

theorem State.raise_records (s : State) (e : Nat) : RecordsOnly s (s.raise e) := (RecordsOnly.refl s).raise

theorem RecordsOnly.fences {s t : State} (h : RecordsOnly s t) : t.host.fences = s.host.fences := by rw [h]

theorem RecordsOnly.wire {s t : State} (h : RecordsOnly s t) : t.wire = s.wire := by rw [h]

/-- The host's fence ends: it is no longer open, and the event alone tells of it (R71). -/
theorem execFenceDone_host {s : State} (h : (Sparse.find s.host.fences (whoIdx .hq)).isSome = true) :
    exec (.fenceDone .hq) s = .next (State.raise
      { s with host := { s.host with fences := Sparse.erase s.host.fences (whoIdx .hq) } } EV_FENCE_DONE) := by
  obtain ⟨l, hl⟩ := Option.isSome_iff_exists.1 h
  show execFenceDone .hq s = _
  rw [execFenceDone, hl]

theorem execFenceDone_slot {s : State} {k : Fin 4} {l : List (Nat × Peer)} (h : Sparse.find s.host.fences (whoIdx (.ib k)) = some l) :
    exec (.fenceDone (.ib k)) s = .next (l.foldl (fun u x => u.ocdorSend k.val x.2 131 x.1 0 0 [])
      (State.raise { s with host := { s.host with fences := Sparse.erase s.host.fences (whoIdx (.ib k)) } } EV_FENCE_DONE)) := by
  show execFenceDone (.ib k) s = _
  rw [execFenceDone, h]

theorem execFenceDone_notOpen {s : State} {who : Initiator} (h : Sparse.find s.host.fences (whoIdx who) = none) :
    exec (.fenceDone who) s = .next s := by
  show execFenceDone who s = _
  rw [execFenceDone, h]

/-- The event configuration of a pin for an edge to a level (R481). -/
def State.edgeHit (s : State) (pin : Nat) (level : Bool) : Bool :=
  if level then s.bit R.GPIO_EV_CFG_RISE pin else s.bit R.GPIO_EV_CFG_FALL pin

/-- A pin at a new level: it shows, and is recorded with EV_GPIO where its edge is configured and not recorded yet. -/
theorem execGpioEdge_eq {s : State} {pin : Fin 16} {level : Bool} (hd : s.dev ≠ .off) (hc : s.plls.clockLost = false)
    (hl : s.bit R.GPIO_IN_IN pin.val = !level) :
    exec (.gpioEdge pin level) s = .next (if s.edgeHit pin.val level && !s.bit R.GPIO_EV_SRC_EDGE pin.val then
      ((s.putBit R.GPIO_IN_IN pin.val level).putBit R.GPIO_EV_SRC_EDGE pin.val true).raise EV_GPIO
      else s.putBit R.GPIO_IN_IN pin.val level) := by
  have hbit (f : Fld) (hf : R.GPIO_IN_IN.base ≠ f.base) : (s.putBit R.GPIO_IN_IN pin.val level).bit f pin.val = s.bit f pin.val :=
    s.bit_put_ne _ 0 0 0 0 _ hf
  show execGpioEdge pin level s = _
  simp [execGpioEdge, State.edgeHit, hd, hc, hl, hbit R.GPIO_EV_CFG_RISE (by decide), hbit R.GPIO_EV_CFG_FALL (by decide),
    hbit R.GPIO_EV_SRC_EDGE (by decide)]

theorem execGpioEdge_shows {s : State} {pin : Fin 16} {level : Bool} (hd : s.dev ≠ .off) (hc : s.plls.clockLost = false)
    (hl : s.bit R.GPIO_IN_IN pin.val = !level) :
    ∃ t, exec (.gpioEdge pin level) s = .next t ∧ t.bit R.GPIO_IN_IN pin.val = level ∧
      (s.edgeHit pin.val level = true → s.bit R.GPIO_EV_SRC_EDGE pin.val = false →
        t.bit R.GPIO_EV_SRC_EDGE pin.val = true ∧ t.sticky EV_GPIO = true) ∧
      (s.edgeHit pin.val level = false → t = s.putBit R.GPIO_IN_IN pin.val level) := by
  have hin : (s.putBit R.GPIO_IN_IN pin.val level).bit R.GPIO_IN_IN pin.val = level := s.bit_putBit_same _ _ _ 0 0 pin.isLt
  refine ⟨_, execGpioEdge_eq hd hc hl, ?_⟩
  split
  next hhit =>
    have hk := State.raise_keeps ((s.putBit R.GPIO_IN_IN pin.val level).putBit R.GPIO_EV_SRC_EDGE pin.val true) EV_GPIO
    refine ⟨?_, fun _ _ => ⟨?_, State.sticky_raise_same _ _⟩, fun hno => ?_⟩
    · rw [State.bit, hk.regs _ _ _ (by decide), State.get_putBit_ne _ _ _ _ _ _ _ (by decide)]
      exact hin
    · rw [State.bit, hk.regs _ _ _ (by decide)]
      exact State.bit_putBit_same _ _ _ _ 0 0 pin.isLt
    · simp [hno] at hhit
  next hhit =>
    refine ⟨hin, fun hyes hfree => ?_, fun _ => rfl⟩
    simp [hyes, hfree] at hhit

/-- Settles O28: opening and closing a fence, the answers of a slot's waiting frames, and the two outcomes of an edge. -/
theorem fenceRows : Obligations.FenceRows := by
  refine ⟨fun s who ht => ?_, fun s ho => ⟨_, execFenceDone_host ho, ?_⟩, fun s k l hl => execFenceDone_slot hl,
    fun s who hn => execFenceDone_notOpen hn, fun s pin level hd hc hl => execGpioEdge_shows hd hc hl⟩
  · exact congrArg Host.Outcome.next (State.command_taken _ ht)
  · have hrec := State.raise_records { s with host := { s.host with fences := Sparse.erase s.host.fences (whoIdx .hq) } } EV_FENCE_DONE
    refine ⟨?_, State.sticky_raise_same _ _, hrec.wire, (State.raise_keeps _ _).core.dev_eq⟩
    rw [hrec.fences]
    exact Sparse.find_erase_same _ _

/-! ### Arming and validating (R62 to R64) -/

/-- Nothing but the brace link's content differs between s and t. -/
def BraceOnly (s t : State) : Prop := t = { s with brace := t.brace }

section
variable {s0 s : State}

theorem BraceOnly.refl (s : State) : BraceOnly s s := rfl

theorem BraceOnly.trans {t u : State} (h : BraceOnly s t) (h' : BraceOnly t u) : BraceOnly s u := by
  unfold BraceOnly at *
  rw [h', h]

theorem BraceOnly.when (h : BraceOnly s0 s) {b : Bool} {f : State → State} (hf : ∀ t, BraceOnly s0 t → BraceOnly s0 (f t)) :
    BraceOnly s0 (s.when b f) := by
  unfold State.when
  split
  · exact hf s h
  · exact h

theorem BraceOnly.foldl {α : Type} (h : BraceOnly s0 s) {l : List α} {f : State → α → State}
    (hf : ∀ t x, BraceOnly s0 t → BraceOnly s0 (f t x)) : BraceOnly s0 (l.foldl f s) := by
  induction l generalizing s with
  | nil => exact h
  | cons x l ih => exact ih (hf s x h)

theorem BraceOnly.mirrorOut (h : BraceOnly s0 s) {who : Initiator} {a e d : Nat} : BraceOnly s0 (s.mirrorOut who a e d) :=
  h.when fun _ h => h.trans rfl

theorem BraceOnly.mirrorWords (h : BraceOnly s0 s) {who : Initiator} {a n : Nat} : BraceOnly s0 (s.mirrorWords who a n) :=
  h.foldl fun _ _ h => h.mirrorOut

theorem BraceOnly.mirrorContent (h : BraceOnly s0 s) {who : Initiator} {pages : List Nat} : BraceOnly s0 (s.mirrorContent who pages) := by
  unfold State.mirrorContent
  split
  · exact h
  · extract_lets v t
    have ht : BraceOnly s0 t := h.when fun _ h => h.mirrorWords
    refine ht.foldl fun u n hu => hu.when fun w hw => hw.foldl fun x k hx => ?_
    split
    · split
      · exact hx.mirrorWords
      · exact hx
    · exact hx

theorem BraceOnly.resultOut (h : BraceOnly s0 s) {c : Commit} {r : Except Fail (Option Cut)} : BraceOnly s0 (s.resultOut c r) :=
  h.when fun _ h => h.trans rfl

end

/-- What an ARM that is taken does (R62, R391). -/
theorem execArm_taken {s : State} {who : Initiator} {p : Fin 256} (ht : s.takes who (p.val * 4096 + 0xc) = true) :
    exec (.arm who p) s = .next (s.armPage who p.val) := congrArg Host.Outcome.next (State.command_taken _ ht)

theorem State.armPage_refused {s : State} {who : Initiator} {p : Nat}
    (h : s.pagePending p = true ∨ pageListed p = false ∨ s.pairBlocked who p = true ∨ s.svcBlocked who p = true) :
    s.armPage who p = s.raise EV_HOST_ERR := by
  rw [State.armPage, if_pos]
  · rfl
  · rcases h with h | h | h | h <;> simp [h]

/-- A page armed joins the queue; beside it only the partner hears of it. -/
theorem State.armPage_arms {s : State} {who : Initiator} {p : Nat} (hl : pageListed p = true) (hp : s.pagePending p = false)
    (hpair : s.pairBlocked who p = false) (hsvc : s.svcBlocked who p = false) :
    BraceOnly (s.armPages [p] (who == .sp && p == 0x38)) (s.armPage who p) := by
  rw [State.armPage, if_neg (by simp [hl, hp, hpair, hsvc])]
  exact (BraceOnly.refl _).when fun _ h => h.mirrorContent.mirrorOut

/-- A group commit arms the pages that it may, together. -/
theorem execGroupCommit_arms {s : State} {who : Initiator} (ht : s.takes who 0x000c8 = true) :
    ∃ t, exec (.groupCommit who) s = .next t ∧ BraceOnly (s.armPages (s.groupPages who) (who == .sp && s.groupPages who == [0x38])) t :=
  ⟨_, congrArg Host.Outcome.next (State.command_taken _ ht), (BraceOnly.refl _).when fun _ h => h.mirrorContent.mirrorOut⟩

theorem State.mem_groupPages (s : State) (who : Initiator) (p : Nat) :
    p ∈ s.groupPages who ↔ p < 256 ∧ s.pageChanged p = true ∧ s.pagePending p = false ∧ s.pairBlocked who p = false ∧
      s.svcBlocked who p = false := by
  simp [State.groupPages, and_assoc]

theorem BraceOnly.armed {s t : State} {pages : List Nat} {service : Bool} (h : BraceOnly (s.armPages pages service) t) :
    t.queue = s.queue ++ [⟨pages, service, .queued, none⟩] ∧ t.regs = s.regs ∧ t.shadow = s.shadow ∧ t.mem = s.mem := by
  rw [h]
  exact ⟨rfl, rfl, rfl, rfl⟩

theorem execCommitValidated_idle {s : State} (h : s.nextQueued = none) : exec .commitValidated s = .next s := by
  show execCommitValidated s = _
  rw [execCommitValidated, h]

theorem execCommitValidated_waits {s : State} {c : Commit} {k : Nat} (h : s.nextQueued = some (c, k))
    (hw : s.awaits c = true ∨ s.unacked c = true) : exec .commitValidated s = .next s := by
  show execCommitValidated s = _
  rw [execCommitValidated, h]
  rcases hw with hw | hw <;> simp [hw]

theorem execCommitValidated_judges {s : State} {c : Commit} {k : Nat} (h : s.nextQueued = some (c, k)) (ha : s.awaits c = false)
    (hu : s.unacked c = false) (hd : s.dev ≠ .off) :
    exec .commitValidated s = .next ((s.commitResult k c (s.validate c) (s.tg + 2)).resultOut c (s.validate c)) := by
  show execCommitValidated s = _
  rw [execCommitValidated, h]
  simp [ha, hu, hd]

/-! ### O25 -/

/-- Settles O25: arming one page and a group, the refusals, and what validation does with the oldest commit that waits. -/
theorem commitRows : Obligations.CommitRows := by
  refine ⟨fun s who p ht hl hp hpair hsvc => ?_, fun s who p ht hno => ?_, fun s who ht => ?_, fun s c k hq hw => ?_,
    fun s c k hq ha hu hd => ?_, fun s hq => execCommitValidated_idle hq⟩
  · exact ⟨_, execArm_taken ht, (State.armPage_arms hl hp hpair hsvc).armed⟩
  · rw [execArm_taken ht, State.armPage_refused hno]
  · obtain ⟨t, he, hb⟩ := execGroupCommit_arms ht
    obtain ⟨hq, hr, hs, hm⟩ := hb.armed
    exact ⟨t, he, hq, hr, hs, hm, s.mem_groupPages who⟩
  · exact execCommitValidated_waits hq hw
  · exact execCommitValidated_judges hq ha hu hd

/-! ### What the work of a tick leaves

The relations of Laws/Closed.lean let an operation change the window, the tick's number, the commit queue, the shadow and every register. Most
operations change none of the first four, no report of a commit, not the gate of PLL-M, and clear no sticky bit. -/

/-- A bit set takes no other away. -/
theorem bitAt_setBit_true {v m : Nat} (k : Nat) (h : bitAt v m = true) : bitAt (setBit v k true) m = true := by
  rcases Nat.lt_trichotomy m k with hm | rfl | hm
  · unfold setBit
    rw [if_pos rfl]
    split
    · exact h
    · rw [bitAt_eq_testBit, Nat.add_comm, Nat.testBit_two_pow_add_gt hm, ← bitAt_eq_testBit, h]
  · exact bitAt_setBit_same v m true
  · obtain ⟨d, rfl⟩ : ∃ d, m = d + (k + 1) := ⟨m - (k + 1), by omega⟩
    have hhigh : setBit v k true / 2 ^ (k + 1) = v / 2 ^ (k + 1) := by
      unfold setBit
      rw [if_pos rfl]
      split
      · rfl
      next hk =>
        simp only [bitAt, beq_iff_eq] at hk
        rw [Nat.pow_succ, ← Nat.div_div_eq_div_mul, ← Nat.div_div_eq_div_mul, Nat.add_div_right _ (Nat.two_pow_pos k)]
        omega
    rw [bitAt_eq_testBit] at h ⊢
    rw [← Nat.testBit_div_two_pow] at h ⊢
    rw [hhigh, h]

/-- The reports of a commit (R66): its status and the pages marked. -/
def reportFlds : List Fld := [R.SYS_COMMIT_STATUS_REASON, R.SYS_COMMIT_STATUS_PAGE, R.SYS_COMMIT_STATUS_LAST_OK, R.PG_SHADOW_REJECTED]

/-- The window, the tick's number, the commits, the shadow, the reports of commits and the gate of PLL-M are as before, and every event that
was held still is. -/
structure Calm (s t : State) : Prop where
  win : t.win = s.win
  tickNum : t.tickNum = s.tickNum
  queue : t.queue = s.queue
  shadow : t.shadow = s.shadow
  ungateWait : t.plls.ungateWait = s.plls.ungateWait
  pllmGated : t.pllmGated = s.pllmGated
  sticky : ∀ e, s.sticky e = true → t.sticky e = true
  report : ∀ f ∈ reportFlds, ∀ i j, t.get f i j = s.get f i j

/-- The registers that `Calm` speaks of. -/
def calmFlds : List Fld := R.EVT_STICKY_STICKY :: R.PLL_STATUS_GATED :: reportFlds

section
variable {s0 s : State}

theorem Calm.refl (s : State) : Calm s s := ⟨rfl, rfl, rfl, rfl, rfl, rfl, fun _ h => h, fun _ _ _ _ => rfl⟩

theorem Calm.trans {t u : State} (h : Calm s t) (h' : Calm t u) : Calm s u where
  win := h'.win.trans h.win
  tickNum := h'.tickNum.trans h.tickNum
  queue := h'.queue.trans h.queue
  shadow := h'.shadow.trans h.shadow
  ungateWait := h'.ungateWait.trans h.ungateWait
  pllmGated := h'.pllmGated.trans h.pllmGated
  sticky e he := h'.sticky e (h.sticky e he)
  report f hf i j := (h'.report f hf i j).trans (h.report f hf i j)

/-- An update of parts of the state that `Calm` does not speak of. -/
theorem Calm.set (h : Calm s0 s) {dev role tg latch mem repack op porst coreLow safeWait raw logged net ptp str plumb host otp boot serial
    zeroTick peerEpoch power diag brace mix je clips svc free wire pending} :
    Calm s0 { s with
      dev := dev, role := role, tg := tg, latch := latch, mem := mem, repack := repack, op := op, porst := porst, coreLow := coreLow
      safeWait := safeWait, raw := raw, logged := logged, net := net, ptp := ptp, str := str, plumb := plumb, host := host, otp := otp
      boot := boot, serial := serial, zeroTick := zeroTick, peerEpoch := peerEpoch, power := power, diag := diag, brace := brace, mix := mix
      je := je, clips := clips, svc := svc, free := free, wire := wire, pending := pending } :=
  h.trans ⟨rfl, rfl, rfl, rfl, rfl, rfl, fun _ h => h, fun _ _ _ _ => rfl⟩

/-- An update of the clock loops that keeps what waits to open PLL-M's gate. -/
theorem Calm.setPlls (h : Calm s0 s) {residue y clockLost fatalWait vco} :
    Calm s0 { s with plls := ⟨s.plls.ungateWait, residue, y, clockLost, fatalWait, vco⟩ } :=
  h.trans ⟨rfl, rfl, rfl, rfl, rfl, rfl, fun _ h => h, fun _ _ _ _ => rfl⟩

/-- A write that reaches none of the registers that `Calm` speaks of. -/
theorem Calm.putKey (h : Calm s0 s) {f : Fld} {v i j : Nat} (hf : ∀ g ∈ calmFlds, ∀ i' j', f.key i j ≠ g.key i' j') :
    Calm s0 (s.put f v i j) := by
  have hget {g : Fld} (hg : g ∈ calmFlds) (i' j' : Nat) : (s.put f v i j).get g i' j' = s.get g i' j' := s.get_put_key v (hf g hg i' j')
  refine h.trans ⟨rfl, rfl, rfl, rfl, rfl, ?_, fun e he => ?_, fun g hg => hget (List.mem_cons_of_mem _ (List.mem_cons_of_mem _ hg))⟩
  · unfold State.pllmGated State.flag
    rw [hget (by decide)]
  · unfold State.sticky State.bit at *
    rwa [hget (by decide)]

theorem Calm.put (h : Calm s0 s) {f : Fld} (hf : ∀ g ∈ calmFlds, f.base ≠ g.base) {v i j : Nat} : Calm s0 (s.put f v i j) :=
  h.putKey fun g hg i' j' => Fld.key_ne_of_base (hf g hg) i j i' j'

/-- The gate of another loop is not PLL-M's. -/
theorem Calm.putGated (h : Calm s0 s) {v i : Nat} (hi : i % 65536 ≠ 0) : Calm s0 (s.put R.PLL_STATUS_GATED v i) := by
  have hget {g : Fld} (hg : R.PLL_STATUS_GATED.base ≠ g.base) (i' j' : Nat) : (s.put R.PLL_STATUS_GATED v i).get g i' j' = s.get g i' j' :=
    s.get_put_ne v i 0 i' j' hg
  refine h.trans ⟨rfl, rfl, rfl, rfl, rfl, ?_, fun e he => ?_, fun g hg i' j' => hget ?_ i' j'⟩
  · unfold State.pllmGated State.flag
    rw [s.get_put_inst v 0 0 hi]
  · unfold State.sticky State.bit at *
    rwa [hget (by decide)]
  · revert g
    decide

theorem Calm.putI (h : Calm s0 s) {f : Fld} (hf : ∀ g ∈ calmFlds, f.base ≠ g.base) {x : Int} {i j : Nat} : Calm s0 (s.putI f x i j) :=
  h.put hf

theorem Calm.putBit (h : Calm s0 s) {f : Fld} (hf : ∀ g ∈ calmFlds, f.base ≠ g.base) {k : Nat} {b : Bool} {i j : Nat} :
    Calm s0 (s.putBit f k b i j) := h.put hf

theorem Calm.ite {t u : State} {c : Prop} [Decidable c] (ht : Calm s0 t) (hu : Calm s0 u) : Calm s0 (if c then t else u) := by
  split
  · exact ht
  · exact hu

theorem Calm.when (h : Calm s0 s) {b : Bool} {f : State → State} (hf : ∀ t, Calm s0 t → Calm s0 (f t)) : Calm s0 (s.when b f) :=
  Calm.ite (hf s h) h

theorem Calm.foldl {α : Type} (h : Calm s0 s) {l : List α} {f : State → α → State} (hf : ∀ t x, Calm s0 t → Calm s0 (f t x)) :
    Calm s0 (l.foldl f s) := by
  induction l generalizing s with
  | nil => exact h
  | cons x l ih => exact ih (hf s x h)

/-- A fold that carries a state beside other data. -/
theorem Calm.foldl_on {α β : Type} (π : β → State) {b : β} (h : Calm s0 (π b)) {l : List α} {f : β → α → β}
    (hf : ∀ t x, Calm s0 (π t) → Calm s0 (π (f t x))) : Calm s0 (π (l.foldl f b)) := by
  induction l generalizing b with
  | nil => exact h
  | cons x l ih => exact ih (hf b x h)

theorem Calm.each (h : Calm s0 s) {n : Nat} {f : State → Nat → State} (hf : ∀ t k, Calm s0 t → Calm s0 (f t k)) : Calm s0 (s.each n f) :=
  h.foldl hf

theorem Calm.bumpBy (h : Calm s0 s) {f : Fld} (hf : ∀ g ∈ calmFlds, f.base ≠ g.base) {n i j : Nat} : Calm s0 (s.bumpBy f n i j) :=
  Calm.ite ((h.put hf).put (by decide)) (h.put hf)

theorem Calm.bump (h : Calm s0 s) {f : Fld} (hf : ∀ g ∈ calmFlds, f.base ≠ g.base) {i j : Nat} : Calm s0 (s.bump f i j) := h.bumpBy hf

theorem Calm.setByte (h : Calm s0 s) {a : Nat} {b : BitVec 8} : Calm s0 (s.setByte a b) := h.set

theorem Calm.setBytes (h : Calm s0 s) {a : Nat} {bs : List (BitVec 8)} : Calm s0 (s.setBytes a bs) := by
  rw [State.setBytes_eq]
  exact h.set

theorem Calm.setWord (h : Calm s0 s) {a v : Nat} : Calm s0 (s.setWord a v) := h.setBytes

theorem Calm.send (h : Calm s0 s) {o : Out} : Calm s0 (s.send o) := h.set

theorem Calm.draw (h : Calm s0 s) : Calm s0 s.draw.2 := h.set

theorem Calm.denyRecord (h : Calm s0 s) {c : Cls} {wr : Bool} {a : Nat} : Calm s0 (s.denyRecord c wr a) := by
  rw [State.denyRecord_eq]
  have hcap : Calm s0 (s.denyCapture c wr a) :=
    Calm.ite h ((((h.put (by decide)).put (by decide)).put (by decide)).put (by decide))
  exact (Calm.ite (hcap.bump (by decide)) hcap).bump (by decide)

theorem Calm.logRecord (h : Calm s0 s) {e : Nat} {cause : Option Nat} : Calm s0 (s.logRecord e cause) := by
  unfold State.logRecord
  extract_lets counted s1 a w0 s2
  have h1 : Calm s0 s1 := (h.bump (f := R.EVT_LOG_SEQ) (by decide)).set
  have h2 : Calm s0 s2 := Calm.ite h1.setWord.setWord.setWord.setWord h1.denyRecord
  exact h2.put (by decide)

/-- A sticky bit set leaves every other at least as it was. -/
theorem Calm.putSticky (h : Calm s0 s) {k i : Nat} : Calm s0 (s.putBit R.EVT_STICKY_STICKY k true i) := by
  have hget {g : Fld} (hg : R.EVT_STICKY_STICKY.base ≠ g.base) (i' j' : Nat) :
      (s.putBit R.EVT_STICKY_STICKY k true i).get g i' j' = s.get g i' j' := s.get_putBit_ne k true i 0 i' j' hg
  refine h.trans ⟨rfl, rfl, rfl, rfl, rfl, ?_, fun e he => ?_, fun g hg i' j' => hget ?_ i' j'⟩
  · unfold State.pllmGated State.flag
    rw [hget (by decide)]
  · unfold State.sticky State.bit at *
    by_cases hi : i % 65536 = e / 32 % 65536
    · have hkey : R.EVT_STICKY_STICKY.key i 0 = R.EVT_STICKY_STICKY.key (e / 32) 0 := (Fld.key_eq_iff _ _ _ _ _ _).2 ⟨rfl, hi, rfl⟩
      have hsame (t : State) : t.get R.EVT_STICKY_STICKY (e / 32) = t.get R.EVT_STICKY_STICKY i := by
        unfold State.get
        rw [hkey]
        rfl
      rw [hsame] at he ⊢
      rw [State.putBit, State.get_put_same, bitAt_eq_testBit, Nat.testBit_mod_two_pow, ← bitAt_eq_testBit, bitAt_setBit_true k he]
      simp [Nat.mod_lt e (show 0 < 32 by decide), Fld.width, R.EVT_STICKY_STICKY]
    · rwa [State.putBit, State.get_put_inst _ _ _ _ hi]
  · revert g
    decide

theorem Calm.noteInBand (h : Calm s0 s) {e : Nat} : Calm s0 (s.noteInBand e) := Calm.ite h.set h

theorem Calm.note (h : Calm s0 s) {e : Nat} : Calm s0 (s.note e) :=
  ((h.putSticky.set.put (by decide)).put (by decide)).noteInBand

theorem Calm.raise (h : Calm s0 s) {e : Nat} : Calm s0 (s.raise e) := Calm.ite h.note.logRecord h.note

theorem Calm.raiseFatal (h : Calm s0 s) {e cause : Nat} : Calm s0 (s.raiseFatal e cause) := Calm.ite h.note.logRecord h.note


/-! #### Flags -/

theorem Calm.expireRaw (h : Calm s0 s) : Calm s0 s.expireRaw := h.set

theorem Calm.restampRecord (h : Calm s0 s) {k : Nat} : Calm s0 (s.restampRecord k) := Calm.ite h.setWord.setWord h

theorem Calm.restamp (h : Calm s0 s) {old : Nat} : Calm s0 (s.restamp old) :=
  (h.when fun _ ht => ht.put (by decide)).each fun _ _ ht => ht.restampRecord

/-! #### Ports -/

theorem Calm.setPh (h : Calm s0 s) {p : Nat} {h' : PortHid} : Calm s0 (s.setPh p h') := h.set

theorem Calm.sendPause (h : Calm s0 s) {p quanta : Nat} : Calm s0 (s.sendPause p quanta) := by
  unfold State.sendPause
  split
  · exact h
  · exact (h.send.bump (by decide)).bump (by decide)

theorem Calm.poolUpdate (h : Calm s0 s) {p : Nat} : Calm s0 (s.poolUpdate p) := by
  unfold State.poolUpdate
  extract_lets pct t t1
  have ht : Calm s0 t := h.put (by decide)
  have ht1 : Calm s0 t1 := Calm.ite (ht.put (by decide)) ht
  exact Calm.ite (ht1.sendPause.put (by decide)).raise ht1

theorem Calm.lineUse (h : Calm s0 s) {p now bits : Nat} {tc : Option Nat} : Calm s0 (s.lineUse p now bits tc) := h.setPh

theorem Calm.outgoing (h : Calm s0 s) {e : EgrFrame} : Calm s0 (s.outgoing e).2 := by
  unfold State.outgoing
  extract_lets d
  have hd : Calm s0 d.2 := h.draw
  split
  · split
    · extract_lets corr
      split
      · exact hd
      · exact h
    · exact h
  · exact h

theorem Calm.depart (h : Calm s0 s) {p now : Nat} {e : EgrFrame} : Calm s0 (s.depart p now e) := by
  unfold State.depart
  extract_lets src t t1 src1 r t2
  have ht : Calm s0 t := h.set
  have ht1 : Calm s0 t1 := ht.lineUse
  have hr : Calm s0 r.2 := ht1.setPh.outgoing
  have ht2 : Calm s0 t2 := hr.send.bump (by decide)
  split
  · exact ht2.bump (by decide)
  · exact ht2

theorem Calm.drain (h : Calm s0 s) {p n : Nat} : Calm s0 (s.drain p n) := by
  induction n generalizing s with
  | zero => exact h
  | succ n ih =>
    unfold State.drain
    split
    · exact h
    · extract_lets now
      split
      · exact ih h.lineUse
      · exact ih h.depart

theorem Calm.egressTick (h : Calm s0 s) {p : Nat} : Calm s0 (s.egressTick p) := Calm.ite h (Calm.ite h.lineUse.setPh h.setPh.drain)

theorem Calm.egressAll (h : Calm s0 s) : Calm s0 s.egressAll := Calm.each (h.each fun _ _ ht => ht.egressTick) fun _ _ ht => ht.poolUpdate

theorem Calm.plcaStop (h : Calm s0 s) {k : Nat} : Calm s0 (s.plcaStop k) := Calm.ite h ((h.put (by decide)).put (by decide))

theorem Calm.linkGone (h : Calm s0 s) {p : Nat} : Calm s0 (s.linkGone p) := by
  unfold State.linkGone
  extract_lets t src t1 src1 t2
  have ht : Calm s0 t := (((((h.put (by decide)).put (by decide)).put (by decide)).put (by decide)).put (by decide)).put (by decide)
  have ht1 : Calm s0 t1 := ht.set
  have ht2 : Calm s0 t2 := ht1.setPh
  exact Calm.ite h (ht2.put (by decide)).raise

/-! #### Bridge -/

theorem Calm.tasDropped (h : Calm s0 s) {p : Nat} : Calm s0 (s.tasDropped p) := ((h.bump (by decide)).put (by decide)).raise

theorem Calm.tasPurge (h : Calm s0 s) {p : Nat} : Calm s0 (s.tasPurge p) := Calm.ite h (h.set.foldl fun _ _ hu => hu.tasDropped)

theorem Calm.enqueue (h : Calm s0 s) {e : EgrFrame} : Calm s0 (s.enqueue e).2 := by
  unfold State.enqueue
  dsimp only
  split
  · exact h
  · split
    · exact h.tasDropped
    · split
      · split
        · split
          · exact h
          · exact h.set
        · exact h.set
      · split
        · exact h.bump (by decide)
        · exact h.set

theorem Calm.newFid (h : Calm s0 s) : Calm s0 s.newFid.2 := h.set

theorem Calm.hostDeliver (h : Calm s0 s) {p : Nat} {fr : List Byte} {ns : Nat} : Calm s0 (s.hostDeliver p fr ns) := by
  unfold State.hostDeliver
  extract_lets n hd nx d ok t t1 t2
  have ht : Calm s0 t := Calm.ite h.setBytes (h.bump (by decide))
  have ht1 : Calm s0 t1 := ht.setWord
  have ht2 : Calm s0 t2 := ht1.setWord.setWord
  exact Calm.ite h (Calm.ite (h.bump (by decide)) (ht2.put (by decide)))

theorem Calm.ptpForeign (h : Calm s0 s) {fr : List Byte} {h' : Hdr} : Calm s0 (s.ptpForeign fr h') :=
  h.when fun _ ht => (ht.bump (by decide)).bump (by decide)

theorem Calm.consume (h : Calm s0 s) {p : Nat} {fr : List Byte} {ns : Nat} : Calm s0 (s.consume p fr ns) :=
  Calm.ite h.ptpForeign.send (Calm.ite h.send (Calm.ite h.send (Calm.ite h.send h.hostDeliver)))

theorem Calm.submit (h : Calm s0 s) {p tc : Nat} {w : Wire} : Calm s0 (s.submit p tc w) := Calm.ite (h.bump (by decide)) h.newFid.enqueue

theorem Calm.submitFrame (h : Calm s0 s) {bs : List Byte} {mask tc ns : Nat} : Calm s0 (s.submitFrame bs mask tc ns).2 := by
  unfold State.submitFrame
  extract_lets hd egress int tooLong n body t
  have ht : Calm s0 t := Calm.foldl h.newFid fun _ _ hu => hu.enqueue
  split
  · exact h.foldl fun _ _ hu => hu.bump (by decide)
  · split
    · exact h
    · dsimp only
      exact ht.when fun u hu => hu.consume

theorem Calm.hostDescriptor (h : Calm s0 s) {d : Nat} : Calm s0 (s.hostDescriptor d) := by
  unfold State.hostDescriptor
  extract_lets buf w1 len r
  have hr : Calm s0 r.2 := by
    unfold r
    split
    · exact h
    · exact h.submitFrame
  exact hr.setWord

theorem Calm.hostTx (h : Calm s0 s) {n : Nat} : Calm s0 (s.hostTx n) := by
  induction n generalizing s with
  | zero => exact h
  | succ n ih => exact Calm.ite h (ih (h.hostDescriptor.put (by decide)))

theorem Calm.hostPoll (h : Calm s0 s) : Calm s0 s.hostPoll := Calm.ite h.hostTx h

theorem Calm.effPort (h : Calm s0 s) {p : Nat} : Calm s0 (s.effPort p) := (h.put (by decide)).put (by decide)

theorem Calm.effAll (h : Calm s0 s) : Calm s0 s.effAll := h.each fun _ _ ht => ht.effPort

theorem Calm.tasNoTime (h : Calm s0 s) {p : Nat} : Calm s0 (s.tasNoTime p) :=
  Calm.ite h ((((h.put (by decide)).put (by decide)).put (by decide)).put (by decide)).raise

theorem Calm.tasCommit (h : Calm s0 s) {p : Nat} : Calm s0 (s.tasCommit p) := by
  unfold State.tasCommit
  extract_lets t src base cycle now at' src1 src2 t1
  have ht : Calm s0 t := (((h.put (by decide)).put (by decide)).put (by decide)).put (by decide)
  have ht1 : Calm s0 t1 := h.setPh.put (by decide)
  exact Calm.ite ht.setPh ht1.tasNoTime

theorem Calm.tasAll (h : Calm s0 s) : Calm s0 s.tasAll := h.each fun _ _ ht => ht.tasCommit

/-! #### StreamRx -/

theorem Calm.setRx (h : Calm s0 s) {n : Nat} {x : RxHid} : Calm s0 (s.setRx n x) := h.set

theorem Calm.clearBitmap (h : Calm s0 s) {n : Nat} : Calm s0 (s.clearBitmap n) := h.setBytes

theorem Calm.rxEnter (h : Calm s0 s) {n st : Nat} : Calm s0 (s.rxEnter n st) := by
  unfold State.rxEnter
  extract_lets t src
  have ht : Calm s0 t := Calm.ite h (h.put (by decide)).raise
  exact Calm.ite (ht.clearBitmap.setRx.put (by decide)) ht

theorem Calm.setRef (h : Calm s0 s) {n : Nat} {x : RefHid} : Calm s0 (s.setRef n x) := h.set

theorem Calm.rxIdleTick (h : Calm s0 s) : Calm s0 s.rxIdleTick := h.set

theorem Calm.nonAudioEntry (h : Calm s0 s) {T n : Nat} : Calm s0 (s.nonAudioEntry T n) :=
  Calm.ite h (Calm.ite (h.setRx.put (by decide)).raise (h.setRx.put (by decide)))

theorem Calm.underrunEntry (h : Calm s0 s) {T n : Nat} : Calm s0 (s.underrunEntry T n) := by
  unfold State.underrunEntry
  extract_lets src miss t t1
  have ht : Calm s0 t := h.setRx.bump (by decide)
  have ht1 : Calm s0 t1 := ht.bumpBy (by decide)
  exact Calm.ite (Calm.ite h.setRx h) (Calm.ite (Calm.ite h.setRx h) (Calm.ite ht1 ht1.raise))

theorem Calm.clearValidTick (h : Calm s0 s) {T : Nat} : Calm s0 (s.clearValidTick T) := h.foldl fun _ _ ht => ht.setByte

/-! #### Serial -/

theorem Calm.setSp (h : Calm s0 s) {p : Nat} {x : SpHid} : Calm s0 (s.setSp p x) := h.set

theorem Calm.setSi (h : Calm s0 s) {p k : Nat} {x : SiPair} : Calm s0 (s.setSi p k x) := h.set

theorem Calm.spRefresh (h : Calm s0 s) {p : Nat} : Calm s0 (s.spRefresh p) := by
  unfold State.spRefresh
  extract_lets w t src t1
  have ht : Calm s0 t := h.put (by decide)
  have ht1 : Calm s0 t1 := Calm.ite ht.setSp ht
  exact Calm.ite h (Calm.ite ((ht1.put (by decide)).bump (by decide)).raise ht1)

theorem Calm.spRefreshAll (h : Calm s0 s) : Calm s0 s.spRefreshAll := h.each fun _ _ ht => ht.spRefresh

theorem Calm.spOutStore (h : Calm s0 s) {p x k : Nat} {v : Int} : Calm s0 (s.spOutStore p x k v) := h.setWord.setWord

theorem Calm.asrcLockShow (h : Calm s0 s) {n : Nat} : Calm s0 (s.asrcLockShow n) := h.put (by decide)

theorem Calm.asrcSet (h : Calm s0 s) {g : Nat} {on : Bool} : Calm s0 (s.asrcSet g on) := by
  unfold State.asrcSet
  extract_lets t t1 src gone
  have ht : Calm s0 t := ((h.put (by decide)).putBit (by decide)).putBit (by decide)
  have ht1 : Calm s0 t1 := ht.each fun _ _ hu => Calm.ite hu.asrcLockShow hu
  have hgone : Calm s0 gone := ht1.set
  exact Calm.ite h (Calm.ite ht1 (hgone.bump (by decide)).raise)

theorem Calm.asrcFixed (h : Calm s0 s) : Calm s0 s.asrcFixed := h.each fun _ _ ht => Calm.ite (ht.put (by decide)).asrcSet (Calm.ite ht.asrcSet ht)

theorem Calm.asrcCommit (h : Calm s0 s) {old : State} : Calm s0 (s.asrcCommit old) :=
  Calm.asrcFixed (h.each fun _ _ ht => Calm.ite ht (Calm.ite ht.asrcSet (Calm.ite (ht.put (by decide)).asrcSet ht)))

theorem Calm.spPllmUngates (h : Calm s0 s) : Calm s0 s.spPllmUngates := h.each fun _ _ ht => Calm.ite ht.setSp.spRefresh ht

theorem Calm.siMute (h : Calm s0 s) {p k n : Nat} : Calm s0 (s.siMute p k n) := h.setSi.putBit (by decide)

theorem Calm.siTick (h : Calm s0 s) {p k tick : Nat} : Calm s0 (s.siTick p k tick) := Calm.ite h h.setSi

theorem Calm.siEnd (h : Calm s0 s) {p k x : Nat} : Calm s0 (s.siEnd p k x) := Calm.ite h.setSi.siMute h

theorem Calm.siDetect (h : Calm s0 s) {p k : Nat} {present pre : Bool} : Calm s0 (s.siDetect p k present pre) :=
  Calm.ite h.siMute.raise h.siMute

theorem Calm.spMissTick (h : Calm s0 s) {T p : Nat} : Calm s0 (s.spMissTick T p) := Calm.ite h ((h.bump (by decide)).bumpBy (by decide))

theorem Calm.spNonAudio (h : Calm s0 s) {T p : Nat} : Calm s0 (s.spNonAudio T p) := by
  unfold State.spNonAudio
  extract_lets s
  have hs : Calm s0 s := h.each fun _ _ ht => Calm.ite ht.siTick.siEnd ht
  exact Calm.ite h (Calm.ite hs (hs.foldl fun _ _ ht => ht.siTick.each fun _ _ hu => hu.siDetect))

theorem Calm.spClearTick (h : Calm s0 s) {T : Nat} : Calm s0 (s.spClearTick T) :=
  (h.each fun _ _ ht => Calm.ite ht (ht.each fun _ _ hu => Calm.ite hu.setWord hu.setWord.setWord)).set

theorem Calm.spCommit (h : Calm s0 s) {old : State} {p : Nat} : Calm s0 (s.spCommit old p) := by
  unfold State.spCommit
  extract_lets fmt masks x x1 x2 x3 t moved t1 t2 t3
  have ht : Calm s0 t := h.setSp
  have ht1 : Calm s0 t1 := Calm.ite (ht.each fun _ _ hu => Calm.ite hu (Calm.ite hu.setSi hu.siMute)) ht
  have ht2 : Calm s0 t2 := Calm.ite ht1 (ht1.each fun _ _ hu => Calm.ite hu hu.siMute)
  have ht3 : Calm s0 t3 := (ht2.put (by decide)).put (by decide)
  exact (ht3.put (by decide)).spRefresh

theorem Calm.spEpoch (h : Calm s0 s) {by8 : Int} : Calm s0 (s.spEpoch by8) := (h.set.each fun _ _ hu => hu.setSp).set

theorem Calm.spCommitAll (h : Calm s0 s) {old : State} : Calm s0 (s.spCommitAll old) := h.each fun _ _ ht => ht.spCommit

/-! #### Admission -/

theorem Calm.passPort {x : Pass × State} (h : Calm s0 x.2) {p : Nat} : Calm s0 (State.passPort x p).2 := by
  unfold State.passPort
  extract_lets s g src taken n src1 t
  have hs : Calm s0 s := h
  have htaken : Calm s0 taken := hs.setSp
  have ht : Calm s0 t := hs.setSp.put (by decide)
  split
  · exact htaken.put (by decide)
  · split
    · exact htaken.put (by decide)
    · exact Calm.ite ht ht.raise

theorem Calm.rxRefuse (h : Calm s0 s) {n reason : Nat} : Calm s0 (s.rxRefuse n reason) := by
  unfold State.rxRefuse
  extract_lets t
  have ht : Calm s0 t := (((h.put (by decide)).put (by decide)).put (by decide)).put (by decide)
  exact (((ht.put (by decide)).put (by decide)).put (by decide)).raise

theorem Calm.nonAudioOff (h : Calm s0 s) {n : Nat} : Calm s0 (s.nonAudioOff n) := Calm.ite h (h.setRx.put (by decide))

theorem Calm.passRx {x : (Pass × List Nat) × State} (h : Calm s0 x.2) {n : Nat} : Calm s0 (State.passRx x n).2 := by
  unfold State.passRx
  extract_lets s a r ch a1 a2
  have hs : Calm s0 s := h
  split
  · exact Calm.ite hs (((hs.rxEnter.put (by decide)).put (by decide)).put (by decide))
  · split
    · exact hs.rxRefuse
    · exact (hs.put (by decide)).nonAudioOff

theorem Calm.ringTake (h : Calm s0 s) {old : State} {r : Nat × Nat × Nat} : Calm s0 (s.ringTake old r) :=
  Calm.ite (h.put (by decide)).rxEnter (h.put (by decide))

theorem Calm.txRefuse (h : Calm s0 s) {n : Nat} {r : Nat × Nat} : Calm s0 (s.txRefuse n r) :=
  ((((((h.put (by decide)).put (by decide)).put (by decide)).put (by decide)).put (by decide)).put (by decide)).raise

theorem Calm.txBegin (h : Calm s0 s) {n : Nat} : Calm s0 (s.txBegin n) := h.set

theorem Calm.txTakeRole (h : Calm s0 s) {n : Nat} : Calm s0 (s.txTakeRole n) := (h.put (by decide)).when fun _ hu => hu.txBegin

theorem Calm.passTx {x : Pass × State} (h : Calm s0 x.2) {n : Nat} : Calm s0 (State.passTx x n).2 := by
  unfold State.passTx
  extract_lets s r bw src
  have hs : Calm s0 s := h
  split
  · exact Calm.ite hs ((hs.put (by decide)).put (by decide))
  · split
    · exact hs.txRefuse
    · exact hs.txTakeRole.put (by decide)

theorem Calm.passPorts (h : Calm s0 s) : Calm s0 s.passPorts.2 := Calm.foldl_on (fun b : _ × State => b.2) h fun _ _ ht => ht.passPort

theorem Calm.passRxAll {x : Pass × State} {y} (hy : y = State.passRxAll x) (h : Calm s0 x.2) : Calm s0 y.2 := by
  rw [hy, State.passRxAll]
  generalize List.range 512 = l
  exact Calm.foldl_on (fun b : (Pass × List Nat) × State => b.2) h fun _ _ ht => Calm.passRx ht

theorem Calm.passTxAll {x : (Pass × List Nat) × State} {y} (hy : y = State.passTxAll x) (h : Calm s0 x.2) : Calm s0 y.2 := by
  rw [hy, State.passTxAll]
  generalize List.range 512 = l
  exact Calm.foldl_on (fun b : Pass × State => b.2) h fun _ _ ht => Calm.passTx ht

theorem Calm.admission (h : Calm s0 s) {old : State} : Calm s0 (s.admission old) := by
  unfold State.admission
  extract_lets a b c plan t t1 t2 t3 t4 t5 src
  have hc : Calm s0 c.2 := Calm.passTxAll rfl (Calm.passRxAll rfl h.passPorts)
  have ht : Calm s0 t := hc.foldl fun _ _ ht => ht.ringTake
  have ht1 : Calm s0 t1 := (ht.put (by decide)).put (by decide)
  have ht2 : Calm s0 t2 := ht1.put (by decide)
  have ht3 : Calm s0 t3 := ht2.each fun _ _ hu => Calm.ite hu hu.asrcLockShow
  have ht4 : Calm s0 t4 := ht3.each fun _ _ hu => hu.put (by decide)
  have ht5 : Calm s0 t5 := ht4.each fun _ _ hu => (hu.put (by decide)).put (by decide)
  exact Calm.spRefreshAll ht5.set

theorem Calm.txStates (h : Calm s0 s) : Calm s0 s.txStates := h.each fun _ _ ht => Calm.ite ht.txTakeRole ht

theorem Calm.setTxSample (h : Calm s0 s) {c x : Nat} {v : Int} : Calm s0 (s.setTxSample c x v) := h.set

theorem Calm.handOver (h : Calm s0 s) {mask tc len : Nat} {w : Nat → Wire} : Calm s0 (s.handOver mask tc len w).2.2 :=
  Calm.foldl_on (fun b : _ × _ × State => b.2.2) h.newFid fun _ _ ha => ha.enqueue

theorem Calm.txSend (h : Calm s0 s) {n i0 : Nat} : Calm s0 (s.txSend n i0) := by
  unfold State.txSend
  extract_lets crf k t len r
  have ht : Calm s0 t := (h.put (by decide)).put (by decide)
  have hr : Calm s0 r.2.2 := ht.handOver
  exact Calm.ite (ht.bump (by decide)) (Calm.ite h ((hr.bumpBy (by decide)).when fun _ hu => hu.bump (by decide)))

theorem Calm.txTick (h : Calm s0 s) : Calm s0 s.txTick := Calm.ite h (h.each fun _ _ ht => Calm.ite (ht.foldl fun _ _ hu => hu.txSend) ht)

/-! #### Ptp -/

theorem Calm.setPtp (h : Calm s0 s) {p : Nat} {x : PtpPort} : Calm s0 (s.setPtp p x) := h.set

theorem Calm.ptpUnsync (h : Calm s0 s) : Calm s0 s.ptpUnsync := Calm.ite (h.set.put (by decide)).raise h.set

theorem Calm.ptpEnter (h : Calm s0 s) {p st : Nat} : Calm s0 (s.ptpEnter p st) := Calm.ite h (h.put (by decide)).raise

theorem Calm.ptpSelect (h : Calm s0 s) : Calm s0 s.ptpSelect := by
  unfold State.ptpSelect
  extract_lets on gm isGm slaveWas t t1 old t2
  have ht : Calm s0 t := h.each fun _ _ hu => hu.ptpEnter
  have ht1 : Calm s0 t1 := (ht.put (by decide)).put (by decide)
  have ht2 : Calm s0 t2 := Calm.ite ht1 ((ht1.put (by decide)).put (by decide)).raise
  exact Calm.ite ht2.ptpUnsync (ht2.when fun _ hu => hu.set)

theorem Calm.ptpRefresh (h : Calm s0 s) : Calm s0 s.ptpRefresh := by
  unfold State.ptpRefresh
  exact Calm.ptpSelect (h.each fun _ _ hu => Calm.ite hu hu.setPtp)

/-! #### Links -/

theorem Calm.linkPass (h : Calm s0 s) : Calm s0 s.linkPass := by
  unfold State.linkPass
  exact Calm.ptpRefresh (Calm.set (h.effAll.each fun _ _ ht => ht.tasPurge))

theorem Calm.passIfDue (h : Calm s0 s) : Calm s0 s.passIfDue := Calm.ite h.admission h

theorem Calm.linkUp (h : Calm s0 s) {p reported pause : Nat} : Calm s0 (s.linkUp p reported pause) := by
  unfold State.linkUp
  extract_lets speed an t t1
  have ht : Calm s0 t := ((h.put (by decide)).put (by decide)).put (by decide)
  have ht1 : Calm s0 t1 := ht.put (by decide)
  exact Calm.ite h (ht1.put (by decide)).raise.linkPass

theorem Calm.linkDown (h : Calm s0 s) {p : Nat} : Calm s0 (s.linkDown p) := Calm.ite h.linkGone.linkPass h

theorem Calm.t1sLinks (h : Calm s0 s) : Calm s0 s.t1sLinks := h.foldl fun _ _ hu => Calm.ite hu.linkUp hu

/-! #### Avdecc -/

theorem Calm.avdSend (h : Calm s0 s) {p da kind seq status : Nat} {fields : List Nat} : Calm s0 (s.avdSend p da kind seq status fields) :=
  h.submit

theorem Calm.entityAvailable (h : Calm s0 s) : Calm s0 s.entityAvailable := ((h.put (by decide)).put (by decide)).foldl fun _ _ hu => hu.avdSend

theorem Calm.entityDeparting (h : Calm s0 s) : Calm s0 s.entityDeparting := Calm.ite h ((h.put (by decide)).foldl fun _ _ hu => hu.avdSend)

theorem Calm.acmpAnswer (h : Calm s0 s) {port msg seq entry status : Nat} {fields : List Nat} :
    Calm s0 (s.acmpAnswer port msg seq entry status fields) :=
  (((h.put (by decide)).put (by decide)).put (by decide)).avdSend

theorem Calm.acmpDone (h : Calm s0 s) {pages : List Nat} {ok : Bool} : Calm s0 (s.acmpDone pages ok) := by
  unfold State.acmpDone
  extract_lets src t
  have ht : Calm s0 t := h.set
  split
  · exact Calm.ite h (Calm.ite ht.setRx ht).acmpAnswer
  · exact h

theorem Calm.acmpOverride (h : Calm s0 s) {pend : List Pend} : Calm s0 (s.acmpOverride pend) := h.each fun _ _ ht => Calm.ite ht.setRx ht

theorem Calm.ipSend (h : Calm s0 s) {p da : Nat} {q : Option IpHead} {kind : Nat} {fields : List Nat} : Calm s0 (s.ipSend p da q kind fields) :=
  h.submit

theorem Calm.igmpReport (h : Calm s0 s) {p : Nat} {groups : List Nat} : Calm s0 (s.igmpReport p groups) :=
  Calm.ite h (Calm.ite (h.foldl fun _ _ hu => hu.ipSend) h.ipSend)

theorem Calm.igmpTick (h : Calm s0 s) : Calm s0 s.igmpTick := Calm.ite h (h.each fun _ _ ht => ht.igmpReport).set

theorem Calm.sapSend (h : Calm s0 s) {kind : Nat} {fields : List Nat} : Calm s0 (s.sapSend kind fields) := h.foldl fun _ _ hu => hu.ipSend

theorem Calm.sapWithdraw (h : Calm s0 s) : Calm s0 s.sapWithdraw := Calm.ite h (h.foldl fun _ _ ht => ht.sapSend).set

/-! #### Plumb -/

theorem Calm.hist (h : Calm s0 s) {f : Fld} (hf : ∀ g ∈ calmFlds, f.base ≠ g.base) {n : Nat} : Calm s0 (s.hist f n).2 := h.put hf

theorem Calm.lostSelected (h : Calm s0 s) {n st : Nat} : Calm s0 (s.lostSelected n st).2 := by
  unfold State.lostSelected
  split
  · exact h.hist (by decide)
  · exact h

/-- The register of a failed check is none of those that `Calm` speaks of. -/
theorem failBit_calm (c : Nat) : ∀ g ∈ calmFlds, (failBit c).base ≠ g.base := by
  unfold failBit
  split <;> decide

theorem Calm.refLose (h : Calm s0 s) {n : Nat} : Calm s0 (s.refLose n).2 := by
  unfold State.refLose
  extract_lets st src t t1 a b
  have ht : Calm s0 t := h.setRef.put (by decide)
  have ht1 : Calm s0 t1 := ht.put (by decide)
  have ha : Calm s0 a.2 := by
    unfold a
    split
    · exact ht1
    · exact ht1.hist (by decide)
  split
  · exact ht.put (by decide)
  · split
    · exact ht
    · exact ha.lostSelected

theorem Calm.refJudge (h : Calm s0 s) {n : Nat} {fails : List Nat} : Calm s0 (s.refJudge n fails).2 := by
  unfold State.refJudge
  extract_lets st x marked t restart
  have hmarked : Calm s0 marked.2 := Calm.foldl_on (fun b : _ × State => b.2) h fun _ _ ha => ha.hist (failBit_calm _)
  have ht : Calm s0 t := Calm.ite hmarked (hmarked.put (by decide))
  split
  · exact ht.put (by decide)
  · split
    · exact (ht.put (by decide)).lostSelected
    · split
      · exact ht.setRef.put (by decide)
      · split
        · exact ht.setRef.put (by decide)
        · exact ht

theorem Calm.refEval (h : Calm s0 s) {refs : List RefMeas} {n : Nat} : Calm s0 (s.refEval refs n).2 := by
  unfold State.refEval
  extract_lets k old freq x jump x1 t t1
  have ht : Calm s0 t := h.setRef.putI (by decide)
  have ht1 : Calm s0 t1 := ht.putI (by decide)
  split
  · exact h.refLose
  · exact ht1.refJudge

theorem Calm.refRemain (h : Calm s0 s) {n : Nat} : Calm s0 (s.refRemain n) := h.put (by decide)

theorem Calm.refEvalAll (h : Calm s0 s) {refs : List RefMeas} : Calm s0 (s.refEvalAll refs) := by
  unfold State.refEvalAll
  extract_lets src r
  have hr : Calm s0 r.2 := Calm.foldl_on (fun b : _ × State => b.2) h.set fun _ _ ha => ha.refEval.refRemain
  exact Calm.ite hr.raise hr

theorem Calm.selChange (h : Calm s0 s) {new : Nat} : Calm s0 (s.selChange new) := by
  unfold State.selChange
  extract_lets cur cause t src t1 src1 t2 t3
  have ht : Calm s0 t := Calm.ite h (h.put (by decide))
  have ht1 : Calm s0 t1 := Calm.ite ht (ht.put (by decide)).setRef
  have ht2 : Calm s0 t2 := Calm.ite ht1.set ht1
  have ht3 : Calm s0 t3 := ((((ht2.put (by decide)).put (by decide)).put (by decide)).put (by decide)).put (by decide)
  exact Calm.ite h ((ht3.put (by decide)).bump (by decide)).raise

theorem Calm.setClk (h : Calm s0 s) {k : Nat} {x : ClkHid} : Calm s0 (s.setClk k x) := h.set

theorem Calm.setAlign (h : Calm s0 s) {k : Nat} {x : Int} : Calm s0 (s.setAlign k x) := h.set

theorem Calm.ringsEpoch (h : Calm s0 s) : Calm s0 s.ringsEpoch := h.each fun _ _ ht => (ht.when fun _ hv => hv.clearBitmap).setRx

theorem Calm.zeroNext (h : Calm s0 s) : Calm s0 s.zeroNext := h.set

theorem Calm.portRingsEpoch (h : Calm s0 s) : Calm s0 s.portRingsEpoch := h.each fun _ _ ht => ht.each fun _ _ hu => hu.setWord.setWord

theorem Calm.stepOffsets (h : Calm s0 s) {ns : Int} : Calm s0 (s.stepOffsets ns) := by
  unfold State.stepOffsets
  extract_lets t src t1
  have ht : Calm s0 t := by
    refine h.each fun t n ht => ?_
    extract_lets k src
    split
    · exact Calm.ite ht (ht.setRef.putI (by decide))
    · exact ht
  have ht1 : Calm s0 t1 := Calm.putI ht.set (by decide)
  exact ht1.each fun _ _ hu => hu.setPtp

theorem Calm.plumbEnter (h : Calm s0 s) {new : Nat} : Calm s0 (s.plumbEnter new) := by
  unfold State.plumbEnter
  extract_lets st t src t1 src1
  have ht : Calm s0 t := h.put (by decide)
  have ht1 : Calm s0 t1 := Calm.ite ht.set ht
  exact Calm.ite (Calm.raise (Calm.bump ht1.set (by decide))) (Calm.ite ht1.raise ht1)

theorem Calm.plumbY (h : Calm s0 s) : Calm s0 s.plumbY := Calm.putI h.set (by decide)

theorem Calm.holdValid (h : Calm s0 s) : Calm s0 s.holdValid := Calm.ite (h.put (by decide)) h

theorem Calm.plumbLoop (h : Calm s0 s) : Calm s0 s.plumbLoop := by
  unfold State.plumbLoop
  extract_lets sat t t1 src t2 t3 n src1
  have ht : Calm s0 t := (((h.putI (by decide)).put (by decide)).put (by decide)).plumbEnter
  have ht1 : Calm s0 t1 := ht.plumbY
  have ht2 : Calm s0 t2 := Calm.ite (Calm.holdValid ht1.set) ht1.set
  have ht3 : Calm s0 t3 := Calm.ite (ht2.put (by decide)) ht2
  exact Calm.ite ht3.setRef ht3

theorem Calm.pulseTick (h : Calm s0 s) {k : Nat} : Calm s0 (s.pulseTick k) := by
  unfold State.pulseTick
  extract_lets o thr high fired t src
  have ht : Calm s0 t := (h.putI (by decide)).putBit (by decide)
  exact Calm.ite (Calm.raise ht.set) (Calm.ite ht.set ht)

theorem Calm.clkTick (h : Calm s0 s) {k : Nat} : Calm s0 (s.clkTick k) := by
  unfold State.clkTick
  extract_lets t0 x a steps r t l src
  have ht : Calm s0 t := h.when fun _ hu => hu.setAlign.setClk.putBit (by decide)
  exact Calm.ite ht.setClk.send ht.setClk

theorem Calm.clkoutLow (h : Calm s0 s) : Calm s0 s.clkoutLow := Calm.send (h.each fun _ _ ht => ht.setClk)

theorem Calm.clkoutGate (h : Calm s0 s) : Calm s0 s.clkoutGate := (h.when fun _ ht => ht.clkoutLow).put (by decide)

theorem Calm.clkoutCommit (h : Calm s0 s) {old : State} : Calm s0 (s.clkoutCommit old) :=
  Calm.clkoutGate (h.each fun _ _ ht => Calm.ite ht.setAlign.setClk ht)

theorem Calm.plumbCommit (h : Calm s0 s) {old : State} : Calm s0 (s.plumbCommit old) :=
  h.each fun _ _ ht => Calm.ite ((ht.setRef.put (by decide)).put (by decide)).lostSelected.set ht

/-! #### Power -/

theorem Calm.setCh (h : Calm s0 s) {n : Nat} {x : PchHid} : Calm s0 (s.setCh n x) := h.set

theorem Calm.modCh (h : Calm s0 s) {n : Nat} {f : PchHid → PchHid} : Calm s0 (s.modCh n f) := h.setCh

theorem Calm.modRail (h : Calm s0 s) {r : Nat} {f : RailHid → RailHid} : Calm s0 (s.modRail r f) := h.set

theorem Calm.enterCh (h : Calm s0 s) {n st : Nat} : Calm s0 (s.enterCh n st) :=
  Calm.ite h (((h.modCh.put (by decide)).putBit (by decide)).put (by decide)).raise

theorem Calm.applyFeed (h : Calm s0 s) {n : Nat} : Calm s0 (s.applyFeed n) := Calm.ite h.modCh (h.modCh.put (by decide))

theorem Calm.chDead (h : Calm s0 s) {n st : Nat} : Calm s0 (s.chDead n st) := (h.modCh.applyFeed.put (by decide)).enterCh

theorem Calm.chMark (h : Calm s0 s) {n cause : Nat} : Calm s0 (s.chMark n cause) := (h.put (by decide)).put (by decide)

theorem Calm.chFault (h : Calm s0 s) {n cause : Nat} : Calm s0 (s.chFault n cause) := ((h.chMark.put (by decide)).put (by decide)).raise

theorem Calm.diagCut (h : Calm s0 s) {n : Nat} : Calm s0 (s.diagCut n) := Calm.ite (Calm.when (Calm.put h.set (by decide)) fun _ ht => ht.send) h

theorem Calm.gainRun (h : Calm s0 s) {n dir : Nat} {e : GainEnd} : Calm s0 (s.gainRun n dir e) := h.modCh

theorem Calm.rampDown (h : Calm s0 s) {n : Nat} : Calm s0 (s.rampDown n) := h.modCh.enterCh

theorem Calm.rampUp (h : Calm s0 s) {n : Nat} : Calm s0 (s.rampUp n) :=
  Calm.ite h.chFault.chDead ((h.applyFeed.put (by decide)).modCh.put (by decide)).enterCh

theorem Calm.dcTest (h : Calm s0 s) {n kind : Nat} : Calm s0 (s.dcTest n kind) := (h.modCh.put (by decide)).enterCh

theorem Calm.chStart (h : Calm s0 s) {n : Nat} : Calm s0 (s.chStart n) :=
  Calm.ite h (Calm.ite (h.put (by decide)) (Calm.ite h.modCh.dcTest h.rampUp))

theorem Calm.chArm (h : Calm s0 s) {n : Nat} : Calm s0 (s.chArm n) := Calm.ite h.modCh.chStart h

theorem Calm.armAll (h : Calm s0 s) : Calm s0 s.armAll := h.each fun _ _ ht => ht.chArm

theorem Calm.retryGo (h : Calm s0 s) {n : Nat} : Calm s0 (s.retryGo n) := Calm.ite h.chDead (Calm.ite (h.modCh.put (by decide)) h.modCh.dcTest)

theorem Calm.chResume (h : Calm s0 s) {n : Nat} : Calm s0 (s.chResume n) := Calm.ite h.chDead (Calm.ite (h.put (by decide)) h.rampUp)

theorem Calm.diagRail (h : Calm s0 s) : Calm s0 s.diagRail := by
  unfold State.diagRail
  extract_lets src
  split
  · exact Calm.ite (Calm.dcTest h.set) h
  · exact h

theorem Calm.railReached (h : Calm s0 s) {r : Nat} : Calm s0 (s.railReached r) := by
  unfold State.railReached
  refine Calm.diagRail ?_
  exact h.each fun _ _ ht => Calm.ite ht.chStart (Calm.ite ht.chResume (Calm.ite ht.chResume (Calm.ite ht.retryGo ht)))

theorem Calm.railShow (h : Calm s0 s) {r : Nat} : Calm s0 (s.railShow r) := (h.put (by decide)).put (by decide)

theorem Calm.railTrack (h : Calm s0 s) {r : Nat} : Calm s0 (s.railTrack r) := (h.modRail.put (by decide)).railShow.railReached

theorem Calm.railSoft (h : Calm s0 s) {r : Nat} : Calm s0 (s.railSoft r) :=
  Calm.ite (h.modRail.put (by decide)).railTrack (h.modRail.put (by decide)).railShow

theorem Calm.railOff (h : Calm s0 s) {r cause : Nat} : Calm s0 (s.railOff r cause) :=
  (Calm.ite (h.modRail.put (by decide)) (((h.modRail.put (by decide)).put (by decide)).put (by decide))).railShow

theorem Calm.railRest (h : Calm s0 s) {r : Nat} : Calm s0 (s.railRest r) := Calm.ite h.railOff h

theorem Calm.railEval (h : Calm s0 s) {r : Nat} : Calm s0 (s.railEval r) := Calm.ite h.railRest (Calm.ite h.railSoft h)

theorem Calm.railsEval (h : Calm s0 s) : Calm s0 s.railsEval := h.each fun _ _ ht => ht.railEval

theorem Calm.railDrops (h : Calm s0 s) {r : Nat} {latched : Bool} : Calm s0 (s.railDrops r latched) := by
  unfold State.railDrops
  refine h.each fun t k ht => ?_
  exact Calm.ite (Calm.ite ht.chMark.modCh.chDead (ht.chMark.modCh.chDead.put (by decide))) (Calm.ite ht.chDead ht)

theorem Calm.railFault (h : Calm s0 s) {r cause : Nat} : Calm s0 (s.railFault r cause) := by
  unfold State.railFault
  extract_lets f latched t t1 t2 t3
  have ht : Calm s0 t := h.modRail
  have ht1 : Calm s0 t1 := ((ht.put (by decide)).put (by decide)).put (by decide)
  have ht2 : Calm s0 t2 := ((ht1.put (by decide)).put (by decide)).bump (by decide)
  have ht3 : Calm s0 t3 := (ht2.raise.put (by decide)).railShow
  exact ht3.railDrops

theorem Calm.railNtc (h : Calm s0 s) {r : Nat} : Calm s0 (s.railNtc r) := Calm.ite h.railFault h

theorem Calm.chStop (h : Calm s0 s) {n goal : Nat} : Calm s0 (s.chStop n goal) := by
  unfold State.chStop
  extract_lets t st u
  have ht : Calm s0 t := h.modCh
  have hu : Calm s0 u := ht.modCh
  split
  · exact Calm.ite hu.rampDown hu.gainRun
  · split
    · exact Calm.ite hu hu.modCh.gainRun
    · split
      · exact hu.rampDown
      · split
        · exact hu
        · split
          · exact Calm.ite ht (Calm.ite hu.diagCut.rampDown ht.diagCut.chDead)
          · exact Calm.ite (Calm.ite ht.chDead ht.chDead) (Calm.ite (ht.put (by decide)) ht)

theorem Calm.stopAll (h : Calm s0 s) : Calm s0 s.stopAll := h.each fun _ _ ht => Calm.ite ht.chDead ht.chStop

theorem Calm.muteEval (h : Calm s0 s) {n : Nat} : Calm s0 (s.muteEval n) :=
  Calm.ite (Calm.ite h.enterCh h.gainRun) (Calm.ite (Calm.ite h.gainRun h.gainRun) (Calm.ite h.enterCh.gainRun h))

theorem Calm.muteAll (h : Calm s0 s) : Calm s0 s.muteAll := h.each fun _ _ ht => ht.muteEval

theorem Calm.pchCommit (h : Calm s0 s) {old : State} {n : Nat} : Calm s0 (s.pchCommit old n) := by
  unfold State.pchCommit
  extract_lets x st vfs t t1 t2
  have ht : Calm s0 t := Calm.ite h h.setCh
  have ht1 : Calm s0 t1 := Calm.ite ht (Calm.ite ht.applyFeed (Calm.ite ht.gainRun ht))
  have ht2 : Calm s0 t2 := Calm.ite ht1.chStop (Calm.ite ht1.chArm ht1)
  exact ht2.muteEval

theorem Calm.bstCommit (h : Calm s0 s) {r : Nat} : Calm s0 (s.bstCommit r) := h.railEval

theorem Calm.linkTake (h : Calm s0 s) : Calm s0 s.linkTake := h.set

theorem Calm.railTick (h : Calm s0 s) {r : Nat} : Calm s0 (s.railTick r) := by
  unfold State.railTick
  extract_lets st t t1 t2
  have ht : Calm s0 t := Calm.ite h.modRail (Calm.ite h.modRail h)
  have ht1 : Calm s0 t1 := ht.put (by decide)
  have ht2 : Calm s0 t2 := Calm.ite (ht1.bump (by decide)) ht1
  exact ht2.railShow

theorem Calm.railLimited (h : Calm s0 s) {n : Nat} : Calm s0 (s.railLimited n) := by
  unfold State.railLimited
  extract_lets t run src u
  have ht : Calm s0 t := (h.modCh.bump (by decide)).put (by decide)
  have hu : Calm s0 u := ht.set
  exact Calm.ite h (Calm.ite hu hu.raise)

theorem Calm.feedPush (h : Calm s0 s) {n : Nat} {x : List Int} {peak : Nat} : Calm s0 (s.feedPush n x peak) := h.modCh

theorem Calm.pchTick (h : Calm s0 s) {n : Nat} : Calm s0 (s.pchTick n) := by
  unfold State.pchTick
  extract_lets c st e g l diagOn src d w t t1 t2
  have ht : Calm s0 t := (h.setCh.put (by decide)).put (by decide)
  have ht1 : Calm s0 t1 := ht.put (by decide)
  have ht2 : Calm s0 t2 := Calm.ite ht1.send (ht1.when fun _ hu => hu.send)
  exact Calm.ite ht2.railLimited ht2

theorem Calm.brownTick (h : Calm s0 s) : Calm s0 s.brownTick := Calm.ite h (Calm.ite (Calm.bump h.set (by decide)) h.set)

theorem Calm.powerTick (h : Calm s0 s) : Calm s0 s.powerTick := by
  unfold State.powerTick
  extract_lets t t1 src t2 t3
  have ht : Calm s0 t := h.brownTick
  have ht1 : Calm s0 t1 := ht.each fun _ _ hu => hu.railTick.railRest
  have ht2 : Calm s0 t2 := Calm.ite ht1.set ht1
  have ht3 : Calm s0 t3 := Calm.each (ht2.each fun _ _ ht' => ht'.pchTick) fun _ _ ht' => ht'.railNtc
  exact ht3.when fun _ ht' => ht'.linkTake

/-! #### Diag -/

theorem Calm.setDiag (h : Calm s0 s) {x : Diag} : Calm s0 (s.setDiag x) := h.set

theorem Calm.diagOver (h : Calm s0 s) : Calm s0 s.diagOver := (h.setDiag.put (by decide)).raise

theorem Calm.diagAbort (h : Calm s0 s) : Calm s0 s.diagAbort := by
  unfold State.diagAbort
  split
  · exact (h.put (by decide)).chDead.diagOver
  · exact h

theorem Calm.diagCommit (h : Calm s0 s) {old : State} : Calm s0 (s.diagCommit old) := by
  unfold State.diagCommit
  extract_lets t
  have ht : Calm s0 t := h.each fun _ _ hu => Calm.ite hu hu.modCh
  exact Calm.ite ht (ht.each fun _ _ hu => hu.modCh)

/-! #### Supply -/

theorem Calm.setSlot (h : Calm s0 s) {k : Nat} {x : OcdSlot} : Calm s0 (s.setSlot k x) := h.set

theorem Calm.slotCount (h : Calm s0 s) {k : Nat} : Calm s0 (s.slotCount k).2 := h.setSlot

theorem Calm.heartbeat (h : Calm s0 s) {notice : Bool} : Calm s0 (s.heartbeat notice) := Calm.ite h (h.slotCount.foldl fun _ _ hu => hu.submit)

theorem Calm.demote (h : Calm s0 s) : Calm s0 s.demote := Calm.ite h (Calm.heartbeat h.set)

theorem Calm.fatal (h : Calm s0 s) {c : FatalCause} : Calm s0 (s.fatal c) := by
  unfold State.fatal
  extract_lets t t1 t2
  have ht : Calm s0 t := Calm.ite ((h.put (by decide)).put (by decide)) h
  have ht1 : Calm s0 t1 := (ht.put (by decide)).raiseFatal
  have ht2 : Calm s0 t2 := Calm.ite ht1.demote ht1
  exact Calm.ite ht2.set ht2

theorem Calm.ntcWarnCh (h : Calm s0 s) {n code : Nat} : Calm s0 (s.ntcWarnCh n code) :=
  Calm.ite (Calm.ite (h.put (by decide)) h) ((Calm.ite (h.put (by decide)) h).put (by decide)).raise

theorem Calm.ntcWarnRail (h : Calm s0 s) {r : Nat} : Calm s0 (s.ntcWarnRail r) := Calm.ite h h.modRail.raise

theorem Calm.ntcShutCh (h : Calm s0 s) {n : Nat} : Calm s0 (s.ntcShutCh n) := Calm.ite h (Calm.ite h.modCh.chFault.chStop h.modCh)

theorem Calm.ntcShutRail (h : Calm s0 s) {r : Nat} : Calm s0 (s.ntcShutRail r) :=
  Calm.ite h (Calm.railNtc (h.modRail.each fun _ _ hw => Calm.ite hw.chStop hw))

theorem Calm.ntcEndCh (h : Calm s0 s) {n : Nat} : Calm s0 (s.ntcEndCh n) := Calm.ite (h.modCh.put (by decide)).chResume (h.modCh.put (by decide))

theorem Calm.ntcEndRail (h : Calm s0 s) {r : Nat} : Calm s0 (s.ntcEndRail r) := Calm.ite h.modRail.railOff.railEval h.modRail.railEval

theorem Calm.ntcCommit (h : Calm s0 s) {old : State} : Calm s0 (s.ntcCommit old) := by
  unfold State.ntcCommit
  extract_lets thr t
  have ht : Calm s0 t := by
    refine h.each fun u n hu => ?_
    extract_lets k w
    split
    · exact hu
    · split
      · exact hu.when fun _ hv => hv.ntcEndCh
      · exact Calm.ite hu.ntcEndCh (Calm.when (hu.when fun _ hv => hv.ntcWarnCh) fun _ hv => hv.ntcShutCh)
  refine ht.each fun u r hu => ?_
  extract_lets k w
  split
  · exact hu
  · split
    · exact hu.when fun _ hv => hv.ntcEndRail
    · exact Calm.ite hu.ntcEndRail (Calm.when (hu.when fun _ hv => hv.ntcWarnRail) fun _ hv => hv.ntcShutRail)

theorem Calm.measure (h : Calm s0 s) {x : Meas} : Calm s0 (s.measure x) := by
  unfold State.measure
  split
  · exact h.put (by decide)
  · exact h.put (by decide)
  · exact h.put (by decide)
  · exact h.put (by decide)
  · exact h.put (by decide)
  · exact h.put (by decide)
  · exact h.put (by decide)
  · exact h.put (by decide)
  · exact h.put (by decide)
  · exact h.put (by decide)
  · exact h.put (by decide)
  · exact h.put (by decide)
  · exact h.putI (by decide)
  · exact h.putI (by decide)
  · exact h.bumpBy (by decide)
  · exact (h.put (by decide)).put (by decide)

/-! #### Mixer -/

theorem Calm.lineRun (h : Calm s0 s) {d x : Nat} {y : List Int} : Calm s0 (s.lineRun d x y).2 := by
  unfold State.lineRun
  split
  · exact h
  · exact (h.foldl fun _ _ hu => hu.setWord).set

theorem Calm.mixTake (h : Calm s0 s) {pages : List Nat} {m : Nat} : Calm s0 (s.mixTake pages m) := h.set

theorem Calm.mixPublish (h : Calm s0 s) {old : State} {pages : List Nat} : Calm s0 (s.mixPublish old pages) := by
  unfold State.mixPublish
  extract_lets new late ducks clamp rsvd src src1 u u1 u2 u3 u4 t lines taken total starts free u5 u6
  have hsrc : Calm s0 src := h.put (by decide)
  have hu : Calm s0 u := hsrc.set
  have hu1 : Calm s0 u1 := (hu.put (by decide)).put (by decide)
  have hu2 : Calm s0 u2 := (hu1.put (by decide)).put (by decide)
  have hu3 : Calm s0 u3 := hu2.when fun _ hw => hw.put (by decide)
  have hu4 : Calm s0 u4 := hu3.when fun _ hw => hw.put (by decide)
  have ht : Calm s0 t := Calm.ite h (hu4.when fun _ hw => hw.raise)
  have hu5 : Calm s0 u5 := ht.set
  have hu6 : Calm s0 u6 := hu5.each fun _ _ hw => (hw.put (by decide)).put (by decide)
  exact Calm.ite ht (((hu6.put (by decide)).put (by decide)).put (by decide))

theorem Calm.mixCommit (h : Calm s0 s) {old : State} {pages : List Nat} : Calm s0 (s.mixCommit old pages) := Calm.mixPublish h.set

theorem Calm.mixBack (h : Calm s0 s) : Calm s0 s.mixBack := by
  unfold State.mixBack
  extract_lets src
  split
  · exact h.set
  · exact h

theorem Calm.mixStart (h : Calm s0 s) : Calm s0 s.mixStart := h.set

theorem Calm.alignTick (h : Calm s0 s) {T : Nat} : Calm s0 (s.alignTick T) := by
  unfold State.alignTick
  exact Calm.when (Calm.set (h.foldl fun _ _ hu => Calm.ite (hu.putBit (by decide)) (hu.putBit (by decide)))) fun _ hu => hu.raise

theorem Calm.clipRecord (h : Calm s0 s) {d tick n : Nat} : Calm s0 (s.clipRecord d tick n) := by
  unfold State.clipRecord
  extract_lets base t t1 src src1 u
  have ht : Calm s0 t := Calm.ite h h.setWord
  have ht1 : Calm s0 t1 := (ht.put (by decide)).put (by decide)
  have hsrc : Calm s0 src := ht1.bump (by decide)
  have hu : Calm s0 u := hsrc.set
  exact Calm.ite h (Calm.ite ht1 (Calm.ite hu hu.raise))

theorem Calm.formDest (h : Calm s0 s) {d m tick x : Nat} {read : Nat → List Int} : Calm s0 (s.formDest d m tick x read).2 :=
  h.clipRecord.lineRun

theorem Calm.bankErrors (h : Calm s0 s) {errs : List EccErr} : Calm s0 (s.bankErrors errs) := by
  unfold State.bankErrors
  refine h.foldl fun t e ht => ?_
  extract_lets src
  split
  · exact Calm.raise (Calm.put ht.set (by decide))
  · exact ht.bump (by decide)
  · exact ht

theorem Calm.earlyOpen (h : Calm s0 s) {errs : List EccErr} : Calm s0 (s.earlyOpen errs) := (h.set.when fun _ ht => ht.mixTake.set).bankErrors

theorem Calm.earlyPasses (h : Calm s0 s) : Calm s0 s.earlyPasses := Calm.ite h (h.set.set.foldl fun _ _ hw => hw.underrunEntry.nonAudioEntry)

theorem Calm.lateFeed (h : Calm s0 s) : Calm s0 s.lateFeed := by
  unfold State.lateFeed
  extract_lets T t mix t1 read m r src src' u
  have ht : Calm s0 t := h.each fun _ _ hu => hu.spMissTick
  have ht1 : Calm s0 t1 := ht.alignTick
  clear_value t1
  have hr : Calm s0 r.2 := Calm.foldl_on (fun b : Sparse (List Int) × State => b.2) ht1 fun a d ha => ha.formDest
  split
  · exact ht.set
  · exact Calm.each (Calm.set hr) fun _ _ hw => hw.spNonAudio

theorem Calm.lateOutput (h : Calm s0 s) : Calm s0 s.lateOutput.2 := by
  unfold State.lateOutput
  extract_lets T read m r outs src src1 t t1 v t2 src2
  have hr : Calm s0 r.2 := Calm.foldl_on (fun b : _ × State => b.2) h fun _ _ ha => ha.formDest
  have hsrc : Calm s0 src := hr
  have ht : Calm s0 t := hsrc.set
  have ht1 : Calm s0 t1 := ht.foldl fun _ _ hu => hu.each fun _ _ hw => hw.setTxSample
  have ht2 : Calm s0 t2 := ht1.each fun _ _ hu => Calm.ite hu (hu.foldl fun _ _ hw => hw.each fun _ _ hz => hz.spOutStore)
  split
  · exact h
  · exact ht2.set

theorem Calm.clearRead (h : Calm s0 s) : Calm s0 s.clearRead := Calm.ite h h.clearValidTick.spClearTick

/-! #### CutList -/

theorem Calm.copyRecord (h : Calm s0 s) {d : Desc} : Calm s0 (s.copyRecord d) := h.setBytes

theorem Calm.setInst (h : Calm s0 s) {id : Nat} {x : Inst} : Calm s0 (s.setInst id x) := h.set

theorem Calm.initEngine (h : Calm s0 s) {n : Nat} : Calm s0 (s.initEngine n) := h.foldl fun _ _ ht => ht.setInst

theorem Calm.loadCut (h : Calm s0 s) {c : Cut} : Calm s0 (s.loadCut c) := by
  unfold State.loadCut
  extract_lets old keeps src t t1
  have ht : Calm s0 t := h.set
  have ht1 : Calm s0 t1 := ht.foldl fun _ _ ht' => ht'.copyRecord
  exact ht1.each fun _ _ hu => (((hu.put (by decide)).put (by decide)).put (by decide)).put (by decide)

theorem Calm.paramUpdate (h : Calm s0 s) {n k : Nat} : Calm s0 (s.paramUpdate n k) := by
  unfold State.paramUpdate
  extract_lets id t src src1
  have ht : Calm s0 t := h.put (by decide)
  split
  · exact h
  · split
    · exact ht
    · exact Calm.copyRecord ht.set

theorem Calm.restartEngine (h : Calm s0 s) {n : Nat} : Calm s0 (s.restartEngine n) :=
  Calm.ite h (((h.foldl fun _ _ ht => ht.copyRecord).put (by decide)).put (by decide)).initEngine

theorem Calm.engineCommit (h : Calm s0 s) {old : State} {pages : List Nat} {cut : Option Cut} : Calm s0 (s.engineCommit old pages cut) := by
  unfold State.engineCommit
  extract_lets t t1
  have ht : Calm s0 t := by
    unfold t
    split
    · exact h.loadCut
    · exact h
  have ht1 : Calm s0 t1 := ht.each fun _ _ hu => Calm.ite hu ((hu.each fun _ _ hx => hx.paramUpdate).when fun _ hx => hx.initEngine)
  exact ht1.each fun _ _ ht' => ht'.restartEngine

/-! #### Engine -/

theorem Calm.engineFault (h : Calm s0 s) {n cause : Nat} {inst : Option Nat} : Calm s0 (s.engineFault n cause inst) := by
  unfold State.engineFault
  extract_lets t t1
  have ht : Calm s0 t := ((h.put (by decide)).put (by decide)).put (by decide)
  have ht1 : Calm s0 t1 := ((ht.put (by decide)).put (by decide)).put (by decide)
  exact Calm.ite h ((ht1.bump (by decide)).raise.when fun _ ht' => ht'.demote)

theorem Calm.runInit (h : Calm s0 s) {d : Desc} {w : List Nat} : Calm s0 (s.runInit d w) := Calm.ite (h.setInst.bump (by decide)) h

theorem Calm.control (h : Calm s0 s) {d : Desc} {w : List Nat} {c : Nat} : Calm s0 (s.control d w c) :=
  Calm.ite (h.setInst.bump (by decide)) (Calm.ite h.setInst (Calm.ite h.setInst h.setInst))

theorem Calm.readControl (h : Calm s0 s) {d : Desc} : Calm s0 (s.readControl d) :=
  Calm.ite h (Calm.ite h.denyRecord.engineFault (Calm.ite h.runInit h.runInit.setInst.control))

theorem Calm.readControls (h : Calm s0 s) : Calm s0 s.readControls := Calm.ite h (h.foldl fun _ _ ht => Calm.ite ht.readControl ht)

theorem Calm.engWrite (h : Calm s0 s) {a v : Nat} : Calm s0 (s.engWrite a v).2 := by
  unfold State.engWrite
  split
  · exact h.setWord
  · exact h.denyRecord

theorem Calm.engWrites (h : Calm s0 s) {a : Nat} {vs : List Nat} : Calm s0 (s.engWrites a vs).2 := by
  induction vs generalizing s a with
  | nil => exact h
  | cons v vs ih =>
    unfold State.engWrites
    extract_lets r
    have hr : Calm s0 r.2 := h.engWrite
    split
    · exact hr
    · exact ih hr

theorem Calm.blockGain (h : Calm s0 s) {w : List Nat} {x : Inst} {xs : List (List Int)} : Calm s0 (blockGain w s x xs).s := h

theorem Calm.blockBiquad (h : Calm s0 s) {d : Desc} {w : List Nat} {x : Inst} {xs : List (List Int)} : Calm s0 (blockBiquad d w s x xs).s := h

theorem Calm.blockFir (h : Calm s0 s) {d : Desc} {w : List Nat} {x : Inst} {xs : List (List Int)} : Calm s0 (blockFir d w s x xs).s := h

theorem Calm.blockDelay (h : Calm s0 s) {w : List Nat} {x : Inst} {xs : List (List Int)} : Calm s0 (blockDelay w s x xs).s := by
  unfold Machine.blockDelay
  extract_lets base len delay x0 i0 r run o
  have hr : Calm s0 r.2 := by
    refine Calm.foldl_on (fun b : _ × State => b.2) h fun a v ha => ?_
    split
    · exact ha
    · exact ha.engWrite
  have ho : Calm s0 o.2.2 := by
    refine Calm.foldl_on (fun b : _ × _ × State => b.2.2) hr fun a k ha => ?_
    extract_lets at_
    split
    · exact ha
    · split
      · exact ha.denyRecord
      · exact ha
  exact ho

theorem Calm.blockLimiter (h : Calm s0 s) {w : List Nat} {x : Inst} {xs : List Int} : Calm s0 (blockLimiter w s x xs).s := h

theorem Calm.blockCompressor (h : Calm s0 s) {w : List Nat} {x : Inst} {xs : List Int} : Calm s0 (blockCompressor w s x xs).s := h

theorem Calm.blockAgc (h : Calm s0 s) {w : List Nat} {x : Inst} {xs : List Int} : Calm s0 (blockAgc w s x xs).s := h

theorem Calm.blockNoise (h : Calm s0 s) {w : List Nat} {x : Inst} {xs : List (List Int)} : Calm s0 (blockNoise w s x xs).s := h

theorem Calm.blockAng (h : Calm s0 s) {w : List Nat} {aux : List Int} {x : Inst} {xs : List (List Int)} : Calm s0 (blockAng w aux s x xs).s :=
  h.engWrites

theorem Calm.blockAec (h : Calm s0 s) {d : Desc} {w : List Nat} {aux : List Int} {x : Inst} {xs : List (List Int)} :
    Calm s0 (blockAec d w aux s x xs).s :=
  h.engWrites

theorem Calm.blockTone (h : Calm s0 s) {w : List Nat} {x : Inst} {xs : List (List Int)} : Calm s0 (blockTone w s x xs).s := h

theorem Calm.clipCodes (h : Calm s0 s) {base : Nat} {is : List Nat} : Calm s0 (s.clipCodes base is).2.2 := by
  induction is generalizing s with
  | nil => exact h
  | cons i is ih =>
    unfold State.clipCodes
    extract_lets at_ r
    split
    · exact h.denyRecord
    · exact ih h

theorem Calm.blockClip (h : Calm s0 s) {d : Desc} {w : List Nat} {x : Inst} {xs : List (List Int)} :
    Calm s0 (Machine.blockClip d w s x xs).s := by
  unfold Machine.blockClip
  extract_lets g p len held p1 total have_ coef ends present xin codes dec alg r q q1 src je t pos u
  have hcodes : Calm s0 codes.2.2 := by
    unfold codes
    split
    · exact h
    · exact h.clipCodes
  have hr : Calm s0 r.2.2.2 := by
    refine Calm.foldl_on (fun b : _ × _ × _ × State => b.2.2.2) hcodes fun a v ha => ?_
    dsimp only
    split
    · exact ha
    · split
      · exact ha
      · split
        · split
          · exact ha.denyRecord
          · exact ha
        · exact ha
  have ht : Calm s0 t := Calm.ite hr.set hr
  show Calm s0 u.2
  unfold u
  split
  · exact ht
  · exact ht.engWrites

theorem Calm.blockEncoder (h : Calm s0 s) {w : List Nat} {x : Inst} {xs : List (List Int)} : Calm s0 (blockEncoder w s x xs).s := by
  unfold Machine.blockEncoder
  extract_lets g run n alg code r u
  have hr : Calm s0 r.2.2 := by
    refine Calm.foldl_on (fun b : _ × _ × State => b.2.2) h fun a k ha => ?_
    dsimp only
    split
    · exact ha
    · split
      · exact ha.denyRecord
      · exact ha.setByte
  change Calm s0 u.2
  unfold u
  split
  · exact hr
  · exact hr.engWrites

theorem Calm.blockMeter (h : Calm s0 s) {w : List Nat} {x : Inst} {xs : List (List Int)} : Calm s0 (blockMeter w s x xs).s := by
  unfold Machine.blockMeter
  extract_lets a quiet src l r
  have hr : Calm s0 r.2 := h.engWrites
  split
  · exact h
  · exact hr

theorem Calm.blockEnvelope (h : Calm s0 s) {w : List Nat} {x : Inst} {xs : List (List Int)} : Calm s0 (blockEnvelope w s x xs).s := h.set

theorem Calm.blockRun (h : Calm s0 s) {d : Desc} {w : List Nat} {aux : List Int} {x : Inst} {xs : List (List Int)} :
    Calm s0 (blockRun d w aux s x xs).s := by
  unfold Machine.blockRun
  dsimp only
  split
  · exact h.blockGain
  · exact h.blockBiquad
  · exact h.blockFir
  · exact h.blockDelay
  · exact h.blockLimiter
  · exact h.blockCompressor
  · exact h.blockAgc
  · exact h.blockAng
  · exact h.blockAec
  · exact h.blockNoise
  · exact h.blockTone
  · exact h.blockClip
  · exact h.blockClip
  · exact h.blockEncoder
  · exact h.blockMeter
  · exact h.blockEnvelope
  · exact h

theorem Calm.instRun (h : Calm s0 s) {d : Desc} {buses : Sparse (List Int)} : Calm s0 (s.instRun d buses).2 := by
  unfold State.instRun
  extract_lets w t xs o src
  have ht : Calm s0 t := h.runInit
  have ho : Calm s0 o.s := ht.blockRun
  split
  · exact h.engineFault
  · split
    · exact ho.engineFault
    · exact ho.setInst

theorem Calm.instsRun (h : Calm s0 s) {n : Nat} {ds : List Desc} {buses : Sparse (List Int)} : Calm s0 (s.instsRun n ds buses).2 := by
  induction ds generalizing s buses with
  | nil => exact h
  | cons d ds ih =>
    unfold State.instsRun
    extract_lets r
    have hr : Calm s0 r.2 := h.instRun
    split
    · exact hr
    · exact ih hr

theorem Calm.dropPeaks (h : Calm s0 s) {n : Nat} : Calm s0 (s.dropPeaks n) := h.set

theorem Calm.engineTick (h : Calm s0 s) {late : List EngLate} {n : Nat} : Calm s0 (s.engineTick late n) := by
  unfold State.engineTick
  extract_lets l missed ds hit stop r met t t1 src
  have hr : Calm s0 r.2 := h.instsRun
  have ht : Calm s0 t := by
    unfold t
    cases met with
    | none => exact hr
    | some f => exact hr.engineFault
  have ht1 : Calm s0 t1 := by
    unfold t1
    cases l with
    | none => exact ht
    | some e => exact ht.when fun _ hu => hu.put (by decide)
  split
  · exact h
  · split
    · exact ht1.dropPeaks
    · generalize missed = m
      cases m with
      | none => exact ht1.set
      | some k =>
        refine Calm.dropPeaks (Calm.raise (Calm.set (((Calm.bump ?_ (by decide)).put (by decide)).put (by decide))))
        cases ds[k]? with
        | none => exact ht1
        | some d => exact ht1.setInst

theorem Calm.stormCheck (h : Calm s0 s) : Calm s0 s.stormCheck := h.set.when fun _ hu => (hu.put (by decide)).fatal

theorem Calm.clipShort (h : Calm s0 s) : Calm s0 s.clipShort :=
  (h.each fun _ _ hu => hu.when fun _ hw => hw.bump (by decide)).set.when fun _ hu => hu.raise

theorem Calm.engineFaults (h : Calm s0 s) {faults : List EngFault} {ecc : List EccErr} : Calm s0 (s.engineFaults faults ecc) := by
  unfold State.engineFaults
  extract_lets t
  have ht : Calm s0 t := by
    refine h.foldl fun u f hu => ?_
    extract_lets cause src
    split
    · exact hu.set
    · exact hu.engineFault
  refine ht.foldl fun u e hu => ?_
  split
  · exact (hu.bump (by decide)).put (by decide)
  · exact hu

theorem Calm.enginesRun (h : Calm s0 s) {late : List EngLate} : Calm s0 (s.enginesRun late) :=
  (Calm.stormCheck (Calm.clipShort (h.set.foldl fun _ _ hu => hu.engineTick))).set

theorem Calm.enginesStop (h : Calm s0 s) : Calm s0 s.enginesStop := h.set

/-! #### Services -/

theorem Calm.svcWrite (h : Calm s0 s) {a : Nat} {ws : List Nat} : Calm s0 (s.svcWrite a ws) :=
  Calm.ite (h.foldl fun _ _ ht => ht.setWord) h.denyRecord

theorem Calm.svcRecord (h : Calm s0 s) {id outcome reason pos endCode other : Nat} : Calm s0 (s.svcRecord id outcome reason pos endCode other) := by
  unfold State.svcRecord
  extract_lets hd t t1
  have ht : Calm s0 t := h.svcWrite
  have ht1 : Calm s0 t1 := (ht.put (by decide)).bump (by decide)
  split
  · exact ht1.bump (by decide)
  · exact ht1.bump (by decide)
  · exact ht1.bump (by decide)
  · exact (((ht1.bump (by decide)).put (by decide)).put (by decide)).raise
  · exact (((ht1.bump (by decide)).put (by decide)).put (by decide)).raise
  · exact ht1

theorem Calm.refuse (h : Calm s0 s) {id : Word} {reason : Nat} : Calm s0 (s.refuse id reason) := h.svcRecord

theorem Calm.svcControl (h : Calm s0 s) {inst word : Nat} : Calm s0 (s.svcControl inst word) := by
  unfold State.svcControl
  extract_lets a q
  split
  · exact h
  · exact h.svcWrite

theorem Calm.callSet (h : Calm s0 s) {slot state console id : Nat} : Calm s0 (s.callSet slot state console id) :=
  (((h.put (by decide)).put (by decide)).put (by decide)).raise

theorem Calm.svcAct (h : Calm s0 s) {x : SvcAct} : Calm s0 (s.svcAct x) := by
  unfold State.svcAct
  split
  · exact Calm.ite h.svcRecord h.svcRecord.set
  · exact h.svcControl
  · exact h.callSet

theorem Calm.svcDo (h : Calm s0 s) {a : SvcAct} : Calm s0 (s.svcDo a) := h.set

theorem Calm.asReq (h : Calm s0 s) {id : Nat} {f : State → State} (hf : ∀ t, Calm s0 t → Calm s0 (f t)) : Calm s0 (s.asReq id f) :=
  (hf _ h.set).set

theorem Calm.endGrant (h : Calm s0 s) {g : Grant} {fade stop : Bool} {rec : SvcAct} : Calm s0 (s.endGrant g fade stop rec) := by
  unfold State.endGrant
  extract_lets p carried fades src t t1 t2
  have ht : Calm s0 t := h.set
  have ht1 : Calm s0 t1 := ht.svcDo
  have ht2 : Calm s0 t2 := Calm.ite (ht1.foldl fun _ _ ht' => ht'.svcDo) ht1
  split
  · exact ht2.svcDo
  · exact ht2

theorem Calm.preempt (h : Calm s0 s) {g : Grant} {fade : Bool} {other : Word} : Calm s0 (s.preempt g fade other) := h.endGrant

theorem Calm.duckRecords (h : Calm s0 s) : Calm s0 s.duckRecords := h.foldl fun _ _ ht => Calm.ite ht (Calm.svcDo ht.set)

theorem Calm.defer (h : Calm s0 s) {r : SvcReq} {call : Bool} {zs : List Nat} {forRes : Bool} {was : Option Waiting} :
    Calm s0 (s.defer r call zs forRes was) := by
  unfold State.defer
  extract_lets p pr before full lowest src t t1 out t2 src1 u pos v
  have ht : Calm s0 t := h.set
  have ht1 : Calm s0 t1 := h.set
  have ht2 : Calm s0 t2 := h.foldl fun _ _ hu => Calm.ite (Calm.svcDo hu.set) hu
  have hu : Calm s0 u := ht2.set
  have hv : Calm s0 v := hu.svcRecord
  split
  · exact ht.refuse.raise
  · split
    · exact ht1.when fun _ hu' => hu'.raise
    · exact hv.when fun _ hx => hx.raise

theorem Calm.grantNow (h : Calm s0 s) {r : SvcReq} {call : Bool} {preempted evicted : List Grant} {k : Option Nat} :
    Calm s0 (s.grantNow r call preempted evicted k) := by
  unfold State.grantNow
  extract_lets t t1 g p gs g1 src t2 t3
  have ht : Calm s0 t := h.foldl fun _ _ hu => hu.preempt
  have ht1 : Calm s0 t1 := ht.foldl fun _ _ hu => hu.preempt.bump (by decide)
  have ht2 : Calm s0 t2 := ht1.set
  have ht3 : Calm s0 t3 := ht2.svcDo
  exact Calm.duckRecords (ht3.foldl fun _ _ ht' => ht'.svcDo)

theorem Calm.decidePlay (h : Calm s0 s) {r : SvcReq} {was : Option Waiting} : Calm s0 (s.decidePlay r was) := by
  unfold State.decidePlay
  extract_lets p pr zs ans src drop waits hit left
  have hdrop : Calm s0 drop := h.set
  split
  · exact hdrop.refuse
  · split
    · exact h.defer
    · split
      · exact h.grantNow
      · exact hdrop.refuse
      · exact h.defer

theorem Calm.decideCall (h : Calm s0 s) {r : SvcReq} {was : Option Waiting} : Calm s0 (s.decideCall r was) := by
  unfold State.decideCall
  extract_lets src
  split
  · exact h.grantNow
  · exact Calm.refuse h.set
  · exact h.defer

theorem Calm.queuePass (h : Calm s0 s) : Calm s0 s.queuePass :=
  h.foldl fun _ _ ht => Calm.ite ht (ht.asReq fun _ hu => Calm.ite hu.decideCall hu.decidePlay)

theorem Calm.redecide (h : Calm s0 s) {n : Nat} : Calm s0 (s.redecide n) := by
  induction n generalizing s with
  | zero => exact h
  | succ n ih => exact Calm.ite (ih h.queuePass) h.queuePass

theorem Calm.thenQueue (h : Calm s0 s) {f : State → State} (hf : ∀ t, Calm s0 t → Calm s0 (f t)) : Calm s0 (s.thenQueue f) :=
  Calm.ite (hf s h) (Calm.ite (hf s h).redecide.duckRecords (hf s h).duckRecords)

theorem Calm.granted1 (h : Calm s0 s) {id : Word} : Calm s0 (s.granted1 id) := h.svcDo

theorem Calm.decideAnswer (h : Calm s0 s) {r : SvcReq} : Calm s0 (s.decideAnswer r) := by
  unfold State.decideAnswer
  extract_lets src
  split
  · exact h.refuse
  · exact h.set.granted1.svcDo

theorem Calm.dropLock (h : Calm s0 s) {l : Nat × Nat × Nat} : Calm s0 (s.dropLock l) := Calm.svcDo h.set

theorem Calm.decideUnlock (h : Calm s0 s) {r : SvcReq} : Calm s0 (s.decideUnlock r) := by
  unfold State.decideUnlock
  split
  · exact h.refuse
  · exact h.granted1.dropLock

theorem Calm.decideRelease (h : Calm s0 s) {r : SvcReq} : Calm s0 (s.decideRelease r) := by
  unfold State.decideRelease
  extract_lets t src
  have ht : Calm s0 t := h.granted1
  split
  · exact ht.endGrant
  · exact Calm.ite (Calm.svcDo ht.set) h.decideUnlock

theorem Calm.decideLock (h : Calm s0 s) {r : SvcReq} : Calm s0 (s.decideLock r) :=
  Calm.ite h.refuse (Calm.granted1 (h.foldl fun _ _ ht => ht.dropLock).set)

theorem Calm.decideGood (h : Calm s0 s) {ty : Nat} {r : SvcReq} : Calm s0 (s.decideGood ty r) := by
  unfold State.decideGood
  extract_lets p x
  split
  · exact Calm.ite h.refuse (h.thenQueue fun _ hx => hx.decidePlay)
  · split
    · exact Calm.ite h.refuse (h.thenQueue fun _ hx => hx.decideCall)
    · split
      · exact h.decideAnswer
      · split
        · exact h.thenQueue fun _ hx => hx.decideRelease
        · exact Calm.ite (h.thenQueue fun _ hx => hx.decideLock) (h.thenQueue fun _ hx => hx.decideUnlock)

theorem Calm.decideReq (h : Calm s0 s) {ty : Nat} {r : SvcReq} : Calm s0 (s.decideReq ty r) :=
  Calm.ite h.refuse (Calm.ite h.refuse (h.asReq fun _ ht => ht.decideGood))

theorem Calm.svcEffect (h : Calm s0 s) : Calm s0 s.svcEffect := h.set.foldl fun _ _ ht => ht.svcAct

theorem Calm.svcRejected (h : Calm s0 s) : Calm s0 s.svcRejected := Calm.duckRecords (h.set.foldl fun _ _ hu => hu.refuse)

theorem Calm.svcStart (h : Calm s0 s) : Calm s0 s.svcStart := h.set

theorem Calm.svcPublish (h : Calm s0 s) : Calm s0 s.svcPublish := by
  unfold State.svcPublish
  extract_lets p gs live locked t t1 t2
  have ht : Calm s0 t := (h.put (by decide)).put (by decide)
  have ht1 : Calm s0 t1 := (ht.put (by decide)).put (by decide)
  have ht2 : Calm s0 t2 := (ht1.put (by decide)).put (by decide)
  refine ht2.each fun u z hu => ?_
  exact (((((hu.put (by decide)).put (by decide)).put (by decide)).put (by decide)).put (by decide)).put (by decide)

theorem Calm.svcFades (h : Calm s0 s) : Calm s0 s.svcFades := Calm.ite h.set h

theorem Calm.svcDone (h : Calm s0 s) {test : Grant → Bool} : Calm s0 (s.svcDone test) := h.foldl fun _ _ ht => ht.thenQueue fun _ hu => hu.endGrant

theorem Calm.svcAng (h : Calm s0 s) : Calm s0 s.svcAng := h.foldl fun _ _ ht => Calm.ite ht (Calm.svcControl ht.set)

theorem Calm.noteTaken (h : Calm s0 s) {w : List Nat} : Calm s0 (s.noteTaken w) := Calm.ite h.set h

theorem Calm.svcTake (h : Calm s0 s) {n : Nat} : Calm s0 (s.svcTake n) := by
  induction n generalizing s with
  | zero => exact h
  | succ n ih =>
    unfold State.svcTake
    extract_lets hd a t w r
    split
    · exact h
    · have ht : Calm s0 t := h.put (by decide)
      exact Calm.ite (ih ht.denyRecord) (ih ht.noteTaken.decideReq)

/-! #### Pair -/

theorem Calm.wantRole (h : Calm s0 s) {r : Role} {cause : Nat} : Calm s0 (s.wantRole r cause) := h.set

theorem Calm.partnerGone (h : Calm s0 s) {cause : Nat} : Calm s0 (s.partnerGone cause) := by
  unfold State.partnerGone
  split
  · exact Calm.ite h.wantRole (Calm.ite h.wantRole h)
  · exact Calm.ite h h.wantRole
  · exact h.wantRole
  · exact h

theorem Calm.lostCheck (h : Calm s0 s) : Calm s0 s.lostCheck := Calm.ite h (h.set.put (by decide)).raise.partnerGone

theorem Calm.seatRest (h : Calm s0 s) : Calm s0 s.seatRest := (h.put (by decide)).put (by decide)

theorem Calm.seatAbort (h : Calm s0 s) {cause : Nat} : Calm s0 (s.seatAbort cause) := ((h.set.put (by decide)).bump (by decide)).seatRest.raise

theorem Calm.braceDown (h : Calm s0 s) : Calm s0 s.braceDown :=
  Calm.ite h (((h.put (by decide)).set.raise.when fun _ hu => hu.seatAbort).when fun _ hu => hu.wantRole).lostCheck

/-! #### Plls -/

theorem Calm.pllsShow (h : Calm s0 s) {gate : Bool} : Calm s0 (s.pllsShow gate) := by
  unfold State.pllsShow
  extract_lets was now t t1 t2
  have ht1 : Calm s0 t1 := (((h.put (by decide)).put (by decide)).put (by decide)).put (by decide)
  have ht2 : Calm s0 t2 := ht1.when fun _ hu => Calm.raise (hu.when fun _ hv => (hv.put (by decide)).bump (by decide))
  split
  · exact ht2.putGated (by decide)
  · split
    · exact Calm.braceDown (Calm.each (ht2.putGated (by decide)) fun _ _ hv => hv.linkDown)
    · exact ht2

theorem Calm.setVco (h : Calm s0 s) {k v : Nat} : Calm s0 (s.setVco k v) := h.setPlls

theorem Calm.pllsPower (h : Calm s0 s) : Calm s0 s.pllsPower :=
  (((h.put (by decide)).put (by decide)).foldl fun _ _ hu => Calm.ite hu hu.setVco).pllsShow

theorem Calm.shim (h : Calm s0 s) {n : Int} : Calm s0 (s.shim n) := by
  unfold State.shim
  exact Calm.put (Calm.setPlls h) (by decide)

/-! #### Commit -/

theorem Calm.commitTick (h : Calm s0 s) : Calm s0 s.commitTick := h.put (by decide)

theorem Calm.anCommit (h : Calm s0 s) {old : State} {p : Nat} : Calm s0 (s.anCommit old p) := by
  unfold State.anCommit
  extract_lets t
  have ht : Calm s0 t := (h.put (by decide)).put (by decide)
  exact Calm.ite h (Calm.ite h.linkDown (Calm.ite ht (ht.put (by decide)).linkPass))

theorem Calm.macCommit (h : Calm s0 s) {old : State} : Calm s0 (s.macCommit old) :=
  (Calm.t1sLinks (h.each fun _ _ hu => Calm.ite hu.linkDown hu.anCommit)).each fun _ _ hu => Calm.ite hu hu.plcaStop

theorem Calm.braceCommit (h : Calm s0 s) {old : State} : Calm s0 (s.braceCommit old) := Calm.ite h (h.set.put (by decide))

theorem Calm.commitWork (h : Calm s0 s) {old : State} {pages : List Nat} {cut : Option Cut} : Calm s0 (s.commitWork old pages cut) := by
  unfold State.commitWork
  extract_lets has any t t1 t2 t3 t4 t5 t6 t7 t8 t9 t10 t11 t12 t13 t14 t15 t16
  have ht : Calm s0 t := h.engineCommit.mixCommit
  have ht1 : Calm s0 t1 := ht.when fun _ hu => hu.spCommitAll
  have ht2 : Calm s0 t2 := ht1.when fun _ hu => hu.plumbCommit
  have ht3 : Calm s0 t3 := ht2.when fun _ hu => hu.clkoutCommit
  have ht4 : Calm s0 t4 := ht3.when fun _ hu => hu.braceCommit
  have ht5 : Calm s0 t5 := ht4.when fun _ hu => hu.macCommit.effAll
  have ht6 : Calm s0 t6 := ht5.when fun _ ht' => ht'.pllsPower
  have ht7 : Calm s0 t7 := ht6.when fun _ ht' => ht'.hostPoll
  have ht8 : Calm s0 t8 := ht7.when fun _ hu => hu.put (by decide)
  have ht9 : Calm s0 t9 := ht8.when fun _ hu => hu.effAll.tasAll
  have ht10 : Calm s0 t10 := ht9.when fun _ ht' => ht'.ptpRefresh
  have ht11 : Calm s0 t11 := ht10.when fun _ hu => hu.asrcCommit
  have ht12 : Calm s0 t12 := ht11.when fun _ hu => hu.admission
  have ht13 : Calm s0 t13 := ht12.when fun _ hu => hu.acmpOverride
  have ht14 : Calm s0 t14 := ht13.when fun _ hu => hu.each fun _ _ ht' => ht'.bstCommit
  have ht15 : Calm s0 t15 := ht14.each fun _ _ hu => hu.when fun _ hv => hv.pchCommit
  have ht16 : Calm s0 t16 := ht15.when fun _ hu => hu.ntcCommit
  exact ht16.when fun _ hu => hu.diagCommit

/-! #### Brace -/

theorem Calm.compareAt (h : Calm s0 s) {tick : Nat} : Calm s0 (s.compareAt tick) := by
  unfold State.compareAt
  extract_lets src t
  have ht : Calm s0 t := h.set
  split
  · extract_lets t t1 run t2 t3 u
    have ht' : Calm s0 t := ((ht.put (by decide)).put (by decide)).put (by decide)
    have ht1 : Calm s0 t1 := ht'.put (by decide)
    have ht2 : Calm s0 t2 := (ht1.bump (by decide)).when fun _ hu => hu.put (by decide)
    have ht3 : Calm s0 t3 := ht2.put (by decide)
    have hu : Calm s0 u := ((ht3.put (by decide)).bump (by decide)).raise
    exact Calm.ite h (Calm.ite (ht1.put (by decide)) (Calm.ite ht3 (Calm.ite hu.wantRole hu)))
  · exact h

theorem Calm.digestTick (h : Calm s0 s) {outs : Sparse (List Int)} : Calm s0 (s.digestTick outs) := Calm.ite h (Calm.compareAt h.set)

theorem Calm.clearLacks (h : Calm s0 s) {l : Lacks} {tick : Nat} : Calm s0 (s.clearLacks l tick) :=
  (h.foldl fun _ _ hu => Calm.ite hu.setByte hu).foldl fun _ _ hu => Calm.ite hu.setWord hu

theorem Calm.agree (h : Calm s0 s) : Calm s0 s.agree := by
  unfold State.agree
  extract_lets src src1 t
  have hsrc1 : Calm s0 src1 := h.bump (by decide)
  have ht : Calm s0 t := by
    unfold t
    split
    · exact h.clearLacks.set
    · exact hsrc1.set
  exact Calm.ite h (Calm.ite h.earlyPasses ht.earlyPasses)

theorem Calm.mirrorClear (h : Calm s0 s) : Calm s0 s.mirrorClear := h.set

theorem Calm.braceTx (h : Calm s0 s) : Calm s0 s.braceTx := by
  unfold State.braceTx
  extract_lets src t active N f src1
  have ht : Calm s0 t := Calm.when h.set fun _ ht => ht.mirrorClear
  exact Calm.ite h (Calm.ite ht (Calm.send ht.set))

theorem Calm.setRelay (h : Calm s0 s) {k : Nat} {x : RelayHid} : Calm s0 (s.setRelay k x) := h.set

theorem Calm.relayRest (h : Calm s0 s) {k : Nat} : Calm s0 (s.relayRest k) := Calm.ite h (h.setRelay.put (by decide))

theorem Calm.seatFlush (h : Calm s0 s) : Calm s0 s.seatFlush := Calm.send h.set

theorem Calm.enginesClear (h : Calm s0 s) : Calm s0 s.enginesClear := h.each fun _ _ ht => (ht.put (by decide)).put (by decide)

/-! #### Modes -/

theorem Calm.follow (h : Calm s0 s) : Calm s0 s.follow := h.spRefreshAll.txStates.ptpRefresh

theorem Calm.netStart (h : Calm s0 s) : Calm s0 s.netStart := h.macCommit.effAll.admission.seatRest.pllsPower.hostPoll

theorem Calm.runEnter (h : Calm s0 s) : Calm s0 s.runEnter := (h.set.when fun _ ht => ht.netStart).mixStart.follow.armAll.railsEval

/-! #### HostPath -/

theorem Calm.ocdorSend (h : Calm s0 s) {k : Nat} {to' : Peer} {op seq status addr : Nat} {data : List Nat} :
    Calm s0 (s.ocdorSend k to' op seq status addr data) :=
  h.slotCount.submit

theorem Calm.eventFrames (h : Calm s0 s) : Calm s0 s.eventFrames := Calm.ite h (h.each fun _ _ ht => Calm.ite ht ht.setSlot.ocdorSend)

/-! #### Tick -/

theorem Calm.feedAll (h : Calm s0 s) : Calm s0 s.feedAll := h.each fun _ _ ht => ht.feedPush

theorem Calm.startNow (h : Calm s0 s) : Calm s0 s.startNow := Calm.ite h.runEnter h

end

/-! ### Lists of writes -/

/-- A write read at the same key, where both places reset alike. -/
theorem State.get_put_of_key (s : State) {f : Fld} {i j i' j' : Nat} (v : Nat) (hk : f.key i j = f.key i' j')
    (hr : f.resetAt i = f.resetAt i') : (s.put f v i j).get f i' j' = v % 2 ^ f.width := by
  have hsame : (s.put f v i j).get f i' j' = (s.put f v i j).get f i j := by
    unfold State.get
    rw [hk, hr]
  rw [hsame, State.get_put_same]

section
variable {α : Type} (f : α → Fld) (v i j : α → Nat)

/-- A list of writes, done in order. -/
def State.putAll (s : State) (l : List α) : State := l.foldl (fun t x => t.put (f x) (v x) (i x) (j x)) s

/-- Writes change only registers. -/
theorem State.putAll_eq (s : State) (l : List α) : s.putAll f v i j l = { s with regs := (s.putAll f v i j l).regs } := by
  induction l generalizing s with
  | nil => rfl
  | cons x l ih => exact ih _

theorem State.get_putAll_ne (s : State) (l : List α) {g : Fld} {i' j' : Nat} (hk : ∀ x ∈ l, (f x).key (i x) (j x) ≠ g.key i' j') :
    (s.putAll f v i j l).get g i' j' = s.get g i' j' := by
  induction l generalizing s with
  | nil => rfl
  | cons x l ih =>
    rw [← s.get_put_key (v x) (hk x List.mem_cons_self)]
    exact ih _ fun y hy => hk y (List.mem_cons_of_mem _ hy)

/-- What a list of writes leaves where one of them goes, when each that goes there writes the same. -/
theorem State.get_putAll (s : State) (l : List α) (x : α)
    (hx : x ∈ l ∨ s.get (f x) (i x) (j x) = v x % 2 ^ (f x).width)
    (hsame : ∀ y ∈ l, (f y).key (i y) (j y) = (f x).key (i x) (j x) →
      f y = f x ∧ v y = v x ∧ (f x).resetAt (i y) = (f x).resetAt (i x)) :
    (s.putAll f v i j l).get (f x) (i x) (j x) = v x % 2 ^ (f x).width := by
  induction l generalizing s with
  | nil => exact hx.resolve_left List.not_mem_nil
  | cons y l ih =>
    refine ih (s.put (f y) (v y) (i y) (j y)) ?_ fun z hz => hsame z (List.mem_cons_of_mem _ hz)
    by_cases hk : (f y).key (i y) (j y) = (f x).key (i x) (j x)
    · obtain ⟨hf, hv, hr⟩ := hsame y List.mem_cons_self hk
      rw [hf] at hk ⊢
      rw [hv]
      exact .inr (State.get_put_of_key s (v x) hk hr)
    · rcases hx with hx | hx
      · exact .inl ((List.mem_cons.1 hx).resolve_left fun h => hk (h ▸ rfl))
      · exact .inr ((s.get_put_key (v y) hk).trans hx)

end

/-- The shadow written over the values in force (R62). -/
theorem State.withShadow_eq_putAll (s : State) (pages : List Nat) :
    s.withShadow pages = s.putAll Pend.f Pend.v Pend.i Pend.j (pages.flatMap s.pendOf) := rfl

/-! ### A commit rejected (R67) -/

theorem Calm.flag {s t : State} (h : Calm s t) {f : Fld} (hf : f ∈ reportFlds) (i j : Nat) : t.flag f i j = s.flag f i j := by
  unfold State.flag
  rw [h.report f hf]

/-- The report of a rejected commit: its reason and page, its pages marked, and EV_COMMIT_REJECTED; the queue and every shadow stay. -/
structure Rejection (c : Commit) (f : Fail) (s t : State) : Prop where
  queue : t.queue = s.queue
  shadow : t.shadow = s.shadow
  win : t.win = s.win
  marked : ∀ p ∈ c.pages, t.flag R.PG_SHADOW_REJECTED p = true
  notOk : t.flag R.SYS_COMMIT_STATUS_LAST_OK = false
  reason : t.get R.SYS_COMMIT_STATUS_REASON = f.1.1 % 2 ^ R.SYS_COMMIT_STATUS_REASON.width
  page : t.get R.SYS_COMMIT_STATUS_PAGE = f.2 % 2 ^ R.SYS_COMMIT_STATUS_PAGE.width
  raised : t.sticky EV_COMMIT_REJECTED = true

theorem Rejection.calm {c : Commit} {f : Fail} {s t u : State} (h : Rejection c f s t) (hc : Calm t u) : Rejection c f s u where
  queue := hc.queue.trans h.queue
  shadow := hc.shadow.trans h.shadow
  win := hc.win.trans h.win
  marked p hp := (hc.flag (by simp [reportFlds]) p 0).trans (h.marked p hp)
  notOk := (hc.flag (by simp [reportFlds]) 0 0).trans h.notOk
  reason := (hc.report _ (by simp [reportFlds]) 0 0).trans h.reason
  page := (hc.report _ (by simp [reportFlds]) 0 0).trans h.page
  raised := hc.sticky _ h.raised

theorem State.commitRejected_rejection (s : State) (c : Commit) (f : Fail) : Rejection c f s (s.commitRejected c f) := by
  unfold State.commitRejected
  extract_lets t t1 t2 t3 t4
  have hmarks : t = s.putAll (fun _ => R.PG_SHADOW_REJECTED) (fun _ => 1) id (fun _ => 0) c.pages := rfl
  have hmarked (p : Nat) (hp : p ∈ c.pages) : t.get R.PG_SHADOW_REJECTED p = 1 := by
    rw [hmarks]
    exact s.get_putAll (fun _ => R.PG_SHADOW_REJECTED) (fun _ => 1) id (fun _ => 0) c.pages p (.inl hp) fun q _ _ => ⟨rfl, rfl, rfl⟩
  have hother : t = { s with regs := t.regs } := by
    rw [hmarks]
    exact s.putAll_eq _ _ _ _ _
  have h2 : Calm t1 t2 := Calm.when (Calm.refl t1) fun _ h => ((h.put (by decide)).put (by decide)).raise
  have h3 : Calm t1 t3 := h2.raise
  have h4 : Calm t3 (t4.acmpDone c.pages false) := Calm.acmpDone (Calm.when (Calm.refl t3) fun _ h => h.svcRejected)
  have hget {g : Fld} (hg : ∀ h ∈ [R.SYS_COMMIT_STATUS_REASON, R.SYS_COMMIT_STATUS_PAGE, R.SYS_COMMIT_STATUS_LAST_OK, R.SYS_COMMIT_TICK_TICK],
      h.base ≠ g.base) (i j : Nat) : t1.get g i j = t.get g i j := by
    simp only [t1, State.commitTick]
    rw [State.get_put_ne _ _ _ _ _ _ (hg _ (by simp)), State.get_put_ne _ _ _ _ _ _ (hg _ (by simp)),
      State.get_put_ne _ _ _ _ _ _ (hg _ (by simp)), State.get_put_ne _ _ _ _ _ _ (hg _ (by simp))]
  refine Rejection.calm ⟨?_, ?_, ?_, fun p hp => ?_, ?_, ?_, ?_, t2.sticky_raise_same _⟩ h4
  · exact h3.queue.trans (congrArg State.queue hother :)
  · exact h3.shadow.trans (congrArg State.shadow hother :)
  · exact h3.win.trans (congrArg State.win hother :)
  · rw [h3.flag (by simp [reportFlds]), State.flag, hget (by decide), hmarked p hp]
    rfl
  · rw [h3.flag (by simp [reportFlds]), State.flag]
    simp only [t1, State.commitTick]
    rw [State.get_put_ne _ _ _ _ _ _ (by decide), State.get_put_same]
    rfl
  · rw [h3.report _ (by simp [reportFlds])]
    simp only [t1, State.commitTick]
    rw [State.get_put_ne _ _ _ _ _ _ (by decide), State.get_put_ne _ _ _ _ _ _ (by decide), State.get_put_ne _ _ _ _ _ _ (by decide),
      State.get_put_same]
  · rw [h3.report _ (by simp [reportFlds])]
    simp only [t1, State.commitTick]
    rw [State.get_put_ne _ _ _ _ _ _ (by decide), State.get_put_ne _ _ _ _ _ _ (by decide), State.get_put_same]

/-! ### A commit in force (R65, R66) -/

/-- The report of a commit in force: reason NONE, LAST_OK and EV_COMMIT_DONE; the queue and every shadow stay. -/
structure Completion (s t : State) : Prop where
  queue : t.queue = s.queue
  shadow : t.shadow = s.shadow
  win : t.win = s.win
  reason : t.get R.SYS_COMMIT_STATUS_REASON = 0
  ok : t.flag R.SYS_COMMIT_STATUS_LAST_OK = true
  raised : t.sticky EV_COMMIT_DONE = true

theorem Completion.calm {s t u : State} (h : Completion s t) (hc : Calm t u) : Completion s u where
  queue := hc.queue.trans h.queue
  shadow := hc.shadow.trans h.shadow
  win := hc.win.trans h.win
  reason := (hc.report _ (by simp [reportFlds]) 0 0).trans h.reason
  ok := (hc.flag (by simp [reportFlds]) 0 0).trans h.ok
  raised := hc.sticky _ h.raised

theorem State.commitDone_completion (s : State) (c : Commit) : Completion s (s.commitDone c) := by
  unfold State.commitDone
  extract_lets t t1
  have h1 : Calm t t1 := (Calm.refl t).raise
  have h2 : Calm t1 ((t1.when c.service State.svcEffect).acmpDone c.pages true) :=
    Calm.acmpDone (Calm.when (Calm.refl t1) fun _ h => h.svcEffect)
  refine Completion.calm ⟨h1.queue, h1.shadow, h1.win, ?_, ?_, t.sticky_raise_same _⟩ h2
  · rw [h1.report _ (by simp [reportFlds])]
    simp only [t, State.commitTick]
    rw [State.get_put_ne _ _ _ _ _ _ (by decide), State.get_put_ne _ _ _ _ _ _ (by decide), State.get_put_ne _ _ _ _ _ _ (by decide),
      State.get_put_same]
    rfl
  · rw [h1.flag (by simp [reportFlds]), State.flag]
    simp only [t, State.commitTick]
    rw [State.get_put_ne _ _ _ _ _ _ (by decide), State.get_put_same]
    rfl

/-! ### Entry into SAFE (R459) -/

/-- What entry into SAFE does once the commits are rejected. -/
def State.safeRest (s : State) : State :=
  let t := s.entityDeparting
  let t := t.when t.seating (fun u => u.seatAbort 4)
  let t := t.when (t.paired && t.role != .seating) (fun u =>
    { u with brace := { u.brace with want := [] } }.setRole .seating (if u.role = Role.active then 3 else 11))
  let t := t.enginesStop.svcStop.svcPublish.diagAbort
  t.follow.stopAll.railsEval

theorem State.safeEnter_due {s : State} (hw : s.safeWait = true) :
    s.safeEnter = ({ s with dev := .safe, safeWait := false, op := .none } : State).rejectAll.safeRest := by
  unfold State.safeEnter
  rw [hw]
  rfl

section
variable {s0 s : State}

/-- A change of role: only a cold start's restore or the end of a round, in its middle, reaches what the rest leaves. -/
theorem State.setRole_calm (s : State) (new : Role) (cause : Nat) :
    ∃ u, Calm s u ∧ Calm (if new = .coldStart then u.coldBegin else u.seatRest) (s.setRole new cause) := by
  unfold State.setRole
  extract_lets old src t t1 t2 t3 t4 t5 t6 t7 t8
  refine ⟨t3, ?_, ?_⟩
  · have ht1 : Calm s t1 := (((Calm.refl s).set.put (by decide)).put (by decide)).put (by decide)
    have ht2 : Calm s t2 := ((ht1.put (by decide)).put (by decide)).bump (by decide)
    exact ht2.raise
  · have ht5 : Calm t4 t5 := (Calm.refl t4).when fun _ hu => hu.mixStart
    have ht7 : Calm t4 t7 := Calm.when ht5.txStates.ptpRefresh.muteAll fun _ hu => hu.put (by decide)
    have ht8 : Calm t4 t8 := ht7.when fun _ hu => hu.entityAvailable
    exact ht8.when fun _ hu => hu.each fun _ _ hw => Calm.ite hw.setRelay hw

/-- A change of role that is no cold start brings no seat back. -/
theorem Calm.setRole (h : Calm s0 s) {new : Role} {cause : Nat} (hn : new ≠ .coldStart) : Calm s0 (s.setRole new cause) := by
  obtain ⟨u, hu, ht⟩ := s.setRole_calm new cause
  rw [if_neg hn] at ht
  exact (h.trans hu).seatRest.trans ht

/-- Away from READY the services stop without a commit of their own. -/
theorem Calm.svcStop (h : Calm s0 s) (hd : s.dev ≠ .ready) : Calm s0 s.svcStop := by
  unfold State.svcStop
  extract_lets ended calls src t u u1
  split
  · exact h
  · rw [if_neg (by simpa using hd)]
    exact Calm.foldl (Calm.set h.set) fun _ _ hu => hu.callSet

end

theorem State.safeRest_mode (s : State) : KeepsMode s s.safeRest :=
  State.railsEval_closed mode_closed (State.stopAll_closed mode_closed (State.follow_closed mode_closed
    (State.diagAbort_closed mode_closed (State.svcPublish_closed mode_closed (State.svcStop_closed mode_closed
      (State.enginesStop_closed mode_closed (mode_closed.when (mode_closed.when
        (State.entityDeparting_closed mode_closed (mode_closed.refl s)) fun _ h => State.seatAbort_closed mode_closed h)
        fun _ h => State.setRole_closed mode_closed (mode_closed.set h))))))))

theorem State.safeRest_calm (s : State) (hd : s.dev ≠ .ready) : Calm s s.safeRest := by
  unfold State.safeRest
  extract_lets t t1 t2 t3
  have hdev : t2.enginesStop.dev ≠ .ready := by
    have hm : KeepsMode s t2.enginesStop := State.enginesStop_closed mode_closed (mode_closed.when (mode_closed.when
      (State.entityDeparting_closed mode_closed (mode_closed.refl s)) fun _ h => State.seatAbort_closed mode_closed h)
      fun _ h => State.setRole_closed mode_closed (mode_closed.set h))
    rwa [hm.dev]
  have ht1 : Calm s t1 := Calm.when (Calm.refl s).entityDeparting fun _ hu => hu.seatAbort
  have ht2 : Calm s t2 := ht1.when fun _ hu => Calm.setRole hu.set (by decide)
  exact (((ht2.enginesStop.svcStop hdev).svcPublish.diagAbort).follow.stopAll).railsEval

/-- SAFE is no longer due once it is entered. -/
theorem State.safeEnter_entered {s : State} (hw : s.safeWait = true) : s.safeEnter.safeWait = false := by
  rw [State.safeEnter_due hw]
  refine Bool.eq_false_iff.2 fun ht => ?_
  have hm := State.rejectAll_closed mode_closed (mode_closed.refl { s with dev := .safe, safeWait := false, op := .none })
  exact ((hm.trans (State.safeRest_mode _)).safeWait ht).elim Bool.noConfusion Dev.noConfusion

/-- Entry into SAFE rejects the one commit that is in the queue. -/
theorem State.safeEnter_rejects {s : State} {c : Commit} (hw : s.safeWait = true) (hq : s.queue = [c]) :
    ∃ u, u.queue = [] ∧ Rejection c ((STATE_REASON, 0), (c.pages.min?).getD 0) u s.safeEnter := by
  let v : State := { s with dev := .safe, safeWait := false, op := .none }
  have hrej : v.rejectAll = { v.mixBack with queue := [] }.commitRejected c ((STATE_REASON, 0), (c.pages.min?).getD 0) := by
    unfold State.rejectAll
    rw [show v.queue = [c] from hq]
    rfl
  have hdev : v.rejectAll.dev = .safe := (State.rejectAll_closed mode_closed (mode_closed.refl v)).dev_eq rfl
  refine ⟨{ v.mixBack with queue := [] }, rfl, ?_⟩
  rw [State.safeEnter_due hw]
  refine Rejection.calm ?_ (State.safeRest_calm _ (by rw [hdev]; decide))
  rw [hrej]
  exact State.commitRejected_rejection _ _ _

/-! ### The commits of a boundary -/

/-- Results that come with no commit in the queue wait for theirs. -/
theorem State.takeResults_noQueue {s : State} (hq : s.queue = []) : Calm s s.takeResults := by
  unfold State.takeResults
  refine Calm.foldl (Calm.refl s).set fun u w hu => ?_
  split
  · exact hu.set
  next hfind =>
    rw [hu.queue.trans hq] at hfind
    simp at hfind

theorem State.takeResults_none {s : State} (hr : s.brace.results = []) : s.takeResults = s := by
  unfold State.takeResults
  rw [hr]
  show { s with brace := { s.brace with results := [] } } = s
  rw [← hr]

theorem State.takeCommits_noQueue {s : State} (hq : s.queue = []) : s.takeCommits = s := by
  unfold State.takeCommits State.dueAt
  rw [hq]
  rfl

/-- One commit in the queue, due at the tick that begins. -/
theorem State.takeCommits_one {s : State} {c : Commit} (hq : s.queue = [c]) (hp : c.phase = .scheduled s.tg) :
    s.takeCommits = (({ (s.withShadow c.pages).dropShadow c.pages with queue := [] }).commitWork s c.pages c.cut).commitDone c := by
  have hdue : s.dueAt s.tg = [c] := by simp [State.dueAt, hq, hp]
  have hcut : [c].findSome? (fun x : Commit => x.cut) = c.cut := by
    cases hc : c.cut <;> simp [hc]
  unfold State.takeCommits
  rw [hdue]
  simp [hq, hp, hcut]

theorem State.boundaryPart_kerf {s : State} (f : State → State) (ht : s.ticking = true) (hw : s.win = .kerf) :
    s.boundaryPart f = s.atBoundary f := by
  have hd : s.deadline [] = s := by
    have hopen : s.windowOpen [] [] = s := by
      unfold State.windowOpen
      rw [if_pos (by rw [hw]; decide)]
    unfold State.deadline
    rw [hopen]
    exact if_pos (by rw [hw]; decide)
  unfold State.boundaryPart
  rw [if_pos ht, hd]

/-- A commit that takes effect at the tick that begins (R65). -/
theorem execCommitTakeEffect_one {s b : State} {c : Commit} (hq : s.queue = [c]) (hp : c.phase = .scheduled (s.tg + 1))
    (ht : s.ticking = true) (hw : s.win = .kerf) (hs : s.safeWait = false) (hr : s.brace.results = [])
    (hb : b = { s with tg := s.tg + 1, tickNum := (s.tickNum + 1) % 2 ^ 48 }) :
    exec .commitTakeEffect s = .next
      { ((({ (b.withShadow c.pages).dropShadow c.pages with queue := [] }).commitWork b c.pages c.cut).commitDone c) with
        tg := s.tg, tickNum := s.tickNum } := by
  have hbound : b.boundaryCommits = b.takeCommits := by
    unfold State.boundaryCommits
    rw [State.safeEnter_idle b (by rw [hb]; exact hs), State.takeResults_none (by rw [hb]; exact hr)]
  have htake := State.takeCommits_one (s := b) (c := c) (by rw [hb]; exact hq) (by rw [hb]; exact hp)
  show execCommitTakeEffect s = _
  rw [execCommitTakeEffect, State.boundaryPart_kerf _ ht hw, State.atBoundary, ← hb, hbound, htake]

/-- The shadow of a page that is taken is empty. -/
theorem State.pendOf_dropShadow (s : State) {pages : List Nat} {p : Nat} (hp : p ∈ pages) : (s.dropShadow pages).pendOf p = [] := by
  unfold State.pendOf State.dropShadow
  rw [List.filter_filter, List.map_eq_nil_iff, List.filter_eq_nil_iff]
  intro e _ h
  obtain ⟨hpage, hkept⟩ := Bool.and_eq_true_iff.1 h
  rw [eq_of_beq hpage] at hkept
  simp [hp] at hkept

/-- SAFE comes before a commit due at the same boundary, and rejects it (R459). -/
theorem execCommitTakeEffect_safe {s : State} {c : Commit} (hq : s.queue = [c]) (ht : s.ticking = true) (hw : s.win = .kerf)
    (hs : s.safeWait = true) :
    ∃ t, exec .commitTakeEffect s = .next t ∧ t.dev = .safe ∧ t.queue = [] ∧ t.sticky EV_COMMIT_REJECTED = true ∧
      ∀ p ∈ c.pages, t.flag R.PG_SHADOW_REJECTED p = true := by
  let b : State := { s with tg := s.tg + 1, tickNum := (s.tickNum + 1) % 2 ^ 48 }
  obtain ⟨u, hu, hrej⟩ := State.safeEnter_rejects (s := b) (c := c) hs hq
  have hnone : b.safeEnter.queue = [] := hrej.queue.trans hu
  have hres : Calm b.safeEnter b.safeEnter.takeResults := State.takeResults_noQueue hnone
  have hbound : b.boundaryCommits = b.safeEnter.takeResults := State.takeCommits_noQueue (hres.queue.trans hnone)
  have hall : Rejection c ((STATE_REASON, 0), (c.pages.min?).getD 0) u b.boundaryCommits := hbound ▸ hrej.calm hres
  refine ⟨{ b.boundaryCommits with tg := s.tg, tickNum := s.tickNum }, ?_, ?_, hall.queue.trans hu, hall.raised, hall.marked⟩
  · show execCommitTakeEffect s = _
    rw [execCommitTakeEffect, State.boundaryPart_kerf _ ht hw]
    rfl
  · exact b.boundaryCommits_keeps.dev_eq (b.safeEnter_safe hs).1

theorem State.nextQueued_one {s : State} {c : Commit} (hq : s.queue = [c]) (hp : c.phase = .queued) : s.nextQueued = some (c, 0) := by
  unfold State.nextQueued
  rw [hq]
  simp [hp]

/-- Validation rejects the one commit that waits. -/
theorem execCommitValidated_error {s : State} {c : Commit} {f : Fail} (hq : s.queue = [c]) (hp : c.phase = .queued)
    (ha : s.awaits c = false) (hu : s.unacked c = false) (hd : s.dev ≠ .off) (hv : s.validate c = .error f) :
    ∃ t, exec .commitValidated s = .next t ∧ Rejection c f { s with queue := [] } t := by
  have hres : s.commitResult 0 c (.error f) (s.tg + 2) = { s with queue := [] }.commitRejected c f := by
    unfold State.commitResult
    rw [hq]
    rfl
  have hout := (BraceOnly.refl ({ s with queue := [] }.commitRejected c f)).resultOut (c := c) (r := .error f)
  refine ⟨_, execCommitValidated_judges (State.nextQueued_one hq hp) ha hu hd, ?_⟩
  rw [hv, hres, hout]
  exact (State.commitRejected_rejection _ c f).calm (Calm.refl _).set

/-- Validation schedules the one commit that waits. -/
theorem execCommitValidated_ok {s : State} {c : Commit} {cut : Option Cut} (hq : s.queue = [c]) (hp : c.phase = .queued)
    (hm : s.mirrors = false) (ha : s.awaits c = false) (hd : s.dev ≠ .off) (hv : s.validate c = .ok cut) :
    exec .commitValidated s = .next { s with queue := [{ c with phase := .scheduled (s.tg + 2), cut := cut }] } := by
  have hu : s.unacked c = false := by
    unfold State.unacked
    rw [hm]
    rfl
  have hres : s.commitResult 0 c (.ok cut) (s.tg + 2) = { s with queue := [{ c with phase := .scheduled (s.tg + 2), cut := cut }] } := by
    unfold State.commitResult
    rw [hq]
    rfl
  rw [execCommitValidated_judges (State.nextQueued_one hq hp) ha hu hd, hv, hres]
  unfold State.resultOut
  rw [show ({ s with queue := [{ c with phase := .scheduled (s.tg + 2), cut := cut }] } : State).mirrors = false from hm]
  rfl

/-! ### O26 -/

/-- Settles O26: a commit in force, the values that the shadow brings, SAFE before a commit, and what validation decides. -/
theorem commitOutcome : Obligations.CommitOutcome := by
  refine ⟨fun s c hq hp _ ht hw hs hr => ?_, fun s pages p hp huniq => ?_, fun s pages g i j hk => ?_, fun s c hq _ _ ht hw hs _ => ?_,
    fun s c f hq hp _ ha hu hd hv => ?_, fun s c cut hq hp hm ha hd hv => execCommitValidated_ok hq hp hm ha hd hv⟩
  · let b : State := { s with tg := s.tg + 1, tickNum := (s.tickNum + 1) % 2 ^ 48 }
    let d : State := { (b.withShadow c.pages).dropShadow c.pages with queue := [] }
    have hwork : Calm d (d.commitWork b c.pages c.cut) := (Calm.refl d).commitWork
    have hdone := State.commitDone_completion (d.commitWork b c.pages c.cut) c
    refine ⟨_, execCommitTakeEffect_one hq hp ht hw hs hr rfl, fun b' hb' => hb' ▸ rfl, ?_, fun p hp _ => ?_, hdone.reason, hdone.ok,
      hdone.raised⟩
    · rw [show State.queue _ = [] from hdone.queue.trans hwork.queue]
      exact List.not_mem_nil
    · have hshadow := hdone.shadow.trans hwork.shadow
      have hpend : ({ (d.commitWork b c.pages c.cut).commitDone c with tg := s.tg, tickNum := s.tickNum } : State).pendOf p = d.pendOf p := by
        unfold State.pendOf
        rw [← hshadow]
      exact hpend.trans (State.pendOf_dropShadow _ hp)
  · rw [State.withShadow_eq_putAll]
    exact s.get_putAll _ _ _ _ _ p (.inl hp) fun q hq hk => by
      rw [huniq q hq hk]
      exact ⟨rfl, rfl, rfl⟩
  · rw [State.withShadow_eq_putAll]
    exact ⟨s.get_putAll_ne _ _ _ _ _ hk, s.putAll_eq _ _ _ _ _⟩
  · obtain ⟨t, he, hdev, hnone, hsticky, hmarked⟩ := execCommitTakeEffect_safe hq ht hw hs
    exact ⟨t, he, hdev, hnone ▸ List.not_mem_nil, hsticky, fun p hp _ => hmarked p hp⟩
  · obtain ⟨t, he, hrej⟩ := execCommitValidated_error hq hp ha hu hd hv
    exact ⟨t, he, hrej.queue, hrej.shadow, fun p hp _ => hrej.marked p hp, hrej.notOk, hrej.reason, hrej.page, hrej.raised⟩

/-! ### The parts of a tick (R44 to R52) -/

/-- The window is moved along in both states. -/
theorem Calm.setWin {s t : State} (h : Calm s t) (w : TickWin) : Calm { s with win := w } { t with win := w } :=
  ⟨rfl, h.tickNum, h.queue, h.shadow, h.ungateWait, h.pllmGated, h.sticky, h.report⟩

theorem State.windowOpen_opens (s : State) (faults : List EngFault) (ecc : List EccErr) (hw : s.win = .overhead) :
    Calm { s with win := .window } (s.windowOpen faults ecc) := by
  unfold State.windowOpen
  rw [if_neg (by simp [hw])]
  extract_lets t t1 t2
  have ht : Calm t t1 := by
    refine (Calm.refl t).when fun u hu => ?_
    exact Calm.when (hu.engineFaults.set.earlyOpen) fun _ hv => hv.earlyPasses
  exact ht.set.braceTx

theorem State.windowOpen_open (s : State) (faults : List EngFault) (ecc : List EccErr) (hw : s.win ≠ .overhead) :
    s.windowOpen faults ecc = s := if_pos hw

/-- What the deadline computes once the window is open. -/
def State.deadlineWork (s : State) (late : List EngLate) : State :=
  let t := { s.agree with win := .kerf }
  let t := t.when t.playing (fun u => u.enginesRun late)
  let r := t.lateOutput
  r.2.digestTick r.1

theorem State.deadlineWork_calm (s : State) (late : List EngLate) : Calm { s with win := .kerf } (s.deadlineWork late) := by
  unfold State.deadlineWork
  extract_lets src t t1 r
  have ht1 : Calm { s with win := .kerf } t1 := Calm.when ((Calm.refl s).agree.setWin .kerf) fun _ hu => hu.enginesRun
  have hr : Calm { s with win := .kerf } r.2 := ht1.lateOutput
  exact hr.digestTick

theorem State.deadline_eq (s : State) (late : List EngLate) : s.deadline late =
    if (s.windowOpen [] []).win ≠ .window then s.windowOpen [] [] else (s.windowOpen [] []).deadlineWork late := rfl

/-- What the tick that ends still has to do takes it into its last part. -/
theorem State.deadline_calm (s : State) (late : List EngLate) : Calm { s with win := .kerf } (s.deadline late) := by
  rw [State.deadline_eq]
  cases hw : s.win with
  | overhead =>
    have hopen := s.windowOpen_opens [] [] hw
    rw [if_neg (by simp [hopen.win])]
    exact (hopen.setWin .kerf).trans (State.deadlineWork_calm _ late)
  | window =>
    rw [s.windowOpen_open [] [] (by simp [hw]), if_neg (by simp [hw])]
    exact s.deadlineWork_calm late
  | kerf =>
    rw [s.windowOpen_open [] [] (by simp [hw]), if_pos (by simp [hw]), ← hw]
    exact Calm.refl s

theorem State.deadline_tickNum (s : State) (late : List EngLate) : (s.deadline late).tickNum = s.tickNum := (s.deadline_calm late).tickNum

theorem State.deadline_dev (s : State) (late : List EngLate) : (s.deadline late).dev = s.dev :=
  (State.deadline_closed mode_closed (mode_closed.refl s)).dev

/-- SAFE that is due stays due. -/
theorem safeDue_closed : Closed fun s t => s.safeWait = true → t.safeWait = true where
  refl _ := id
  trans h h' := h' ∘ h
  upd := by
    intros
    assumption
  sends _ _ := id
  waits _ _ _ := rfl
  boundary _ _ _ h := h

/-- A tick begins: the counts go up, the records of the tick that ended and the raw bits whose time is over leave, and then the work that
opens the tick. -/
theorem State.tickBegin_deadline (s : State) (late : List EngLate) (meas : List Meas) :
    (s.deadline late).tickBegin meas = (meas.foldl State.measure ({ s.deadline late with
      tg := s.tg + 1, tickNum := (s.tickNum + 1) % 2 ^ 48, win := .overhead
      logged := (s.deadline late).logged.filter (fun r => r.2 == s.tg + 1)
      brace := { (s.deadline late).brace with clips := (s.deadline late).brace.clipsTo, clipsTo := [], mine := [] }
      raw := (s.deadline late).raw.filter (fun r => decide (s.tg + 1 < r.2.1 + if r.2.2 then 2 else 3)) } :
        State).hostPoll.egressAll).rxIdleTick := by
  unfold State.tickBegin State.expireRaw
  rw [s.deadline_tg late, s.deadline_tickNum late]

theorem State.tickBegin_win (s : State) (meas : List Meas) : (s.tickBegin meas).win = .overhead := by
  unfold State.tickBegin
  exact (Calm.rxIdleTick (Calm.foldl (Calm.refl _).expireRaw.hostPoll.egressAll fun _ _ h => h.measure)).win

/-! ### The window through the boundary and the work of a tick -/

/-- The window is as before. -/
structure SameWin (s t : State) : Prop where
  win : t.win = s.win

section
variable {s0 s : State}

theorem SameWin.refl (s : State) : SameWin s s := ⟨rfl⟩

theorem SameWin.of (h : SameWin s0 s) {t : State} (hw : t.win = s.win) : SameWin s0 t := ⟨hw.trans h.win⟩

/-- An update of parts of the state other than the window. -/
theorem SameWin.set (h : SameWin s0 s) {queue mem svc brace mix} :
    SameWin s0 { s with queue := queue, mem := mem, svc := svc, brace := brace, mix := mix } := h.of rfl

theorem SameWin.calm {t : State} (h : SameWin s0 s) (hc : Calm s t) : SameWin s0 t := h.of hc.win

theorem SameWin.ite {t u : State} {c : Prop} [Decidable c] (ht : SameWin s0 t) (hu : SameWin s0 u) : SameWin s0 (if c then t else u) := by
  split
  · exact ht
  · exact hu

theorem SameWin.when (h : SameWin s0 s) {b : Bool} {f : State → State} (hf : ∀ t, SameWin s0 t → SameWin s0 (f t)) :
    SameWin s0 (s.when b f) := SameWin.ite (hf s h) h

theorem SameWin.foldl {α : Type} (h : SameWin s0 s) {l : List α} {f : State → α → State} (hf : ∀ t x, SameWin s0 t → SameWin s0 (f t x)) :
    SameWin s0 (l.foldl f s) := by
  induction l generalizing s with
  | nil => exact h
  | cons x l ih => exact ih (hf s x h)

theorem SameWin.each (h : SameWin s0 s) {n : Nat} {f : State → Nat → State} (hf : ∀ t k, SameWin s0 t → SameWin s0 (f t k)) :
    SameWin s0 (s.each n f) := h.foldl hf

/-! #### The services -/

theorem SameWin.shPut (h : SameWin s0 s) {f : Fld} {v i j : Nat} : SameWin s0 (s.shPut f v i j) := h.of rfl

theorem SameWin.svcBank (h : SameWin s0 s) {table : List Nat} : SameWin s0 (s.svcBank table) := by
  unfold State.svcBank
  extract_lets b t src
  have ht : SameWin s0 t := h.calm (Calm.foldl (Calm.refl s) fun _ _ hu => hu.setBytes)
  exact ht.set.shPut

theorem SameWin.svcDucks (h : SameWin s0 s) : SameWin s0 s.svcDucks := by
  unfold State.svcDucks
  refine h.foldl fun t g ht => ?_
  extract_lets zs want ramp t1 t2
  have ht2 : SameWin s0 t2 := ht.shPut.shPut
  split
  · exact ht
  · cases want with
    | none => exact ht2
    | some d => exact ht2.shPut

theorem SameWin.svcArm (h : SameWin s0 s) : SameWin s0 s.svcArm := by
  unfold State.svcArm
  extract_lets full fits src t t1 src1
  have ht : SameWin s0 t := SameWin.ite h (h.of rfl)
  have ht1 : SameWin s0 t1 := ht.svcBank.svcDucks
  exact SameWin.ite h (ht1.of rfl)

theorem SameWin.svcStop (h : SameWin s0 s) : SameWin s0 s.svcStop := by
  unfold State.svcStop
  extract_lets ended calls src t u u1 src1 src2 u2
  have ht : Calm s t := (Calm.refl s).set
  have hu1 : SameWin s0 u1 := h.calm (Calm.foldl (ht.foldl fun _ _ hu => hu.svcDo) fun _ _ hu => hu.svcDo)
  have hu2 : Calm s u2 := ht.set
  exact SameWin.ite h (SameWin.ite (SameWin.svcArm (hu1.of rfl)) (h.calm (hu2.foldl fun _ _ hu => hu.callSet)))

theorem SameWin.svcTick (h : SameWin s0 s) : SameWin s0 s.svcTick := by
  unfold State.svcTick
  extract_lets t src t1 t2 t3 t4 t5
  have ht : SameWin s0 t := h.when fun _ hu => hu.svcArm
  have ht1 : SameWin s0 t1 := ht.of rfl
  have ht2 : SameWin s0 t2 := SameWin.ite (SameWin.ite ht1 (ht1.calm (Calm.refl t1).svcStart)) ht1.svcStop
  have hplayed : Calm t2 t3 := Calm.ite (Calm.svcFades (Calm.when (Calm.refl t2).svcDone fun _ hu => hu.svcDone)) (Calm.refl t2)
  have hasked : Calm t3 t4 := Calm.ite (Calm.refl t3).svcTake (Calm.refl t3)
  have hangs : Calm t4 t5 := Calm.ite (Calm.refl t4).svcAng (Calm.refl t4)
  have ht5 : SameWin s0 t5 := ((ht2.calm hplayed).calm hasked).calm hangs
  exact SameWin.ite h (SameWin.calm (ht5.when fun _ hu => hu.svcArm) (Calm.refl _).svcPublish)

/-! #### The pair -/

theorem SameWin.seatRestore (h : SameWin s0 s) {x : Saved} : SameWin s0 (s.seatRestore x) := by
  unfold State.seatRestore
  extract_lets t src src1
  have ht : SameWin s0 t := h.calm (Calm.foldl (Calm.refl s) fun _ _ hu => hu.setWord)
  exact ht.of rfl

theorem SameWin.coldBegin (h : SameWin s0 s) : SameWin s0 s.coldBegin := by
  unfold State.coldBegin
  extract_lets t src t1 t2 t3 src1 t4
  have ht : SameWin s0 t := by
    unfold t
    split
    · exact h.seatRestore
    · exact h
  have ht1 : SameWin s0 t1 := ht.of rfl
  have ht2 : Calm t1 t2 := Calm.enginesClear (Calm.foldl (Calm.refl t1) fun _ _ hu => hu.copyRecord)
  have ht3 : Calm t1 t3 := Calm.enginesStop (ht2.each fun _ _ hu => hu.initEngine)
  have ht4 : SameWin s0 t4 := (ht1.calm ht3).set
  exact ht4.svcStop.calm (Calm.refl t4.svcStop).seatAbort

theorem SameWin.setRole (h : SameWin s0 s) {new : Role} {cause : Nat} : SameWin s0 (s.setRole new cause) := by
  obtain ⟨u, hu, ht⟩ := s.setRole_calm new cause
  refine SameWin.calm ?_ ht
  split
  · exact (h.calm hu).coldBegin
  · exact h.calm hu.seatRest

theorem SameWin.sealTake (h : SameWin s0 s) : SameWin s0 s.sealTake := by
  unfold State.sealTake
  extract_lets t src t1 t2
  have ht : SameWin s0 t := by
    unfold t
    split
    · exact h.of rfl
    · exact h
  have ht1 : SameWin s0 t1 := ht.of rfl
  have ht2 : Calm t1 t2 := ((Calm.refl t1).put (by decide)).put (by decide)
  have hclear : SameWin s0 (t2.enginesClear.put R.BRACE_MISMATCH_RUN 0) := ht1.calm (ht2.enginesClear.put (by decide))
  exact hclear.setRole.calm (Calm.raise (Calm.bump (Calm.refl _) (by decide)))

theorem SameWin.roleTick (h : SameWin s0 s) : SameWin s0 s.roleTick := by
  unfold State.roleTick
  extract_lets l src t pick
  have ht : SameWin s0 t := h.of rfl
  generalize pick = p
  split
  · exact ht
  · split
    · exact ht
    · exact ht.sealTake
    · exact ht.setRole

theorem SameWin.relayArm (h : SameWin s0 s) {k v : Nat} {channels : List Nat} : SameWin s0 (s.relayArm k v channels) := by
  unfold State.relayArm
  extract_lets due ns src t
  have ht : SameWin s0 t := h.calm (Calm.refl s).setRelay
  have hput : SameWin s0 (ns.foldl (fun u n => u.shPut R.PCH_CTRL_ON v n) t) := ht.foldl fun _ _ hu => hu.shPut
  exact SameWin.ite ht (hput.of rfl)

theorem SameWin.relayOwed (h : SameWin s0 s) {k : Nat} : SameWin s0 (s.relayOwed k) := SameWin.ite h h.relayArm

theorem SameWin.relayBegin (h : SameWin s0 s) {k : Nat} {release : Bool} : SameWin s0 (s.relayBegin k release) := by
  unfold State.relayBegin
  extract_lets t t1
  have ht1 : Calm s t1 := Calm.when ((Calm.refl s).setRelay.put (by decide)) fun _ hu => hu.put (by decide)
  exact (h.calm (ht1.bump (by decide)).raise).relayArm

theorem SameWin.relaysDue (h : SameWin s0 s) : SameWin s0 s.relaysDue := h.each fun _ _ ht => SameWin.ite ht.relayBegin ht

theorem SameWin.braceTick (h : SameWin s0 s) : SameWin s0 s.braceTick := by
  unfold State.braceTick
  extract_lets t t1 t2 t3
  have ht1 : Calm t t1 := (Calm.refl t).when fun _ hu => hu.put (by decide)
  have ht2 : Calm t t2 := ht1.when fun _ hu => hu.seatFlush
  have ht3 : SameWin s0 t3 := h.roleTick.calm (ht2.when fun _ hu => hu.muteAll)
  exact (ht3.relaysDue.each fun _ _ hu => hu.relayOwed).each fun _ _ hu => hu.calm (Calm.refl _).relayRest

/-! #### The commits -/

theorem SameWin.takeCommits (h : SameWin s0 s) : SameWin s0 s.takeCommits := by
  unfold State.takeCommits
  extract_lets due pages src t
  have ht : SameWin s0 t := h.of (congrArg State.win (s.putAll_eq Pend.f Pend.v Pend.i Pend.j (pages.flatMap s.pendOf)) :)
  have hwork : SameWin s0 (t.commitWork s pages (due.findSome? fun c => c.cut)) := ht.calm (Calm.refl t).commitWork
  exact SameWin.ite h (hwork.foldl fun u c hu => hu.of (u.commitDone_completion c).win)

theorem SameWin.commitResult (h : SameWin s0 s) {k : Nat} {c : Commit} {r : Except Fail (Option Cut)} {due : Nat} :
    SameWin s0 (s.commitResult k c r due) := by
  cases r with
  | error f => exact h.of (State.commitRejected_rejection { s with queue := s.queue.take k ++ s.queue.drop (k + 1) } c f).win
  | ok cut => exact h.of rfl

theorem SameWin.takeResults (h : SameWin s0 s) : SameWin s0 s.takeResults := by
  unfold State.takeResults
  refine SameWin.foldl h.set fun t w ht => ?_
  split
  · exact ht.of rfl
  · split
    · exact ht.commitResult
    · exact ht.commitResult

theorem SameWin.rejectAll (h : SameWin s0 s) : SameWin s0 s.rejectAll := by
  unfold State.rejectAll
  have hback : SameWin s0 s.mixBack := h.calm (Calm.refl s).mixBack
  exact SameWin.foldl hback.set fun t c ht => ht.of (t.commitRejected_rejection c _).win

theorem SameWin.safeEnter (h : SameWin s0 s) : SameWin s0 s.safeEnter := by
  cases hw : s.safeWait with
  | false => rwa [s.safeEnter_idle hw]
  | true =>
    let v : State := { s with dev := .safe, safeWait := false, op := .none }
    have hdev : v.rejectAll.dev = .safe := (State.rejectAll_closed mode_closed (mode_closed.refl v)).dev_eq rfl
    have hv : SameWin s0 v := h.of rfl
    rw [State.safeEnter_due hw]
    exact hv.rejectAll.calm (State.safeRest_calm _ (by rw [hdev]; decide))

/-! #### The clock -/

theorem SameWin.epochSet (h : SameWin s0 s) {step : Int} : SameWin s0 (s.epochSet step) := by
  unfold State.epochSet
  extract_lets src t t1 t2 t3 t4 t5 t6
  have ht : SameWin s0 t := h.of rfl
  have ht2 : Calm t t2 := Calm.stepOffsets (((Calm.refl t).put (by decide)).put (by decide))
  have ht3 : Calm t t3 := ht2.each fun _ _ hu => hu.setAlign.setClk
  have ht5 : Calm t t5 := ht3.ringsEpoch.spEpoch.when fun _ hu => hu.portRingsEpoch.zeroNext
  have ht6 : Calm t t6 := ht5.each fun _ _ hu => hu.txBegin
  exact ht.calm ht6.tasAll.raise

theorem SameWin.epochIfDue (h : SameWin s0 s) : SameWin s0 s.epochIfDue := SameWin.ite h h.epochSet

theorem SameWin.plumbTick (h : SameWin s0 s) {refs : List RefMeas} : SameWin s0 (s.plumbTick refs) := by
  unfold State.plumbTick State.plumbDecide
  extract_lets t src t1
  have ht : SameWin s0 t := (h.calm (Calm.refl s).refEvalAll.selChange).epochIfDue
  have ht1 : Calm t t1 := (Calm.refl t).set
  exact ht.calm (ht1.plumbLoop.each fun _ _ hu => hu.pulseTick)

/-- PLL-M's gate opens. -/
theorem State.pllmUngate_opens {s : State} (hw : s.plls.ungateWait = true) :
    ∃ t : State, t.win = s.win ∧ t.plls.ungateWait = false ∧ t.pllmGated = false ∧ Calm t s.pllmUngate := by
  unfold State.pllmUngate
  rw [hw]
  extract_lets r src t src1 t1 t2
  have ht : Calm s t := Calm.shim (Calm.refl s).setPlls
  refine ⟨t2, ht.win, rfl, ?_, (Calm.refl t2).spPllmUngates.asrcFixed.clkoutGate⟩
  unfold State.pllmGated
  rw [State.flag_put_ne _ _ _ _ _ _ (by decide), State.flag_put_same]
  rfl

theorem SameWin.pllmUngate (h : SameWin s0 s) : SameWin s0 s.pllmUngate := by
  cases hw : s.plls.ungateWait with
  | false =>
    unfold State.pllmUngate
    rwa [hw]
  | true =>
    obtain ⟨t, hwin, -, -, hc⟩ := State.pllmUngate_opens hw
    exact (h.of hwin).calm hc

theorem SameWin.pllmTick (h : SameWin s0 s) : SameWin s0 s.pllmTick := by
  unfold State.pllmTick
  extract_lets t t1 t2 u w src u1 u2
  have ht1 : Calm t t1 := (Calm.refl t).when fun _ hu => hu.bump (by decide)
  have hu : Calm t u := Calm.when (ht1.put (by decide)) fun _ hv => Calm.shim hv.setPlls
  have hu1 : Calm t u1 := hu.setPlls
  have hu2 : Calm t u2 := (hu1.put (by decide)).put (by decide)
  exact h.pllmUngate.calm (hu2.when fun _ hv => hv.put (by decide))

end

/-! #### The boundary and the work -/

theorem State.boundaryChanges_win (s : State) (refs : List RefMeas) : (s.boundaryChanges refs).win = s.win := by
  unfold State.boundaryChanges
  have hcommits : SameWin s s.boundaryCommits := (SameWin.refl s).safeEnter.takeResults.takeCommits
  have hstart : SameWin s s.boundaryCommits.passIfDue.startNow := hcommits.calm (Calm.refl _).passIfDue.startNow
  exact (SameWin.when hstart.braceTick.plumbTick.pllmTick fun _ hu => hu.calm (Calm.refl _).restamp).win

theorem State.tickWork_win (s : State) : s.tickWork.win = s.win := by
  unfold State.tickWork
  extract_lets t t1 t2
  have ht : SameWin s t := (((SameWin.refl s).calm (Calm.refl s).lateFeed).svcTick).calm (Calm.refl _).readControls
  have ht1 : Calm t t1 := (Calm.refl t).txTick.feedAll.powerTick
  have ht2 : Calm t t2 := ht1.igmpTick.sapWithdraw.each fun _ _ hu => hu.clkTick
  exact (ht.calm ht2.clearRead.eventFrames).win

/-! ### The rows of a tick -/

/-- The fuses and the commands that wait are as before. -/
def SameOuter (s t : State) : Prop := t.otp = s.otp ∧ t.pending = s.pending

theorem sameOuter_wide : Wide SameOuter where
  refl _ := ⟨rfl, rfl⟩
  trans h h' := ⟨h'.1.trans h.1, h'.2.trans h.2⟩
  any ho hp _ _ _ := ⟨ho, hp⟩
  sends _ _ := ⟨rfl, rfl⟩
  boundary _ _ _ h := h

/-- What a tick does leaves the fuses and the commands that wait. -/
theorem State.tick_outer (s : State) (refs : List RefMeas) (meas : List Meas) :
    SameOuter s ((((s.deadline []).tickBegin meas).boundaryChanges refs).tickWork) := by
  have hd : SameOuter s (s.deadline []) := State.deadline_closed sameOuter_wide.closed (sameOuter_wide.refl s)
  have hb : SameOuter s ((s.deadline []).tickBegin meas) := State.tickBegin_wide sameOuter_wide (fun _ _ => ⟨rfl, rfl⟩) hd
  exact State.tickWork_closed sameOuter_wide.closed (State.boundaryChanges_wide sameOuter_wide hb)

theorem execTickBoundary_ticking {s : State} (refs : List RefMeas) (meas : List Meas) (ht : s.ticking = true) :
    exec (.tickBoundary refs meas) s = .next (((s.deadline []).tickBegin meas).boundaryChanges refs).tickWork := by
  show execTickBoundary refs meas s = _
  rw [execTickBoundary, if_pos ht]

/-- A boundary row does its part as of the tick that begins. -/
theorem State.boundaryPart_ticking {s : State} (f : State → State) (ht : s.ticking = true) :
    s.boundaryPart f = (s.deadline []).atBoundary f := if_pos ht

theorem execCutListWindowStart_opens {s : State} (faults : List EngFault) (ecc : List EccErr) (ht : s.ticking = true)
    (hw : s.win = .overhead) :
    ∃ t, exec (.cutListWindowStart faults ecc) s = .next t ∧ t.win = .window ∧ t.tg = s.tg ∧ t.tickNum = s.tickNum ∧ t.dev = s.dev := by
  have hopen := s.windowOpen_opens faults ecc hw
  refine ⟨s.windowOpen faults ecc, ?_, hopen.win, State.windowOpen_closed sameTicks_wide.closed (sameTicks_wide.refl s), hopen.tickNum,
    (State.windowOpen_closed mode_closed (mode_closed.refl s)).dev⟩
  show execCutListWindowStart faults ecc s = _
  rw [execCutListWindowStart, if_pos ht]

theorem execEngineDeadline_ends {s : State} (late : List EngLate) (ht : s.ticking = true) :
    ∃ t, exec (.engineDeadline late) s = .next t ∧ t.win = .kerf ∧ t.tg = s.tg ∧ t.tickNum = s.tickNum ∧ t.dev = s.dev := by
  refine ⟨s.deadline late, ?_, (s.deadline_calm late).win, s.deadline_tg late, s.deadline_tickNum late, s.deadline_dev late⟩
  show execEngineDeadline late s = _
  rw [execEngineDeadline, if_pos ht]

theorem execEvtRawExpiry_clears {s : State} {e : Fin 96} {n : Nat} {b : Bool} (hr : s.raw = [(e.val, n, b)])
    (hend : s.ticking = false ∨ b = false ∨ n + 1 ≤ s.tg) : exec (.evtRawExpiry e) s = .next { s with raw := [] } := by
  show execEvtRawExpiry e s = _
  rw [execEvtRawExpiry, hr]
  rcases hend with h | h | h
  · simp [h]
  · simp [h]
  · simp [show n < s.tg from h]

/-- SAFE is entered at the boundary where it is due. -/
theorem execSafeEntry_enters {s : State} (ht : s.ticking = true) (hw : s.safeWait = true) :
    ∃ t, exec .safeEntry s = .next t ∧ t.dev = .safe ∧ t.op = .none ∧ t.safeWait = false ∧ t.tg = s.tg ∧ t.tickNum = s.tickNum := by
  let d := s.deadline []
  let b : State := { d with tg := d.tg + 1, tickNum := (d.tickNum + 1) % 2 ^ 48 }
  have hb : b.safeWait = true := State.deadline_closed safeDue_closed (safeDue_closed.refl s) hw
  obtain ⟨hdev, hop⟩ := b.safeEnter_safe hb
  refine ⟨d.atBoundary State.safeEnter, ?_, hdev, hop, State.safeEnter_entered hb, s.deadline_tg [], s.deadline_tickNum []⟩
  show execSafeEntry s = _
  rw [execSafeEntry, State.boundaryPart_ticking _ ht]

/-- PLL-M's gate opens at the boundary, or at once where no ticks run. -/
theorem execPllmUngate_opens {s : State} (hp : s.powered = true) (hw : s.plls.ungateWait = true) :
    ∃ t, exec .pllmUngate s = .next t ∧ t.pllmGated = false ∧ t.plls.ungateWait = false ∧ t.tg = s.tg := by
  show ∃ t, execPllmUngate s = .next t ∧ _
  unfold execPllmUngate
  cases ht : s.ticking with
  | false =>
    obtain ⟨u, -, hwait, hgate, hc⟩ := State.pllmUngate_opens hw
    refine ⟨s.pllmUngate, ?_, hc.pllmGated.trans hgate, hc.ungateWait.trans hwait,
      State.pllmUngate_closed sameTicks_wide.closed (sameTicks_wide.refl s)⟩
    simp [hp]
  | true =>
    let d := s.deadline []
    let b : State := { d with tg := d.tg + 1, tickNum := (d.tickNum + 1) % 2 ^ 48 }
    have hb : b.plls.ungateWait = true := (s.deadline_calm []).ungateWait.trans hw
    obtain ⟨u, -, hwait, hgate, hc⟩ := State.pllmUngate_opens hb
    refine ⟨d.atBoundary State.pllmUngate, ?_, hc.pllmGated.trans hgate, hc.ungateWait.trans hwait, s.deadline_tg []⟩
    rw [State.boundaryPart_ticking _ ht]
    rfl

/-! ### O24 -/

/-- Settles O24: TICK_BOUNDARY's order, and each row of a tick on exactly the state named. -/
theorem tickRows : Obligations.TickRows := by
  refine ⟨fun s refs meas ht => ?_, fun s refs meas ht => ?_, fun s hv => ?_, fun s faults ecc => execCutListWindowStart_opens faults ecc,
    fun s ht => ?_, fun s late => execEngineDeadline_ends late, fun s e n b => execEvtRawExpiry_clears, fun s ht hw _ => execSafeEntry_enters ht hw,
    fun s ht => ?_, fun s ht => ?_, fun s f => rfl, fun s => execPllmUngate_opens⟩
  · obtain ⟨hotp, hpending⟩ := s.tick_outer refs meas
    refine ⟨_, execTickBoundary_ticking refs meas ht, ?_, ?_, ?_, hotp, hpending⟩
    · rw [s.tickBegin_deadline [] meas]
    · rw [State.tickWork_tg, State.boundaryChanges_tg, State.tickBegin_tg, State.deadline_tg]
    · rw [State.tickWork_win, State.boundaryChanges_win, State.tickBegin_win]
  · show execTickBoundary refs meas s = _
    rw [execTickBoundary, if_neg (by simp [ht])]
    by_cases hboot : s.dev = .boot ∧ s.plls.clockLost = false
    · rw [if_pos hboot, if_pos (by simp [hboot])]
      rfl
    · rw [if_neg hboot, if_neg (by simpa using hboot)]
  · unfold State.epochIfDue
    simp [hv]
  · show execPresenceAgreement s = _
    rw [execPresenceAgreement, if_pos ht]
  · show execCommitTakeEffect s = _
    rw [execCommitTakeEffect, State.boundaryPart_ticking _ ht]
    rfl
  · show execRoleChange s = _
    rw [execRoleChange, State.boundaryPart_ticking _ ht]

end Sys2Proof.Machine

/-! PROOFS. Stream transport: frames of the device's own on their ports, AECP that asks (O47) and that changes something (O46), ADP and
ACMP (O45), and ARP, IGMP and SAP (O44). -/

namespace Sys2Proof.Machine

/-! ### A frame of the device's own that its port takes (R128, R154) -/

/-- The registers that decide whether a port takes a frame of the device's own, in which class and from which address. -/
def frameFlds : List Fld :=
  [R.MAC_STATUS_LINK, R.MAC_STATUS_SPEED, R.MAC_FRAME_MAX_LEN, R.MAC_ADDR_LO_ADDR, R.MAC_ADDR_HI_ADDR, R.TSN_TAS_STATUS_OPER,
   R.BR_PCP_MAP_MAP, R.BR_CLASS_TC_A, R.BR_CLASS_TC_B, R.BR_BUF_SIZE_PAGES, R.BR_PORT_CFG2_RES_PAGES, R.BR_PORT_CFG2_BE_PAGES,
   R.BR_PORT_CFG2_BR_EGQ_LIMIT]

/-- The ports of t take what those of s take: t differs from s in nothing that such a decision looks at. -/
structure SamePorts (s t : State) : Prop where
  dev : t.dev = s.dev
  plls : t.plls = s.plls
  ports : t.net.ports = s.net.ports
  egr : t.net.egr = s.net.egr
  regs : ∀ f ∈ frameFlds, ∀ i j, t.get f i j = s.get f i j

section
variable {s0 s : State}

theorem SamePorts.refl (s : State) : SamePorts s s := ⟨rfl, rfl, rfl, rfl, fun _ _ _ _ => rfl⟩

theorem SamePorts.put (h : SamePorts s0 s) {f : Fld} (hf : ∀ g ∈ frameFlds, f.base ≠ g.base) {v i j : Nat} :
    SamePorts s0 (s.put f v i j) :=
  { h with regs := fun g hg i' j' => (s.get_put_ne v i j i' j' (hf g hg)).trans (h.regs g hg i' j') }

theorem SamePorts.bump (h : SamePorts s0 s) {f : Fld} (hf : ∀ g ∈ frameFlds, f.base ≠ g.base) {i j : Nat} : SamePorts s0 (s.bump f i j) := by
  unfold State.bump State.bumpBy
  split
  · exact (h.put hf).put (by decide)
  · exact h.put hf

theorem SamePorts.setStr (h : SamePorts s0 s) {str : Streams} : SamePorts s0 { s with str := str } := { h with }

end

section
variable {s t : State} (h : SamePorts s t)
include h

theorem SamePorts.netUp : t.netUp = s.netUp := by
  simp [State.netUp, h.dev, h.plls]

theorem SamePorts.link (p : Nat) : t.link p = s.link p := by
  simp [State.link, State.flag, h.regs R.MAC_STATUS_LINK (by decide)]

theorem SamePorts.portMac (p : Nat) : t.portMac p = s.portMac p := by
  simp [State.portMac, h.regs R.MAC_ADDR_LO_ADDR (by decide), h.regs R.MAC_ADDR_HI_ADDR (by decide)]

theorem SamePorts.tcOf (pcp : Nat) : t.tcOf pcp = s.tcOf pcp := by
  simp [State.tcOf, h.regs R.BR_PCP_MAP_MAP (by decide)]

theorem SamePorts.sizeLimit (p tags : Nat) : t.sizeLimit p tags = s.sizeLimit p tags := by
  simp [State.sizeLimit, h.regs R.MAC_FRAME_MAX_LEN (by decide)]

theorem SamePorts.tasOversize (p tc len : Nat) : t.tasOversize p tc len = s.tasOversize p tc len := by
  simp [State.tasOversize, State.flag, State.ph, State.kbps, h.link, h.ports, h.regs R.TSN_TAS_STATUS_OPER (by decide),
    h.regs R.MAC_STATUS_SPEED (by decide)]

theorem SamePorts.isReserved (tc : Nat) : t.isReserved tc = s.isReserved tc := by
  simp [State.isReserved, State.isAudioTc, h.regs R.BR_CLASS_TC_A (by decide), h.regs R.BR_CLASS_TC_B (by decide)]

theorem SamePorts.queueFull (p tc : Nat) : t.queueFull p tc = s.queueFull p tc := by
  simp [State.queueFull, h.egr, h.regs R.BR_PORT_CFG2_BR_EGQ_LIMIT (by decide)]

theorem SamePorts.carve (n left : Nat) : t.carve n left = s.carve n left := by
  induction n generalizing left with
  | zero => rfl
  | succ n ih =>
    simp [State.carve, ih, h.regs R.BR_PORT_CFG2_RES_PAGES (by decide), h.regs R.BR_PORT_CFG2_BE_PAGES (by decide)]

theorem SamePorts.poolFull (p : Nat) (resv : Bool) (len : Nat) :
    t.poolFull p resv len = s.poolFull p resv len := by
  simp [State.poolFull, State.poolSize, State.poolUsed, h.carve, h.egr, h.regs R.BR_BUF_SIZE_PAGES (by decide)]

theorem SamePorts.takesFrame (p tc : Nat) (w : Wire) : t.takesFrame p tc w = s.takesFrame p tc w := by
  simp [State.takesFrame, h.netUp, h.link, h.sizeLimit, h.tasOversize, h.isReserved, h.poolFull, h.queueFull]

end

/-- A frame of a reserved class joins its queue in the reserved pool of its own port (R154). -/
theorem State.enqueue_reserved {s : State} {e : EgrFrame} (hup : s.netUp = true) (hlink : s.link e.port = true)
    (htas : s.tasOversize e.port e.tc e.len = false) (hr : s.isReserved e.tc = true) (hin : e.ingress = 8)
    (hroom : s.poolFull e.port true e.len = false) :
    (s.enqueue e).2 = { s with net := { s.net with egr := s.net.egr ++ [{ e with ingress := e.port, resv := true }] } } := by
  simp [State.enqueue, hup, hlink, htas, hr, hin, hroom]

/-- A frame of a best-effort class joins its queue as it is (R154). -/
theorem State.enqueue_bestEffort {s : State} {e : EgrFrame} (hup : s.netUp = true) (hlink : s.link e.port = true)
    (htas : s.tasOversize e.port e.tc e.len = false) (hr : s.isReserved e.tc = false) (hroom : s.queueFull e.port e.tc = false) :
    (s.enqueue e).2 = { s with net := { s.net with egr := s.net.egr ++ [e] } } := by
  simp [State.enqueue, hup, hlink, htas, hr, hroom]

/-- A frame that the port takes stands behind what waits there, and nothing else has changed. -/
theorem State.submit_taken {s : State} {p tc : Nat} {w : Wire} (h : s.takesFrame p tc w = true) : s.submit p tc w = s.withFrame p tc w := by
  simp only [State.takesFrame, Bool.and_eq_true, decide_eq_true_eq, Bool.not_eq_true'] at h
  obtain ⟨⟨⟨⟨hup, hlink⟩, hlen⟩, htas⟩, hroom⟩ := h
  have hn : SamePorts s s.newFid.2 := ⟨rfl, rfl, rfl, rfl, fun _ _ _ _ => rfl⟩
  have hup' := hn.netUp.trans hup
  have hlink' := (hn.link p).trans hlink
  have htas' := (hn.tasOversize p tc w.len).trans htas
  rw [State.submit, if_neg (Nat.not_lt.2 hlen), State.withFrame]
  cases hr : s.isReserved tc with
  | true =>
    rw [hr, if_pos rfl, Bool.not_eq_true'] at hroom
    exact State.enqueue_reserved hup' hlink' htas' ((hn.isReserved tc).trans hr) rfl ((hn.poolFull p true w.len).trans hroom)
  | false =>
    rw [hr, if_neg Bool.false_ne_true, Bool.not_eq_true'] at hroom
    exact State.enqueue_bestEffort hup' hlink' htas' ((hn.isReserved tc).trans hr) ((hn.queueFull p tc).trans hroom)

theorem SamePorts.submit {s t : State} (h : SamePorts s t) {p tc : Nat} {w : Wire} (ht : s.takesFrame p tc w = true) :
    t.submit p tc w = t.withFrame p tc w := State.submit_taken ((h.takesFrame p tc w).trans ht)

theorem SamePorts.avdSend {s t : State} (h : SamePorts s t) {p da kind seq status : Nat} {fields : List Nat}
    (ht : s.takesFrame p (s.tcOf 0) (.avdecc ⟨da, s.portMac p, none⟩ kind seq status fields) = true) :
    t.avdSend p da kind seq status fields =
      t.withFrame p (s.tcOf 0) (.avdecc ⟨da, s.portMac p, none⟩ kind seq status fields) := by
  show t.submit p (t.tcOf 0) (.avdecc ⟨da, t.portMac p, none⟩ kind seq status fields) = _
  rw [h.portMac, h.tcOf, h.submit ht]

theorem SamePorts.ipSend {s t : State} (h : SamePorts s t) {p da kind : Nat} {q : Option IpHead} {fields : List Nat}
    (ht : s.takesFrame p (s.tcOf 0) (.ip ⟨da, s.portMac p, none⟩ q kind fields) = true) :
    t.ipSend p da q kind fields = t.withFrame p (s.tcOf 0) (.ip ⟨da, s.portMac p, none⟩ q kind fields) := by
  show t.submit p (t.tcOf 0) (.ip ⟨da, t.portMac p, none⟩ q kind fields) = _
  rw [h.portMac, h.tcOf, h.submit ht]

/-! ### AECP commands that only ask (R89) -/

theorem SamePorts.aecpAnswer {s t : State} (h : SamePorts s t) {m : AvdMsg} {cmd status : Nat} {fields : List Nat}
    (ht : s.takesFrame m.port.val (s.tcOf 0) (s.aecpFrame m cmd status fields) = true) :
    t.aecpAnswer m cmd status fields = t.withFrame m.port.val (s.tcOf 0) (s.aecpFrame m cmd status fields) := h.avdSend ht

section
variable {s : State} {m : AvdMsg} {cmd : Nat}

theorem State.aecpAsk_answered {status : Nat} {fields : List Nat} (hon : s.aecpOn m = true)
    (hw : s.takesFrame m.port.val (s.tcOf 0) (s.aecpFrame m cmd status fields) = true) :
    s.aecpAsk m cmd (status, fields) = s.withFrame m.port.val (s.tcOf 0) (s.aecpFrame m cmd status fields) := by
  rw [State.aecpAsk, if_pos hon, (SamePorts.refl s).aecpAnswer hw]

theorem State.streamAsk_input {rx tx : List Nat} (hty : m.descType = 5) (hrx : s.aafRx m.entry.val = true) :
    s.streamAsk m cmd rx tx = s.aecpAsk m cmd (0, rx) := by
  simp [State.streamAsk, hty, hrx]

theorem State.streamAsk_absent {rx tx : List Nat} (hty : m.descType = 5) (hrx : s.aafRx m.entry.val = false) :
    s.streamAsk m cmd rx tx = s.aecpAsk m cmd (2, []) := by
  simp [State.streamAsk, hty, hrx]

end

/-! ### O47 -/

/-- Settles O47: each command asks with its own code, status and fields, and an ask is answered by one frame. -/
theorem aecpReads : Obligations.AecpReads := by
  unfold Obligations.AecpReads
  intro s m c cmd status fields hon n hc w hw
  have hask : exec c s = .next (s.aecpAsk m cmd (status, fields)) := by
    simp only [List.mem_cons, List.not_mem_nil, or_false, Prod.mk.injEq] at hc
    rcases hc with hany | ⟨hty, hrx, hin⟩ | ⟨hty, hrx, hno⟩ | ⟨hty, rfl, rfl, rfl, rfl⟩ | ⟨hty, hn, rfl, rfl, rfl, rfl⟩ | ⟨hn, rfl, rfl, rfl, rfl⟩
    · rcases hany with ⟨rfl, rfl, rfl, rfl⟩ | ⟨rfl, rfl, rfl, rfl⟩ | ⟨rfl, rfl, rfl, rfl⟩ | ⟨rfl, rfl, rfl, rfl⟩
      all_goals rfl
    · rcases hin with ⟨rfl, rfl, rfl, rfl⟩ | ⟨rfl, rfl, rfl, rfl⟩ | ⟨rfl, rfl, rfl, rfl⟩
      all_goals exact congrArg _ (State.streamAsk_input hty hrx)
    · rcases hno with ⟨rfl, rfl, rfl, rfl⟩ | ⟨rfl, rfl, rfl, rfl⟩ | ⟨rfl, rfl, rfl, rfl⟩
      all_goals exact congrArg _ (State.streamAsk_absent hty hrx)
    · show execGetName m s = _
      rw [execGetName, if_pos hty]
    · have hport : (m.descType == 9 && decide (m.entry.val < 2)) = true := by simpa [hty] using hn
      exact congrArg (fun r => Host.Outcome.next (s.aecpAsk m 39 r)) (if_pos hport)
    · show execGetAsPath m s = _
      rw [execGetAsPath, if_pos hn]
  rw [hask, State.aecpAsk_answered hon hw]

/-! ### What a frame of the device's own leaves, whether its port takes it or not (R128, R154, R160) -/

theorem RecordsOnly.str {s t : State} (h : RecordsOnly s t) : t.str = s.str := by rw [h]

/-- The registers that count a frame of the device's own which its port does not take. -/
def submitFlds : List Fld := [R.TXERR_CNT, R.TSN_TAS_OVERSIZE_CNT, R.TSN_TAS_STATUS_CFG_ERR, R.BR_EGR_DROP_CNT] ++ eventFlds

theorem eventFlds_subset_submitFlds : eventFlds ⊆ submitFlds := List.subset_append_right _ _

/-- Nothing that the streams hold differs between s and t, nor what `Keeps` names, and no register but those of the fields listed. -/
structure KeepsStr (l : List Fld) (s t : State) : Prop where
  keeps : Keeps l s t
  str : t.str = s.str

section
variable {l : List Fld} {s0 s : State}

theorem KeepsStr.refl (l : List Fld) (s : State) : KeepsStr l s s := ⟨Keeps.refl l s, rfl⟩

theorem KeepsStr.put (h : KeepsStr l s0 s) {f : Fld} (hf : f ∈ l) {v i j : Nat} : KeepsStr l s0 (s.put f v i j) := ⟨h.keeps.put hf, h.str⟩

theorem KeepsStr.bump (h : KeepsStr l s0 s) {f : Fld} (hf : f ∈ l) (hsat : R.PG_STATUS_SAT_SEEN ∈ l) {i j : Nat} :
    KeepsStr l s0 (s.bump f i j) :=
  ⟨h.keeps.bump hf hsat, ((RecordsOnly.refl s).bump.str).trans h.str⟩

theorem KeepsStr.raise (hl : eventFlds ⊆ l) (h : KeepsStr l s0 s) {e : Nat} : KeepsStr l s0 (s.raise e) :=
  ⟨h.keeps.raise hl, ((RecordsOnly.refl s).raise.str).trans h.str⟩

theorem KeepsStr.setNet (h : KeepsStr l s0 s) {net : Net} : KeepsStr l s0 { s with net := net } := ⟨h.keeps.set, h.str⟩

end

/-- A frame that joins a queue or is dropped changes no more than the ports and the counts of dropped frames. -/
theorem State.enqueue_keeps (s : State) (e : EgrFrame) : KeepsStr submitFlds s (s.enqueue e).2 := by
  have h := KeepsStr.refl submitFlds s
  unfold State.enqueue
  dsimp only
  split
  · exact h
  · split
    · exact ((h.bump (by decide) (by decide)).put (by decide)).raise eventFlds_subset_submitFlds
    · split
      · split
        · split
          · exact h
          · exact h.setNet
        · exact h.setNet
      · split
        · exact h.bump (by decide) (by decide)
        · exact h.setNet

theorem State.submit_keeps (s : State) (p tc : Nat) (w : Wire) : KeepsStr submitFlds s (s.submit p tc w) := by
  unfold State.submit
  split
  · exact (KeepsStr.refl _ s).bump (by decide) (by decide)
  · have hfid : KeepsStr submitFlds s s.newFid.2 := (KeepsStr.refl _ s).setNet
    have henq := s.newFid.2.enqueue_keeps ⟨s.newFid.1, p, tc, w.len, 8, false, w⟩
    exact ⟨hfid.keeps.trans henq.keeps, henq.str.trans hfid.str⟩

theorem State.aecpAnswer_keeps (s : State) (m : AvdMsg) (cmd status : Nat) (fields : List Nat) :
    KeepsStr submitFlds s (s.aecpAnswer m cmd status fields) := s.submit_keeps _ _ _

theorem State.acmpAnswer_keeps (s : State) (port msg seq entry status : Nat) (fields : List Nat) : KeepsStr submitFlds
    (((s.put R.AVD_LAST_ACMP_MSG msg).put R.AVD_LAST_ACMP_STATUS status).put R.AVD_LAST_ACMP_ENTRY entry)
    (s.acmpAnswer port msg seq entry status fields) := State.submit_keeps _ _ _ _

/-! ### AECP commands that change something (R89) -/

/-- The entity's state that ACQUIRE_ENTITY and LOCK_ENTITY set: who acquired it, and that it is acquired or locked. -/
structure SameEntity (s t : State) : Prop where
  owner : t.avdOwner = s.avdOwner
  acquired : t.flag R.AVD_STATUS_ACQUIRED = s.flag R.AVD_STATUS_ACQUIRED
  locked : t.flag R.AVD_STATUS_LOCKED = s.flag R.AVD_STATUS_LOCKED

/-- An answer leaves who acquired or locked the entity. -/
theorem State.aecpAnswer_entity (s : State) (m : AvdMsg) (cmd status : Nat) (fields : List Nat) :
    SameEntity s (s.aecpAnswer m cmd status fields) := by
  have h := (s.aecpAnswer_keeps m cmd status fields).keeps
  refine ⟨?_, h.flag (by decide) 0 0, h.flag (by decide) 0 0⟩
  rw [State.avdOwner, h.regs R.AVD_OWNER_LO_ID _ _ (by decide), h.regs R.AVD_OWNER_HI_ID _ _ (by decide), State.avdOwner]

theorem b2n_flag (b : Bool) : (b2n b % 2 ^ 1 == 1) = b := by cases b <;> rfl

/-- The entity acquired by `o`, or released with o = 0. -/
def State.avdAcquired (s : State) (rel : Bool) (o : Nat) : State :=
  ((s.put R.AVD_STATUS_ACQUIRED (b2n (!rel))).put R.AVD_OWNER_LO_ID (o % 2 ^ 32)).put R.AVD_OWNER_HI_ID (o / 2 ^ 32)

theorem State.avdAcquired_flag (s : State) (rel : Bool) (o : Nat) : (s.avdAcquired rel o).flag R.AVD_STATUS_ACQUIRED = !rel := by
  rw [State.avdAcquired, State.flag_put_ne _ _ _ _ _ _ (by decide), State.flag_put_ne _ _ _ _ _ _ (by decide), State.flag_put_same]
  exact b2n_flag _

theorem State.avdAcquired_owner (s : State) (rel : Bool) {o : Nat} (ho : o < 2 ^ 64) : (s.avdAcquired rel o).avdOwner = o := by
  rw [State.avdOwner, State.avdAcquired, State.get_put_ne _ _ _ _ _ _ (by decide), State.get_put_same, State.get_put_same]
  show o % 2 ^ 32 % 2 ^ 32 + o / 2 ^ 32 % 2 ^ 32 * 2 ^ 32 = o
  omega

/-- The entity locked by controller c, or unlocked. -/
def State.avdLocked (s : State) (rel : Bool) (c : BitVec 64) : State :=
  State.put { s with str := { s.str with lockOwner := if rel then none else some c } } R.AVD_STATUS_LOCKED (b2n (!rel))

theorem State.avdLocked_flag (s : State) (rel : Bool) (c : BitVec 64) : (s.avdLocked rel c).flag R.AVD_STATUS_LOCKED = !rel := by
  rw [State.avdLocked, State.flag_put_same]
  exact b2n_flag _

/-- The controllers registered for notifications. -/
def State.withUnsolicited (s : State) (l : List (BitVec 64)) : State := { s with str := { s.str with unsolicited := l } }

/-- Registered controllers with c among them, once. -/
def registering (l : List (BitVec 64)) (c : BitVec 64) : List (BitVec 64) := if l.contains c then l else l ++ [c]

theorem registering_of_mem {l : List (BitVec 64)} {c : BitVec 64} (h : c ∈ l) : registering l c = l := by
  simp [registering, h]

theorem mem_registering {l : List (BitVec 64)} {c d : BitVec 64} : d ∈ registering l c ↔ d ∈ l ∨ d = c := by
  by_cases hc : c ∈ l
  · rw [registering_of_mem hc]
    exact ⟨.inl, fun h => h.elim id fun hd => hd ▸ hc⟩
  · simp [registering, hc]

section
variable {s : State} {m : AvdMsg}

/-- ACQUIRE_ENTITY by a controller that nothing bars. -/
theorem execAcquireEntity_acquires (hon : s.aecpOn m = true) (hfree : s.avdBarred m.controller = 0) {o : Nat}
    (ho : o = if bitAt m.flags 31 then 0 else m.controller.toNat) :
    execAcquireEntity m s = .next ((s.avdAcquired (bitAt m.flags 31) o).aecpAnswer m 0 0 [o]) := by
  rw [execAcquireEntity, hon, hfree, ho]
  rfl

/-- LOCK_ENTITY by a controller that nothing bars. -/
theorem execLockEntity_locks (hon : s.aecpOn m = true) (hfree : s.avdBarred m.controller = 0) :
    execLockEntity m s = .next ((s.avdLocked (bitAt m.flags 0) m.controller).aecpAnswer m 1 0 []) := by
  rw [execLockEntity, hon, hfree]
  rfl

/-- SET_NAME of the entity by a controller that nothing bars. -/
theorem execSetName_names (hon : s.aecpOn m = true) (hfree : s.avdBarred m.controller = 0) (hty : m.descType = 0) :
    execSetName m s = .next (State.aecpAnswer { s with str := { s.str with name := m.name.take 64 } } m 16 0 []) := by
  rw [execSetName, hon, hfree, hty]
  rfl

theorem execAcquireEntity_barred (hon : s.aecpOn m = true) (hbar : s.avdBarred m.controller ≠ 0) :
    execAcquireEntity m s = .next (s.aecpAnswer m 0 (s.avdBarred m.controller) [s.avdOwner]) := by
  rw [execAcquireEntity, hon, if_neg (by decide), if_pos hbar]

theorem execLockEntity_barred (hon : s.aecpOn m = true) (hbar : s.avdBarred m.controller ≠ 0) :
    execLockEntity m s = .next (s.aecpAnswer m 1 (s.avdBarred m.controller) []) := by
  rw [execLockEntity, hon, if_neg (by decide), if_pos hbar]

theorem execSetName_barred (hon : s.aecpOn m = true) (hbar : s.avdBarred m.controller ≠ 0) :
    execSetName m s = .next (s.aecpAnswer m 16 (s.avdBarred m.controller) []) := by
  rw [execSetName, hon, if_neg (by decide), if_pos hbar]

/-- A barred controller is answered with the bar, whatever it wanted to change. -/
theorem exec_barred (hon : s.aecpOn m = true) (hbar : s.avdBarred m.controller ≠ 0) {c : Instr}
    (hc : c ∈ [Instr.acquireEntity m, .lockEntity m, .setName m]) :
    ∃ cmd fields, exec c s = .next (s.aecpAnswer m cmd (s.avdBarred m.controller) fields) := by
  simp only [List.mem_cons, List.not_mem_nil, or_false] at hc
  rcases hc with rfl | rfl | rfl
  · exact ⟨_, _, execAcquireEntity_barred hon hbar⟩
  · exact ⟨_, _, execLockEntity_barred hon hbar⟩
  · exact ⟨_, _, execSetName_barred hon hbar⟩

/-- REGISTER_UNSOLICITED_NOTIFICATION registers the controller, once. -/
theorem execRegister_registers (hon : s.aecpOn m = true) : execRegisterUnsolicitedNotification m s =
    .next ((s.withUnsolicited (registering s.str.unsolicited m.controller)).aecpAnswer m 36 0 []) := by
  rw [execRegisterUnsolicitedNotification, hon]
  rfl

/-- DEREGISTER_UNSOLICITED_NOTIFICATION leaves every other controller registered. -/
theorem execDeregister_deregisters (hon : s.aecpOn m = true) : execDeregisterUnsolicitedNotification m s =
    .next ((s.withUnsolicited (s.str.unsolicited.filter (· != m.controller))).aecpAnswer m 37 0 []) := by
  rw [execDeregisterUnsolicitedNotification, hon]
  rfl

theorem execAecpUnsupported_counts (hon : s.aecpOn m = true) :
    execAecpUnsupported m s = .next ((s.bump R.AVD_AECP_UNSUP_CNT).aecpAnswer m m.descType 1 []) := by
  rw [execAecpUnsupported, if_pos hon]

end

/-! ### O46 -/

/-- Settles O46: each change is made before the answer is sent, and an answer leaves what the change has set. -/
theorem aecpControl : Obligations.AecpControl := by
  refine ⟨fun s m hon hfree => ⟨?_, ?_, fun hty hw => ?_⟩, fun s m hon hbar => ⟨fun hw => ?_, fun c hc => ?_⟩,
    fun s m hon => ⟨?_, ?_, fun hw => ?_⟩⟩
  · obtain ⟨o, ho⟩ : ∃ o, o = if bitAt m.flags 31 then 0 else m.controller.toNat := ⟨_, rfl⟩
    have hlt : o < 2 ^ 64 := by
      rw [ho]
      split
      · decide
      · exact m.controller.isLt
    have hans := (s.avdAcquired (bitAt m.flags 31) o).aecpAnswer_keeps m 0 0 [o]
    have hent := (s.avdAcquired (bitAt m.flags 31) o).aecpAnswer_entity m 0 0 [o]
    exact ⟨_, execAcquireEntity_acquires hon hfree ho, hent.acquired.trans (s.avdAcquired_flag _ _),
      hent.owner.trans ((s.avdAcquired_owner _ hlt).trans ho), hans.str, hans.keeps.core⟩
  · have hans := (s.avdLocked (bitAt m.flags 0) m.controller).aecpAnswer_keeps m 1 0 []
    have hent := (s.avdLocked (bitAt m.flags 0) m.controller).aecpAnswer_entity m 1 0 []
    exact ⟨_, execLockEntity_locks hon hfree, hent.locked.trans (s.avdLocked_flag _ _), hans.str, hans.keeps.core⟩
  · exact (execSetName_names hon hfree hty).trans (congrArg _ ((SamePorts.refl s).setStr.aecpAnswer hw))
  · exact (execSetName_barred hon hbar).trans (congrArg _ ((SamePorts.refl s).aecpAnswer hw))
  · obtain ⟨cmd, fields, hexec⟩ := exec_barred hon hbar hc
    have hans := s.aecpAnswer_keeps m cmd (s.avdBarred m.controller) fields
    have hent := s.aecpAnswer_entity m cmd (s.avdBarred m.controller) fields
    exact ⟨_, hexec, hans.str, hent.owner, hent.acquired, hent.locked, hans.keeps.core⟩
  · have hans := (s.withUnsolicited (registering s.str.unsolicited m.controller)).aecpAnswer_keeps m 36 0 []
    refine ⟨_, execRegister_registers hon, ?_, fun c hc => ?_, fun hin => ?_, hans.keeps.core⟩
    · rw [hans.str]
      exact mem_registering.2 (.inr rfl)
    · rw [hans.str]
      exact mem_registering.2 (.inl hc)
    · rw [hans.str, registering_of_mem hin]
      rfl
  · have hans := (s.withUnsolicited (s.str.unsolicited.filter (· != m.controller))).aecpAnswer_keeps m 37 0 []
    refine ⟨_, execDeregister_deregisters hon, ?_, fun c hc => ?_, hans.keeps.core⟩
    · rw [hans.str]
      simp [State.withUnsolicited]
    · rw [hans.str]
      simp [State.withUnsolicited, hc]
  · exact (execAecpUnsupported_counts hon).trans (congrArg _ (((SamePorts.refl s).bump (by decide)).aecpAnswer hw))

/-! ### ADP and ACMP (R89) -/

/-- The entity advertises on P0, the one port with link, with the next index. -/
theorem State.entityAvailable_sends {s u : State} (h0 : s.link 0 = true) (h1 : s.link 1 = false) {i : Nat}
    (hi : i = (s.get R.AVD_AVAIL_INDEX_INDEX + 1) % 2 ^ 32) (hu : u = (s.put R.AVD_AVAIL_INDEX_INDEX i).put R.AVD_STATUS_ADVERTISING 1)
    {w : Wire} (hw : w = .avdecc ⟨avdGroup, s.portMac 0, none⟩ 0 0 0 [s.entityId, i, s.get R.AVD_CTRL_VALID_TIME,
      s.get R.AVD_MODEL_ID_LO_ID + s.get R.AVD_MODEL_ID_HI_ID * 2 ^ 32]) (ht : s.takesFrame 0 (s.tcOf 0) w = true) :
    s.entityAvailable = u.withFrame 0 (s.tcOf 0) w := by
  have hports : SamePorts s u := hu ▸ ((SamePorts.refl s).put (by decide)).put (by decide)
  have hkeeps : Keeps [R.AVD_AVAIL_INDEX_INDEX, R.AVD_STATUS_ADVERTISING] s u :=
    hu ▸ ((Keeps.refl _ s).put (by decide)).put (by decide)
  have hid : u.entityId = s.entityId := by
    rw [State.entityId, hkeeps.regs _ _ _ (by decide), hkeeps.regs _ _ _ (by decide), State.entityId]
  have hup : [0, 1].filter u.link = [0] := by simp [hports.link, h0, h1]
  have hsent : s.entityAvailable = ([0, 1].filter u.link).foldl (fun t p => t.avdSend p avdGroup 0 0 0 [u.entityId, i,
      u.get R.AVD_CTRL_VALID_TIME, u.get R.AVD_MODEL_ID_LO_ID + u.get R.AVD_MODEL_ID_HI_ID * 2 ^ 32]) u := by
    rw [hu, hi]
    rfl
  rw [hsent, hup, hid, hkeeps.regs R.AVD_CTRL_VALID_TIME _ _ (by decide), hkeeps.regs R.AVD_MODEL_ID_LO_ID _ _ (by decide),
    hkeeps.regs R.AVD_MODEL_ID_HI_ID _ _ (by decide)]
  subst hw
  exact hports.avdSend ht

/-- An ACMP response that the port takes is recorded and sent to the port its command came from. -/
theorem SamePorts.acmpAnswer {s t : State} (h : SamePorts s t) {m : AvdMsg} {msg status entry : Nat} {fields : List Nat}
    (ht : s.takesFrame m.port.val (s.tcOf 0) (s.acmpFrame m msg status fields) = true) :
    t.acmpAnswer m.port.val msg m.seq.toNat entry status fields =
      (((t.put R.AVD_LAST_ACMP_MSG msg).put R.AVD_LAST_ACMP_STATUS status).put R.AVD_LAST_ACMP_ENTRY entry).withFrame
        m.port.val (s.tcOf 0) (s.acmpFrame m msg status fields) :=
  (((h.put (by decide)).put (by decide)).put (by decide)).avdSend ht

section
variable {s : State} {m : AvdMsg}

theorem State.acmpTalker_answers {msg : Nat} {refuse : Bool} (hon : s.acmpOn m = true) (htx : s.aafTx m.entry.val = true) :
    s.acmpTalker m msg refuse = s.acmpAnswer m.port.val msg m.seq.toNat m.entry.val 0 (s.talkerFields m.entry.val) := by
  rw [State.acmpTalker, hon, if_neg (by decide), if_pos htx]

/-- CONNECT_TX of an entry that is no enabled AAF transmit entry. -/
theorem execConnectTx_refuses (hon : s.acmpOn m = true) (htx : s.aafTx m.entry.val = false) :
    execConnectTx m s = .next ((s.txNoEntry m.entry.val).acmpAnswer m.port.val 0 m.seq.toNat m.entry.val 4 []) := by
  rw [execConnectTx, State.acmpTalker, hon, htx]
  rfl

/-- NO_ENTRY recorded: the entry and the reason, with the event of a refused transmit entry (R112). -/
theorem State.txNoEntry_records (s : State) {n : Nat} (hn : n < 512) : (s.txNoEntry n).get R.TX_ADMIT_STATUS_ENTRY = n ∧
    (s.txNoEntry n).get R.TX_ADMIT_STATUS_REASON = 1 ∧ (s.txNoEntry n).sticky EV_TX_ADMIT_REFUSED = true := by
  have hev := State.raise_keeps (((s.put R.TX_ADMIT_STATUS_ENTRY n).put R.TX_ADMIT_STATUS_REASON 1).put R.TX_ADMIT_STATUS_VALID 1)
    EV_TX_ADMIT_REFUSED
  refine ⟨?_, ?_, State.sticky_raise_same _ _⟩
  · rw [State.txNoEntry, hev.regs _ _ _ (by decide), State.get_put_ne _ _ _ _ _ _ (by decide), State.get_put_ne _ _ _ _ _ _ (by decide),
      State.get_put_same]
    exact Nat.mod_eq_of_lt hn
  · rw [State.txNoEntry, hev.regs _ _ _ (by decide), State.get_put_ne _ _ _ _ _ _ (by decide), State.get_put_same]
    rfl

/-- The registers that an ACMP response writes, whether its port takes it or not. -/
def acmpFlds : List Fld := [R.AVD_LAST_ACMP_MSG, R.AVD_LAST_ACMP_STATUS, R.AVD_LAST_ACMP_ENTRY] ++ submitFlds

theorem State.acmpAnswer_keepsRest (s : State) (port msg seq entry status : Nat) (fields : List Nat) :
    Keeps acmpFlds s (s.acmpAnswer port msg seq entry status fields) :=
  ((((Keeps.refl _ s).put (by decide)).put (by decide)).put (by decide)).trans
    ((s.acmpAnswer_keeps port msg seq entry status fields).keeps.mono (List.subset_append_right _ _))

theorem State.acmpAnswer_status (s : State) {port msg seq entry status : Nat} {fields : List Nat} (hs : status < 32) :
    (s.acmpAnswer port msg seq entry status fields).get R.AVD_LAST_ACMP_STATUS = status := by
  rw [(s.acmpAnswer_keeps port msg seq entry status fields).keeps.regs _ _ _ (by decide), State.get_put_ne _ _ _ _ _ _ (by decide),
    State.get_put_same]
  exact Nat.mod_eq_of_lt hs

end

/-! ### A binding on its way (R61, R89) -/

theorem Fld.shadowKey_ne_of_base {f g : Fld} (h : f.base ≠ g.base) (hp : f.npages = 1) (hp' : g.npages = 1) (hpage : f.page = g.page)
    (i j i' j' : Nat) : f.shadowKey i j ≠ g.shadowKey i' j' := by
  have hkey := Fld.key_ne_of_base h i j i' j'
  simp only [Fld.shadowKey, Fld.pageOf, hp, hp', hpage, Nat.lt_irrefl, ↓reduceIte]
  omega

theorem State.shGet_shPut_same (s : State) (f : Fld) (v i j : Nat) : (s.shPut f v i j).shGet f i j = v % 2 ^ f.width := by
  simp [State.shGet, State.shPut, Sparse.find_set_same]

theorem State.shGet_shPut_ne (s : State) {f g : Fld} {i j i' j' : Nat} (v : Nat) (h : f.shadowKey i j ≠ g.shadowKey i' j') :
    (s.shPut f v i j).shGet g i' j' = s.shGet g i' j' := by
  simp only [State.shGet, State.shPut, Sparse.find_set_ne _ _ h]
  rfl

/-- The STREAM_ID of a receive entry in the shadow. -/
def State.sidShadowed (s : State) (n sid : Nat) : State :=
  (s.shPut R.STRX_ENTRY0_SID_LO (sid % 2 ^ 32) n).shPut R.STRX_ENTRY1_SID_HI (sid / 2 ^ 32) n

theorem State.sidShadowed_lo (s : State) (n sid : Nat) : (s.sidShadowed n sid).shGet R.STRX_ENTRY0_SID_LO n = sid % 2 ^ 32 := by
  have hne : R.STRX_ENTRY1_SID_HI.shadowKey n 0 ≠ R.STRX_ENTRY0_SID_LO.shadowKey n 0 :=
    Fld.shadowKey_ne_of_base (f := R.STRX_ENTRY1_SID_HI) (g := R.STRX_ENTRY0_SID_LO) (by decide) rfl rfl rfl n 0 n 0
  rw [State.sidShadowed, State.shGet_shPut_ne _ _ hne, State.shGet_shPut_same]
  exact Nat.mod_mod _ _

theorem State.sidShadowed_hi (s : State) (n : Nat) {sid : Nat} (h : sid < 2 ^ 64) :
    (s.sidShadowed n sid).shGet R.STRX_ENTRY1_SID_HI n = sid / 2 ^ 32 := by
  rw [State.sidShadowed, State.shGet_shPut_same]
  exact Nat.mod_eq_of_lt (Nat.div_lt_of_lt_mul h)

theorem State.shGet_congr {s t : State} (hs : t.shadow = s.shadow) (hr : t.regs = s.regs) (f : Fld) (i j : Nat) :
    t.shGet f i j = s.shGet f i j := by
  simp only [State.shGet, hs, State.get_congr hr]

/-- The STREAM_ID and the arm of its page on their way to the partner (R391). -/
def State.sidMirrored (s : State) (n sid : Nat) : State :=
  ((s.mirrorOut .hq (0x20000 + R.STRX_ENTRY0_SID_LO.off) n (sid % 2 ^ 32)).mirrorOut .hq (0x20000 + R.STRX_ENTRY1_SID_HI.off) n
    (sid / 2 ^ 32)).mirrorOut .hq 0x2000c 0 1

theorem State.sidMirrored_brace (s : State) (n sid : Nat) : BraceOnly s (s.sidMirrored n sid) := (BraceOnly.refl s).mirrorOut.mirrorOut.mirrorOut

/-- CONNECT_RX of an enabled, unbound AAF receive entry with ACMP_BIND, while neither a commit of its page nor another binding waits. -/
theorem execConnectRx_binds {s u : State} {m : AvdMsg} (hon : s.acmpOn m = true) (hrx : s.aafRx m.entry.val = true)
    (hbind : s.flag R.STRX_ENTRY2_ACMP_BIND m.entry.val = true) (hfree : (s.rx m.entry.val).bound = none)
    (hpage : s.pagePending 0x20 = false) (hwait : s.str.acmpWait = none)
    (hu : u = (s.sidShadowed m.entry.val m.stream.toNat).sidMirrored m.entry.val m.stream.toNat) :
    execConnectRx m s = .next { u with
      queue := u.queue ++ [⟨[0x20], false, .queued, none⟩]
      str := { u.str with acmpWait := some (m.entry.val, m.seq.toNat, m.controller, m.port.val) } } := by
  rw [execConnectRx, State.connectRx, hu]
  simp only [hon, hrx, hbind, hfree, hpage, hwait, Option.isSome_none, Bool.not_true, Bool.or_false, Bool.false_eq_true, ↓reduceIte]
  rfl

section
variable {s : State} {m : AvdMsg}

/-- DISCONNECT_RX of a bound entry. -/
theorem execDisconnectRx_releases (hon : s.acmpOn m = true) (hb : (s.rx m.entry.val).bound.isSome = true) :
    execDisconnectRx m s = .next ((s.setRx m.entry.val { s.rx m.entry.val with bound := none }).acmpAnswer m.port.val 8 m.seq.toNat
      m.entry.val 0 [s.rxSid m.entry.val]) := by
  rw [execDisconnectRx, hon]
  exact congrArg _ (if_pos hb)

theorem execGetRxState_tells (hon : s.acmpOn m = true) (hrx : s.aafRx m.entry.val = true) :
    execGetRxState m s = .next (s.acmpAnswer m.port.val 10 m.seq.toNat m.entry.val 0
      [s.rxSid m.entry.val, b2n (s.rx m.entry.val).bound.isSome]) := by
  rw [execGetRxState, hon]
  exact congrArg _ (if_pos hrx)

end

/-! ### O45 -/

/-- Settles O45: the advertisement, a talker's and a listener's answers, each recorded before it is sent, and the binding's commit. -/
theorem acmpRows : Obligations.AcmpRows := by
  refine ⟨fun s c hon hen h0 h1 hc hw => ?_, fun s c m msg hon htx hc hw => ?_, fun s m hon htx => ?_,
    fun s m hon hrx hbind hfree hpage hwait => ?_, fun s m hon hb hw => ?_, fun s m hon hrx hw => ?_⟩
  · have hexec : exec c s = .next s.entityAvailable := by
      rcases hc with rfl | ⟨m, rfl, hm⟩
      · show execAdpEntityAvailable s = _
        rw [execAdpEntityAvailable, if_pos (by simp [hon, hen])]
      · show execAdpEntityDiscover m s = _
        rw [execAdpEntityDiscover, if_pos (by simpa [hon, hen] using hm)]
    rw [hexec, State.entityAvailable_sends h0 h1 rfl rfl rfl hw]
  · have hexec : ∃ refuse, exec c s = .next (s.acmpTalker m msg refuse) := by
      simp only [List.mem_cons, List.not_mem_nil, or_false, Prod.mk.injEq] at hc
      rcases hc with ⟨rfl, rfl⟩ | ⟨rfl, rfl⟩ | ⟨rfl, rfl⟩ | ⟨rfl, rfl⟩
      · exact ⟨true, rfl⟩
      all_goals exact ⟨false, rfl⟩
    obtain ⟨refuse, hexec⟩ := hexec
    rw [hexec, State.acmpTalker_answers hon htx, (SamePorts.refl s).acmpAnswer hw]
  · obtain ⟨hentry, hreason, hev⟩ := s.txNoEntry_records m.entry.isLt
    have hans := (s.txNoEntry m.entry.val).acmpAnswer_keepsRest m.port.val 0 m.seq.toNat m.entry.val 4 []
    refine ⟨_, execConnectTx_refuses hon htx, State.acmpAnswer_status _ (by decide), (hans.regs _ _ _ (by decide)).trans hentry,
      (hans.regs _ _ _ (by decide)).trans hreason, ?_⟩
    exact (Calm.refl (s.txNoEntry m.entry.val)).acmpAnswer.sticky _ hev
  · obtain ⟨u, hu⟩ : ∃ u, u = (s.sidShadowed m.entry.val m.stream.toNat).sidMirrored m.entry.val m.stream.toNat := ⟨_, rfl⟩
    have hbrace : u = { s.sidShadowed m.entry.val m.stream.toNat with brace := u.brace } := hu ▸ State.sidMirrored_brace _ _ _
    have hshadow : u.shadow = (s.sidShadowed m.entry.val m.stream.toNat).shadow := by rw [hbrace]
    have hregs : u.regs = s.regs := by rw [hbrace]; rfl
    have hqueue : u.queue = s.queue := by rw [hbrace]; rfl
    have hwire : u.wire = s.wire := by rw [hbrace]; rfl
    have hstr : u.str = s.str := by rw [hbrace]; rfl
    exact ⟨_, execConnectRx_binds hon hrx hbind hfree hpage hwait hu, congrArg (· ++ _) hqueue,
      (State.shGet_congr hshadow hregs _ _ _).trans (s.sidShadowed_lo _ _),
      (State.shGet_congr hshadow hregs _ _ _).trans (s.sidShadowed_hi _ m.stream.isLt), hwire, hregs,
      congrArg (fun x : Streams => { x with acmpWait := some (m.entry.val, m.seq.toNat, m.controller, m.port.val) }) hstr⟩
  · exact (execDisconnectRx_releases hon hb).trans (congrArg _ ((SamePorts.refl s).setStr.acmpAnswer hw))
  · exact (execGetRxState_tells hon hrx).trans (congrArg _ ((SamePorts.refl s).acmpAnswer hw))

/-! ### ARP and IGMP (R87) -/

section
variable {s : State}

/-- A request for the device's address is answered with the port's own MAC address. -/
theorem execArpRequest_answers {p : Fin 8} {target : Word} {sender : ArpSender} (hup : s.netUp = true) (hen : s.flag R.RTP_CTRL_EN = true)
    (hmask : s.bit R.RTP_IFMASK_PORTS p.val = true) (hlink : s.link p.val = true) (haddr : target.toNat = s.get R.RTP_IPADDR_ADDR) :
    execArpRequest p target sender s = .next (s.ipSend p.val sender.mac.toNat none 0
      [target.toNat, s.portMac p.val, sender.ip.toNat, sender.mac.toNat]) := by
  simp [execArpRequest, hup, hen, hmask, hlink, haddr]

theorem State.rtpOn_of (hup : s.netUp = true) (hen : s.flag R.RTP_CTRL_EN = true) : s.rtpOn = true := by
  rw [State.rtpOn, hup, hen]
  rfl

/-- A querier of version 2 is noted. -/
def State.v2Noted (s : State) : State := { s with net := { s.net with v2Querier := true } }

/-- A query is answered on the one port of the mask, after a querier of version 2 is noted. -/
theorem execIgmpQuery_reports {t : State} {p : Fin 8} {v2 : Bool} {q : Nat} (hon : s.rtpOn = true)
    (hmask : s.bit R.RTP_IFMASK_PORTS p.val = true) (ht : t = if v2 then s.v2Noted else s)
    (hq : t.ifPorts = [q]) : execIgmpQuery p v2 s = .next (t.igmpReport q t.groups) := by
  have hall : execIgmpQuery p v2 s = .next (t.ifPorts.foldl (fun u p => u.igmpReport p u.groups) t) := by
    simp [execIgmpQuery, State.v2Noted, hon, hmask, ht]
  rw [hall, hq, List.foldl_cons, List.foldl_nil]

/-- A report in version 3 names every group in one datagram. -/
theorem State.igmpReport_v3 {q g : Nat} {gs : List Nat} (hv : s.net.v2Querier = false) (hr : s.flag R.RTP_CTRL_IGMP_V2 = false) :
    s.igmpReport q (g :: gs) = s.ipSend q (ipGroupMac 0xE0000016) (s.groupHead 0xE0000016 0 (some 1)) 1 (g :: gs) := by
  simp [State.igmpReport, hv, hr]

/-- A report in version 2 of one group goes to that group. -/
theorem State.igmpReport_v2 {q g : Nat} (hv : s.net.v2Querier = true) :
    s.igmpReport q [g] = s.ipSend q (ipGroupMac g) (s.groupHead g 0 (some 1)) 2 [g] := by
  simp [State.igmpReport, hv]

/-! ### SAP (R88) -/

theorem State.sapSend_one {q kind : Nat} {fields : List Nat} (hq : s.ifPorts = [q])
    (hw : s.takesFrame q (s.tcOf 0) (s.groupFrame q 0xEFFFFFFF 9875 (s.get R.RTP_IFMASK_TTL) kind fields) = true) :
    s.sapSend kind fields = s.withFrame q (s.tcOf 0) (s.groupFrame q 0xEFFFFFFF 9875 (s.get R.RTP_IFMASK_TTL) kind fields) := by
  rw [State.sapSend, hq]
  exact (SamePorts.refl s).ipSend hw

/-- Nothing is withdrawn while every session that is announced stays one. -/
theorem State.sapWithdraw_none (h : ∀ a ∈ s.str.announced, s.sapEntry a = true) : s.sapWithdraw = s := by
  have hgone : s.str.announced.filter (fun n => !s.sapEntry n) = [] := by simpa [List.filter_eq_nil_iff] using h
  rw [State.sapWithdraw, hgone]
  rfl

/-- The one session announced is withdrawn. -/
theorem State.sapWithdraw_one {n : Nat} (hon : s.rtpOn = true) (hsp : s.speaks = true) (ha : s.str.announced = [n])
    (hn : s.sapEntry n = false) :
    s.sapWithdraw = { s.sapSend 4 [n] with str := { (s.sapSend 4 [n]).str with announced := [] } } := by
  simp [State.sapWithdraw, ha, hn, hon, hsp]

/-- The one session that SAP announces, where nothing is to be withdrawn. -/
theorem execSapAnnounce_one {n : Nat} (hon : s.rtpOn = true) (hen : s.flag R.RTP_CTRL_SAP_TX_EN = true) (hsp : s.speaks = true)
    (hv : s.sapWithdraw = s) (hl : (List.range 512).filter s.sapEntry = [n]) : execSapAnnounce s =
      .next { s.sapSend 3 (s.sdp n) with str := { (s.sapSend 3 (s.sdp n)).str with announced := [n] } } := by
  simp [execSapAnnounce, hon, hen, hsp, hv, hl]

end

/-! ### The discovery table (R88) -/

/-- The discovery table holding these sessions. -/
def State.withDisc (s : State) (l : List (Nat × Nat)) : State := State.put { s with str := { s.str with disc := l } } R.RTP_DISC_COUNT l.length

/-- The key of a session. -/
def discKey (m : SapMsg) : Nat := m.origin.toNat * 65536 + m.hash.toNat

/-- The sessions that stay beside one of this key in this slot. -/
def State.discBeside (s : State) (key slot : Nat) : List (Nat × Nat) :=
  (s.str.disc.filter fun r => r.1 != key).filter fun r => r.2 != slot

theorem State.withDisc_count (s : State) (l : List (Nat × Nat)) : (s.withDisc l).get R.RTP_DISC_COUNT = l.length % 256 :=
  State.get_put_same _ _ _ _ _

/-- The slot that a session takes: its own, else the oldest record's in a full table, else the first free one. -/
def State.discSlot (s : State) (key : Nat) : Nat :=
  match s.str.disc.find? (fun r => r.1 == key) with
  | some r => r.2
  | none =>
    if 128 ≤ s.str.disc.length then (s.str.disc.head?.map (·.2)).getD 0
    else ((List.range 128).find? (fun k => s.str.disc.all (fun r => r.2 != k))).getD 0

/-- A session beside another has another key. -/
theorem State.ne_key_of_mem_discBeside {s : State} {key slot : Nat} {r : Nat × Nat} (h : r ∈ s.discBeside key slot) : r.1 ≠ key := by
  simp only [State.discBeside, List.mem_filter, bne_iff_ne] at h
  obtain ⟨⟨-, hkey⟩, -⟩ := h
  exact hkey

theorem State.discStore_keeps (s : State) (slot : Nat) (record : List Byte) : KeepsStr logFlds s (s.discStore slot record) := by
  unfold State.discStore
  dsimp only
  split
  · rw [State.setBytes_eq]
    exact ⟨(Keeps.refl _ s).set, rfl⟩
  · exact ⟨s.denyRecord_keeps _ _ _, ((RecordsOnly.refl s).denyRecord).str⟩

/-- A record that the protection permits stands in its slot, filled up with zeros. -/
theorem State.discStore_bytes {s : State} {slot a : Nat} {record : List Byte} (ha : a = s.get R.RTP_DISC_BASE_BASE * 4096 + 256 * slot)
    (hp : s.permits .sdma true a = true) :
    (s.discStore slot record).bytes a 256 = (record ++ List.replicate 256 0).take 256 := by
  have hlen : ((record ++ List.replicate 256 0).take 256).length = 256 := by
    rw [List.length_take, List.length_append, List.length_replicate]
    omega
  have hstore : s.discStore slot record = s.setBytes a ((record ++ List.replicate 256 0).take 256) := by
    rw [State.discStore, ← ha]
    exact if_pos hp
  have h := s.bytes_setBytes a ((record ++ List.replicate 256 0).take 256)
  rwa [hlen, ← hstore] at h

section
variable {s : State} {m : SapMsg}

theorem execSapRx_deletes (hon : s.rtpOn = true) (hen : s.flag R.RTP_CTRL_SAP_RX_EN = true) (hd : m.deletes = true) :
    execSapRx m s = .next (s.withDisc (s.str.disc.filter fun r => r.1 != discKey m)) := by
  rw [execSapRx, hon, hen, hd]
  rfl

theorem execSapRx_records {key slot : Nat} (hon : s.rtpOn = true) (hen : s.flag R.RTP_CTRL_SAP_RX_EN = true) (hd : m.deletes = false)
    (hkey : key = discKey m) (hslot : slot = s.discSlot key) :
    execSapRx m s = .next ((s.withDisc (s.discBeside key slot ++ [(key, slot)])).discStore slot m.record) := by
  rw [execSapRx, hon, hen, hd, State.withDisc, List.length_append, hslot, hkey]
  rfl

end

/-- What the protection permits does not hang on the sessions nor on registers other than the regions' (R74). -/
theorem State.withDisc_permits (s : State) (l : List (Nat × Nat)) (c : Cls) (wr : Bool) (a : Nat) :
    (s.withDisc l).permits c wr a = s.permits c wr a := by
  have hget {g : Fld} (hg : R.RTP_DISC_COUNT.base ≠ g.base) (i : Nat) : (s.withDisc l).get g i = s.get g i :=
    State.get_put_ne _ _ _ _ _ _ hg
  have hbits (n : Nat) : (s.withDisc l).permBits c n = s.permBits c n := by
    cases c with
    | boot => rfl
    | _ => exact hget (by decide) n
  have hin (n : Nat) : (s.withDisc l).inRegion n a = s.inRegion n a := by
    rw [State.inRegion, State.flag, hget (by decide), hget (by decide), hget (by decide), State.inRegion, State.flag]
  have hgrant : (s.withDisc l).granted c wr a = s.granted c wr a := by
    simp only [State.granted, hin, hbits]
  rw [State.permits, hgrant, hget (by decide), State.permits]
  rfl

/-- A session received: its one row in the table, its slot, and its record in memory. -/
theorem State.discRecorded {s t : State} {key slot : Nat} {record : List Byte}
    (ht : t = (s.withDisc (s.discBeside key slot ++ [(key, slot)])).discStore slot record) :
    t.get R.RTP_DISC_COUNT = t.str.disc.length % 256 ∧ (key, slot) ∈ t.str.disc ∧ (∀ r ∈ t.str.disc, r.1 = key → r.2 = slot) ∧
      (s.permits .sdma true (s.get R.RTP_DISC_BASE_BASE * 4096 + 256 * slot) = true →
        t.bytes (s.get R.RTP_DISC_BASE_BASE * 4096 + 256 * slot) 256 = (record ++ List.replicate 256 0).take 256) := by
  have hstore := (s.withDisc (s.discBeside key slot ++ [(key, slot)])).discStore_keeps slot record
  have hdisc : t.str.disc = s.discBeside key slot ++ [(key, slot)] := by
    rw [ht, hstore.str]
    rfl
  refine ⟨?_, ?_, fun r hr hk => ?_, fun hp => ?_⟩
  · rw [hdisc, ht, hstore.keeps.regs _ _ _ (by decide), State.withDisc_count]
  · rw [hdisc]
    exact List.mem_append_right _ (List.mem_singleton_self _)
  · rw [hdisc] at hr
    rcases List.mem_append.1 hr with hr | hr
    · exact absurd hk (State.ne_key_of_mem_discBeside hr)
    · rw [List.mem_singleton.1 hr]
  · have hbase : (s.withDisc (s.discBeside key slot ++ [(key, slot)])).get R.RTP_DISC_BASE_BASE = s.get R.RTP_DISC_BASE_BASE :=
      State.get_put_ne _ _ _ _ _ _ (by decide)
    rw [ht]
    exact State.discStore_bytes (by rw [hbase]) ((s.withDisc_permits _ _ _ _).trans hp)

/-! ### O44 -/

/-- Settles O44: each answer and announcement is one frame that its port takes, and the table has one row for each session. -/
theorem ipServices : Obligations.IpServices := by
  refine ⟨fun s p target sender mac hup hen hmask hlink haddr hw => ?_,
    fun s p q g hup hen hmask hq => ⟨fun gs hv hr hgs hw => ?_, fun hg hw => ?_⟩,
    fun s q n hup hen hsp hq => ⟨fun htx hl ha hw => ?_, fun ha hn hw => ?_⟩, fun s m hup hen hrx => ?_⟩
  · exact (execArpRequest_answers hup hen hmask hlink haddr).trans (congrArg _ ((SamePorts.refl s).ipSend hw))
  · have hon := State.rtpOn_of hup hen
    refine (execIgmpQuery_reports (t := s) hon hmask rfl hq).trans (congrArg _ ?_)
    rw [hgs, State.igmpReport_v3 hv hr]
    exact (SamePorts.refl s).ipSend hw
  · have hon := State.rtpOn_of hup hen
    have hports : SamePorts s s.v2Noted := ⟨rfl, rfl, rfl, rfl, fun _ _ _ _ => rfl⟩
    have hgroups : s.v2Noted.groups = [g] := hg
    refine (execIgmpQuery_reports (t := s.v2Noted) hon hmask rfl hq).trans (congrArg _ ?_)
    rw [hgroups, State.igmpReport_v2 rfl]
    exact hports.ipSend hw
  · have hentry : s.sapEntry n = true := by
      have hmem : n ∈ (List.range 512).filter s.sapEntry := hl ▸ List.mem_singleton_self n
      exact (List.mem_filter.1 hmem).2
    have hkept : s.sapWithdraw = s := State.sapWithdraw_none fun a h => ha a h ▸ hentry
    refine (execSapAnnounce_one (State.rtpOn_of hup hen) htx hsp hkept hl).trans (congrArg _ ?_)
    rw [State.sapSend_one hq hw]
    rfl
  · rw [State.sapWithdraw_one (State.rtpOn_of hup hen) hsp ha hn, State.sapSend_one hq hw]
    rfl
  · have hon := State.rtpOn_of hup hen
    intro key
    cases hd : m.deletes with
    | true =>
      refine ⟨_, execSapRx_deletes hon hrx hd, State.withDisc_count _ _, fun _ => ⟨fun r hr => ?_, rfl⟩, fun h => nomatch h⟩
      exact bne_iff_ne.1 (List.mem_filter.1 hr).2
    | false =>
      obtain ⟨hcount, hmem, hone, hbytes⟩ := State.discRecorded (s := s) (key := key) (slot := s.discSlot key) (record := m.record) rfl
      exact ⟨_, execSapRx_records hon hrx hd rfl rfl, hcount, (fun h => nomatch h), fun _ => ⟨_, hmem, hone, hbytes⟩⟩

end Sys2Proof.Machine

/-! PROOFS. Ports, frames and PLCA: management accesses (O37), pauses (O36), links (O34), PLCA (O38) and received frames (O35). -/

namespace Sys2Proof.Machine

/-! ### Changes of registers alone -/

section
variable {l : List Fld} {s0 s : State}

theorem RegsOnly.refl (l : List Fld) (s : State) : RegsOnly l s s := ⟨rfl, fun _ _ _ _ => rfl⟩

theorem RegsOnly.put (h : RegsOnly l s0 s) {f : Fld} (hf : f ∈ l) {v i j : Nat} : RegsOnly l s0 (s.put f v i j) := by
  obtain ⟨heq, hregs⟩ := h
  exact ⟨(congrArg (fun u : State => u.put f v i j) heq).trans rfl,
    fun g i' j' hg => (s.get_put_ne v i j i' j' (hg f hf)).trans (hregs g i' j' hg)⟩

theorem RegsOnly.bump (h : RegsOnly l s0 s) {f : Fld} (hf : f ∈ l) (hsat : R.PG_STATUS_SAT_SEEN ∈ l) {i j : Nat} :
    RegsOnly l s0 (s.bump f i j) := by
  unfold State.bump State.bumpBy
  split
  · exact (h.put hf).put hsat
  · exact h.put hf

theorem RegsOnly.mono {l' : List Fld} (hl : l ⊆ l') (h : RegsOnly l s0 s) : RegsOnly l' s0 s := by
  obtain ⟨heq, hregs⟩ := h
  exact ⟨heq, fun g i j hg => hregs g i j fun f hf => hg f (hl hf)⟩

theorem RegsOnly.wire (h : RegsOnly l s0 s) : s.wire = s0.wire := by
  obtain ⟨heq, -⟩ := h
  rw [heq]

theorem RegsOnly.flag (h : RegsOnly l s0 s) {g : Fld} (hg : ∀ f ∈ l, f.base ≠ g.base) (i j : Nat) : s.flag g i j = s0.flag g i j := by
  obtain ⟨-, hregs⟩ := h
  rw [State.flag, hregs g i j hg]
  rfl

theorem RegsAt.refl (l : List Fld) (i : Nat) (s : State) : RegsAt l i s s := ⟨rfl, fun _ _ _ _ => rfl⟩

theorem RegsAt.put {i : Nat} (h : RegsAt l i s0 s) {f : Fld} (hf : f ∈ l) {v j : Nat} : RegsAt l i s0 (s.put f v i j) := by
  obtain ⟨heq, hregs⟩ := h
  refine ⟨(congrArg (fun u : State => u.put f v i j) heq).trans rfl, fun g i' j' hg => ?_⟩
  have hkey : f.key i j ≠ g.key i' j' := fun e => by
    obtain ⟨hbase, hinst, -⟩ := (Fld.key_eq_iff f g i j i' j').1 e
    exact hg.elim (fun hl => hl f hf hbase) (fun hi => hi hinst)
  exact (s.get_put_key v hkey).trans (hregs g i' j' hg)

end

/-! ### Management accesses (R147) -/

theorem State.mdioStart_busy {s : State} (hb : s.flag R.MDIO_CMD_BUSY = true) (op phy reg : Nat) :
    s.mdioStart op phy reg = s.raise EV_HOST_ERR := if_pos hb

theorem State.mdioStart_idle {s : State} (hb : s.flag R.MDIO_CMD_BUSY = false) (op phy reg : Nat) :
    s.mdioStart op phy reg = ((((s.send (.mdio op phy reg (s.get R.MDIO_DATA_DATA))).put R.MDIO_CMD_OP op).put R.MDIO_CMD_PHYAD phy).put
      R.MDIO_CMD_REG_DEV reg).put R.MDIO_CMD_BUSY 1 := by
  rw [State.mdioStart, hb, if_neg Bool.false_ne_true]
  rfl

/-- The registers that show an access. -/
def mdioCmdFlds : List Fld := [R.MDIO_CMD_OP, R.MDIO_CMD_PHYAD, R.MDIO_CMD_REG_DEV, R.MDIO_CMD_BUSY]

/-- An access shows in MDIO_CMD as it was asked for, with BUSY, and nothing else changes but what has been sent. -/
theorem State.mdioStart_leaves {s : State} (hb : s.flag R.MDIO_CMD_BUSY = false) {op : Nat} (hop : op < 8) (phy reg : Fin 32) :
    let t := s.mdioStart op phy.val reg.val
    t.flag R.MDIO_CMD_BUSY = true ∧ t.wire = .mdio op phy.val reg.val (s.get R.MDIO_DATA_DATA) :: s.wire ∧ t.get R.MDIO_CMD_OP = op ∧
      t.get R.MDIO_CMD_PHYAD = phy.val ∧ t.get R.MDIO_CMD_REG_DEV = reg.val ∧
      RegsOnly mdioCmdFlds { s with wire := t.wire } t := by
  intro t
  have ht : t = _ := State.mdioStart_idle hb op phy.val reg.val
  have hwire : t.wire = (s.send (.mdio op phy.val reg.val (s.get R.MDIO_DATA_DATA))).wire := by
    rw [ht]
    rfl
  refine ⟨?_, ?_, ?_, ?_, ?_, ?_⟩
  · rw [ht, State.flag, State.get_put_same]
    rfl
  · exact hwire
  · rw [ht, State.get_put_ne _ _ _ _ _ _ (by decide), State.get_put_ne _ _ _ _ _ _ (by decide),
      State.get_put_ne _ _ _ _ _ _ (by decide), State.get_put_same]
    exact Nat.mod_eq_of_lt hop
  · rw [ht, State.get_put_ne _ _ _ _ _ _ (by decide), State.get_put_ne _ _ _ _ _ _ (by decide), State.get_put_same]
    exact Nat.mod_eq_of_lt phy.isLt
  · rw [ht, State.get_put_ne _ _ _ _ _ _ (by decide), State.get_put_same]
    exact Nat.mod_eq_of_lt reg.isLt
  · rw [hwire, ht]
    exact ((((RegsOnly.refl mdioCmdFlds (s.send _)).put (by decide)).put (by decide)).put (by decide)).put (by decide)

/-- The five accesses, each with the operation that it asks for. -/
theorem exec_mdio {s : State} {who : Initiator} {c : Instr} {op : Nat} {phy reg : Fin 32} (ht : s.takes who mdioCmdAddr = true)
    (hc : (c, op) ∈ [(Instr.mdioC22Read who phy reg, 0), (.mdioC22Write who phy reg, 1), (.mdioC45Address who phy reg, 2),
      (.mdioC45Write who phy reg, 3), (.mdioC45Read who phy reg, 4)]) :
    exec c s = .next (s.mdioStart op phy.val reg.val) ∧ op < 8 := by
  simp only [List.mem_cons, List.not_mem_nil, or_false, Prod.mk.injEq] at hc
  rcases hc with ⟨rfl, rfl⟩ | ⟨rfl, rfl⟩ | ⟨rfl, rfl⟩ | ⟨rfl, rfl⟩ | ⟨rfl, rfl⟩
  all_goals exact ⟨congrArg _ (State.command_taken _ ht), by decide⟩

/-- The end of an access: BUSY clears, and a read shows its result. -/
theorem execMdioDone_ends {s : State} (d : BitVec 16) (hb : s.flag R.MDIO_CMD_BUSY = true) :
    exec (.mdioDone d) s = .next (if s.get R.MDIO_CMD_OP = 0 ∨ s.get R.MDIO_CMD_OP = 4
      then (s.put R.MDIO_CMD_BUSY 0).put R.MDIO_DATA_DATA d.toNat else s.put R.MDIO_CMD_BUSY 0) := by
  show execMdioDone d s = _
  rw [execMdioDone, hb]
  rfl

/-! ### O37 -/

/-- Settles O37: the five accesses differ in the operation alone, and the end writes the data of a read. -/
theorem mdioRows : Obligations.MdioRows := by
  refine ⟨fun s who c op phy reg ht hc => ?_, fun s d hb => ?_⟩
  · obtain ⟨he, hop⟩ := exec_mdio ht hc
    refine ⟨fun hb => ⟨_, he, State.mdioStart_leaves hb hop phy reg⟩, fun hb => ?_⟩
    rw [he, State.mdioStart_busy hb]
  · have hend : RegsOnly [R.MDIO_CMD_BUSY, R.MDIO_DATA_DATA] s (s.put R.MDIO_CMD_BUSY 0) := (RegsOnly.refl _ s).put (by decide)
    have hdone : (s.put R.MDIO_CMD_BUSY 0).flag R.MDIO_CMD_BUSY = false := by
      rw [State.flag_put_same]
      rfl
    rw [execMdioDone_ends d hb]
    by_cases hread : s.get R.MDIO_CMD_OP = 0 ∨ s.get R.MDIO_CMD_OP = 4
    · rw [if_pos hread, if_pos hread]
      refine ⟨_, rfl, (State.flag_put_ne _ _ _ _ _ _ (by decide)).trans hdone, hend.put (by decide), ?_⟩
      rw [State.get_put_same]
      exact Nat.mod_eq_of_lt d.isLt
    · rw [if_neg hread, if_neg hread]
      exact ⟨_, rfl, hdone, hend, State.get_put_ne _ _ _ _ _ _ (by decide)⟩

/-! ### What leaves the ports' hidden state, the streams and the fuses as they were -/

/-- Neither the bridge and the ports behind their registers nor the streams differ between s and t, nor what `Keeps` names, and no register
but those of the fields listed. -/
structure KeepsNet (l : List Fld) (s t : State) : Prop where
  keeps : Keeps l s t
  net : t.net = s.net
  str : t.str = s.str

section
variable {l : List Fld} {s0 s : State}

theorem KeepsNet.refl (l : List Fld) (s : State) : KeepsNet l s s := ⟨Keeps.refl l s, rfl, rfl⟩

theorem KeepsNet.trans {t u : State} (h : KeepsNet l s t) (h' : KeepsNet l t u) : KeepsNet l s u :=
  ⟨h.keeps.trans h'.keeps, h'.net.trans h.net, h'.str.trans h.str⟩

/-- A change of registers, of memory or of the event log is none of the net's or the streams'. -/
theorem KeepsNet.records {t : State} (h : KeepsNet l s0 s) (hk : Keeps l s t) (hr : RecordsOnly s t) : KeepsNet l s0 t :=
  h.trans ⟨hk, by rw [hr], by rw [hr]⟩

theorem KeepsNet.put (h : KeepsNet l s0 s) {f : Fld} (hf : f ∈ l) {v i j : Nat} : KeepsNet l s0 (s.put f v i j) :=
  h.records ((Keeps.refl l s).put hf) (RecordsOnly.refl s).put

theorem KeepsNet.bump (h : KeepsNet l s0 s) {f : Fld} (hf : f ∈ l) (hsat : R.PG_STATUS_SAT_SEEN ∈ l) {i j : Nat} :
    KeepsNet l s0 (s.bump f i j) := h.records ((Keeps.refl l s).bump hf hsat) (RecordsOnly.refl s).bump

theorem KeepsNet.raise (h : KeepsNet l s0 s) (hl : eventFlds ⊆ l) {e : Nat} : KeepsNet l s0 (s.raise e) :=
  h.records ((Keeps.refl l s).raise hl) (RecordsOnly.refl s).raise

theorem KeepsNet.send (h : KeepsNet l s0 s) {o : Out} : KeepsNet l s0 (s.send o) := h.trans ⟨(Keeps.refl l s).send, rfl, rfl⟩

theorem KeepsNet.setPtp (h : KeepsNet l s0 s) {ptp : Ptp} : KeepsNet l s0 { s with ptp := ptp } := h.trans ⟨(Keeps.refl l s).set, rfl, rfl⟩

theorem KeepsNet.ite {t u : State} {c : Prop} [Decidable c] (ht : KeepsNet l s0 t) (hu : KeepsNet l s0 u) :
    KeepsNet l s0 (if c then t else u) := by
  split
  · exact ht
  · exact hu

theorem KeepsNet.when (h : KeepsNet l s0 s) {b : Bool} {f : State → State} (hf : ∀ t, KeepsNet l s0 t → KeepsNet l s0 (f t)) :
    KeepsNet l s0 (s.when b f) := KeepsNet.ite (hf s h) h

theorem KeepsNet.each (h : KeepsNet l s0 s) {n : Nat} {f : State → Nat → State} (hf : ∀ t k, KeepsNet l s0 t → KeepsNet l s0 (f t k)) :
    KeepsNet l s0 (s.each n f) := State.each_rec (P := fun _ => KeepsNet l s0) h fun k t _ => hf t k

end

/-! ### Pauses sent (R130, R132) -/

/-- With PAUSE_GEN at 1 a port of P0 to P5 sends a PAUSE, and counts it as a frame sent. -/
theorem State.sendPause_pause {s : State} {p : Nat} (hp : p < 6) (hgen : s.get R.MAC_CTRL_PAUSE_GEN p = 1) (quanta : Nat) :
    s.sendPause p quanta = ((s.send (.net p (.pause 1 0 quanta))).bump R.PAUSE_TX_CNT p).bump R.TX_OK_CNT p := by
  have hframe : s.pauseFrame p quanta = some (.pause 1 0 quanta) := by simp [State.pauseFrame, hgen, hp]
  rw [State.sendPause, hframe]

/-- The registers that count a pause sent. -/
def pauseSentFlds : List Fld := [R.PAUSE_TX_CNT, R.TX_OK_CNT, R.PG_STATUS_SAT_SEEN]

theorem State.sendPause_counts {s : State} {p : Nat} (hp : p < 6) (hgen : s.get R.MAC_CTRL_PAUSE_GEN p = 1) (quanta : Nat) :
    RegsOnly pauseSentFlds (s.send (.net p (.pause 1 0 quanta))) (s.sendPause p quanta) := by
  rw [State.sendPause_pause hp hgen]
  exact ((RegsOnly.refl _ _).bump (by decide) (by decide)).bump (by decide) (by decide)

section
variable {s : State} {p : Fin 8} (hup : s.netUp = true) (hlink : s.link p.val = true) (hact : s.flag R.MAC_STATUS_TX_PAUSE_ACTIVE p.val = true)
include hup hlink hact

theorem execPauseRefresh_sends (hhigh : s.poolLow p.val = false) :
    exec (.pauseRefresh p) s = .next (s.sendPause p.val (s.get R.MAC_PAUSE_CFG_QUANTA p.val)) := by
  show execPauseRefresh p s = _
  simp [execPauseRefresh, hup, hlink, hact, hhigh]

theorem execPauseCancel_sends (hlow : s.poolLow p.val = true) :
    exec (.pauseCancel p) s = .next ((s.sendPause p.val 0).put R.MAC_STATUS_TX_PAUSE_ACTIVE 0 p.val) := by
  show execPauseCancel p s = _
  simp [execPauseCancel, hup, hlink, hact, hlow]

end

/-! ### Pauses received (R134 to R137) -/

theorem State.heard_of_netUp {s : State} (h : s.netUp = true) : s.dev ≠ .off ∧ s.dev ≠ .sleep ∧ s.plls.clockLost = false := by
  obtain ⟨hdev, hclk⟩ : (s.dev = .ready ∨ s.dev = .run ∨ s.dev = .safe) ∧ s.plls.clockLost = false := by
    simpa [State.netUp, or_assoc] using h
  rcases hdev with hdev | hdev | hdev
  all_goals simp [hdev, hclk]

/-- BOOT and HELD hear the ports and take no frame from them (R123). -/
theorem State.heard_of_dark {s : State} (h : s.dev = .boot ∨ s.dev = .held) : s.dev ≠ .off ∧ s.dev ≠ .sleep ∧ s.netUp = false := by
  rcases h with h | h
  all_goals simp [State.netUp, h]

/-- Where the device hears a port it judges each MAC control frame by its state (R123). -/
theorem execPauseRx_heard {s : State} {p : Fin 8} (f : PauseFrame) (hoff : s.dev ≠ .off) (hsleep : s.dev ≠ .sleep)
    (hclk : s.plls.clockLost = false) (hlink : s.link p.val = true) :
    exec (.pauseRx p f) s = .next (if s.netUp then (s.bump R.RX_OK_CNT p.val).macControl p.val f else s.bump R.STATE_DISC_CNT p.val) := by
  show execPauseRx p f s = _
  cases hup : s.netUp
  all_goals simp [execPauseRx, hoff, hsleep, hclk, hlink, hup]

theorem execPauseRx_netUp {s : State} {p : Fin 8} (f : PauseFrame) (hup : s.netUp = true) (hlink : s.link p.val = true) :
    exec (.pauseRx p f) s = .next ((s.bump R.RX_OK_CNT p.val).macControl p.val f) := by
  obtain ⟨hoff, hsleep, hclk⟩ := State.heard_of_netUp hup
  rw [execPauseRx_heard f hoff hsleep hclk hlink, if_pos hup]

/-- A PAUSE that the port honours: time 0 releases the port, any other pauses it, with the event at the change (R136). -/
theorem State.pauseAct_pause {s : State} {p q : Nat} {f : PauseFrame} (hhon : s.get R.MAC_CTRL_PAUSE_HONOUR p ≠ 2) (hop : f.opcode = 1)
    (hq : f.quanta = [q]) : s.pauseAct p f = if q = 0 then s.put R.MAC_STATUS_RX_PAUSED 0 p
      else if s.flag R.MAC_STATUS_RX_PAUSED p then s else (s.put R.MAC_STATUS_RX_PAUSED 1 p).raise EV_PAUSE_RCVD := by
  simp [State.pauseAct, hhon, hop, hq]

/-- The registers that a PAUSE changes. -/
def pausedFlds : List Fld := R.MAC_STATUS_RX_PAUSED :: eventFlds

theorem State.flag_put_raise (s : State) {f : Fld} (v i e : Nat) (hf : ∀ g ∈ eventFlds, g.base ≠ f.base) :
    ((s.put f v i).raise e).flag f i = (v % 2 ^ f.width == 1) :=
  ((State.raise_keeps _ e).flag hf i 0).trans (s.flag_put_same f v i 0)

theorem State.pauseAct_leaves {s : State} {p q : Nat} {f : PauseFrame} (hhon : s.get R.MAC_CTRL_PAUSE_HONOUR p ≠ 2) (hop : f.opcode = 1)
    (hq : f.quanta = [q]) : Keeps pausedFlds s (s.pauseAct p f) ∧ (s.pauseAct p f).flag R.MAC_STATUS_RX_PAUSED p = decide (q ≠ 0) ∧
      (q ≠ 0 → s.flag R.MAC_STATUS_RX_PAUSED p = false → (s.pauseAct p f).sticky EV_PAUSE_RCVD = true) := by
  have hput : ∀ v, Keeps pausedFlds s (s.put R.MAC_STATUS_RX_PAUSED v p) := fun v => (Keeps.refl _ s).put (List.mem_cons_self ..)
  rw [State.pauseAct_pause hhon hop hq]
  by_cases h0 : q = 0
  · rw [if_pos h0]
    refine ⟨hput 0, ?_, fun h => absurd h0 h⟩
    rw [State.flag_put_same]
    simp [h0]
  · rw [if_neg h0]
    cases hfl : s.flag R.MAC_STATUS_RX_PAUSED p with
    | true => exact ⟨Keeps.refl _ s, by simp [hfl, h0], fun _ h => nomatch h⟩
    | false =>
      refine ⟨(hput 1).raise (List.subset_cons_self _ _), ?_, fun _ _ => State.sticky_raise_same _ _⟩
      refine (State.flag_put_raise s 1 p EV_PAUSE_RCVD (by decide)).trans ?_
      rw [decide_eq_true h0]
      rfl

/-- The frame counts as accepted and as a pause, then the port obeys it. -/
theorem State.macControl_pause {s : State} {p : Nat} {f : PauseFrame} (hp : p < 6) (hda : s.macControlDa p f.da.toNat = true)
    (hop : f.opcode = 1) : s.macControl p f = (s.bump R.PAUSE_RX_CNT p).pauseAct p f := by
  simp [State.macControl, hp, hda, hop]

theorem State.macControl_unknown {s : State} {p : Nat} (f : PauseFrame) (hp : 6 ≤ p) : s.macControl p f = s.bump R.MACCTL_UNK_CNT p := by
  simp [State.macControl, Nat.not_lt.2 hp]

/-- A counter that counts leaves other registers. -/
theorem State.bump_keeps (s : State) (f : Fld) (i j : Nat) : Keeps [f, R.PG_STATUS_SAT_SEEN] s (s.bump f i j) :=
  (Keeps.refl _ s).bump (by simp) (by simp)

theorem State.bump_macControlDa (s : State) (p da : Nat) : (s.bump R.RX_OK_CNT p).macControlDa p da = s.macControlDa p da := by
  have h := s.bump_keeps R.RX_OK_CNT p 0
  simp [State.macControlDa, State.portMac, h.regs R.MAC_ADDR_LO_ADDR _ _ (by decide), h.regs R.MAC_ADDR_HI_ADDR _ _ (by decide)]

/-! ### Single bits of a field -/

/-- Adding a power of two whose bit is not set changes no other bit. -/
theorem testBit_add_two_pow {w k m : Nat} (hk : w.testBit k = false) (hm : m ≠ k) : (2 ^ k + w).testBit m = w.testBit m := by
  rcases Nat.lt_or_gt_of_ne hm with hlt | hgt
  · exact Nat.testBit_two_pow_add_gt hlt w
  · obtain ⟨d, rfl⟩ : ∃ d, m = d + (k + 1) := ⟨m - (k + 1), by omega⟩
    have hhigh : (2 ^ k + w) / 2 ^ (k + 1) = w / 2 ^ (k + 1) := by
      rw [Nat.testBit_eq_decide_div_mod_eq, decide_eq_false_iff_not] at hk
      rw [Nat.pow_succ, ← Nat.div_div_eq_div_mul, ← Nat.div_div_eq_div_mul, Nat.add_comm, Nat.add_div_right _ (Nat.two_pow_pos k)]
      omega
    rw [← Nat.testBit_div_two_pow, hhigh, Nat.testBit_div_two_pow]

/-- A bit cleared leaves the others as they were. -/
theorem bitAt_setBit_false (v k m : Nat) : bitAt (setBit v k false) m = (bitAt v m && m != k) := by
  by_cases hm : m = k
  · rw [hm, bitAt_setBit_same]
    simp
  cases hk : bitAt v k with
  | false => simp [setBit, hk, hm]
  | true =>
    have hset : setBit v k false = v - 2 ^ k := by simp [setBit, hk]
    have hle : 2 ^ k ≤ v := Nat.ge_two_pow_of_testBit (by rwa [← bitAt_eq_testBit])
    have hclear : (v - 2 ^ k).testBit k = false := by rw [← bitAt_eq_testBit, ← hset, bitAt_setBit_same]
    have hsame := testBit_add_two_pow hclear hm
    rw [Nat.add_sub_cancel' hle] at hsame
    simp [hset, bitAt_eq_testBit, hsame, hm]

theorem State.bit_putBit_false (s : State) (f : Fld) {m : Nat} (k i j : Nat) (hm : m < f.width) :
    (s.putBit f k false i j).bit f m i j = (s.bit f m i j && m != k) := by
  rw [State.bit, State.putBit, State.get_put_same, bitAt_eq_testBit, Nat.testBit_mod_two_pow, ← bitAt_eq_testBit, bitAt_setBit_false]
  simp [hm, State.bit]

/-! ### O36 -/

/-- Settles O36: each clause is the one change that its command makes, the counters apart. -/
theorem pauseRows : Obligations.PauseRows := by
  refine ⟨fun s p f q hup hlink hp hda hop hq hhon => ?_, fun s p f hup hlink hp => ?_, fun s p f hdev hclk hlink => ?_,
    fun s p hpow => ⟨?_, fun k => ?_⟩, fun s p hup hlink hact hp hgen => ⟨fun hhigh => ?_, fun hlow => ?_⟩⟩
  · have hok := s.bump_keeps R.RX_OK_CNT p.val 0
    have hrx := (s.bump R.RX_OK_CNT p.val).bump_keeps R.PAUSE_RX_CNT p.val 0
    have hhon' : ((s.bump R.RX_OK_CNT p.val).bump R.PAUSE_RX_CNT p.val).get R.MAC_CTRL_PAUSE_HONOUR p.val ≠ 2 := by
      rwa [hrx.regs _ _ _ (by decide), hok.regs _ _ _ (by decide)]
    obtain ⟨hkeeps, hflag, hsticky⟩ := State.pauseAct_leaves hhon' hop hq
    have hexec := execPauseRx_netUp f hup hlink
    rw [State.macControl_pause hp ((s.bump_macControlDa p.val f.da.toNat).trans hda) hop] at hexec
    refine ⟨_, hexec, hflag, ?_, ?_, fun h0 hwas => hsticky h0 ?_⟩
    · rw [hkeeps.regs _ _ _ (by decide), State.get_bump_same _ _ _ _ (by decide), hok.regs _ _ _ (by decide)]
    · rw [hkeeps.regs _ _ _ (by decide), hrx.regs _ _ _ (by decide), State.get_bump_same _ _ _ _ (by decide)]
    · rw [hrx.flag (by decide), hok.flag (by decide), hwas]
  · rw [execPauseRx_netUp f hup hlink, State.macControl_unknown f hp]
  · obtain ⟨hoff, hsleep, hdark⟩ := State.heard_of_dark hdev
    rw [execPauseRx_heard f hoff hsleep hclk hlink, hdark, if_neg Bool.false_ne_true]
  · refine ⟨s.put R.MAC_STATUS_RX_PAUSED 0 p.val, ?_, s.flag_put_same _ _ _ _, (RegsAt.refl _ _ s).put (by simp)⟩
    show execPauseTimerExpiry p none s = _
    simp [execPauseTimerExpiry, hpow]
  · refine ⟨s.putBit R.MAC_STATUS_PFC_PAUSED k.val false p.val, ?_, (RegsAt.refl _ _ s).put (by simp),
      fun j hj => State.bit_putBit_false s _ _ _ _ hj⟩
    show execPauseTimerExpiry p (some k) s = _
    simp [execPauseTimerExpiry, hpow]
  · have hsent := State.sendPause_counts hp hgen (s.get R.MAC_PAUSE_CFG_QUANTA p.val)
    refine ⟨_, execPauseRefresh_sends hup hlink hact (decide_eq_false (Nat.not_le.2 hhigh)), hsent.wire,
      (hsent.flag (by decide) _ _).trans hact, ?_⟩
    rw [hsent.wire]
    exact hsent
  · have hsent := State.sendPause_counts hp hgen 0
    have hput := (hsent.mono (l' := [R.PAUSE_TX_CNT, R.TX_OK_CNT, R.PG_STATUS_SAT_SEEN, R.MAC_STATUS_TX_PAUSE_ACTIVE])
      (by simp [pauseSentFlds])).put (f := R.MAC_STATUS_TX_PAUSE_ACTIVE) (by decide) (v := 0) (i := p.val) (j := 0)
    refine ⟨_, execPauseCancel_sends hup hlink hact (decide_eq_true hlow), hput.wire, State.flag_put_same _ _ _ _ 0, ?_⟩
    rw [hput.wire]
    exact hput

/-! ### The pass that a change of a link makes due (R113, R121, R160) -/

/-- The registers that such a pass writes: the reservations in force, what a gate schedule drops, and the roles of the PTP ports. -/
def passFlds : List Fld :=
  [R.TSN_EFF_A_KBPS, R.TSN_EFF_B_KBPS, R.TSN_TAS_OVERSIZE_CNT, R.TSN_TAS_STATUS_CFG_ERR, R.PTP_PORT_STATUS_STATE, R.PTP_STATUS_IS_GM,
   R.PTP_STATUS_STEPS_REMOVED, R.PTP_GM_ID_LO_ID, R.PTP_GM_ID_HI_ID, R.PTP_STATUS_SYNCED] ++ eventFlds

theorem eventFlds_subset_passFlds : eventFlds ⊆ passFlds := List.subset_append_right _ _

section
variable {s0 s : State}

theorem KeepsNet.passRaise (h : KeepsNet passFlds s0 s) {e : Nat} : KeepsNet passFlds s0 (s.raise e) := h.raise eventFlds_subset_passFlds

theorem KeepsNet.ptpUnsync (h : KeepsNet passFlds s0 s) : KeepsNet passFlds s0 s.ptpUnsync := by
  unfold State.ptpUnsync
  exact KeepsNet.ite (h.setPtp.put (by decide)).passRaise h.setPtp

theorem KeepsNet.ptpEnter (h : KeepsNet passFlds s0 s) {p st : Nat} : KeepsNet passFlds s0 (s.ptpEnter p st) :=
  KeepsNet.ite h (h.put (by decide)).passRaise

theorem KeepsNet.ptpSelect (h : KeepsNet passFlds s0 s) : KeepsNet passFlds s0 s.ptpSelect := by
  unfold State.ptpSelect
  extract_lets on gm isGm slaveWas t t1 old t2
  have ht : KeepsNet passFlds s0 t := h.each fun _ _ hu => hu.ptpEnter
  have ht1 : KeepsNet passFlds s0 t1 := (ht.put (by decide)).put (by decide)
  have ht2 : KeepsNet passFlds s0 t2 := KeepsNet.ite ht1 ((ht1.put (by decide)).put (by decide)).passRaise
  exact KeepsNet.ite ht2.ptpUnsync (ht2.when fun _ hu => hu.setPtp)

theorem KeepsNet.ptpRefresh (h : KeepsNet passFlds s0 s) : KeepsNet passFlds s0 s.ptpRefresh := by
  unfold State.ptpRefresh
  exact KeepsNet.ptpSelect (h.each fun _ _ hu => KeepsNet.ite hu hu.setPtp)

theorem KeepsNet.effAll (h : KeepsNet passFlds s0 s) : KeepsNet passFlds s0 s.effAll :=
  h.each fun _ _ hu => (hu.put (by decide)).put (by decide)

theorem KeepsNet.tasDropped (h : KeepsNet passFlds s0 s) {p : Nat} : KeepsNet passFlds s0 (s.tasDropped p) :=
  ((h.bump (by decide) (by decide)).put (by decide)).passRaise

end

/-- From s to t frames only leave the queues, none of them where no gate schedule operates, and else no more than such a pass changes. -/
structure Purged (s t : State) : Prop where
  keeps : Keeps passFlds s t
  egr : t.net.egr ⊆ s.net.egr
  egrFree : (∀ q, q < 6 → s.flag R.TSN_TAS_STATUS_OPER q = false) → t.net.egr = s.net.egr

theorem KeepsNet.purged {s t : State} (h : KeepsNet passFlds s t) : Purged s t where
  keeps := h.keeps
  egr := by rw [h.net]; exact List.Subset.refl _
  egrFree _ := by rw [h.net]

theorem Purged.trans {s t u : State} (h : Purged s t) (h' : Purged t u) : Purged s u where
  keeps := h.keeps.trans h'.keeps
  egr := List.Subset.trans h'.egr h.egr
  egrFree hfree := (h'.egrFree fun q hq => (h.keeps.flag (by decide) q 0).trans (hfree q hq)).trans (h.egrFree hfree)

/-- Without a schedule no frame is too long for a gate (R160). -/
theorem State.tasPurge_free {s : State} {p : Nat} (h : s.flag R.TSN_TAS_STATUS_OPER p = false) : s.tasPurge p = s := by
  simp [State.tasPurge, State.tasOversize, h]

theorem State.tasPurge_purged (s : State) {p : Nat} (hp : p < 6) : Purged s (s.tasPurge p) := by
  refine ⟨?_, ?_, fun hfree => by rw [State.tasPurge_free (hfree p hp)]⟩
  all_goals
    unfold State.tasPurge
    extract_lets long net t
    have hdrop : KeepsNet passFlds t (long.foldl (fun u _ => u.tasDropped p) t) :=
      List.foldlRecOn long _ (KeepsNet.refl _ t) fun _ hu _ _ => hu.tasDropped
    split
  · exact Keeps.refl _ s
  · exact (Keeps.refl _ s).set.trans hdrop.keeps
  · exact List.Subset.refl _
  · rw [hdrop.net]
    exact List.filter_subset_self _

/-- The state in which an admission pass is due. -/
def State.withPassDue (s : State) : State := { s with str := { s.str with passDue := true } }

theorem State.linkPass_eq (s : State) : s.linkPass = (s.effAll.each 6 State.tasPurge).withPassDue.ptpRefresh := by
  unfold State.linkPass State.withPassDue
  rfl

theorem State.withPassDue_purged (s : State) : Purged s s.withPassDue := ⟨(Keeps.refl _ s).set, List.Subset.refl _, fun _ => rfl⟩

theorem State.linkPass_purged (s : State) : Purged s s.linkPass := by
  have heff : Purged s s.effAll := (KeepsNet.refl _ s).effAll.purged
  have hpurge : Purged s (s.effAll.each 6 State.tasPurge) :=
    State.each_rec (P := fun _ => Purged s) heff fun k t hk ht => ht.trans (t.tasPurge_purged hk)
  rw [State.linkPass_eq]
  exact (hpurge.trans (State.withPassDue_purged _)).trans (KeepsNet.refl _ _).ptpRefresh.purged

theorem State.linkPass_due (s : State) : s.linkPass.str.passDue = true := by
  rw [State.linkPass_eq, (KeepsNet.refl passFlds (State.withPassDue _)).ptpRefresh.str]
  rfl

theorem RecordsOnly.net {s t : State} (h : RecordsOnly s t) : t.net = s.net := by rw [h]

/-! ### A link that comes up or goes down (R121) -/

/-- The registers that follow a port's link. -/
def linkFlds : List Fld :=
  [R.MAC_STATUS_AN_DONE, R.MAC_STATUS_PARTNER_PAUSE, R.MAC_STATUS_RX_PAUSED, R.MAC_STATUS_TX_PAUSE_ACTIVE, R.MAC_STATUS_PFC_PAUSED,
   R.MAC_STATUS_LINK_CHG] ++ passFlds

theorem passFlds_subset_linkFlds : passFlds ⊆ linkFlds := List.subset_append_right _ _

theorem eventFlds_subset_linkFlds : eventFlds ⊆ linkFlds := List.Subset.trans eventFlds_subset_passFlds passFlds_subset_linkFlds

/-- The state with a port's link and its speed as given. -/
def State.linkAt (s : State) (p : Nat) (on : Bool) (speed : Nat) : State := (s.put R.MAC_STATUS_LINK (b2n on) p).put R.MAC_STATUS_SPEED speed p

/-- Port p of t has the link and the speed given, and tells of the change; of what `Keeps` names, no other register changes but those that
follow the link. -/
structure LinkMoved (s : State) (p : Nat) (on : Bool) (speed : Nat) (t : State) : Prop where
  keeps : Keeps linkFlds (s.linkAt p on speed) t
  chg : t.flag R.MAC_STATUS_LINK_CHG p = true
  sticky : t.sticky (EV_LINK_P0 + p) = true

section
variable {s t : State} {p v : Nat} {on : Bool}

theorem State.linkAt_keeps : Keeps [R.MAC_STATUS_LINK, R.MAC_STATUS_SPEED] s (s.linkAt p on v) :=
  ((Keeps.refl _ s).put (by decide)).put (by decide)

/-- The change bit and the event of a link. -/
theorem LinkMoved.of_keeps (h : Keeps linkFlds (s.linkAt p on v) t) :
    LinkMoved s p on v ((t.put R.MAC_STATUS_LINK_CHG 1 p).raise (EV_LINK_P0 + p)) where
  keeps := (h.put (by decide)).raise eventFlds_subset_linkFlds
  chg := State.flag_put_raise t 1 p _ (by decide)
  sticky := State.sticky_raise_same _ _

theorem LinkMoved.linkPass (h : LinkMoved s p on v t) : LinkMoved s p on v t.linkPass where
  keeps := h.keeps.trans (t.linkPass_purged.keeps.mono passFlds_subset_linkFlds)
  chg := (t.linkPass_purged.keeps.flag (by decide) p 0).trans h.chg
  sticky := (Calm.refl t).linkPass.sticky _ h.sticky

theorem LinkMoved.link (h : LinkMoved s p on v t) : t.link p = on := by
  refine (h.keeps.flag (by decide) p 0).trans (((State.flag_put_ne _ _ _ _ _ _ (by decide)).trans (State.flag_put_same _ _ _ _ 0)).trans ?_)
  exact b2n_flag on

theorem LinkMoved.speed (h : LinkMoved s p on v t) (hv : v < 8) : t.get R.MAC_STATUS_SPEED p = v := by
  refine (h.keeps.regs _ _ _ (by decide)).trans ((State.get_put_same _ _ _ _ 0).trans ?_)
  exact Nat.mod_eq_of_lt hv

theorem LinkMoved.others (h : LinkMoved s p on v t) (hp : p < 8) : ∀ q, q < 8 → q ≠ p → t.link q = s.link q := by
  intro q hq hne
  have hput : ∀ x, (s.put R.MAC_STATUS_LINK x p).flag R.MAC_STATUS_LINK q = s.flag R.MAC_STATUS_LINK q := fun x => by
    rw [State.flag, State.get_put_inst s x 0 0 (by omega)]
    rfl
  exact (h.keeps.flag (by decide) q 0).trans ((State.flag_put_ne _ _ _ _ _ _ (by decide)).trans (hput _))

theorem LinkMoved.core (h : LinkMoved s p on v t) : SameCore s t := State.linkAt_keeps.core.trans h.keeps.core

end

/-- No mode has a SPEED code beyond 6 (R119). -/
theorem State.modeSpeed_lt (s : State) (p reported : Nat) : s.modeSpeed p reported < 8 := by
  unfold State.modeSpeed
  split
  case h_5 => split_ifs <;> omega
  all_goals omega

theorem execLinkUp_moves {s : State} {p : Fin 8} {speed : Fin 7} {pause : Fin 4} (hpow : s.powered = true) (hlane : s.laneOn p.val = true)
    (hdown : s.link p.val = false) (hspeed : s.modeSpeed p.val speed.val ≠ 0) (hpoll : s.flag R.MAC_PHY_POLL_EN p.val = false) :
    ∃ t, exec (.linkUp p speed pause) s = .next t.linkPass ∧ LinkMoved s p.val true (s.modeSpeed p.val speed.val) t := by
  have hexec : exec (.linkUp p speed pause) s = .next (s.linkUp p.val speed.val pause.val) := by
    show execLinkUp p speed pause s = _
    rw [execLinkUp, if_pos hpow]
  rw [hexec]
  unfold State.linkUp
  extract_lets v an t t1
  have hv : v ≠ 0 := hspeed
  have ht : Keeps linkFlds (s.linkAt p.val true v) t := (Keeps.refl _ _).put (by decide)
  have ht1 : Keeps linkFlds (s.linkAt p.val true v) t1 := ht.put (by decide)
  exact ⟨_, by simp [hdown, hlane, hpoll, hv], LinkMoved.of_keeps ht1⟩

theorem State.linkGone_moves {s : State} {p : Nat} (hlink : s.link p = true) : LinkMoved s p false 0 (s.linkGone p) ∧
    (s.linkGone p).net.egr = s.net.egr.filter (fun e => e.port != p) := by
  unfold State.linkGone
  rw [hlink]
  extract_lets t net t1 ph t2
  have ht : Keeps linkFlds (s.linkAt p false 0) t :=
    ((((Keeps.refl linkFlds _).put (by decide)).put (by decide)).put (by decide)).put (by decide)
  have ht2 : Keeps linkFlds (s.linkAt p false 0) t2 := ht.trans (Keeps.refl _ t).set
  exact ⟨LinkMoved.of_keeps ht2, (State.raise_records _ _).net.symm ▸ rfl⟩

theorem State.linkDown_up {s : State} {p : Nat} (hlink : s.link p = true) : s.linkDown p = (s.linkGone p).linkPass := if_pos hlink

/-! ### Polls of a PHY (R122) -/

/-- The accesses of a poll, as the wire shows them. -/
def State.pollAccesses (s : State) (p : Nat) : List Out :=
  if s.flag R.MAC_PHY_CL45 p then [.mdio 4 (s.get R.MAC_PHY_PHY_ADDR p) 1 0, .mdio 2 (s.get R.MAC_PHY_PHY_ADDR p) 1 1]
  else [.mdio 0 (s.get R.MAC_PHY_PHY_ADDR p) 1 0]

theorem State.pollSend_eq (s : State) (p : Nat) : s.pollSend p = { s with wire := s.pollAccesses p ++ s.wire } := by
  unfold State.pollSend State.pollAccesses
  dsimp only
  split
  · rfl
  · rfl

/-- The state in which a poll has read a PHY's link. -/
def State.polled (s : State) (p : Nat) (up : Bool) : State := (s.pollSend p).put R.MAC_PHY_PHY_LINK (b2n up) p

theorem State.polled_shows (s : State) (p : Nat) (up : Bool) : (s.polled p up).flag R.MAC_PHY_PHY_LINK p = up :=
  (State.flag_put_same _ _ _ _ 0).trans (b2n_flag up)

theorem execPhyPoll_polls {s : State} {p : Fin 8} (up : Bool) (hpow : s.powered = true) (hsleep : s.dev ≠ .sleep) (hp : p.val < 6)
    (hen : s.flag R.MAC_PHY_POLL_EN p.val = true) (hb : s.flag R.MDIO_CMD_BUSY = false) :
    exec (.phyPoll p up) s = .next (if up then s.polled p.val up else (s.polled p.val up).linkDown p.val) := by
  show execPhyPoll p up s = _
  simp [execPhyPoll, hpow, hsleep, hp, hen, hb, State.polled]

theorem execPhyPoll_waits {s : State} (p : Fin 8) (up : Bool) (hb : s.flag R.MDIO_CMD_BUSY = true) : exec (.phyPoll p up) s = .next s := by
  show execPhyPoll p up s = _
  simp [execPhyPoll, hb]

/-- A link that is down after all keeps what the poll has read. -/
theorem State.linkDown_down (s : State) (p : Nat) :
    (s.linkDown p).link p = false ∧ (s.linkDown p).flag R.MAC_PHY_PHY_LINK p = s.flag R.MAC_PHY_PHY_LINK p := by
  cases hlink : s.link p with
  | true =>
    obtain ⟨hmoved, -⟩ := State.linkGone_moves hlink
    rw [State.linkDown_up hlink]
    exact ⟨hmoved.linkPass.link, (hmoved.linkPass.keeps.flag (by decide) p 0).trans (State.linkAt_keeps.flag (by decide) p 0)⟩
  | false =>
    have hstay : s.linkDown p = s := by rw [State.linkDown, hlink, if_neg Bool.false_ne_true]
    rw [hstay]
    exact ⟨hlink, rfl⟩

/-! ### O34 -/

/-- Settles O34: a link moves, and the pass that follows it leaves what has moved. -/
theorem linkRows : Obligations.LinkRows := by
  refine ⟨fun s p speed pause hpow hlane hdown hspeed hpoll => ?_, fun s p hpow hlink => ?_,
    fun s p speed hpow hlink hmode han hlo hhi hne => ?_, fun s p hpow hsleep hp hen hb => ⟨?_, ?_⟩, fun s p up hb => execPhyPoll_waits p up hb⟩
  · obtain ⟨t, he, hmoved⟩ := execLinkUp_moves (pause := pause) hpow hlane hdown hspeed hpoll
    have hpass := hmoved.linkPass
    exact ⟨_, he, hpass.link, hpass.speed (s.modeSpeed_lt _ _), hpass.chg, hpass.sticky, t.linkPass_due, hpass.others p.isLt, hpass.core⟩
  · obtain ⟨hmoved, hegr⟩ := State.linkGone_moves hlink
    have hpass := hmoved.linkPass
    have hpurged := (s.linkGone p.val).linkPass_purged
    have hexec : exec (.linkDown p) s = .next (s.linkGone p.val).linkPass := by
      show execLinkDown p s = _
      rw [execLinkDown, if_pos hpow, State.linkDown_up hlink]
    refine ⟨_, hexec, hpass.link, hpass.speed (by decide), hpass.chg, hpass.sticky, State.linkPass_due _, fun e he => ?_, fun hfree => ?_,
      hpass.others p.isLt, hpass.core⟩
    · have hmem := hpurged.egr he
      rw [hegr] at hmem
      obtain ⟨hold, hport⟩ := List.mem_filter.1 hmem
      exact ⟨hold, bne_iff_ne.1 hport⟩
    · rw [← hegr]
      exact hpurged.egrFree fun q hq => ((hmoved.keeps.flag (by decide) q 0).trans (State.linkAt_keeps.flag (by decide) q 0)).trans (hfree q hq)
  · have hv : s.modeSpeed p.val speed.val = speed.val := by simp [State.modeSpeed, hmode, han, hlo, hhi]
    have hexec : exec (.linkSpeedChange p speed) s = .next (s.put R.MAC_STATUS_SPEED speed.val p.val).linkPass := by
      show execLinkSpeedChange p speed s = _
      simp [execLinkSpeedChange, hv, hpow, hlink, hne, Nat.ne_of_gt hlo]
    have hput : Keeps [R.MAC_STATUS_SPEED] s (s.put R.MAC_STATUS_SPEED speed.val p.val) := (Keeps.refl _ s).put (by decide)
    have hpurged := (s.put R.MAC_STATUS_SPEED speed.val p.val).linkPass_purged
    refine ⟨_, hexec, ?_, ?_, State.linkPass_due _, fun hfree => ?_, hput.core.trans hpurged.keeps.core⟩
    · exact ((hpurged.keeps.flag (by decide) p.val 0).trans (hput.flag (by decide) p.val 0)).trans hlink
    · rw [hpurged.keeps.regs _ _ _ (by decide), State.get_put_same]
      exact Nat.mod_eq_of_lt (by have := speed.isLt; show speed.val < 8; omega)
    · exact hpurged.egrFree fun q hq => (hput.flag (by decide) q 0).trans (hfree q hq)
  · have hwire : (s.polled p.val true).wire = (s.pollSend p.val).wire := rfl
    refine ⟨_, execPhyPoll_polls true hpow hsleep hp hen hb, s.polled_shows p.val true, ?_, ?_⟩
    · rw [if_pos rfl, hwire, State.pollSend_eq]
      rfl
    · have hsent : ({ s with wire := (s.pollSend p.val).wire } : State) = s.pollSend p.val := by rw [State.pollSend_eq]
      rw [if_pos rfl, hwire, hsent]
      exact (RegsAt.refl _ _ _).put (by decide)
  · exact ⟨_, execPhyPoll_polls false hpow hsleep hp hen hb, by
      have h := (s.polled p.val false).linkDown_down p.val
      exact ⟨h.2.trans (s.polled_shows p.val false), h.1⟩⟩

/-! ### The hidden state of a port -/

@[simp] theorem State.ph_setPh (s : State) (p : Nat) (h : PortHid) : (s.setPh p h).ph p = h := by
  simp [State.ph, State.setPh]

theorem State.ph_congr {s t : State} (h : t.net = s.net) (p : Nat) : t.ph p = s.ph p := by
  rw [State.ph, h]
  rfl

/-! ### PLCA cycles (R139, R146) -/

/-- The registers that a PLCA cycle shows. -/
def plcaFlds : List Fld := [R.PLCA_STATUS_CUR_NODE_ID, R.PLCA_STATUS_COORDINATOR, R.PLCA_STATUS_ACTIVE]

theorem RegsAt.send {l : List Fld} {i : Nat} {s t : State} (h : RegsAt l i s t) {o : Out} : RegsAt l i (s.send o) (t.send o) := by
  obtain ⟨heq, hregs⟩ := h
  exact ⟨(congrArg (fun u : State => u.send o) heq).trans rfl, hregs⟩

/-- A cycle shows the node, the role and whether PLCA operates, and takes the burst count in force. -/
theorem State.plcaCycle_leaves (s : State) (k : Nat) :
    let t := s.plcaCycle k
    t.get R.PLCA_STATUS_CUR_NODE_ID k = s.plcaNode k % 32 ∧ t.flag R.PLCA_STATUS_COORDINATOR k = s.plcaCoordinator k ∧
      t.flag R.PLCA_STATUS_ACTIVE k = s.flag R.PLCA_CTRL_EN k ∧
      t.ph (6 + k) = { s.ph (6 + k) with burst := s.get R.PLCA_TIMERS_BURST_CNT k } ∧ t.net.egr = s.net.egr ∧
      RegsAt plcaFlds k { s with net := t.net } t := by
  intro t
  refine ⟨?_, ?_, ?_, State.ph_setPh _ _ _, rfl, ?_⟩
  · refine (State.get_put_ne _ _ _ _ _ _ (by decide)).trans ((State.get_put_ne _ _ _ _ _ _ (by decide)).trans ?_)
    exact State.get_put_same _ _ _ _ _
  · refine (State.flag_put_ne _ _ _ _ _ _ (by decide)).trans ((State.flag_put_same _ _ _ _ 0).trans ?_)
    exact b2n_flag _
  · exact (State.flag_put_same _ _ _ _ 0).trans (b2n_flag _)
  · exact (((RegsAt.refl plcaFlds k { s with net := t.net }).put (f := R.PLCA_STATUS_CUR_NODE_ID) (by decide)).put
      (f := R.PLCA_STATUS_COORDINATOR) (by decide)).put (f := R.PLCA_STATUS_ACTIVE) (by decide)

theorem State.plcaCoordinator_iff (s : State) (k : Nat) : s.plcaCoordinator k = true ↔ (s.netUp = true ∧ s.portMode (6 + k) = 6 ∧
    s.flag R.PLCA_CTRL_EN k = true ∧ (s.role = .active ∨ s.role = .solo)) ∧ s.plcaNode k = 0 := by
  simp [State.plcaCoordinator, and_assoc]

theorem execPlcaBeaconTx_sends {s : State} {k : Fin 2} (h : s.plcaCoordinator k.val = true) :
    exec (.plcaBeaconTx k) s = .next ((s.plcaCycle k.val).send (.net (6 + k.val) .beacon)) := by
  show execPlcaBeaconTx k s = _
  rw [execPlcaBeaconTx, if_pos h]

section
variable {s : State} {k : Fin 2} (hup : s.netUp = true) (hmode : s.portMode (6 + k.val) = 6)
include hup hmode

theorem execPlcaBeaconRx_duplicate (hdup : s.plcaCoordinator k.val = true ∨ s.flag R.PLCA_STATUS_COORDINATOR k.val = true) :
    exec (.plcaBeaconRx k) s = .next (s.plcaFault R.PLCA_STATUS_DUP_COORD R.DUP_COORD_CNT k.val) := by
  show execPlcaBeaconRx k s = _
  simp only [execPlcaBeaconRx, State.plcaPort, hup, hmode]
  rcases hdup with h | h
  all_goals simp [h]

theorem execPlcaBeaconRx_begins (hen : s.flag R.PLCA_CTRL_EN k.val = true) (hco : s.plcaCoordinator k.val = false)
    (hshown : s.flag R.PLCA_STATUS_COORDINATOR k.val = false) : exec (.plcaBeaconRx k) s = .next (s.plcaCycle k.val) := by
  show execPlcaBeaconRx k s = _
  simp [execPlcaBeaconRx, State.plcaPort, hup, hmode, hco, hshown, hen]

theorem execPlcaBeaconLost_faults (hact : s.flag R.PLCA_STATUS_ACTIVE k.val = true) (hco : s.plcaCoordinator k.val = false)
    (hshown : s.flag R.PLCA_STATUS_COORDINATOR k.val = false) : exec (.plcaBeaconLost k) s =
      .next ((s.put R.PLCA_STATUS_ACTIVE 0 k.val).plcaFault R.PLCA_STATUS_BEACON_LOST R.BEACON_LOST_CNT k.val) := by
  show execPlcaBeaconLost k s = _
  simp [execPlcaBeaconLost, hup, hmode, hact, hco, hshown]

theorem execPlcaTxOpportunity_sends (hact : s.flag R.PLCA_STATUS_ACTIVE k.val = true) :
    exec (.plcaTxOpportunity k) s =
      .next ((s.t1sSend (6 + k.val) (1 + (s.ph (6 + k.val)).burst)).each 8 (fun t p => t.poolUpdate p)) := by
  show execPlcaTxOpportunity k s = _
  simp [execPlcaTxOpportunity, hup, hmode, hact]

end

/-! ### PLCA faults (R140) -/

/-- The registers that a fault writes, its bit and its counter apart. -/
def plcaFaultFlds (bitF cntF : Fld) : List Fld := bitF :: cntF :: eventFlds

/-- A fault sets its bit, counts and tells of itself. -/
theorem State.plcaFault_leaves (s : State) {bitF cntF : Fld} (k : Nat) (hbit : bitF.width = 1) (hne : cntF.base ≠ bitF.base)
    (hb : ∀ f ∈ eventFlds, f.base ≠ bitF.base) (hc : ∀ f ∈ eventFlds, f.base ≠ cntF.base) :
    let t := s.plcaFault bitF cntF k
    t.flag bitF k = true ∧ t.get cntF k = min (s.get cntF k + 1) (2 ^ cntF.width - 1) ∧ t.sticky EV_PLCA_FAULT = true ∧
      KeepsNet (plcaFaultFlds bitF cntF) s t := by
  intro t
  have hsat : R.PG_STATUS_SAT_SEEN ∈ eventFlds := by decide
  have hraise : Keeps eventFlds ((s.put bitF 1 k).bump cntF k) t := State.raise_keeps _ _
  refine ⟨?_, ?_, State.sticky_raise_same _ _, ?_⟩
  · rw [hraise.flag hb, ((s.put bitF 1 k).bump_keeps cntF k 0).flag (by simpa using ⟨hne, hb _ hsat⟩), State.flag_put_same, hbit]
    rfl
  · rw [hraise.regs _ _ _ hc, State.get_bump_same _ _ _ _ (hc _ hsat).symm, State.get_put_ne _ _ _ _ _ _ hne.symm]
  · exact (((KeepsNet.refl _ s).put (List.mem_cons_self ..)).bump (List.mem_cons_of_mem _ (List.mem_cons_self ..))
      (List.mem_cons_of_mem _ (List.mem_cons_of_mem _ hsat))).raise (List.Subset.trans (List.subset_cons_self _ _) (List.subset_cons_self _ _))

/-! ### What the next frame of a port rests on (R136, R154, R158, R160) -/

/-- The registers that choose the next frame of a port and the time at which it would start. -/
def lineFlds : List Fld :=
  [R.MAC_STATUS_LINK, R.MAC_STATUS_SPEED, R.MAC_CTRL_PAUSE_HONOUR, R.MAC_STATUS_RX_PAUSED, R.MAC_STATUS_PFC_PAUSED, R.BR_PCP_MAP_MAP,
   R.BR_CLASS_TC_A, R.BR_CLASS_TC_B, R.TSN_TAS_STATUS_OPER]

/-- The lines of t stand as those of s, with the same frames waiting. -/
structure SameLine (s t : State) : Prop where
  tickNum : t.tickNum = s.tickNum
  ports : t.net.ports = s.net.ports
  egr : t.net.egr = s.net.egr
  regs : ∀ f ∈ lineFlds, ∀ i j, t.get f i j = s.get f i j

theorem KeepsNet.sameLine {l : List Fld} {s t : State} (h : KeepsNet l s t) (hl : ∀ g ∈ lineFlds, ∀ f ∈ l, f.base ≠ g.base) :
    SameLine s t where
  tickNum := by
    obtain ⟨-, -, -, -, -, -, hnum⟩ := h.keeps.core
    exact hnum
  ports := by rw [h.net]
  egr := by rw [h.net]
  regs g hg i j := h.keeps.regs g i j (hl g hg)

section
variable {s t : State} (h : SameLine s t)
include h

theorem SameLine.ph (p : Nat) : t.ph p = s.ph p := by simp [State.ph, h.ports]

theorem SameLine.kbps (p : Nat) : t.kbps p = s.kbps p := by
  simp [State.kbps, State.link, State.flag, h.regs R.MAC_STATUS_LINK (by decide), h.regs R.MAC_STATUS_SPEED (by decide)]

theorem SameLine.lineNs (p : Nat) : t.lineNs p = s.lineNs p := by
  simp [State.lineNs, State.tickBits, h.kbps, h.ph, h.tickNum]

theorem SameLine.isAudioTc (tc : Nat) : t.isAudioTc tc = s.isAudioTc tc := by
  simp [State.isAudioTc, h.regs R.BR_CLASS_TC_A (by decide), h.regs R.BR_CLASS_TC_B (by decide)]

theorem SameLine.pausedQueue (p tc : Nat) : t.pausedQueue p tc = s.pausedQueue p tc := by
  simp [State.pausedQueue, State.flag, State.bit, State.tcOf, h.isAudioTc, h.regs R.MAC_CTRL_PAUSE_HONOUR (by decide),
    h.regs R.MAC_STATUS_RX_PAUSED (by decide), h.regs R.MAC_STATUS_PFC_PAUSED (by decide), h.regs R.BR_PCP_MAP_MAP (by decide)]

theorem SameLine.gateAt (p tc ns : Nat) : t.gateAt p tc ns = s.gateAt p tc ns := by
  have hoper : t.flag R.TSN_TAS_STATUS_OPER p = s.flag R.TSN_TAS_STATUS_OPER p := by
    rw [State.flag, h.regs R.TSN_TAS_STATUS_OPER (by decide)]
    rfl
  unfold State.gateAt
  rw [h.ph, hoper]

theorem SameLine.gateFits (p tc len ns : Nat) : t.gateFits p tc len ns = s.gateFits p tc len ns := by
  unfold State.gateFits
  rw [h.gateAt, h.kbps]

theorem SameLine.hasCredit (p tc : Nat) : t.hasCredit p tc = s.hasCredit p tc := by
  simp [State.hasCredit, h.ph, h.regs R.BR_CLASS_TC_A (by decide), h.regs R.BR_CLASS_TC_B (by decide)]

theorem SameLine.nextEgress (p now : Nat) : t.nextEgress p now = s.nextEgress p now := by
  simp [State.nextEgress, State.mayStart, h.egr, h.pausedQueue, h.gateFits, h.hasCredit]

end

/-! ### Collisions (R140) -/

theorem PortHid.tries_setTries_same (h : PortHid) (fid n : Nat) : (h.setTries fid n).tries fid = n := by
  unfold PortHid.tries PortHid.setTries
  split_ifs with h0
  · have hnone : (h.attempts.filter (fun a => a.1 != fid)).find? (fun a => a.1 == fid) = none := List.find?_eq_none.2 (by simp)
    simp [hnone, h0]
  · simp

theorem PortHid.tries_setTries_ne (h : PortHid) {fid fid' : Nat} (n : Nat) (hne : fid' ≠ fid) :
    (h.setTries fid n).tries fid' = h.tries fid' := by
  have hrest : (h.attempts.filter (fun a => a.1 != fid)).find? (fun a => a.1 == fid') = h.attempts.find? (fun a => a.1 == fid') := by
    rw [List.find?_filter]
    congr 1
    funext a
    by_cases ha : a.1 = fid'
    · simp [ha, hne]
    · simp [ha]
  unfold PortHid.tries PortHid.setTries
  split_ifs with h0
  · rw [hrest]
  · rw [List.find?_cons_of_neg (by simpa using hne.symm), hrest]

/-- The state in which the fault of a collision is known: none where PLCA does not operate. -/
def State.collided (s : State) (k : Nat) : State :=
  if s.flag R.PLCA_STATUS_ACTIVE k then s.plcaFault R.PLCA_STATUS_UNEXP_COL R.UNEXP_COL_CNT k else s

/-- The registers of a collision's fault. -/
def colFlds : List Fld := plcaFaultFlds R.PLCA_STATUS_UNEXP_COL R.UNEXP_COL_CNT

theorem State.collided_leaves (s : State) (k : Nat) : KeepsNet colFlds s (s.collided k) ∧ (s.flag R.PLCA_STATUS_ACTIVE k = true →
    (s.collided k).flag R.PLCA_STATUS_UNEXP_COL k = true ∧ (s.collided k).sticky EV_PLCA_FAULT = true) := by
  unfold State.collided
  split
  next hact =>
    obtain ⟨hbit, -, hsticky, hkeeps⟩ :=
      s.plcaFault_leaves (bitF := R.PLCA_STATUS_UNEXP_COL) (cntF := R.UNEXP_COL_CNT) k rfl (by decide) (by decide) (by decide)
    exact ⟨hkeeps, fun _ => ⟨hbit, hsticky⟩⟩
  next hact => exact ⟨KeepsNet.refl _ s, fun h => absurd h hact⟩

/-- The frame that collided is tried again, or dropped at its sixteenth collision. -/
def State.retried (t : State) (p k : Nat) (e : EgrFrame) : State :=
  if 15 ≤ (t.ph p).tries e.fid then (t.bump R.EXCESS_COL_CNT k).dropFrame p e
  else t.setPh p ((t.ph p).setTries e.fid ((t.ph p).tries e.fid + 1))

/-- The fault changes nothing that the choice of the next frame looks at. -/
theorem State.collided_nextEgress (s : State) (k p : Nat) :
    (s.collided k).nextEgress p ((s.collided k).lineNs p) = s.nextEgress p (s.lineNs p) := by
  obtain ⟨hkeeps, -⟩ := s.collided_leaves k
  have hline : SameLine s (s.collided k) := hkeeps.sameLine (by decide)
  rw [hline.lineNs, hline.nextEgress]

section
variable {s : State} {k : Fin 2} (hup : s.netUp = true) (hmode : s.portMode (6 + k.val) = 6)
include hup hmode

theorem execPlcaCollision_idle (hnext : s.nextEgress (6 + k.val) (s.lineNs (6 + k.val)) = none) :
    exec (.plcaCollision k) s = .next (s.collided k.val) := by
  have hport : ¬(!s.netUp || s.portMode (6 + k.val) != 6) = true := by simp [hup, hmode]
  have hnone := (s.collided_nextEgress k.val (6 + k.val)).trans hnext
  show execPlcaCollision k s = _
  unfold execPlcaCollision
  extract_lets k' p t
  rw [if_neg hport, show t.nextEgress p (t.lineNs p) = none from hnone]
  rfl

theorem execPlcaCollision_retries {e : EgrFrame} (hnext : s.nextEgress (6 + k.val) (s.lineNs (6 + k.val)) = some e) :
    exec (.plcaCollision k) s = .next ((s.collided k.val).retried (6 + k.val) k.val e) := by
  have hport : ¬(!s.netUp || s.portMode (6 + k.val) != 6) = true := by simp [hup, hmode]
  have hsome := (s.collided_nextEgress k.val (6 + k.val)).trans hnext
  show execPlcaCollision k s = _
  unfold execPlcaCollision
  extract_lets k' p t
  rw [if_neg hport, show t.nextEgress p (t.lineNs p) = some e from hsome]
  rfl

end

/-- What a retry leaves: the other frames' tries, the events and the bits of PLCA. -/
theorem State.retried_leaves (t : State) (p k : Nat) (e : EgrFrame) :
    let u := t.retried p k e
    Keeps [R.EXCESS_COL_CNT, R.PG_STATUS_SAT_SEEN] t u ∧ (∀ fid, fid ≠ e.fid → (u.ph p).tries fid = (t.ph p).tries fid) ∧
      ((t.ph p).tries e.fid < 15 → (u.ph p).tries e.fid = (t.ph p).tries e.fid + 1 ∧ u.net.egr = t.net.egr) ∧
      (15 ≤ (t.ph p).tries e.fid → (u.ph p).tries e.fid = 0 ∧
        u.get R.EXCESS_COL_CNT k = min (t.get R.EXCESS_COL_CNT k + 1) (2 ^ R.EXCESS_COL_CNT.width - 1) ∧
        u.net.egr = eraseFirst (fun x => x == e) t.net.egr) := by
  intro u
  by_cases h15 : 15 ≤ (t.ph p).tries e.fid
  · have hu : u = (t.bump R.EXCESS_COL_CNT k).dropFrame p e := if_pos h15
    have hnet : (t.bump R.EXCESS_COL_CNT k).net = t.net := (RecordsOnly.refl t).bump.net
    have hph : u.ph p = (t.ph p).setTries e.fid 0 := by
      rw [← State.ph_congr hnet, hu]
      exact State.ph_setPh _ _ _
    refine ⟨?_, fun fid hne => ?_, fun hlt => absurd h15 (Nat.not_le.2 hlt), fun _ => ⟨?_, ?_, ?_⟩⟩
    · rw [hu]
      exact (t.bump_keeps _ _ _).trans (Keeps.refl _ _).set
    · rw [hph, PortHid.tries_setTries_ne _ _ hne]
    · rw [hph, PortHid.tries_setTries_same]
    · rw [hu]
      exact State.get_bump_same _ _ _ _ (by decide)
    · rw [← hnet, hu]
      rfl
  · have hu : u = t.setPh p ((t.ph p).setTries e.fid ((t.ph p).tries e.fid + 1)) := if_neg h15
    have hph : u.ph p = (t.ph p).setTries e.fid ((t.ph p).tries e.fid + 1) := by
      rw [hu]
      exact State.ph_setPh _ _ _
    refine ⟨?_, fun fid hne => ?_, fun _ => ⟨?_, ?_⟩, fun h => absurd h h15⟩
    · rw [hu]
      exact (Keeps.refl _ _).set
    · rw [hph, PortHid.tries_setTries_ne _ _ hne]
    · rw [hph, PortHid.tries_setTries_same]
    · rw [hu]
      rfl

/-! ### Frames sent (R139, R145) -/

/-- From s to t the device has only sent more. -/
def SendsMore (s t : State) : Prop := ∃ sent, t.wire = sent ++ s.wire

theorem sendsMore_wide : Wide SendsMore where
  refl _ := ⟨[], rfl⟩
  trans := by
    rintro s t u ⟨a, ha⟩ ⟨b, hb⟩
    exact ⟨b ++ a, by rw [hb, ha, List.append_assoc]⟩
  any _ _ hw _ _ := ⟨[], hw⟩
  sends _ o := ⟨[o], rfl⟩
  boundary _ _ _ h := h

/-- The registers that the fill of a pool writes, with those of a pause that it asserts. -/
def poolFlds : List Fld :=
  [R.MAC_POOL_FILL_BE_PCT, R.MAC_POOL_FILL_BE_PEAK_PCT, R.PAUSE_TX_CNT, R.TX_OK_CNT, R.MAC_STATUS_TX_PAUSE_ACTIVE] ++ eventFlds

theorem KeepsNet.sendPause {s0 s : State} (h : KeepsNet poolFlds s0 s) {p quanta : Nat} : KeepsNet poolFlds s0 (s.sendPause p quanta) := by
  unfold State.sendPause
  split
  · exact h
  · exact (h.send.bump (by decide) (by decide)).bump (by decide) (by decide)

theorem KeepsNet.poolUpdate {s0 s : State} (h : KeepsNet poolFlds s0 s) {p : Nat} : KeepsNet poolFlds s0 (s.poolUpdate p) := by
  unfold State.poolUpdate
  extract_lets pct t t1
  have ht : KeepsNet poolFlds s0 t := h.put (by decide)
  have ht1 : KeepsNet poolFlds s0 t1 := KeepsNet.ite (ht.put (by decide)) ht
  exact KeepsNet.ite ((ht1.sendPause.put (by decide)).raise (List.subset_append_right _ _)) ht1

/-- A frame as it leaves rests on the clock's profile and the free values alone. -/
theorem State.outgoing_congr {s t : State} (hfree : t.free = s.free) (hregs : t.regs = s.regs) (e : EgrFrame) :
    (t.outgoing e).1 = (s.outgoing e).1 := by
  have hflag : ∀ f, t.flag f = s.flag f := fun f => by simp [State.flag, State.get_congr hregs]
  have hdraw : t.draw.1 = s.draw.1 := by rw [State.draw, hfree, State.draw]
  unfold State.outgoing
  rw [hflag, hflag]
  split
  · split
    · cases s.flag R.PTP_CTRL_EN && s.flag R.PTP_CTRL_PROFILE && decide (e.ingress < 8) with
      | true =>
        rw [if_pos rfl, if_pos rfl]
        dsimp only
        rw [hdraw]
      | false => rw [if_neg Bool.false_ne_true, if_neg Bool.false_ne_true]
    · rfl
  · rfl

/-- At most a free value is drawn for it. -/
theorem State.outgoing_state (s : State) (e : EgrFrame) : (s.outgoing e).2 = { s with free := (s.outgoing e).2.free } := by
  unfold State.outgoing
  split
  · split
    · extract_lets d corr
      split_ifs
      · rfl
      · rfl
    · rfl
  · rfl

theorem State.outgoing_net (s : State) (e : EgrFrame) : (s.outgoing e).2.net = s.net := by
  rw [State.outgoing_state]

theorem State.outgoing_wire (s : State) (e : EgrFrame) : (s.outgoing e).2.wire = s.wire := by
  rw [State.outgoing_state]

/-- The state in which a frame has left its queue, the line has carried it and its tries are forgotten. -/
def State.unqueued (s : State) (p now : Nat) (e : EgrFrame) : State :=
  let t := State.lineUse { s with net := { s.net with egr := eraseFirst (fun x => x == e) s.net.egr } } p now (wireBits e.len) (some e.tc)
  t.setPh p ((t.ph p).setTries e.fid 0)

/-- The frame counts as sent, and as PTP's where it is one of the device's own. -/
def State.countSent (s : State) (p : Nat) (e : EgrFrame) : State :=
  match e.item with
  | .ptp _ _ _ _ _ => (s.bump R.TX_OK_CNT p).bump R.PTP_TX_CNT
  | _ => s.bump R.TX_OK_CNT p

theorem State.depart_eq (s : State) (p now : Nat) (e : EgrFrame) : s.depart p now e =
    (((s.unqueued p now e).outgoing e).2.send (.net p ((s.unqueued p now e).outgoing e).1)).countSent p e := by
  unfold State.depart State.countSent State.unqueued
  rfl

theorem State.countSent_records (s : State) (p : Nat) (e : EgrFrame) : RecordsOnly s (s.countSent p e) := by
  unfold State.countSent
  split
  · exact (RecordsOnly.refl s).bump.bump
  · exact (RecordsOnly.refl s).bump

theorem State.unqueued_tries (s : State) (p now : Nat) (e : EgrFrame) : ((s.unqueued p now e).ph p).tries e.fid = 0 :=
  (congrArg (fun h : PortHid => h.tries e.fid) (State.ph_setPh _ _ _)).trans (PortHid.tries_setTries_same _ _ _)

/-- A frame that leaves is sent, leaves its queue, and takes its tries with it. -/
theorem State.depart_leaves (s : State) (p now : Nat) (e : EgrFrame) :
    let t := s.depart p now e
    t.wire = .net p (s.outgoing e).1 :: s.wire ∧ t.net.egr = eraseFirst (fun x => x == e) s.net.egr ∧ (t.ph p).tries e.fid = 0 := by
  intro t
  have hfirst : ((s.unqueued p now e).outgoing e).1 = (s.outgoing e).1 := State.outgoing_congr (s := s) (t := s.unqueued p now e) rfl rfl e
  have hcount := (((s.unqueued p now e).outgoing e).2.send (.net p ((s.unqueued p now e).outgoing e).1)).countSent_records p e
  have ht : t = _ := s.depart_eq p now e
  have hnet : t.net = (s.unqueued p now e).net := by
    rw [ht, hcount.net]
    exact State.outgoing_net _ _
  refine ⟨?_, ?_, ?_⟩
  · rw [ht, hcount.wire, hfirst, State.send, State.outgoing_wire]
    rfl
  · rw [hnet]
    rfl
  · rw [State.ph_congr hnet, State.unqueued_tries]

/-- Nothing that the pools report after it takes back what an opportunity has sent. -/
theorem State.poolUpdates_leave (s : State) : let t := s.each 8 (fun t p => t.poolUpdate p)
    SendsMore s t ∧ KeepsNet poolFlds s t :=
  ⟨sendsMore_wide.closed.each (sendsMore_wide.refl s) fun _ _ hu => State.poolUpdate_closed sendsMore_wide.closed hu,
    (KeepsNet.refl _ s).each fun _ _ hu => hu.poolUpdate⟩

/-- With a burst count of 0 an opportunity sends the next frame alone (R139). -/
theorem execPlcaTxOpportunity_one {s : State} {k : Fin 2} {e : EgrFrame} (hup : s.netUp = true) (hmode : s.portMode (6 + k.val) = 6)
    (hact : s.flag R.PLCA_STATUS_ACTIVE k.val = true) (hburst : (s.ph (6 + k.val)).burst = 0)
    (hnext : s.nextEgress (6 + k.val) (s.lineNs (6 + k.val)) = some e) :
    ∃ t sent, exec (.plcaTxOpportunity k) s = .next t ∧ t.wire = sent ++ .net (6 + k.val) (s.outgoing e).1 :: s.wire ∧
      t.net.egr = eraseFirst (fun x => x == e) s.net.egr ∧ (t.ph (6 + k.val)).tries e.fid = 0 := by
  have hone : s.t1sSend (6 + k.val) (1 + (s.ph (6 + k.val)).burst) = s.depart (6 + k.val) (s.lineNs (6 + k.val)) e := by
    rw [hburst, State.t1sSend, hnext]
    rfl
  have hexec := execPlcaTxOpportunity_sends hup hmode hact
  rw [hone] at hexec
  obtain ⟨hwire, hegr, htries⟩ := s.depart_leaves (6 + k.val) (s.lineNs (6 + k.val)) e
  obtain ⟨⟨sent, hsent⟩, hkeeps⟩ := (s.depart (6 + k.val) (s.lineNs (6 + k.val)) e).poolUpdates_leave
  refine ⟨_, sent, hexec, hsent.trans (by rw [hwire]), ?_, ?_⟩
  · rw [hkeeps.net, hegr]
  · rw [State.ph_congr hkeeps.net, htries]

/-! ### O38 -/

/-- Settles O38: the cycle, the faults, the opportunity and the collision, each by the lemma about it. -/
theorem plcaRows : Obligations.PlcaRows := by
  refine ⟨fun s k hco => ?_, fun s k hup hmode hen => ⟨fun hdup => ?_, fun hco hshown => ?_⟩, fun s k hup hmode hact hco hshown => ?_,
    fun s k e hup hmode hact hburst hnext => ?_, fun s k hup hmode => ?_⟩
  · obtain ⟨hnode, hrole, hactive, hph, hegr, hregs⟩ := s.plcaCycle_leaves k.val
    obtain ⟨⟨-, -, hen, -⟩, hzero⟩ := (s.plcaCoordinator_iff k.val).1 hco
    exact ⟨_, execPlcaBeaconTx_sends hco, rfl, hnode.trans (by rw [hzero]), hrole.trans hco, hactive.trans hen, hph, hegr, hregs.send⟩
  · obtain ⟨hbit, hcnt, hsticky, -⟩ :=
      s.plcaFault_leaves (bitF := R.PLCA_STATUS_DUP_COORD) (cntF := R.DUP_COORD_CNT) k.val rfl (by decide) (by decide) (by decide)
    exact ⟨_, execPlcaBeaconRx_duplicate hup hmode hdup, hbit, hcnt, hsticky⟩
  · obtain ⟨hnode, hrole, hactive, hph, hegr, hregs⟩ := s.plcaCycle_leaves k.val
    exact ⟨_, execPlcaBeaconRx_begins hup hmode hen hco hshown, hactive.trans hen, hrole.trans hco, hnode, hph, hegr, hregs⟩
  · have hput : Keeps [R.PLCA_STATUS_ACTIVE] s (s.put R.PLCA_STATUS_ACTIVE 0 k.val) := (Keeps.refl _ s).put (by simp)
    obtain ⟨hbit, hcnt, hsticky, hkeeps⟩ := (s.put R.PLCA_STATUS_ACTIVE 0 k.val).plcaFault_leaves (bitF := R.PLCA_STATUS_BEACON_LOST)
      (cntF := R.BEACON_LOST_CNT) k.val rfl (by decide) (by decide) (by decide)
    refine ⟨_, execPlcaBeaconLost_faults hup hmode hact hco hshown, ?_, hbit, hsticky, ?_⟩
    · exact (hkeeps.keeps.flag (by decide) _ _).trans (State.flag_put_same _ _ _ _ 0)
    · rw [hcnt, hput.regs _ _ _ (by decide)]
  · exact execPlcaTxOpportunity_one hup hmode hact hburst hnext
  · obtain ⟨hcol, hfault⟩ := s.collided_leaves k.val
    have hph := State.ph_congr hcol.net (6 + k.val)
    cases hnext : s.nextEgress (6 + k.val) (s.lineNs (6 + k.val)) with
    | none => exact ⟨_, execPlcaCollision_idle hup hmode hnext, hfault, fun _ => hcol.net, fun e he => nomatch he⟩
    | some e =>
      obtain ⟨hkeeps, hothers, hretry, hdrop⟩ := (s.collided k.val).retried_leaves (6 + k.val) k.val e
      rw [hph, hcol.net] at hretry
      rw [hph, hcol.net, hcol.keeps.regs R.EXCESS_COL_CNT _ _ (by decide)] at hdrop
      refine ⟨_, execPlcaCollision_retries hup hmode hnext, fun hact => ?_, (fun h => nomatch h), fun e' he' => ?_⟩
      · obtain ⟨hbit, hsticky⟩ := hfault hact
        refine ⟨(hkeeps.flag (by decide) _ _).trans hbit, ?_⟩
        rwa [State.sticky, State.bit, hkeeps.regs _ _ _ (by decide)]
      · obtain rfl : e = e' := Option.some.inj he'
        exact ⟨fun fid hne => (hothers fid hne).trans (by rw [hph]), hretry, hdrop⟩

/-! ### Bad frames (R123 to R127) -/

section
variable {l : List Fld} {s0 s : State}

theorem Keeps.frameErr (hl : eventFlds ⊆ l) (h : Keeps l s0 s) {f : Fld} (hf : f ∈ l) {p : Nat} : Keeps l s0 (s.frameErr f p) := by
  have hput := h.put hf (v := 1) (i := p) (j := 0)
  exact Keeps.ite h (Keeps.ite hput (hput.raise hl).set)

end

/-- The error's own bit stands, and no frame leaves a queue. -/
theorem State.frameErr_leaves (s : State) {f : Fld} (p : Nat) (hw : f.width = 1) (hf : ∀ g ∈ eventFlds, g.base ≠ f.base) :
    (s.frameErr f p).flag f p = true ∧ (s.frameErr f p).net.egr = s.net.egr := by
  have hput : (s.put f 1 p).flag f p = true := by
    rw [State.flag_put_same, hw]
    rfl
  unfold State.frameErr
  split
  next hset => exact ⟨hset, rfl⟩
  next =>
    extract_lets t
    split
    · exact ⟨hput, rfl⟩
    · refine ⟨((State.raise_keeps t EV_FRAME_ERR).flag hf p 0).trans hput, ?_⟩
      show (t.raise EV_FRAME_ERR).net.egr = _
      rw [(t.raise_records _).net]
      rfl

/-- What counts a bad frame: its counter and its bit, and no frame leaves a queue. -/
structure BadCounted (s : State) (p : Nat) (cnt src : Fld) (t : State) : Prop where
  src : t.flag src p = true
  cnt : t.get cnt p = min (s.get cnt p + 1) (2 ^ cnt.width - 1)
  egr : t.net.egr = s.net.egr

/-- The registers of a frame that is stomped as it is cut through. -/
def stompFlds : List Fld := [R.STOMP_CNT, R.MAC_ERR_SRC_STOMP] ++ eventFlds

theorem State.badFrame_counts (s : State) (p : Nat) (f : FrameIn) (stomp : Bool) {cnt src : Fld} (hw : src.width = 1) (hne : src.base ≠ cnt.base)
    (hsrc : ∀ g ∈ stompFlds, g.base ≠ src.base) (hcnt : ∀ g ∈ stompFlds, g.base ≠ cnt.base) :
    BadCounted s p cnt src (s.badFrame p f cnt src stomp) := by
  have hsub : eventFlds ⊆ stompFlds := List.subset_append_right _ _
  unfold State.badFrame
  extract_lets t
  obtain ⟨hflag, hegr⟩ := (s.bump cnt p).frameErr_leaves p hw fun g hg => hsrc g (hsub hg)
  have hcount : t.get cnt p = min (s.get cnt p + 1) (2 ^ cnt.width - 1) := by
    have hkeeps : Keeps (src :: eventFlds) (s.bump cnt p) t := (Keeps.refl _ _).frameErr (List.subset_cons_self _ _) (List.mem_cons_self ..)
    rw [hkeeps.regs cnt p 0 (by simpa using ⟨hne, fun g hg => hcnt g (hsub hg)⟩)]
    exact State.get_bump_same _ _ _ _ (hcnt _ (by decide)).symm
  have ht : BadCounted s p cnt src t := ⟨hflag, hcount, hegr.trans (by rw [(RecordsOnly.refl s).bump.net])⟩
  split
  · split
    next q _ =>
      have hstomp : Keeps stompFlds t (((t.bump R.STOMP_CNT q).frameErr R.MAC_ERR_SRC_STOMP q).send (.stomped q)) :=
        (((Keeps.refl _ t).bump (by decide) (by decide)).frameErr hsub (by decide)).send
      obtain ⟨-, hegr'⟩ := (t.bump R.STOMP_CNT q).frameErr_leaves (f := R.MAC_ERR_SRC_STOMP) q rfl (by decide)
      exact ⟨(hstomp.flag hsrc p 0).trans ht.src, (hstomp.regs cnt p 0 hcnt).trans ht.cnt,
        hegr'.trans ((by rw [(RecordsOnly.refl t).bump.net] : (t.bump R.STOMP_CNT q).net.egr = t.net.egr).trans ht.egr)⟩
    · exact ht
  · exact ht

section
variable {s : State} {p : Fin 8} {f : FrameIn} (hoff : s.dev ≠ .off) (hsleep : s.dev ≠ .sleep) (hclk : s.plls.clockLost = false)
  (hlink : s.link p.val = true)
include hoff hsleep hclk hlink

theorem execMacFrameRx_codeError (hsym : f.symErr = true) :
    exec (.macFrameRx p f) s = .next (s.badFrame p.val f R.SYM_ERR_CNT R.MAC_ERR_SRC_SYM false) := by
  show execMacFrameRx p f s = _
  simp [execMacFrameRx, hoff, hsleep, hclk, hlink, hsym]

variable (hsym : f.symErr = false)
include hsym

theorem execMacFrameRx_runt (hlen : f.bytes.length < 64) :
    exec (.macFrameRx p f) s = .next (s.badFrame p.val f R.RUNT_CNT R.MAC_ERR_SRC_RUNT false) := by
  show execMacFrameRx p f s = _
  simp [execMacFrameRx, hoff, hsleep, hclk, hlink, hsym, hlen]

variable (hmin : 64 ≤ f.bytes.length)
include hmin

theorem execMacFrameRx_oversize (hmax : s.sizeLimit p.val (tagCount f.bytes) < f.bytes.length) :
    exec (.macFrameRx p f) s = .next (s.badFrame p.val f R.OVERSIZE_CNT R.MAC_ERR_SRC_OVERSIZE true) := by
  show execMacFrameRx p f s = _
  simp [execMacFrameRx, hoff, hsleep, hclk, hlink, hsym, Nat.not_lt.2 hmin, hmax]

variable (hmax : f.bytes.length ≤ s.sizeLimit p.val (tagCount f.bytes))
include hmax

theorem execMacFrameRx_badFcs (hfcs : f.fcsOk = false) :
    exec (.macFrameRx p f) s = .next (s.badFrame p.val f R.FCS_ERR_CNT R.MAC_ERR_SRC_FCS true) := by
  show execMacFrameRx p f s = _
  simp [execMacFrameRx, hoff, hsleep, hclk, hlink, hsym, Nat.not_lt.2 hmin, Nat.not_lt.2 hmax, hfcs]

theorem execMacFrameRx_good (hfcs : f.fcsOk = true) : exec (.macFrameRx p f) s = .next (if s.netUp
      then (s.bump R.RX_OK_CNT p.val).bridgeFrame p.val f.bytes (s.ingressNs p.val f.ns) else s.bump R.STATE_DISC_CNT p.val) := by
  show execMacFrameRx p f s = _
  cases hup : s.netUp
  all_goals simp [execMacFrameRx, hoff, hsleep, hclk, hlink, hsym, Nat.not_lt.2 hmin, Nat.not_lt.2 hmax, hfcs, hup]

end

/-! ### What the bridge leaves (R149 to R157, R162 to R164) -/

/-- The registers that a frame may change in the bridge. -/
def bridgeFlds : List Fld :=
  [R.PAUSE_RX_CNT, R.MACCTL_UNK_CNT, R.MAC_STATUS_RX_PAUSED, R.MAC_STATUS_PFC_PAUSED, R.BR_VLAN_DROP_CNT, R.RES_DROP_CNT, R.BE_DROP_CNT,
   R.BR_FDB_COUNT_ENTRIES, R.BR_LEARN_FULL_CNT, R.PTP_RX_CNT, R.PTP_ERR_CNT, R.BR_HRX_DROP_CNT, R.BR_HRX_HEAD_INDEX, R.TSN_SF_MATCH_CNT,
   R.TSN_SF_SDU_DROP_CNT, R.TSN_SF_STATUS_BLOCKED, R.TSN_SF_METER_DROP_CNT, R.FRER_TAGLESS_CNT, R.FRER_PASSED_CNT, R.FRER_ROGUE_CNT,
   R.FRER_DISCARDED_CNT, R.FRER_OOO_CNT, R.FRER_LOST_CNT, R.FRER_EVT_ENTRY, R.FRER_EVT_VALID] ++ (submitFlds ++ poolFlds)

theorem submitFlds_subset_bridgeFlds : submitFlds ⊆ bridgeFlds :=
  List.Subset.trans (List.subset_append_left _ _) (List.subset_append_right _ _)

theorem poolFlds_subset_bridgeFlds : poolFlds ⊆ bridgeFlds :=
  List.Subset.trans (List.subset_append_right _ _) (List.subset_append_right _ _)

theorem eventFlds_subset_bridgeFlds : eventFlds ⊆ bridgeFlds := List.Subset.trans eventFlds_subset_submitFlds submitFlds_subset_bridgeFlds

section
variable {s0 s : State}

theorem Keeps.count (h : Keeps bridgeFlds s0 s) {f : Fld} (hf : f ∈ bridgeFlds) {i j : Nat} : Keeps bridgeFlds s0 (s.bump f i j) :=
  h.bump hf (eventFlds_subset_bridgeFlds (by decide))

theorem Keeps.bridgeRaise (h : Keeps bridgeFlds s0 s) {e : Nat} : Keeps bridgeFlds s0 (s.raise e) := h.raise eventFlds_subset_bridgeFlds

theorem Keeps.pfcPrio (h : Keeps bridgeFlds s0 s) {p k quanta : Nat} : Keeps bridgeFlds s0 (s.pfcPrio p k quanta) :=
  Keeps.ite (h.putBit (by decide)) (Keeps.ite h (h.putBit (by decide)).bridgeRaise)

theorem Keeps.pauseAct (h : Keeps bridgeFlds s0 s) {p : Nat} {f : PauseFrame} : Keeps bridgeFlds s0 (s.pauseAct p f) := by
  refine Keeps.ite h (Keeps.ite (Keeps.ite (h.put (by decide)) (Keeps.ite h (h.put (by decide)).bridgeRaise)) ?_)
  exact List.foldlRecOn _ _ h fun _ hu _ _ => Keeps.ite hu.pfcPrio hu

theorem Keeps.macControl (h : Keeps bridgeFlds s0 s) {p : Nat} {f : PauseFrame} : Keeps bridgeFlds s0 (s.macControl p f) :=
  Keeps.ite (h.count (by decide)).pauseAct (h.count (by decide))

theorem Keeps.setFdb (h : Keeps bridgeFlds s0 s) {m : Sparse FdbEntry} : Keeps bridgeFlds s0 (s.setFdb m) := h.set.put (by decide)

theorem Keeps.fdbLearn (h : Keeps bridgeFlds s0 s) {p : Nat} {hd : Hdr} : Keeps bridgeFlds s0 (s.fdbLearn p hd) := by
  refine Keeps.ite h ?_
  split
  · exact Keeps.ite h h.setFdb
  · exact Keeps.ite (h.count (by decide)) h.setFdb

theorem Keeps.setBytes (h : Keeps bridgeFlds s0 s) {a : Nat} {bs : List (BitVec 8)} : Keeps bridgeFlds s0 (s.setBytes a bs) := by
  rw [State.setBytes_eq]
  exact h.set

theorem Keeps.hostDeliver (h : Keeps bridgeFlds s0 s) {p ns : Nat} {fr : List Byte} : Keeps bridgeFlds s0 (s.hostDeliver p fr ns) := by
  unfold State.hostDeliver
  extract_lets n hd nx d ok t t1 t2
  have ht : Keeps bridgeFlds s0 t := Keeps.ite h.setBytes (h.count (by decide))
  have ht2 : Keeps bridgeFlds s0 t2 := ht.setWord.setWord.setWord
  exact Keeps.ite h (Keeps.ite (h.count (by decide)) (ht2.put (by decide)))

theorem Keeps.ptpForeign (h : Keeps bridgeFlds s0 s) {fr : List Byte} {hd : Hdr} : Keeps bridgeFlds s0 (s.ptpForeign fr hd) :=
  h.when fun _ hu => (hu.count (by decide)).count (by decide)

theorem Keeps.consume (h : Keeps bridgeFlds s0 s) {p ns : Nat} {fr : List Byte} : Keeps bridgeFlds s0 (s.consume p fr ns) :=
  Keeps.ite h.ptpForeign.send (Keeps.ite h.send (Keeps.ite h.send (Keeps.ite h.send h.hostDeliver)))

theorem Keeps.reservedFrame (h : Keeps bridgeFlds s0 s) {p ns : Nat} {bs : List Byte} {hd : Hdr} :
    Keeps bridgeFlds s0 (s.reservedFrame p bs hd ns) := by
  unfold State.reservedFrame
  extract_lets t resv
  have ht : Keeps bridgeFlds s0 t := h.fdbLearn
  refine Keeps.ite (ht.count ?_) (Keeps.ite ht (Keeps.ite ht.ptpForeign.send ht.hostDeliver))
  cases resv
  · decide
  · decide

theorem Keeps.filterPass (h : Keeps bridgeFlds s0 s) {p len ns : Nat} {hd : Hdr} : Keeps bridgeFlds s0 (s.filterPass p hd len ns).2 := by
  unfold State.filterPass
  split
  · exact h
  next n _ =>
    extract_lets t k r net u
    have ht : Keeps bridgeFlds s0 t := h.count (by decide)
    have hu : Keeps bridgeFlds s0 u := ht.set
    split_ifs
    · exact ht.count (by decide)
    · exact (ht.count (by decide)).when fun _ hv => hv.put (by decide)
    · exact hu
    · exact hu.count (by decide)
    · exact ht

theorem Keeps.setFrer (h : Keeps bridgeFlds s0 s) {n : Nat} {x : Frer} : Keeps bridgeFlds s0 (s.setFrer n x) := h.set

theorem Keeps.frerEvent (h : Keeps bridgeFlds s0 s) {n : Nat} : Keeps bridgeFlds s0 (s.frerEvent n) :=
  ((h.put (by decide)).put (by decide)).bridgeRaise

theorem Keeps.frerRecover (h : Keeps bridgeFlds s0 s) {n seq : Nat} : Keeps bridgeFlds s0 (s.frerRecover n seq).2 := by
  unfold State.frerRecover
  extract_lets x d t k k' lost hist t'
  have ht : Keeps bridgeFlds s0 t := h.count (by decide)
  have ht' : Keeps bridgeFlds s0 t' :=
    (h.setFrer.count (by decide)).bumpBy (by decide) (eventFlds_subset_bridgeFlds (by decide))
  split_ifs
  · exact h.setFrer.count (by decide)
  · exact ht
  · exact ht.setFrer.frerEvent
  · exact h.count (by decide)
  · exact (h.setFrer.count (by decide)).count (by decide)
  · exact ht'
  · exact ht'.count (by decide)

theorem Keeps.recover (h : Keeps bridgeFlds s0 s) {p : Nat} {bs : List Byte} {hd : Hdr} : Keeps bridgeFlds s0 (s.recover p bs hd).2.2.2 := by
  unfold State.recover
  extract_lets fw int
  split
  · exact h
  next n _ =>
    extract_lets rec' plain rcv
    split
    · exact h
    · split
      · exact h.count (by decide)
      next q _ =>
        extract_lets r
        have hr : Keeps bridgeFlds s0 r.2 := h.frerRecover
        split
        · exact hr
        · exact hr

theorem Keeps.copies (h : Keeps bridgeFlds s0 s) {p tc fid : Nat} {bs : List Byte} {hd : Hdr} {resv : Bool} {l : List Nat} :
    Keeps bridgeFlds s0 (s.copies p bs hd tc resv fid l) := by
  induction l generalizing s with
  | nil => exact h
  | cons q l ih => exact ih (h.trans ((s.enqueue_keeps _).keeps.mono submitFlds_subset_bridgeFlds))

theorem Keeps.poolUpdate (h : Keeps bridgeFlds s0 s) {p : Nat} : Keeps bridgeFlds s0 (s.poolUpdate p) :=
  h.trans ((KeepsNet.refl _ s).poolUpdate.keeps.mono poolFlds_subset_bridgeFlds)

theorem Keeps.forward (h : Keeps bridgeFlds s0 s) {p ns : Nat} {bs : List Byte} {hd : Hdr} : Keeps bridgeFlds s0 (s.forward p bs hd ns) := by
  unfold State.forward
  extract_lets fr tc resv r n u u1 u2
  have hn : Keeps bridgeFlds s0 n.2 := h.recover.set
  have hu1 : Keeps bridgeFlds s0 u1 := hn.copies.copies
  have hu2 : Keeps bridgeFlds s0 u2 := hu1.poolUpdate
  exact hu2.when fun _ hv => hv.consume

/-- Whatever becomes of a frame in the bridge. -/
theorem Keeps.bridgeFrame (h : Keeps bridgeFlds s0 s) {p ns : Nat} {bs : List Byte} : Keeps bridgeFlds s0 (s.bridgeFrame p bs ns) := by
  unfold State.bridgeFrame
  extract_lets hd f resv t
  have hf : Keeps bridgeFlds s0 f.2 := h.filterPass
  have ht : Keeps bridgeFlds s0 t := hf.fdbLearn
  refine Keeps.ite h.macControl (Keeps.ite (h.count (by decide)) (Keeps.ite h.reservedFrame (Keeps.ite hf (Keeps.ite (ht.count ?_) ht.forward))))
  cases resv
  · decide
  · decide

end

/-! ### A frame that the bridge forwards to one port (R151 to R156) -/

/-- A received frame of a class that the best-effort limit does not hold joins its queue as it is: its pool has room for it (R129, R154). -/
theorem State.enqueue_received {s : State} {e : EgrFrame} (hup : s.netUp = true) (hlink : s.link e.port = true)
    (htas : s.tasOversize e.port e.tc e.len = false) (hr : s.isReserved e.tc = true) (hin : e.ingress ≠ 8) :
    (s.enqueue e).2 = { s with net := { s.net with egr := s.net.egr ++ [e] } } := by
  simp [State.enqueue, hup, hlink, htas, hr, hin]

theorem State.link_of_mem_forwardSet {s : State} {p q : Nat} {bs : List Byte} {h : Hdr} (hq : q ∈ s.forwardSet p bs h) : s.link q = true := by
  unfold State.forwardSet at hq
  extract_lets ptp hit cand at hq
  split at hq
  · exact absurd hq List.not_mem_nil
  · obtain ⟨-, hcond⟩ := List.mem_filter.1 hq
    simp only [Bool.and_eq_true] at hcond
    obtain ⟨⟨-, hlink⟩, -⟩ := hcond
    exact hlink

section
variable {s : State} {p q ns : Nat} {bs : List Byte} {h : Hdr}

/-- A frame of no recovery entry leaves by the ports that the database names (R163). -/
theorem State.recover_none (hfrer : s.frerEntry h = none) : s.recover p bs h = (s.forwardSet p bs h, [], s.toInternal h, s) := by
  rw [State.recover, hfrer]

/-- The copy of a received frame that waits on port q. -/
def State.egressCopy (s : State) (p q : Nat) (bs : List Byte) (h : Hdr) : EgrFrame :=
  ⟨s.net.nextFid, q, s.frameTc bs h, (s.egressBytes q (noFcs bs) h).length + 4, p, true, .frame (s.egressBytes q (noFcs bs) h)⟩

theorem State.forward_of_recover (haudio : s.isAudioTc (s.frameTc bs h) = true) (hr : s.recover p bs h = ([q], [], false, s)) :
    s.forward p bs h ns = (s.newFid.2.enqueue (s.egressCopy p q bs h)).2.poolUpdate p := by
  unfold State.forward
  rw [hr]
  dsimp only
  rw [haudio, Bool.true_or]
  rfl

theorem State.forward_one (hup : s.netUp = true) (hp : p < 8) (haudio : s.isAudioTc (s.frameTc bs h) = true)
    (hfw : s.forwardSet p bs h = [q]) (hint : s.toInternal h = false) (hfrer : s.frerEntry h = none)
    (htas : s.tasOversize q (s.frameTc bs h) ((s.egressBytes q (noFcs bs) h).length + 4) = false) :
    (s.forward p bs h ns).net.egr = s.net.egr ++ [s.egressCopy p q bs h] := by
  have hn : SamePorts s s.newFid.2 := ⟨rfl, rfl, rfl, rfl, fun _ _ _ _ => rfl⟩
  have hlink : s.link q = true := State.link_of_mem_forwardSet (by rw [hfw]; exact List.mem_singleton_self q)
  have hres : s.isReserved (s.frameTc bs h) = true := by rw [State.isReserved, haudio, Bool.true_or]
  have henq := State.enqueue_received (s := s.newFid.2) (e := s.egressCopy p q bs h) (hn.netUp.trans hup) ((hn.link q).trans hlink)
    ((hn.tasOversize _ _ _).trans htas) ((hn.isReserved _).trans hres) (Nat.ne_of_lt hp)
  have hr : s.recover p bs h = ([q], [], false, s) := by rw [State.recover_none hfrer, hfw, hint]
  rw [State.forward_of_recover haudio hr, (KeepsNet.refl _ _).poolUpdate.net, henq]
  rfl

theorem State.filterPass_none (hfilt : s.streamFilter p h = none) (len ns : Nat) : s.filterPass p h len ns = (true, s) := by
  unfold State.filterPass
  rw [hfilt]

/-- A frame that nothing in the bridge stops, learns or takes is forwarded (R150 to R155). -/
theorem State.bridgeFrame_forwards (het : (s.hdr p bs).et ≠ 0x8808) (hda : isReservedDa (s.hdr p bs).da = false)
    (hmem : s.member (s.hdr p bs).vid p = true) (hfilt : s.streamFilter p (s.hdr p bs) = none) (hlearn : s.flag R.BR_CTRL_LEARN_EN = false)
    (haudio : s.isAudioTc (s.frameTc bs (s.hdr p bs)) = true) (hroom : s.poolUsed p true + bs.length ≤ s.poolSize p true) :
    s.bridgeFrame p bs ns = s.forward p bs (s.hdr p bs) ns := by
  have hpass : s.filterPass p (s.hdr p bs) (bs.length - 4) ns = (true, s) := State.filterPass_none hfilt _ _
  have hstay : s.fdbLearn p (s.hdr p bs) = s := by simp [State.fdbLearn, hlearn]
  have hfull : s.poolFull p true bs.length = false := decide_eq_false (Nat.not_lt.2 hroom)
  have hin : ¬(s.flag R.BR_PORT_CFG_INGRESS_FILT p && !s.member (s.hdr p bs).vid p) = true := by simp [hmem]
  unfold State.bridgeFrame
  rw [if_neg het, if_neg hin, hda, if_neg Bool.false_ne_true, hpass]
  dsimp only
  rw [hstay, haudio, Bool.true_or, hfull]
  rfl

end

/-! ### The count of an accepted frame is nothing that the bridge looks at (R125) -/

/-- The registers of the count. -/
def acceptFlds : List Fld := [R.RX_OK_CNT, R.PG_STATUS_SAT_SEEN]

theorem State.accepted_keeps (s : State) (p : Nat) : KeepsNet acceptFlds s (s.bump R.RX_OK_CNT p) :=
  (KeepsNet.refl _ s).bump (by decide) (by decide)

theorem State.accepted_ports (s : State) (p : Nat) : SamePorts s (s.bump R.RX_OK_CNT p) := (SamePorts.refl s).bump (by decide)

section
variable {s t : State} (h : KeepsNet acceptFlds s t)
include h

theorem KeepsNet.hdr (p : Nat) (bs : List Byte) : t.hdr p bs = s.hdr p bs := by
  simp [State.hdr, State.pvid, h.keeps.regs R.BR_PORT_CFG_PVID _ _ (by decide)]

theorem KeepsNet.frameTc (bs : List Byte) (hd : Hdr) : t.frameTc bs hd = s.frameTc bs hd := by
  simp [State.frameTc, State.tcOf, h.keeps.regs R.BR_PCP_MAP_MAP _ _ (by decide)]

theorem KeepsNet.isAudioTc (tc : Nat) : t.isAudioTc tc = s.isAudioTc tc := by
  simp [State.isAudioTc, h.keeps.regs R.BR_CLASS_TC_A _ _ (by decide), h.keeps.regs R.BR_CLASS_TC_B _ _ (by decide)]

theorem KeepsNet.member (vid p : Nat) : t.member vid p = s.member vid p := by
  simp [State.member, State.bit, h.keeps.regs R.BR_VLAN_CFG_MEMBER _ _ (by decide)]

theorem KeepsNet.streamFilter (p : Nat) (hd : Hdr) : t.streamFilter p hd = s.streamFilter p hd := by
  simp (disch := decide) [State.streamFilter, State.flag, State.bit, h.keeps.regs]

theorem KeepsNet.frerEntry (hd : Hdr) : t.frerEntry hd = s.frerEntry hd := by
  simp (disch := decide) [State.frerEntry, State.flag, h.keeps.regs]

theorem KeepsNet.link (p : Nat) : t.link p = s.link p := h.keeps.flag (by decide) p 0

theorem KeepsNet.forwardSet (p : Nat) (bs : List Byte) (hd : Hdr) : t.forwardSet p bs hd = s.forwardSet p bs hd := by
  simp (disch := decide) [State.forwardSet, State.fdbFind, State.flag, h.net, h.member, h.link, h.keeps.regs]

theorem KeepsNet.toInternal (hd : Hdr) : t.toInternal hd = s.toInternal hd := by
  simp (disch := decide) [State.toInternal, State.ownGroup, State.portMac, State.fdbFind, State.flag, h.net, h.member, h.keeps.regs]

theorem KeepsNet.egressBytes (q : Nat) (bs : List Byte) (hd : Hdr) : t.egressBytes q bs hd = s.egressBytes q bs hd := by
  simp [State.egressBytes, State.bit, h.keeps.regs R.BR_VLAN_CFG_UNTAG _ _ (by decide)]

theorem KeepsNet.egressCopy (p q : Nat) (bs : List Byte) (hd : Hdr) : t.egressCopy p q bs hd = s.egressCopy p q bs hd := by
  simp [State.egressCopy, h.net, h.frameTc, h.egressBytes]

end

theorem SamePorts.pool {s t : State} (h : SamePorts s t) (p : Nat) (resv : Bool) :
    t.poolUsed p resv = s.poolUsed p resv ∧ t.poolSize p resv = s.poolSize p resv := by
  simp [State.poolSize, State.poolUsed, h.carve, h.egr, h.regs R.BR_BUF_SIZE_PAGES (by decide)]

/-! ### O35 -/

/-- Settles O35: a frame is judged by its errors in their order, and one that the bridge forwards waits on its one port. -/
theorem frameReception : Obligations.FrameReception := by
  refine ⟨fun s p f hoff hsleep hclk hlink => ⟨fun hsym => ?_, fun hsym hlen => ?_, fun hsym hmin hmax => ?_, fun hsym hmin hmax hfcs => ?_,
    fun hsym hmin hmax hfcs => ⟨fun hdark => ?_, fun hup => ?_⟩⟩, ?_⟩
  · have hbad := s.badFrame_counts p.val f false (cnt := R.SYM_ERR_CNT) (src := R.MAC_ERR_SRC_SYM) rfl (by decide) (by decide) (by decide)
    exact ⟨_, execMacFrameRx_codeError hoff hsleep hclk hlink hsym, hbad.src, hbad.cnt, hbad.egr⟩
  · have hbad := s.badFrame_counts p.val f false (cnt := R.RUNT_CNT) (src := R.MAC_ERR_SRC_RUNT) rfl (by decide) (by decide) (by decide)
    exact ⟨_, execMacFrameRx_runt hoff hsleep hclk hlink hsym hlen, hbad.src, hbad.cnt, hbad.egr⟩
  · have hbad := s.badFrame_counts p.val f true (cnt := R.OVERSIZE_CNT) (src := R.MAC_ERR_SRC_OVERSIZE) rfl (by decide) (by decide) (by decide)
    exact ⟨_, execMacFrameRx_oversize hoff hsleep hclk hlink hsym hmin hmax, hbad.src, hbad.cnt, hbad.egr⟩
  · have hbad := s.badFrame_counts p.val f true (cnt := R.FCS_ERR_CNT) (src := R.MAC_ERR_SRC_FCS) rfl (by decide) (by decide) (by decide)
    exact ⟨_, execMacFrameRx_badFcs hoff hsleep hclk hlink hsym hmin hmax hfcs, hbad.src, hbad.cnt, hbad.egr⟩
  · rw [execMacFrameRx_good hoff hsleep hclk hlink hsym hmin hmax hfcs, hdark, if_neg Bool.false_ne_true]
  · have hbridge : Keeps bridgeFlds (s.bump R.RX_OK_CNT p.val)
        ((s.bump R.RX_OK_CNT p.val).bridgeFrame p.val f.bytes (s.ingressNs p.val f.ns)) := (Keeps.refl _ _).bridgeFrame
    rw [execMacFrameRx_good hoff hsleep hclk hlink hsym hmin hmax hfcs, if_pos hup]
    refine ⟨_, rfl, ?_, (s.accepted_keeps p.val).keeps.core.trans hbridge.core⟩
    rw [hbridge.regs _ _ _ (by decide)]
    exact State.get_bump_same _ _ _ _ (by decide)
  · intro s p f q hup hlink hsym hfcs hmin hmax h tc out het hda hmem hfilt hlearn haudio hroom hfw hint hfrer htas
    obtain ⟨hoff, hsleep, hclk⟩ := State.heard_of_netUp hup
    have hk := s.accepted_keeps p.val
    have hports := s.accepted_ports p.val
    obtain ⟨hused, hsize⟩ := hports.pool p.val true
    have hhdr : (s.bump R.RX_OK_CNT p.val).hdr p.val f.bytes = h := hk.hdr _ _
    have hbridge := State.bridgeFrame_forwards (s := s.bump R.RX_OK_CNT p.val) (p := p.val) (bs := f.bytes) (ns := s.ingressNs p.val f.ns)
    rw [hhdr, hk.member, hk.streamFilter, hk.frameTc, hk.isAudioTc, hused, hsize, hk.keeps.flag (by decide)] at hbridge
    have hone := State.forward_one (s := s.bump R.RX_OK_CNT p.val) (p := p.val) (q := q) (bs := f.bytes) (h := h) (ns := s.ingressNs p.val f.ns)
    rw [hports.netUp, hk.frameTc, hk.isAudioTc, hk.forwardSet, hk.toInternal, hk.frerEntry, hk.egressBytes, hports.tasOversize,
      hk.egressCopy, hk.net] at hone
    rw [execMacFrameRx_good hoff hsleep hclk hlink hsym hmin hmax hfcs, if_pos hup, hbridge het hda hmem hfilt hlearn haudio hroom]
    exact ⟨_, rfl, hone hup p.isLt haudio hfw hint hfrer htas⟩

end Sys2Proof.Machine

/-! PROOFS. Bridging, traffic shaping and network time: the filtering database (O39), the host's ring and the TSN rows (O40), PTP messages
received (O41) and sent, with their time-outs (O42). -/

namespace Sys2Proof.Machine

/-! ### The filtering database (R152, R170) -/

theorem State.setFdb_count (s : State) (m : Sparse FdbEntry) : (s.setFdb m).get R.BR_FDB_COUNT_ENTRIES = m.length % 2 ^ 14 :=
  State.get_put_same _ _ _ _ _

/-- The key that the database's command registers name. -/
def State.fdbArgKey (s : State) : Nat := fdbKey s.fdbArg.1 s.fdbArg.2

section
variable {s : State}

theorem State.fdbStart_busy (hb : s.flag R.BR_FDB_CMD_BUSY = true) (op : Nat) : s.fdbStart op = s.raise EV_HOST_ERR := if_pos hb

theorem State.fdbStart_idle (hb : s.flag R.BR_FDB_CMD_BUSY = false) (op : Nat) :
    s.fdbStart op = (s.put R.BR_FDB_CMD_OP op).put R.BR_FDB_CMD_BUSY 1 := by
  rw [State.fdbStart, hb, if_neg Bool.false_ne_true]

/-- The four commands, each with the operation that it asks for. -/
theorem exec_fdb {who : Initiator} {c : Instr} {op : Nat} (ht : s.takes who fdbCmdAddr = true)
    (hc : (c, op) ∈ [(Instr.fdbLookup who, 0), (.fdbAddStatic who, 1), (.fdbDelete who, 2), (.fdbFlushDynamic who, 3)]) :
    exec c s = .next (s.fdbStart op) ∧ op < 4 := by
  simp only [List.mem_cons, List.not_mem_nil, or_false, Prod.mk.injEq] at hc
  rcases hc with ⟨rfl, rfl⟩ | ⟨rfl, rfl⟩ | ⟨rfl, rfl⟩ | ⟨rfl, rfl⟩
  all_goals exact ⟨congrArg _ (State.command_taken _ ht), by decide⟩

/-- A command that starts shows its operation and BUSY, and changes nothing else. -/
theorem State.fdbStart_leaves (hb : s.flag R.BR_FDB_CMD_BUSY = false) {op : Nat} (hop : op < 4) :
    let t := s.fdbStart op
    t.flag R.BR_FDB_CMD_BUSY = true ∧ t.get R.BR_FDB_CMD_OP = op ∧ RegsOnly [R.BR_FDB_CMD_OP, R.BR_FDB_CMD_BUSY] s t := by
  rw [State.fdbStart_idle hb]
  refine ⟨State.flag_put_same _ _ _ _ _, ?_, ((RegsOnly.refl _ s).put (by decide)).put (by decide)⟩
  rw [State.get_put_ne _ _ _ _ _ _ (by decide), State.get_put_same]
  exact Nat.mod_eq_of_lt hop

/-! What the operation under way does at its end, one lemma for each outcome. -/

theorem State.fdbRun_found {e : FdbEntry} (hop : s.get R.BR_FDB_CMD_OP = 0) (hf : Sparse.find s.net.fdb s.fdbArgKey = some e) :
    s.fdbRun = ((s.put R.BR_FDB_DATA_PORTS e.ports).put R.BR_FDB_DATA_STATIC (b2n e.static)).put R.BR_FDB_DATA_FOUND 1 := by
  unfold State.fdbArgKey at hf
  simp [State.fdbRun, hop, hf]

theorem State.fdbRun_absent (hop : s.get R.BR_FDB_CMD_OP = 0) (hf : Sparse.find s.net.fdb s.fdbArgKey = none) :
    s.fdbRun = (s.put R.BR_FDB_DATA_STATIC 0).put R.BR_FDB_DATA_FOUND 0 := by
  unfold State.fdbArgKey at hf
  simp [State.fdbRun, hop, hf]

theorem State.fdbRun_add (hop : s.get R.BR_FDB_CMD_OP = 1) : s.fdbRun =
    if (Sparse.find s.net.fdb s.fdbArgKey).isSome || s.net.fdb.length < 8192
      then s.setFdb (Sparse.set s.net.fdb s.fdbArgKey ⟨s.get R.BR_FDB_DATA_PORTS, true⟩) else s := by
  rw [State.fdbRun, hop]
  rfl

theorem State.fdbRun_delete (hop : s.get R.BR_FDB_CMD_OP = 2) : s.fdbRun = s.setFdb (Sparse.erase s.net.fdb s.fdbArgKey) := by
  rw [State.fdbRun, hop]
  rfl

theorem State.fdbRun_flush (hop : s.get R.BR_FDB_CMD_OP = 3) : s.fdbRun = s.setFdb (s.net.fdb.filter (fun e => e.2.static)) := by
  rw [State.fdbRun, hop]
  rfl

/-- A look-up shows what it finds, and leaves the database. -/
theorem State.fdbRun_lookup (hop : s.get R.BR_FDB_CMD_OP = 0) : let t := s.fdbRun
    t.net = s.net ∧
      (∀ e, Sparse.find s.net.fdb s.fdbArgKey = some e → t.flag R.BR_FDB_DATA_FOUND = true ∧ t.get R.BR_FDB_DATA_PORTS = e.ports % 512 ∧
        t.flag R.BR_FDB_DATA_STATIC = e.static) ∧
      (Sparse.find s.net.fdb s.fdbArgKey = none → t.flag R.BR_FDB_DATA_FOUND = false ∧ t.flag R.BR_FDB_DATA_STATIC = false) := by
  cases hf : Sparse.find s.net.fdb s.fdbArgKey with
  | some e =>
    rw [State.fdbRun_found hop hf]
    refine ⟨rfl, fun e' he => ?_, fun h => nomatch h⟩
    obtain rfl : e = e' := Option.some.inj he
    refine ⟨State.flag_put_same _ _ _ _ _, ?_, ?_⟩
    · rw [State.get_put_ne _ _ _ _ _ _ (by decide), State.get_put_ne _ _ _ _ _ _ (by decide), State.get_put_same]
      rfl
    · rw [State.flag_put_ne _ _ _ _ _ _ (by decide), State.flag_put_same]
      exact b2n_flag e.static
  | none =>
    rw [State.fdbRun_absent hop hf]
    refine ⟨rfl, (fun _ he => nomatch he), fun _ => ⟨State.flag_put_same _ _ _ _ _, ?_⟩⟩
    rw [State.flag_put_ne _ _ _ _ _ _ (by decide), State.flag_put_same]
    rfl

/-- A look-up, an addition and a deletion leave the entries of other addresses. -/
theorem State.fdbRun_others (hop : s.get R.BR_FDB_CMD_OP < 3) {k : Nat} (hk : k ≠ s.fdbArgKey) :
    Sparse.find s.fdbRun.net.fdb k = Sparse.find s.net.fdb k := by
  obtain hop | hop | hop : s.get R.BR_FDB_CMD_OP = 0 ∨ s.get R.BR_FDB_CMD_OP = 1 ∨ s.get R.BR_FDB_CMD_OP = 2 := by omega
  · obtain ⟨hnet, -⟩ := State.fdbRun_lookup hop
    rw [hnet]
  · rw [State.fdbRun_add hop]
    split
    · exact Sparse.find_set_ne _ _ hk.symm
    · rfl
  · rw [State.fdbRun_delete hop]
    exact Sparse.find_erase_ne _ hk.symm

theorem execFdbCmdDone_ends (hb : s.flag R.BR_FDB_CMD_BUSY = true) :
    exec .fdbCmdDone s = .next (s.fdbRun.put R.BR_FDB_CMD_BUSY 0) := by
  show execFdbCmdDone s = _
  rw [execFdbCmdDone, hb, if_pos rfl]

theorem execFdbAgeOut_leaves {mac : Mac} {vid : Fin 4096} {e : FdbEntry} (hf : s.fdbFind vid.val mac.toNat = some e)
    (hpow : s.powered = true) (hage : s.get R.BR_AGE_SECONDS ≠ 0) (hdyn : e.static = false) :
    exec (.fdbAgeOut mac vid) s = .next (s.setFdb (Sparse.erase s.net.fdb (fdbKey vid.val mac.toNat))) := by
  show execFdbAgeOut mac vid s = _
  simp [execFdbAgeOut, hf, hpow, hage, hdyn]

end

/-! ### O39 -/

/-- Settles O39: a command starts, has its effect on the one key that it names or on the dynamic entries at its end, and an entry ages out. -/
theorem fdbRows : Obligations.FdbRows := by
  refine ⟨fun s who c op ht hc => ?_, fun s hb => ?_, fun s mac vid e hf hpow hage hdyn => ?_⟩
  · obtain ⟨hexec, hop⟩ := exec_fdb ht hc
    refine ⟨fun hidle => ⟨_, hexec, State.fdbStart_leaves hidle hop⟩, fun hbusy => ?_⟩
    rw [hexec, State.fdbStart_busy hbusy]
  · refine ⟨_, execFdbCmdDone_ends hb, State.flag_put_same _ _ _ _ _, fun hop => ?_, fun hop hroom => ?_, fun hop => ?_,
      fun hop k' hk => State.fdbRun_others hop hk, fun hop e he => ?_, fun hop e he hst => ?_⟩
    · obtain ⟨hnet, hfound, habsent⟩ := State.fdbRun_lookup hop
      refine ⟨hnet, fun e he => ?_, fun hnone => ?_⟩
      · obtain ⟨hfnd, hports, hstatic⟩ := hfound e he
        exact ⟨(State.flag_put_ne _ _ _ _ _ _ (by decide)).trans hfnd, (State.get_put_ne _ _ _ _ _ _ (by decide)).trans hports,
          (State.flag_put_ne _ _ _ _ _ _ (by decide)).trans hstatic⟩
      · obtain ⟨hfnd, hstatic⟩ := habsent hnone
        exact ⟨(State.flag_put_ne _ _ _ _ _ _ (by decide)).trans hfnd, (State.flag_put_ne _ _ _ _ _ _ (by decide)).trans hstatic⟩
    · rw [State.fdbRun_add hop, if_pos (by simp [hroom])]
      exact Sparse.find_set_same _ _ _
    · rw [State.fdbRun_delete hop]
      exact Sparse.find_erase_same _ _
    · rw [State.fdbRun_flush hop] at he
      exact List.mem_filter.1 he
    · rw [State.fdbRun_flush hop]
      exact List.mem_filter.2 ⟨he, hst⟩
  · exact ⟨_, execFdbAgeOut_leaves hf hpow hage hdyn, Sparse.find_erase_same _ _, State.setFdb_count _ _,
      fun k' hk => Sparse.find_erase_ne _ hk.symm⟩

/-! ### The host's transmit ring (R128, R157) -/

theorem State.bytes_congr {s t : State} (h : t.mem = s.mem) (a n : Nat) : t.bytes a n = s.bytes a n := by
  induction n generalizing a with
  | zero => rfl
  | succ n ih => rw [State.bytes, ih, State.byte_congr h, State.bytes]

theorem State.word_congr {s t : State} (h : t.mem = s.mem) (a : Nat) : t.word a = s.word a := by
  rw [State.word, State.le, State.bytes_congr h, State.word, State.le]

@[simp] theorem State.bytes_length (s : State) (a n : Nat) : (s.bytes a n).length = n := by
  induction n generalizing a with
  | zero => rfl
  | succ n ih => rw [State.bytes, List.length_cons, ih]

/-- The registers of the protection regions. -/
def protFlds : List Fld :=
  [R.PROT_BASE_VALID, R.PROT_BASE_BASE, R.PROT_SIZE_PAGES, R.PROT_PERM_HQ, R.PROT_PERM_IB, R.PROT_PERM_SP, R.PROT_PERM_ENG, R.PROT_PERM_SDMA,
   R.PROT_PERM_FDMA]

/-- What the regions grant does not hang on other registers (R74). -/
theorem Keeps.areaGranted {l : List Fld} {s t : State} (h : Keeps l s t) (hl : ∀ g ∈ protFlds, ∀ f ∈ l, f.base ≠ g.base) (c : Cls) (wr : Bool)
    (a len : Nat) : t.areaGranted c wr a len = s.areaGranted c wr a len := by
  have hget {g : Fld} (hg : g ∈ protFlds) (n : Nat) : t.get g n = s.get g n := h.regs g n 0 (hl g hg)
  have hbits (n : Nat) : t.permBits c n = s.permBits c n := by
    cases c with
    | boot => rfl
    | _ => exact hget (by decide) n
  have hin (n x : Nat) : t.inRegion n x = s.inRegion n x := by
    simp [State.inRegion, State.flag, hget (g := R.PROT_BASE_VALID) (by decide), hget (g := R.PROT_BASE_BASE) (by decide),
      hget (g := R.PROT_SIZE_PAGES) (by decide)]
  simp [State.areaGranted, State.granted, hbits, hin]

/-- A frame of the host, padded to the length of the shortest frame (R128). -/
def hostPadded (bs : List Byte) : List Byte := bs ++ List.replicate (60 - bs.length) 0

theorem hostPadded_length (bs : List Byte) : (hostPadded bs).length = max 60 bs.length := by
  rw [hostPadded, List.length_append, List.length_replicate]
  omega

/-- The frame as it waits on port p, in class 7. -/
def State.hostFrame (s : State) (p : Nat) (bs : List Byte) : EgrFrame :=
  ⟨s.net.nextFid, p, 7, max 60 bs.length + 4, p, true, .frame (hostPadded bs)⟩

theorem portsOf_two_pow : ∀ p, p < 8 → portsOf (2 ^ p) = [p] := by decide

section
variable {s : State} {p : Nat} {bs : List Byte} (hp : p < 8) (hlen : bs.length + 4 ≤ s.sizeLimit p (tagCount bs))
include hp hlen

/-- A frame that names one port and fits it is submitted there, or finds it down. -/
theorem State.submitFrame_one (tc ns : Nat) : s.submitFrame bs (2 ^ p) tc ns =
    if s.link p then (0, (s.newFid.2.enqueue ⟨s.newFid.1, p, tc, (hostPadded bs).length + 4, 8, false, .frame (hostPadded bs)⟩).2) else (2, s) := by
  have hshort : ¬s.sizeLimit p (tagCount bs) < bs.length + 4 := Nat.not_lt.2 hlen
  cases hlink : s.link p
  all_goals simp [State.submitFrame, portsOf_two_pow p hp, hshort, hlink, State.when, hostPadded]

theorem State.submitFrame_down (hlink : s.link p = false) (tc ns : Nat) : s.submitFrame bs (2 ^ p) tc ns = (2, s) := by
  rw [State.submitFrame_one hp hlen, hlink, if_neg Bool.false_ne_true]

theorem State.submitFrame_queued (hup : s.netUp = true) (hlink : s.link p = true) (htas : s.flag R.TSN_TAS_STATUS_OPER p = false)
    (hroom : s.poolFull p true (max 60 bs.length + 4) = false) (ns : Nat) : s.submitFrame bs (2 ^ p) 7 ns =
      (0, { s with net := { s.net with nextFid := s.net.nextFid + 1, egr := s.net.egr ++ [s.hostFrame p bs] } }) := by
  have hn : SamePorts s s.newFid.2 := ⟨rfl, rfl, rfl, rfl, fun _ _ _ _ => rfl⟩
  have hgate : s.tasOversize p 7 (max 60 bs.length + 4) = false := by simp [State.tasOversize, htas]
  have hres : s.isReserved 7 = true := by simp [State.isReserved]
  have henq := State.enqueue_reserved (s := s.newFid.2) (e := ⟨s.newFid.1, p, 7, max 60 bs.length + 4, 8, false, .frame (hostPadded bs)⟩)
    (hn.netUp.trans hup) ((hn.link p).trans hlink) ((hn.tasOversize _ _ _).trans hgate) ((hn.isReserved 7).trans hres) rfl
    ((hn.poolFull _ _ _).trans hroom)
  rw [State.submitFrame_one hp hlen, hlink, if_pos rfl, hostPadded_length, henq]
  rfl

end

/-- Whatever becomes of a frame of the host in the bridge. -/
theorem Keeps.submitFrame {s0 s : State} (h : Keeps bridgeFlds s0 s) {bs : List Byte} {mask tc ns : Nat} :
    Keeps bridgeFlds s0 (s.submitFrame bs mask tc ns).2 := by
  unfold State.submitFrame
  extract_lets hd egress int tooLong n body t
  have hn : Keeps bridgeFlds s0 n.2 := h.set
  have ht : Keeps bridgeFlds s0 t := List.foldlRecOn egress _ hn fun u hu q _ =>
    hu.trans ((u.enqueue_keeps _).keeps.mono submitFlds_subset_bridgeFlds)
  have hint : Keeps bridgeFlds s0 (t.when int fun u => u.consume 8 (u.egressBytes 8 bs hd) ns) := ht.when fun _ hu => hu.consume
  split
  · exact List.foldlRecOn tooLong _ h fun _ hu _ _ => hu.count (submitFlds_subset_bridgeFlds (by decide))
  · split
    · exact h
    · exact hint

theorem Keeps.hostDescriptor {s0 s : State} (h : Keeps bridgeFlds s0 s) {d : Nat} : Keeps bridgeFlds s0 (s.hostDescriptor d) := by
  unfold State.hostDescriptor
  extract_lets buf w1 len r
  have hr : Keeps bridgeFlds s0 r.2 := by
    show Keeps bridgeFlds s0 (if _ then _ else _ : Nat × State).2
    split
    · exact h
    · exact h.submitFrame
  exact hr.setWord

theorem State.hostDescriptor_denied {s : State} {d : Nat} (h : s.areaGranted .hq false (s.word d) (s.word (d + 4) % 16384) = false) :
    s.hostDescriptor d = s.setWord (d + 12) 3 := by
  simp [State.hostDescriptor, h]

theorem State.hostDescriptor_submits {s : State} {d : Nat} {r : Nat × State}
    (h : s.areaGranted .hq false (s.word d) (s.word (d + 4) % 16384) = true)
    (hr : r = s.submitFrame (s.bytes (s.word d) (s.word (d + 4) % 16384)) (bitsAt (s.word (d + 4)) 23 16) (bitsAt (s.word (d + 4)) 26 24)
      (tickStartNs s.tickNum)) : s.hostDescriptor d = r.2.setWord (d + 12) r.1 := by
  simp [State.hostDescriptor, h, hr]

/-- A descriptor judged in u, where the tail alone has moved since s: its status, and the frame that waits at the one port it names. -/
theorem State.hostDescriptor_judges {s u : State} {d : Nat} (hup : s.netUp = true) (hkeeps : Keeps [R.BR_HTX_TAIL_INDEX] s u)
    (hports : SamePorts s u) (hmem : u.mem = s.mem) (hnet : u.net = s.net) :
    let buf := s.word d
    let len := s.word (d + 4) % 16384
    let t := u.hostDescriptor d
    (s.areaGranted .hq false buf len = false → t.word (d + 12) = 3 ∧ t.net.egr = s.net.egr) ∧
      (s.areaGranted .hq false buf len = true → ∀ p, p < 8 → bitsAt (s.word (d + 4)) 23 16 = 2 ^ p →
        len + 4 ≤ s.sizeLimit p (tagCount (s.bytes buf len)) →
        (s.link p = false → t.word (d + 12) = 2 ∧ t.net.egr = s.net.egr) ∧
        (s.link p = true → s.flag R.TSN_TAS_STATUS_OPER p = false → bitsAt (s.word (d + 4)) 26 24 = 7 →
          s.poolFull p true (max 60 len + 4) = false → t.word (d + 12) = 0 ∧
          t.net.egr = s.net.egr ++ [⟨s.net.nextFid, p, 7, max 60 len + 4, p, true,
            .frame (s.bytes buf len ++ List.replicate (60 - len) 0)⟩])) := by
  intro buf len t
  have hword (a : Nat) : u.word a = s.word a := State.word_congr hmem a
  have hgrant : u.areaGranted .hq false (u.word d) (u.word (d + 4) % 16384) = s.areaGranted .hq false buf len := by
    rw [hword, hword, hkeeps.areaGranted (by decide)]
  have hsubmit : ∀ r, r = u.submitFrame (s.bytes buf len) (bitsAt (s.word (d + 4)) 23 16) (bitsAt (s.word (d + 4)) 26 24)
      (tickStartNs u.tickNum) → s.areaGranted .hq false buf len = true → t = r.2.setWord (d + 12) r.1 := fun r hr hg => by
    refine State.hostDescriptor_submits (hgrant.trans hg) ?_
    rw [hr, hword, hword, State.bytes_congr hmem]
  refine ⟨fun hno => ?_, fun hyes p hp hmask hlen => ⟨fun hdown => ?_, fun hlink htas htc hroom => ?_⟩⟩
  · have ht : t = u.setWord (d + 12) 3 := State.hostDescriptor_denied (hgrant.trans hno)
    rw [ht]
    exact ⟨State.word_setWord_same _ _ _, by rw [State.setWord_net, hnet]⟩
  all_goals
    have hfits : (s.bytes buf len).length + 4 ≤ u.sizeLimit p (tagCount (s.bytes buf len)) := by
      rw [State.bytes_length, hports.sizeLimit]
      exact hlen
  · have ht := hsubmit _ (by rw [hmask, State.submitFrame_down hp hfits ((hports.link p).trans hdown)]) hyes
    rw [ht]
    exact ⟨State.word_setWord_same _ _ _, by rw [State.setWord_net, hnet]⟩
  · have hoper : u.flag R.TSN_TAS_STATUS_OPER p = false := (hkeeps.flag (by decide) p 0).trans htas
    have hfree : u.poolFull p true (max 60 (s.bytes buf len).length + 4) = false := by
      rw [State.bytes_length, hports.poolFull]
      exact hroom
    have ht := hsubmit _ (by rw [hmask, htc, State.submitFrame_queued hp hfits (hports.netUp.trans hup) ((hports.link p).trans hlink) hoper hfree])
      hyes
    rw [ht]
    refine ⟨State.word_setWord_same _ _ _, ?_⟩
    rw [State.setWord_net, State.hostFrame, hostPadded, State.bytes_length, hnet]

/-- The descriptor at the head of the transmit ring. -/
def State.htxDesc (s : State) : Nat := s.get R.BR_HTX_BASE_BASE * 4096 + 16 * s.get R.BR_HTX_HEAD_INDEX

/-- The ring rests at its tail, and at a descriptor of the host's. -/
theorem State.hostTx_rests {s : State} (h : s.get R.BR_HTX_HEAD_INDEX = s.get R.BR_HTX_TAIL_INDEX ∨ s.owned s.htxDesc = false) (n : Nat) :
    s.hostTx n = s := by
  cases n with
  | zero => rfl
  | succ n =>
    rw [State.hostTx, if_pos]
    simpa [State.htxDesc] using h

/-- A descriptor of the device's before the tail is taken, and the head moves on. -/
theorem State.hostTx_takes {s : State} (htail : s.get R.BR_HTX_HEAD_INDEX ≠ s.get R.BR_HTX_TAIL_INDEX) (hown : s.owned s.htxDesc = true)
    (hlt : s.get R.BR_HTX_HEAD_INDEX + 1 < s.get R.BR_HTX_CTRL_ENTRIES) (n : Nat) :
    s.hostTx (n + 1) = ((s.hostDescriptor s.htxDesc).put R.BR_HTX_HEAD_INDEX (s.get R.BR_HTX_HEAD_INDEX + 1)).hostTx n := by
  rw [State.hostTx, if_neg, if_neg (Nat.not_le.2 hlt)]
  · rfl
  · simpa [State.htxDesc, htail] using hown

/-- The state in which the host has moved the tail. -/
def State.htxMoved (s : State) (tail : Nat) : State := s.put R.BR_HTX_TAIL_INDEX tail

theorem State.htxMoved_keeps (s : State) (tail : Nat) : Keeps [R.BR_HTX_TAIL_INDEX] s (s.htxMoved tail) := (Keeps.refl _ s).put (by decide)

theorem State.htxMoved_ports (s : State) (tail : Nat) : SamePorts s (s.htxMoved tail) := (SamePorts.refl s).put (by decide)

theorem State.htxMoved_tail (s : State) {tail : Nat} (h : tail < 1024) : (s.htxMoved tail).get R.BR_HTX_TAIL_INDEX = tail :=
  (State.get_put_same _ _ _ _ _).trans (Nat.mod_eq_of_lt h)

theorem State.htxMoved_head (s : State) (tail : Nat) : (s.htxMoved tail).get R.BR_HTX_HEAD_INDEX = s.get R.BR_HTX_HEAD_INDEX :=
  (s.htxMoved_keeps tail).regs _ _ _ (by decide)

theorem State.htxMoved_desc (s : State) (tail : Nat) : (s.htxMoved tail).htxDesc = s.htxDesc := by
  rw [State.htxDesc, s.htxMoved_head, (s.htxMoved_keeps tail).regs R.BR_HTX_BASE_BASE _ _ (by decide), State.htxDesc]

/-- With one descriptor of the device's up to the tail, that one is judged and the head follows the tail. -/
theorem State.htxTail_one {s : State} {tail : Nat} (hen : s.flag R.BR_HTX_CTRL_EN = true) (hup : s.netUp = true)
    (hhead : s.get R.BR_HTX_HEAD_INDEX + 1 = tail) (hlt : tail < s.get R.BR_HTX_CTRL_ENTRIES) (h10 : tail < 1024)
    (hown : s.owned s.htxDesc = true) :
    s.htxTail tail = ((s.htxMoved tail).hostDescriptor s.htxDesc).put R.BR_HTX_HEAD_INDEX tail := by
  have hk := s.htxMoved_keeps tail
  have hh := s.htxMoved_head tail
  have hd := s.htxMoved_desc tail
  have ht := s.htxMoved_tail h10
  have hpoll : s.htxTail tail = (s.htxMoved tail).hostTx (1023 + 1) := if_pos (by
    rw [Bool.and_eq_true]
    exact ⟨(hk.flag (by decide) 0 0).trans hen, ((s.htxMoved_ports tail).netUp).trans hup⟩)
  have hafter : Keeps bridgeFlds (s.htxMoved tail) ((s.htxMoved tail).hostDescriptor s.htxDesc) := (Keeps.refl _ _).hostDescriptor
  rw [hpoll, State.hostTx_takes (by omega) (by rw [hd]; exact hown) (by rw [hk.regs R.BR_HTX_CTRL_ENTRIES _ _ (by decide)]; omega), hd, hh, hhead]
  refine State.hostTx_rests (.inl ?_) _
  rw [State.get_put_same, State.get_put_ne _ _ _ _ _ _ (by decide), hafter.regs _ _ _ (by decide), ht]
  exact Nat.mod_eq_of_lt h10

/-- A tail moved before a descriptor of the host's starts nothing. -/
theorem State.htxTail_notOwned {s : State} (tail : Nat) (hown : s.owned s.htxDesc = false) : s.htxTail tail = s.htxMoved tail := by
  show (s.htxMoved tail).hostPoll = _
  rw [State.hostPoll, State.hostTx_rests (.inr (by rw [s.htxMoved_desc]; exact hown)), ite_self]

theorem execHostFrameSubmit_taken {s : State} {who : Initiator} {tail : Fin 1024} (ht : s.takes who 0x180a8 = true) :
    exec (.hostFrameSubmit who tail) s = .next (s.htxTail tail.val) := congrArg _ (State.command_taken _ ht)

/-! ### Time-aware shaping (R159, R160) -/

/-- What is too long for the gates goes, and nothing else of the ports changes. -/
theorem State.tasPurge_net (s : State) (p : Nat) : (s.tasPurge p).net =
    { s.net with egr := s.net.egr.filter (fun e => !(e.port == p && s.tasOversize p e.tc e.len)) } := by
  unfold State.tasPurge
  extract_lets long net t
  have hdrop : KeepsNet passFlds t (long.foldl (fun u _ => u.tasDropped p) t) :=
    List.foldlRecOn long _ (KeepsNet.refl _ t) fun _ hu _ _ => hu.tasDropped
  split
  next hnone =>
    have hall : ∀ e ∈ s.net.egr, (e.port == p && s.tasOversize p e.tc e.len) = false := by
      simpa [long, List.filter_eq_nil_iff] using hnone
    have hkeep : s.net.egr.filter (fun e => !(e.port == p && s.tasOversize p e.tc e.len)) = s.net.egr :=
      List.filter_eq_self.2 fun e he => by rw [hall e he]; rfl
    rw [hkeep]
  next => exact hdrop.net

theorem State.tasPurge_other {s : State} {p : Nat} (h : ∀ e ∈ s.net.egr, e.port ≠ p) : s.tasPurge p = s := by
  have hnone : s.net.egr.filter (fun e => e.port == p && s.tasOversize p e.tc e.len) = [] :=
    List.filter_eq_nil_iff.2 fun e he => by simp [h e he]
  rw [State.tasPurge, hnone]
  rfl

/-- Whether a frame is too long for its gates does not hang on the frames that wait. -/
theorem State.tasPurge_oversize (s : State) {p : Nat} (hp : p < 6) (tc len : Nat) :
    (s.tasPurge p).tasOversize p tc len = s.tasOversize p tc len := by
  have hk := (s.tasPurge_purged hp).keeps
  have hport : (s.tasPurge p).ph p = s.ph p := by rw [State.ph, s.tasPurge_net, State.ph]
  have hkbps : (s.tasPurge p).kbps p = s.kbps p := by
    have hlink : (s.tasPurge p).link p = s.link p := hk.flag (by decide) p 0
    rw [State.kbps, hlink, hk.regs R.MAC_STATUS_SPEED _ _ (by decide), State.kbps]
  simp [State.tasOversize, hport, hkbps, hk.flag (g := R.TSN_TAS_STATUS_OPER) (by decide)]

/-- The registers that tell of a schedule. -/
def tasFlds : List Fld := [R.TSN_TAS_STATUS_OPER, R.TSN_TAS_STATUS_PENDING, R.TSN_TAS_STATUS_NO_TIME, R.TSN_TAS_STATUS_GATES]

/-- The admin list as the schedule of a port from `base` on, at its first entry. -/
def State.tasFrom (s : State) (p base : Nat) : Tas := ⟨s.adminList p, base, s.get R.TSN_TAS_CYCLE_NS p, 0, none⟩

/-- The state in which the admin list of a port operates. -/
def State.tasOperating (s : State) (p base : Nat) : State :=
  ((((s.setPh p { s.ph p with tas := s.tasFrom p base }).put R.TSN_TAS_STATUS_OPER 1 p).put R.TSN_TAS_STATUS_PENDING 0 p).put
    R.TSN_TAS_STATUS_NO_TIME 0 p).put R.TSN_TAS_STATUS_GATES (((s.adminList p).head?.map (·.1)).getD 255) p

theorem State.tasOperating_regsAt (s : State) (p base : Nat) :
    RegsAt tasFlds p { s with net := (s.tasOperating p base).net } (s.tasOperating p base) :=
  ((((RegsAt.refl tasFlds p (s.setPh p _)).put (by decide)).put (by decide)).put (by decide)).put (by decide)

theorem State.tasOperating_shows (s : State) (p base : Nat) : let t := s.tasOperating p base
    (t.ph p).tas = s.tasFrom p base ∧ t.flag R.TSN_TAS_STATUS_OPER p = true ∧ t.flag R.TSN_TAS_STATUS_PENDING p = false ∧
      t.flag R.TSN_TAS_STATUS_NO_TIME p = false ∧ t.get R.TSN_TAS_STATUS_GATES p = ((s.adminList p).head?.map (·.1)).getD 255 % 256 := by
  refine ⟨congrArg PortHid.tas (State.ph_setPh _ _ _), ?_, ?_, ?_, State.get_put_same _ _ _ _ 0⟩
  · exact (State.flag_put_ne _ _ _ _ _ _ (by decide)).trans ((State.flag_put_ne _ _ _ _ _ _ (by decide)).trans
      ((State.flag_put_ne _ _ _ _ _ _ (by decide)).trans (State.flag_put_same _ _ _ _ 0)))
  · exact (State.flag_put_ne _ _ _ _ _ _ (by decide)).trans ((State.flag_put_ne _ _ _ _ _ _ (by decide)).trans
      (State.flag_put_same _ _ _ _ 0))
  · exact (State.flag_put_ne _ _ _ _ _ _ (by decide)).trans (State.flag_put_same _ _ _ _ 0)

theorem execTasConfigChange_operates {s : State} {p : Fin 8} {base : Nat} (hup : s.netUp = true)
    (hepoch : s.flag R.TICK_STATUS_EPOCH_VALID = true) (hp : p.val < 6) (hat : (s.ph p.val).tas.changeAt = some base) :
    exec (.tasConfigChange p) s = .next ((s.tasOperating p.val base).tasPurge p.val) := by
  show execTasConfigChange p s = _
  simp [execTasConfigChange, State.tasOperating, State.tasFrom, hup, hepoch, hp, hat]

/-- The entry of the operating list that follows the present one, the first after the last. -/
def Tas.next (x : Tas) : Nat := if x.oper.length ≤ x.idx + 1 then 0 else x.idx + 1

theorem execTasGateAdvance_next {s : State} {p : Fin 8} (hpow : s.powered = true) (hoper : s.flag R.TSN_TAS_STATUS_OPER p.val = true)
    (hlist : (s.ph p.val).tas.oper ≠ []) : exec (.tasGateAdvance p) s =
      .next ((s.setPh p.val { s.ph p.val with tas := { (s.ph p.val).tas with idx := (s.ph p.val).tas.next } }).put R.TSN_TAS_STATUS_GATES
        ((((s.ph p.val).tas.oper[(s.ph p.val).tas.next]?).map (·.1)).getD 255) p.val) := by
  have hcond : (s.powered && s.flag R.TSN_TAS_STATUS_OPER p.val && !(s.ph p.val).tas.oper.isEmpty) = true := by
    simp [hpow, hoper, hlist]
  show execTasGateAdvance p s = _
  rw [execTasGateAdvance, if_pos hcond]
  rfl

/-! ### Filters and recovery (R162 to R164) -/

theorem execTsnFilterUnblock_taken {s : State} {who : Initiator} {n : Fin 512} (ht : s.takes who 0x190bc = true) :
    exec (.tsnFilterUnblock who n) s = .next (s.put R.TSN_SF_STATUS_BLOCKED 0 n.val) := congrArg _ (State.command_taken _ ht)

/-- The registers of a recovery event. -/
def frerEvtFlds : List Fld := [R.FRER_EVT_ENTRY, R.FRER_EVT_VALID] ++ eventFlds

/-- The event's record names the entry (R164). -/
theorem State.frerEvent_records (s : State) {n : Nat} (hn : n < 256) : let t := s.frerEvent n
    KeepsNet frerEvtFlds s t ∧ t.get R.FRER_EVT_ENTRY = n ∧ t.flag R.FRER_EVT_VALID = true ∧ t.sticky EV_FRER_SEQ = true := by
  refine ⟨(((KeepsNet.refl _ s).put (by decide)).put (by decide)).raise (List.subset_append_right _ _), ?_,
    State.flag_put_raise _ 1 0 _ (by decide), State.sticky_raise_same _ _⟩
  refine ((State.raise_keeps _ _).regs _ _ _ (by decide)).trans ((State.get_put_ne _ _ _ _ _ _ (by decide)).trans ?_)
  exact (State.get_put_same _ _ _ _ _).trans (Nat.mod_eq_of_lt hn)

/-- The state in which a recovery entry accepts any frame again, and has counted that. -/
def State.frerRestarted (s : State) (n : Nat) : State := (s.setFrer n Frer.init).bump R.FRER_RESETS_CNT n

theorem State.frerRestarted_init (s : State) (n : Nat) : (s.frerRestarted n).frerSt n = Frer.init := by
  have hnet : (s.frerRestarted n).net = (s.setFrer n Frer.init).net := (RecordsOnly.refl (s.setFrer n Frer.init)).bump.net
  rw [State.frerSt, hnet]
  exact Sparse.get_put_same Frer.init s.net.frer n Frer.init

theorem execFrerResetTimeout_restarts {s : State} {n : Fin 256} (hup : s.netUp = true) (hen : s.flag R.FRER_ID_HI_EN n.val = true)
    (hany : (s.frerSt n.val).takeAny = false) : exec (.frerResetTimeout n) s = .next ((s.frerRestarted n.val).frerEvent n.val) := by
  show execFrerResetTimeout n s = _
  simp [execFrerResetTimeout, State.frerRestarted, hup, hen, hany]

/-! ### O40 -/

/-- Settles O40: the ring's one descriptor, frames of the device's own, the gate schedule, the filter's bit and the recovery entry. -/
theorem bridgeRows : Obligations.BridgeRows := by
  refine ⟨fun s who tail htk hen hup hhead hlt => ?_, fun s who tail htk hown => ?_, fun s p tc w hw => State.submit_taken hw,
    fun s p tc w hlong => if_pos hlong, fun s p base hup hepoch hp hat => ?_, fun s p hpow hoper hlist => ?_, fun s who n htk => ?_,
    fun s n hup hen hany => ?_⟩
  · intro d hown buf len mask
    have hexec := execHostFrameSubmit_taken (tail := tail) htk
    rw [State.htxTail_one hen hup hhead hlt tail.isLt hown] at hexec
    have hafter : Keeps bridgeFlds (s.htxMoved tail.val) ((s.htxMoved tail.val).hostDescriptor d) := (Keeps.refl _ _).hostDescriptor
    have hjudged := State.hostDescriptor_judges (d := d) hup (s.htxMoved_keeps tail.val) (s.htxMoved_ports _) rfl rfl
    obtain ⟨u, hu⟩ : ∃ u, u = (s.htxMoved tail.val).hostDescriptor d := ⟨_, rfl⟩
    have hword : (u.put R.BR_HTX_HEAD_INDEX tail.val).word (d + 12) = u.word (d + 12) := State.word_congr rfl _
    rw [← hu] at hafter hjudged
    refine ⟨u.put R.BR_HTX_HEAD_INDEX tail.val, hu ▸ hexec, (State.get_put_same _ _ _ _ _).trans (Nat.mod_eq_of_lt tail.isLt), ?_,
      by rw [hword]; exact hjudged⟩
    exact (State.get_put_ne _ _ _ _ _ _ (by decide)).trans ((hafter.regs _ _ _ (by decide)).trans (s.htxMoved_tail tail.isLt))
  · exact (execHostFrameSubmit_taken htk).trans (congrArg _ (State.htxTail_notOwned _ hown))
  · obtain ⟨htas, hon, hpend, htime, hgates⟩ := s.tasOperating_shows p.val base
    have hk := ((s.tasOperating p.val base).tasPurge_purged hp).keeps
    have hnet := (s.tasOperating p.val base).tasPurge_net p.val
    refine ⟨_, execTasConfigChange_operates hup hepoch hp hat, ?_, (hk.flag (by decide) _ _).trans hon, (hk.flag (by decide) _ _).trans hpend,
      (hk.flag (by decide) _ _).trans htime, (hk.regs _ _ _ (by decide)).trans hgates, fun e he => ?_, fun hother => ?_⟩
    · rw [State.ph, hnet]
      exact htas
    · rw [hnet] at he
      obtain ⟨hin, hfits⟩ := List.mem_filter.1 he
      refine ⟨hin, fun hport => ?_⟩
      rw [State.tasPurge_oversize _ hp]
      simpa [hport] using hfits
    · have hfree : ∀ e ∈ s.net.egr, e.port ≠ p.val := by simpa using hother
      rw [State.tasPurge_other (s := s.tasOperating p.val base) hfree]
      exact s.tasOperating_regsAt p.val base
  · refine ⟨_, execTasGateAdvance_next hpow hoper hlist, congrArg (fun h : PortHid => h.tas.idx) (State.ph_setPh _ _ _), fun e he => ?_,
      (RegsAt.refl _ p.val (s.setPh p.val _)).put (by decide)⟩
    have hidx : (s.ph p.val).tas.oper[(s.ph p.val).tas.next]? = some e :=
      (congrArg (fun h : PortHid => (s.ph p.val).tas.oper[h.tas.idx]?) (State.ph_setPh s p.val _)).symm.trans he
    rw [State.get_put_same, hidx]
    rfl
  · refine ⟨_, execTsnFilterUnblock_taken htk, State.flag_put_same _ _ _ _ 0, (RegsAt.refl _ n.val s).put (by decide)⟩
  · obtain ⟨hkeeps, hentry, hvalid, hsticky⟩ := (s.frerRestarted n.val).frerEvent_records n.isLt
    refine ⟨_, execFrerResetTimeout_restarts hup hen hany, ?_, hentry, hvalid, hsticky, ?_⟩
    · rw [State.frerSt, hkeeps.net]
      exact s.frerRestarted_init n.val
    · rw [hkeeps.keeps.regs _ _ _ (by decide)]
      exact State.get_bump_same _ _ _ _ (by decide)

/-! ### What leaves the memory of the PTP ports as it was (R165, R167) -/

theorem RecordsOnly.ptp {s t : State} (h : RecordsOnly s t) : t.ptp = s.ptp := by rw [h]

/-- Neither what the PTP ports remember nor the servo's offset differs between s and t, nor what `Keeps` names, and no register but those of
the fields listed. -/
structure KeepsPtp (l : List Fld) (s t : State) : Prop where
  keeps : Keeps l s t
  ports : t.ptp.ports = s.ptp.ports
  offset : t.ptp.offset = s.ptp.offset

section
variable {l : List Fld} {s0 s : State}

theorem KeepsPtp.refl (l : List Fld) (s : State) : KeepsPtp l s s := ⟨Keeps.refl l s, rfl, rfl⟩

theorem KeepsPtp.trans {t u : State} (h : KeepsPtp l s t) (h' : KeepsPtp l t u) : KeepsPtp l s u :=
  ⟨h.keeps.trans h'.keeps, h'.ports.trans h.ports, h'.offset.trans h.offset⟩

/-- A change of registers, of memory or of the event log is none of PTP's. -/
theorem KeepsPtp.records {t : State} (h : KeepsPtp l s0 s) (hk : Keeps l s t) (hr : RecordsOnly s t) : KeepsPtp l s0 t :=
  h.trans ⟨hk, by rw [hr.ptp], by rw [hr.ptp]⟩

theorem KeepsPtp.put (h : KeepsPtp l s0 s) {f : Fld} (hf : f ∈ l) {v i j : Nat} : KeepsPtp l s0 (s.put f v i j) :=
  h.records ((Keeps.refl l s).put hf) (RecordsOnly.refl s).put

theorem KeepsPtp.putI (h : KeepsPtp l s0 s) {f : Fld} (hf : f ∈ l) {x : Int} {i j : Nat} : KeepsPtp l s0 (s.putI f x i j) := h.put hf

theorem KeepsPtp.bump (h : KeepsPtp l s0 s) {f : Fld} (hf : f ∈ l) (hsat : R.PG_STATUS_SAT_SEEN ∈ l) {i j : Nat} :
    KeepsPtp l s0 (s.bump f i j) := h.records ((Keeps.refl l s).bump hf hsat) (RecordsOnly.refl s).bump

theorem KeepsPtp.raise (h : KeepsPtp l s0 s) (hl : eventFlds ⊆ l) {e : Nat} : KeepsPtp l s0 (s.raise e) :=
  h.records ((Keeps.refl l s).raise hl) (RecordsOnly.refl s).raise

theorem KeepsPtp.setSyncs (h : KeepsPtp l s0 s) {n : Nat} : KeepsPtp l s0 { s with ptp := { s.ptp with syncs := n } } :=
  h.trans ⟨(Keeps.refl l s).set, rfl, rfl⟩

theorem KeepsPtp.setRef (h : KeepsPtp l s0 s) {n : Nat} {x : RefHid} : KeepsPtp l s0 (s.setRef n x) :=
  h.trans ⟨(Keeps.refl l s).set, rfl, rfl⟩

theorem KeepsPtp.ite {t u : State} {c : Prop} [Decidable c] (ht : KeepsPtp l s0 t) (hu : KeepsPtp l s0 u) :
    KeepsPtp l s0 (if c then t else u) := by
  split
  · exact ht
  · exact hu

theorem KeepsPtp.when (h : KeepsPtp l s0 s) {b : Bool} {f : State → State} (hf : ∀ t, KeepsPtp l s0 t → KeepsPtp l s0 (f t)) :
    KeepsPtp l s0 (s.when b f) := KeepsPtp.ite (hf s h) h

theorem KeepsPtp.each (h : KeepsPtp l s0 s) {n : Nat} {f : State → Nat → State} (hf : ∀ t k, KeepsPtp l s0 t → KeepsPtp l s0 (f t k)) :
    KeepsPtp l s0 (s.each n f) := State.each_rec (P := fun _ => KeepsPtp l s0) h fun k t _ => hf t k

theorem KeepsPtp.refOffer (h : KeepsPtp l s0 s) {src : Nat} {x : Int} : KeepsPtp l s0 (s.refOffer src x) :=
  h.each fun _ _ hu => KeepsPtp.ite hu.setRef hu

theorem KeepsPtp.ptpUnsync (h : KeepsPtp passFlds s0 s) : KeepsPtp passFlds s0 s.ptpUnsync :=
  KeepsPtp.ite ((h.setSyncs.put (by decide)).raise eventFlds_subset_passFlds) h.setSyncs

theorem KeepsPtp.ptpEnter (h : KeepsPtp passFlds s0 s) {p st : Nat} : KeepsPtp passFlds s0 (s.ptpEnter p st) :=
  KeepsPtp.ite h ((h.put (by decide)).raise eventFlds_subset_passFlds)

/-- Selecting the roles again forgets nothing that a port has heard. -/
theorem KeepsPtp.ptpSelect (h : KeepsPtp passFlds s0 s) : KeepsPtp passFlds s0 s.ptpSelect := by
  unfold State.ptpSelect
  extract_lets on gm isGm slaveWas t t1 old t2
  have ht : KeepsPtp passFlds s0 t := h.each fun _ _ hu => hu.ptpEnter
  have ht1 : KeepsPtp passFlds s0 t1 := (ht.put (by decide)).put (by decide)
  have ht2 : KeepsPtp passFlds s0 t2 :=
    KeepsPtp.ite ht1 (((ht1.put (by decide)).put (by decide)).raise eventFlds_subset_passFlds)
  exact KeepsPtp.ite ht2.ptpUnsync (ht2.when fun _ hu => hu.setSyncs)

end

/-! ### What a PTP port remembers -/

@[simp] theorem State.ptpSt_setPtp (s : State) (p : Nat) (x : PtpPort) : (s.setPtp p x).ptpSt p = x := by
  simp [State.ptpSt, State.setPtp]

theorem State.ptpSt_congr {s t : State} (h : t.ptp.ports = s.ptp.ports) (p : Nat) : t.ptpSt p = s.ptpSt p := by
  rw [State.ptpSt, h, State.ptpSt]

theorem KeepsPtp.ptpSt {l : List Fld} {s t : State} (h : KeepsPtp l s t) (p : Nat) : t.ptpSt p = s.ptpSt p := State.ptpSt_congr h.ports p

theorem Keeps.getI {l : List Fld} {s t : State} (h : Keeps l s t) {g : Fld} (hg : ∀ f ∈ l, f.base ≠ g.base) (i j : Nat) :
    t.getI g i j = s.getI g i j := by
  rw [State.getI, h.regs g i j hg, State.getI]

/-! ### The count of a received message (R165) -/

/-- The registers of the count. -/
def ptpCountFlds : List Fld := [R.PTP_RX_CNT, R.PG_STATUS_SAT_SEEN]

/-- The state in which a received message has been counted. -/
def State.ptpCounted (s : State) : State := s.bump R.PTP_RX_CNT

theorem State.ptpCounted_keeps (s : State) : KeepsPtp ptpCountFlds s s.ptpCounted := (KeepsPtp.refl _ s).bump (by decide) (by decide)

theorem State.ptpCounted_ports (s : State) : SamePorts s s.ptpCounted := (SamePorts.refl s).bump (by decide)

theorem State.ptpCounted_regsOnly (s : State) : RegsOnly ptpCountFlds s s.ptpCounted := (RegsOnly.refl _ s).bump (by decide) (by decide)

/-- A message of the device's profile and domain, on a port that takes part, has its effect once it is counted. -/
theorem State.ptpTake_fits {s : State} {p : Nat} {m : PtpMsg} {ok : Bool} (h : PtpFits s p m) (hok : ok = true) (f : State → State) :
    s.ptpTake p m ok f = f s.ptpCounted := by
  obtain ⟨hon, hprofile, hdomain⟩ := h
  simp [State.ptpTake, State.ptpCounted, hon, hprofile, hdomain, hok]

@[simp] theorem State.ptpCounted_ptpSt (s : State) (p : Nat) : s.ptpCounted.ptpSt p = s.ptpSt p := s.ptpCounted_keeps.ptpSt p

@[simp] theorem State.ptpCounted_ptpIn (s : State) (p ns : Nat) : s.ptpCounted.ptpIn p ns = s.ptpIn p ns := by
  simp [State.ptpIn, State.ingress10, s.ptpCounted_keeps.keeps.getI (g := R.PTP_LAT_RX_DELAY) (by decide)]

@[simp] theorem State.ptpCounted_ptpOut (s : State) (p ns : Nat) : s.ptpCounted.ptpOut p ns = s.ptpOut p ns := by
  simp [State.ptpOut, s.ptpCounted_keeps.keeps.getI (g := R.PTP_LAT_TX_DELAY) (by decide)]

@[simp] theorem State.ptpCounted_clockId (s : State) : s.ptpCounted.clockId = s.clockId := by
  rw [State.clockId, s.ptpCounted_ports.portMac, State.clockId]

@[simp] theorem State.ptpCounted_state (s : State) (p : Nat) :
    s.ptpCounted.get R.PTP_PORT_STATUS_STATE p = s.get R.PTP_PORT_STATUS_STATE p := s.ptpCounted_keeps.keeps.regs _ _ _ (by decide)

@[simp] theorem State.ptpCounted_meanDelay (s : State) (p : Nat) : s.ptpCounted.getI R.PTP_MEAN_DELAY_PS p = s.getI R.PTP_MEAN_DELAY_PS p :=
  s.ptpCounted_keeps.keeps.getI (by decide) _ _

/-! ### The servo (R167) -/

/-- The registers that the servo writes behind the offset. -/
def servoFlds : List Fld := [R.PTP_RATE_PPB, R.PTP_STATUS_SYNCED] ++ eventFlds

theorem eventFlds_subset_servoFlds : eventFlds ⊆ servoFlds := List.subset_append_right _ _

/-- The state in which the servo has taken a Sync of slave port p that left the grandmaster at `origin` and came in at `at'`: the port waits
for no Follow_Up, and the offset is known. -/
def State.servoTook (s : State) (p : Nat) (origin at' : Int) : State :=
  let x := s.ptpSt p
  let off := origin + s.getI R.PTP_MEAN_DELAY_PS p / 1000 - at'
  let t := s.setPtp p { x with lastSync := some (origin, at'), sync := none }
  { t with ptp := { t.ptp with offset := off } }.putI R.PTP_OFFSET_NS off

/-- What follows the offset, the offer to the Plumb unit, the rate and the count of Syncs, takes nothing of it back. -/
theorem State.ptpServo_keeps (s : State) (p : Nat) (origin at' : Int) :
    KeepsPtp servoFlds (s.servoTook p origin at') (s.ptpServo p origin at') := by
  unfold State.ptpServo
  extract_lets gm x t ptp t1 t2 ptp' n t3
  have ht1 : KeepsPtp servoFlds (s.servoTook p origin at') t1 := (KeepsPtp.refl _ (s.servoTook p origin at')).refOffer
  have ht2 : KeepsPtp servoFlds (s.servoTook p origin at') t2 := by
    unfold t2
    split
    · exact KeepsPtp.ite (ht1.putI (by decide)) ht1
    · exact ht1
  have ht3 : KeepsPtp servoFlds (s.servoTook p origin at') t3 := ht2.setSyncs
  exact KeepsPtp.ite ht2.setSyncs (KeepsPtp.ite ((ht3.put (by decide)).raise eventFlds_subset_servoFlds) ht3)

/-- The servo's offset is the grandmaster's time, path delay included, less the ingress time, and PTP_OFFSET shows it. -/
theorem State.ptpServo_offset (s : State) (p : Nat) (origin at' : Int) : let t := s.ptpServo p origin at'
    (t.ptpSt p).sync = none ∧ t.ptp.offset = origin + s.getI R.PTP_MEAN_DELAY_PS p / 1000 - at' ∧
      t.getI R.PTP_OFFSET_NS = satTo 32 t.ptp.offset := by
  intro t
  have hkeeps : KeepsPtp servoFlds (s.servoTook p origin at') t := s.ptpServo_keeps p origin at'
  have hst : (s.servoTook p origin at').ptpSt p = { s.ptpSt p with lastSync := some (origin, at'), sync := none } := State.ptpSt_setPtp _ _ _
  refine ⟨?_, hkeeps.offset, ?_⟩
  · rw [hkeeps.ptpSt, hst]
  · rw [hkeeps.keeps.getI (by decide), hkeeps.offset]
    exact State.getI_putI_same _ _ _ 0 0

/-! ### Received messages -/

section
variable {s : State} {p : Fin 8} {m : PtpMsg} (hfit : PtpFits s p.val m)
include hfit

/-- A two-step Sync on the slave port waits for its Follow_Up. -/
theorem execPtpSyncRx_waits (hslave : s.get R.PTP_PORT_STATUS_STATE p.val = 3) (htwo : m.twoStep = true) :
    exec (.ptpSyncRx p m) s =
      .next (s.ptpCounted.setPtp p.val { s.ptpSt p.val with sync := some (m.seq.toNat, s.ptpIn p.val m.ns, m.corr) }) := by
  show execPtpSyncRx p m s = _
  rw [execPtpSyncRx, State.ptpTake_fits hfit rfl]
  simp [hslave, htwo]

theorem execPtpSyncRx_serves (hslave : s.get R.PTP_PORT_STATUS_STATE p.val = 3) (hone : m.twoStep = false) :
    exec (.ptpSyncRx p m) s = .next (s.ptpCounted.ptpServo p.val ((m.ts : Int) + m.corr) (s.ptpIn p.val m.ns)) := by
  show execPtpSyncRx p m s = _
  rw [execPtpSyncRx, State.ptpTake_fits hfit rfl]
  simp [hslave, hone]

theorem execPtpFollowUpRx_serves (hslave : s.get R.PTP_PORT_STATUS_STATE p.val = 3) {at' corr : Int}
    (hsync : (s.ptpSt p.val).sync = some (m.seq.toNat, at', corr)) :
    exec (.ptpFollowUpRx p m) s = .next (s.ptpCounted.ptpServo p.val ((m.ts : Int) + m.corr + corr) at') := by
  show execPtpFollowUpRx p m s = _
  rw [execPtpFollowUpRx, State.ptpTake_fits hfit rfl]
  simp [hslave, hsync]

/-- The first Announce of a port is kept, and the roles are selected again. -/
theorem execPtpAnnounceRx_first {v : PtpVector} (hsrc : m.srcId.toNat ≠ s.clockId) (hfirst : (s.ptpSt p.val).best = none) :
    exec (.ptpAnnounceRx p m v) s = .next (s.ptpCounted.setPtp p.val
      { s.ptpSt p.val with listening := false, best := some (v, m.srcId) }).ptpSelect := by
  show execPtpAnnounceRx p m v s = _
  rw [execPtpAnnounceRx, State.ptpTake_fits hfit rfl]
  simp [hsrc, hfirst]

theorem execPtpPdelayReqRx_answers {sent : Nat} (hgptp : s.flag R.PTP_CTRL_PROFILE = false) :
    exec (.ptpPdelayReqRx p ⟨m, sent⟩) s = .next
      ((s.ptpCounted.ptpSend p.val 3 m.seq.toNat [m.srcId.toNat, m.srcPort, tsField (s.ptpIn p.val m.ns)]).ptpSend p.val 7 m.seq.toNat
        [m.srcId.toNat, m.srcPort, tsField (s.ptpOut p.val sent)]) := by
  show execPtpPdelayReqRx p ⟨m, sent⟩ s = _
  rw [execPtpPdelayReqRx, State.ptpTake_fits hfit (by simp [hgptp])]
  simp

theorem execPtpDelayReqRx_answers (haes : s.flag R.PTP_CTRL_PROFILE = true) (hmaster : s.get R.PTP_PORT_STATUS_STATE p.val = 2) :
    exec (.ptpDelayReqRx p m) s = .next
      (s.ptpCounted.ptpSend p.val 6 m.seq.toNat [m.srcId.toNat, m.srcPort, tsField (s.ptpIn p.val m.ns)]) := by
  show execPtpDelayReqRx p m s = _
  rw [execPtpDelayReqRx, State.ptpTake_fits hfit haes]
  simp [hmaster]

variable {sent : Int} (hsent : (s.ptpSt p.val).delayTx = some (m.seq.toNat, sent)) (hown : m.reqId.toNat = s.clockId)
include hsent hown

/-- The response to the port's own peer-delay request: the request is answered, and the mean link delay is half the turn. -/
theorem execPtpPdelayRespRx_measures (hgptp : s.flag R.PTP_CTRL_PROFILE = false) : ∃ t, exec (.ptpPdelayRespRx p m) s = .next t ∧
    KeepsPtp [R.PTP_NRR_PPB, R.PTP_PORT_STATUS_AS_CAPABLE] ((s.ptpCounted.setPtp p.val
      { s.ptpSt p.val with delayTx := none, lastPd := some ((m.ts : Int), s.ptpIn p.val m.ns) }).putI R.PTP_MEAN_DELAY_PS
        ((s.ptpIn p.val m.ns - sent - m.corr) * 500) p.val) t := by
  show ∃ t, execPtpPdelayRespRx p m s = _ ∧ _
  rw [execPtpPdelayRespRx, State.ptpTake_fits hfit (by simp [hgptp])]
  simp only [State.ptpCounted_ptpSt, State.ptpCounted_clockId, State.ptpCounted_ptpIn, hsent, hown, ne_eq, not_true_eq_false, decide_false,
    Bool.or_false, Bool.false_eq_true, ↓reduceIte]
  refine ⟨_, rfl, KeepsPtp.put ?_ (by decide)⟩
  split
  · exact KeepsPtp.ite ((KeepsPtp.refl _ _).putI (by decide)) (KeepsPtp.refl _ _)
  · exact KeepsPtp.refl _ _

/-- The response to the port's own delay request: the mean path delay is half of the way there and back. -/
theorem execPtpDelayRespRx_measures (haes : s.flag R.PTP_CTRL_PROFILE = true) {o a : Int} (hlast : (s.ptpSt p.val).lastSync = some (o, a)) :
    exec (.ptpDelayRespRx p m) s = .next ((s.ptpCounted.setPtp p.val { s.ptpSt p.val with delayTx := none }).putI R.PTP_MEAN_DELAY_PS
      ((a - o + ((m.ts : Int) - m.corr - sent)) * 500) p.val) := by
  show execPtpDelayRespRx p m s = _
  rw [execPtpDelayRespRx, State.ptpTake_fits hfit haes]
  simp [hsent, hown, hlast]

end

/-! ### O41 -/

/-- Settles O41: each message is counted and then has its own effect, which nothing after it takes back. -/
theorem ptpReceive : Obligations.PtpReceive := by
  refine ⟨fun s p m hfit hslave => ⟨fun htwo => ?_, fun hone => ?_, fun at' corr hsync => ?_⟩, fun s p m v hfit hsrc hfirst => ?_,
    fun s p m sent hfit => ⟨execPtpPdelayReqRx_answers hfit, execPtpDelayReqRx_answers hfit⟩,
    fun s p m sent hfit hsent hown => ⟨fun hgptp => ?_, fun o a haes hlast => ?_⟩⟩
  · refine ⟨_, execPtpSyncRx_waits hfit hslave htwo, by rw [State.ptpSt_setPtp], ?_⟩
    obtain ⟨heq, hregs⟩ := s.ptpCounted_regsOnly
    refine ⟨?_, hregs⟩
    rw [State.setPtp, heq]
  · obtain ⟨hsync, hoffset, hshown⟩ := s.ptpCounted.ptpServo_offset p.val ((m.ts : Int) + m.corr) (s.ptpIn p.val m.ns)
    rw [State.ptpCounted_meanDelay] at hoffset
    exact ⟨_, execPtpSyncRx_serves hfit hslave hone, hsync, hoffset, hshown⟩
  · obtain ⟨hnone, hoffset, hshown⟩ := s.ptpCounted.ptpServo_offset p.val ((m.ts : Int) + m.corr + corr) at'
    rw [State.ptpCounted_meanDelay] at hoffset
    exact ⟨_, execPtpFollowUpRx_serves hfit hslave hsync, hnone, hoffset, hshown⟩
  · have hselect := (KeepsPtp.refl passFlds (s.ptpCounted.setPtp p.val
      { s.ptpSt p.val with listening := false, best := some (v, m.srcId) })).ptpSelect
    refine ⟨_, execPtpAnnounceRx_first hfit hsrc hfirst, ?_, s.ptpCounted_keeps.keeps.core.trans hselect.keeps.core⟩
    rw [hselect.ptpSt, State.ptpSt_setPtp]
  · obtain ⟨t, hexec, hkeeps⟩ := execPtpPdelayRespRx_measures hfit hsent hown hgptp
    refine ⟨t, hexec, ?_, ?_⟩
    · rw [hkeeps.ptpSt]
      exact congrArg PtpPort.delayTx (State.ptpSt_setPtp _ _ _)
    · rw [hkeeps.keeps.getI (by decide)]
      exact State.getI_putI_same _ _ _ _ 0
  · exact ⟨_, execPtpDelayRespRx_measures hfit hsent hown haes hlast, congrArg PtpPort.delayTx (State.ptpSt_setPtp _ _ _),
      State.getI_putI_same _ _ _ _ 0⟩

/-! ### Messages that the device sends (R165, R168) -/

theorem SamePorts.setPtp {s t : State} (h : SamePorts s t) {p : Nat} {x : PtpPort} : SamePorts s (t.setPtp p x) := { h with }

/-- A PTP message of a port that takes it waits at the end of class 7, whatever the ports of PTP remember. -/
theorem State.ptpSend_taken {s : State} {p q kind seq : Nat} {fields : List Nat} (x : PtpPort)
    (hw : s.takesFrame p 7 (.ptp (s.ptpHead p kind).1 (s.ptpHead p kind).2 kind seq fields) = true) :
    (s.setPtp q x).ptpSend p kind seq fields =
      (s.setPtp q x).withFrame p 7 (.ptp (s.ptpHead p kind).1 (s.ptpHead p kind).2 kind seq fields) :=
  (SamePorts.refl s).setPtp.submit hw

section
variable {s : State} {p : Fin 8} (hon : s.ptpPortOn p.val = true)
include hon

/-- A master port of a grandmaster that sends in one step. -/
theorem execPtpSyncTx_oneStep (hmaster : s.get R.PTP_PORT_STATUS_STATE p.val = 2) (hgm : s.flag R.PTP_STATUS_IS_GM = true)
    (hone : s.flag R.PTP_CTRL_ONE_STEP = true) (ns : Nat) : exec (.ptpSyncTx p ns) s = .next
      ((s.ptpSeq p.val).2.ptpSend p.val 0 (s.ptpSeq p.val).1 [tsField (s.ptpOut p.val ns), 0]) := by
  show execPtpSyncTx p ns s = _
  simp [execPtpSyncTx, hon, hmaster, hgm, hone]

/-- A master port where no foreign master is the better clock. -/
theorem execPtpAnnounceTx_own (hmaster : s.get R.PTP_PORT_STATUS_STATE p.val = 2) (hbest : s.ptpMaster = none) :
    exec (.ptpAnnounceTx p) s = .next
      ((s.ptpSeq p.val).2.ptpSend p.val 2 (s.ptpSeq p.val).1 (annKey s.ownVector s.clockId ++ [s.ownVector.traceable])) := by
  show execPtpAnnounceTx p s = _
  simp [execPtpAnnounceTx, hon, hmaster, hbest]

/-- A port of gPTP, or the slave port of the AES67 profile, asks for the delay and remembers when. -/
theorem execPtpDelayRequestTx_asks (hasks : s.flag R.PTP_CTRL_PROFILE = false ∨ s.get R.PTP_PORT_STATUS_STATE p.val = 3) (ns : Nat) :
    exec (.ptpDelayRequestTx p ns) s = .next
      (((s.ptpSeq p.val).2.setPtp p.val { s.ptpSt p.val with
          nextSeq := ((s.ptpSt p.val).nextSeq + 1) % 65536, delayTx := some ((s.ptpSt p.val).nextSeq, s.ptpOut p.val ns) }).ptpSend p.val
        (if s.flag R.PTP_CTRL_PROFILE then 5 else 4) (s.ptpSt p.val).nextSeq []) := by
  have hcond : (s.ptpPortOn p.val && (!s.flag R.PTP_CTRL_PROFILE || s.get R.PTP_PORT_STATUS_STATE p.val == 3)) = true := by
    simpa [hon] using hasks
  show execPtpDelayRequestTx p ns s = _
  rw [execPtpDelayRequestTx, if_pos hcond]
  simp [State.ptpSeq]

theorem execPtpAnnounceTimeout_forgets : exec (.ptpAnnounceTimeout p) s =
    .next (s.setPtp p.val { s.ptpSt p.val with best := none, listening := false }).ptpSelect := by
  show execPtpAnnounceTimeout p s = _
  rw [execPtpAnnounceTimeout, if_pos hon]

end

theorem execPtpSyncTimeout_unsyncs {s : State} (hen : s.flag R.PTP_CTRL_EN = true) (hup : s.netUp = true) :
    exec .ptpSyncTimeout s = .next s.ptpUnsync := by
  show execPtpSyncTimeout s = _
  simp [execPtpSyncTimeout, hen, hup]

/-- SYNCED falls with its event where it stood, and the count of Syncs begins anew (R167). -/
theorem State.ptpUnsync_leaves (s : State) : let t := s.ptpUnsync
    t.flag R.PTP_STATUS_SYNCED = false ∧ t.ptp = { s.ptp with syncs := 0 } ∧
      (s.flag R.PTP_STATUS_SYNCED = true → t.sticky EV_PTP_STATE = true) := by
  intro u
  obtain ⟨t, ht⟩ : ∃ t : State, t = { s with ptp := { s.ptp with syncs := 0 } } := ⟨_, rfl⟩
  have hu : u = if t.flag R.PTP_STATUS_SYNCED then (t.put R.PTP_STATUS_SYNCED 0).raise EV_PTP_STATE else t := by
    rw [ht]
    rfl
  have hptp : t.ptp = { s.ptp with syncs := 0 } := by rw [ht]
  have hflag : t.flag R.PTP_STATUS_SYNCED = s.flag R.PTP_STATUS_SYNCED := by
    rw [ht]
    rfl
  rw [hu, hflag]
  cases hs : s.flag R.PTP_STATUS_SYNCED with
  | true =>
    rw [if_pos rfl]
    refine ⟨State.flag_put_raise t 0 0 EV_PTP_STATE (by decide), ?_, fun _ => State.sticky_raise_same _ _⟩
    exact (State.raise_records _ _).ptp.trans hptp
  | false =>
    rw [if_neg Bool.false_ne_true]
    exact ⟨hflag.trans hs, hptp, fun h => nomatch h⟩

/-! ### O42 -/

/-- Settles O42: each message takes the port's next sequence number and is one frame that its port takes; and what the time-outs end. -/
theorem ptpSend : Obligations.PtpSend := by
  refine ⟨fun s p hon hmaster => ⟨fun ns hgm hone hw => ?_, fun hbest hw => ?_⟩, fun s p ns hon hasks => ?_, fun s hen hup => ?_,
    fun s p hon => ?_⟩
  · exact (execPtpSyncTx_oneStep hon hmaster hgm hone ns).trans (congrArg _ (State.ptpSend_taken _ hw))
  · exact (execPtpAnnounceTx_own hon hmaster hbest).trans (congrArg _ (State.ptpSend_taken _ hw))
  · intro x kind w hw
    have hseq : SamePorts s (s.ptpSeq p.val).2 := (SamePorts.refl s).setPtp
    refine ⟨_, execPtpDelayRequestTx_asks hon hasks ns, ?_, ?_⟩
    · rw [State.ptpSend_taken _ ((hseq.takesFrame _ _ _).trans hw)]
      exact State.ptpSt_setPtp _ _ _
    · rw [State.ptpSend_taken _ ((hseq.takesFrame _ _ _).trans hw)]
      rfl
  · exact ⟨_, execPtpSyncTimeout_unsyncs hen hup, s.ptpUnsync_leaves⟩
  · have hselect := (KeepsPtp.refl passFlds (s.setPtp p.val { s.ptpSt p.val with best := none, listening := false })).ptpSelect
    refine ⟨_, execPtpAnnounceTimeout_forgets hon, ?_, hselect.keeps.core⟩
    rw [hselect.ptpSt, State.ptpSt_setPtp]

end Sys2Proof.Machine

/-! PROOFS. The Plumb unit: the loop, HOLD_EST, aligned outputs and REEPOCH (O31), and the references (O30, refuted). -/

namespace Sys2Proof.Machine

/-! ### What the Plumb unit holds behind its registers -/

/-- Nothing but the Plumb unit's own part differs between s and t. -/
def PlumbOnly (s t : State) : Prop := t = { s with plumb := t.plumb }

section
variable {s0 s : State}

theorem PlumbOnly.refl (s : State) : PlumbOnly s s := rfl

theorem PlumbOnly.set (h : PlumbOnly s0 s) {x : Plumb} : PlumbOnly s0 { s with plumb := x } := by
  unfold PlumbOnly at *
  rw [h]

theorem PlumbOnly.get (h : PlumbOnly s0 s) (f : Fld) (i j : Nat) : s.get f i j = s0.get f i j := by
  rw [h]
  rfl

end

@[simp] theorem State.ref_setRef (s : State) (n : Nat) (x : RefHid) : (s.setRef n x).ref n = x := by
  simp [State.ref, State.setRef]

theorem State.ref_setRef_ne (s : State) {n m : Nat} (x : RefHid) (h : n ≠ m) : (s.setRef n x).ref m = s.ref m :=
  Sparse.get_put_ne _ _ _ _ h

@[simp] theorem State.clk_setClk (s : State) (k : Nat) (x : ClkHid) : (s.setClk k x).clk k = x := by
  simp [State.clk, State.setClk]

theorem State.clk_setClk_ne (s : State) {k m : Nat} (x : ClkHid) (h : k ≠ m) : (s.setClk k x).clk m = s.clk m :=
  Sparse.get_put_ne _ _ _ _ h

theorem State.alignOf_setAlign (s : State) (k : Nat) (x : Int) : (s.setAlign k x).alignOf k = x % (s.outPeriod k : Nat) := by
  simp [State.alignOf, State.setAlign]

theorem State.alignOf_setAlign_ne (s : State) {k m : Nat} (x : Int) (h : k ≠ m) : (s.setAlign k x).alignOf m = s.alignOf m :=
  Sparse.get_put_ne _ _ _ _ h

/-! ### The end of ACQUIRE and HOLD_EST (R185, R190) -/

/-- Out of a state that is not HOLDOVER, LOCKED and PULLING are shown and no more. -/
theorem State.plumbEnter_follows {s : State} {new : Nat} (hst : s.get R.PLUMB_STATUS_STATE = 1) (hnew : new = 2 ∨ new = 3) :
    s.plumbEnter new = s.put R.PLUMB_STATUS_STATE new := by
  rcases hnew with rfl | rfl <;> simp [State.plumbEnter, hst]

theorem execAcquireDone_follows {s : State} (hup : s.netUp = true) (hst : s.get R.PLUMB_STATUS_STATE = 1) (hsel : s.sel ≠ 15)
    (hdue : 240000 / s.bw10 ≤ s.tg + 1 - s.plumb.acqAt) : exec .acquireDone s =
      .next (s.put R.PLUMB_STATUS_STATE (if s.corrTerm.natAbs = s.slope.natAbs then 3 else 2)) := by
  have hcond : (s.netUp && s.get R.PLUMB_STATUS_STATE = 1 && s.sel != 15 &&
      decide (240000 / s.bw10 ≤ s.tg + 1 - s.plumb.acqAt)) = true := by simp [hup, hst, hsel, hdue]
  show execAcquireDone s = _
  rw [execAcquireDone, if_pos hcond, State.plumbEnter_follows hst]
  split
  · exact .inr rfl
  · exact .inl rfl

/-- The Plumb unit after an update of HOLD_EST at the end of a LOCKED second. -/
def State.heldPlumb (s : State) : Plumb :=
  { s.plumb with
    holdEst := s.plumb.holdEst +
      (s.plumb.fhats.sum.fdiv s.plumb.fhats.length - s.plumb.holdEst).fdiv (s.get R.PLUMB_HOLD_CFG_HOLD_AVG : Nat)
    holdTicks := 0 }

theorem execHoldEstUpdate_moves {s : State} (hst : s.get R.PLUMB_STATUS_STATE = 2) (hup : s.netUp = true)
    (hfull : 6000 ≤ s.plumb.holdTicks) : exec (.holdEstUpdate ()) s =
      .next (({ s with plumb := s.heldPlumb } : State).putI R.PLUMB_HOLD_EST_EST (s.heldPlumb.holdEst.fdiv 100)).holdValid := by
  have hcond : (s.get R.PLUMB_STATUS_STATE = 2 && s.netUp && decide (6000 ≤ s.plumb.holdTicks)) = true := by simp [hst, hup, hfull]
  show execHoldEstUpdate () s = _
  rw [execHoldEstUpdate, if_pos hcond]
  rfl

theorem State.holdValid_regsOnly (s : State) : RegsOnly [R.PLUMB_STATUS_HOLD_VALID] s s.holdValid := by
  unfold State.holdValid
  split
  · exact (RegsOnly.refl _ s).put (by decide)
  · exact RegsOnly.refl _ s

theorem State.holdValid_enough {s : State} (h : s.get R.PLUMB_HOLD_CFG_HOLD_AVG * 6000 ≤ s.plumb.lockedTicks) :
    s.holdValid.flag R.PLUMB_STATUS_HOLD_VALID = true := by
  rw [State.holdValid, if_pos h, State.flag_put_same]
  rfl

theorem RegsOnly.trans {l : List Fld} {s t u : State} (h : RegsOnly l s t) (h' : RegsOnly l t u) : RegsOnly l s u := by
  obtain ⟨heq, hregs⟩ := h
  obtain ⟨heq', hregs'⟩ := h'
  refine ⟨?_, fun g i j hg => (hregs' g i j hg).trans (hregs g i j hg)⟩
  rw [heq', heq]

theorem RegsOnly.get {l : List Fld} {s t : State} (h : RegsOnly l s t) {g : Fld} (hg : ∀ f ∈ l, f.base ≠ g.base) {i j : Nat} :
    t.get g i j = s.get g i j := by
  obtain ⟨-, hregs⟩ := h
  exact hregs g i j hg

theorem RegsOnly.plumb {l : List Fld} {s t : State} (h : RegsOnly l s t) : t.plumb = s.plumb := by
  obtain ⟨heq, -⟩ := h
  rw [heq]

/-- What an update of HOLD_EST shows and what it leaves. -/
theorem execHoldEstUpdate_shows {s : State} (hst : s.get R.PLUMB_STATUS_STATE = 2) (hup : s.netUp = true)
    (hfull : 6000 ≤ s.plumb.holdTicks) : ∃ t, exec (.holdEstUpdate ()) s = .next t ∧ t.plumb = s.heldPlumb ∧
      t.getI R.PLUMB_HOLD_EST_EST = satTo R.PLUMB_HOLD_EST_EST.width (t.plumb.holdEst.fdiv 100) ∧
      (s.get R.PLUMB_HOLD_CFG_HOLD_AVG * 6000 ≤ s.plumb.lockedTicks → t.flag R.PLUMB_STATUS_HOLD_VALID = true) ∧
      RegsOnly [R.PLUMB_HOLD_EST_EST, R.PLUMB_STATUS_HOLD_VALID] { s with plumb := t.plumb } t := by
  obtain ⟨u, hu⟩ : ∃ u : State, u = ({ s with plumb := s.heldPlumb } : State).putI R.PLUMB_HOLD_EST_EST (s.heldPlumb.holdEst.fdiv 100) :=
    ⟨_, rfl⟩
  have hshown : RegsOnly [R.PLUMB_HOLD_EST_EST, R.PLUMB_STATUS_HOLD_VALID] { s with plumb := s.heldPlumb } u :=
    hu ▸ (RegsOnly.refl _ { s with plumb := s.heldPlumb }).put (by decide)
  have hvalid := u.holdValid_regsOnly
  have hplumb : u.holdValid.plumb = s.heldPlumb := hvalid.plumb.trans hshown.plumb
  refine ⟨u.holdValid, hu ▸ execHoldEstUpdate_moves hst hup hfull, hplumb, ?_, fun h => State.holdValid_enough ?_, ?_⟩
  · rw [State.getI, hvalid.get (by decide), hplumb, hu]
    exact State.getI_putI_same _ _ _ 0 0
  · rw [hshown.plumb, hshown.get (by decide)]
    exact h
  · rw [hplumb]
    exact hshown.trans (hvalid.mono (by decide))

/-! ### Aligned outputs (R198) -/

/-- The outputs of a mask asked to step. -/
def State.askStep (s : State) (mask : Nat) : State :=
  s.each 6 (fun u k => if bitAt mask k then u.setClk k { u.clk k with step := true } else u)

theorem execClkoutAlign_taken {s : State} {who : Initiator} {mask : Fin 64} (ht : s.takes who 0x0d048 = true) :
    exec (.clkoutAlign who mask) s = .next (s.askStep mask.val) := congrArg _ (State.command_taken _ ht)

/-- Each output below n of the mask is asked to step, one that was asked before still is, and nothing else differs. -/
structure Asked (mask n : Nat) (s t : State) : Prop where
  eq : t = { s with plumb := { s.plumb with clks := t.plumb.clks } }
  below : ∀ k, k < n → t.clk k = { s.clk k with step := bitAt mask k || (s.clk k).step }
  above : ∀ k, n ≤ k → t.clk k = s.clk k

theorem Asked.next {mask n : Nat} {s t : State} (h : Asked mask n s t) :
    Asked mask (n + 1) s (if bitAt mask n then t.setClk n { t.clk n with step := true } else t) := by
  obtain ⟨heq, hbelow, habove⟩ := h
  cases hb : bitAt mask n with
  | true =>
    rw [if_pos rfl]
    refine ⟨(congrArg (fun v : State => v.setClk n { t.clk n with step := true }) heq).trans rfl, fun k hk => ?_, fun k hk => ?_⟩
    · by_cases hkn : k = n
      · simp [hkn, habove n (Nat.le_refl n), hb]
      · rw [State.clk_setClk_ne _ _ (Ne.symm hkn), hbelow k (by omega)]
    · rw [State.clk_setClk_ne _ _ (by omega), habove k (by omega)]
  | false =>
    refine ⟨heq, fun k hk => ?_, fun k hk => habove k (by omega)⟩
    by_cases hkn : k = n
    · simp [hkn, habove n (Nat.le_refl n), hb]
    · exact hbelow k (by omega)

theorem State.askStep_asked (s : State) (mask : Nat) : Asked mask 6 s (s.askStep mask) :=
  State.each_rec (P := fun n => Asked mask n s) ⟨rfl, fun _ hk => absurd hk (Nat.not_lt_zero _), fun _ _ => rfl⟩ fun _ _ _ h => h.next

/-- A bit set leaves the others as they were. -/
theorem bitAt_setBit_true_ne {v k m : Nat} (hm : m ≠ k) : bitAt (setBit v k true) m = bitAt v m := by
  cases hk : bitAt v k with
  | true => simp [setBit, hk]
  | false =>
    rw [bitAt_eq_testBit] at hk
    have hset : setBit v k true = 2 ^ k + v := by simp [setBit, bitAt_eq_testBit, hk, Nat.add_comm]
    rw [hset, bitAt_eq_testBit, testBit_add_two_pow hk hm, bitAt_eq_testBit]

theorem State.bit_putBit_true_ne (s : State) (f : Fld) {k m : Nat} (i j : Nat) (hm : m ≠ k) (hw : m < f.width) :
    (s.putBit f k true i j).bit f m i j = s.bit f m i j := by
  rw [State.bit, State.putBit, State.get_put_same, bitAt_eq_testBit, Nat.testBit_mod_two_pow, ← bitAt_eq_testBit, bitAt_setBit_true_ne hm]
  simp [hw, State.bit]

/-- Output k has stepped at its boundary `a`: O_k is 0 and STEPPED shows; its next boundary is the first aligned one. -/
def State.stepped (s : State) (k a : Nat) : State :=
  ((s.setAlign k 0).setClk k { s.clk k with step := false, quiet := (s.clkStep k a).1 }).putBit R.CLKOUT_STATUS_STEPPED k true

theorem State.stepped_alignOf_ne (s : State) {k m : Nat} (a : Nat) (hm : m ≠ k) : (s.stepped k a).alignOf m = s.alignOf m :=
  s.alignOf_setAlign_ne 0 hm.symm

theorem State.stepped_alignOf (s : State) (k a : Nat) : (s.stepped k a).alignOf k = 0 :=
  (s.alignOf_setAlign k 0).trans (Int.zero_emod _)

theorem State.stepped_step (s : State) (k a : Nat) : ((s.stepped k a).clk k).step = false :=
  congrArg ClkHid.step (State.clk_setClk _ _ _)

/-- The tick in which an output steps sends its pulses and keeps for how long the last one is still high. -/
theorem State.clkTick_steps {s : State} {k : Nat} (hstep : (s.clk k).step = true)
    (hdue : s.clkNext k (max (8192 * s.tickNum) (s.clk k).quiet) < 8192 * s.tickNum + 8192) :
    let u := s.stepped k (s.clkNext k (max (8192 * s.tickNum) (s.clk k).quiet))
    (s.clkTick k).plumb.align = u.plumb.align ∧ (s.clkTick k).regs = u.regs ∧ ((s.clkTick k).clk k).step = (u.clk k).step := by
  intro u
  have hcond : ((s.clk k).step && decide (s.clkNext k (max (8192 * s.tickNum) (s.clk k).quiet) < 8192 * s.tickNum + 8192)) = true := by
    simp [hstep, hdue]
  unfold State.clkTick
  extract_lets t0 x a steps r v l
  have hv : v = u := if_pos hcond
  have hasked : (v.clk k).step = (u.clk k).step := by rw [hv]
  rw [hv]
  split
  · exact ⟨rfl, rfl, (congrArg ClkHid.step (State.clk_setClk _ _ _)).trans hasked⟩
  · exact ⟨rfl, rfl, (congrArg ClkHid.step (State.clk_setClk _ _ _)).trans hasked⟩

/-- The step of an output, and no other's. -/
theorem State.clkTick_aligns {s : State} {k : Nat} (hk : k < 6) (hstep : (s.clk k).step = true)
    (hdue : s.clkNext k (max (8192 * s.tickNum) (s.clk k).quiet) < 8192 * s.tickNum + 8192) : let t := s.clkTick k
    t.alignOf k = 0 ∧ t.bit R.CLKOUT_STATUS_STEPPED k = true ∧ (t.clk k).step = false ∧
      ∀ m, m < 6 → m ≠ k → t.alignOf m = s.alignOf m ∧ t.bit R.CLKOUT_STATUS_STEPPED m = s.bit R.CLKOUT_STATUS_STEPPED m := by
  intro t
  obtain ⟨halign, hregs, hasked⟩ := State.clkTick_steps hstep hdue
  have halignOf := fun m => congrArg (fun x => Sparse.get 0 x m) halign
  have hbit := fun m => congrArg (bitAt · m) (State.get_congr hregs R.CLKOUT_STATUS_STEPPED 0 0)
  exact ⟨(halignOf k).trans (s.stepped_alignOf k _), (hbit k).trans (State.bit_putBit_same _ _ _ _ 0 0 hk),
    hasked.trans (s.stepped_step k _), fun m hm hne => ⟨(halignOf m).trans (s.stepped_alignOf_ne _ hne),
      (hbit m).trans (State.bit_putBit_true_ne _ R.CLKOUT_STATUS_STEPPED 0 0 hne hm)⟩⟩

/-! ### REEPOCH (R47, R160, R193) -/

/-- The far-offset failures cleared. -/
def State.farCleared (s : State) : State :=
  s.each 8 (fun u n =>
    if u.get R.REF_STATUS_STATE n = 3 ∧ u.get R.REF_STATUS_FAIL_CAUSE n = 5 then u.put R.REF_STATUS_FAIL_CAUSE 0 n else u)

/-- The cause of a slot's failure once far-offset failures are cleared. -/
def State.causeLeft (s : State) (n : Nat) : Nat :=
  if s.get R.REF_STATUS_STATE n = 3 ∧ s.get R.REF_STATUS_FAIL_CAUSE n = 5 then 0 else s.get R.REF_STATUS_FAIL_CAUSE n

/-- The far-offset failures of the slots below n are cleared, and no other register differs. -/
structure FarCleared (n : Nat) (s t : State) : Prop where
  regs : RegsOnly [R.REF_STATUS_FAIL_CAUSE] s t
  below : ∀ m, m < n → t.get R.REF_STATUS_FAIL_CAUSE m = s.causeLeft m
  above : ∀ m, n ≤ m → m < 8 → t.get R.REF_STATUS_FAIL_CAUSE m = s.get R.REF_STATUS_FAIL_CAUSE m

theorem FarCleared.next {n : Nat} {s t : State} (h : FarCleared n s t) (hn : n < 8) : FarCleared (n + 1) s
    (if t.get R.REF_STATUS_STATE n = 3 ∧ t.get R.REF_STATUS_FAIL_CAUSE n = 5 then t.put R.REF_STATUS_FAIL_CAUSE 0 n else t) := by
  obtain ⟨hregs, hbelow, habove⟩ := h
  rw [hregs.get (by decide), habove n (Nat.le_refl n) hn]
  split
  next hfar =>
    refine ⟨hregs.put (by decide), fun m hm => ?_, fun m hm h8 => ?_⟩
    · by_cases hmn : m = n
      · rw [hmn, State.get_put_same, State.causeLeft, if_pos hfar]
        rfl
      · rw [State.get_put_inst _ _ _ _ (by omega), hbelow m (by omega)]
    · rw [State.get_put_inst _ _ _ _ (by omega), habove m (by omega) h8]
  next hfar =>
    refine ⟨hregs, fun m hm => ?_, fun m hm h8 => habove m (by omega) h8⟩
    by_cases hmn : m = n
    · rw [hmn, habove n (Nat.le_refl n) hn, State.causeLeft, if_neg hfar]
    · exact hbelow m (by omega)

theorem State.farCleared_cleared (s : State) : FarCleared 8 s s.farCleared :=
  State.each_rec (P := fun n => FarCleared n s) ⟨RegsOnly.refl _ s, fun _ hm => absurd hm (Nat.not_lt_zero _), fun _ _ _ => rfl⟩
    fun _ _ hn h => h.next hn

/-- The registers of a port that a gate schedule without time writes. -/
def noTimeFlds : List Fld := [R.TSN_TAS_STATUS_NO_TIME, R.TSN_TAS_STATUS_OPER, R.TSN_TAS_STATUS_GATES, R.TSN_TAS_STATUS_CFG_ERR]

/-- The gate schedule of port p has no time: every gate is open and EV_TAS_ERR held. -/
structure Timeless (p : Nat) (s : State) : Prop where
  noTime : s.flag R.TSN_TAS_STATUS_NO_TIME p = true
  oper : s.flag R.TSN_TAS_STATUS_OPER p = false
  gates : s.get R.TSN_TAS_STATUS_GATES p = 255
  raised : s.sticky EV_TAS_ERR = true

/-- Every gate of port q held open, before EV_TAS_ERR. -/
def State.timeGone (s : State) (q : Nat) : State :=
  (((s.put R.TSN_TAS_STATUS_NO_TIME 1 q).put R.TSN_TAS_STATUS_OPER 0 q).put R.TSN_TAS_STATUS_GATES 255 q).put R.TSN_TAS_STATUS_CFG_ERR 1 q

section
variable {s : State} {q : Nat}

theorem State.timeGone_regsAt (s : State) (q : Nat) : RegsAt noTimeFlds q s (s.timeGone q) :=
  ((((RegsAt.refl noTimeFlds q s).put (by decide)).put (by decide)).put (by decide)).put (by decide)

theorem State.timeGone_keeps (s : State) (q : Nat) : Keeps noTimeFlds s (s.timeGone q) :=
  ((((Keeps.refl noTimeFlds s).put (by decide)).put (by decide)).put (by decide)).put (by decide)

theorem State.tasNoTime_idle (h : s.flag R.TSN_TAS_CTRL_EN q = false ∨ s.flag R.TSN_TAS_STATUS_NO_TIME q = true) : s.tasNoTime q = s := by
  refine if_pos ?_
  rcases h with h | h <;> simp [h]

theorem State.tasNoTime_opens (hepoch : s.flag R.TICK_STATUS_EPOCH_VALID = false) (hen : s.flag R.TSN_TAS_CTRL_EN q = true)
    (htime : s.flag R.TSN_TAS_STATUS_NO_TIME q = false) : s.tasNoTime q = (s.timeGone q).raise EV_TAS_ERR := by
  refine if_neg ?_
  simp [hepoch, hen, htime]

/-- Without an epoch either nothing happens to a port, or its gates open with the event. -/
theorem State.tasNoTime_cases (hepoch : s.flag R.TICK_STATUS_EPOCH_VALID = false) (q : Nat) :
    s.tasNoTime q = s ∨ s.tasNoTime q = (s.timeGone q).raise EV_TAS_ERR := by
  cases hen : s.flag R.TSN_TAS_CTRL_EN q with
  | false => exact .inl (State.tasNoTime_idle (.inl hen))
  | true =>
    cases htime : s.flag R.TSN_TAS_STATUS_NO_TIME q with
    | false => exact .inr (State.tasNoTime_opens hepoch hen htime)
    | true => exact .inl (State.tasNoTime_idle (.inr htime))

theorem State.timeGone_timeless (s : State) (q : Nat) : Timeless q ((s.timeGone q).raise EV_TAS_ERR) := by
  have hk := (s.timeGone q).raise_keeps EV_TAS_ERR
  refine ⟨(hk.flag (by decide) _ _).trans ?_, (hk.flag (by decide) _ _).trans ?_, (hk.regs _ _ _ (by decide)).trans ?_,
    State.sticky_raise_same _ _⟩
  · exact (State.flag_put_ne _ _ _ _ _ _ (by decide)).trans ((State.flag_put_ne _ _ _ _ _ _ (by decide)).trans
      ((State.flag_put_ne _ _ _ _ _ _ (by decide)).trans (State.flag_put_same _ _ _ _ 0)))
  · exact (State.flag_put_ne _ _ _ _ _ _ (by decide)).trans ((State.flag_put_ne _ _ _ _ _ _ (by decide)).trans
      (State.flag_put_same _ _ _ _ 0))
  · exact (State.get_put_ne _ _ _ _ _ _ (by decide)).trans (State.get_put_same _ _ _ _ 0)

/-- What the gates of one port show is nothing of another's. -/
theorem State.timeGone_other (s : State) {p q : Nat} (hp : p < 6) (hq : q < 6) (hne : p ≠ q) {g : Fld}
    (hg : ∀ f ∈ eventFlds, f.base ≠ g.base) : ((s.timeGone q).raise EV_TAS_ERR).get g p = s.get g p := by
  obtain ⟨-, hheld⟩ := s.timeGone_regsAt q
  exact (((s.timeGone q).raise_keeps EV_TAS_ERR).regs g p 0 hg).trans (hheld g p 0 (.inr (by omega)))

theorem Timeless.tasNoTime {p : Nat} (h : Timeless p s) (hepoch : s.flag R.TICK_STATUS_EPOCH_VALID = false) (hp : p < 6) (hq : q < 6)
    (hne : p ≠ q) : Timeless p (s.tasNoTime q) := by
  rcases State.tasNoTime_cases hepoch q with heq | heq
  · rwa [heq]
  · obtain ⟨htime, hoper, hgates, -⟩ := h
    have hother := fun {g : Fld} => s.timeGone_other hp hq hne (g := g)
    rw [heq]
    refine ⟨?_, ?_, (hother (by decide)).trans hgates, State.sticky_raise_same _ _⟩
    · rwa [State.flag, hother (by decide)]
    · rwa [State.flag, hother (by decide)]

theorem State.tasNoTime_keeps (hepoch : s.flag R.TICK_STATUS_EPOCH_VALID = false) (q : Nat) :
    Keeps (noTimeFlds ++ eventFlds) s (s.tasNoTime q) := by
  rcases State.tasNoTime_cases hepoch q with heq | heq
  · rw [heq]
    exact Keeps.refl _ s
  · rw [heq]
    exact ((s.timeGone_keeps q).mono (List.subset_append_left _ _)).raise (List.subset_append_right _ _)

/-- Of the shaped ports that had time, those below n are without it and the others have it still. -/
structure TimeTaken (n : Nat) (s t : State) : Prop where
  keeps : Keeps (noTimeFlds ++ eventFlds) s t
  below : ∀ p, p < n → s.flag R.TSN_TAS_CTRL_EN p = true → s.flag R.TSN_TAS_STATUS_NO_TIME p = false → Timeless p t
  above : ∀ p, n ≤ p → p < 6 → t.flag R.TSN_TAS_STATUS_NO_TIME p = s.flag R.TSN_TAS_STATUS_NO_TIME p

theorem TimeTaken.next {n : Nat} {t : State} (h : TimeTaken n s t) (hepoch : s.flag R.TICK_STATUS_EPOCH_VALID = false) (hn : n < 6) :
    TimeTaken (n + 1) s (t.tasNoTime n) := by
  obtain ⟨hk, hbelow, habove⟩ := h
  have hnow : t.flag R.TICK_STATUS_EPOCH_VALID = false := (hk.flag (by decide) _ _).trans hepoch
  refine ⟨hk.trans (State.tasNoTime_keeps hnow n), fun p hp hen htime => ?_, fun p hp h6 => ?_⟩
  · rcases Nat.lt_succ_iff_lt_or_eq.1 hp with hlt | rfl
    · exact (hbelow p hlt hen htime).tasNoTime hnow (hlt.trans hn) hn (Nat.ne_of_lt hlt)
    · rw [State.tasNoTime_opens hnow ((hk.flag (by decide) _ _).trans hen) ((habove p (Nat.le_refl p) hn).trans htime)]
      exact t.timeGone_timeless p
  · refine Eq.trans ?_ (habove p (by omega) h6)
    rcases State.tasNoTime_cases hnow n with heq | heq
    · rw [heq]
    · rw [heq, State.flag, t.timeGone_other h6 hn (by omega) (by decide), State.flag]

theorem State.each_tasNoTime (hepoch : s.flag R.TICK_STATUS_EPOCH_VALID = false) : TimeTaken 6 s (s.each 6 State.tasNoTime) :=
  State.each_rec (P := fun n => TimeTaken n s) ⟨Keeps.refl _ s, fun _ hp => absurd hp (Nat.not_lt_zero _), fun _ _ _ => rfl⟩
    fun _ _ hn h => h.next hepoch hn

/-- Where no port is shaped, none loses its time. -/
theorem State.each_tasNoTime_unshaped (h : ∀ p, p < 6 → s.flag R.TSN_TAS_CTRL_EN p = false) : s.each 6 State.tasNoTime = s :=
  State.each_rec (P := fun _ u => u = s) rfl fun k _ hk hu => hu.symm ▸ State.tasNoTime_idle (.inl (h k hk))

end

/-- The epoch ended and the far-offset failures cleared. -/
def State.epochEnded (s : State) : State := (s.put R.TICK_STATUS_EPOCH_VALID 0).farCleared

theorem execReepoch_ends {s : State} {who : Initiator} (ht : s.takes who 0x48054 = true) (hd : s.dev = .ready ∨ s.dev = .held) :
    exec (.reepoch who) s = .next (s.epochEnded.each 6 State.tasNoTime) :=
  congrArg Host.Outcome.next ((State.command_taken _ ht).trans (if_pos hd))

theorem execReepoch_ignored {s : State} {who : Initiator} (ht : s.takes who 0x48054 = true) (hready : s.dev ≠ .ready)
    (hheld : s.dev ≠ .held) : exec (.reepoch who) s = .next (s.raise EV_HOST_ERR) :=
  congrArg Host.Outcome.next ((State.command_taken _ ht).trans (if_neg (by simp [hready, hheld])))

/-- The registers of the epoch's end. -/
def epochEndFlds : List Fld := [R.TICK_STATUS_EPOCH_VALID, R.REF_STATUS_FAIL_CAUSE]

theorem State.epochEnded_regsOnly (s : State) : RegsOnly epochEndFlds s s.epochEnded :=
  ((RegsOnly.refl epochEndFlds s).put (by decide)).trans ((State.farCleared_cleared _).regs.mono (by decide))

theorem State.epochEnded_epoch (s : State) : s.epochEnded.flag R.TICK_STATUS_EPOCH_VALID = false :=
  ((State.farCleared_cleared _).regs.flag (by decide) _ _).trans (State.flag_put_same _ _ _ _ 0)

theorem State.epochEnded_cause (s : State) {n : Nat} (hn : n < 8) : s.epochEnded.get R.REF_STATUS_FAIL_CAUSE n = s.causeLeft n := by
  refine ((State.farCleared_cleared _).below n hn).trans ?_
  rw [State.causeLeft, State.get_put_ne _ _ _ _ _ _ (by decide), State.get_put_ne _ _ _ _ _ _ (by decide), State.causeLeft]

/-! ### O31 -/

/-- Settles O31: each row is the change that its own lemma states; REEPOCH ends the epoch before the ports lose their time, so each shaped port
finds none. -/
theorem plumbRows : Obligations.PlumbRows := by
  refine ⟨fun s hup hst hsel hdue => ?_, fun s hst hup hfull => execHoldEstUpdate_shows hst hup hfull, fun s who mask ht => ?_,
    fun s k hk hstep hdue => State.clkTick_aligns hk hstep hdue, fun s who ht hd => ?_,
    fun s who ht hready hheld => execReepoch_ignored ht hready hheld⟩
  · refine ⟨_, execAcquireDone_follows hup hst hsel hdue, ?_, (RegsOnly.refl _ s).put (by decide)⟩
    rw [State.get_put_same]
    split <;> rfl
  · obtain ⟨heq, hasked, -⟩ := s.askStep_asked mask.val
    exact ⟨_, execClkoutAlign_taken ht, heq, hasked⟩
  · obtain ⟨hkeeps, hports, -⟩ := State.each_tasNoTime s.epochEnded_epoch
    have hended := s.epochEnded_regsOnly
    refine ⟨_, execReepoch_ends ht hd, (hkeeps.flag (by decide) _ _).trans s.epochEnded_epoch, fun n hn => ?_, fun p hp hen htime => ?_,
      fun hoff => ?_⟩
    · exact (hkeeps.regs _ _ _ (by decide)).trans (s.epochEnded_cause hn)
    · obtain ⟨hno, hoper, hgates, hraised⟩ := hports p hp ((hended.flag (by decide) _ _).trans hen)
        ((hended.flag (by decide) _ _).trans htime)
      exact ⟨hno, hoper, hgates, hraised⟩
    · rw [State.each_tasNoTime_unshaped fun p hp => (hended.flag (by decide) _ _).trans (hoff p hp)]
      exact hended

/-! ### Edges of PPS_IN and WCLK_INk (R174, R177) -/

/-- A slot after an edge or the absence of edges of its source: whether the edges are right for it, and the offset that they bring. -/
def RefHid.seen (x : RefHid) (ok : Bool) (o : Option Int) : RefHid := { x with edges := ok, fresh := o }

/-- The slots below n that name the source have seen what `ok` and `o` say, and nothing else differs. -/
structure Seen (src : Nat) (ok : Nat → Bool) (o : Option Int) (n : Nat) (s t : State) : Prop where
  only : PlumbOnly s t
  below : ∀ m, m < n → t.ref m = if s.get R.REF_CFG_SOURCE m = src then (s.ref m).seen (ok m) o else s.ref m
  above : ∀ m, n ≤ m → t.ref m = s.ref m

section
variable {src : Nat} {ok : Nat → Bool} {o : Option Int} {s : State}

theorem Seen.next {n : Nat} {t : State} (h : Seen src ok o n s t) : Seen src ok o (n + 1) s
    (if t.get R.REF_CFG_SOURCE n = src then t.setRef n ((t.ref n).seen (ok n) o) else t) := by
  obtain ⟨honly, hbelow, habove⟩ := h
  rw [honly.get, habove n (Nat.le_refl n)]
  split
  next hsrc =>
    refine ⟨honly.set, fun m hm => ?_, fun m hm => ?_⟩
    · by_cases hmn : m = n
      · rw [hmn, State.ref_setRef, if_pos hsrc]
      · rw [State.ref_setRef_ne _ _ (Ne.symm hmn), hbelow m (by omega)]
    · rw [State.ref_setRef_ne _ _ (by omega), habove m (by omega)]
  next hsrc =>
    refine ⟨honly, fun m hm => ?_, fun m hm => habove m (by omega)⟩
    by_cases hmn : m = n
    · rw [hmn, habove n (Nat.le_refl n), if_neg hsrc]
    · exact hbelow m (by omega)

theorem Seen.zero (s : State) : Seen src ok o 0 s s := ⟨PlumbOnly.refl s, fun _ hm => absurd hm (Nat.not_lt_zero _), fun _ _ => rfl⟩

end

theorem PlumbOnly.edgeOk {s t : State} (h : PlumbOnly s t) (n period : Nat) : t.edgeOk n period = s.edgeOk n period := by
  simp [State.edgeOk, State.edgeHz, h.get]

theorem State.refEdge_seen (s : State) (src period : Nat) (o : Int) :
    Seen src (fun n => s.edgeOk n period) (some o) 8 s (s.refEdge src period o) :=
  State.each_rec (P := fun n => Seen src (fun n => s.edgeOk n period) (some o) n s) (Seen.zero s) fun n t _ h => by
    have hok := h.only.edgeOk n period
    dsimp only
    rw [hok]
    exact h.next

theorem State.refSilent_seen (s : State) (src : Nat) : Seen src (fun _ => false) none 8 s (s.refSilent src) :=
  State.each_rec (P := fun n => Seen src (fun _ => false) none n s) (Seen.zero s) fun _ _ _ h => h.next

/-- Within ±1,000 ppm of the slot's period (R174). -/
theorem State.edgeOk_eq (s : State) (n period : Nat) : s.edgeOk n period =
    decide (999000000000 ≤ period * s.edgeHz n ∧ period * s.edgeHz n ≤ 1001000000000) := by
  unfold State.edgeOk
  generalize period * s.edgeHz n = x
  exact decide_eq_decide.2 (by omega)

/-- An edge gives each slot that names its source presence by the period and a fresh offset, and touches no other. -/
theorem exec_edge_offers {s : State} {c : Instr} {src period : Nat} {o : Int} (hon : s.plumbOn = true)
    (hc : (c = .ppsInEdge period o ∧ src = 11) ∨ (∃ k : Fin 2, c = .wclkInEdge k period o ∧ src = 9 + k.val)) :
    ∃ t, exec c s = .next t ∧ t = { s with plumb := t.plumb } ∧ ∀ n, n < 8 →
      t.ref n = if s.get R.REF_CFG_SOURCE n = src then
        (s.ref n).seen (decide (999000000000 ≤ period * s.edgeHz n ∧ period * s.edgeHz n ≤ 1001000000000)) (some o)
      else s.ref n := by
  have hexec : exec c s = .next (s.refEdge src period o) := by
    rcases hc with ⟨rfl, rfl⟩ | ⟨k, rfl, rfl⟩ <;> exact congrArg Host.Outcome.next (if_pos hon)
  obtain ⟨honly, hrefs, -⟩ := s.refEdge_seen src period o
  refine ⟨_, hexec, honly, fun n hn => ?_⟩
  rw [hrefs n hn, s.edgeOk_eq]

/-- The absence of edges takes presence and offset from each slot that names the source, and touches no other. -/
theorem exec_absent_takes {s : State} {c : Instr} {src : Nat} (hon : s.plumbOn = true)
    (hc : (c = .ppsInAbsent ∧ src = 11) ∨ (∃ k : Fin 2, c = .wclkInAbsent k ∧ src = 9 + k.val)) :
    ∃ t, exec c s = .next t ∧ t = { s with plumb := t.plumb } ∧ ∀ n, n < 8 →
      t.ref n = if s.get R.REF_CFG_SOURCE n = src then (s.ref n).seen false none else s.ref n := by
  have hexec : exec c s = .next (s.refSilent src) := by
    rcases hc with ⟨rfl, rfl⟩ | ⟨k, rfl, rfl⟩ <;> exact congrArg Host.Outcome.next (if_pos hon)
  obtain ⟨honly, hrefs, -⟩ := s.refSilent_seen src
  exact ⟨_, hexec, honly, hrefs⟩

/-! ### LOCKOUT, qualification and the wait-to-restore (R178, R181, R184) -/

theorem execRefLockout_writes {s : State} {who : Initiator} {slot : Fin 8} (on : Bool) (ht : s.takes who (0x09040 + 32 * slot.val) = true) :
    ∃ t, exec (.refLockout who slot on) s = .next t ∧ t.flag R.REF_CFG_LOCKOUT slot.val = on ∧
      RegsAt [R.REF_CFG_LOCKOUT] slot.val s t := by
  refine ⟨s.put R.REF_CFG_LOCKOUT (b2n on) slot.val, congrArg Host.Outcome.next (State.command_taken _ ht), ?_,
    (RegsAt.refl _ _ s).put (by decide)⟩
  rw [State.flag_put_same]
  exact b2n_flag on

theorem execRefQualified_qualifies {s : State} {n : Fin 8} (hon : s.plumbOn = true) (hst : s.get R.REF_STATUS_STATE n.val = 1)
    (hlock : s.flag R.REF_CFG_LOCKOUT n.val = false)
    (hdue : s.get R.REF_QUAL_QUAL_TIME n.val * 6000 ≤ s.tg + 1 - (s.ref n.val).passAt) :
    ∃ t, exec (.refQualified n) s = .next t ∧ t.get R.REF_STATUS_STATE n.val = 2 ∧ t.get R.REF_STATUS_QUAL_REMAIN n.val = 0 ∧
      t.ref n.val = { s.ref n.val with qualAt := s.tg + 1 } ∧
      RegsAt [R.REF_STATUS_STATE, R.REF_STATUS_QUAL_REMAIN] n.val { s with plumb := t.plumb } t := by
  have hexec : exec (.refQualified n) s = .next (((s.setRef n.val { s.ref n.val with qualAt := s.tg + 1 }).put R.REF_STATUS_STATE 2
      n.val).put R.REF_STATUS_QUAL_REMAIN 0 n.val) := by
    show execRefQualified n s = _
    simp [execRefQualified, hon, hst, hlock, hdue]
  refine ⟨_, hexec, ?_, State.get_put_same _ _ _ _ 0, State.ref_setRef _ _ _, ?_⟩
  · exact (State.get_put_ne _ _ _ _ _ _ (by decide)).trans (State.get_put_same _ _ _ _ 0)
  · exact ((RegsAt.refl _ n.val (s.setRef n.val _)).put (by decide)).put (by decide)

/-- The wait-to-restore of the best slot has ended. -/
def State.restored (s : State) (b : Nat) : State := { s with plumb := { s.plumb with wtrDone := some b } }

theorem execWtrExpiry_restores {s : State} {b : Nat} (hup : s.netUp = true) (hbest : s.bestRef s.cands = some b)
    (hover : s.wtrOver b (s.tg + 1) = true) : exec .wtrExpiry s = .next (s.restored b) := by
  show execWtrExpiry s = _
  simp [execWtrExpiry, State.restored, hup, hbest, hover]

/-- Once its wait-to-restore has ended the better slot is selected where selection reverts; where it does not, the present one stays. -/
theorem State.selectRef_better {s : State} {b : Nat} (hup : s.netUp = true) (hbest : s.bestRef s.cands = some b) (hsel : s.sel ≠ 15)
    (hcand : s.cands.contains s.sel = true) (hprio : s.get R.REF_CFG_PRIORITY b < s.get R.REF_CFG_PRIORITY s.sel)
    (hdone : s.plumb.wtrDone = some b) : s.selectRef = if s.flag R.PLUMB_CTRL_REVERTIVE then b else s.sel := by
  have hmem : s.sel ∈ s.cands := by simpa using hcand
  rw [State.selectRef, hup, hbest]
  cases hrev : s.flag R.PLUMB_CTRL_REVERTIVE with
  | true => simp [hsel, hmem, hprio, hdone]
  | false => simp [hsel, hmem]

theorem State.selectRef_restored {s : State} {b : Nat} (hup : s.netUp = true) (hbest : s.bestRef s.cands = some b) (hsel : s.sel ≠ 15)
    (hcand : s.cands.contains s.sel = true) (hprio : s.get R.REF_CFG_PRIORITY b < s.get R.REF_CFG_PRIORITY s.sel) :
    (s.restored b).selectRef = if s.flag R.PLUMB_CTRL_REVERTIVE then b else s.sel :=
  State.selectRef_better (s := s.restored b) hup hbest hsel hcand hprio rfl

/-! ### A change of the selection (R194) -/

/-- A change of the selection from slot `cur` written down. -/
def State.selWritten (s : State) (cur new cause : Nat) : State :=
  ((((s.put R.PLUMB_STATUS_SEL new).put R.PLUMB_LAST_CHANGE_FROM cur).put R.PLUMB_LAST_CHANGE_TO new).put
    R.PLUMB_LAST_CHANGE_CAUSE cause).put R.PLUMB_LAST_CHANGE_VALID 1

theorem State.selWritten_core (s : State) (cur new cause : Nat) : SameCore s (s.selWritten cur new cause) := by
  simp [SameCore, State.selWritten]

theorem State.selWritten_shows (s : State) {cur new : Nat} (cause : Nat) (hnew : new < 16) : let t := s.selWritten cur new cause
    t.sel = new ∧ t.get R.PLUMB_LAST_CHANGE_FROM = cur % 16 ∧ t.get R.PLUMB_LAST_CHANGE_TO = new ∧
      t.flag R.PLUMB_LAST_CHANGE_VALID = true := by
  refine ⟨?_, ?_, ?_, State.flag_put_same _ _ _ _ 0⟩
  · rw [State.sel, State.selWritten, State.get_put_ne _ _ _ _ _ _ (by decide), State.get_put_ne _ _ _ _ _ _ (by decide),
      State.get_put_ne _ _ _ _ _ _ (by decide), State.get_put_ne _ _ _ _ _ _ (by decide), State.get_put_same]
    exact Nat.mod_eq_of_lt hnew
  · rw [State.selWritten, State.get_put_ne _ _ _ _ _ _ (by decide), State.get_put_ne _ _ _ _ _ _ (by decide),
      State.get_put_ne _ _ _ _ _ _ (by decide), State.get_put_same]
    rfl
  · rw [State.selWritten, State.get_put_ne _ _ _ _ _ _ (by decide), State.get_put_ne _ _ _ _ _ _ (by decide), State.get_put_same]
    exact Nat.mod_eq_of_lt hnew

/-- The registers that date and count a change of the selection, and those of its event. -/
def selFlds : List Fld := [R.PLUMB_CHANGE_TICK_TICK, R.PLUMB_CHANGE_CNT] ++ eventFlds

/-- The slots' bits, the gain and the ACQUIRE timer at a change of the selection to slot `new`. -/
def State.selMoved (s : State) (new : Nat) : State :=
  let t := if s.sel = 15 then s else s.put R.REF_STATUS_SELECTED 0 s.sel
  let t := if new = 15 then t else (t.put R.REF_STATUS_SELECTED 1 new).setRef new { t.ref new with gained := 0 }
  if t.get R.PLUMB_STATUS_STATE = 1 then { t with plumb := { t.plumb with acqAt := t.tgNow } } else t

theorem State.selMoved_keeps (s : State) (new : Nat) : Keeps [R.REF_STATUS_SELECTED] s (s.selMoved new) := by
  unfold State.selMoved
  extract_lets t1 x t2 y
  have h1 : Keeps [R.REF_STATUS_SELECTED] s t1 := (Keeps.refl _ s).ite ((Keeps.refl _ s).put (by decide))
  have h2 : Keeps [R.REF_STATUS_SELECTED] s t2 := h1.ite (h1.put (by decide)).set
  exact Keeps.ite h2.set h2

/-- A change of the selection: the move, its record, and then its date, count and event. -/
theorem State.selChange_records {s : State} {new : Nat} (h : new ≠ s.sel) :
    Keeps selFlds ((s.selMoved new).selWritten s.sel new (s.selCause new)) (s.selChange new) ∧
      (s.selChange new).sticky EV_PLUMB_REF_CHANGE = true := by
  obtain ⟨u, hu⟩ : ∃ u, u = (s.selMoved new).selWritten s.sel new (s.selCause new) := ⟨_, rfl⟩
  have heq : s.selChange new = ((u.put R.PLUMB_CHANGE_TICK_TICK (u.tickNum % 2 ^ 32)).bump R.PLUMB_CHANGE_CNT).raise
      EV_PLUMB_REF_CHANGE := hu ▸ if_neg h
  have hk : Keeps selFlds u ((u.put R.PLUMB_CHANGE_TICK_TICK (u.tickNum % 2 ^ 32)).bump R.PLUMB_CHANGE_CNT) :=
    ((Keeps.refl _ u).put (by decide)).bump (by decide) (by decide)
  rw [heq, ← hu]
  exact ⟨hk.raise (List.subset_append_right _ _), State.sticky_raise_same _ _⟩

/-- A change of the selection is recorded with its event, the slot left in the four bits of its field. -/
theorem State.selChange_shows {s : State} {new : Nat} (hnew : new < 16) (hne : new ≠ s.sel) : let t := s.selChange new
    t.sel = new ∧ t.get R.PLUMB_LAST_CHANGE_FROM = s.sel % 16 ∧ t.get R.PLUMB_LAST_CHANGE_TO = new ∧
      t.flag R.PLUMB_LAST_CHANGE_VALID = true ∧ t.sticky EV_PLUMB_REF_CHANGE = true ∧ t.tg = s.tg ∧ t.tickNum = s.tickNum := by
  obtain ⟨hrec, hraised⟩ := State.selChange_records hne
  obtain ⟨hsel, hfrom, hto, hvalid⟩ := (s.selMoved new).selWritten_shows (cur := s.sel) (s.selCause new) hnew
  obtain ⟨-, -, -, -, -, htg, hnum⟩ := ((s.selMoved_keeps new).core.trans ((s.selMoved new).selWritten_core _ _ _)).trans hrec.core
  refine ⟨(hrec.regs R.PLUMB_STATUS_SEL 0 0 (by decide)).trans hsel, (hrec.regs R.PLUMB_LAST_CHANGE_FROM 0 0 (by decide)).trans hfrom,
    (hrec.regs R.PLUMB_LAST_CHANGE_TO 0 0 (by decide)).trans hto, ?_, hraised, htg, hnum⟩
  exact (hrec.flag (g := R.PLUMB_LAST_CHANGE_VALID) (by decide) 0 0).trans hvalid

/-! ### O30

Each clause of the statement but the last is a theorem above. Of the last, `State.selChange_shows` says what holds: FROM is SEL cut to four
bits, which is SEL itself wherever SEL holds a number of its field. -/

/-- OFF with a number in SEL that is wider than the field: `State.put` leaves none, but the statement speaks of every state. -/
def wideSel : State := { State.reset with regs := [(R.PLUMB_STATUS_SEL.key 0 0, 16)] }

theorem wideSel_sel : wideSel.sel = 16 := by decide +kernel

/-- Refutes O30: from a state whose SEL holds 16, a change of the selection to slot 0 writes LAST_CHANGE.FROM, a field of four bits, as 0. -/
theorem not_referenceRows : ¬ Obligations.ReferenceRows := by
  rintro ⟨-, -, -, -, -, hchange⟩
  have hne : 0 ≠ wideSel.sel := by
    rw [wideSel_sel]
    decide
  obtain ⟨-, hstated, -⟩ := hchange wideSel 0 (by decide) hne
  obtain ⟨-, hfrom, -⟩ := State.selChange_shows (s := wideSel) (by decide) hne
  rw [wideSel_sel] at hstated hfrom
  exact absurd (hstated.symm.trans hfrom) (by decide)

end Sys2Proof.Machine

/-! PROOFS. The synthesis loops: locks, gates and lost references (O32), and the calibration of PLL-M (O33). -/

namespace Sys2Proof.Machine

/-! ### Changes of registers and of the hidden state of the loops -/

theorem RecordsOnly.plls {s t : State} (h : RecordsOnly s t) : t.plls = s.plls := by rw [h]

theorem RegsOnly.plls {l : List Fld} {s t : State} (h : RegsOnly l s t) : t.plls = s.plls := by
  obtain ⟨heq, -⟩ := h
  rw [heq]

theorem RegsOnly.keeps {l : List Fld} {s t : State} (h : RegsOnly l s t) : Keeps l s t := by
  obtain ⟨heq, hregs⟩ := h
  exact ⟨by rw [heq]; exact SameCore.rfl, by rw [heq], by rw [heq], by rw [heq], by rw [heq], hregs⟩

theorem RegsOnly.setPlls {l : List Fld} {s t : State} (h : RegsOnly l s t) (x : Plls) :
    RegsOnly l { s with plls := x } { t with plls := x } := by
  obtain ⟨heq, hregs⟩ := h
  exact ⟨congrArg (fun u : State => { u with plls := x }) heq, hregs⟩

theorem RaisesOnly.setPlls {l : List Fld} {s t : State} (h : RaisesOnly l s t) (x : Plls) :
    RaisesOnly l { s with plls := x } { t with plls := x } := by
  obtain ⟨heq, hregs, hmem⟩ := h
  exact ⟨congrArg (fun u : State => { u with plls := x }) heq, hregs, hmem⟩

/-- An event after a change of registers that leaves where the log stands. -/
theorem RegsOnly.raise {l : List Fld} {s t : State} (h : RegsOnly l s t) (hb : ∀ f ∈ l, f.base ≠ R.EVT_LOG_BASE_BASE.base)
    (hi : ∀ f ∈ l, f.base ≠ R.EVT_LOG_HEAD_INDEX.base) (e : Nat) : RaisesOnly l s (t.raise e) := by
  have haddr : t.logAddr = s.logAddr := h.keeps.logAddr hb hi
  have hrec := t.raise_records e
  have hk : Keeps (l ++ eventFlds) s (t.raise e) := (h.keeps.mono (List.subset_append_left _ _)).raise (List.subset_append_right _ _)
  obtain ⟨heq, -⟩ := h
  have hmem : t.mem = s.mem := by rw [heq]
  refine ⟨?_, hk.regs, fun a ha => (t.byte_raise_out e a (by rwa [haddr])).trans (State.byte_congr hmem a)⟩
  rw [hrec, heq]

/-- Nothing that the loops hold behind their registers differs between s and t, nor what `Keeps` names, and no register but those of the
fields listed. -/
structure KeepsPlls (l : List Fld) (s t : State) : Prop where
  keeps : Keeps l s t
  plls : t.plls = s.plls

section
variable {l : List Fld} {s0 s : State}

theorem KeepsPlls.refl (l : List Fld) (s : State) : KeepsPlls l s s := ⟨Keeps.refl l s, rfl⟩

theorem KeepsPlls.trans {t u : State} (h : KeepsPlls l s t) (h' : KeepsPlls l t u) : KeepsPlls l s u :=
  ⟨h.keeps.trans h'.keeps, h'.plls.trans h.plls⟩

theorem KeepsPlls.mono {l' : List Fld} (hl : l ⊆ l') (h : KeepsPlls l s0 s) : KeepsPlls l' s0 s := ⟨h.keeps.mono hl, h.plls⟩

/-- A change of registers, of memory or of the event log is none of the loops'. -/
theorem KeepsPlls.records {t : State} (h : KeepsPlls l s0 s) (hk : Keeps l s t) (hr : RecordsOnly s t) : KeepsPlls l s0 t :=
  h.trans ⟨hk, hr.plls⟩

theorem KeepsPlls.put (h : KeepsPlls l s0 s) {f : Fld} (hf : f ∈ l) {v i j : Nat} : KeepsPlls l s0 (s.put f v i j) :=
  h.records ((Keeps.refl l s).put hf) (RecordsOnly.refl s).put

theorem KeepsPlls.putBit (h : KeepsPlls l s0 s) {f : Fld} (hf : f ∈ l) {k i j : Nat} {b : Bool} : KeepsPlls l s0 (s.putBit f k b i j) :=
  h.put hf

theorem KeepsPlls.bump (h : KeepsPlls l s0 s) {f : Fld} (hf : f ∈ l) (hsat : R.PG_STATUS_SAT_SEEN ∈ l) {i j : Nat} :
    KeepsPlls l s0 (s.bump f i j) := h.records ((Keeps.refl l s).bump hf hsat) (RecordsOnly.refl s).bump

theorem KeepsPlls.raise (hl : eventFlds ⊆ l) (h : KeepsPlls l s0 s) {e : Nat} : KeepsPlls l s0 (s.raise e) :=
  h.records ((Keeps.refl l s).raise hl) (RecordsOnly.refl s).raise

/-- An update of parts of the state that `KeepsPlls` does not speak of. -/
theorem KeepsPlls.set (h : KeepsPlls l s0 s) {safeWait net plumb host serial brace wire} : KeepsPlls l s0 { s with
    safeWait := safeWait, net := net, plumb := plumb, host := host, serial := serial, brace := brace, wire := wire } :=
  h.trans ⟨(Keeps.refl l s).set, rfl⟩

theorem KeepsPlls.ite {t u : State} {c : Prop} [Decidable c] (ht : KeepsPlls l s0 t) (hu : KeepsPlls l s0 u) :
    KeepsPlls l s0 (if c then t else u) := by
  split
  · exact ht
  · exact hu

theorem KeepsPlls.when (h : KeepsPlls l s0 s) {b : Bool} {f : State → State} (hf : ∀ t, KeepsPlls l s0 t → KeepsPlls l s0 (f t)) :
    KeepsPlls l s0 (s.when b f) := KeepsPlls.ite (hf s h) h

theorem KeepsPlls.foldl {α : Type} (h : KeepsPlls l s0 s) {xs : List α} {f : State → α → State}
    (hf : ∀ t x, KeepsPlls l s0 t → KeepsPlls l s0 (f t x)) : KeepsPlls l s0 (xs.foldl f s) := by
  induction xs generalizing s with
  | nil => exact h
  | cons x xs ih => exact ih (hf s x h)

theorem KeepsPlls.each (h : KeepsPlls l s0 s) {n : Nat} {f : State → Nat → State}
    (hf : ∀ t k, KeepsPlls l s0 t → KeepsPlls l s0 (f t k)) : KeepsPlls l s0 (s.each n f) := h.foldl hf

end

/-! ### What PLL-M's gate stops (R216) -/

/-- The registers that change where PLL-M's outputs gate, but for the loop's own. -/
def stoppedFlds : List Fld :=
  [R.TICK_STATUS_FALLBACK, R.PLLM_FALLBACK_CNT, R.SP_STATUS_CLK_PRESENT, R.SP_STATUS_STATE, R.SP_STATUS_CLK_LOSS, R.CLK_LOSS_CNT,
   R.ASRC_GRP_STATUS_LOCK, R.ASRC_LOCK_LOCK, R.ASRC_LOCK_CHG_CHG, R.STRX_STAT0_ASRC_LOCK, R.ASRC_GRP_UNLOCK_CNT,
   R.CLKOUT_STATUS_GATED] ++ eventFlds

theorem eventFlds_subset_stoppedFlds : eventFlds ⊆ stoppedFlds := List.subset_append_right _ _

section
variable {s0 s : State}

theorem KeepsPlls.spRefresh (h : KeepsPlls stoppedFlds s0 s) {p : Nat} : KeepsPlls stoppedFlds s0 (s.spRefresh p) := by
  unfold State.spRefresh
  extract_lets w t x u
  have ht : KeepsPlls stoppedFlds s0 t := h.put (by decide)
  have hu : KeepsPlls stoppedFlds s0 u := KeepsPlls.ite ht.set ht
  exact h.ite (KeepsPlls.ite (((hu.put (by decide)).bump (by decide) (by decide)).raise eventFlds_subset_stoppedFlds) hu)

theorem KeepsPlls.spPllmGates (h : KeepsPlls stoppedFlds s0 s) : KeepsPlls stoppedFlds s0 s.spPllmGates := by
  refine h.each fun t p ht => KeepsPlls.ite ?_ ht
  have hlose : KeepsPlls stoppedFlds s0 (t.spLose p) := ht.ite (ht.set.put (by decide)).spRefresh
  exact KeepsPlls.ite hlose.set hlose

theorem KeepsPlls.asrcSet (h : KeepsPlls stoppedFlds s0 s) {g : Nat} {on : Bool} : KeepsPlls stoppedFlds s0 (s.asrcSet g on) := by
  unfold State.asrcSet
  extract_lets t t1 src gone
  have ht : KeepsPlls stoppedFlds s0 t := ((h.put (by decide)).putBit (by decide)).putBit (by decide)
  have ht1 : KeepsPlls stoppedFlds s0 t1 := ht.each fun _ _ hu => KeepsPlls.ite (hu.put (by decide)) hu
  have hgone : KeepsPlls stoppedFlds s0 gone := ht1.set
  exact h.ite (ht1.ite ((hgone.bump (by decide) (by decide)).raise eventFlds_subset_stoppedFlds))

theorem KeepsPlls.clkoutGate (h : KeepsPlls stoppedFlds s0 s) : KeepsPlls stoppedFlds s0 s.clkoutGate :=
  (h.when fun _ ht => (ht.each fun _ _ hu => hu.set).set).put (by decide)

end

/-- PLL-M's outputs gated, before what runs on them stops. -/
def State.pllmShut (s : State) : State := { s with plls := { s.plls with ungateWait := false } }.put R.PLL_STATUS_GATED 1 0

theorem State.pllmGate_stops {s : State} (h : s.pllmGated = false) : KeepsPlls stoppedFlds s.pllmShut s.pllmGate := by
  have hopen : ¬s.pllmGated = true := by simp [h]
  unfold State.pllmGate
  rw [if_neg hopen]
  extract_lets plls u v
  have hu : KeepsPlls stoppedFlds s.pllmShut u := (KeepsPlls.refl _ _).when fun _ h => h.put (by decide)
  have hv : KeepsPlls stoppedFlds s.pllmShut v := hu.when fun _ h => h.bump (by decide) (by decide)
  exact (hv.spPllmGates.each fun _ _ h => h.asrcSet).clkoutGate

/-- After the gate has closed, or stayed closed, nothing waits to open it. -/
theorem State.pllmGate_shows (s : State) : s.pllmGate.pllmGated = true ∧ s.pllmGate.plls.ungateWait = false ∧
    Keeps (R.PLL_STATUS_GATED :: stoppedFlds) s s.pllmGate := by
  have hset : Keeps (R.PLL_STATUS_GATED :: stoppedFlds) s { s with plls := { s.plls with ungateWait := false } } := (Keeps.refl _ s).set
  cases hgated : s.pllmGated with
  | true =>
    have heq : s.pllmGate = { s with plls := { s.plls with ungateWait := false } } := if_pos hgated
    rw [heq]
    exact ⟨hgated, rfl, hset⟩
  | false =>
    have hstop := State.pllmGate_stops hgated
    have hshut : Keeps (R.PLL_STATUS_GATED :: stoppedFlds) s s.pllmShut := hset.put (List.mem_cons_self ..)
    refine ⟨(hstop.keeps.flag (by decide) 0 0).trans (State.flag_put_same _ _ _ _ 0), congrArg Plls.ungateWait hstop.plls, ?_⟩
    exact hshut.trans (hstop.keeps.mono (List.subset_cons_self _ _))

/-! ### PLOCK lost (R212, R213) -/

/-- PLOCK of loop k is gone: it shows, is counted, and the loss stays recorded. -/
def State.plockTaken (s : State) (k : Nat) : State :=
  ((s.put R.PLL_STATUS_PLOCK 0 k).put R.PLL_STATUS_UNLOCK_SEEN 1 k).bump R.PLL_UNLOCK_CNT k

/-- The registers of a lost PLOCK, without its event. -/
def plockFlds : List Fld := [R.PLL_STATUS_PLOCK, R.PLL_STATUS_UNLOCK_SEEN, R.PLL_UNLOCK_CNT, R.PG_STATUS_SAT_SEEN]

theorem State.plockTaken_regsOnly (s : State) (k : Nat) : RegsOnly plockFlds s (s.plockTaken k) :=
  (((RegsOnly.refl _ s).put (by decide)).put (by decide)).bump (by decide) (by decide)

theorem State.plockTaken_plock (s : State) (k : Nat) : (s.plockTaken k).flag R.PLL_STATUS_PLOCK k = false := by
  rw [State.flag, State.plockTaken, State.get_bump_ne _ _ _ _ _ (by decide) (by decide), State.get_put_ne _ _ _ _ _ _ (by decide),
    State.get_put_same]
  rfl

theorem State.plockTaken_seen (s : State) (k : Nat) : (s.plockTaken k).flag R.PLL_STATUS_UNLOCK_SEEN k = true := by
  rw [State.flag, State.plockTaken, State.get_bump_ne _ _ _ _ _ (by decide) (by decide), State.get_put_same]
  rfl

theorem State.plockGone_idle {s : State} {l : LoopId} (h : s.flag R.PLL_STATUS_PLOCK (pllInst l) = false) (quiet : Bool) :
    s.plockGone l quiet = s := if_pos (by simp [h])

/-- A loop that loses PLOCK says so with its event at once. -/
theorem State.plockGone_loud {s : State} {l : LoopId} (h : s.flag R.PLL_STATUS_PLOCK (pllInst l) = true) :
    Keeps eventFlds (s.plockTaken (pllInst l)) (s.plockGone l false) ∧ (s.plockGone l false).sticky (pllEvent l) = true := by
  have heq : s.plockGone l false = ((s.plockTaken (pllInst l)).when (pllInst l == 0)
      (fun u => { u with plls := { u.plls with ungateWait := false } })).raise (pllEvent l) := if_neg (by simp [h])
  rw [heq]
  exact ⟨((Keeps.refl _ _).when fun _ hu => hu.set).raise (List.Subset.refl _), State.sticky_raise_same _ _⟩

/-- PLL-C's event waits where its outputs gate. -/
theorem State.plockGone_quiet {s : State} (h : s.flag R.PLL_STATUS_PLOCK 1 = true) : s.plockGone .c true = s.plockTaken 1 :=
  if_neg (by simp [pllInst, h])

/-- PLL-M has no PLOCK once it is taken, whether it had one or not. -/
theorem State.plockGone_m (s : State) : (s.plockGone .m false).flag R.PLL_STATUS_PLOCK 0 = false ∧
    Keeps (plockFlds ++ eventFlds) s (s.plockGone .m false) := by
  cases hlock : s.flag R.PLL_STATUS_PLOCK 0 with
  | false =>
    rw [State.plockGone_idle (l := .m) hlock]
    exact ⟨hlock, Keeps.refl _ s⟩
  | true =>
    obtain ⟨hk, -⟩ := State.plockGone_loud (l := .m) hlock
    have htaken := (s.plockTaken_regsOnly 0).keeps.mono (List.subset_append_left plockFlds eventFlds)
    exact ⟨(hk.flag (by decide) 0 0).trans (s.plockTaken_plock 0), htaken.trans (hk.mono (List.subset_append_right _ _))⟩

/-! ### PLL-M without its locks (R208, R209, R213) -/

/-- PLL-M has neither lock, its outputs gate and nothing waits to open them; else no more differs than the registers listed and what `Keeps`
leaves out. -/
structure PllmDown (l : List Fld) (s t : State) : Prop where
  flock : t.flag R.PLL_STATUS_FLOCK 0 = false
  plock : t.flag R.PLL_STATUS_PLOCK 0 = false
  gated : t.pllmGated = true
  waits : t.plls.ungateWait = false
  keeps : Keeps l s t

theorem State.pllmOff_down (s : State) : PllmDown gateFlds s s.pllmOff := by
  obtain ⟨hplock, hgone⟩ := (s.put R.PLL_STATUS_FLOCK 0 0).plockGone_m
  obtain ⟨hgated, hwaits, hgate⟩ := ((s.put R.PLL_STATUS_FLOCK 0 0).plockGone .m false).pllmGate_shows
  refine ⟨?_, (hgate.flag (by decide) 0 0).trans hplock, hgated, hwaits, (((Keeps.refl _ s).put (by decide)).plockGone).pllmGate⟩
  exact (hgate.flag (by decide) 0 0).trans ((hgone.flag (by decide) 0 0).trans (s.flag_put_same _ _ _ _))

/-- The registers of a choice of the band. -/
def bandFlds : List Fld := [R.PLLM_BAND_BAND, R.PLLM_BAND_NO_BAND]

theorem State.pllmAcquire_regsOnly (s : State) : RegsOnly bandFlds s s.pllmAcquire := by
  unfold State.pllmAcquire
  split
  · exact ((RegsOnly.refl _ s).put (by decide)).put (by decide)
  · exact (RegsOnly.refl _ s).put (by decide)

theorem PllmDown.acquire {s t : State} (h : PllmDown gateFlds s t) : PllmDown (bandFlds ++ gateFlds) s t.pllmAcquire := by
  have hband := t.pllmAcquire_regsOnly
  refine ⟨(hband.flag (by decide) 0 0).trans h.flock, (hband.flag (by decide) 0 0).trans h.plock,
    (hband.flag (by decide) 0 0).trans h.gated, (congrArg Plls.ungateWait hband.plls).trans h.waits, ?_⟩
  exact (h.keeps.mono (List.subset_append_right _ _)).trans (hband.keeps.mono (List.subset_append_left _ _))

theorem State.flockGone_m (s : State) : PllmDown (bandFlds ++ gateFlds) s (s.flockGone .m) := by
  have heq : s.flockGone .m = if s.pllmOff.flag R.PLLM_CAL_CAL_BUSY then s.pllmOff else s.pllmOff.pllmAcquire := rfl
  have hoff := s.pllmOff_down
  rw [heq]
  split
  · exact { hoff with keeps := hoff.keeps.mono (List.subset_append_right _ _) }
  · exact hoff.acquire

/-! ### PLL-C without its locks (R39, R213) -/

/-- PLL-C has lost both locks. -/
def State.pllcFree (s : State) : State := (s.put R.PLL_STATUS_FLOCK 0 1).plockGone .c true

/-- The registers of the loss of both locks, without an event. -/
def unlockFlds : List Fld := R.PLL_STATUS_FLOCK :: plockFlds

/-- Either PLOCK was gone already, or it goes with FLOCK. -/
theorem State.pllcFree_cases (s : State) : s.pllcFree = s.put R.PLL_STATUS_FLOCK 0 1 ∧ s.flag R.PLL_STATUS_PLOCK 1 = false ∨
    s.pllcFree = (s.put R.PLL_STATUS_FLOCK 0 1).plockTaken 1 := by
  have hheld : (s.put R.PLL_STATUS_FLOCK 0 1).flag R.PLL_STATUS_PLOCK 1 = s.flag R.PLL_STATUS_PLOCK 1 :=
    s.flag_put_ne _ _ _ _ _ (by decide)
  cases hlock : s.flag R.PLL_STATUS_PLOCK 1 with
  | false => exact .inl ⟨State.plockGone_idle (l := .c) (hheld.trans hlock) true, rfl⟩
  | true => exact .inr (State.plockGone_quiet (hheld.trans hlock))

theorem State.pllcFree_regsOnly (s : State) : RegsOnly unlockFlds s s.pllcFree := by
  have hput : RegsOnly unlockFlds s (s.put R.PLL_STATUS_FLOCK 0 1) := (RegsOnly.refl _ s).put (by decide)
  rcases s.pllcFree_cases with ⟨heq, -⟩ | heq
  · rwa [heq]
  · rw [heq]
    exact hput.trans ((State.plockTaken_regsOnly _ 1).mono (List.subset_cons_self _ _))

theorem State.pllcFree_locks (s : State) :
    s.pllcFree.flag R.PLL_STATUS_FLOCK 1 = false ∧ s.pllcFree.flag R.PLL_STATUS_PLOCK 1 = false := by
  have hflock : (s.put R.PLL_STATUS_FLOCK 0 1).flag R.PLL_STATUS_FLOCK 1 = false := s.flag_put_same _ _ _ _
  rcases s.pllcFree_cases with ⟨heq, hplock⟩ | heq
  · rw [heq]
    exact ⟨hflock, (s.flag_put_ne _ _ _ _ _ (by decide)).trans hplock⟩
  · rw [heq]
    exact ⟨((State.plockTaken_regsOnly _ 1).flag (by decide) 1 0).trans hflock, State.plockTaken_plock _ 1⟩

/-- A register of PLL-M is none of PLL-C's. -/
theorem State.get_put_second (s : State) (f g : Fld) (v : Nat) : (s.put f v 1).get g 0 = s.get g 0 :=
  s.get_put_key v fun hkey => by
    obtain ⟨-, hinst, -⟩ := (Fld.key_eq_iff f g 1 0 0 0).1 hkey
    exact absurd hinst (by decide)

theorem State.pllcFree_first (s : State) {g : Fld} (hg : R.PLL_UNLOCK_CNT.base ≠ g.base) (hsat : R.PG_STATUS_SAT_SEEN.base ≠ g.base) :
    s.pllcFree.get g 0 = s.get g 0 := by
  rcases s.pllcFree_cases with ⟨heq, -⟩ | heq
  · rw [heq, State.get_put_second]
  · rw [heq, State.plockTaken, State.get_bump_ne _ _ _ _ _ hg hsat, State.get_put_second, State.get_put_second, State.get_put_second]

theorem State.flockGone_c_eq (s : State) : s.flockGone .c = s.pllcFree.pllcGate := rfl

theorem State.pllcGate_gated {s : State} (h : s.flag R.PLL_STATUS_GATED 1 = true) : s.pllcGate = s := if_pos h

/-- The loops once the Truss clock has stopped. -/
def State.clockGone (s : State) : Plls := { s.plls with clockLost := true, fatalWait := false }

theorem State.pllcGate_shuts {s : State} (h : s.flag R.PLL_STATUS_GATED 1 = false) :
    s.pllcGate = { s.put R.PLL_STATUS_GATED 1 1 with plls := s.clockGone } := if_neg (by simp [h])

theorem State.pllcGate_shows (s : State) : s.pllcGate.flag R.PLL_STATUS_GATED 1 = true ∧ Keeps [R.PLL_STATUS_GATED] s s.pllcGate ∧
    ∀ g, s.pllcGate.get g 0 = s.get g 0 := by
  cases hgated : s.flag R.PLL_STATUS_GATED 1 with
  | true =>
    rw [State.pllcGate_gated hgated]
    exact ⟨hgated, Keeps.refl _ s, fun _ => rfl⟩
  | false =>
    rw [State.pllcGate_shuts hgated]
    exact ⟨s.flag_put_same R.PLL_STATUS_GATED 1 1 0, ((Keeps.refl _ s).put (by decide)).set, fun g => s.get_put_second R.PLL_STATUS_GATED g 1⟩

/-- PLL-C has neither lock and its outputs gate; what the first loop shows has not changed. -/
structure PllcDown (s t : State) : Prop where
  flock : t.flag R.PLL_STATUS_FLOCK 1 = false
  plock : t.flag R.PLL_STATUS_PLOCK 1 = false
  gated : t.flag R.PLL_STATUS_GATED 1 = true
  first : ∀ g : Fld, R.PLL_UNLOCK_CNT.base ≠ g.base → R.PG_STATUS_SAT_SEEN.base ≠ g.base → t.flag g 0 = s.flag g 0
  keeps : Keeps (R.PLL_STATUS_GATED :: unlockFlds) s t

theorem State.flockGone_c (s : State) : PllcDown s (s.flockGone .c) := by
  obtain ⟨hflock, hplock⟩ := s.pllcFree_locks
  obtain ⟨hgated, hgate, hfirst⟩ := s.pllcFree.pllcGate_shows
  rw [State.flockGone_c_eq]
  refine ⟨(hgate.flag (by decide) 1 0).trans hflock, (hgate.flag (by decide) 1 0).trans hplock, hgated, fun g hg hsat => ?_, ?_⟩
  · rw [State.flag, hfirst, s.pllcFree_first hg hsat, State.flag]
  · exact (s.pllcFree_regsOnly.keeps.mono (List.subset_cons_self _ _)).trans (hgate.mono (by decide))

/-! ### FLOCK (R211, R213, R214) -/

/-- The count of PLL-C shows with what is expected. -/
theorem State.pllCount_c (s : State) (count : Nat) :
    s.pllCount .c count = (s.put R.PLL_FCOUNT count 1).put R.PLL_FEXPECT_EXPECT 66667 1 := rfl

theorem execPllFlockSet_c {s : State} {count : Nat} (hp : s.powered = true) (htol : s.pllInTol .c count = true) :
    exec (.pllFlockSet .c count) s = .next (((s.pllCount .c count).put R.PLL_STATUS_FLOCK 1 1).put R.PLL_STATUS_REF_LOST 0 1) := by
  show execPllFlockSet .c count s = _
  simp [execPllFlockSet, State.pllRuns, hp, htol]

theorem execPllFlockSet_c_shows {s : State} {count : Nat} (hp : s.powered = true) (htol : s.pllInTol .c count = true) :
    ∃ t, exec (.pllFlockSet .c count) s = .next t ∧ t.flag R.PLL_STATUS_FLOCK 1 = true ∧ t.flag R.PLL_STATUS_REF_LOST 1 = false ∧
      t.get R.PLL_FCOUNT 1 = count % 2 ^ 20 ∧ t.get R.PLL_FEXPECT_EXPECT 1 = 66667 ∧
      RegsAt [R.PLL_STATUS_FLOCK, R.PLL_STATUS_REF_LOST, R.PLL_FCOUNT, R.PLL_FEXPECT_EXPECT] 1 s t := by
  refine ⟨_, execPllFlockSet_c hp htol, ?_, State.flag_put_same _ _ _ _ _, ?_, ?_, ?_⟩
  · exact (State.flag_put_ne _ _ _ _ _ _ (by decide)).trans (State.flag_put_same _ _ _ _ _)
  · rw [State.get_put_ne _ _ _ _ _ _ (by decide), State.get_put_ne _ _ _ _ _ _ (by decide), State.pllCount_c,
      State.get_put_ne _ _ _ _ _ _ (by decide), State.get_put_same]
    rfl
  · rw [State.get_put_ne _ _ _ _ _ _ (by decide), State.get_put_ne _ _ _ _ _ _ (by decide), State.pllCount_c, State.get_put_same]
    rfl
  · exact ((((RegsAt.refl _ 1 s).put (by decide)).put (by decide)).put (by decide)).put (by decide)

theorem execPllFlockClear_c {s : State} {count : Nat} (hp : s.powered = true) (htol : s.pllInTol .c count = false)
    (hlock : s.flag R.PLL_STATUS_FLOCK 1 = true) : exec (.pllFlockClear .c count) s = .next ((s.pllCount .c count).flockGone .c) := by
  show execPllFlockClear .c count s = _
  simp [execPllFlockClear, hp, htol, hlock]

theorem execPllFlockClear_m {s : State} {count : Nat} (hp : s.powered = true) (htol : s.pllInTol .m count = false)
    (hlock : s.flag R.PLL_STATUS_FLOCK 0 = true) : exec (.pllFlockClear .m count) s = .next ((s.pllCount .m count).flockGone .m) := by
  show execPllFlockClear .m count s = _
  simp [execPllFlockClear, hp, htol, hlock]

/-- The registers of a count out of tolerance. -/
def countFlds : List Fld := [R.PLL_FCOUNT, R.PLL_FEXPECT_EXPECT]

theorem State.pllCount_c_regsOnly (s : State) (count : Nat) : RegsOnly countFlds s (s.pllCount .c count) :=
  ((RegsOnly.refl _ s).put (by decide)).put (by decide)

theorem execPllFlockClear_c_shows {s : State} {count : Nat} (hp : s.powered = true) (htol : s.pllInTol .c count = false)
    (hlock : s.flag R.PLL_STATUS_FLOCK 1 = true) (hopen : s.flag R.PLL_STATUS_GATED 1 = false) :
    ∃ t, exec (.pllFlockClear .c count) s = .next t ∧ t.flag R.PLL_STATUS_FLOCK 1 = false ∧ t.flag R.PLL_STATUS_PLOCK 1 = false ∧
      t.flag R.PLL_STATUS_GATED 1 = true ∧ t.plls.clockLost = true ∧ t.ticking = false ∧
      RegsOnly [R.PLL_FCOUNT, R.PLL_FEXPECT_EXPECT, R.PLL_STATUS_FLOCK, R.PLL_STATUS_PLOCK, R.PLL_STATUS_UNLOCK_SEEN, R.PLL_UNLOCK_CNT,
        R.PG_STATUS_SAT_SEEN, R.PLL_STATUS_GATED] { s with plls := t.plls } t := by
  have hdown := (s.pllCount .c count).flockGone_c
  have hcount := s.pllCount_c_regsOnly count
  have hfree := (s.pllCount .c count).pllcFree_regsOnly
  have heq := State.pllcGate_shuts ((hfree.flag (by decide) 1 0).trans ((hcount.flag (by decide) 1 0).trans hopen))
  rw [← State.flockGone_c_eq] at heq
  have hlost : ((s.pllCount .c count).flockGone .c).plls.clockLost = true := by
    rw [heq]
    rfl
  refine ⟨_, execPllFlockClear_c hp htol hlock, hdown.flock, hdown.plock, hdown.gated, hlost, by simp [State.ticking, hlost], ?_⟩
  rw [heq]
  exact (((hcount.mono (by decide)).trans (hfree.mono (by decide))).put (by decide)).setPlls _

theorem execPllFlockClear_m_shows {s : State} {count : Nat} (hp : s.powered = true) (htol : s.pllInTol .m count = false)
    (hlock : s.flag R.PLL_STATUS_FLOCK 0 = true) :
    ∃ t, exec (.pllFlockClear .m count) s = .next t ∧ t.flag R.PLL_STATUS_FLOCK 0 = false ∧ t.flag R.PLL_STATUS_PLOCK 0 = false ∧
      t.pllmGated = true ∧ t.plls.ungateWait = false ∧ SameCore s t := by
  have hdown := (s.pllCount .m count).flockGone_m
  have hcount : Keeps countFlds s (s.pllCount .m count) := ((Keeps.refl _ s).put (by decide)).put (by decide)
  exact ⟨_, execPllFlockClear_m hp htol hlock, hdown.flock, hdown.plock, hdown.gated, hdown.waits, hcount.core.trans hdown.keeps.core⟩

theorem execPllmCeilingTrip_eq {s : State} {count : Nat} (hp : s.powered = true) (hopen : s.pllmGated = false) (hc : 512 < count) :
    exec (.pllmCeilingTrip count) s = .next ((s.bump R.PLLM_CEIL_CNT).flockGone .m) := by
  show execPllmCeilingTrip count s = _
  simp [execPllmCeilingTrip, hp, hopen, hc]

theorem execPllmCeilingTrip_shows {s : State} {count : Nat} (hp : s.powered = true) (hopen : s.pllmGated = false) (hc : 512 < count) :
    ∃ t, exec (.pllmCeilingTrip count) s = .next t ∧ t.pllmGated = true ∧ t.flag R.PLL_STATUS_FLOCK 0 = false ∧
      t.get R.PLLM_CEIL_CNT = min (s.get R.PLLM_CEIL_CNT + 1) (2 ^ R.PLLM_CEIL_CNT.width - 1) := by
  have hdown := (s.bump R.PLLM_CEIL_CNT).flockGone_m
  exact ⟨_, execPllmCeilingTrip_eq hp hopen hc, hdown.gated, hdown.flock,
    (hdown.keeps.regs _ 0 0 (by decide)).trans (s.get_bump_same _ 0 0 (by decide))⟩

/-! ### A lost reference (R210) -/

/-- The reference of both loops on XI is lost, and shows as such. -/
def State.xiGone (s : State) : State := (s.refGone 1).refGone 0

theorem execPllRefLost_xi {s : State} {l : LoopId} (hp : s.powered = true) (hl : l = .c ∨ l = .m) :
    exec (.pllRefLost l) s = .next ((s.xiGone.flockGone .m).flockGone .c) := by
  show execPllRefLost l s = _
  rcases hl with rfl | rfl
  · simp [execPllRefLost, hp, State.xiGone]
  · simp [execPllRefLost, hp, State.xiGone]

/-- Both loops show that the reference is lost, and that it has been. -/
theorem State.xiGone_flags (s : State) {k : Nat} (hk : k < 2) :
    s.xiGone.flag R.PLL_STATUS_REF_LOST k = true ∧ s.xiGone.flag R.PLL_STATUS_REF_LOST_SEEN k = true := by
  have hcases : k = 0 ∨ k = 1 := by omega
  simp only [State.flag, State.xiGone, State.refGone]
  rcases hcases with rfl | rfl
  · rw [State.get_put_ne _ _ _ _ _ _ (by decide), State.get_put_same, State.get_put_same]
    exact ⟨rfl, rfl⟩
  · rw [State.get_put_ne _ _ _ _ _ _ (by decide), State.get_put_inst _ _ _ _ (by decide), State.get_put_ne _ _ _ _ _ _ (by decide),
      State.get_put_same, State.get_put_inst _ _ _ _ (by decide), State.get_put_ne _ _ _ _ _ _ (by decide), State.get_put_same]
    exact ⟨rfl, rfl⟩

theorem State.xiGone_core (s : State) : SameCore s s.xiGone := SameCore.rfl

theorem execPllRefLost_shows {s : State} {l : LoopId} (hp : s.powered = true) (hl : l = .c ∨ l = .m) :
    ∃ t, exec (.pllRefLost l) s = .next t ∧ SameCore s t ∧ ∀ k, k < 2 → t.flag R.PLL_STATUS_REF_LOST k = true ∧
      t.flag R.PLL_STATUS_REF_LOST_SEEN k = true ∧ t.flag R.PLL_STATUS_FLOCK k = false ∧ t.flag R.PLL_STATUS_PLOCK k = false ∧
      t.flag R.PLL_STATUS_GATED k = true := by
  have hm := s.xiGone.flockGone_m
  have hc := (s.xiGone.flockGone .m).flockGone_c
  refine ⟨_, execPllRefLost_xi hp hl, (s.xiGone_core.trans hm.keeps.core).trans hc.keeps.core, fun k hk => ?_⟩
  obtain ⟨hlost, hseen⟩ := s.xiGone_flags hk
  refine ⟨(hc.keeps.flag (by decide) k 0).trans ((hm.keeps.flag (by decide) k 0).trans hlost),
    (hc.keeps.flag (by decide) k 0).trans ((hm.keeps.flag (by decide) k 0).trans hseen), ?_⟩
  have hcases : k = 0 ∨ k = 1 := by omega
  rcases hcases with rfl | rfl
  · exact ⟨(hc.first _ (by decide) (by decide)).trans hm.flock, (hc.first _ (by decide) (by decide)).trans hm.plock,
      (hc.first _ (by decide) (by decide)).trans hm.gated⟩
  · exact ⟨hc.flock, hc.plock, hc.gated⟩

/-! ### PLOCK (R212, R215) -/

theorem State.phaseHeld_iff (s : State) (l : LoopId) (x : PhaseRun) : s.phaseHeld l x = true ↔
    s.get R.PLL_LOCK_CFG_PLOCK_N (pllInst l) ≤ x.cycles ∧ x.worst ≤ 100 * s.get R.PLL_LOCK_CFG_PHASE_WIN (pllInst l) ∧
      x.ps.natAbs ≤ 100 * s.get R.PLL_LOCK_CFG_PHASE_WIN (pllInst l) := by
  simp [State.phaseHeld]

/-- The loop k in lock, with its phase error and how long the acquisition took. -/
def State.plockShown (s : State) (ph : PhaseRun) (k : Nat) : State :=
  ((s.putI R.PLL_PHASE_PS ph.ps k).put R.PLL_LOCK_TIME_US ph.us k).put R.PLL_STATUS_PLOCK 1 k

/-- The registers of a lock gained. -/
def lockFlds : List Fld := [R.PLL_STATUS_PLOCK, R.PLL_LOCK_TIME_US, R.PLL_PHASE_PS]

theorem State.plockShown_regsOnly (s : State) (ph : PhaseRun) (k : Nat) : RegsOnly lockFlds s (s.plockShown ph k) :=
  (((RegsOnly.refl _ s).put (by decide)).put (by decide)).put (by decide)

theorem State.plockShown_plock (s : State) (ph : PhaseRun) (k : Nat) : (s.plockShown ph k).flag R.PLL_STATUS_PLOCK k = true :=
  State.flag_put_same _ _ _ _ _

theorem State.plockShown_time (s : State) (ph : PhaseRun) (k : Nat) :
    (s.plockShown ph k).get R.PLL_LOCK_TIME_US k = ph.us % 2 ^ R.PLL_LOCK_TIME_US.width :=
  (State.get_put_ne _ _ _ _ _ _ (by decide)).trans (State.get_put_same _ _ _ _ _)

theorem State.plockShown_phase (s : State) (ph : PhaseRun) (k : Nat) :
    (s.plockShown ph k).getI R.PLL_PHASE_PS k = satTo R.PLL_PHASE_PS.width ph.ps :=
  (State.getI_put_ne _ _ _ _ _ _ (by decide)).trans ((State.getI_put_ne _ _ _ _ _ _ (by decide)).trans (State.getI_putI_same _ _ _ _ _))

/-- PLL-M in lock, with its event. -/
def State.pllmLocked (s : State) (ph : PhaseRun) : State := (s.plockShown ph 0).raise EV_PLLM_UNLOCK

/-- The loops once PLL-M asks for the ungate of the next boundary. -/
def State.ungateAsked (s : State) (ph : PhaseRun) : Plls :=
  { s.plls with ungateWait := true, residue := ph.divider * 1000000000000 }

theorem execPllPlockSet_m {s : State} {ph : PhaseRun} (hr : s.pllRuns .m = true) (hflock : s.flag R.PLL_STATUS_FLOCK 0 = true)
    (hplock : s.flag R.PLL_STATUS_PLOCK 0 = false) (hheld : s.phaseHeld .m ph = true) :
    exec (.pllPlockSet .m ph) s = .next (if (s.pllmLocked ph).pllmGated then
      { s.pllmLocked ph with plls := (s.pllmLocked ph).ungateAsked ph } else s.pllmLocked ph) := by
  show execPllPlockSet .m ph s = _
  simp only [execPllPlockSet, hr, hflock, hplock, hheld]
  rfl

theorem State.pllmLocked_raises (s : State) (ph : PhaseRun) : RaisesOnly lockFlds s (s.pllmLocked ph) :=
  (s.plockShown_regsOnly ph 0).raise (by decide) (by decide) _

/-- What PLL-M shows in lock. -/
theorem State.pllmLocked_shows (s : State) (ph : PhaseRun) : (s.pllmLocked ph).flag R.PLL_STATUS_PLOCK 0 = true ∧
    (s.pllmLocked ph).get R.PLL_LOCK_TIME_US 0 = ph.us % 2 ^ R.PLL_LOCK_TIME_US.width ∧
    (s.pllmLocked ph).getI R.PLL_PHASE_PS 0 = satTo R.PLL_PHASE_PS.width ph.ps ∧ (s.pllmLocked ph).sticky EV_PLLM_UNLOCK = true ∧
    (s.pllmLocked ph).pllmGated = s.pllmGated ∧ (s.pllmLocked ph).plls = s.plls := by
  have hk := (s.plockShown ph 0).raise_keeps EV_PLLM_UNLOCK
  have hshown := s.plockShown_regsOnly ph 0
  exact ⟨(hk.flag (by decide) 0 0).trans (s.plockShown_plock ph 0), (hk.regs _ 0 0 (by decide)).trans (s.plockShown_time ph 0),
    (hk.getI (by decide) 0 0).trans (s.plockShown_phase ph 0), State.sticky_raise_same _ _,
    (hk.flag (by decide) 0 0).trans (hshown.flag (by decide) 0 0), (State.raise_records _ _).plls.trans hshown.plls⟩

theorem execPllPlockSet_m_shows {s : State} {ph : PhaseRun} (hr : s.pllRuns .m = true) (hflock : s.flag R.PLL_STATUS_FLOCK 0 = true)
    (hplock : s.flag R.PLL_STATUS_PLOCK 0 = false) (hheld : s.phaseHeld .m ph = true) :
    ∃ t, exec (.pllPlockSet .m ph) s = .next t ∧ t.flag R.PLL_STATUS_PLOCK 0 = true ∧
      t.get R.PLL_LOCK_TIME_US 0 = ph.us % 2 ^ R.PLL_LOCK_TIME_US.width ∧ t.getI R.PLL_PHASE_PS 0 = satTo R.PLL_PHASE_PS.width ph.ps ∧
      t.sticky EV_PLLM_UNLOCK = true ∧ t.plls.ungateWait = (s.pllmGated || s.plls.ungateWait) ∧
      RaisesOnly [R.PLL_STATUS_PLOCK, R.PLL_LOCK_TIME_US, R.PLL_PHASE_PS] { s with plls := t.plls } t := by
  obtain ⟨hlock, htime, hphase, hraised, hgated, hplls⟩ := s.pllmLocked_shows ph
  have hraises := s.pllmLocked_raises ph
  refine ⟨_, execPllPlockSet_m hr hflock hplock hheld, ?_⟩
  rw [hgated]
  cases s.pllmGated with
  | true => exact ⟨hlock, htime, hphase, hraised, rfl, hraises.setPlls _⟩
  | false => exact ⟨hlock, htime, hphase, hraised, congrArg Plls.ungateWait hplls, hraises.setPlls (s.pllmLocked ph).plls⟩

/-- A phase error that has not been held shows, and no more. -/
theorem execPllPlockSet_m_unheld {s : State} {ph : PhaseRun} (hno : s.phaseHeld .m ph = false) :
    ∃ t, exec (.pllPlockSet .m ph) s = .next t ∧ RegsOnly [R.PLL_PHASE_PS] s t := by
  have heq : exec (.pllPlockSet .m ph) s = .next (if !s.pllRuns .m then s else s.putI R.PLL_PHASE_PS ph.ps 0) := by
    show execPllPlockSet .m ph s = _
    simp only [execPllPlockSet, hno]
    rfl
  refine ⟨_, heq, ?_⟩
  split
  · exact RegsOnly.refl _ s
  · exact (RegsOnly.refl _ s).put (by decide)

theorem execPllPlockClear_m {s : State} {ps : Int} (hp : s.powered = true) (hout : 100 * s.get R.PLL_LOCK_CFG_PHASE_WIN 0 < ps.natAbs) :
    exec (.pllPlockClear .m ps) s = .next ((s.putI R.PLL_PHASE_PS ps 0).plockGone .m false) := by
  show execPllPlockClear .m ps s = _
  simp [execPllPlockClear, hp, State.pllPhase, pllInst, hout]

theorem execPllPlockClear_m_shows {s : State} {ps : Int} (hp : s.powered = true) (hplock : s.flag R.PLL_STATUS_PLOCK 0 = true)
    (hout : 100 * s.get R.PLL_LOCK_CFG_PHASE_WIN 0 < ps.natAbs) :
    ∃ t, exec (.pllPlockClear .m ps) s = .next t ∧ t.flag R.PLL_STATUS_PLOCK 0 = false ∧ t.flag R.PLL_STATUS_UNLOCK_SEEN 0 = true ∧
      t.sticky EV_PLLM_UNLOCK = true ∧ t.pllmGated = s.pllmGated ∧ t.flag R.PLL_STATUS_FLOCK 0 = s.flag R.PLL_STATUS_FLOCK 0 := by
  have hphase : RegsOnly [R.PLL_PHASE_PS] s (s.putI R.PLL_PHASE_PS ps 0) := (RegsOnly.refl _ s).put (by decide)
  have hheld := (hphase.flag (g := R.PLL_STATUS_PLOCK) (by decide) 0 0).trans hplock
  obtain ⟨hk, hraised⟩ := State.plockGone_loud (l := .m) hheld
  have htaken := (s.putI R.PLL_PHASE_PS ps 0).plockTaken_regsOnly 0
  exact ⟨_, execPllPlockClear_m hp hout, (hk.flag (by decide) 0 0).trans (State.plockTaken_plock _ 0),
    (hk.flag (by decide) 0 0).trans (State.plockTaken_seen _ 0), hraised,
    (hk.flag (by decide) 0 0).trans ((htaken.flag (by decide) 0 0).trans (hphase.flag (by decide) 0 0)),
    (hk.flag (by decide) 0 0).trans ((htaken.flag (by decide) 0 0).trans (hphase.flag (by decide) 0 0))⟩

/-! ### A fatal fault is recorded (R458 to R461) -/

theorem State.sticky_note_same (s : State) (e : Nat) : (s.note e).sticky e = true := by
  have hlater : Keeps [R.EVT_LAST_EVENT, R.EVT_LAST_TICK_TICK] (s.putBit R.EVT_STICKY_STICKY (e % 32) true (e / 32)) (s.note e) :=
    (((Keeps.refl _ _).set.put (by decide)).put (by decide)).noteInBand
  rw [State.sticky, State.bit, hlater.regs R.EVT_STICKY_STICKY _ _ (by decide)]
  exact s.bit_putBit_same R.EVT_STICKY_STICKY (e % 32) true (e / 32) 0 (Nat.mod_lt e (by decide))

theorem State.sticky_raiseFatal_same (s : State) (e cause : Nat) : (s.raiseFatal e cause).sticky e = true := by
  have hlog : Calm (s.note e) (s.raiseFatal e cause) := Calm.ite (Calm.refl _).logRecord (Calm.refl _)
  exact hlog.sticky e (s.sticky_note_same e)

theorem State.enqueue_plls (s : State) (e : EgrFrame) : (s.enqueue e).2.plls = s.plls := by
  unfold State.enqueue
  dsimp only
  split
  · rfl
  · split
    · exact (RecordsOnly.refl s).bump.put.raise.plls
    · split
      · split
        · split
          · rfl
          · rfl
        · rfl
      · split
        · exact (RecordsOnly.refl s).bump.plls
        · rfl

theorem State.submit_plls (s : State) (p tc : Nat) (w : Wire) : (s.submit p tc w).plls = s.plls := by
  unfold State.submit
  split
  · exact (RecordsOnly.refl s).bump.plls
  · exact s.newFid.2.enqueue_plls _

/-- A unit that demotes itself changes no more than its two notices do, the one in the brace frame and the heartbeats. -/
theorem State.demote_keeps (s : State) : KeepsPlls submitFlds s s.demote := by
  refine (KeepsPlls.refl _ s).ite (KeepsPlls.ite (KeepsPlls.refl _ s).set (KeepsPlls.foldl ?_ fun t p ht => ht.trans ?_))
  · exact (KeepsPlls.refl _ s).set
  · exact ⟨(t.submit_keeps _ _ _).keeps, t.submit_plls _ _ _⟩

/-- The registers of the first fatal fault's record. -/
def fatalFlds : List Fld := [R.EVT_FATAL_CAUSE, R.EVT_FATAL_TICK_TICK, R.EVT_FATAL_VALID]

/-- A fatal fault recorded, before its event. -/
def State.fatalNoted (s : State) (c : FatalCause) : State :=
  (if s.get R.EVT_FATAL_CAUSE = 0 then
    (s.put R.EVT_FATAL_CAUSE (causeCode c)).put R.EVT_FATAL_TICK_TICK (s.tickNum % 2 ^ 32) else s).put R.EVT_FATAL_VALID 1

theorem State.fatalNoted_keeps (s : State) (c : FatalCause) : KeepsPlls fatalFlds s (s.fatalNoted c) := by
  have h := KeepsPlls.refl fatalFlds s
  exact (KeepsPlls.ite ((h.put (by decide)).put (by decide)) h).put (by decide)

/-- What follows the event of a fatal fault. -/
theorem State.fatal_follows (s : State) (c : FatalCause) :
    KeepsPlls submitFlds ((s.fatalNoted c).raiseFatal (causeEvent c) (causeCode c)) (s.fatal c) ∧
      Calm ((s.fatalNoted c).raiseFatal (causeEvent c) (causeCode c)) (s.fatal c) := by
  unfold State.fatal
  extract_lets t t1 t2
  have hk : KeepsPlls submitFlds t1 t2 := t1.demote_keeps.ite (KeepsPlls.refl _ t1)
  have hc : Calm t1 t2 := (Calm.refl t1).demote.ite (Calm.refl t1)
  exact ⟨hk.set.ite hk, Calm.ite hc.set hc⟩

theorem State.raiseFatal_keeps (s : State) (e cause : Nat) : KeepsPlls eventFlds s (s.raiseFatal e cause) := by
  have hnote : Keeps eventFlds s (s.note e) := (Keeps.refl _ s).note (List.Subset.refl _)
  have hrec : RecordsOnly s (s.note e) := (RecordsOnly.refl s).note
  exact ⟨(hnote.logRecord logFlds_subset_eventFlds).ite hnote, (hrec.logRecord.ite hrec).plls⟩

theorem State.fatal_shows (s : State) (c : FatalCause) : KeepsPlls (fatalFlds ++ submitFlds) s (s.fatal c) ∧
    (s.fatal c).flag R.EVT_FATAL_VALID = true ∧ (s.fatal c).sticky (causeEvent c) = true := by
  obtain ⟨hk, hcalm⟩ := s.fatal_follows c
  have hafter : KeepsPlls submitFlds (s.fatalNoted c) (s.fatal c) :=
    ((State.raiseFatal_keeps _ _ _).mono eventFlds_subset_submitFlds).trans hk
  refine ⟨((s.fatalNoted_keeps c).mono (List.subset_append_left _ _)).trans (hafter.mono (List.subset_append_right _ _)), ?_,
    hcalm.sticky _ (State.sticky_raiseFatal_same _ _ _)⟩
  exact (hafter.keeps.flag (by decide) 0 0).trans (State.flag_put_same _ _ _ _ 0)

/-! ### PLL-C in lock (R39, R461) -/

theorem execPllPlockSet_c {s : State} {ph : PhaseRun} (hp : s.powered = true) (hflock : s.flag R.PLL_STATUS_FLOCK 1 = true)
    (hplock : s.flag R.PLL_STATUS_PLOCK 1 = false) (hheld : s.phaseHeld .c ph = true) :
    exec (.pllPlockSet .c ph) s = .next (s.plockShown ph 1).pllcLocked := by
  show execPllPlockSet .c ph s = _
  simp only [execPllPlockSet, State.pllRuns, hp, hflock, hplock, hheld]
  rfl

/-- PLL-C's gate ends with the lock: the event alone where the clock was not lost, the fatal fault where it was. -/
theorem State.pllcLocked_shows (s : State) : s.pllcLocked.flag R.PLL_STATUS_PLOCK 1 = s.flag R.PLL_STATUS_PLOCK 1 ∧
    s.pllcLocked.flag R.PLL_STATUS_GATED 1 = false ∧ s.pllcLocked.plls.clockLost = false ∧ s.pllcLocked.sticky EV_PLLC_UNLOCK = true ∧
    (s.plls.clockLost = true → s.pllcLocked.plls.fatalWait = true ∧ s.pllcLocked.flag R.EVT_FATAL_VALID = true) := by
  have hplock : (s.put R.PLL_STATUS_GATED 0 1).flag R.PLL_STATUS_PLOCK 1 = s.flag R.PLL_STATUS_PLOCK 1 :=
    s.flag_put_ne _ _ _ _ _ (by decide)
  have hopen : (s.put R.PLL_STATUS_GATED 0 1).flag R.PLL_STATUS_GATED 1 = false := s.flag_put_same _ _ _ _
  cases hlost : s.plls.clockLost with
  | false =>
    have heq : s.pllcLocked = (s.put R.PLL_STATUS_GATED 0 1).raise EV_PLLC_UNLOCK := if_neg (by simp [hlost])
    have hk := (s.put R.PLL_STATUS_GATED 0 1).raise_keeps EV_PLLC_UNLOCK
    rw [heq, (State.raise_records _ _).plls]
    exact ⟨(hk.flag (by decide) 1 0).trans hplock, (hk.flag (by decide) 1 0).trans hopen, hlost, State.sticky_raise_same _ _, nofun⟩
  | true =>
    have heq : s.pllcLocked = State.fatal
      { s.put R.PLL_STATUS_GATED 0 1 with plls := { s.plls with clockLost := false, fatalWait := true } } .clockLoss := if_pos hlost
    obtain ⟨hk, hvalid, hraised⟩ := State.fatal_shows
      { s.put R.PLL_STATUS_GATED 0 1 with plls := { s.plls with clockLost := false, fatalWait := true } } .clockLoss
    rw [heq, hk.plls]
    exact ⟨(hk.keeps.flag (by decide) 1 0).trans hplock, (hk.keeps.flag (by decide) 1 0).trans hopen, rfl, hraised, fun _ => ⟨rfl, hvalid⟩⟩

theorem execPllPlockSet_c_shows {s : State} {ph : PhaseRun} (hp : s.powered = true) (hflock : s.flag R.PLL_STATUS_FLOCK 1 = true)
    (hplock : s.flag R.PLL_STATUS_PLOCK 1 = false) (hheld : s.phaseHeld .c ph = true) :
    ∃ t, exec (.pllPlockSet .c ph) s = .next t ∧ t.flag R.PLL_STATUS_PLOCK 1 = true ∧ t.flag R.PLL_STATUS_GATED 1 = false ∧
      t.plls.clockLost = false ∧ t.sticky EV_PLLC_UNLOCK = true ∧
      (s.plls.clockLost = true → t.plls.fatalWait = true ∧ t.flag R.EVT_FATAL_VALID = true) := by
  obtain ⟨hlock, hopen, hclock, hraised, hfatal⟩ := (s.plockShown ph 1).pllcLocked_shows
  exact ⟨_, execPllPlockSet_c hp hflock hplock hheld, hlock.trans (s.plockShown_plock ph 1), hopen, hclock, hraised,
    fun h => hfatal ((congrArg Plls.clockLost (s.plockShown_regsOnly ph 1).plls).trans h)⟩

/-! ### The end of the clock mute (R217, R309, R346) -/

/-- What channel n sends where the tone that it plays is repeated. -/
def State.toneOf (s : State) (n : Nat) : List Out := if s.toneNow n ≠ 0 then [.tone n (s.toneSpec (s.diag.step - 3))] else []

/-- The tone of a sweep that is sent again, if its channel is one of the first k. -/
def State.tonesAgain (s : State) : Nat → List Out
  | 0 => []
  | k + 1 => s.toneOf k ++ s.tonesAgain k

theorem State.toneOf_other {s : State} {n : Nat} (h : s.diag.cur ≠ some n) : s.toneOf n = [] := by
  simp [State.toneOf, State.toneNow, h]

theorem State.toneOf_playing {s : State} {n : Nat} (hcur : s.diag.cur = some n) (h3 : 3 ≤ s.diag.step) (h8 : s.diag.step ≤ 8)
    (hpeak : (s.toneSpec (s.diag.step - 3)).peak ≠ 0) : s.toneOf n = [.tone n (s.toneSpec (s.diag.step - 3))] := by
  simp [State.toneOf, State.toneNow, hcur, h3, h8, hpeak]

/-- One channel alone plays a tone. -/
theorem State.tonesAgain_cur {s : State} {n : Nat} (hcur : s.diag.cur = some n) (k : Nat) :
    s.tonesAgain k = if n < k then s.toneOf n else [] := by
  induction k with
  | zero => rfl
  | succ k ih =>
    rw [State.tonesAgain, ih]
    rcases Nat.lt_trichotomy n k with hlt | rfl | hgt
    · have hother : s.diag.cur ≠ some k := fun h => Nat.ne_of_lt hlt (Option.some.inj (hcur.symm.trans h))
      rw [State.toneOf_other hother, if_pos hlt, if_pos (by omega), List.nil_append]
    · rw [if_neg (Nat.lt_irrefl n), if_pos (Nat.lt_succ_self n), List.append_nil]
    · have hother : s.diag.cur ≠ some k := fun h => Nat.ne_of_gt hgt (Option.some.inj (hcur.symm.trans h))
      rw [State.toneOf_other hother, if_neg (by omega), if_neg (by omega), List.nil_append]

theorem RegsOnly.diag {l : List Fld} {s t : State} (h : RegsOnly l s t) : t.diag = s.diag := by
  obtain ⟨heq, -⟩ := h
  rw [heq]

section
variable {s t : State} (h : RegsOnly [R.PCH_STATUS_CLK_MUTE] s t)
include h

theorem RegsOnly.toneSpec (k : Nat) : t.toneSpec k = s.toneSpec k := by
  simp only [State.toneSpec, h.get (g := R.DIAG_PILOT_FREQ) (by decide), h.get (g := R.DIAG_CFG_SWEEP_LEVEL) (by decide),
    h.get (g := R.DIAG_PILOT_LEVEL) (by decide)]

/-- A mute changes nothing that a tone depends on. -/
theorem RegsOnly.toneOf (n : Nat) : t.toneOf n = s.toneOf n := by
  have hnow : t.toneNow n = s.toneNow n := by rw [State.toneNow, h.diag, h.toneSpec, State.toneNow]
  rw [State.toneOf, hnow, h.diag, h.toneSpec, State.toneOf]

/-- The same with the hidden state of the power stage and what has been sent replaced. -/
theorem RegsOnly.setPowerWire (p : Power) (w : List Out) :
    RegsOnly [R.PCH_STATUS_CLK_MUTE] { s with power := p, wire := w } { t with power := p, wire := w } := by
  obtain ⟨heq, hregs⟩ := h
  exact ⟨congrArg (fun u : State => { u with power := p, wire := w }) heq, hregs⟩

end

/-- One channel's end of the mute: its flag, its tone and its way back into PLAY. -/
def State.unmute (t : State) (n : Nat) : State :=
  let u := (t.put R.PCH_STATUS_CLK_MUTE 0 n).when (decide (t.toneNow n ≠ 0)) (fun v => v.send (.tone n (v.toneSpec (v.diag.step - 3))))
  if u.chState n = chPlay && (u.ch n).gainEnd == .stay then (u.modCh n (fun x => { x with gain := 0 })).gainRun n 1 .stay else u

theorem State.clockChange_ends {s : State} (h : s.clockError = false) : s.clockChange true = s.each 8 State.unmute := by
  rw [State.clockChange, if_neg (by simp [h]), if_neg (by simp [h])]
  rfl

/-- All that the end of the mute changes of a channel. -/
theorem State.unmute_eq (t : State) (n : Nat) : ∃ ch, t.unmute n = { t.put R.PCH_STATUS_CLK_MUTE 0 n with
    power := { t.power with ch := ch }, wire := t.toneOf n ++ t.wire } := by
  have hput : RegsOnly [R.PCH_STATUS_CLK_MUTE] t (t.put R.PCH_STATUS_CLK_MUTE 0 n) := (RegsOnly.refl _ t).put (by decide)
  unfold State.unmute
  extract_lets u
  have hu : u = { t.put R.PCH_STATUS_CLK_MUTE 0 n with wire := t.toneOf n ++ t.wire } := by
    by_cases htone : t.toneNow n ≠ 0
    · rw [show u = State.send _ _ from if_pos (decide_eq_true htone), hput.toneSpec, State.toneOf, if_pos htone]
      rfl
    · rw [show u = t.put R.PCH_STATUS_CLK_MUTE 0 n from if_neg (by simpa using htone), State.toneOf, if_neg htone]
      rfl
  rw [hu]
  split
  · exact ⟨_, rfl⟩
  · exact ⟨_, rfl⟩

/-- The mute of the first k channels has ended: their flags are clear, a tone among them is sent again, and beside the channels' hidden state
nothing else differs. -/
structure Unmuted (s : State) (k : Nat) (t : State) : Prop where
  only : RegsOnly [R.PCH_STATUS_CLK_MUTE] { s with power := t.power, wire := t.wire } t
  power : t.power = { s.power with ch := t.power.ch }
  clear : ∀ m, m < k → m < 8 → t.flag R.PCH_STATUS_CLK_MUTE m = false
  wire : t.wire = s.tonesAgain k ++ s.wire

theorem Unmuted.next {s t : State} {n : Nat} (h : Unmuted s n t) (hn : n < 8) : Unmuted s (n + 1) (t.unmute n) := by
  obtain ⟨ch, heq⟩ := t.unmute_eq n
  rw [heq]
  refine ⟨(h.only.put (by decide)).setPowerWire _ _, ?_, fun m hm h8 => ?_, ?_⟩
  · rw [h.power]
  · by_cases hmn : m = n
    · rw [hmn]
      exact t.flag_put_same R.PCH_STATUS_CLK_MUTE 0 n 0
    · exact (congrArg (· == 1) (t.get_put_inst 0 0 0 (by omega))).trans (h.clear m (by omega) h8)
  · have htone : t.toneOf n = s.toneOf n := h.only.toneOf n
    rw [State.tonesAgain, List.append_assoc, ← h.wire, htone]

theorem State.clockChange_unmutes {s : State} (h : s.clockError = false) : Unmuted s 8 (s.clockChange true) := by
  rw [State.clockChange_ends h]
  exact State.each_rec (P := Unmuted s) ⟨RegsOnly.refl _ s, rfl, fun _ hm => absurd hm (Nat.not_lt_zero _), rfl⟩ fun _ _ hn hu => hu.next hn

/-- PLL-M's clock is back. -/
def State.clockBack (s : State) : State := { s with power := { s.power with pllLost := false } }

theorem execClkMuteRelease_eq {s : State} (hp : s.powered = true) (hplock : s.flag R.PLL_STATUS_PLOCK 0 = true)
    (hopen : s.pllmGated = false) (hlost : s.power.pllLost = true) : exec .clkMuteRelease s =
      .next (s.clockBack.clockChange true) := by
  have herr : s.clockError = true := by simp [State.clockError, hlost]
  show execClkMuteRelease s = _
  simp [execClkMuteRelease, hp, hplock, hopen, hlost, herr, State.clockBack]

theorem execClkMuteRelease_shows {s : State} (hp : s.powered = true) (hplock : s.flag R.PLL_STATUS_PLOCK 0 = true)
    (hopen : s.pllmGated = false) (hlost : s.power.pllLost = true) (hlink : s.power.linkLost = false) :
    ∃ t, exec .clkMuteRelease s = .next t ∧ t.clockError = false ∧ (∀ n, n < 8 → t.flag R.PCH_STATUS_CLK_MUTE n = false) ∧
      (∀ n, s.diag.cur = some n → 3 ≤ s.diag.step → s.diag.step ≤ 8 → n < 8 → (s.toneSpec (s.diag.step - 3)).peak ≠ 0 →
        t.wire = .tone n (s.toneSpec (s.diag.step - 3)) :: s.wire) ∧
      RegsOnly [R.PCH_STATUS_CLK_MUTE] { s with power := t.power, wire := t.wire } t := by
  have hmute := State.clockChange_unmutes (s := s.clockBack) hlink
  refine ⟨_, execClkMuteRelease_eq hp hplock hopen hlost, ?_, fun n hn => hmute.clear n hn hn, fun n hcur h3 h8 hn hpeak => ?_, hmute.only⟩
  · rw [State.clockError, hmute.power]
    exact hlink
  · rw [hmute.wire, State.tonesAgain_cur (s := s.clockBack) hcur, if_pos hn]
    exact congrArg (· ++ s.wire) (State.toneOf_playing hcur h3 h8 hpeak)

/-! ### O32 -/

/-- Settles O32: each row is the change that its own lemma states. -/
theorem pllLockRows : Obligations.PllLockRows := by
  refine ⟨fun s count hp htol => execPllFlockSet_c_shows hp htol,
    fun s count hp htol hlock hopen => execPllFlockClear_c_shows hp htol hlock hopen,
    fun s count hp htol hlock => execPllFlockClear_m_shows hp htol hlock,
    fun s ph hr hflock hplock hn hworst hps => execPllPlockSet_m_shows hr hflock hplock ((s.phaseHeld_iff .m ph).2 ⟨hn, hworst, hps⟩),
    fun s ph _ hno => execPllPlockSet_m_unheld (Bool.eq_false_iff.2 fun hheld => ?_),
    fun s ph hp hflock hplock hn hworst hps => execPllPlockSet_c_shows hp hflock hplock ((s.phaseHeld_iff .c ph).2 ⟨hn, hworst, hps⟩),
    fun s ps hp hplock hout => execPllPlockClear_m_shows hp hplock hout, fun s l hp hl => execPllRefLost_shows hp hl,
    fun s count hp hopen hc => execPllmCeilingTrip_shows hp hopen hc,
    fun s hp hplock hopen hlost hlink => execClkMuteRelease_shows hp hplock hopen hlost hlink⟩
  obtain ⟨hcycles, hworst, -⟩ := (s.phaseHeld_iff .m ph).1 hheld
  exact hno.elim (Nat.not_lt.2 hcycles) (Nat.not_lt.2 hworst)

/-! ### Calibration of PLL-M (R208, R209) -/

/-- A calibration that begins shows as busy and takes PLL-M down. -/
theorem State.calStart_shows (s : State) : s.calStart.flag R.PLLM_CAL_CAL_BUSY = true ∧ s.calStart.flag R.PLL_STATUS_FLOCK 0 = false ∧
    s.calStart.flag R.PLL_STATUS_PLOCK 0 = false ∧ s.calStart.pllmGated = true ∧ SameCore s s.calStart := by
  have hdown : PllmDown gateFlds (s.put R.PLLM_CAL_CAL_BUSY 1) s.calStart := State.pllmOff_down _
  have hbusy : Keeps [R.PLLM_CAL_CAL_BUSY] s (s.put R.PLLM_CAL_CAL_BUSY 1) := (Keeps.refl _ s).put (by decide)
  exact ⟨(hdown.keeps.flag (by decide) 0 0).trans (s.flag_put_same _ _ _ _), hdown.flock, hdown.plock, hdown.gated,
    hbusy.core.trans hdown.keeps.core⟩

theorem execPllmCal_starts {s : State} {who : Initiator} (ht : s.takes who 0x0a080 = true) (hd : s.dev = .ready ∨ s.dev = .held)
    (hidle : s.flag R.PLLM_CAL_CAL_BUSY = false) : exec (.pllmCal who) s = .next s.calStart :=
  congrArg Host.Outcome.next ((State.command_taken _ ht).trans (if_pos (by simp [hd, hidle])))

theorem execPllmCal_ignored {s : State} {who : Initiator} (ht : s.takes who 0x0a080 = true)
    (hno : (s.dev ≠ .ready ∧ s.dev ≠ .held) ∨ s.flag R.PLLM_CAL_CAL_BUSY = true) :
    exec (.pllmCal who) s = .next (s.raise EV_HOST_ERR) := by
  refine congrArg Host.Outcome.next ((State.command_taken _ ht).trans (if_neg ?_))
  rcases hno with ⟨hready, hheld⟩ | hbusy
  · simp [hready, hheld]
  · simp [hbusy]

theorem execPllmBandRetry_starts {s : State} (hp : s.powered = true) (hband : s.flag R.PLLM_BAND_NO_BAND = true)
    (hidle : s.flag R.PLLM_CAL_CAL_BUSY = false) (hd : s.dev ≠ .sleep) : exec .pllmBandRetry s = .next s.calStart :=
  congrArg Host.Outcome.next (if_pos (by simp [hp, hband, hidle, hd]))

/-- Entry n of the band table with its measured range. -/
def State.rangeTaken (s : State) (lo hi n : Nat) : State :=
  ((s.put R.PLLM_BAND_LO_MHZ lo n).put R.PLLM_BAND_HI_MHZ hi n).put R.PLLM_BAND_LO_CAL_VALID 1 n

/-- The registers of a calibration's end, before the loop acquires. -/
def rangeFlds : List Fld := [R.PLLM_CAL_CAL_BUSY, R.PLLM_BAND_LO_MHZ, R.PLLM_BAND_HI_MHZ, R.PLLM_BAND_LO_CAL_VALID]

theorem execPllmCalDone_one {s : State} {lo hi : Nat} (hbusy : s.flag R.PLLM_CAL_CAL_BUSY = true)
    (hen : s.flag R.PLLM_BAND_CFG_EN 0 = true) :
    exec (.pllmCalDone [(lo, hi)]) s = .next ((s.rangeTaken lo hi 0).put R.PLLM_CAL_CAL_BUSY 0).pllmAcquire := by
  show execPllmCalDone [(lo, hi)] s = _
  simp [execPllmCalDone, hbusy, hen, State.rangeTaken]

theorem State.rangeTaken_shows (s : State) (lo hi n : Nat) :
    (s.rangeTaken lo hi n).get R.PLLM_BAND_LO_MHZ n = lo % 2 ^ R.PLLM_BAND_LO_MHZ.width ∧
      (s.rangeTaken lo hi n).get R.PLLM_BAND_HI_MHZ n = hi % 2 ^ R.PLLM_BAND_HI_MHZ.width ∧
      (s.rangeTaken lo hi n).flag R.PLLM_BAND_LO_CAL_VALID n = true := by
  refine ⟨?_, ?_, State.flag_put_same _ _ _ _ _⟩
  · rw [State.rangeTaken, State.get_put_ne _ _ _ _ _ _ (by decide), State.get_put_ne _ _ _ _ _ _ (by decide), State.get_put_same]
  · rw [State.rangeTaken, State.get_put_ne _ _ _ _ _ _ (by decide), State.get_put_same]

theorem execPllmCalDone_shows {s : State} {lo hi : Nat} (hbusy : s.flag R.PLLM_CAL_CAL_BUSY = true)
    (hen : s.flag R.PLLM_BAND_CFG_EN 0 = true) :
    ∃ t, exec (.pllmCalDone [(lo, hi)]) s = .next t ∧ t.flag R.PLLM_CAL_CAL_BUSY = false ∧
      t.get R.PLLM_BAND_LO_MHZ 0 = lo % 2 ^ R.PLLM_BAND_LO_MHZ.width ∧ t.get R.PLLM_BAND_HI_MHZ 0 = hi % 2 ^ R.PLLM_BAND_HI_MHZ.width ∧
      t.flag R.PLLM_BAND_LO_CAL_VALID 0 = true ∧
      RegsOnly [R.PLLM_CAL_CAL_BUSY, R.PLLM_BAND_LO_MHZ, R.PLLM_BAND_HI_MHZ, R.PLLM_BAND_LO_CAL_VALID, R.PLLM_BAND_BAND,
        R.PLLM_BAND_NO_BAND] s t := by
  obtain ⟨hlo, hhi, hvalid⟩ := s.rangeTaken_shows lo hi 0
  have hrange : RegsOnly rangeFlds s (s.rangeTaken lo hi 0) :=
    (((RegsOnly.refl _ s).put (by decide)).put (by decide)).put (by decide)
  have hband := ((s.rangeTaken lo hi 0).put R.PLLM_CAL_CAL_BUSY 0).pllmAcquire_regsOnly
  refine ⟨_, execPllmCalDone_one hbusy hen, (hband.flag (by decide) 0 0).trans (State.flag_put_same _ _ _ _ _),
    (hband.get (by decide)).trans ((State.get_put_ne _ _ _ _ _ _ (by decide)).trans hlo),
    (hband.get (by decide)).trans ((State.get_put_ne _ _ _ _ _ _ (by decide)).trans hhi),
    (hband.flag (by decide) 0 0).trans ((State.flag_put_ne _ _ _ _ _ _ (by decide)).trans hvalid), ?_⟩
  exact ((hrange.put (by decide)).mono (List.subset_append_left rangeFlds bandFlds)).trans
    (hband.mono (List.subset_append_right rangeFlds bandFlds))

/-! ### O33 -/

/-- Settles O33: a calibration begins alike for the host and for want of a band, and its end is the range written and the band chosen. -/
theorem pllmCalRows : Obligations.PllmCalRows := by
  refine ⟨fun s who ht hd hidle => ⟨_, execPllmCal_starts ht hd hidle, s.calStart_shows⟩, fun s who ht hno => execPllmCal_ignored ht hno,
    fun s hp hband hidle hd => ⟨_, execPllmBandRetry_starts hp hband hidle hd, s.calStart_shows⟩,
    fun s lo hi hbusy hen => execPllmCalDone_shows hbusy hen⟩

end Sys2Proof.Machine

/-! PROOFS. Serial audio ports: frames in and out, clock loss and rate groups (O48). -/

namespace Sys2Proof.Machine

/-! ### What a serial port reads (R225 to R242) -/

/-- The registers that say how a serial port's frames look, where they stand in memory, and what stream DMA may reach. -/
def spReadFlds : List Fld :=
  [R.PG_CTRL_EN, R.SP_CFG_MODE, R.SP_CFG_MASTER, R.SP_CFG_RATE, R.SP_CFG_SLOTS, R.SP_CFG_SLOT_W, R.SP_CFG_WORD_W, R.SP_CFG_SDO_IDLE,
   R.SP_RX_MASK_MASK, R.SP_TX_MASK_MASK, R.SI_CFG_SI_MODE, R.SI_CS_TX_CS, R.SP_AREA_BASE_BASE, R.BRACE_SEAT_STATUS_PHASE,
   R.PROT_CTRL_LOCK] ++ protFlds

/-- The serial ports of t are set up as those of s: t differs from s in nothing that a frame looks at but its samples and the ports' own
memory. -/
structure SameSp (s t : State) : Prop where
  role : t.role = s.role
  boot : t.boot = s.boot
  regs : ∀ g ∈ spReadFlds, ∀ i j, t.get g i j = s.get g i j

section
variable {s0 s : State}

theorem SameSp.refl (s : State) : SameSp s s := ⟨rfl, rfl, fun _ _ _ _ => rfl⟩

theorem SameSp.trans {t u : State} (h : SameSp s t) (h' : SameSp t u) : SameSp s u :=
  ⟨h'.role.trans h.role, h'.boot.trans h.boot, fun g hg i j => (h'.regs g hg i j).trans (h.regs g hg i j)⟩

theorem SameSp.put (h : SameSp s0 s) {f : Fld} (hf : ∀ g ∈ spReadFlds, f.base ≠ g.base) {v i j : Nat} : SameSp s0 (s.put f v i j) :=
  { h with regs := fun g hg i' j' => (s.get_put_ne v i j i' j' (hf g hg)).trans (h.regs g hg i' j') }

theorem SameSp.bump (h : SameSp s0 s) {f : Fld} (hf : ∀ g ∈ spReadFlds, f.base ≠ g.base) {i j : Nat} : SameSp s0 (s.bump f i j) := by
  unfold State.bump State.bumpBy
  split
  · exact (h.put hf).put (by decide)
  · exact h.put hf

theorem SameSp.setSp (h : SameSp s0 s) {p : Nat} {x : SpHid} : SameSp s0 (s.setSp p x) := { h with }

theorem SameSp.raise (h : SameSp s0 s) {e : Nat} : SameSp s0 (s.raise e) where
  role := by rw [s.raise_records e, h.role]
  boot := by rw [s.raise_records e, h.boot]
  regs g hg i j :=
    ((s.raise_keeps e).regs g i j fun f hf => (by decide : ∀ g ∈ spReadFlds, ∀ f ∈ eventFlds, f.base ≠ g.base) g hg f hf).trans
    (h.regs g hg i j)

end

section
variable {s t : State} (h : SameSp s t)
include h

theorem SameSp.flag {g : Fld} (hg : g ∈ spReadFlds) (i j : Nat) : t.flag g i j = s.flag g i j := by
  rw [State.flag, h.regs g hg, State.flag]

theorem SameSp.permits (c : Cls) (wr : Bool) (a : Nat) : t.permits c wr a = s.permits c wr a := by
  have hbits (n : Nat) : t.permBits c n = s.permBits c n := by
    cases c with
    | boot => rfl
    | _ => exact h.regs _ (by decide) n 0
  have hin (n : Nat) : t.inRegion n a = s.inRegion n a := by
    simp [State.inRegion, h.flag (g := R.PROT_BASE_VALID) (by decide), h.regs R.PROT_BASE_BASE (by decide),
      h.regs R.PROT_SIZE_PAGES (by decide)]
  simp [State.permits, State.granted, hbits, hin, h.boot, h.regs R.PROT_CTRL_LOCK (by decide)]

theorem SameSp.follows : t.follows = s.follows := by
  simp [State.follows, h.role, h.regs R.BRACE_SEAT_STATUS_PHASE (by decide)]

theorem SameSp.spMode (p : Nat) : t.spMode p = s.spMode p := by
  simp [State.spMode, h.regs R.PG_CTRL_EN (by decide), h.regs R.SP_CFG_MODE (by decide)]

theorem SameSp.spSlots (p : Nat) : t.spSlots p = s.spSlots p := by
  simp [State.spSlots, h.spMode, h.regs R.SP_CFG_SLOTS (by decide)]

theorem SameSp.spDirect (p : Nat) : t.spDirect p = s.spDirect p := by
  simp [State.spDirect, h.flag (g := R.SP_CFG_MASTER) (by decide), h.regs R.SP_CFG_RATE (by decide)]

theorem SameSp.rxSlotsOf (p : Nat) : t.rxSlotsOf p = s.rxSlotsOf p := by
  simp [State.rxSlotsOf, h.spSlots, h.regs R.SP_RX_MASK_MASK (by decide)]

theorem SameSp.siOn (p : Nat) : t.siOn p = s.siOn p := by
  simp [State.siOn, h.flag (g := R.SI_CFG_SI_MODE) (by decide), h.regs R.SP_CFG_SLOT_W (by decide)]

theorem SameSp.slotSample (p w : Nat) : t.slotSample p w = s.slotSample p w := by
  simp [State.slotSample, h.siOn, h.regs R.SP_CFG_SLOT_W (by decide), h.regs R.SP_CFG_WORD_W (by decide)]

theorem SameSp.spRing (p : Nat) : t.spRing p = s.spRing p := by
  simp [State.spRing, h.regs R.SP_AREA_BASE_BASE (by decide)]

theorem SameSp.spInAddr (p x k : Nat) : t.spInAddr p x k = s.spInAddr p x k := by simp [State.spInAddr, h.spRing]

theorem SameSp.spInValid (p x : Nat) : t.spInValid p x = s.spInValid p x := by simp [State.spInValid, h.spRing]

theorem SameSp.spOutAddr (p x k : Nat) : t.spOutAddr p x k = s.spOutAddr p x k := by simp [State.spOutAddr, h.spRing]

/-- The slots of an output frame look at the port's block counter besides. -/
theorem SameSp.spOutSlots {p : Nat} (hframe : (t.spPort p).txFrame = (s.spPort p).txFrame) (x : Nat) (slots : List Nat) (zero : Bool)
    (vals : List Int) : t.spOutSlots p x slots zero vals = s.spOutSlots p x slots zero vals := by
  simp only [State.spOutSlots, State.siWord, State.slotWord, h.spDirect, h.spSlots, h.siOn, hframe,
    h.flag (g := R.SP_CFG_SDO_IDLE) (by decide), h.regs R.SI_CS_TX_CS (by decide), h.regs R.SP_CFG_SLOT_W (by decide),
    h.regs R.SP_CFG_WORD_W (by decide)]

end

/-! ### The memory of a port -/

@[simp] theorem State.spPort_setSp (s : State) (p : Nat) (x : SpHid) : (s.setSp p x).spPort p = x := by
  simp [State.spPort, State.setSp]

@[simp] theorem State.get_setSp (s : State) (p : Nat) (x : SpHid) (f : Fld) (i j : Nat) : (s.setSp p x).get f i j = s.get f i j := rfl

@[simp] theorem State.flag_setSp (s : State) (p : Nat) (x : SpHid) (f : Fld) (i j : Nat) : (s.setSp p x).flag f i j = s.flag f i j := rfl

theorem State.spPort_congr {s t : State} (h : t.serial.ports = s.serial.ports) (p : Nat) : t.spPort p = s.spPort p := by
  rw [State.spPort, h, State.spPort]

theorem RecordsOnly.serial {s t : State} (h : RecordsOnly s t) : t.serial = s.serial := by rw [h]

theorem RegsOnly.serial {l : List Fld} {s t : State} (h : RegsOnly l s t) : t.serial = s.serial := by
  obtain ⟨heq, -⟩ := h
  rw [heq]

theorem State.spMasks_none {s : State} {p : Nat} (h : (s.spPort p).masks = []) (b : Nat) :
    s.spMasks p b = (s.get R.SP_RX_MASK_MASK p, s.get R.SP_TX_MASK_MASK p) := by
  simp [State.spMasks, h]

theorem State.spOutMask_none {s : State} {p : Nat} (h : (s.spPort p).masks = []) (b : Nat) :
    maskSlots (s.spMasks p b).2 (s.spSlots p) = s.txSlotsOf p := by
  rw [State.spMasks_none h, State.txSlotsOf]

theorem State.spGoverned_none {s : State} {p : Nat} (h : (s.spPort p).maskWait = none) (b : Nat) : s.spGoverned p b = s := by
  simp [State.spGoverned, h]

/-! ### One sample stored (R226, R232, R233) -/

theorem State.lt_of_mem_rxSlotsOf {s : State} {p k : Nat} (h : k ∈ s.rxSlotsOf p) : k < 32 := by
  simp only [State.rxSlotsOf, maskSlots, List.mem_filter, List.mem_range] at h
  omega

theorem toTwos_lt (w : Nat) (x : Int) : toTwos w x < 2 ^ w := by
  have hp : (0 : Int) < (2 ^ w : Nat) := by exact_mod_cast Nat.two_pow_pos w
  have h0 := Int.emod_nonneg x hp.ne'
  have h1 := Int.emod_lt_of_pos x hp
  unfold toTwos
  omega

/-- A word is what its four bytes are. -/
theorem State.word_of_bytes {s t : State} {a : Nat} (h : ∀ x, a ≤ x → x < a + 4 → t.byte x = s.byte x) : t.word a = s.word a := by
  simp [State.word, State.le, State.bytes, h a (by omega) (by omega), h (a + 1) (by omega) (by omega), h (a + 1 + 1) (by omega) (by omega),
    h (a + 1 + 1 + 1) (by omega) (by omega)]

section
variable {s : State} {p x k : Nat} {v : Int}

theorem State.spStore_eq (ha : s.permits .sdma true (s.spInAddr p x k) = true) (hv : s.permits .sdma true (s.spInValid p x) = true) :
    s.spStore p x k v = (s.setWord (s.spInAddr p x k) (toTwos 32 v)).setWord (s.spInValid p x)
      (setBit ((s.setWord (s.spInAddr p x k) (toTwos 32 v)).word (s.spInValid p x)) k true) := by
  have hsame : SameSp s (s.setWord (s.spInAddr p x k) (toTwos 32 v)) := ⟨by simp, by simp, by simp⟩
  simp [State.spStore, ha, hv, hsame.spInValid]

/-- The sample stands at its index with its valid bit, and no other byte has changed. -/
theorem State.spStore_stores (hk : k < 32) (ha : s.permits .sdma true (s.spInAddr p x k) = true)
    (hv : s.permits .sdma true (s.spInValid p x) = true) : let t := s.spStore p x k v
    t.word (s.spInAddr p x k) = toTwos 32 v ∧ t.spValid p x k = true ∧
    ∀ a, (a < s.spInAddr p x k ∨ s.spInAddr p x k + 4 ≤ a) → (a < s.spInValid p x ∨ s.spInValid p x + 4 ≤ a) → t.byte a = s.byte a := by
  intro t
  have ht : t = _ := State.spStore_eq ha hv
  have hsame : SameSp s t := by
    rw [ht]
    exact ⟨by simp, by simp, by simp⟩
  have hapart : s.spInAddr p x k + 4 ≤ s.spInValid p x := by
    unfold State.spInAddr State.spInValid
    omega
  refine ⟨?_, ?_, fun a h1 h2 => ?_⟩
  · rw [ht, State.word_of_bytes fun a _ _ => State.byte_setWord_out _ _ _ _ (by omega), State.word_setWord_same,
      Nat.mod_eq_of_lt (toTwos_lt 32 v)]
  · rw [State.spValid, hsame.spInValid, ht, State.word_setWord_same, bitAt_eq_testBit, Nat.testBit_mod_two_pow, ← bitAt_eq_testBit,
      bitAt_setBit_same]
    simpa using hk
  · rw [ht, State.byte_setWord_out _ _ _ _ h2, State.byte_setWord_out _ _ _ _ h1]

end

/-! ### The mutes that a governed frame ends (R241) -/

/-- Between s and t at most the ports' channel pairs and their bits in SI_STATUS differ. -/
def PairsOnly (s t : State) : Prop :=
  RegsOnly [R.SI_STATUS_NONAUDIO] { s with serial := { s.serial with pairs := t.serial.pairs } } t

theorem PairsOnly.refl (s : State) : PairsOnly s s := RegsOnly.refl _ s

theorem PairsOnly.setSi {s t : State} (h : PairsOnly s t) {p k : Nat} {x : SiPair} : PairsOnly s (t.setSi p k x) := by
  obtain ⟨heq, hregs⟩ := h
  exact ⟨congrArg (fun u : State => u.setSi p k x) heq, hregs⟩

theorem PairsOnly.siMute {s t : State} (h : PairsOnly s t) {p k n : Nat} : PairsOnly s (t.siMute p k n) :=
  RegsOnly.put h.setSi (by decide)

theorem State.siEndAll_pairs (s : State) (p began : Nat) : PairsOnly s (s.siEndAll p began) := by
  unfold State.siEndAll
  split
  · exact PairsOnly.refl s
  · refine State.each_rec (P := fun _ => PairsOnly s) (PairsOnly.refl s) fun k t _ ht => ?_
    split
    · have htick : PairsOnly s (t.siTick p k t.tickNum) := by
        unfold State.siTick
        dsimp only
        split
        · exact ht
        · exact ht.setSi
      unfold State.siEnd
      split
      · exact htick.setSi.siMute
      · exact htick
    · exact ht

/-- No mute waits for its end where the port is direct or no pair has one to come. -/
theorem State.siEndAll_idle {s : State} {p : Nat} (h : s.spDirect p = true ∨ ∀ k, k < 16 → (s.siPair p k).endAt = none) (began : Nat) :
    s.siEndAll p began = s := by
  unfold State.siEndAll
  rcases h with hd | hnone
  · rw [if_pos hd]
  · split
    · rfl
    · exact State.each_rec (P := fun _ t => t = s) rfl fun k t hk ht => by simp [ht, hnone k hk]

/-! ### Input frames (R228, R231, R236, R239) -/

/-- The state once a frame has been measured. -/
def State.spRated (s : State) (f : SpFrame) : State := s.put R.SP_RATE_MEAS_RATE f.rate f.port.val

theorem State.spRated_same (s : State) (f : SpFrame) : SameSp s (s.spRated f) := (SameSp.refl s).put (by decide)

/-- The state once a frame of a wrong length has been measured and counted. -/
def State.spMiscounted (s : State) (f : SpFrame) : State := (s.spRated f).bump R.FRAME_ERR_CNT f.port.val

theorem State.spMiscounted_same (s : State) (f : SpFrame) : SameSp s (s.spMiscounted f) := (s.spRated_same f).bump (by decide)

theorem State.spMiscounted_regsOnly (s : State) (f : SpFrame) :
    RegsOnly [R.SP_RATE_MEAS_RATE, R.FRAME_ERR_CNT, R.PG_STATUS_SAT_SEEN] s (s.spMiscounted f) :=
  ((RegsOnly.refl _ s).put (by decide)).bump (by decide) (by decide)

/-- The state once a frame has found room, before its slots are stored. -/
def State.spTaken (s : State) (p : Nat) : State :=
  (s.setSp p { s.spPort p with ovrRun := false }).put R.SP_STATUS_CLK_PRESENT (b2n (!s.flag R.SP_CFG_MASTER p)) p

theorem State.spTaken_same (s : State) (p : Nat) : SameSp s (s.spTaken p) := (SameSp.refl s).setSp.put (by decide)

section
variable {s : State} {f : SpFrame} (ht : s.ticking = true) (hrun : s.get R.SP_STATUS_STATE f.port.val = 3)
  (hwait : (s.spPort f.port.val).maskWait = none)
include ht hrun hwait

/-- In RUN a frame of the right length, or of a master, is taken by the overrun rule. -/
theorem execSpFrameRx_takes (hbegan : (s.spPort f.port.val).notBefore ≤ f.began)
    (hgood : s.flag R.SP_CFG_MASTER f.port.val = true ∨ f.lengthOk = true) :
    exec (.spFrameRx f) s = .next (((s.spRated f).siEndAll f.port.val f.began).spTake f) := by
  have hgov : (s.spRated f).spGoverned f.port.val f.began = s.spRated f := State.spGoverned_none (s := s.spRated f) hwait _
  have hnot : ((s.spRated f).spPort f.port.val).notBefore ≤ f.began := hbegan
  have hbad : (!s.flag R.SP_CFG_MASTER f.port.val && !f.lengthOk) = false := by
    rcases hgood with h | h <;> simp [h]
  show execSpFrameRx f s = _
  rw [State.spRated] at hgov hnot ⊢
  simp [execSpFrameRx, State.spFrameIn, ht, hrun, hbad, hgov, hnot]

/-- In RUN a frame of a wrong length that ends no mute is counted, and nothing else comes of it. -/
theorem execSpFrameRx_bad (hslave : s.flag R.SP_CFG_MASTER f.port.val = false) (hlen : f.lengthOk = false)
    (hmute : s.spDirect f.port.val = true ∨ ∀ k, k < 16 → (s.siPair f.port.val k).endAt = none) :
    exec (.spFrameRx f) s = .next (s.spMiscounted f) := by
  have hserial := (s.spMiscounted_regsOnly f).serial
  have hgov : (s.spMiscounted f).spGoverned f.port.val f.began = s.spMiscounted f :=
    State.spGoverned_none ((congrArg SpHid.maskWait (State.spPort_congr (congrArg _ hserial) _)).trans hwait) _
  have hend : (s.spMiscounted f).siEndAll f.port.val f.began = s.spMiscounted f := State.siEndAll_idle (by
    simp only [(s.spMiscounted_same f).spDirect, State.siPair, hserial]
    exact hmute) _
  show execSpFrameRx f s = _
  simp only [State.spMiscounted, State.spRated] at hgov hend
  simp [execSpFrameRx, State.spFrameIn, State.spMiscounted, State.spRated, ht, hrun, hslave, hlen, hgov, hend]

end

section
variable {s : State} {f : SpFrame} {k : Nat} {w : Word} (hdirect : s.spDirect f.port.val = true) (hroom : f.waiting < 4)
  (hmasks : (s.spPort f.port.val).masks = []) (hfollows : s.follows = false) (hsi : s.siOn f.port.val = false)
  (hslots : s.rxSlotsOf f.port.val = [k]) (hw : f.slots[k]? = some w)
include hdirect hroom hmasks hfollows hsi hslots hw

/-- A frame that a direct port takes is stored slot by slot; here it has one. -/
theorem State.spTake_stores : s.spTake f = (s.spTaken f.port.val).spStore f.port.val f.began k (s.slotSample f.port.val w.toNat) := by
  have hfull : ¬ 4 ≤ f.waiting := by omega
  let u := s.setSp f.port.val { s.spPort f.port.val with ovrRun := false }
  have hu : SameSp s u := (SameSp.refl s).setSp
  have hmask : u.spMasks f.port.val f.began = _ := State.spMasks_none (by simp [u, hmasks]) _
  have hset : maskSlots (u.spMasks f.port.val f.began).1 (u.spSlots f.port.val) = [k] := by
    rw [hmask, ← hslots, ← hu.rxSlotsOf]
    rfl
  have ht := s.spTaken_same f.port.val
  rw [State.spTake]
  dsimp only
  rw [if_neg hfull, hset]
  have hframe : (s.spTaken f.port.val).siFrame f.port.val [k] f.slots = s.spTaken f.port.val := by
    simp [State.siFrame, ht.siOn, hsi]
  have hwrite : (s.spTaken f.port.val).spWrite f.port.val f [k] =
      (s.spTaken f.port.val).spStore f.port.val f.began k (s.slotSample f.port.val w.toNat) := by
    simp [State.spWrite, State.siHidden, State.siSlot, ht.follows, ht.spDirect, ht.siOn, ht.slotSample, hfollows, hdirect, hsi, hw]
  exact (congrArg (fun v : State => v.spWrite f.port.val f [k]) hframe).trans hwrite

end

/-- A frame too many, or one that wants a sample: counted, with its bit, and told of at the first of a run (R238, R239). -/
def State.frameMissed (s : State) (cnt bit : Fld) (p e : Nat) (again : Bool) : State :=
  let t := (s.bump cnt p).put bit 1 p
  if again then t else t.raise e

theorem State.spOverrun_eq (s : State) (p : Nat) : s.spOverrun p =
    (s.setSp p { s.spPort p with ovrRun := true }).frameMissed R.SP_OVERRUN_CNT R.SP_STATUS_OVERRUN p EV_PORT_OVERRUN (s.spPort p).ovrRun :=
  rfl

theorem State.spUnderrun_eq (s : State) (p : Nat) : s.spUnderrun p =
    (s.setSp p { s.spPort p with undRun := true }).frameMissed R.SP_UNDERRUN_CNT R.SP_STATUS_UNDERRUN p EV_PORT_UNDERRUN
      (s.spPort p).undRun := rfl

section
variable (s : State) {cnt bit : Fld} (p e : Nat) (again : Bool)

theorem State.frameMissed_records : RecordsOnly s (s.frameMissed cnt bit p e again) :=
  RecordsOnly.ite (RecordsOnly.refl s).bump.put (RecordsOnly.refl s).bump.put.raise

theorem State.frameMissed_same (hc : ∀ g ∈ spReadFlds, cnt.base ≠ g.base) (hb : ∀ g ∈ spReadFlds, bit.base ≠ g.base) :
    SameSp s (s.frameMissed cnt bit p e again) := by
  have h : SameSp s ((s.bump cnt p).put bit 1 p) := ((SameSp.refl s).bump hc).put hb
  unfold State.frameMissed
  dsimp only
  split
  · exact h
  · exact h.raise

theorem State.frameMissed_shows (hbit : bit.width = 1) (hne : bit.base ≠ cnt.base) (hb : ∀ f ∈ eventFlds, f.base ≠ bit.base)
    (hc : ∀ f ∈ eventFlds, f.base ≠ cnt.base) : let t := s.frameMissed cnt bit p e again
    t.flag bit p = true ∧ t.get cnt p = min (s.get cnt p + 1) (2 ^ cnt.width - 1) ∧ (again = false → t.sticky e = true) ∧
      (again = true → t.mem = s.mem) := by
  intro t
  have hsat : cnt.base ≠ R.PG_STATUS_SAT_SEEN.base := (hc R.PG_STATUS_SAT_SEEN (by decide)).symm
  have hkeeps : Keeps eventFlds ((s.bump cnt p).put bit 1 p) t :=
    Keeps.ite (Keeps.refl _ _) ((Keeps.refl _ _).raise (List.Subset.refl _))
  refine ⟨?_, ?_, fun h => ?_, fun h => ?_⟩
  · rw [hkeeps.flag hb, State.flag_put_same, hbit]
    rfl
  · rw [hkeeps.regs _ _ _ hc, State.get_put_ne _ _ _ _ _ _ hne, State.get_bump_same _ _ _ _ hsat]
  · rw [show t = _ from if_neg (by simp [h])]
    exact State.sticky_raise_same _ _
  · rw [show t = _ from if_pos h, State.put_mem, State.bump, State.bumpBy_eq]

end

theorem State.spUnderrun_same (s : State) {p : Nat} : SameSp s (s.spUnderrun p) := by
  have h : SameSp s (s.setSp p { s.spPort p with undRun := true }) := (SameSp.refl s).setSp
  exact h.trans (State.frameMissed_same _ _ _ _ (by decide) (by decide))

theorem State.spUnderrun_txFrame (s : State) {p : Nat} : ((s.spUnderrun p).spPort p).txFrame = (s.spPort p).txFrame := by
  rw [State.spUnderrun_eq, State.spPort_congr (congrArg _ (State.frameMissed_records _ _ _ _).serial), State.spPort_setSp]

section
variable {s : State} {f : SpFrame} (ht : s.ticking = true) (hrun : s.get R.SP_STATUS_STATE f.port.val = 3)
  (hwait : (s.spPort f.port.val).maskWait = none)
include ht hrun hwait

/-- A frame of one slot that a direct port takes stands in its ring. -/
theorem execSpFrameRx_stores {k : Nat} {w : Word} (hdirect : s.spDirect f.port.val = true) (hroom : f.waiting < 4)
    (hbegan : (s.spPort f.port.val).notBefore ≤ f.began) (hmasks : (s.spPort f.port.val).masks = []) (hfollows : s.follows = false)
    (hsi : s.siOn f.port.val = false) (hslots : s.rxSlotsOf f.port.val = [k]) (hw : f.slots[k]? = some w)
    (ha : s.permits .sdma true (s.spInAddr f.port.val f.began k) = true)
    (hv : s.permits .sdma true (s.spInValid f.port.val f.began) = true) :
    ∃ t, exec (.spFrameRx f) s = .next t ∧ t.word (s.spInAddr f.port.val f.began k) = toTwos 32 (s.slotSample f.port.val w.toNat) ∧
      t.spValid f.port.val f.began k = true ∧
      ∀ a, (a < s.spInAddr f.port.val f.began k ∨ s.spInAddr f.port.val f.began k + 4 ≤ a) →
        (a < s.spInValid f.port.val f.began ∨ s.spInValid f.port.val f.began + 4 ≤ a) → t.byte a = s.byte a := by
  have hrated := s.spRated_same f
  have hsame : SameSp s ((s.spRated f).spTaken f.port.val) := hrated.trans ((s.spRated f).spTaken_same _)
  have hmaster : s.flag R.SP_CFG_MASTER f.port.val = true := by
    rw [State.spDirect, Bool.and_eq_true] at hdirect
    exact hdirect.1
  have hexec := execSpFrameRx_takes ht hrun hwait hbegan (.inl hmaster)
  rw [State.siEndAll_idle (.inl (by rw [hrated.spDirect, hdirect])), State.spTake_stores (s := s.spRated f) (by rw [hrated.spDirect, hdirect])
    hroom hmasks (by rw [hrated.follows, hfollows]) (by rw [hrated.siOn, hsi]) (by rw [hrated.rxSlotsOf, hslots]) hw, hrated.slotSample] at hexec
  have hk : k < 32 := State.lt_of_mem_rxSlotsOf (s := s) (p := f.port.val) (by simp [hslots])
  have hstore := State.spStore_stores (s := (s.spRated f).spTaken f.port.val) (v := s.slotSample f.port.val w.toNat) hk
    (by rw [hsame.permits, hsame.spInAddr, ha]) (by rw [hsame.permits, hsame.spInValid, hv])
  rw [hsame.spInAddr, hsame.spInValid] at hstore
  exact ⟨_, hexec, hstore⟩

theorem execSpFrameRx_miscounts (hslave : s.flag R.SP_CFG_MASTER f.port.val = false) (hlen : f.lengthOk = false)
    (hmute : s.spDirect f.port.val = true ∨ ∀ k, k < 16 → (s.siPair f.port.val k).endAt = none) :
    ∃ t, exec (.spFrameRx f) s = .next t ∧
      t.get R.FRAME_ERR_CNT f.port.val = min (s.get R.FRAME_ERR_CNT f.port.val + 1) (2 ^ R.FRAME_ERR_CNT.width - 1) ∧
      RegsOnly [R.SP_RATE_MEAS_RATE, R.FRAME_ERR_CNT, R.PG_STATUS_SAT_SEEN] s t := by
  refine ⟨_, execSpFrameRx_bad ht hrun hwait hslave hlen hmute, ?_, s.spMiscounted_regsOnly f⟩
  rw [State.spMiscounted, State.get_bump_same _ _ _ _ (by decide), State.spRated, State.get_put_ne _ _ _ _ _ _ (by decide)]

/-- A frame that completes with four waiting is dropped. -/
theorem execSpFrameRx_overruns (hlen : f.lengthOk = true) (hfull : 4 ≤ f.waiting) (hbegan : (s.spPort f.port.val).notBefore ≤ f.began) :
    ∃ t, exec (.spFrameRx f) s = .next t ∧ t.flag R.SP_STATUS_OVERRUN f.port.val = true ∧
      t.get R.SP_OVERRUN_CNT f.port.val = min (s.get R.SP_OVERRUN_CNT f.port.val + 1) (2 ^ R.SP_OVERRUN_CNT.width - 1) ∧
      ((s.spPort f.port.val).ovrRun = false → t.sticky EV_PORT_OVERRUN = true) ∧
      ((s.spPort f.port.val).ovrRun = true → t.mem = s.mem) := by
  let u := (s.spRated f).siEndAll f.port.val f.began
  obtain ⟨heq, hregs⟩ : PairsOnly (s.spRated f) u := (s.spRated f).siEndAll_pairs _ _
  have hport : u.spPort f.port.val = s.spPort f.port.val := by
    rw [State.spPort, heq]
    rfl
  have hmem : u.mem = s.mem := by
    rw [heq]
    rfl
  have hcnt : u.get R.SP_OVERRUN_CNT f.port.val = s.get R.SP_OVERRUN_CNT f.port.val :=
    (hregs _ _ _ (by decide)).trans (State.get_put_ne _ _ _ _ _ _ (by decide))
  have hexec : exec (.spFrameRx f) s = .next (u.spOverrun f.port.val) :=
    (execSpFrameRx_takes ht hrun hwait hbegan (.inr hlen)).trans (congrArg _ (if_pos hfull))
  obtain ⟨hflag, hget, hsticky, hkept⟩ := State.frameMissed_shows (cnt := R.SP_OVERRUN_CNT) (bit := R.SP_STATUS_OVERRUN)
    (u.setSp f.port.val { u.spPort f.port.val with ovrRun := true }) f.port.val EV_PORT_OVERRUN (u.spPort f.port.val).ovrRun rfl (by decide)
    (by decide) (by decide)
  rw [← State.spOverrun_eq] at hflag hget hsticky hkept
  rw [hport] at hsticky hkept
  exact ⟨_, hexec, hflag, hget.trans (by rw [State.get_setSp, hcnt]), hsticky, fun h => (hkept h).trans hmem⟩

end

/-! ### Output frames (R226, R235, R238) -/

theorem State.dmaTake_permitted {s : State} {a : Nat} (h : s.permits .sdma false a = true) : s.dmaTake a = (s.word a, s) := if_pos h

/-- What a direct port reads for an output frame whose set slots stream DMA may all read. -/
theorem State.spOutVals_direct {s : State} {p x : Nat} {slots : List Nat} (hdirect : s.spDirect p = true)
    (h : ∀ k ∈ slots, s.permits .sdma false (s.spOutAddr p x k) = true) :
    s.spOutVals p x slots = (slots.map fun k => s.sample (s.spOutAddr p x k), s) := by
  induction slots using List.reverseRecOn with
  | nil => simp [State.spOutVals, hdirect]
  | append_singleton l k ih =>
    have hl := ih fun j hj => h j (by simp [hj])
    simp only [State.spOutVals, if_pos hdirect] at hl ⊢
    rw [List.foldl_append, hl]
    simp [State.dmaTake_permitted (h k (by simp)), State.sample]

/-- The state once a port has what an output frame needs. -/
def State.spFed (s : State) (p : Nat) : State := s.setSp p { s.spPort p with undRun := false }

@[simp] theorem State.spFed_wire (s : State) (p : Nat) : (s.spFed p).wire = s.wire := rfl

@[simp] theorem State.spFed_txFrame (s : State) (p : Nat) : ((s.spFed p).spPort p).txFrame = (s.spPort p).txFrame := by simp [State.spFed]

@[simp] theorem State.spFed_regs (s : State) (p : Nat) : (s.spFed p).regs = s.regs := rfl

theorem State.spFed_same (s : State) (p : Nat) : SameSp s (s.spFed p) := (SameSp.refl s).setSp

/-- The block counter of an output one on. -/
def State.spNext (s : State) (p : Nat) : State := s.setSp p { s.spPort p with txFrame := (s.spPort p).txFrame + 1 }

/-- A frame with these slots sent, and the word at a, which holds its index's valid bits, cleared. -/
def State.spSent (s : State) (p : Nat) (slots : List (Option Nat)) (a : Nat) : State := (s.send (.spFrame p slots)).setWord a 0

section
variable (s : State) (p : Nat) (slots : List (Option Nat)) (a : Nat)

@[simp] theorem State.spSent_wire : (s.spSent p slots a).wire = .spFrame p slots :: s.wire := State.setWord_wire _ _ _

@[simp] theorem State.spSent_regs : (s.spSent p slots a).regs = s.regs := State.setWord_regs _ _ _

@[simp] theorem State.spSent_word : (s.spSent p slots a).word a = 0 := State.word_setWord_same _ _ 0

@[simp] theorem State.spNext_wire : (s.spNext p).wire = s.wire := rfl

@[simp] theorem State.spNext_regs : (s.spNext p).regs = s.regs := rfl

@[simp] theorem State.spNext_word : (s.spNext p).word a = s.word a := State.word_congr rfl a

end

section
variable {s : State} {p : Fin 8} {x : Nat} (ht : s.ticking = true) (hbegan : (s.spPort p.val).notBefore ≤ s.spBegin p.val x)
  (hmasks : (s.spPort p.val).masks = []) (hwait : (s.spPort p.val).maskWait = none)
  (hread : s.permits .sdma false (s.spOutValid p.val x) = true)
include ht hbegan hmasks hwait hread

/-- In ZERO a frame goes out as zero. -/
theorem execSpFrameTxStart_zero (hzero : s.get R.SP_STATUS_STATE p.val = 2) : exec (.spFrameTxStart p x) s =
    .next ((s.spFed p.val).spSent p.val (s.spOutSlots p.val x (s.txSlotsOf p.val) true []) (s.spOutValid p.val x)) := by
  rw [← (s.spFed_same p.val).spOutSlots (s.spFed_txFrame p.val)]
  show execSpFrameTxStart p x s = _
  simp [execSpFrameTxStart, State.spFrameOut, State.spGoverned_none hwait, State.spOutMask_none hmasks, State.dmaTake_permitted hread,
    ht, hzero, Nat.not_lt.2 hbegan, State.spSent, State.spFed]

variable (hrun : s.get R.SP_STATUS_STATE p.val = 3) (hseating : s.role ≠ .seating) (hcold : s.role ≠ .coldStart)
  (hsettling : s.settling = false) (hdirect : s.spDirect p.val = true)
include hrun hseating hcold hsettling hdirect

/-- In RUN a direct port sends what its ring holds, or zero where a sample is missing. -/
theorem execSpFrameTxStart_runs {missing : Bool}
    (hany : ((s.txSlotsOf p.val).any fun k => !bitAt (s.word (s.spOutValid p.val x)) k) = missing) :
    let t := if missing then s.spUnderrun p.val else s.spFed p.val
    let r := if missing then ([], t) else t.spOutVals p.val x (s.txSlotsOf p.val)
    exec (.spFrameTxStart p x) s =
      .next ((r.2.spSent p.val (r.2.spOutSlots p.val x (s.txSlotsOf p.val) missing r.1) (s.spOutValid p.val x)).spNext p.val) := by
  have hquiet : (s.role == .seating || s.role == .coldStart || s.settling) = false := by simp [hseating, hcold, hsettling]
  have hlocked : s.spLocked p.val = true := by simp [State.spLocked, hdirect]
  have hnot : decide (s.spBegin p.val x < (s.spPort p.val).notBefore) = false := by simpa using hbegan
  show Host.Outcome.next (if s.ticking then s.spFrameOut p.val x else s) = _
  rw [if_pos ht, State.spFrameOut]
  simp only [State.spGoverned_none hwait, State.spOutMask_none hmasks, State.dmaTake_permitted hread, hrun, hany, hquiet, hlocked, hnot]
  cases missing
  · rfl
  · rfl

theorem execSpFrameTxStart_missing {k : Nat} (hk : k ∈ s.txSlotsOf p.val) (hbit : bitAt (s.word (s.spOutValid p.val x)) k = false) :
    exec (.spFrameTxStart p x) s = .next (((s.spUnderrun p.val).spSent p.val (s.spOutSlots p.val x (s.txSlotsOf p.val) true [])
      (s.spOutValid p.val x)).spNext p.val) := by
  rw [← s.spUnderrun_same.spOutSlots s.spUnderrun_txFrame]
  exact execSpFrameTxStart_runs ht hbegan hmasks hwait hread hrun hseating hcold hsettling hdirect
    (List.any_eq_true.2 ⟨k, hk, by simp [hbit]⟩)

theorem execSpFrameTxStart_present (hall : ∀ k ∈ s.txSlotsOf p.val, bitAt (s.word (s.spOutValid p.val x)) k = true ∧
      s.permits .sdma false (s.spOutAddr p.val x k) = true) : exec (.spFrameTxStart p x) s =
    .next (((s.spFed p.val).spSent p.val (s.spOutSlots p.val x (s.txSlotsOf p.val) false
      ((s.txSlotsOf p.val).map fun k => s.sample (s.spOutAddr p.val x k))) (s.spOutValid p.val x)).spNext p.val) := by
  have hsame := s.spFed_same p.val
  have hvals : (s.spFed p.val).spOutVals p.val x (s.txSlotsOf p.val) =
      ((s.txSlotsOf p.val).map fun k => s.sample (s.spOutAddr p.val x k), s.spFed p.val) :=
    State.spOutVals_direct (by rw [hsame.spDirect, hdirect]) fun k hk => by rw [hsame.permits, hsame.spOutAddr, (hall k hk).2]
  have hruns := execSpFrameTxStart_runs ht hbegan hmasks hwait hread hrun hseating hcold hsettling hdirect (missing := false)
    (by simpa using fun k hk => (hall k hk).1)
  simp only [Bool.false_eq_true, if_false, hvals] at hruns
  rw [hruns, hsame.spOutSlots (s.spFed_txFrame p.val)]

end

section
variable {s : State} {p : Fin 8} {x : Nat} (ht : s.ticking = true) (hbegan : (s.spPort p.val).notBefore ≤ s.spBegin p.val x)
  (hmasks : (s.spPort p.val).masks = []) (hwait : (s.spPort p.val).maskWait = none)
  (hread : s.permits .sdma false (s.spOutValid p.val x) = true) (hrun : s.get R.SP_STATUS_STATE p.val = 3) (hseating : s.role ≠ .seating)
  (hcold : s.role ≠ .coldStart) (hsettling : s.settling = false) (hdirect : s.spDirect p.val = true)
include ht hbegan hmasks hwait hread hrun hseating hcold hsettling hdirect

/-- An index whose samples are all there goes out, and its valid bits clear. -/
theorem execSpFrameTxStart_sends (hall : ∀ k ∈ s.txSlotsOf p.val, bitAt (s.word (s.spOutValid p.val x)) k = true ∧
      s.permits .sdma false (s.spOutAddr p.val x k) = true) :
    ∃ t, exec (.spFrameTxStart p x) s = .next t ∧
      t.wire = .spFrame p.val (s.spOutSlots p.val x (s.txSlotsOf p.val) false
        ((s.txSlotsOf p.val).map (fun k => s.sample (s.spOutAddr p.val x k)))) :: s.wire ∧
      t.word (s.spOutValid p.val x) = 0 ∧ t.regs = s.regs := by
  refine ⟨_, execSpFrameTxStart_present ht hbegan hmasks hwait hread hrun hseating hcold hsettling hdirect hall, ?_, ?_, ?_⟩
  · rw [State.spNext_wire, State.spSent_wire, State.spFed_wire]
  · rw [State.spNext_word, State.spSent_word]
  · rw [State.spNext_regs, State.spSent_regs, State.spFed_regs]

/-- An index that wants a sample goes out as zero. -/
theorem execSpFrameTxStart_underruns {k : Nat} (hk : k ∈ s.txSlotsOf p.val) (hbit : bitAt (s.word (s.spOutValid p.val x)) k = false) :
    ∃ t, exec (.spFrameTxStart p x) s = .next t ∧
      t.wire = .spFrame p.val (s.spOutSlots p.val x (s.txSlotsOf p.val) true []) :: s.wire ∧
      t.flag R.SP_STATUS_UNDERRUN p.val = true ∧
      t.get R.SP_UNDERRUN_CNT p.val = min (s.get R.SP_UNDERRUN_CNT p.val + 1) (2 ^ R.SP_UNDERRUN_CNT.width - 1) := by
  let u := s.setSp p.val { s.spPort p.val with undRun := true }
  obtain ⟨hflag, hget, -, -⟩ := State.frameMissed_shows (cnt := R.SP_UNDERRUN_CNT) (bit := R.SP_STATUS_UNDERRUN) u p.val EV_PORT_UNDERRUN
    (s.spPort p.val).undRun rfl (by decide) (by decide) (by decide)
  have hwire : (s.spUnderrun p.val).wire = s.wire := (State.frameMissed_records u p.val EV_PORT_UNDERRUN (s.spPort p.val).undRun).wire
  rw [← State.spUnderrun_eq] at hflag hget
  have hregs (f : Fld) (i j : Nat) (slots : List (Option Nat)) (a : Nat) :
      (((s.spUnderrun p.val).spSent p.val slots a).spNext p.val).get f i j = (s.spUnderrun p.val).get f i j :=
    State.get_congr (by simp) f i j
  refine ⟨_, execSpFrameTxStart_missing ht hbegan hmasks hwait hread hrun hseating hcold hsettling hdirect hk hbit, ?_, ?_, ?_⟩
  · rw [State.spNext_wire, State.spSent_wire, hwire]
  · rw [State.flag, hregs, ← State.flag, hflag]
  · rw [hregs, hget, State.get_setSp]

end

/-! ### The lock of a rate group (R248) -/

/-- The registers that show the lock of the rate groups. -/
def groupFlds : List Fld := [R.ASRC_GRP_STATUS_LOCK, R.ASRC_LOCK_LOCK, R.ASRC_LOCK_CHG_CHG, R.STRX_STAT0_ASRC_LOCK]

/-- The lock of a group as its registers and those of its entries show it. -/
def State.groupShown (s : State) (g : Nat) (on : Bool) : State :=
  (((s.put R.ASRC_GRP_STATUS_LOCK (b2n on) g).putBit R.ASRC_LOCK_LOCK g on).putBit R.ASRC_LOCK_CHG_CHG g true).each 512 fun u n =>
    if u.get R.STRX_ENTRY3_RATE n != 0 && u.get R.STRX_ENTRY3_ASRC_GROUP n == g then u.asrcLockShow n else u

/-- The tick in which a group lost its lock is noted (R248). -/
def State.groupNoted (s : State) (g : Nat) : State :=
  { s with serial := { s.serial with unlockAt := Sparse.put 0 s.serial.unlockAt g (s.tg + 1) } }

section
variable {s : State} {g : Nat} {on : Bool}

theorem State.asrcSet_kept (h : s.flag R.ASRC_GRP_STATUS_LOCK g = on) : s.asrcSet g on = s := if_pos h

theorem State.asrcSet_locks (h : s.flag R.ASRC_GRP_STATUS_LOCK g = false) : s.asrcSet g true = s.groupShown g true := by
  simp [State.asrcSet, h, State.groupShown]

theorem State.asrcSet_unlocks (h : s.flag R.ASRC_GRP_STATUS_LOCK g = true) :
    s.asrcSet g false = (((s.groupShown g false).groupNoted g).bump R.ASRC_GRP_UNLOCK_CNT g).raise EV_ASRC_UNLOCK := by
  simp [State.asrcSet, h, State.groupShown, State.groupNoted]

theorem RegsOnly.each {l : List Fld} {s0 : State} (h : RegsOnly l s0 s) {n : Nat} {f : State → Nat → State}
    (hf : ∀ t k, RegsOnly l s0 t → RegsOnly l s0 (f t k)) : RegsOnly l s0 (s.each n f) :=
  State.each_rec (P := fun _ => RegsOnly l s0) h fun k t _ => hf t k

/-- Beside its own lock bit a group shows its lock in the group masks and in the entries that use it. -/
theorem State.groupShown_rest : RegsOnly [R.ASRC_LOCK_LOCK, R.ASRC_LOCK_CHG_CHG, R.STRX_STAT0_ASRC_LOCK]
    (s.put R.ASRC_GRP_STATUS_LOCK (b2n on) g) (s.groupShown g on) := by
  unfold State.groupShown
  refine RegsOnly.each (((RegsOnly.refl _ _).put (by decide)).put (by decide)) fun t n ht => ?_
  split
  · exact ht.put (by decide)
  · exact ht

theorem State.groupShown_regsOnly : RegsOnly groupFlds s (s.groupShown g on) :=
  ((RegsOnly.refl _ s).put (by decide)).trans (State.groupShown_rest.mono (List.subset_cons_self _ _))

theorem State.groupShown_lock : (s.groupShown g on).flag R.ASRC_GRP_STATUS_LOCK g = on := by
  rw [State.groupShown_rest.flag (by decide), State.flag_put_same]
  exact b2n_flag on

theorem State.groupShown_other {g' : Nat} (hne : g % 65536 ≠ g' % 65536) :
    (s.groupShown g on).flag R.ASRC_GRP_STATUS_LOCK g' = s.flag R.ASRC_GRP_STATUS_LOCK g' := by
  rw [State.groupShown_rest.flag (by decide), State.flag, State.get_put_inst _ _ _ _ hne, State.flag]

end

/-- The registers that a change of a group's lock writes. -/
def asrcFlds : List Fld := R.ASRC_GRP_UNLOCK_CNT :: groupFlds ++ eventFlds

theorem groupFlds_subset_asrcFlds : groupFlds ⊆ asrcFlds := by decide

theorem eventFlds_subset_asrcFlds : eventFlds ⊆ asrcFlds := List.subset_append_right _ _

/-- Locks of rate groups have changed, and nothing that `Keeps` names, no port's memory, no event held and no register but those listed. -/
structure GroupsMoved (s t : State) : Prop where
  keeps : Keeps asrcFlds s t
  ports : t.serial.ports = s.serial.ports
  calm : Calm s t

section
variable {s : State}

theorem GroupsMoved.refl (s : State) : GroupsMoved s s := ⟨Keeps.refl _ s, rfl, Calm.refl s⟩

theorem GroupsMoved.trans {t u : State} (h : GroupsMoved s t) (h' : GroupsMoved t u) : GroupsMoved s u :=
  ⟨h.keeps.trans h'.keeps, h'.ports.trans h.ports, h.calm.trans h'.calm⟩

variable (s) (g : Nat)

theorem State.groupNoted_keeps : Keeps groupFlds s (s.groupNoted g) := (Keeps.refl _ s).set

theorem State.groupNoted_ports : (s.groupNoted g).serial.ports = s.serial.ports := rfl

theorem State.groupNoted_flag (f : Fld) (i : Nat) : (s.groupNoted g).flag f i = s.flag f i := rfl

theorem State.groupShown_noted (on : Bool) : Keeps groupFlds s ((s.groupShown g on).groupNoted g) :=
  State.groupShown_regsOnly.keeps.trans (State.groupNoted_keeps _ g)

theorem State.asrcSet_moves : GroupsMoved s (s.asrcSet g false) := by
  cases h : s.flag R.ASRC_GRP_STATUS_LOCK g with
  | false =>
    rw [State.asrcSet_kept h]
    exact GroupsMoved.refl s
  | true =>
    refine ⟨?_, ?_, (Calm.refl s).asrcSet⟩
    · rw [State.asrcSet_unlocks h]
      exact (((s.groupShown_noted g false).mono groupFlds_subset_asrcFlds).bump (by decide) (by decide)).raise eventFlds_subset_asrcFlds
    · rw [State.asrcSet_unlocks h, ((RecordsOnly.refl _).bump.raise).serial, State.groupNoted_ports, State.groupShown_regsOnly.serial]

/-- A group without its lock: where it had it, the event is held and the loss counted. -/
theorem State.asrcSet_unlocked : let t := s.asrcSet g false
    t.flag R.ASRC_GRP_STATUS_LOCK g = false ∧ (s.flag R.ASRC_GRP_STATUS_LOCK g = true → t.sticky EV_ASRC_UNLOCK = true ∧
      t.get R.ASRC_GRP_UNLOCK_CNT g = min (s.get R.ASRC_GRP_UNLOCK_CNT g + 1) (2 ^ R.ASRC_GRP_UNLOCK_CNT.width - 1)) := by
  intro t
  cases h : s.flag R.ASRC_GRP_STATUS_LOCK g with
  | false => exact ⟨by rw [show t = s from State.asrcSet_kept h, h], fun hc => absurd hc (by decide)⟩
  | true =>
    have ht : t = _ := State.asrcSet_unlocks h
    have hraise : Keeps eventFlds (((s.groupShown g false).groupNoted g).bump R.ASRC_GRP_UNLOCK_CNT g) t := by
      rw [ht]
      exact State.raise_keeps _ _
    refine ⟨?_, fun _ => ⟨?_, ?_⟩⟩
    · rw [hraise.flag (by decide), (State.bump_keeps _ _ _ _).flag (by decide), State.groupNoted_flag, State.groupShown_lock]
    · rw [ht]
      exact State.sticky_raise_same _ _
    · rw [hraise.regs _ _ _ (by decide), State.get_bump_same _ _ _ _ (by decide), (s.groupShown_noted g false).regs _ _ _ (by decide)]

/-- A group in lock, and nothing else but registers changed. -/
theorem State.asrcSet_locked : (s.asrcSet g true).flag R.ASRC_GRP_STATUS_LOCK g = true ∧ RegsOnly groupFlds s (s.asrcSet g true) := by
  cases h : s.flag R.ASRC_GRP_STATUS_LOCK g with
  | true =>
    rw [State.asrcSet_kept h]
    exact ⟨h, RegsOnly.refl _ s⟩
  | false =>
    rw [State.asrcSet_locks h]
    exact ⟨State.groupShown_lock, State.groupShown_regsOnly⟩

theorem State.asrcSet_other {g' : Nat} (hne : g % 65536 ≠ g' % 65536) :
    (s.asrcSet g false).flag R.ASRC_GRP_STATUS_LOCK g' = s.flag R.ASRC_GRP_STATUS_LOCK g' := by
  cases h : s.flag R.ASRC_GRP_STATUS_LOCK g with
  | false => rw [State.asrcSet_kept h]
  | true =>
    rw [State.asrcSet_unlocks h, (State.raise_keeps _ _).flag (by decide), (State.bump_keeps _ _ _ _).flag (by decide),
      State.groupNoted_flag, State.groupShown_other hne]

end

section
variable {s : State} {g : Fin 32} (ht : s.ticking = true) (hfollows : s.follows = false) (hsrc : s.get R.ASRC_GRP_CFG_SRC g.val = 2)
include ht hfollows hsrc

theorem execAsrcLock_eq (hopen : s.pllmGated = false) (ratio : Nat) : exec (.asrcLock g ratio) s =
    .next (((s.put R.ASRC_GRP_RATIO_RATIO ratio g.val).put R.ASRC_GRP_STATUS_RANGE_ERR 0 g.val).asrcSet g.val true) := by
  show execAsrcLock g ratio s = _
  simp [execAsrcLock, ht, hfollows, hsrc, hopen]

theorem execAsrcUnlock_eq (range : Bool) : exec (.asrcUnlock g range) s =
    .next ((s.put R.ASRC_GRP_STATUS_RANGE_ERR (b2n range) g.val).asrcSet g.val false) := by
  show execAsrcUnlock g range s = _
  simp [execAsrcUnlock, ht, hfollows, hsrc]

theorem execAsrcLock_shows (hopen : s.pllmGated = false) {ratio : Nat} (hratio : ratio < 2 ^ 32) :
    ∃ t, exec (.asrcLock g ratio) s = .next t ∧ t.get R.ASRC_GRP_RATIO_RATIO g.val = ratio ∧
      t.flag R.ASRC_GRP_STATUS_LOCK g.val = true ∧ t.flag R.ASRC_GRP_STATUS_RANGE_ERR g.val = false ∧
      RegsOnly [R.ASRC_GRP_RATIO_RATIO, R.ASRC_GRP_STATUS_LOCK, R.ASRC_GRP_STATUS_RANGE_ERR, R.ASRC_LOCK_LOCK, R.ASRC_LOCK_CHG_CHG,
        R.STRX_STAT0_ASRC_LOCK] s t := by
  let u := (s.put R.ASRC_GRP_RATIO_RATIO ratio g.val).put R.ASRC_GRP_STATUS_RANGE_ERR 0 g.val
  obtain ⟨hlock, honly⟩ := u.asrcSet_locked g.val
  refine ⟨_, execAsrcLock_eq ht hfollows hsrc hopen ratio, ?_, hlock, ?_, ?_⟩
  · rw [honly.get (by decide), State.get_put_ne _ _ _ _ _ _ (by decide), State.get_put_same]
    exact Nat.mod_eq_of_lt hratio
  · rw [honly.flag (by decide), State.flag_put_same]
    rfl
  · exact (((RegsOnly.refl _ s).put (by decide)).put (by decide)).trans (honly.mono (by decide))

theorem execAsrcUnlock_shows (range : Bool) : ∃ t, exec (.asrcUnlock g range) s = .next t ∧
    t.flag R.ASRC_GRP_STATUS_LOCK g.val = false ∧ t.flag R.ASRC_GRP_STATUS_RANGE_ERR g.val = range ∧
      (s.flag R.ASRC_GRP_STATUS_LOCK g.val = true → t.sticky EV_ASRC_UNLOCK = true ∧
        t.get R.ASRC_GRP_UNLOCK_CNT g.val = min (s.get R.ASRC_GRP_UNLOCK_CNT g.val + 1) (2 ^ R.ASRC_GRP_UNLOCK_CNT.width - 1)) := by
  let u := s.put R.ASRC_GRP_STATUS_RANGE_ERR (b2n range) g.val
  have hwas : u.flag R.ASRC_GRP_STATUS_LOCK g.val = s.flag R.ASRC_GRP_STATUS_LOCK g.val := State.flag_put_ne _ _ _ _ _ _ (by decide)
  have hcnt : u.get R.ASRC_GRP_UNLOCK_CNT g.val = s.get R.ASRC_GRP_UNLOCK_CNT g.val := State.get_put_ne _ _ _ _ _ _ (by decide)
  obtain ⟨hlock, hevent⟩ := u.asrcSet_unlocked g.val
  rw [hwas, hcnt] at hevent
  refine ⟨_, execAsrcUnlock_eq ht hfollows hsrc range, hlock, ?_, hevent⟩
  rw [(u.asrcSet_moves g.val).keeps.flag (by decide), State.flag_put_same]
  exact b2n_flag range

end

/-! ### Clock loss and return (R230, R231, R248) -/

theorem Keeps.follows {l : List Fld} {s t : State} (h : Keeps l s t) (hl : ∀ f ∈ l, f.base ≠ R.BRACE_SEAT_STATUS_PHASE.base) :
    t.follows = s.follows := by
  obtain ⟨-, -, hrole, -⟩ := h.core
  simp [State.follows, hrole, h.regs _ _ _ hl]

/-- Of the first n groups those that take their ratio from port p have lost their lock, but on a standby that follows its partner's. -/
structure GroupsLost (p n : Nat) (s t : State) : Prop where
  moved : GroupsMoved s t
  lost : s.follows = false → ∀ g, g < n → s.get R.ASRC_GRP_CFG_SRC g = 1 → s.get R.ASRC_GRP_CFG_PORT g = p →
    t.flag R.ASRC_GRP_STATUS_LOCK g = false

theorem State.spGroupsLose_lost (s : State) (p : Nat) : GroupsLost p 32 s (s.spGroupsLose p) := by
  refine State.each_rec (P := fun n => GroupsLost p n s) ⟨GroupsMoved.refl s, fun _ _ hg => absurd hg (Nat.not_lt_zero _)⟩
    fun n t hn h => ?_
  have hsrc := h.moved.keeps.regs R.ASRC_GRP_CFG_SRC n 0 (by decide)
  have hport := h.moved.keeps.regs R.ASRC_GRP_CFG_PORT n 0 (by decide)
  have hfollows := h.moved.keeps.follows (by decide)
  split
  next hc =>
    refine ⟨h.moved.trans (t.asrcSet_moves n), fun hf g hg hs hp => ?_⟩
    by_cases hgn : g = n
    · rw [hgn, (t.asrcSet_unlocked n).1]
    · rw [t.asrcSet_other n (by omega), h.lost hf g (by omega) hs hp]
  next hc =>
    refine ⟨h.moved, fun hf g hg hs hp => h.lost hf g ?_ hs hp⟩
    have hgn : g ≠ n := fun e => hc ⟨by rw [hsrc, ← e, hs], by rw [hport, ← e, hp], by simp [hfollows, hf]⟩
    omega

section
variable {s : State} {p : Nat}

/-- A slave port in RUN is in CLK_LOST while its clock is lost, and else in RUN. -/
theorem State.spWanted_run (hmode : s.spMode p ≠ 0) (hdev : s.dev = .run) (hrefused : (s.spPort p).refused = false) :
    s.spWanted p = if (s.spPort p).clkLost then 4 else 3 := by
  rw [State.spWanted, if_neg hmode, hdev, hrefused]
  simp

theorem State.spRefresh_same (h : s.spWanted p = s.get R.SP_STATUS_STATE p) : s.spRefresh p = s := if_pos h

/-- A port that enters CLK_LOST. -/
def State.spLostNow (s : State) (p : Nat) : State := ((s.put R.SP_STATUS_STATE 4 p).put R.SP_STATUS_CLK_LOSS 1 p).bump R.CLK_LOSS_CNT p

theorem State.spRefresh_lost (h : s.spWanted p = 4) (hne : s.get R.SP_STATUS_STATE p ≠ 4) :
    s.spRefresh p = (s.spLostNow p).raise EV_PORT_CLK_LOSS := by
  rw [State.spRefresh, h]
  dsimp only
  rw [if_neg hne.symm]
  rfl

theorem State.spRefresh_runs (h : s.spWanted p = 3) (hne : s.get R.SP_STATUS_STATE p ≠ 3) : s.spRefresh p =
    (s.put R.SP_STATUS_STATE 3 p).setSp p { s.spPort p with txFrame := 0, undRun := false } := by
  rw [State.spRefresh, h]
  dsimp only
  rw [if_neg hne.symm]
  rfl

theorem RegsAt.setSerial {l : List Fld} {i : Nat} {t : State} (h : RegsAt l i s t) (x : Serial) :
    RegsAt l i { s with serial := x } { t with serial := x } := by
  obtain ⟨heq, hregs⟩ := h
  exact ⟨congrArg (fun u : State => { u with serial := x }) heq, hregs⟩

/-- A port whose clock is lost, before its state follows. -/
def State.spClockGone (s : State) (p : Nat) : State :=
  (s.setSp p { s.spPort p with clkLost := true, good := 0 }).put R.SP_STATUS_CLK_PRESENT 0 p

/-- A port whose clock is back, before its state follows. -/
def State.spClockBack (s : State) (p : Nat) (present : Bool) : State :=
  (s.setSp p { s.spPort p with clkLost := false, good := 0, tail := none }).put R.SP_STATUS_CLK_PRESENT (b2n present) p

theorem State.spClockGone_same : SameSp s (s.spClockGone p) := (SameSp.refl s).setSp.put (by decide)

theorem State.spClockBack_same {present : Bool} : SameSp s (s.spClockBack p present) := (SameSp.refl s).setSp.put (by decide)

@[simp] theorem State.spPort_spClockGone : (s.spClockGone p).spPort p = { s.spPort p with clkLost := true, good := 0 } :=
  State.spPort_setSp s p _

@[simp] theorem State.spPort_spClockBack {present : Bool} :
    (s.spClockBack p present).spPort p = { s.spPort p with clkLost := false, good := 0, tail := none } := State.spPort_setSp s p _

variable (hmode : s.spMode p ≠ 0) (hdev : s.dev = .run) (hrefused : (s.spPort p).refused = false)
include hmode hdev hrefused

/-- A port that loses its clock in RUN: its registers, and the event and the count where it was not in CLK_LOST yet. -/
theorem State.spLose_shows (hlost : (s.spPort p).clkLost = false) : let t := s.spLose p
    (t.spPort p).clkLost = true ∧ t.get R.SP_STATUS_STATE p = 4 ∧ t.flag R.SP_STATUS_CLK_PRESENT p = false ∧
      (s.get R.SP_STATUS_STATE p ≠ 4 → t.sticky EV_PORT_CLK_LOSS = true ∧
        t.get R.CLK_LOSS_CNT p = min (s.get R.CLK_LOSS_CNT p + 1) (2 ^ R.CLK_LOSS_CNT.width - 1)) := by
  intro t
  let u := s.spClockGone p
  have ht : t = u.spRefresh p := if_neg (by simp [hlost])
  have hpresent : u.flag R.SP_STATUS_CLK_PRESENT p = false := State.flag_put_same _ _ _ _ 0
  have hstate : u.get R.SP_STATUS_STATE p = s.get R.SP_STATUS_STATE p := State.get_put_ne _ _ _ _ _ _ (by decide)
  have hcnt : u.get R.CLK_LOSS_CNT p = s.get R.CLK_LOSS_CNT p := State.get_put_ne _ _ _ _ _ _ (by decide)
  have hwanted : u.spWanted p = 4 := by
    rw [State.spWanted_run (s := u) (by rwa [State.spClockGone_same.spMode]) hdev (by simpa [u] using hrefused)]
    simp [u]
  by_cases h4 : s.get R.SP_STATUS_STATE p = 4
  · rw [ht, State.spRefresh_same (hwanted.trans (h4.symm.trans hstate.symm))]
    exact ⟨by simp [u], hstate.trans h4, hpresent, fun hne => absurd h4 hne⟩
  · have ht' : t = (u.spLostNow p).raise EV_PORT_CLK_LOSS := ht.trans (State.spRefresh_lost hwanted (by rwa [hstate]))
    have hraise : Keeps eventFlds (u.spLostNow p) t := by
      rw [ht']
      exact State.raise_keeps _ _
    have hrest : RecordsOnly u t := by
      rw [ht']
      exact (RecordsOnly.refl u).put.put.bump.raise
    refine ⟨?_, ?_, ?_, fun _ => ⟨?_, ?_⟩⟩
    · rw [State.spPort_congr (congrArg _ hrest.serial)]
      simp [u]
    · rw [hraise.regs _ _ _ (by decide), State.spLostNow, State.get_bump_ne _ _ _ _ _ (by decide) (by decide),
        State.get_put_ne _ _ _ _ _ _ (by decide), State.get_put_same]
      rfl
    · rw [hraise.flag (by decide), State.flag, State.spLostNow, State.get_bump_ne _ _ _ _ _ (by decide) (by decide),
        State.get_put_ne _ _ _ _ _ _ (by decide), State.get_put_ne _ _ _ _ _ _ (by decide)]
      exact hpresent
    · rw [ht']
      exact State.sticky_raise_same _ _
    · rw [hraise.regs _ _ _ (by decide), State.spLostNow, State.get_bump_same _ _ _ _ (by decide),
        State.get_put_ne _ _ _ _ _ _ (by decide), State.get_put_ne _ _ _ _ _ _ (by decide), hcnt]

/-- A port whose clock is back is in RUN again. -/
theorem State.spClockBack_shows : let t := (s.spClockBack p true).spRefresh p
    (t.spPort p).clkLost = false ∧ t.get R.SP_STATUS_STATE p = 3 ∧ t.flag R.SP_STATUS_CLK_PRESENT p = true ∧
      RegsAt [R.SP_STATUS_STATE, R.SP_STATUS_CLK_PRESENT] p { s with serial := t.serial } t := by
  intro t
  let u := s.spClockBack p true
  have hpresent : u.flag R.SP_STATUS_CLK_PRESENT p = true := State.flag_put_same _ _ _ _ 0
  have hwanted : u.spWanted p = 3 := by
    rw [State.spWanted_run (s := u) (by rwa [State.spClockBack_same.spMode]) hdev (by simpa [u] using hrefused)]
    simp [u]
  by_cases h3 : u.get R.SP_STATUS_STATE p = 3
  · have ht : t = u := State.spRefresh_same (hwanted.trans h3.symm)
    rw [ht]
    exact ⟨by simp [u], h3, hpresent, (RegsAt.refl _ p { s with serial := u.serial }).put (by decide)⟩
  · have ht : t = _ := State.spRefresh_runs hwanted h3
    rw [ht]
    refine ⟨by simp, ?_, ?_, ?_⟩
    · rw [State.get_setSp, State.get_put_same]
      rfl
    · rw [State.flag_setSp, State.flag_put_ne _ _ _ _ _ _ (by decide)]
      exact hpresent
    · exact (((RegsAt.refl [R.SP_STATUS_STATE, R.SP_STATUS_CLK_PRESENT] p s).put (f := R.SP_STATUS_CLK_PRESENT) (v := 1) (j := 0)
        (by decide)).put (f := R.SP_STATUS_STATE) (v := 3) (j := 0) (by decide)).setSerial _

end

section
variable {s : State} {p : Fin 8} (ht : s.ticking = true) (hslave : s.flag R.SP_CFG_MASTER p.val = false)
include ht hslave

theorem execSpClockLoss_eq (hmode : s.spMode p.val ≠ 0) : exec (.spClockLoss p) s = .next ((s.spLose p.val).spGroupsLose p.val) := by
  show execSpClockLoss p s = _
  simp [execSpClockLoss, ht, hslave, hmode]

theorem execSpClockReturn_eq (hlost : (s.spPort p.val).clkLost = true) (hgood : 8 ≤ (s.spPort p.val).good) :
    exec (.spClockReturn p) s = .next ((s.spClockBack p.val true).spRefresh p.val) := by
  show execSpClockReturn p s = _
  simp [execSpClockReturn, ht, hslave, hlost, hgood, State.spClockBack]

/-- A slave port in RUN that loses its clock, with the groups that take their ratio from it. -/
theorem execSpClockLoss_shows (hmode : s.spMode p.val ≠ 0) (hdev : s.dev = .run) (hrefused : (s.spPort p.val).refused = false)
    (hlost : (s.spPort p.val).clkLost = false) : ∃ t, exec (.spClockLoss p) s = .next t ∧ (t.spPort p.val).clkLost = true ∧
      t.get R.SP_STATUS_STATE p.val = 4 ∧ t.flag R.SP_STATUS_CLK_PRESENT p.val = false ∧
      (s.get R.SP_STATUS_STATE p.val ≠ 4 → t.sticky EV_PORT_CLK_LOSS = true ∧
        t.get R.CLK_LOSS_CNT p.val = min (s.get R.CLK_LOSS_CNT p.val + 1) (2 ^ R.CLK_LOSS_CNT.width - 1)) ∧
      (s.follows = false → ∀ g, g < 32 → s.get R.ASRC_GRP_CFG_SRC g = 1 → s.get R.ASRC_GRP_CFG_PORT g = p.val →
        t.flag R.ASRC_GRP_STATUS_LOCK g = false) := by
  have hkeeps : Keeps gateFlds s (s.spLose p.val) := (Keeps.refl _ s).spLose
  have hfollows : (s.spLose p.val).follows = s.follows := hkeeps.follows (by decide)
  obtain ⟨hclk, hstate, hpresent, hevent⟩ := State.spLose_shows hmode hdev hrefused hlost
  have hgroups := (s.spLose p.val).spGroupsLose_lost p.val
  have hmoved := hgroups.moved
  refine ⟨_, execSpClockLoss_eq ht hslave hmode, ?_, ?_, ?_, fun hne => ?_, fun hf g hg hsrc hport => ?_⟩
  · rw [State.spPort_congr hmoved.ports, hclk]
  · rw [hmoved.keeps.regs _ _ _ (by decide), hstate]
  · rw [hmoved.keeps.flag (by decide), hpresent]
  · obtain ⟨hsticky, hcnt⟩ := hevent hne
    exact ⟨hmoved.calm.sticky _ hsticky, by rw [hmoved.keeps.regs _ _ _ (by decide), hcnt]⟩
  · exact hgroups.lost (hfollows.trans hf) g hg (by rw [hkeeps.regs _ _ _ (by decide), hsrc])
      (by rw [hkeeps.regs _ _ _ (by decide), hport])

end

/-! ### O48 -/

/-- Settles O48: a frame that a port takes stands in its ring or is counted, an output frame is its index's samples or zero, a lost clock
takes the port and its groups out of lock until it is back, and a group's lock is what its row says. -/
theorem serialPortRows : Obligations.SerialPortRows := by
  refine ⟨fun s f ht hrun => ⟨?_, ?_, ?_⟩, fun s p x ht hbegan hmasks hwait hread => ⟨fun hzero => ?_, ?_⟩,
    fun s p ht hmode hslave hdev hrefused => ⟨fun hlost => ?_, fun hlost hgood => ?_⟩, fun s g ratio ht hfollows hsrc => ⟨?_, ?_⟩⟩
  · intro k w hdirect hroom hbegan hmasks hwait hfollows hsi hslots hw _ ha hv
    exact execSpFrameRx_stores ht hrun hwait hdirect hroom hbegan hmasks hfollows hsi hslots hw ha hv
  · intro hslave hlen hwait hmute
    exact execSpFrameRx_miscounts ht hrun hwait hslave hlen hmute
  · intro hlen hfull hbegan hwait
    exact execSpFrameRx_overruns ht hrun hwait hlen hfull hbegan
  · exact execSpFrameTxStart_zero ht hbegan hmasks hwait hread hzero
  · intro hrun hseating hcold hsettling hdirect
    exact ⟨execSpFrameTxStart_sends ht hbegan hmasks hwait hread hrun hseating hcold hsettling hdirect, fun _ =>
      execSpFrameTxStart_underruns ht hbegan hmasks hwait hread hrun hseating hcold hsettling hdirect⟩
  · exact execSpClockLoss_shows ht hslave hmode hdev hrefused hlost
  · exact ⟨_, execSpClockReturn_eq ht hslave hlost hgood, State.spClockBack_shows hmode hdev hrefused⟩
  · intro hopen hratio
    exact execAsrcLock_shows ht hfollows hsrc hopen hratio
  · exact execAsrcUnlock_shows ht hfollows hsrc

end Sys2Proof.Machine

/-! PROOFS. The crosspoint's banks, the delay pool, clips and raw flash commands (O49). -/

namespace Sys2Proof.Machine

/-! ### Entries of a sparse map -/

section
variable {α : Type}

theorem Sparse.get_of_mem {m : Sparse α} (d : α) {k : Nat} {v : α} (hm : m.Pairwise (fun x y => x.1 < y.1)) (h : (k, v) ∈ m) :
    Sparse.get d m k = v := by
  induction m with
  | nil => nomatch h
  | cons e m ih =>
    obtain ⟨hlt, htail⟩ := List.pairwise_cons.1 hm
    rcases List.mem_cons.1 h with rfl | h
    · simp [Sparse.get]
    · have hne : e.1 ≠ k := Nat.ne_of_lt (hlt _ h)
      simp [Sparse.get, hne, ih htail h]

theorem Sparse.get_of_unlisted {m : Sparse α} (d : α) {k : Nat} (h : ∀ v, (k, v) ∉ m) : Sparse.get d m k = d := by
  induction m with
  | nil => rfl
  | cons e m ih =>
    have hne : e.1 ≠ k := fun he => h e.2 (he ▸ List.mem_cons_self)
    simp [Sparse.get, hne, ih fun v hv => h v (List.mem_cons_of_mem _ hv)]

theorem Sparse.get_eraseRange (d : α) (m : Sparse α) (k n a : Nat) :
    Sparse.get d (Sparse.eraseRange m k n) a = if k ≤ a ∧ a < k + n then d else Sparse.get d m a := by
  rw [Sparse.eraseRange, Sparse.get_filter d m (fun x => !(decide (k ≤ x) && decide (x < k + n)))]
  by_cases h : k ≤ a ∧ a < k + n <;> simp [h]

variable [DecidableEq α] {β : Type} {d : Nat → α} (g : β → Nat × α)

/-- A key that none of a list of writes names keeps its value. -/
theorem Sparse.get_foldl_put_out (d' : α) {l : List β} {m : Sparse α} {a : Nat} (h : ∀ e ∈ l, (g e).1 ≠ a) :
    Sparse.get d' (l.foldl (fun m e => Sparse.put (d (g e).1) m (g e).1 (g e).2) m) a = Sparse.get d' m a := by
  induction l generalizing m with
  | nil => rfl
  | cons e l ih =>
    obtain ⟨hne, hl⟩ := List.forall_mem_cons.1 h
    exact (ih hl).trans (Sparse.get_put_ne _ _ _ _ hne)

/-- Of a list of writes to keys that differ, each is read back. -/
theorem Sparse.get_foldl_put_in {l : List β} {m : Sparse α} {e : β} (hl : l.Pairwise (fun x y => (g x).1 ≠ (g y).1)) (he : e ∈ l) :
    Sparse.get (d (g e).1) (l.foldl (fun m e => Sparse.put (d (g e).1) m (g e).1 (g e).2) m) (g e).1 = (g e).2 := by
  induction l generalizing m with
  | nil => nomatch he
  | cons x l ih =>
    obtain ⟨hx, htail⟩ := List.pairwise_cons.1 hl
    rcases List.mem_cons.1 he with rfl | he
    · exact (Sparse.get_foldl_put_out g _ fun y hy => (hx y hy).symm).trans (Sparse.get_put_same _ _ _ _)
    · exact ih htail he

end

/-! ### The banks of the crosspoint (R258) -/

theorem BraceOnly.regsOnly {l : List Fld} {s u t : State} (hb : BraceOnly u t) (h : RegsOnly l s u) :
    RegsOnly l { s with brace := t.brace } t := by
  obtain ⟨heq, hregs⟩ := h
  have hu : t.regs = u.regs := by rw [hb]
  refine ⟨?_, fun g i j hg => (State.get_congr hu g i j).trans (hregs g i j hg)⟩
  rw [hu]
  exact Eq.trans hb (congrArg (fun v : State => { v with brace := t.brace }) heq)

/-- COPY_BUSY set, as a copy begins. -/
def State.copying (s : State) : State := s.put R.XPM_STATUS_COPY_BUSY 1

theorem State.copying_regsOnly (s : State) : RegsOnly [R.XPM_STATUS_COPY_BUSY] s s.copying := (RegsOnly.refl _ s).put (by decide)

theorem State.copying_mirrors (s : State) : s.copying.mirrors = s.mirrors := by
  have h := s.copying_regsOnly
  simp [State.mirrors, State.pairInStep, show s.copying.role = s.role from rfl, h.flag (g := R.BRACE_STATUS_BRACE_PRESENT) (by decide),
    h.flag (g := R.BRACE_STATUS_NET_PRESENT) (by decide), h.get (g := R.BRACE_STATUS_PARTNER_ROLE) (by decide),
    h.get (g := R.BRACE_SEAT_STATUS_PHASE) (by decide)]

section
variable {s : State} {who : Initiator} (ht : s.takes who 0x38040 = true)
include ht

theorem execXpmCopy_begins (hidle : s.flag R.XPM_STATUS_COPY_BUSY = false) (hpend : s.pagePending 0x38 = false)
    (hsvc : s.svcBlocked who 0x38 = false) (hpair : s.pairBlocked who 0x38 = false) :
    exec (.xpmCopy who) s = .next (s.copying.mirrorOut who 0x38040 0 2) :=
  congrArg Host.Outcome.next ((State.command_taken _ ht).trans (if_neg (by simp [hidle, hpend, hsvc, hpair])))

theorem execXpmCopy_busy (hbusy : s.flag R.XPM_STATUS_COPY_BUSY = true) : exec (.xpmCopy who) s = .next (s.raise EV_HOST_ERR) :=
  congrArg Host.Outcome.next ((State.command_taken _ ht).trans (if_pos (by simp [hbusy])))

end

/-- A copy shows itself and reaches the partner where this unit mirrors. -/
theorem State.copying_mirrored (s : State) (who : Initiator) : let t := s.copying.mirrorOut who 0x38040 0 2
    t.flag R.XPM_STATUS_COPY_BUSY = true ∧ RegsOnly [R.XPM_STATUS_COPY_BUSY] { s with brace := t.brace } t ∧
      (s.mirrors = false → t.brace = s.brace) := by
  intro t
  have hb : BraceOnly s.copying t := (BraceOnly.refl _).mirrorOut
  have hregs : t.regs = s.copying.regs := by rw [hb]
  refine ⟨?_, hb.regsOnly s.copying_regsOnly, fun hm => ?_⟩
  · rw [State.flag, State.get_congr hregs]
    exact State.flag_put_same _ _ _ 0 0
  · show (s.copying.mirrorOut who 0x38040 0 2).brace = _
    rw [State.mirrorOut, State.copying_mirrors, hm]
    rfl

/-- A byte of a bank that nothing has written reads 0 (R257). -/
theorem memDefault_bank {b k : Nat} (hb : b < 2) (hk : k < 0x20000) : memDefault (bankBase b + k) = 0 :=
  if_neg (by unfold bankBase; omega)

/-- The listed bytes of a bank. -/
def State.bankEntries (s : State) (a : Nat) : Sparse (BitVec 8) :=
  s.mem.filter (fun e => decide (bankBase a ≤ e.1) && decide (e.1 < bankBase a + 0x20000))

theorem State.mem_bankEntries {s : State} {a : Nat} {e : Nat × BitVec 8} :
    e ∈ s.bankEntries a ↔ e ∈ s.mem ∧ bankBase a ≤ e.1 ∧ e.1 < bankBase a + 0x20000 := by
  simp [State.bankEntries]

/-- The write that copies one byte of bank a to bank b. -/
def bankMove (a b : Nat) (e : Nat × BitVec 8) : Nat × BitVec 8 := (e.1 - bankBase a + bankBase b, e.2)

theorem State.copyBank_mem (s : State) (a b : Nat) : (s.copyBank a b).mem =
    (s.bankEntries a).foldl (fun m e => Sparse.put (memDefault (bankMove a b e).1) m (bankMove a b e).1 (bankMove a b e).2)
      (s.mem.eraseRange (bankBase b) 0x20000) := rfl

theorem State.copyBank_byte_out (s : State) (a b : Nat) {x : Nat} (hx : x < bankBase b ∨ bankBase b + 0x20000 ≤ x) :
    (s.copyBank a b).byte x = s.byte x := by
  rw [State.byte, State.copyBank_mem, Sparse.get_foldl_put_out, Sparse.get_eraseRange, if_neg (by omega), State.byte]
  intro e he
  obtain ⟨-, hlo, hhi⟩ := State.mem_bankEntries.1 he
  show e.1 - bankBase a + bankBase b ≠ x
  omega

theorem State.copyBank_byte_in {s : State} {a b k : Nat} (hw : Memory.wf s.mem = true) (ha : a < 2) (hb : b < 2) (hk : k < 0x20000) :
    (s.copyBank a b).byte (bankBase b + k) = s.byte (bankBase a + k) := by
  obtain ⟨hsorted, -⟩ := (Sparse.wf_iff _ _).1 hw
  have hdiffer : (s.bankEntries a).Pairwise (fun x y => (bankMove a b x).1 ≠ (bankMove a b y).1) :=
    (hsorted.sublist List.filter_sublist).imp_of_mem fun {x y} hx hy hlt => by
      obtain ⟨-, hxlo, -⟩ := State.mem_bankEntries.1 hx
      show x.1 - bankBase a + bankBase b ≠ y.1 - bankBase a + bankBase b
      omega
  rw [State.byte, State.copyBank_mem]
  by_cases hlisted : ∃ v, (bankBase a + k, v) ∈ s.mem
  · obtain ⟨v, hv⟩ := hlisted
    have he : (bankBase a + k, v) ∈ s.bankEntries a := State.mem_bankEntries.2 ⟨hv, by omega, by omega⟩
    have hread := Sparse.get_foldl_put_in (d := memDefault) (m := s.mem.eraseRange (bankBase b) 0x20000) (bankMove a b) hdiffer he
    have hto : (bankMove a b (bankBase a + k, v)).1 = bankBase b + k := by
      show bankBase a + k - bankBase a + bankBase b = _
      omega
    rw [hto] at hread
    rw [hread, State.byte, Sparse.get_of_mem _ hsorted hv]
    rfl
  · have hnone : ∀ e ∈ s.bankEntries a, (bankMove a b e).1 ≠ bankBase b + k := fun e he heq => by
      obtain ⟨hmem, hlo, -⟩ := State.mem_bankEntries.1 he
      have hkey : e.1 = bankBase a + k := by
        change e.1 - bankBase a + bankBase b = bankBase b + k at heq
        omega
      exact hlisted ⟨e.2, hkey ▸ hmem⟩
    rw [Sparse.get_foldl_put_out _ _ hnone, Sparse.get_eraseRange, if_pos (by omega), State.byte,
      Sparse.get_of_unlisted _ fun v hv => hlisted ⟨v, hv⟩, memDefault_bank hb hk, memDefault_bank ha hk]

/-- The end of a copy: the shadow bank holds the active bank's bytes and counts as written. -/
def State.bankCopied (s : State) : State :=
  { s.copyBank s.activeBank (1 - s.activeBank) with mix := { s.mix with written := true } }.put R.XPM_STATUS_COPY_BUSY 0

theorem execXpmCopyDone_ends {s : State} (h : s.flag R.XPM_STATUS_COPY_BUSY = true) : exec .xpmCopyDone s = .next s.bankCopied := by
  show execXpmCopyDone s = _
  rw [execXpmCopyDone, h]
  rfl

theorem State.bankCopied_shows {s : State} (hw : Memory.wf s.mem = true) (hbank : s.activeBank < 2) : let t := s.bankCopied
    t.flag R.XPM_STATUS_COPY_BUSY = false ∧ t.mix = { s.mix with written := true } ∧
      (∀ k, k < 0x20000 → t.byte (bankBase (1 - s.activeBank) + k) = s.byte (bankBase s.activeBank + k)) ∧
      (∀ a, a < bankBase (1 - s.activeBank) ∨ bankBase (1 - s.activeBank) + 0x20000 ≤ a → t.byte a = s.byte a) ∧
      RegsOnly [R.XPM_STATUS_COPY_BUSY] { s with mem := t.mem, mix := t.mix } t := by
  intro t
  have hmem : t.mem = (s.copyBank s.activeBank (1 - s.activeBank)).mem := rfl
  refine ⟨State.flag_put_same _ _ _ 0 0, rfl, fun k hk => ?_, fun a ha => ?_,
    (RegsOnly.refl _ { s with mem := t.mem, mix := t.mix }).put (by decide)⟩
  · rw [State.byte_congr hmem]
    exact State.copyBank_byte_in hw hbank (by omega) hk
  · rw [State.byte_congr hmem]
    exact s.copyBank_byte_out _ _ ha

/-! ### The delay pool (R272) -/

theorem execDpoolRepack_asks {s : State} {who : Initiator} (ht : s.takes who 0x39040 = true) (hd : s.dev = .ready ∨ s.dev = .held)
    (hpair : s.pairBlocked who 0x39 = false) : exec (.dpoolRepack who) s = .next { s with repack := true } :=
  congrArg Host.Outcome.next ((State.command_taken _ ht).trans (if_pos (by simpa [hpair] using hd)))

/-! ### Prefetches of clips (R295) -/

/-- The bytes that a list names, stored one after the other. -/
def State.storeAll {α : Type} (s : State) (l : List α) (a : α → Nat) (b : α → BitVec 8) : State :=
  l.foldl (fun u x => u.setByte (a x) (b x)) s

section
variable {α : Type} (s : State) (l : List α) (a : α → Nat) (b : α → BitVec 8)

theorem State.storeAll_mem : (s.storeAll l a b).mem = l.foldl (fun m x => Sparse.put (memDefault (a x)) m (a x) (b x)) s.mem := by
  induction l generalizing s with
  | nil => rfl
  | cons x l ih => exact ih (s.setByte (a x) (b x))

/-- Bytes stored change the memory and nothing else. -/
theorem State.storeAll_eq : s.storeAll l a b = { s with mem := (s.storeAll l a b).mem } := by
  induction l generalizing s with
  | nil => rfl
  | cons x l ih => exact ih (s.setByte (a x) (b x))

variable {l a}

theorem State.storeAll_byte_out {y : Nat} (h : ∀ x ∈ l, a x ≠ y) : (s.storeAll l a b).byte y = s.byte y := by
  rw [State.byte, State.storeAll_mem]
  exact Sparse.get_foldl_put_out (d := memDefault) (fun x => (a x, b x)) _ h

theorem State.storeAll_byte_in (hl : l.Pairwise (fun x y => a x ≠ a y)) {x : α} (hx : x ∈ l) :
    (s.storeAll l a b).byte (a x) = b x := by
  rw [State.byte, State.storeAll_mem]
  exact Sparse.get_foldl_put_in (d := memDefault) (fun x => (a x, b x)) hl hx

end

@[simp] theorem State.inst_setInst (s : State) (id : Nat) (x : Inst) : (s.setInst id x).inst id = x := Sparse.get_put_same _ _ _ _

/-- n bytes of a clip in a player's buffer, counted as read. -/
def State.prefetched (s : State) (id : Nat) (c : Clip) (buf n : Nat) : State :=
  let x := s.inst id
  let p := x.play
  ((s.storeAll (List.range n) (fun j => buf + (p.got + j) % 4096) (fun j => s.byte (c.addr + (p.got + j) % c.len))).setInst id
    { x with play := { p with got := p.got + n } }).bump R.FL_READ_CNT

section
variable {s : State} {d : Desc} {c : Clip} {n : Nat}

/-- A prefetch that fits the clip's rest and the buffer's room, every access permitted, brings all its bytes. -/
theorem State.prefetch_fits (hloop : (s.inst d.id).play.loop = false) (hlen : c.len ≠ 0) (hrest : (s.inst d.id).play.got + n ≤ c.len)
    (hroom : n ≤ 4096 - ((s.inst d.id).play.got - min (s.inst d.id).play.got (clipBytes d.type (s.inst d.id).play.pos)))
    (hperm : ∀ j, j < n → s.permits .fdma false (c.addr + ((s.inst d.id).play.got + j) % c.len) = true ∧
      s.permits .fdma true (((s.paramWords d)[0]?).getD 0 + ((s.inst d.id).play.got + j) % 4096) = true) :
    s.prefetch d c n = s.prefetched d.id c (((s.paramWords d)[0]?).getD 0) n := by
  have htaken (room : Nat) (h : n ≤ room) : (if c.len = 0 then 0 else min n (if (s.inst d.id).play.loop then room
      else min room (c.len - (s.inst d.id).play.got))) = n := by
    rw [if_neg hlen, hloop, if_neg Bool.false_ne_true]
    omega
  have hnone : (List.range n).find? (fun j => !s.permits .fdma false (c.addr + ((s.inst d.id).play.got + j) % c.len) ||
      !s.permits .fdma true (((s.paramWords d)[0]?).getD 0 + ((s.inst d.id).play.got + j) % 4096)) = none := by
    rw [List.find?_eq_none]
    intro j hj
    obtain ⟨hread, hwrite⟩ := hperm j (List.mem_range.1 hj)
    simp [hread, hwrite]
  simp only [State.prefetch, htaken _ hroom, hnone]
  rfl

theorem execClipPrefetchDone_eq {i : Fin 8192}
    (hd : s.je.cut.descs.find? (fun e => e.id == i.val && (e.type == 0x0C || e.type == 0x0D)) = some d)
    (hc : s.clipOf (s.inst i.val).play.clip = some c) (hphase : (s.inst i.val).play.phase = 1) :
    d.id = i.val ∧ exec (.clipPrefetchDone i n) s = .next (s.prefetch d c n) := by
  have hid : d.id = i.val := by
    have hfound := List.find?_some hd
    rw [Bool.and_eq_true, beq_iff_eq] at hfound
    exact hfound.1
  refine ⟨hid, ?_⟩
  show execClipPrefetchDone i n s = _
  simp [execClipPrefetchDone, hd, hid, hc, hphase]

end

/-- What a prefetch leaves: the player's count, the bytes of the buffer and of nothing else, and the counter of reads. -/
theorem State.prefetched_shows (s : State) (id : Nat) (c : Clip) (buf : Nat) {n : Nat} (hn : n ≤ 4096) :
    let p := (s.inst id).play
    let t := s.prefetched id c buf n
    (t.inst id).play = { p with got := p.got + n } ∧
      (∀ j, j < n → t.byte (buf + (p.got + j) % 4096) = s.byte (c.addr + (p.got + j) % c.len)) ∧
      (∀ a, (∀ j, j < n → a ≠ buf + (p.got + j) % 4096) → t.byte a = s.byte a) ∧
      RegsOnly [R.FL_READ_CNT, R.PG_STATUS_SAT_SEEN] { s with mem := t.mem, je := t.je } t := by
  intro p t
  let dst (j : Nat) : Nat := buf + (p.got + j) % 4096
  let u := s.storeAll (List.range n) dst (fun j => s.byte (c.addr + (p.got + j) % c.len))
  let v := u.setInst id { s.inst id with play := { p with got := p.got + n } }
  have ht : t = { v with regs := t.regs } := v.bumpBy_eq R.FL_READ_CNT 1 0 0
  have hmem : t.mem = u.mem := by rw [ht]; rfl
  have hje : t.je = v.je := by rw [ht]
  have hv : v = { s with mem := t.mem, je := t.je } := by
    rw [hmem, hje]
    exact congrArg (fun w : State => { w with je := v.je }) (s.storeAll_eq _ _ _)
  have hdiffer : (List.range n).Pairwise (fun j k => dst j ≠ dst k) :=
    List.pairwise_lt_range.imp_of_mem fun {j k} hj hk hlt => by
      have hk' := List.mem_range.1 hk
      show buf + (p.got + j) % 4096 ≠ buf + (p.got + k) % 4096
      omega
  refine ⟨?_, fun j hj => ?_, fun a ha => ?_, hv ▸ (RegsOnly.refl _ v).bump (by decide) (by decide)⟩
  · rw [State.inst, hje]
    exact congrArg Inst.play (u.inst_setInst id _)
  · rw [State.byte_congr hmem]
    exact s.storeAll_byte_in _ hdiffer (List.mem_range.2 hj)
  · rw [State.byte_congr hmem]
    exact s.storeAll_byte_out _ fun j hj => (ha j (List.mem_range.1 hj)).symm

/-! ### Clips checked (R369) -/

section
variable {s : State} {i : Fin 4096} {c : Clip} (hc : Sparse.find s.clips i.val = some c)
include hc

theorem execClipCrcCheckDone_passes (h : (crc32 (s.bytes c.addr c.len)).toNat = c.crc) : exec (.clipCrcCheckDone i) s = .next s := by
  show execClipCrcCheckDone i s = _
  simp [execClipCrcCheckDone, hc, h]

theorem execClipCrcCheckDone_marks (ht : s.ticking = true) (hfw : s.boot.fwValid = true) (hgood : c.bad = false)
    (h : (crc32 (s.bytes c.addr c.len)).toNat ≠ c.crc) : exec (.clipCrcCheckDone i) s =
      .next (State.bump { s with clips := Sparse.set s.clips i.val { c with bad := true } } R.SVC_CLIP_BAD_CNT) := by
  show execClipCrcCheckDone i s = _
  simp [execClipCrcCheckDone, hc, h, ht, hfw, hgood]

end

/-! ### Raw flash commands (R445, R449) -/

theorem State.flashStart_busy {s : State} (hb : s.flag R.FL_STATUS_BUSY = true) (write : Bool) (op ab len : Nat) :
    s.flashStart write op ab len = s.raise EV_HOST_ERR := if_pos hb

/-- The registers that show a raw flash command. -/
def flashFlds : List Fld := [R.FL_CMD_OPCODE, R.FL_CMD_ADDR_BYTES, R.FL_CMD_LEN, R.FL_CMD_WRITE, R.FL_STATUS_BUSY]

/-- A raw flash command shown in FL_CMD, with BUSY. -/
def State.flashShown (s : State) (write : Bool) (op ab len : Nat) : State :=
  ((((s.put R.FL_CMD_OPCODE op).put R.FL_CMD_ADDR_BYTES ab).put R.FL_CMD_LEN len).put R.FL_CMD_WRITE (b2n write)).put R.FL_STATUS_BUSY 1

theorem State.flashShown_regsOnly (s : State) (write : Bool) (op ab len : Nat) : RegsOnly flashFlds s (s.flashShown write op ab len) :=
  (((((RegsOnly.refl flashFlds s).put (by decide)).put (by decide)).put (by decide)).put (by decide)).put (by decide)

theorem RegsOnly.flBuf {l : List Fld} {s t : State} (h : RegsOnly l s t) (hl : ∀ f ∈ l, f.base ≠ R.FL_BUF_DATA.base) (n : Nat) :
    t.flBuf n = s.flBuf n := by
  simp only [State.flBuf, h.get hl]

theorem RegsOnly.send {l : List Fld} {s t : State} (h : RegsOnly l s t) (o : Out) :
    RegsOnly l { s with wire := o :: t.wire } (t.send o) := by
  obtain ⟨heq, hregs⟩ := h
  exact ⟨congrArg (fun u : State => { u with wire := o :: t.wire }) heq, hregs⟩

theorem RegsOnly.setByte {l : List Fld} {s t : State} (h : RegsOnly l s t) (a : Nat) (b : BitVec 8) :
    RegsOnly l { s with mem := (t.setByte a b).mem } (t.setByte a b) := by
  obtain ⟨heq, hregs⟩ := h
  exact ⟨congrArg (fun u : State => { u with mem := (t.setByte a b).mem }) heq, hregs⟩

theorem State.flashStart_idle {s : State} (hb : s.flag R.FL_STATUS_BUSY = false) (write : Bool) (op ab len : Nat) :
    s.flashStart write op ab len = (s.flashShown write op ab len).send
      (.flash op ab (if ab = 0 then 0 else s.get R.FL_CMD_ADDR_ADDR) (if write then s.flBuf len else [])) := by
  have h := s.flashShown_regsOnly write op ab len
  rw [← h.get (g := R.FL_CMD_ADDR_ADDR) (by decide), ← h.flBuf (by decide) len]
  exact if_neg (by simp [hb])

/-- A raw flash command goes out and shows as it was given. -/
theorem State.flashStart_leaves {s : State} (hb : s.flag R.FL_STATUS_BUSY = false) (write : Bool) (op : Fin 256) (ab : Fin 3)
    (len : Fin 257) : let t := s.flashStart write op.val ab.val len.val
    t.flag R.FL_STATUS_BUSY = true ∧ t.flag R.FL_CMD_WRITE = write ∧
      t.get R.FL_CMD_OPCODE = op.val ∧ t.get R.FL_CMD_ADDR_BYTES = ab.val ∧ t.get R.FL_CMD_LEN = len.val ∧
      t.wire = .flash op.val ab.val (if ab.val = 0 then 0 else s.get R.FL_CMD_ADDR_ADDR) (if write then s.flBuf len.val else []) :: s.wire ∧
      RegsOnly flashFlds { s with wire := t.wire } t := by
  intro t
  have ht : t = _ := State.flashStart_idle hb write op.val ab.val len.val
  have hwire : t.wire = _ := congrArg State.wire ht
  refine ⟨?_, ?_, ?_, ?_, ?_, hwire, ?_⟩
  · rw [ht, State.flag, State.get_send]
    exact State.flag_put_same _ _ _ 0 0
  · rw [ht, State.flag, State.get_send, State.flashShown, State.get_put_ne _ _ _ _ _ _ (by decide)]
    exact (State.flag_put_same _ _ _ 0 0).trans (b2n_flag write)
  · rw [ht, State.get_send, State.flashShown, State.get_put_ne _ _ _ _ _ _ (by decide), State.get_put_ne _ _ _ _ _ _ (by decide),
      State.get_put_ne _ _ _ _ _ _ (by decide), State.get_put_ne _ _ _ _ _ _ (by decide), State.get_put_same]
    exact Nat.mod_eq_of_lt op.isLt
  · rw [ht, State.get_send, State.flashShown, State.get_put_ne _ _ _ _ _ _ (by decide), State.get_put_ne _ _ _ _ _ _ (by decide),
      State.get_put_ne _ _ _ _ _ _ (by decide), State.get_put_same]
    exact Nat.mod_eq_of_lt (ab.isLt.trans (by decide))
  · rw [ht, State.get_send, State.flashShown, State.get_put_ne _ _ _ _ _ _ (by decide), State.get_put_ne _ _ _ _ _ _ (by decide),
      State.get_put_same]
    exact Nat.mod_eq_of_lt (len.isLt.trans (by decide))
  · rw [hwire, ht]
    exact (s.flashShown_regsOnly write op.val ab.val len.val).send _

/-- The two raw commands, each with whether it writes. -/
theorem exec_flashCmd {s : State} {who : Initiator} {c : Instr} {write : Bool} {op : Fin 256} {ab : Fin 3} {len : Fin 257}
    (ht : s.takes who 0x71048 = true)
    (hc : (c, write) ∈ [(Instr.flashCmdFill who op ab len, false), (.flashCmdSend who op ab len, true)]) :
    exec c s = .next (s.flashStart write op.val ab.val len.val) := by
  simp only [List.mem_cons, List.not_mem_nil, or_false, Prod.mk.injEq] at hc
  rcases hc with ⟨rfl, rfl⟩ | ⟨rfl, rfl⟩
  all_goals exact congrArg _ (State.command_taken _ ht)

/-! ### The buffer of the flash page (R449) -/

/-- Byte k of FL_BUF. -/
def State.flByte (s : State) (k : Nat) : Byte := BitVec.ofNat 8 (s.get R.FL_BUF_DATA (k / 4) / 256 ^ (k % 4))

/-- A word with byte r at b. -/
def withByte (w r b : Nat) : Nat := w - w / 256 ^ r % 256 * 256 ^ r + b * 256 ^ r

/-- Byte k of FL_BUF written. -/
def State.flPut (s : State) (k : Nat) (b : Byte) : State :=
  s.put R.FL_BUF_DATA (withByte (s.get R.FL_BUF_DATA (k / 4)) (k % 4) b.toNat) (k / 4)

theorem State.flBuf_eq (s : State) (n : Nat) : s.flBuf n = (List.range n).map s.flByte := rfl

theorem State.flFill_cons (s : State) (k : Nat) (b : Byte) (bs : List Byte) : s.flFill k (b :: bs) = (s.flPut k b).flFill (k + 1) bs := rfl

theorem withByte_same (w : Nat) {r b : Nat} (hr : r < 4) (hb : b < 256) : withByte w r b % 2 ^ 32 / 256 ^ r % 256 = b := by
  unfold withByte
  interval_cases r <;> omega

theorem withByte_other (w : Nat) {r q b : Nat} (hr : r < 4) (hq : q < 4) (hne : r ≠ q) (hb : b < 256) :
    withByte w r b % 2 ^ 32 / 256 ^ q % 256 = w / 256 ^ q % 256 := by
  unfold withByte
  interval_cases r <;> interval_cases q <;> omega

theorem State.flByte_flPut_same (s : State) (k : Nat) (b : Byte) : (s.flPut k b).flByte k = b := by
  apply BitVec.eq_of_toNat_eq
  rw [State.flByte, State.flPut, State.get_put_same, BitVec.toNat_ofNat]
  exact withByte_same _ (Nat.mod_lt _ (by decide)) b.isLt

theorem State.flByte_flPut_ne (s : State) {k j : Nat} (b : Byte) (hk : k < 256) (hj : j < 256) (hne : k ≠ j) :
    (s.flPut k b).flByte j = s.flByte j := by
  unfold State.flByte State.flPut
  by_cases hword : k / 4 = j / 4
  · apply BitVec.eq_of_toNat_eq
    rw [hword, State.get_put_same, BitVec.toNat_ofNat, BitVec.toNat_ofNat]
    exact withByte_other _ (Nat.mod_lt _ (by decide)) (Nat.mod_lt _ (by decide)) (by omega) b.isLt
  · rw [State.get_put_inst _ _ _ _ (by omega)]

theorem State.flFill_flByte_before (s : State) {k j : Nat} {bs : List Byte} (hj : j < k) (hk : k + bs.length ≤ 256) :
    (s.flFill k bs).flByte j = s.flByte j := by
  induction bs generalizing s k with
  | nil => rfl
  | cons b bs ih =>
    rw [List.length_cons] at hk
    rw [State.flFill_cons, ih _ (by omega) (by omega), State.flByte_flPut_ne _ _ (by omega) (by omega) (by omega)]

theorem State.flFill_flByte (s : State) {k : Nat} {bs : List Byte} (hk : k + bs.length ≤ 256) (i : Nat) (hi : i < bs.length) :
    (s.flFill k bs).flByte (k + i) = bs[i] := by
  induction bs generalizing s k i with
  | nil => nomatch hi
  | cons b bs ih =>
    rw [List.length_cons] at hk hi
    rw [State.flFill_cons]
    cases i with
    | zero => exact (State.flFill_flByte_before _ (by omega) (by omega)).trans (State.flByte_flPut_same _ _ _)
    | succ i =>
      rw [show k + (i + 1) = k + 1 + i by omega, ih _ (by omega) i (by omega)]
      rfl

theorem State.flBuf_flFill (s : State) {bs : List Byte} (h : bs.length ≤ 256) : (s.flFill 0 bs).flBuf bs.length = bs := by
  refine List.ext_getElem (by simp [State.flBuf_eq]) fun i _ hi => ?_
  rw [List.getElem_of_eq (State.flBuf_eq _ _), List.getElem_map, List.getElem_range, ← State.flFill_flByte s (k := 0) (by omega) i hi,
    Nat.zero_add]

theorem RegsOnly.flFill {l : List Fld} {s0 s : State} (h : RegsOnly l s0 s) (hl : R.FL_BUF_DATA ∈ l) {k : Nat} {bs : List Byte} :
    RegsOnly l s0 (s.flFill k bs) := by
  induction bs generalizing s k with
  | nil => exact h
  | cons b bs ih => exact ih (h.put hl)

/-! ### The end of a raw flash command -/

section
variable {s : State} (hb : s.flag R.FL_STATUS_BUSY = true)
include hb

theorem execFlashCmdDone_writes (hw : s.flag R.FL_CMD_WRITE = true) {o : Nat} (ho : o < 0x20000000) (b : Byte) :
    exec (.flashCmdDone [] [(o, b)]) s = .next ((s.put R.FL_STATUS_BUSY 0).setByte (0x40000000 + o) b) := by
  have hwrite : (s.put R.FL_STATUS_BUSY 0).flag R.FL_CMD_WRITE = true := (State.flag_put_ne _ _ _ _ _ _ (by decide)).trans hw
  show execFlashCmdDone _ _ s = _
  simp [execFlashCmdDone, hb, hwrite, State.when, ho]

theorem execFlashCmdDone_fills (hw : s.flag R.FL_CMD_WRITE = false) {data : List Byte} (hlen : data.length ≤ s.get R.FL_CMD_LEN) :
    exec (.flashCmdDone data []) s = .next ((s.put R.FL_STATUS_BUSY 0).flFill 0 data) := by
  have hwrite : (s.put R.FL_STATUS_BUSY 0).flag R.FL_CMD_WRITE = false := (State.flag_put_ne _ _ _ _ _ _ (by decide)).trans hw
  have hget : (s.put R.FL_STATUS_BUSY 0).get R.FL_CMD_LEN = s.get R.FL_CMD_LEN := State.get_put_ne _ _ _ _ _ _ (by decide)
  show execFlashCmdDone _ _ s = _
  simp [execFlashCmdDone, hb, hwrite, State.when, hget, List.take_of_length_le hlen]

end

/-! ### O49 -/

/-- Settles O49: a copy moves the listed bytes of one bank to distinct places of the other, a prefetch's bytes fall on distinct places of
the buffer, a raw command shows in FL_CMD as it goes out, and the bytes of FL_BUF are written one by one. -/
theorem mixerFlashRows : Obligations.MixerFlashRows := by
  refine ⟨fun s who ht => ⟨fun hidle hpend hsvc hpair => ⟨_, execXpmCopy_begins ht hidle hpend hsvc hpair, s.copying_mirrored who⟩,
      execXpmCopy_busy ht⟩,
    fun s hbusy hw hbank => ⟨_, execXpmCopyDone_ends hbusy, State.bankCopied_shows hw hbank⟩,
    fun s who ht hd hpair => execDpoolRepack_asks ht hd hpair, ?_, fun s i c ht hfw hc hgood => ⟨fun hcrc => ?_, fun hcrc => ?_⟩,
    fun s who op ab len ht c write hc => ⟨fun hidle => ?_, fun hbusy => ?_⟩,
    fun s hb => ⟨fun o b hw ho => ?_, fun data hw hlen hfits => ?_⟩⟩
  · intro s i n d c hd p buf hc hphase hloop hlen hrest hroom hperm
    obtain ⟨hid, he⟩ := execClipPrefetchDone_eq (n := n) hd hc hphase
    rw [State.prefetch_fits (by rwa [hid]) hlen (by rwa [hid]) (by rwa [hid]) (by rwa [hid]), hid] at he
    exact ⟨_, he, s.prefetched_shows i.val c buf (by omega)⟩
  · refine ⟨_, execClipCrcCheckDone_marks hc ht hfw hgood hcrc, ?_, fun k hk => ?_, State.get_bump_same _ _ 0 0 (by decide)⟩
    · rw [State.bump, State.bumpBy_eq]
      exact Sparse.find_set_same _ _ _
    · rw [State.bump, State.bumpBy_eq]
      exact Sparse.find_set_ne _ _ hk.symm
  · exact execClipCrcCheckDone_passes hc hcrc
  · exact ⟨_, exec_flashCmd ht hc, State.flashStart_leaves hidle write op ab len⟩
  · rw [exec_flashCmd ht hc, State.flashStart_busy hbusy]
  · exact ⟨_, execFlashCmdDone_writes hb hw ho b, State.flag_put_same s R.FL_STATUS_BUSY 0 0 0, State.byte_setByte_same _ _ _,
      fun a ha => State.byte_setByte_ne _ _ ha.symm, ((RegsOnly.refl _ s).put (by decide)).setByte _ _⟩
  · have hfill : RegsOnly [R.FL_BUF_DATA] (s.put R.FL_STATUS_BUSY 0) ((s.put R.FL_STATUS_BUSY 0).flFill 0 data) :=
      (RegsOnly.refl _ _).flFill (by decide)
    refine ⟨_, execFlashCmdDone_fills hb hw hfits, State.flBuf_flFill _ hlen, ?_,
      ((RegsOnly.refl _ s).put (by decide)).flFill (by decide)⟩
    rw [hfill.flag (by decide)]
    exact State.flag_put_same s _ _ 0 0

end Sys2Proof.Machine

/-! PROOFS. The power stage: which channels and rails each of its operations reaches, and what the operations leave a channel and a rail with. -/

namespace Sys2Proof.Machine

/-! ### What an operation of the power stage reaches (R299 to R327) -/

/-- The registers that an operation on any channel or rail may write: the change bits, the events and the saturation of counters. -/
def commonFlds : List Fld := R.PCH_STATE_CHG_CHG :: eventFlds

/-- The registers of one channel that its own operations write. -/
def pchFlds : List Fld :=
  [R.PCH_STATUS_STATE, R.PCH_STATUS_OPEN_LOOP, R.PCH_STATUS_WAIT_RAIL, R.PCH_STATUS_CLK_MUTE, R.PCH_STATUS_CAUSE, R.PCH_STATUS_FAULT_SEEN,
   R.PCH_STATUS_RETRY_NUM, R.PCH_FAULT_INFO_CAUSE, R.PCH_FAULT_INFO_TICK, R.DIAG_RES_AC_RESULT, R.RETRY_CNT, R.SHUTDOWN_CNT, R.DC_FAULT_CNT]

/-- The registers of one rail that its own operations write. -/
def bstFlds : List Fld :=
  [R.BST_STATUS_STATE, R.BST_STATUS_CAUSE, R.BST_STATUS_FAULT_SEEN, R.BST_STATUS_PASS, R.BST_STATUS_RETRY_NUM, R.BST_VSET_VOLTS,
   R.BST_FAULT_INFO_CAUSE, R.BST_FAULT_INFO_TICK, R.BST_FAULT_CNT]

/-- The registers that the operations of the power stage write. -/
def stageFlds : List Fld := commonFlds ++ (pchFlds ++ bstFlds)

theorem commonFlds_subset_stageFlds : commonFlds ⊆ stageFlds := List.subset_append_left _ _

theorem pchFlds_subset_stageFlds : pchFlds ⊆ stageFlds :=
  List.Subset.trans (List.subset_append_left pchFlds bstFlds) (List.subset_append_right commonFlds _)

theorem bstFlds_subset_stageFlds : bstFlds ⊆ stageFlds :=
  List.Subset.trans (List.subset_append_right pchFlds bstFlds) (List.subset_append_right commonFlds _)

theorem common_apart : ∀ f ∈ commonFlds, ∀ g ∈ pchFlds ++ bstFlds, f.base ≠ g.base := by decide

theorem pch_bst_apart : ∀ f ∈ pchFlds, ∀ g ∈ bstFlds, f.base ≠ g.base := by decide

/-- Only the channels that C names and the rails that B names may differ between s and t, in their registers or behind them; where K holds,
what the thermistors hold of channels and rails is as before (R314). C and B name channels and rails by their number as
it stands in a register's key. -/
structure Reaches (C B : Nat → Prop) (K : Prop) (s t : State) : Prop where
  keeps : Keeps stageFlds s t
  ch : ∀ m, ¬C (m % 65536) → t.ch m = s.ch m
  rail : ∀ r, ¬B (r % 65536) → t.rail r = s.rail r
  pch : ∀ g ∈ pchFlds, ∀ m j, ¬C (m % 65536) → t.get g m j = s.get g m j
  bst : ∀ g ∈ bstFlds, ∀ r j, ¬B (r % 65536) → t.get g r j = s.get g r j
  chHeld : K → ∀ m, (t.ch m).ntcShut = (s.ch m).ntcShut
  railHeld : K → ∀ r, (t.rail r).ntcShut = (s.rail r).ntcShut ∧ (t.rail r).ntcWarn = (s.rail r).ntcWarn

section
variable {C B : Nat → Prop} {K : Prop} {s0 s : State}

theorem Reaches.refl (s : State) : Reaches C B K s s :=
  ⟨Keeps.refl _ _, fun _ _ => rfl, fun _ _ => rfl, fun _ _ _ _ _ => rfl, fun _ _ _ _ _ => rfl, fun _ _ => rfl, fun _ _ => ⟨rfl, rfl⟩⟩

theorem Reaches.trans {t u : State} (h : Reaches C B K s t) (h' : Reaches C B K t u) : Reaches C B K s u where
  keeps := h.keeps.trans h'.keeps
  ch m hm := (h'.ch m hm).trans (h.ch m hm)
  rail r hr := (h'.rail r hr).trans (h.rail r hr)
  pch g hg m j hm := (h'.pch g hg m j hm).trans (h.pch g hg m j hm)
  bst g hg r j hr := (h'.bst g hg r j hr).trans (h.bst g hg r j hr)
  chHeld hK m := (h'.chHeld hK m).trans (h.chHeld hK m)
  railHeld hK r := ⟨(h'.railHeld hK r).1.trans (h.railHeld hK r).1, (h'.railHeld hK r).2.trans (h.railHeld hK r).2⟩

/-- A change of registers that all may write, and of nothing of the power stage. -/
theorem Reaches.common {t : State} (h : Reaches C B K s0 s) (hk : Keeps commonFlds s t) (hp : t.power = s.power) : Reaches C B K s0 t := by
  have hch (m : Nat) : t.ch m = s.ch m := by rw [State.ch, hp, State.ch]
  have hrail (r : Nat) : t.rail r = s.rail r := by rw [State.rail, hp, State.rail]
  refine h.trans ⟨hk.mono commonFlds_subset_stageFlds, fun m _ => hch m, fun r _ => hrail r, fun g hg m j _ => hk.regs g m j ?_,
    fun g hg r j _ => hk.regs g r j ?_, fun _ m => by rw [hch], fun _ r => by rw [hrail]; exact ⟨rfl, rfl⟩⟩
  · exact fun f hf => common_apart f hf g (List.mem_append_left _ hg)
  · exact fun f hf => common_apart f hf g (List.mem_append_right _ hg)

theorem Reaches.raise (h : Reaches C B K s0 s) {e : Nat} : Reaches C B K s0 (s.raise e) :=
  h.common (s.raise_keeps e |>.mono (List.subset_cons_self _ _)) (by rw [s.raise_records e])

theorem Reaches.putCommon (h : Reaches C B K s0 s) {f : Fld} (hf : f ∈ commonFlds) {v i j : Nat} : Reaches C B K s0 (s.put f v i j) :=
  h.common ((Keeps.refl _ s).put hf) rfl

/-- An update of parts of the state that neither `Keeps` nor the power stage speaks of. -/
theorem Reaches.set (h : Reaches C B K s0 s) {diag wire} : Reaches C B K s0 { s with diag := diag, wire := wire } :=
  h.common (Keeps.refl _ s).set rfl

theorem Reaches.send (h : Reaches C B K s0 s) {o : Out} : Reaches C B K s0 (s.send o) := h.set

theorem Reaches.ite {t u : State} {c : Prop} [Decidable c] (ht : Reaches C B K s0 t) (hu : Reaches C B K s0 u) :
    Reaches C B K s0 (if c then t else u) := by
  split
  · exact ht
  · exact hu

theorem Reaches.when (h : Reaches C B K s0 s) {b : Bool} {f : State → State} (hf : ∀ t, Reaches C B K s0 t → Reaches C B K s0 (f t)) :
    Reaches C B K s0 (s.when b f) := Reaches.ite (hf s h) h

theorem Reaches.each (h : Reaches C B K s0 s) {n : Nat} {f : State → Nat → State}
    (hf : ∀ t k, k < n → Reaches C B K s0 t → Reaches C B K s0 (f t k)) : Reaches C B K s0 (s.each n f) :=
  State.each_rec (P := fun _ => Reaches C B K s0) h fun k t => hf t k

theorem State.ch_modCh_same (s : State) (n : Nat) (f : PchHid → PchHid) : (s.modCh n f).ch n = f (s.ch n) := Sparse.get_put_same _ _ _ _

theorem State.ch_modCh_ne (s : State) {n m : Nat} (f : PchHid → PchHid) (h : n ≠ m) : (s.modCh n f).ch m = s.ch m :=
  Sparse.get_put_ne _ _ _ _ h

theorem State.rail_modRail_same (s : State) (r : Nat) (f : RailHid → RailHid) : (s.modRail r f).rail r = f (s.rail r) :=
  Sparse.get_put_same _ _ _ _

theorem State.rail_modRail_ne (s : State) {r q : Nat} (f : RailHid → RailHid) (h : r ≠ q) : (s.modRail r f).rail q = s.rail q :=
  Sparse.get_put_ne _ _ _ _ h

end

/-! ### Operations on one channel -/

section
variable {C B : Nat → Prop} {K : Prop} {n : Nat} (hn : C (n % 65536)) {s0 s : State}
include hn

theorem Reaches.modCh (h : Reaches C B K s0 s) {f : PchHid → PchHid}
    (hf : K → ∀ x, (f x).ntcShut = x.ntcShut := by exact fun _ _ => rfl) :
    Reaches C B K s0 (s.modCh n f) := by
  have hne {m : Nat} (hm : ¬C (m % 65536)) : n ≠ m := fun e => hm (e ▸ hn)
  refine h.trans ⟨(Keeps.refl _ s).modCh, fun m hm => s.ch_modCh_ne f (hne hm), fun _ _ => rfl, fun _ _ _ _ _ => rfl, fun _ _ _ _ _ => rfl,
    fun hK m => ?_, fun _ _ => ⟨rfl, rfl⟩⟩
  by_cases hm : n = m
  · rw [← hm, s.ch_modCh_same]
    exact hf hK _
  · rw [s.ch_modCh_ne f hm]

theorem Reaches.put (h : Reaches C B K s0 s) {f : Fld} (hf : f ∈ pchFlds) {v : Nat} : Reaches C B K s0 (s.put f v n) := by
  refine h.trans ⟨(Keeps.refl _ s).put (pchFlds_subset_stageFlds hf), fun _ _ => rfl, fun _ _ => rfl, fun g _ m j hm => ?_,
    fun g hg r j _ => s.get_put_ne v n 0 r j (pch_bst_apart f hf g hg), fun _ _ => rfl, fun _ _ => ⟨rfl, rfl⟩⟩
  exact s.get_put_key v fun e => hm (((Fld.key_eq_iff f g n 0 m j).1 e).2.1 ▸ hn)

theorem Reaches.bump (h : Reaches C B K s0 s) {f : Fld} (hf : f ∈ pchFlds) : Reaches C B K s0 (s.bump f n) :=
  Reaches.ite ((h.put hn hf).putCommon (by decide)) (h.put hn hf)

theorem Reaches.enterCh (h : Reaches C B K s0 s) {st : Nat} : Reaches C B K s0 (s.enterCh n st) :=
  Reaches.ite h (((((h.modCh hn).put hn (by decide)).putCommon (by decide)).put hn (by decide)).raise)

theorem Reaches.applyFeed (h : Reaches C B K s0 s) : Reaches C B K s0 (s.applyFeed n) :=
  Reaches.ite (h.modCh hn) ((h.modCh hn).put hn (by decide))

theorem Reaches.chDead (h : Reaches C B K s0 s) {st : Nat} : Reaches C B K s0 (s.chDead n st) :=
  (((h.modCh hn).applyFeed hn).put hn (by decide)).enterCh hn

theorem Reaches.chMark (h : Reaches C B K s0 s) {cause : Nat} : Reaches C B K s0 (s.chMark n cause) :=
  (h.put hn (by decide)).put hn (by decide)

theorem Reaches.chFault (h : Reaches C B K s0 s) {cause : Nat} : Reaches C B K s0 (s.chFault n cause) :=
  (((h.chMark hn).put hn (by decide)).put hn (by decide)).raise

theorem Reaches.retryFails (h : Reaches C B K s0 s) : Reaches C B K s0 (s.retryFails n) := by
  have hput (v : Nat) : Reaches C B K s0 (s.put R.PCH_STATUS_RETRY_NUM v n) := h.put hn (by decide)
  exact Reaches.ite (((((hput _).bump hn (by decide)).raise).modCh hn).chDead hn) ((hput _).chDead hn)

theorem Reaches.diagCut (h : Reaches C B K s0 s) : Reaches C B K s0 (s.diagCut n) := by
  have hstep : Reaches C B K s0 { s with diag := { s.diag with step := 10 } } := h.set
  exact Reaches.ite ((hstep.put hn (by decide)).when fun _ ht => ht.send) h

theorem Reaches.chTrip (h : Reaches C B K s0 s) {cause : Nat} : Reaches C B K s0 (s.chTrip n cause) := by
  have ht : Reaches C B K s0 (((s.diagCut n).chFault n cause).bump R.SHUTDOWN_CNT n) :=
    ((h.diagCut hn).chFault hn).bump hn (by decide)
  exact Reaches.ite (ht.retryFails hn) (ht.chDead hn)

theorem Reaches.gainRun (h : Reaches C B K s0 s) {dir : Nat} {e : GainEnd} : Reaches C B K s0 (s.gainRun n dir e) :=
  h.modCh hn

theorem Reaches.rampDown (h : Reaches C B K s0 s) : Reaches C B K s0 (s.rampDown n) := (h.modCh hn).enterCh hn

theorem Reaches.rampUp (h : Reaches C B K s0 s) : Reaches C B K s0 (s.rampUp n) :=
  Reaches.ite ((h.chFault hn).chDead hn)
    (((((h.applyFeed hn).put hn (by decide)).modCh hn).put hn (by decide)).enterCh hn)

theorem Reaches.dcTest (h : Reaches C B K s0 s) {kind : Nat} : Reaches C B K s0 (s.dcTest n kind) :=
  ((h.modCh hn).put hn (by decide)).enterCh hn

theorem Reaches.chStart (h : Reaches C B K s0 s) : Reaches C B K s0 (s.chStart n) :=
  Reaches.ite h (Reaches.ite (h.put hn (by decide)) (Reaches.ite ((h.modCh hn).dcTest hn) (h.rampUp hn)))

theorem Reaches.retryGo (h : Reaches C B K s0 s) : Reaches C B K s0 (s.retryGo n) :=
  Reaches.ite (h.chDead hn) (Reaches.ite ((h.modCh hn).put hn (by decide)) ((h.modCh hn).dcTest hn))

theorem Reaches.chResume (h : Reaches C B K s0 s) : Reaches C B K s0 (s.chResume n) :=
  Reaches.ite (h.chDead hn) (Reaches.ite (h.put hn (by decide)) (h.rampUp hn))

theorem Reaches.chStop (h : Reaches C B K s0 s) {goal : Nat} : Reaches C B K s0 (s.chStop n goal) := by
  unfold State.chStop
  extract_lets t st u
  have ht : Reaches C B K s0 t := h.modCh hn
  have hu : Reaches C B K s0 u := ht.modCh hn
  split
  · exact (hu.rampDown hn).ite (hu.gainRun hn)
  · split
    · exact hu.ite ((hu.modCh hn).gainRun hn)
    · split
      · exact hu.rampDown hn
      · split
        · exact hu
        · split
          · exact ht.ite (Reaches.ite ((hu.diagCut hn).rampDown hn) ((ht.diagCut hn).chDead hn))
          · exact Reaches.ite (Reaches.ite (ht.chDead hn) (ht.chDead hn)) (Reaches.ite (ht.put hn (by decide)) ht)

end
/-! ### Operations on one rail -/

section
variable {C B : Nat → Prop} {K : Prop} {r : Nat} {s0 s : State}

/-- A rail fault before its channels follow: f are the faults of its last 60 s. -/
def State.railTripped (s : State) (r cause : Nat) (f : List Nat) (latched : Bool) : State :=
  let t := s.modRail r (fun x => { x with cmd := 0, setp := 0, faults := f })
  let t := ((t.put R.BST_STATUS_CAUSE cause r).put R.BST_STATUS_FAULT_SEEN 1 r).put R.BST_STATUS_RETRY_NUM (min 3 f.length) r
  let t := ((t.put R.BST_FAULT_INFO_CAUSE cause r).put R.BST_FAULT_INFO_TICK (s.tickNum % 65536) r).bump R.BST_FAULT_CNT r
  ((t.raise (EV_BOOST_A_FAULT + r)).put R.BST_STATUS_STATE (if latched then 4 else 3) r).railShow r

theorem State.railFault_split (s : State) (r cause : Nat) :
    ∃ f latched, s.railFault r cause = (s.railTripped r cause f latched).railDrops r latched := ⟨_, _, rfl⟩

/-- What the fault of its rail does to one channel (R321). -/
def State.railDropCh (s : State) (n : Nat) (latched : Bool) : State :=
  if switching (s.chState n) then
    let u := ((s.chMark n 6).modCh n (fun x => { x with railAt := some s.tg })).chDead n (if latched then chOff else chRetry)
    if latched then u else u.put R.PCH_STATUS_WAIT_RAIL 1 n
  else if latched && s.chState n = chRetry && s.get R.PCH_STATUS_CAUSE n == 6 then s.chDead n chOff
  else s

theorem State.railDrops_eq (s : State) (r : Nat) (latched : Bool) :
    s.railDrops r latched = s.each 4 (fun t k => t.railDropCh (4 * r + k) latched) := rfl

theorem Reaches.railDropCh {n : Nat} (hn : C (n % 65536)) (h : Reaches C B K s0 s) {latched : Bool} :
    Reaches C B K s0 (s.railDropCh n latched) := by
  unfold State.railDropCh
  extract_lets u
  have hu : Reaches C B K s0 u := ((h.chMark hn).modCh hn).chDead hn
  exact (hu.ite (hu.put hn (by decide))).ite (Reaches.ite (h.chDead hn) h)

theorem Reaches.railDrops (hc : ∀ k, k < 4 → C ((4 * r + k) % 65536)) (h : Reaches C B K s0 s) {latched : Bool} :
    Reaches C B K s0 (s.railDrops r latched) := h.each fun _ k hk ht => ht.railDropCh (hc k hk)

section
variable (hr : B (r % 65536))
include hr

theorem Reaches.modRail (h : Reaches C B K s0 s) {f : RailHid → RailHid}
    (hf : K → ∀ x, (f x).ntcShut = x.ntcShut ∧ (f x).ntcWarn = x.ntcWarn := by exact fun _ _ => ⟨rfl, rfl⟩) :
    Reaches C B K s0 (s.modRail r f) := by
  have hne {q : Nat} (hq : ¬B (q % 65536)) : r ≠ q := fun e => hq (e ▸ hr)
  refine h.trans ⟨(Keeps.refl _ s).modRail, fun _ _ => rfl, fun q hq => s.rail_modRail_ne f (hne hq), fun _ _ _ _ _ => rfl,
    fun _ _ _ _ _ => rfl, fun _ _ => rfl, fun hK q => ?_⟩
  by_cases hq : r = q
  · rw [← hq, s.rail_modRail_same]
    exact hf hK _
  · rw [s.rail_modRail_ne f hq]
    exact ⟨rfl, rfl⟩

theorem Reaches.putRail (h : Reaches C B K s0 s) {f : Fld} (hf : f ∈ bstFlds) {v : Nat} : Reaches C B K s0 (s.put f v r) := by
  refine h.trans ⟨(Keeps.refl _ s).put (bstFlds_subset_stageFlds hf), fun _ _ => rfl, fun _ _ => rfl,
    fun g hg m j _ => s.get_put_ne v r 0 m j (pch_bst_apart g hg f hf).symm, fun g _ q j hq => ?_, fun _ _ => rfl, fun _ _ => ⟨rfl, rfl⟩⟩
  exact s.get_put_key v fun e => hq (((Fld.key_eq_iff f g r 0 q j).1 e).2.1 ▸ hr)

theorem Reaches.bumpRail (h : Reaches C B K s0 s) {f : Fld} (hf : f ∈ bstFlds) : Reaches C B K s0 (s.bump f r) :=
  Reaches.ite ((h.putRail hr hf).putCommon (by decide)) (h.putRail hr hf)

theorem Reaches.railShow (h : Reaches C B K s0 s) : Reaches C B K s0 (s.railShow r) :=
  (h.putRail hr (by decide)).putRail hr (by decide)

theorem Reaches.railOff (h : Reaches C B K s0 s) {cause : Nat} : Reaches C B K s0 (s.railOff r cause) := by
  unfold State.railOff
  extract_lets t u
  have ht : Reaches C B K s0 t := (h.modRail hr).putRail hr (by decide)
  have hu : Reaches C B K s0 u := ht.ite ((ht.putRail hr (by decide)).putRail hr (by decide))
  exact hu.railShow hr

theorem Reaches.railRest (h : Reaches C B K s0 s) : Reaches C B K s0 (s.railRest r) := Reaches.ite (h.railOff hr) h

theorem Reaches.railTripped (h : Reaches C B K s0 s) {cause : Nat} {f : List Nat} {latched : Bool} :
    Reaches C B K s0 (s.railTripped r cause f latched) := by
  unfold State.railTripped
  extract_lets t t1 t2
  have ht : Reaches C B K s0 t := h.modRail hr
  have ht1 : Reaches C B K s0 t1 := ((ht.putRail hr (by decide)).putRail hr (by decide)).putRail hr (by decide)
  have ht2 : Reaches C B K s0 t2 := ((ht1.putRail hr (by decide)).putRail hr (by decide)).bumpRail hr (by decide)
  exact (ht2.raise.putRail hr (by decide)).railShow hr

theorem Reaches.railFault (hc : ∀ k, k < 4 → C ((4 * r + k) % 65536)) (h : Reaches C B K s0 s) {cause : Nat} :
    Reaches C B K s0 (s.railFault r cause) := by
  obtain ⟨f, latched, he⟩ := s.railFault_split r cause
  rw [he]
  exact (h.railTripped hr).railDrops hc

theorem Reaches.railNtc (hc : ∀ k, k < 4 → C ((4 * r + k) % 65536)) (h : Reaches C B K s0 s) : Reaches C B K s0 (s.railNtc r) :=
  Reaches.ite (h.railFault hr hc) h

end

/-! What starts on a rail may be a channel of any, a commanded test's (R339). -/

section
variable (hc : ∀ n, C n)
include hc

theorem Reaches.diagRail (h : Reaches C B K s0 s) : Reaches C B K s0 s.diagRail := by
  have hstep : Reaches C B K s0 { s with diag := { s.diag with step := 1 } } := h.set
  unfold State.diagRail
  split
  · exact Reaches.ite (hstep.dcTest (hc _)) h
  · exact h

theorem Reaches.railReached (h : Reaches C B K s0 s) : Reaches C B K s0 (s.railReached r) :=
  Reaches.diagRail hc (h.each fun _ _ _ ht => Reaches.ite (ht.chStart (hc _)) (Reaches.ite (ht.chResume (hc _))
    (Reaches.ite (ht.chResume (hc _)) (Reaches.ite (ht.retryGo (hc _)) ht))))

variable (hr : B (r % 65536))
include hr

theorem Reaches.railTrack (h : Reaches C B K s0 s) : Reaches C B K s0 (s.railTrack r) :=
  (((h.modRail hr).putRail hr (by decide)).railShow hr).railReached hc

theorem Reaches.railSoft (h : Reaches C B K s0 s) : Reaches C B K s0 (s.railSoft r) := by
  unfold State.railSoft
  extract_lets vin t
  have ht : Reaches C B K s0 t := (h.modRail hr).putRail hr (by decide)
  exact Reaches.ite (ht.railTrack hc hr) (ht.railShow hr)

theorem Reaches.railEval (h : Reaches C B K s0 s) : Reaches C B K s0 (s.railEval r) :=
  Reaches.ite (h.railRest hr) (Reaches.ite (h.railSoft hc hr) h)

end

end

/-! ### What a change of registers leaves behind them -/

theorem RecordsOnly.power {s t : State} (h : RecordsOnly s t) : t.power = s.power := by rw [h]

theorem State.ch_of_power {s t : State} (h : t.power = s.power) (n : Nat) : t.ch n = s.ch n := by rw [State.ch, h, State.ch]

theorem State.rail_of_power {s t : State} (h : t.power = s.power) (r : Nat) : t.rail r = s.rail r := by rw [State.rail, h, State.rail]

@[simp] theorem State.ch_put (s : State) (f : Fld) (v i j n : Nat) : (s.put f v i j).ch n = s.ch n := rfl

@[simp] theorem State.rail_put (s : State) (f : Fld) (v i j r : Nat) : (s.put f v i j).rail r = s.rail r := rfl

@[simp] theorem State.ch_send (s : State) (o : Out) (n : Nat) : (s.send o).ch n = s.ch n := rfl

@[simp] theorem State.ch_raise (s : State) (e n : Nat) : (s.raise e).ch n = s.ch n := State.ch_of_power (s.raise_records e).power n

@[simp] theorem State.rail_raise (s : State) (e r : Nat) : (s.raise e).rail r = s.rail r := State.rail_of_power (s.raise_records e).power r

@[simp] theorem State.ch_bumpBy (s : State) (f : Fld) (k i j n : Nat) : (s.bumpBy f k i j).ch n = s.ch n := by rw [State.bumpBy_eq]; rfl

@[simp] theorem State.ch_bump (s : State) (f : Fld) (i j n : Nat) : (s.bump f i j).ch n = s.ch n := s.ch_bumpBy f 1 i j n

@[simp] theorem State.rail_bumpBy (s : State) (f : Fld) (k i j r : Nat) : (s.bumpBy f k i j).rail r = s.rail r := by
  rw [State.bumpBy_eq]; rfl

@[simp] theorem State.rail_bump (s : State) (f : Fld) (i j r : Nat) : (s.bump f i j).rail r = s.rail r := s.rail_bumpBy f 1 i j r

@[simp] theorem State.get_modCh (s : State) (n : Nat) (f : PchHid → PchHid) (g : Fld) (i j : Nat) : (s.modCh n f).get g i j = s.get g i j := rfl

@[simp] theorem State.flag_modCh (s : State) (n : Nat) (f : PchHid → PchHid) (g : Fld) (i j : Nat) :
    (s.modCh n f).flag g i j = s.flag g i j := rfl

@[simp] theorem State.chState_modCh (s : State) (n m : Nat) (f : PchHid → PchHid) : (s.modCh n f).chState m = s.chState m := rfl

/-! ### What a channel is left with when it moves (R305, R306) -/

/-- The registers that a move of a channel writes. -/
def moveFlds : List Fld :=
  [R.PCH_STATUS_STATE, R.PCH_STATUS_OPEN_LOOP, R.PCH_STATUS_WAIT_RAIL, R.PCH_STATUS_CLK_MUTE, R.PCH_STATE_CHG_CHG] ++ eventFlds

theorem eventFlds_subset_moveFlds : eventFlds ⊆ moveFlds := List.subset_append_right _ _

section
variable {l : List Fld} (hl : moveFlds ⊆ l) {s0 s : State} {n : Nat}
include hl

theorem Keeps.enterCh_moves (h : Keeps l s0 s) {st : Nat} : Keeps l s0 (s.enterCh n st) :=
  Keeps.ite h ((((h.modCh.put (hl (by decide))).putBit (hl (by decide))).put (hl (by decide))).raise
    (List.Subset.trans eventFlds_subset_moveFlds hl))

theorem Keeps.applyFeed_moves (h : Keeps l s0 s) : Keeps l s0 (s.applyFeed n) := Keeps.ite h.modCh (h.modCh.put (hl (by decide)))

theorem Keeps.chDead_moves (h : Keeps l s0 s) {st : Nat} : Keeps l s0 (s.chDead n st) :=
  ((h.modCh.applyFeed_moves hl).put (hl (by decide))).enterCh_moves hl

theorem Keeps.rampDown_moves (h : Keeps l s0 s) : Keeps l s0 (s.rampDown n) := h.modCh.enterCh_moves hl

end

theorem State.enterCh_moved (s : State) (n st : Nat) : Keeps moveFlds s (s.enterCh n st) :=
  (Keeps.refl _ s).enterCh_moves (List.Subset.refl _)

theorem State.chDead_moved (s : State) (n st : Nat) : Keeps moveFlds s (s.chDead n st) := (Keeps.refl _ s).chDead_moves (List.Subset.refl _)

/-- Beside registers and the event's records a move changes the power stage alone. -/
theorem State.enterCh_records (s : State) (n st : Nat) : ∃ p, RecordsOnly { s with power := p } (s.enterCh n st) := by
  unfold State.enterCh
  extract_lets old keeps t
  split
  · exact ⟨s.power, rfl⟩
  · exact ⟨t.power, (RecordsOnly.refl t).put.put.put.raise⟩

/-- A move marks the pilot window alone (R344). -/
theorem State.enterCh_ch (s : State) (n st : Nat) : ∃ bad, (s.enterCh n st).ch n = { s.ch n with pilotBad := bad } := by
  unfold State.enterCh
  extract_lets old keeps t
  split
  · exact ⟨_, rfl⟩
  · have ht : t.ch n = _ := s.ch_modCh_same n _
    exact ⟨_, (State.ch_raise _ _ _).trans ht⟩

theorem State.applyFeed_ch (s : State) (n : Nat) : ∃ feed mod slipped bad,
    (s.applyFeed n).ch n = { s.ch n with feed := feed, mod := mod, slipped := slipped, pilotBad := bad } := by
  unfold State.applyFeed
  extract_lets t
  have ht : t.ch n = _ := s.ch_modCh_same n _
  split
  · exact ⟨_, _, _, _, ht⟩
  · exact ⟨_, _, _, _, ht⟩

/-- A channel whose bridges have stopped (R305): nothing of its ramps and tests is left, and its retries and what its thermistor holds are. -/
theorem State.chDead_ch (s : State) (n st : Nat) : ∃ feed mod slipped bad, (s.chDead n st).ch n = { s.ch n with
    gain := 0, dir := 0, gainEnd := .stay, cm := 0, stopTo := 0, test := 0, expired := false, react := 1000000
    feed := feed, mod := mod, slipped := slipped, pilotBad := bad } := by
  unfold State.chDead
  extract_lets t
  obtain ⟨feed, mod, slipped, bad, hfeed⟩ := t.applyFeed_ch n
  obtain ⟨bad', henter⟩ := ((t.applyFeed n).put R.PCH_STATUS_WAIT_RAIL 0 n).enterCh_ch n st
  rw [henter, State.ch_put, hfeed, show t.ch n = _ from s.ch_modCh_same n _]
  exact ⟨_, _, _, _, rfl⟩

/-- The common mode begins to fall (R306): from full height where the channel was neither rising nor under a test. -/
theorem State.rampDown_ch (s : State) (n : Nat) : ∃ cm bad, (s.rampDown n).ch n = { s.ch n with
      cm := cm, cmTotal := s.get R.PCH_CFG_CM_RAMP n * 30720, gain := 0, dir := 0, gainEnd := .stay, pilotBad := bad } ∧
    (s.chState n ≠ chUp → s.chState n ≠ chDiag → cm = s.get R.PCH_CFG_CM_RAMP n * 30720) := by
  unfold State.rampDown
  extract_lets total t
  obtain ⟨bad, henter⟩ := t.enterCh_ch n chDown
  rw [henter, show t.ch n = _ from s.ch_modCh_same n _]
  exact ⟨_, _, rfl, fun hup hdiag => if_neg (not_or.2 ⟨hup, hdiag⟩)⟩

theorem State.rampDown_chState (s : State) {n m : Nat} (hn : n < 8) (hm : m < 8) :
    (s.rampDown n).chState m = if m = n then chDown else s.chState m := by
  unfold State.rampDown
  extract_lets total t
  exact t.enterCh_chState hn hm (by decide)

/-- A move raises EV_PCH_STATE. -/
theorem State.enterCh_sticky {s : State} {n st : Nat} (h : s.chState n ≠ st) : (s.enterCh n st).sticky EV_PCH_STATE = true := by
  unfold State.enterCh
  extract_lets old keeps t
  rw [if_neg h]
  exact State.sticky_raise_same _ _

theorem State.chDead_sticky {s : State} {n st : Nat} (h : s.chState n ≠ st) : (s.chDead n st).sticky EV_PCH_STATE = true := by
  unfold State.chDead
  extract_lets t
  refine State.enterCh_sticky ?_
  have hk : Keeps sideFlds s ((t.applyFeed n).put R.PCH_STATUS_WAIT_RAIL 0 n) :=
    ((Keeps.refl _ s).modCh.applyFeed (List.Subset.refl _)).put (by decide)
  rwa [hk.chState]

theorem State.rampDown_sticky {s : State} {n : Nat} (h : s.chState n ≠ chDown) : (s.rampDown n).sticky EV_PCH_STATE = true := by
  unfold State.rampDown
  exact State.enterCh_sticky h

/-! ### Faults of a channel (R310, R311) -/

/-- The registers that a fault of a channel writes. -/
def faultFlds : List Fld :=
  [R.PCH_STATUS_CAUSE, R.PCH_STATUS_FAULT_SEEN, R.PCH_FAULT_INFO_CAUSE, R.PCH_FAULT_INFO_TICK] ++ eventFlds

/-- What a fault of a channel shows, for the reader and for the host. -/
structure Faulted (t : State) (n cause : Nat) : Prop where
  status : t.get R.PCH_STATUS_CAUSE n = cause
  seen : t.flag R.PCH_STATUS_FAULT_SEEN n = true
  info : t.get R.PCH_FAULT_INFO_CAUSE n = cause
  sticky : t.sticky (EV_PCH0_FAULT + n) = true

theorem State.chFault_keeps (s : State) (n cause : Nat) : Keeps faultFlds s (s.chFault n cause) :=
  (((((Keeps.refl _ s).put (by decide)).put (by decide)).put (by decide)).put (by decide)).raise (List.subset_append_right _ _)

@[simp] theorem State.chFault_ch (s : State) (n cause m : Nat) : (s.chFault n cause).ch m = s.ch m := State.ch_raise _ _ _

theorem State.chFault_shows (s : State) (n : Nat) {cause : Nat} (hc : cause < 16) : Faulted (s.chFault n cause) n cause := by
  have hk : Keeps eventFlds _ (s.chFault n cause) := State.raise_keeps _ _
  have hmod : cause % 2 ^ 4 = cause := Nat.mod_eq_of_lt hc
  refine ⟨?_, ?_, ?_, State.sticky_raise_same _ _⟩
  · rw [hk.regs _ _ _ (by decide), State.get_put_ne _ _ _ _ _ _ (by decide), State.get_put_ne _ _ _ _ _ _ (by decide), State.chMark,
      State.get_put_ne _ _ _ _ _ _ (by decide), State.get_put_same]
    exact hmod
  · rw [hk.flag (by decide), State.flag_put_ne _ _ _ _ _ _ (by decide), State.flag_put_ne _ _ _ _ _ _ (by decide), State.chMark,
      State.flag_put_same]
    rfl
  · rw [hk.regs _ _ _ (by decide), State.get_put_ne _ _ _ _ _ _ (by decide), State.get_put_same]
    exact hmod

/-- A fault shows on past what writes none of its registers and clears no event. -/
theorem Faulted.later {t u : State} {n cause : Nat} {l : List Fld} (h : Faulted t n cause) (hk : Keeps l t u) (hc : Calm t u)
    (hl : ∀ f ∈ l, ∀ g ∈ [R.PCH_STATUS_CAUSE, R.PCH_STATUS_FAULT_SEEN, R.PCH_FAULT_INFO_CAUSE], f.base ≠ g.base) : Faulted u n cause where
  status := (hk.regs _ _ _ fun f hf => hl f hf _ (by decide)).trans h.status
  seen := (hk.flag (fun f hf => hl f hf _ (by decide)) _ _).trans h.seen
  info := (hk.regs _ _ _ fun f hf => hl f hf _ (by decide)).trans h.info
  sticky := hc.sticky _ h.sticky

theorem Calm.retryFails {s0 s : State} (h : Calm s0 s) {n : Nat} : Calm s0 (s.retryFails n) :=
  Calm.ite (((h.put (by decide)).bump (by decide)).raise.modCh.chDead) (h.put (by decide)).chDead

/-- The registers that a failed retry writes. -/
def retryFlds : List Fld := [R.PCH_STATUS_RETRY_NUM, R.RETRY_CNT] ++ moveFlds

theorem State.retryFails_keeps (s : State) (n : Nat) : Keeps retryFlds s (s.retryFails n) := by
  have hl : moveFlds ⊆ retryFlds := List.subset_append_right _ _
  have hput (v : Nat) : Keeps retryFlds s (s.put R.PCH_STATUS_RETRY_NUM v n) := (Keeps.refl _ s).put (by decide)
  exact Keeps.ite ((((hput _).bump (by decide) (by decide)).raise (List.Subset.trans eventFlds_subset_moveFlds hl)).modCh.chDead_moves hl)
    ((hput _).chDead_moves hl)

/-! ### What one step of a loop brings about -/

/-- What the loop's step m brings about of a state that the steps before it have left alone, and the steps after it leave. -/
theorem State.each_at {P Q : State → Prop} {s : State} {n m : Nat} {f : State → Nat → State} (hm : m < n) (h0 : P s)
    (hpre : ∀ k t, k < n → k ≠ m → P t → P (f t k)) (hat : ∀ t, P t → Q (f t m)) (hpost : ∀ k t, k < n → k ≠ m → Q t → Q (f t k)) :
    Q (s.each n f) := by
  have hall : if n ≤ m then P (s.each n f) else Q (s.each n f) := by
    refine State.each_rec (P := fun k t => if k ≤ m then P t else Q t) (by simpa using h0) fun k t hk ht => ?_
    rcases Nat.lt_trichotomy k m with hlt | rfl | hgt
    · rw [if_pos (Nat.le_of_lt hlt)] at ht
      rw [if_pos (Nat.succ_le_of_lt hlt)]
      exact hpre k t hk (Nat.ne_of_lt hlt) ht
    · rw [if_pos (Nat.le_refl k)] at ht
      rw [if_neg (Nat.not_succ_le_self k)]
      exact hat t ht
    · rw [if_neg (Nat.not_le_of_lt hgt)] at ht
      rw [if_neg (by omega)]
      exact hpost k t hk (Nat.ne_of_gt hgt) ht
  rwa [if_neg (Nat.not_le_of_lt hm)] at hall

end Sys2Proof.Machine

/-! PROOFS. Supplies (O52). -/

namespace Sys2Proof.Machine

/-! ### A warning shows (R322, R323, R487) -/

/-- A live bit set with its memory and its event. -/
theorem State.warned_shows (s : State) {live seen : Fld} (e : Nat) (hlive : live.width = 1) (hseen : seen.width = 1)
    (hne : seen.base ≠ live.base) (hel : ∀ f ∈ eventFlds, f.base ≠ live.base) (hes : ∀ f ∈ eventFlds, f.base ≠ seen.base)
    (hlb : live.base ≠ R.EVT_LOG_BASE_BASE.base) (hsb : seen.base ≠ R.EVT_LOG_BASE_BASE.base) :
    (((s.put live 1).put seen 1).raise e).flag live = true ∧ (((s.put live 1).put seen 1).raise e).flag seen = true ∧
      (((s.put live 1).put seen 1).raise e).sticky e = true ∧ RaisesOnly [live, seen] s (((s.put live 1).put seen 1).raise e) := by
  have hk := State.raise_keeps ((s.put live 1).put seen 1) e
  have hregs : RegsOnly [live, seen] s ((s.put live 1).put seen 1) := ((RegsOnly.refl _ s).put (by simp)).put (by simp)
  refine ⟨?_, ?_, State.sticky_raise_same _ _, hregs.raise ?_ ?_ e⟩
  · rw [hk.flag hel, State.flag_put_ne _ _ _ _ _ _ hne, State.flag_put_same, hlive]
    rfl
  · rw [hk.flag hes, State.flag_put_same, hseen]
    rfl
  · simp [hlb, hsb]
  · simp [(hel R.EVT_LOG_HEAD_INDEX (by decide)).symm, (hes R.EVT_LOG_HEAD_INDEX (by decide)).symm]

/-- A brownout hold that is over touches the hold, its ceiling and its counter (R323). -/
theorem State.holdOver_leaves (s : State) : ∃ hold ceil, RegsOnly [R.VIN_DIP_CNT, R.PG_STATUS_SAT_SEEN]
    { s with power := { s.power with hold := hold, brownCeil := ceil } } s.holdOver := by
  unfold State.holdOver
  split
  · exact ⟨_, _, (RegsOnly.refl _ _).bump (by decide) (by decide)⟩
  · exact ⟨s.power.hold, s.power.brownCeil, RegsOnly.refl _ s⟩

/-- The state in which VIN_WARN raises its event. -/
def State.vinLow (s : State) : State :=
  let t := (s.holdOver.put R.SUP_PWR_STATUS_VIN_WARN 1).put R.SUP_PWR_STATUS_VIN_WARN_SEEN 1
  { t with power := { t.power with hold := true, brownCeil := 501187 } }

theorem State.vinLow_power (s : State) : s.vinLow.power = { s.power with hold := true, brownCeil := 501187 } := by
  obtain ⟨hold, ceil, heq, -⟩ := s.holdOver_leaves
  show { s.holdOver.power with hold := true, brownCeil := 501187 } = _
  rw [heq]

theorem State.vinLow_flags (s : State) : s.vinLow.flag R.SUP_PWR_STATUS_VIN_WARN = true ∧
    s.vinLow.flag R.SUP_PWR_STATUS_VIN_WARN_SEEN = true := by
  have hwarn := (s.holdOver.put R.SUP_PWR_STATUS_VIN_WARN 1).flag_put_ne (f := R.SUP_PWR_STATUS_VIN_WARN_SEEN)
    (g := R.SUP_PWR_STATUS_VIN_WARN) 1 0 0 0 0 (by decide)
  exact ⟨hwarn.trans (State.flag_put_same _ _ _ _ _),
    State.flag_put_same (s.holdOver.put R.SUP_PWR_STATUS_VIN_WARN 1) R.SUP_PWR_STATUS_VIN_WARN_SEEN 1 0 0⟩

theorem execVinWarn_shows {s : State} (hp : s.powered = true) (hlow : s.flag R.SUP_PWR_STATUS_VIN_WARN = false) :
    ∃ t, exec .vinWarn s = .next t ∧ t.flag R.SUP_PWR_STATUS_VIN_WARN = true ∧ t.flag R.SUP_PWR_STATUS_VIN_WARN_SEEN = true ∧
      t.sticky EV_VIN_WARN = true ∧ t.power = { s.power with hold := true, brownCeil := 501187 } := by
  have he : exec .vinWarn s = .next (s.vinLow.raise EV_VIN_WARN) := by
    show execVinWarn s = _
    simp [execVinWarn, hp, hlow, State.vinLow]
  have hk := State.raise_keeps s.vinLow EV_VIN_WARN
  obtain ⟨hwarn, hseen⟩ := s.vinLow_flags
  exact ⟨_, he, (hk.flag (by decide) 0 0).trans hwarn, (hk.flag (by decide) 0 0).trans hseen, State.sticky_raise_same _ _,
    (State.raise_records _ _).power.trans s.vinLow_power⟩

theorem execVinWarnClear_ends {s : State} (hp : s.powered = true) (hlow : s.flag R.SUP_PWR_STATUS_VIN_WARN = true)
    (hreset : s.flag R.SUP_PWR_STATUS_VIN_RESET = false) :
    ∃ t, exec .vinWarnClear s = .next t ∧ t.flag R.SUP_PWR_STATUS_VIN_WARN = false ∧ t.power = { s.power with hold := false } ∧
      RegsOnly [R.SUP_PWR_STATUS_VIN_WARN] { s with power := t.power } t := by
  have he : exec .vinWarnClear s = .next ({ s with power := { s.power with hold := false } }.put R.SUP_PWR_STATUS_VIN_WARN 0) := by
    show execVinWarnClear s = _
    simp [execVinWarnClear, hp, hlow, hreset]
  exact ⟨_, he, State.flag_put_same _ _ _ _ _, rfl, (RegsOnly.refl _ _).put (by decide)⟩

theorem exec_supplyWarns {s : State} {c : Instr} {live seen : Fld} {e : Nat} (hp : s.powered = true) (hlive : s.flag live = false)
    (hc : (c, live, seen, e) ∈ [(Instr.vgdWarn true, R.SUP_PWR_STATUS_VGD_WARN, R.SUP_PWR_STATUS_VGD_WARN_SEEN, EV_VGD_WARN),
      (.coreWarn true, R.SUP_PWR_STATUS_CORE_WARN, R.SUP_PWR_STATUS_CORE_WARN_SEEN, EV_CORE_WARN)]) :
    ∃ t, exec c s = .next t ∧ t.flag live = true ∧ t.flag seen = true ∧ t.sticky e = true ∧ RaisesOnly [live, seen] s t := by
  simp only [List.mem_cons, List.not_mem_nil, or_false, Prod.mk.injEq] at hc
  rcases hc with ⟨rfl, rfl, rfl, rfl⟩ | ⟨rfl, rfl, rfl, rfl⟩
  · refine ⟨_, ?_, s.warned_shows EV_VGD_WARN (by decide) (by decide) (by decide) (by decide) (by decide) (by decide) (by decide)⟩
    show execVgdWarn true s = _
    simp [execVgdWarn, hp, hlive]
  · refine ⟨_, ?_, s.warned_shows EV_CORE_WARN (by decide) (by decide) (by decide) (by decide) (by decide) (by decide) (by decide)⟩
    show execCoreWarn true s = _
    simp [execCoreWarn, hp, hlive]

theorem exec_supplyReturns {s : State} {c : Instr} {live : Fld} (hp : s.powered = true) (hlive : s.flag live = true)
    (hc : (c, live) ∈ [(Instr.vgdWarn false, R.SUP_PWR_STATUS_VGD_WARN), (.coreWarn false, R.SUP_PWR_STATUS_CORE_WARN)]) :
    ∃ t, exec c s = .next t ∧ t.flag live = false ∧ RegsOnly [live] s t := by
  have hoff : (s.put live 0).flag live = false := by rw [State.flag_put_same, Nat.zero_mod]; rfl
  refine ⟨s.put live 0, ?_, hoff, (RegsOnly.refl _ s).put (by simp)⟩
  simp only [List.mem_cons, List.not_mem_nil, or_false, Prod.mk.injEq] at hc
  rcases hc with ⟨rfl, rfl⟩ | ⟨rfl, rfl⟩
  · show execVgdWarn false s = _
    simp [execVgdWarn, hp, hlive]
  · show execCoreWarn false s = _
    simp [execCoreWarn, hp, hlive]

/-! ### The supplies of the input and output banks (R487, R512) -/

/-- The live bits of SUP_LOGIC_STATUS are single bits beside WARN_SEEN, the stop of VDD5 and the registers of the events. -/
theorem ioWarnBit_apart (k : Nat) : (ioWarnBit k).width = 1 ∧ (ioWarnBit k).base ≠ R.SUP_LOGIC_STATUS_WARN_SEEN.base ∧
    (ioWarnBit k).base ≠ R.SUP_LOGIC_STATUS_VDD5_STOP.base ∧ (ioWarnBit k).base ≠ R.EVT_LOG_BASE_BASE.base ∧
    ∀ f ∈ eventFlds, f.base ≠ (ioWarnBit k).base := by
  unfold ioWarnBit
  split <;> decide

/-- What IO_WARN does of a rail that leaves its window (R487). -/
def State.ioLeft (s : State) (k : Nat) : State := ((s.put (ioWarnBit k) 1).putBit R.SUP_LOGIC_STATUS_WARN_SEEN k true).raise EV_IO_WARN

theorem State.ioLeft_shows (s : State) {k : Nat} (hk : k < 7) : (s.ioLeft k).flag (ioWarnBit k) = true ∧
    (s.ioLeft k).bit R.SUP_LOGIC_STATUS_WARN_SEEN k = true ∧ (s.ioLeft k).sticky EV_IO_WARN = true ∧
    RaisesOnly [ioWarnBit k, R.SUP_LOGIC_STATUS_WARN_SEEN] s (s.ioLeft k) := by
  obtain ⟨hw, hseen, -, hlog, hev⟩ := ioWarnBit_apart k
  have hkeep := State.raise_keeps ((s.put (ioWarnBit k) 1).putBit R.SUP_LOGIC_STATUS_WARN_SEEN k true) EV_IO_WARN
  have hregs : RegsOnly [ioWarnBit k, R.SUP_LOGIC_STATUS_WARN_SEEN] s ((s.put (ioWarnBit k) 1).putBit R.SUP_LOGIC_STATUS_WARN_SEEN k true) :=
    ((RegsOnly.refl _ s).put (by simp)).put (by simp)
  refine ⟨?_, ?_, State.sticky_raise_same _ _, hregs.raise ?_ ?_ _⟩
  · rw [State.ioLeft, hkeep.flag hev, State.putBit, State.flag_put_ne _ _ _ _ _ _ hseen.symm, State.flag_put_same, hw]
    rfl
  · rw [State.ioLeft, State.bit, hkeep.regs _ _ _ (by decide)]
    exact State.bit_putBit_same _ R.SUP_LOGIC_STATUS_WARN_SEEN k true 0 0 hk
  · simp only [List.mem_cons, List.not_mem_nil, or_false, forall_eq_or_imp, forall_eq]
    exact ⟨hlog, by decide⟩
  · simp only [List.mem_cons, List.not_mem_nil, or_false, forall_eq_or_imp, forall_eq]
    exact ⟨(hev R.EVT_LOG_HEAD_INDEX (by decide)).symm, by decide⟩

theorem execIoWarn_leaves {s : State} {k : Fin 7} (stop : Bool) (hp : s.powered = true) (hk : k.val ≠ 6)
    (hin : s.flag (ioWarnBit k.val) = false) : exec (.ioWarn k true stop) s = .next (s.ioLeft k.val) := by
  show execIoWarn k true stop s = _
  simp [execIoWarn, hp, hk, hin, State.ioLeft]

theorem execIoWarn_returns {s : State} {k : Fin 7} (stop : Bool) (hp : s.powered = true) (hk : k.val ≠ 6) :
    ∃ t, exec (.ioWarn k false stop) s = .next t ∧ t.flag (ioWarnBit k.val) = false ∧ RegsOnly [ioWarnBit k.val] s t := by
  have hoff : (s.put (ioWarnBit k.val) 0).flag (ioWarnBit k.val) = false := by rw [State.flag_put_same, Nat.zero_mod]; rfl
  refine ⟨_, ?_, hoff, (RegsOnly.refl _ s).put (by simp)⟩
  show execIoWarn k false stop s = _
  simp [execIoWarn, hp, hk, b2n]

/-- One write more in both states. -/
theorem State.get_put_congr {s t : State} {g : Fld} {i j : Nat} (h : t.get g i j = s.get g i j) (f : Fld) (v i' j' : Nat) :
    (t.put f v i' j').get g i j = (s.put f v i' j').get g i j := by
  by_cases hk : f.key i' j' = g.key i j
  · simp only [State.get, State.put, Sparse.put, hk]
    split
    · simp
    · simp
  · rw [State.get_put_key _ _ hk, State.get_put_key _ _ hk, h]

theorem Keeps.put_both {l : List Fld} {s t : State} (h : Keeps l s t) (f : Fld) (v i j : Nat) : Keeps l (s.put f v i j) (t.put f v i j) :=
  ⟨h.core, h.queue, h.porst, h.coreLow, h.power, fun g i' j' hg => State.get_put_congr (h.regs g i' j' hg) f v i j⟩

/-! ### A supply that stops the power stage, and its return (R315, R324, R325, R487) -/

/-- A forced stop from a state whose channels and rails are those of s, with a bit shown that the stop does not write. -/
theorem State.forcedStop_after {s u : State} (cause : Nat) (hcore : SameCore s u)
    (hch : ∀ n, u.chState n = s.chState n) (hbst : ∀ r, u.get R.BST_STATUS_STATE r = s.get R.BST_STATUS_STATE r) :
    Keeps (chFlds ++ railFlds) u (u.forcedStop cause) ∧ SameCore s (u.forcedStop cause) ∧
      (∀ n, n < 8 → (u.forcedStop cause).chState n = if s.chState n = chLatched then chLatched else chOff) ∧
      ∀ r, r < 2 → (u.forcedStop cause).get R.BST_STATUS_STATE r = if s.get R.BST_STATUS_STATE r = 4 then 4 else 0 := by
  obtain ⟨hk, hc, hr⟩ := u.forcedStop_stops cause
  simp only [hch, hbst] at hc hr
  exact ⟨hk, hcore.trans hk.core, hc, hr⟩

/-- The state that a stop by VIN_RESET, VGD_UVLO or VDD5 is forced from: the supply shows, and channels and rails are as they were. -/
structure SupplyOut (live seen : Fld) (s u : State) : Prop where
  live : u.flag live = true
  seen : u.flag seen = true
  core : SameCore s u
  ch : ∀ n, u.chState n = s.chState n
  bst : ∀ r, u.get R.BST_STATUS_STATE r = s.get R.BST_STATUS_STATE r

theorem SupplyOut.of_keeps {live seen : Fld} {l : List Fld} {s u : State} (hl : u.flag live = true) (hs : u.flag seen = true)
    (hk : Keeps l s u) (hch : ∀ f ∈ l, f.base ≠ R.PCH_STATUS_STATE.base) (hbst : ∀ f ∈ l, f.base ≠ R.BST_STATUS_STATE.base) :
    SupplyOut live seen s u :=
  ⟨hl, hs, hk.core, fun n => hk.regs _ n 0 hch, fun r => hk.regs _ r 0 hbst⟩

theorem SupplyOut.stops {live seen : Fld} {s u : State} (h : SupplyOut live seen s u) (cause : Nat)
    (hl : ∀ f ∈ chFlds ++ railFlds, f.base ≠ live.base) (hs : ∀ f ∈ chFlds ++ railFlds, f.base ≠ seen.base) :
    (u.forcedStop cause).flag live = true ∧ (u.forcedStop cause).flag seen = true ∧ SameCore s (u.forcedStop cause) ∧
      (∀ n, n < 8 → (u.forcedStop cause).chState n = if s.chState n = chLatched then chLatched else chOff) ∧
      ∀ r, r < 2 → (u.forcedStop cause).get R.BST_STATUS_STATE r = if s.get R.BST_STATUS_STATE r = 4 then 4 else 0 := by
  obtain ⟨hk, hcore, hc, hr⟩ := State.forcedStop_after cause h.core h.ch h.bst
  exact ⟨(hk.flag hl 0 0).trans h.live, (hk.flag hs 0 0).trans h.seen, hcore, hc, hr⟩

theorem execVinReset_out {s : State} (hp : s.powered = true) (hin : s.flag R.SUP_PWR_STATUS_VIN_RESET = false) :
    ∃ u, exec .vinReset s = .next (u.forcedStop 7) ∧ SupplyOut R.SUP_PWR_STATUS_VIN_RESET R.SUP_PWR_STATUS_VIN_RESET_SEEN s u := by
  obtain ⟨hold, ceil, hregs⟩ := s.holdOver_leaves
  have hk := State.raise_keeps ((s.holdOver.put R.SUP_PWR_STATUS_VIN_RESET 1).put R.SUP_PWR_STATUS_VIN_RESET_SEEN 1) EV_VIN_RESET
  have hall : Keeps ([R.VIN_DIP_CNT, R.SUP_PWR_STATUS_VIN_RESET, R.SUP_PWR_STATUS_VIN_RESET_SEEN] ++ eventFlds)
      { s with power := { s.power with hold := hold, brownCeil := ceil } }
      (((s.holdOver.put R.SUP_PWR_STATUS_VIN_RESET 1).put R.SUP_PWR_STATUS_VIN_RESET_SEEN 1).raise EV_VIN_RESET) :=
    (((hregs.keeps.mono (by decide)).put (by decide)).put (by decide)).raise (List.subset_append_right _ _)
  refine ⟨_, ?_, ?_, ?_, hall.core, fun n => hall.regs _ n 0 (by decide), fun r => hall.regs _ r 0 (by decide)⟩
  · show execVinReset s = _
    simp [execVinReset, hp, hin]
  · exact (hk.flag (by decide) 0 0).trans ((State.flag_put_ne _ _ _ _ _ _ (by decide)).trans (State.flag_put_same _ _ _ _ _))
  · exact (hk.flag (by decide) 0 0).trans (State.flag_put_same _ _ _ _ _)

theorem execVgdUvlo_out {s : State} (hp : s.powered = true) (hin : s.flag R.SUP_PWR_STATUS_VGD_UVLO = false) :
    ∃ u, exec .vgdUvlo s = .next (u.forcedStop 8) ∧ SupplyOut R.SUP_PWR_STATUS_VGD_UVLO R.SUP_PWR_STATUS_VGD_UVLO_SEEN s u := by
  obtain ⟨hlive, hseen, -, hraises⟩ := s.warned_shows (live := R.SUP_PWR_STATUS_VGD_UVLO) (seen := R.SUP_PWR_STATUS_VGD_UVLO_SEEN)
    EV_VGD_UVLO (by decide) (by decide) (by decide) (by decide) (by decide) (by decide) (by decide)
  have hk : Keeps ([R.SUP_PWR_STATUS_VGD_UVLO, R.SUP_PWR_STATUS_VGD_UVLO_SEEN] ++ eventFlds) s
      (((s.put R.SUP_PWR_STATUS_VGD_UVLO 1).put R.SUP_PWR_STATUS_VGD_UVLO_SEEN 1).raise EV_VGD_UVLO) :=
    (((Keeps.refl _ s).put (by decide)).put (by decide)).raise (List.subset_append_right _ _)
  refine ⟨_, ?_, SupplyOut.of_keeps hlive hseen hk (by decide) (by decide)⟩
  show execVgdUvlo s = _
  simp [execVgdUvlo, hp, hin]

/-- VDD5 has left its window or returned to it, before its stop level is looked at. -/
def State.vdd5Shown (s : State) (outside : Bool) : State :=
  if outside && !s.flag (ioWarnBit 6) then s.ioLeft 6 else s.put (ioWarnBit 6) (b2n outside)

theorem State.vdd5Shown_keeps (s : State) (outside : Bool) :
    Keeps ([R.SUP_LOGIC_STATUS_VDD5_WARN, R.SUP_LOGIC_STATUS_WARN_SEEN] ++ eventFlds) s (s.vdd5Shown outside) :=
  Keeps.ite ((((Keeps.refl _ s).put (by decide)).putBit (by decide)).raise (List.subset_append_right _ _)) ((Keeps.refl _ s).put (by decide))

theorem execIoWarn_vdd5 {s : State} {outside stop : Bool} (hp : s.powered = true) (hne : s.flag R.SUP_LOGIC_STATUS_VDD5_STOP = !stop) :
    exec (.ioWarn 6 outside stop) s = .next (if stop then (((s.vdd5Shown outside).put R.SUP_LOGIC_STATUS_VDD5_STOP 1).put
      R.SUP_LOGIC_STATUS_VDD5_STOP_SEEN 1).forcedStop 8 else ((s.vdd5Shown outside).put R.SUP_LOGIC_STATUS_VDD5_STOP 0).railsEval) := by
  have hstop : (s.vdd5Shown outside).flag R.SUP_LOGIC_STATUS_VDD5_STOP = !stop := ((s.vdd5Shown_keeps outside).flag (by decide) 0 0).trans hne
  have hsplit : ¬((6 : Fin 7).val ≠ 6 ∨ stop = (s.vdd5Shown outside).flag R.SUP_LOGIC_STATUS_VDD5_STOP) := by
    rw [hstop]
    cases stop <;> decide
  show execIoWarn 6 outside stop s = _
  unfold execIoWarn
  rw [if_neg (by simp [hp])]
  exact congrArg Host.Outcome.next (if_neg hsplit)

theorem execVdd5Stop_out {s : State} (hp : s.powered = true) (hin : s.flag R.SUP_LOGIC_STATUS_VDD5_STOP = false) :
    ∃ u, exec (.ioWarn 6 true true) s = .next (u.forcedStop 8) ∧
      SupplyOut R.SUP_LOGIC_STATUS_VDD5_STOP R.SUP_LOGIC_STATUS_VDD5_STOP_SEEN s u := by
  have hk : Keeps ([R.SUP_LOGIC_STATUS_VDD5_STOP, R.SUP_LOGIC_STATUS_VDD5_STOP_SEEN, R.SUP_LOGIC_STATUS_VDD5_WARN,
      R.SUP_LOGIC_STATUS_WARN_SEEN] ++ eventFlds) s
      (((s.vdd5Shown true).put R.SUP_LOGIC_STATUS_VDD5_STOP 1).put R.SUP_LOGIC_STATUS_VDD5_STOP_SEEN 1) :=
    (((s.vdd5Shown_keeps true).mono (by decide)).put (by decide)).put (by decide)
  refine ⟨_, execIoWarn_vdd5 hp hin, SupplyOut.of_keeps ?_ (State.flag_put_same _ _ _ _ _) hk (by decide) (by decide)⟩
  exact (State.flag_put_ne _ _ _ _ _ _ (by decide)).trans (State.flag_put_same _ _ _ _ _)

theorem exec_supplyStops {s : State} {c : Instr} {live seen : Fld} (hp : s.powered = true) (hlive : s.flag live = false)
    (hc : (c, live, seen) ∈ [(Instr.vinReset, R.SUP_PWR_STATUS_VIN_RESET, R.SUP_PWR_STATUS_VIN_RESET_SEEN),
      (.vgdUvlo, R.SUP_PWR_STATUS_VGD_UVLO, R.SUP_PWR_STATUS_VGD_UVLO_SEEN),
      (.ioWarn 6 true true, R.SUP_LOGIC_STATUS_VDD5_STOP, R.SUP_LOGIC_STATUS_VDD5_STOP_SEEN)]) :
    ∃ t, exec c s = .next t ∧ t.flag live = true ∧ t.flag seen = true ∧ SameCore s t ∧
      (∀ n, n < 8 → t.chState n = if s.chState n = chLatched then chLatched else chOff) ∧
      ∀ r, r < 2 → t.get R.BST_STATUS_STATE r = if s.get R.BST_STATUS_STATE r = 4 then 4 else 0 := by
  simp only [List.mem_cons, List.not_mem_nil, or_false, Prod.mk.injEq] at hc
  rcases hc with ⟨rfl, rfl, rfl⟩ | ⟨rfl, rfl, rfl⟩ | ⟨rfl, rfl, rfl⟩
  · obtain ⟨u, he, hout⟩ := execVinReset_out hp hlive
    exact ⟨_, he, hout.stops 7 (by decide) (by decide)⟩
  · obtain ⟨u, he, hout⟩ := execVgdUvlo_out hp hlive
    exact ⟨_, he, hout.stops 8 (by decide) (by decide)⟩
  · obtain ⟨u, he, hout⟩ := execVdd5Stop_out hp hlive
    exact ⟨_, he, hout.stops 8 (by decide) (by decide)⟩

/-! ### Rails that may start (R321) -/

/-- A rail in OFF that may start: enabled in a device in RUN, with no forced stop and no thermistor against it. -/
structure RailReady (s : State) (r : Nat) : Prop where
  run : s.dev = .run
  en : s.flag R.BST_CTRL_EN r = true
  page : s.flag R.PG_CTRL_EN (0x58 + r) = true
  gates : s.gatesHeld = false
  ntc : (s.rail r).ntcShut = false
  off : s.get R.BST_STATUS_STATE r = 0

theorem Keeps.gatesHeld {l : List Fld} {s t : State} (h : Keeps l s t) (hl : ∀ f ∈ l, ∀ g ∈ [R.SUP_PWR_STATUS_VIN_RESET,
    R.SUP_PWR_STATUS_VGD_UVLO, R.SUP_LOGIC_STATUS_VDD5_STOP, R.TEMP_STATUS_POWER_SHUT], f.base ≠ g.base) : t.gatesHeld = s.gatesHeld := by
  unfold State.gatesHeld
  rw [h.flag fun f hf => hl f hf R.SUP_PWR_STATUS_VIN_RESET (by decide), h.flag fun f hf => hl f hf R.SUP_PWR_STATUS_VGD_UVLO (by decide),
    h.flag fun f hf => hl f hf R.SUP_LOGIC_STATUS_VDD5_STOP (by decide), h.flag fun f hf => hl f hf R.TEMP_STATUS_POWER_SHUT (by decide),
    h.linkOff, h.linkLost]

theorem Reaches.gatesHeld {C B : Nat → Prop} {K : Prop} {s t : State} (h : Reaches C B K s t) : t.gatesHeld = s.gatesHeld :=
  h.keeps.gatesHeld (by decide)

theorem RailReady.permitted {s : State} {r : Nat} (h : RailReady s r) : s.railPermitted r = true := by
  simp [State.railPermitted, h.run, h.en, h.page, h.gates]

/-- A rail that may start does, with no regard to what the rail beside it does. -/
theorem RailReady.railEval {s : State} {r : Nat} (h : RailReady s r) : s.railEval r = s.railSoft r := by
  have hruns : s.railRuns r = false := by simp [State.railRuns, h.off]
  simp [State.railEval, hruns, h.off, h.permitted, h.ntc]

/-- A change that reaches none of what a start looks at. -/
theorem RailReady.elsewhere {l : List Fld} {s t : State} {r : Nat} (h : RailReady s r) (hk : Keeps l s t)
    (hl : ∀ f ∈ l, ∀ g ∈ [R.BST_CTRL_EN, R.PG_CTRL_EN, R.BST_STATUS_STATE, R.SUP_PWR_STATUS_VIN_RESET, R.SUP_PWR_STATUS_VGD_UVLO,
      R.SUP_LOGIC_STATUS_VDD5_STOP, R.TEMP_STATUS_POWER_SHUT], f.base ≠ g.base) (hp : t.power = s.power) : RailReady t r where
  run := hk.core.dev_eq.trans h.run
  en := (hk.flag (fun f hf => hl f hf _ (by decide)) r 0).trans h.en
  page := (hk.flag (fun f hf => hl f hf _ (by decide)) (0x58 + r) 0).trans h.page
  gates := (hk.gatesHeld fun f hf g hg => hl f hf g (List.mem_cons_of_mem _ (List.mem_cons_of_mem _ (List.mem_cons_of_mem _ hg)))).trans h.gates
  ntc := by rw [State.rail_of_power hp]; exact h.ntc
  off := (hk.regs _ r 0 fun f hf => hl f hf _ (by decide)).trans h.off

theorem RailReady.beside {C B : Nat → Prop} {K : Prop} {s t : State} {r : Nat} (h : RailReady s r) (ht : Reaches C B K s t)
    (hr : ¬B (r % 65536)) : RailReady t r where
  run := ht.keeps.core.dev_eq.trans h.run
  en := (ht.keeps.flag (by decide) r 0).trans h.en
  page := (ht.keeps.flag (by decide) (0x58 + r) 0).trans h.page
  gates := ht.gatesHeld.trans h.gates
  ntc := by rw [ht.rail r hr]; exact h.ntc
  off := (ht.bst _ (by decide) r 0 hr).trans h.off

/-- What follows a rail that reaches TRACK is no rail's. -/
theorem State.railReached_rails (s : State) (r : Nat) : Reaches (fun _ => True) (fun _ => False) True s (s.railReached r) :=
  (Reaches.refl s).railReached fun _ => trivial

theorem State.railShow_bst (s : State) (r q : Nat) : (s.railShow r).get R.BST_STATUS_STATE q = s.get R.BST_STATUS_STATE q :=
  (((Keeps.refl [R.BST_VSET_VOLTS, R.BST_STATUS_PASS] s).put (by decide)).put (by decide)).regs _ q 0 (by decide)

theorem State.railShow_rail (s : State) (r q : Nat) : (s.railShow r).rail q = s.rail q := rfl

/-- A rail enters TRACK with its command at VMIN (R321). -/
theorem State.railTrack_tracks (s : State) (r : Nat) : (s.railTrack r).get R.BST_STATUS_STATE r = 2 ∧
    (s.railTrack r).rail r = { s.rail r with cmd := s.vmin r, setp := s.vmin r } := by
  unfold State.railTrack
  have hreach := State.railReached_rails
    (((s.modRail r (fun x => { x with cmd := s.vmin r, setp := s.vmin r })).put R.BST_STATUS_STATE 2 r).railShow r) r
  refine ⟨?_, ?_⟩
  · rw [hreach.bst _ (by decide) r 0 id, State.railShow_bst, State.get_put_same]
    rfl
  · rw [hreach.rail r id, State.railShow_rail, State.rail_put, State.rail_modRail_same]

theorem State.railSoft_starts (s : State) (r : Nat) :
    (s.railSoft r).get R.BST_STATUS_STATE r = 1 ∨ (s.railSoft r).get R.BST_STATUS_STATE r = 2 := by
  unfold State.railSoft
  extract_lets vin t
  split
  · exact .inr (t.railTrack_tracks r).1
  · left
    rw [State.railShow_bst]
    exact State.get_put_same _ R.BST_STATUS_STATE 1 r 0

/-- The rail's turn when both rails follow their permission: what goes before and after it is the other rail's. -/
theorem RailReady.railsEval {s : State} {r : Nat} (h : RailReady s r) (hr : r < 2) :
    s.railsEval.get R.BST_STATUS_STATE r = 1 ∨ s.railsEval.get R.BST_STATUS_STATE r = 2 := by
  have hbeside (t : State) (q : Nat) (hq : q < 2) : Reaches (fun _ => True) (fun x => x = q) True t (t.railEval q) :=
    (Reaches.refl t).railEval (fun _ => trivial) (by omega)
  have hsplit : s.railsEval = (s.railEval 0).railEval 1 := rfl
  obtain rfl | rfl : r = 0 ∨ r = 1 := by omega
  · rw [hsplit, (hbeside (s.railEval 0) 1 (by omega)).bst _ (by decide) 0 0 (by decide), h.railEval]
    exact s.railSoft_starts 0
  · rw [hsplit, (h.beside (hbeside s 0 (by omega)) (by decide)).railEval]
    exact State.railSoft_starts _ 1

/-- The end of a forced stop: its bit clears, and the rails that may start do. -/
theorem State.railsEval_after {s u : State} {live : Fld} (hcore : SameCore s u) (hlive : u.flag live = false)
    (hl : ∀ f ∈ chFlds ++ railFlds, f.base ≠ live.base) (hready : ∀ r, RailReady (s.put live 0) r → RailReady u r) :
    u.railsEval.flag live = false ∧ SameCore s u.railsEval ∧
      ∀ r, r < 2 → RailReady (s.put live 0) r → u.railsEval.get R.BST_STATUS_STATE r = 1 ∨ u.railsEval.get R.BST_STATUS_STATE r = 2 := by
  have hk : Keeps (chFlds ++ railFlds) u u.railsEval :=
    (Keeps.refl _ u).railsEval (List.subset_append_right _ _) (List.subset_append_left _ _)
  exact ⟨(hk.flag hl 0 0).trans hlive, hcore.trans hk.core, fun r hr h => (hready r h).railsEval hr⟩

theorem exec_supplyRecovers {s : State} {c : Instr} {live : Fld} (hp : s.powered = true) (hlive : s.flag live = true)
    (hc : (c, live) ∈ [(Instr.vinRecover, R.SUP_PWR_STATUS_VIN_RESET), (.vgdUvloClear, R.SUP_PWR_STATUS_VGD_UVLO),
      (.ioWarn 6 false false, R.SUP_LOGIC_STATUS_VDD5_STOP)]) :
    ∃ t, exec c s = .next t ∧ t.flag live = false ∧ SameCore s t ∧
      ∀ r, r < 2 → RailReady (s.put live 0) r → t.get R.BST_STATUS_STATE r = 1 ∨ t.get R.BST_STATUS_STATE r = 2 := by
  simp only [List.mem_cons, List.not_mem_nil, or_false, Prod.mk.injEq] at hc
  rcases hc with ⟨rfl, rfl⟩ | ⟨rfl, rfl⟩ | ⟨rfl, rfl⟩
  · refine ⟨_, ?_, State.railsEval_after (u := s.put R.SUP_PWR_STATUS_VIN_RESET 0) SameCore.rfl (State.flag_put_same _ _ _ _ _)
      (by decide) fun r h => h⟩
    show execVinRecover s = _
    simp [execVinRecover, hp, hlive]
  · refine ⟨_, ?_, State.railsEval_after (u := s.put R.SUP_PWR_STATUS_VGD_UVLO 0) SameCore.rfl (State.flag_put_same _ _ _ _ _)
      (by decide) fun r h => h⟩
    show execVgdUvloClear s = _
    simp [execVgdUvloClear, hp, hlive]
  · have hwarn : Keeps [R.SUP_LOGIC_STATUS_VDD5_WARN] s (s.vdd5Shown false) := (Keeps.refl _ s).put (by decide)
    exact ⟨_, execIoWarn_vdd5 hp hlive, State.railsEval_after (hwarn.core.trans SameCore.rfl) (State.flag_put_same _ _ _ _ _) (by decide)
      fun r h => h.elsewhere (hwarn.put_both _ _ _ _) (by decide) rfl⟩
/-! ### O52 -/

/-- Settles O52: a warning is its bits and its event, a forced stop is followed channel by channel and rail by rail, and at its end each
rail that may start does so in its own turn. -/
theorem supplyRows : Obligations.SupplyRows := by
  refine ⟨fun s hp => ⟨execVinWarn_shows hp, execVinWarnClear_ends hp⟩, fun s c live seen e hp hl hc => exec_supplyWarns hp hl hc,
    fun s c live hp hl hc => exec_supplyReturns hp hl hc, fun s k stop hp hk => ⟨fun hin => ?_, execIoWarn_returns stop hp hk⟩,
    fun s c live seen hp hl hc => exec_supplyStops hp hl hc, fun s c live hp hl hc => ?_⟩
  · exact ⟨_, execIoWarn_leaves stop hp hk hin, s.ioLeft_shows k.isLt⟩
  · obtain ⟨t, he, hoff, hcore, hstart⟩ := exec_supplyRecovers hp hl hc
    refine ⟨t, he, hoff, hcore, fun r hr hrun hen hpage hgates hntc hst => hstart r hr ?_⟩
    have hbst : live.base ≠ R.BST_STATUS_STATE.base ∧ live.base ≠ R.BST_CTRL_EN.base ∧ live.base ≠ R.PG_CTRL_EN.base := by
      simp only [List.mem_cons, List.not_mem_nil, or_false, Prod.mk.injEq] at hc
      rcases hc with ⟨-, rfl⟩ | ⟨-, rfl⟩ | ⟨-, rfl⟩ <;> decide
    obtain ⟨hstate, henable, hpg⟩ := hbst
    exact ⟨hrun, (State.flag_put_ne _ _ _ _ _ _ henable).trans hen, (State.flag_put_ne _ _ _ _ _ _ hpg).trans hpage, hgates, hntc,
      (State.get_put_ne _ _ _ _ _ _ hstate).trans hst⟩

end Sys2Proof.Machine

/-! PROOFS. Boost rails (O54). -/

namespace Sys2Proof.Machine

/-! ### The end of a soft start, and a limited over-voltage (R321, R333) -/

theorem RegsOnly.bumpBy {l : List Fld} {s0 s : State} (h : RegsOnly l s0 s) {f : Fld} (hf : f ∈ l) (hsat : R.PG_STATUS_SAT_SEEN ∈ l)
    {n i j : Nat} : RegsOnly l s0 (s.bumpBy f n i j) := by
  unfold State.bumpBy
  split
  · exact (h.put hf).put hsat
  · exact h.put hf

theorem execRailSoftStartDone_tracks {s : State} {r : Fin 2} (h : s.get R.BST_STATUS_STATE r.val = 1) :
    ∃ t, exec (.railSoftStartDone r) s = .next t ∧ t.get R.BST_STATUS_STATE r.val = 2 ∧ (t.rail r.val).cmd = s.vmin r.val ∧
      (t.rail r.val).setp = s.vmin r.val := by
  obtain ⟨hstate, hrail⟩ := s.railTrack_tracks r.val
  refine ⟨_, ?_, hstate, by rw [hrail], by rw [hrail]⟩
  show execRailSoftStartDone r s = _
  rw [execRailSoftStartDone, if_pos h]

theorem State.ovpShown_railRuns (s : State) (r v : Nat) : (s.put R.BST_STATUS_OVP v r).railRuns r = s.railRuns r := by
  simp only [State.railRuns, State.get_put_ne s (f := R.BST_STATUS_OVP) (g := R.BST_STATUS_STATE) v r 0 r 0 (by decide)]

theorem execBoostOvp_idle {s : State} {r : Fin 2} (above lasted : Bool) (n : Nat) (hp : s.powered = true) (hr : s.railRuns r.val = false) :
    exec (.boostOvp r above lasted n) s = .next (s.put R.BST_STATUS_OVP (b2n above) r.val) := by
  show execBoostOvp r above lasted n s = _
  simp [execBoostOvp, hp, s.ovpShown_railRuns, hr]

/-- The state of a running rail whose limited cycles have been counted. -/
def State.ovpCounted (s : State) (r : Nat) (above : Bool) (n : Nat) : State :=
  (s.put R.BST_STATUS_OVP (b2n above) r).bumpBy R.BST_OVP_CNT n r

theorem State.ovpCounted_regsOnly (s : State) (r : Nat) (above : Bool) (n : Nat) :
    RegsOnly [R.BST_STATUS_OVP, R.BST_OVP_CNT, R.PG_STATUS_SAT_SEEN] s (s.ovpCounted r above n) :=
  ((RegsOnly.refl _ s).put (by decide)).bumpBy (by decide) (by decide)

theorem execBoostOvp_runs {s : State} {r : Fin 2} (above lasted : Bool) (n : Nat) (hp : s.powered = true) (hr : s.railRuns r.val = true) :
    exec (.boostOvp r above lasted n) s =
      .next (if lasted then (s.ovpCounted r.val above n).railFault r.val 1 else s.ovpCounted r.val above n) := by
  show execBoostOvp r above lasted n s = _
  simp [execBoostOvp, hp, s.ovpShown_railRuns, hr, State.ovpCounted]

theorem State.ovpCounted_shows (s : State) (r : Nat) (above : Bool) (n : Nat) : (s.ovpCounted r above n).flag R.BST_STATUS_OVP r = above ∧
    (s.ovpCounted r above n).get R.BST_OVP_CNT r = min (s.get R.BST_OVP_CNT r + n) (2 ^ R.BST_OVP_CNT.width - 1) := by
  refine ⟨?_, ?_⟩
  · rw [State.ovpCounted, State.flag, State.get_bumpBy_ne _ _ _ _ _ _ (by decide) (by decide), State.get_put_same]
    cases above <;> rfl
  · rw [State.ovpCounted, State.get_bumpBy_same _ _ _ _ _ (by decide), State.get_put_ne _ _ _ _ _ _ (by decide)]

/-! ### A rail fault and its channels (R321, R327) -/

/-- A fault of the boost stage itself, not of a thermistor (R314): the third within 60 s latches. -/
theorem State.railFault_eq (s : State) (r : Nat) {cause : Nat} (hc : cause < 4) : s.railFault r cause =
    (s.railTripped r cause (s.tg :: s.railRecent r) (decide (2 ≤ (s.railRecent r).length))).railDrops r
      (decide (2 ≤ (s.railRecent r).length)) := by
  have hne : cause ≠ 4 := by omega
  have hlen : decide (3 ≤ (s.tg :: s.railRecent r).length) = decide (2 ≤ (s.railRecent r).length) := by simp
  simp only [State.railFault, if_neg hne, bne_iff_ne.2 hne, hlen, Bool.true_and]
  rfl

theorem State.railTripped_shows (s : State) (r : Nat) {cause : Nat} (f : List Nat) (latched : Bool) (hc : cause < 4) :
    (s.railTripped r cause f latched).get R.BST_STATUS_CAUSE r = cause ∧
      (s.railTripped r cause f latched).flag R.BST_STATUS_FAULT_SEEN r = true ∧
      (s.railTripped r cause f latched).get R.BST_FAULT_INFO_CAUSE r = cause ∧
      (s.railTripped r cause f latched).sticky (EV_BOOST_A_FAULT + r) = true ∧
      (s.railTripped r cause f latched).rail r = { s.rail r with cmd := 0, setp := 0, faults := f } ∧
      (s.railTripped r cause f latched).get R.BST_STATUS_STATE r = if latched then 4 else 3 := by
  unfold State.railTripped
  extract_lets t t1 t2
  generalize hu : (t2.raise (EV_BOOST_A_FAULT + r)).put R.BST_STATUS_STATE (if latched then 4 else 3) r = u
  have hmod : cause % 2 ^ 4 = cause := Nat.mod_eq_of_lt (by omega)
  have hshow : Keeps [R.BST_VSET_VOLTS, R.BST_STATUS_PASS] u (u.railShow r) := ((Keeps.refl _ u).put (by decide)).put (by decide)
  have h2 : Keeps ([R.BST_STATUS_STATE, R.BST_VSET_VOLTS, R.BST_STATUS_PASS] ++ eventFlds) t2 (u.railShow r) := by
    refine Keeps.trans ?_ (hshow.mono (by decide))
    rw [← hu]
    exact ((Keeps.refl _ t2).raise (List.subset_append_right _ _)).put (by decide)
  have h1 : Keeps ([R.BST_FAULT_INFO_TICK, R.BST_FAULT_CNT, R.PG_STATUS_SAT_SEEN]) (t1.put R.BST_FAULT_INFO_CAUSE cause r) t2 :=
    ((Keeps.refl _ _).put (by decide)).bump (by decide) (by decide)
  refine ⟨?_, ?_, ?_, ?_, ?_, ?_⟩
  · rw [h2.regs _ _ _ (by decide), h1.regs _ _ _ (by decide), State.get_put_ne _ _ _ _ _ _ (by decide),
      State.get_put_ne _ _ _ _ _ _ (by decide), State.get_put_ne _ _ _ _ _ _ (by decide), State.get_put_same]
    exact hmod
  · rw [h2.flag (by decide), h1.flag (by decide), State.flag_put_ne _ _ _ _ _ _ (by decide),
      State.flag_put_ne _ _ _ _ _ _ (by decide), State.flag_put_same]
    rfl
  · rw [h2.regs _ _ _ (by decide), h1.regs _ _ _ (by decide), State.get_put_same]
    exact hmod
  · have hcalm : Calm (t2.raise (EV_BOOST_A_FAULT + r)) (u.railShow r) := by
      rw [← hu]
      exact ((Calm.refl _).put (by decide)).railShow
    exact hcalm.sticky _ (State.sticky_raise_same _ _)
  · rw [State.railShow_rail, ← hu, State.rail_put, State.rail_raise, State.rail_bump, State.rail_put, State.rail_put, State.rail_put,
      State.rail_put, State.rail_put]
    exact s.rail_modRail_same r _
  · rw [State.railShow_bst, ← hu, State.get_put_same]
    cases latched <;> rfl

/-- A channel that switches when its rail faults: it waits for the rail, or goes to OFF where the rail latches. -/
theorem State.railDropCh_drops {s : State} {n : Nat} (latched : Bool) (hn : n < 8) (hsw : switching (s.chState n) = true) :
    (s.railDropCh n latched).chState n = (if latched then chOff else chRetry) ∧ (s.railDropCh n latched).get R.PCH_STATUS_CAUSE n = 6 := by
  unfold State.railDropCh
  extract_lets u
  have hstate : u.chState n = if latched then chOff else chRetry := by
    rw [State.chDead_chState _ hn hn (by cases latched <;> decide), if_pos rfl]
  have hcause : u.get R.PCH_STATUS_CAUSE n = 6 := by
    rw [(State.chDead_moved _ _ _).regs _ _ _ (by decide), State.get_modCh, State.chMark, State.get_put_ne _ _ _ _ _ _ (by decide)]
    exact State.get_put_same _ R.PCH_STATUS_CAUSE 6 n 0
  rw [if_pos hsw]
  cases latched with
  | true => exact ⟨hstate, hcause⟩
  | false =>
    have hwait : Keeps sideFlds u (u.put R.PCH_STATUS_WAIT_RAIL 1 n) := (Keeps.refl _ u).put (by decide)
    exact ⟨(hwait.chState n).trans hstate, (State.get_put_ne _ _ _ _ _ _ (by decide)).trans hcause⟩

theorem State.railDrops_drops {s : State} {r k : Nat} (latched : Bool) (hr : r < 2) (hk : k < 4)
    (hsw : switching (s.chState (4 * r + k)) = true) :
    (s.railDrops r latched).chState (4 * r + k) = (if latched then chOff else chRetry) ∧
      (s.railDrops r latched).get R.PCH_STATUS_CAUSE (4 * r + k) = 6 := by
  have hother (t : State) (k' : Nat) (hk' : k' < 4) (hne : k' ≠ k) :
      Reaches (fun m => m ≠ 4 * r + k) (fun _ => False) True t (t.railDropCh (4 * r + k') latched) :=
    (Reaches.refl t).railDropCh (show (4 * r + k') % 65536 ≠ 4 * r + k by omega)
  have hself : ¬(4 * r + k) % 65536 ≠ 4 * r + k := not_not.2 (Nat.mod_eq_of_lt (by omega))
  rw [State.railDrops_eq]
  refine State.each_at (P := fun t => t.chState (4 * r + k) = s.chState (4 * r + k)) (Q := fun t =>
    t.chState (4 * r + k) = (if latched then chOff else chRetry) ∧ t.get R.PCH_STATUS_CAUSE (4 * r + k) = 6) hk rfl ?_ ?_ ?_
  · exact fun k' t hk' hne ht => ((hother t k' hk' hne).pch _ (by decide) _ 0 hself).trans ht
  · exact fun t ht => t.railDropCh_drops latched (by omega) (ht ▸ hsw)
  · rintro k' t hk' hne ⟨hstate, hcause⟩
    exact ⟨((hother t k' hk' hne).pch _ (by decide) _ 0 hself).trans hstate, ((hother t k' hk' hne).pch _ (by decide) _ 0 hself).trans hcause⟩

/-- What a fault of the boost stage leaves of the rail r, of its channels and of the channels of the other (R321). -/
structure RailFaulted (s : State) (r cause : Nat) (t : State) : Prop where
  status : t.get R.BST_STATUS_CAUSE r = cause
  seen : t.flag R.BST_STATUS_FAULT_SEEN r = true
  info : t.get R.BST_FAULT_INFO_CAUSE r = cause
  sticky : t.sticky (EV_BOOST_A_FAULT + r) = true
  cmd : (t.rail r).cmd = 0
  faults : (t.rail r).faults = s.tg :: s.railRecent r
  waits : (s.railRecent r).length < 2 → t.get R.BST_STATUS_STATE r = 3 ∧
    ∀ k, k < 4 → switching (s.chState (4 * r + k)) = true →
      t.chState (4 * r + k) = chRetry ∧ t.get R.PCH_STATUS_CAUSE (4 * r + k) = 6
  latches : 2 ≤ (s.railRecent r).length → t.get R.BST_STATUS_STATE r = 4 ∧
    ∀ k, k < 4 → switching (s.chState (4 * r + k)) = true → t.chState (4 * r + k) = chOff
  others : ∀ m, m < 8 → m / 4 ≠ r → t.chState m = s.chState m

theorem State.railFault_faulted (s : State) {r cause : Nat} (hr : r < 2) (hc : cause < 4) : RailFaulted s r cause (s.railFault r cause) := by
  rw [s.railFault_eq r hc]
  generalize hl : decide (2 ≤ (s.railRecent r).length) = latched
  generalize hu : s.railTripped r cause (s.tg :: s.railRecent r) latched = u
  obtain ⟨hcause, hseen, hinfo, hsticky, hrail, hstate⟩ := hu ▸ s.railTripped_shows r (s.tg :: s.railRecent r) latched hc
  have htrip : Reaches (fun _ => False) (fun q => q = r) True s u := hu ▸ (Reaches.refl s).railTripped (show r % 65536 = r by omega)
  have hch (m : Nat) : u.chState m = s.chState m := htrip.pch _ (by decide) m 0 id
  have hreach : Reaches (fun m => m / 4 = r) (fun _ => False) True u (u.railDrops r latched) :=
    (Reaches.refl u).railDrops fun k hk => show (4 * r + k) % 65536 / 4 = r by omega
  have hcalm : Calm u (u.railDrops r latched) := (Calm.refl u).railDrops
  have hdrops (k : Nat) (hk : k < 4) (hsw : switching (s.chState (4 * r + k)) = true) :=
    State.railDrops_drops (s := u) latched hr hk ((hch _).symm ▸ hsw)
  refine ⟨(hreach.bst _ (by decide) r 0 id).trans hcause, ?_, (hreach.bst _ (by decide) r 0 id).trans hinfo, hcalm.sticky _ hsticky, ?_, ?_,
    fun hlen => ⟨?_, fun k hk hsw => ?_⟩, fun hlen => ⟨?_, fun k hk hsw => ?_⟩, fun m hm hne => ?_⟩
  · rw [State.flag, hreach.bst _ (by decide) r 0 id]
    exact hseen
  · rw [hreach.rail r id, hrail]
  · rw [hreach.rail r id, hrail]
  · rw [hreach.bst _ (by decide) r 0 id, hstate, ← hl, decide_eq_false (by omega)]
    rfl
  · obtain ⟨hst, hca⟩ := hdrops k hk hsw
    rw [← hl, decide_eq_false (by omega)] at hst hca ⊢
    exact ⟨hst, hca⟩
  · rw [hreach.bst _ (by decide) r 0 id, hstate, ← hl, decide_eq_true hlen]
    rfl
  · obtain ⟨hst, -⟩ := hdrops k hk hsw
    rw [← hl, decide_eq_true hlen] at hst ⊢
    exact hst
  · exact (hreach.pch _ (by decide) m 0 (show ¬m % 65536 / 4 = r by omega)).trans (hch m)

/-- The fault of a rail whose limited cycles have been counted is the same. -/
theorem RailFaulted.counted {s t : State} {r q cause : Nat} {above : Bool} {n : Nat} (h : RailFaulted (s.ovpCounted q above n) r cause t) :
    RailFaulted s r cause t := by
  have hregs := s.ovpCounted_regsOnly q above n
  have hch (m : Nat) : (s.ovpCounted q above n).chState m = s.chState m := hregs.get (by decide)
  have htg : (s.ovpCounted q above n).tg = s.tg := by rw [hregs.1]
  have hrecent : (s.ovpCounted q above n).railRecent r = s.railRecent r := by
    rw [State.railRecent, State.ovpCounted, State.rail_bumpBy, State.rail_put, ← State.ovpCounted, htg, State.railRecent]
  obtain ⟨hstatus, hseen, hinfo, hsticky, hcmd, hfaults, hwaits, hlatches, hothers⟩ := h
  simp only [hch, htg, hrecent] at hfaults hwaits hlatches hothers
  exact ⟨hstatus, hseen, hinfo, hsticky, hcmd, hfaults, hwaits, hlatches, hothers⟩

theorem exec_boostFault {s : State} {r ph : Fin 2} {above : Bool} {n : Nat} {c : Instr} {cause : Nat} (hp : s.powered = true)
    (hr : s.railRuns r.val = true) (hc : (c, cause) ∈ [(Instr.boostOvp r above true n, 1), (.boostUvp r, 2), (.boostPhaseOcp r ph, 3)]) :
    ∃ t, exec c s = .next t ∧ RailFaulted s r.val cause t := by
  simp only [List.mem_cons, List.not_mem_nil, or_false, Prod.mk.injEq] at hc
  rcases hc with ⟨rfl, rfl⟩ | ⟨rfl, rfl⟩ | ⟨rfl, rfl⟩
  · exact ⟨_, execBoostOvp_runs above true n hp hr, ((s.ovpCounted r.val above n).railFault_faulted r.isLt (by decide)).counted⟩
  · refine ⟨_, ?_, s.railFault_faulted r.isLt (by decide)⟩
    show execBoostUvp r s = _
    rw [execBoostUvp, if_pos hr]
  · refine ⟨_, ?_, s.railFault_faulted r.isLt (by decide)⟩
    show execBoostPhaseOcp r ph s = _
    rw [execBoostPhaseOcp, if_pos hr]

/-! ### The retry of a rail, and CLEAR (R321, R333) -/

theorem State.railOff_reaches (s : State) {r : Nat} (cause : Nat) (hr : r < 2) :
    Reaches (fun _ => False) (fun q => q = r) True s (s.railOff r cause) := (Reaches.refl s).railOff (show r % 65536 = r by omega)

theorem State.railOff_rail (s : State) (r cause : Nat) : (s.railOff r cause).rail r = { s.rail r with cmd := 0, setp := 0 } := by
  unfold State.railOff
  extract_lets t u
  have ht : t.rail r = { s.rail r with cmd := 0, setp := 0 } := (State.rail_put _ _ _ _ _ _).trans (s.rail_modRail_same r _)
  rw [State.railShow_rail, show u.rail r = t.rail r from by simp only [u]; split <;> rfl, ht]

/-- A soft start from a VIN below VMIN (R321). -/
theorem State.railSoft_below {s : State} {r : Nat} (h : s.get R.SUP_VIN_MEAS_VOLTS * 10000 < s.vmin r) :
    (s.railSoft r).get R.BST_STATUS_STATE r = 1 ∧
      (s.railSoft r).rail r = { s.rail r with cmd := s.get R.SUP_VIN_MEAS_VOLTS * 10000, setp := s.vmin r } := by
  unfold State.railSoft
  extract_lets vin t
  rw [if_neg (Nat.not_le_of_lt h), State.railShow_bst, State.railShow_rail]
  exact ⟨State.get_put_same _ R.BST_STATUS_STATE 1 r 0, (State.rail_put _ _ _ _ _ _).trans (s.rail_modRail_same r _)⟩

theorem execBoostRetryExpiry_starts {s : State} {r : Fin 2} (hst : s.get R.BST_STATUS_STATE r.val = 3)
    (hcause : s.get R.BST_STATUS_CAUSE r.val ≠ 4) (hrun : s.dev = .run) (hen : s.flag R.BST_CTRL_EN r.val = true)
    (hpage : s.flag R.PG_CTRL_EN (0x58 + r.val) = true) (hgates : s.gatesHeld = false) (hntc : (s.rail r.val).ntcShut = false)
    (hvin : s.get R.SUP_VIN_MEAS_VOLTS * 10000 < s.vmin r.val) :
    ∃ t, exec (.boostRetryExpiry r) s = .next t ∧ t.get R.BST_STATUS_STATE r.val = 1 ∧
      (t.rail r.val).cmd = s.get R.SUP_VIN_MEAS_VOLTS * 10000 ∧ (t.rail r.val).setp = s.vmin r.val ∧ SameCore s t := by
  have hreach := s.railOff_reaches 0 r.isLt
  have hready : RailReady (s.railOff r.val 0) r.val :=
    ⟨hreach.keeps.core.dev_eq.trans hrun, (hreach.keeps.flag (by decide) r.val 0).trans hen,
      (hreach.keeps.flag (by decide) (0x58 + r.val) 0).trans hpage, hreach.gatesHeld.trans hgates,
      ((hreach.railHeld trivial r.val).1).trans hntc, by rw [State.railOff_state s 0 r.isLt r.isLt, if_pos rfl]⟩
  have hmeas : (s.railOff r.val 0).get R.SUP_VIN_MEAS_VOLTS = s.get R.SUP_VIN_MEAS_VOLTS := hreach.keeps.regs _ _ _ (by decide)
  have hvmin : (s.railOff r.val 0).vmin r.val = s.vmin r.val := by rw [State.vmin, hreach.keeps.regs _ _ _ (by decide), State.vmin]
  have hcore : SameCore s ((s.railOff r.val 0).railSoft r.val) := (((Reaches.refl s).railOff (B := fun _ => True) (C := fun _ => True)
    (K := True) trivial).railSoft (fun _ => trivial) trivial).keeps.core
  obtain ⟨hstate, hrail⟩ := State.railSoft_below (s := s.railOff r.val 0) (r := r.val) (by rwa [hmeas, hvmin])
  refine ⟨_, ?_, hstate, by rw [hrail, hmeas], by rw [hrail, hvmin], hcore⟩
  show execBoostRetryExpiry r s = _
  simp [execBoostRetryExpiry, hst, hcause, hready.railEval]

/-- A rail that is not enabled does not start. -/
theorem State.railEval_disabled {s : State} {r : Nat} (hst : s.get R.BST_STATUS_STATE r = 0) (hen : s.flag R.BST_CTRL_EN r = false) :
    s.railEval r = s := by
  have hpermit : s.railPermitted r = false := by simp [State.railPermitted, hen]
  have hruns : s.railRuns r = false := by simp [State.railRuns, hst]
  simp [State.railEval, hruns, hst, hpermit]

theorem execBstClear_clears {s : State} {who : Initiator} {r : Fin 2} (ht : s.takes who (0x58040 + 0x1000 * r.val) = true)
    (hst : s.get R.BST_STATUS_STATE r.val = 4) (hen : s.flag R.BST_CTRL_EN r.val = false) :
    ∃ t, exec (.bstClear who r) s = .next t ∧ t.get R.BST_STATUS_STATE r.val = 0 ∧ (t.rail r.val).faults = [] ∧ (t.rail r.val).cmd = 0 ∧
      SameCore s t := by
  have hforget : Reaches (fun _ => False) (fun q => q = r.val) True s (s.modRail r.val (fun x => { x with faults := [] })) :=
    (Reaches.refl s).modRail (show r.val % 65536 = r.val by omega)
  have hreach := hforget.trans (State.railOff_reaches _ 0 r.isLt)
  have hstate : ((s.modRail r.val (fun x => { x with faults := [] })).railOff r.val 0).get R.BST_STATUS_STATE r.val = 0 := by
    rw [State.railOff_state _ 0 r.isLt r.isLt, if_pos rfl]
  refine ⟨(s.modRail r.val (fun x => { x with faults := [] })).railOff r.val 0, ?_, hstate, ?_, ?_, hreach.keeps.core⟩
  · show execBstClear who r s = _
    rw [execBstClear, State.command_taken _ ht, if_pos hst, State.railEval_disabled hstate ((hreach.keeps.flag (by decide) _ 0).trans hen)]
  · rw [State.railOff_rail, State.rail_modRail_same]
  · rw [State.railOff_rail]

theorem execBstClear_idle {s : State} {who : Initiator} {r : Fin 2} (ht : s.takes who (0x58040 + 0x1000 * r.val) = true)
    (hst : s.get R.BST_STATUS_STATE r.val ≠ 4) : exec (.bstClear who r) s = .next s := by
  show execBstClear who r s = _
  rw [execBstClear, State.command_taken _ ht, if_neg hst]

/-! ### O54 -/

/-- Settles O54: the rail's own registers are followed through each row, and a fault's channels one by one. -/
theorem railRows : Obligations.RailRows := by
  refine ⟨fun s r h => execRailSoftStartDone_tracks h, fun s r above lasted n hp hr => execBoostOvp_idle above lasted n hp hr,
    fun s r above n hp hr => ?_, fun s r ph above n c cause hp hr hc => ?_,
    fun s r hst hcause hrun hen hpage hgates hntc hvin => execBoostRetryExpiry_starts hst hcause hrun hen hpage hgates hntc hvin,
    fun s who r ht => ⟨execBstClear_clears ht, execBstClear_idle ht⟩⟩
  · obtain ⟨hflag, hcount⟩ := s.ovpCounted_shows r.val above n
    exact ⟨_, execBoostOvp_runs above false n hp hr, hflag, hcount, s.ovpCounted_regsOnly r.val above n⟩
  · obtain ⟨t, he, hstatus, hseen, hinfo, hsticky, hcmd, hfaults, hwaits, hlatches, hothers⟩ := exec_boostFault hp hr hc
    exact ⟨t, he, hstatus, hseen, hinfo, hsticky, hcmd, hfaults, hwaits, hlatches, hothers⟩

end Sys2Proof.Machine

/-! PROOFS. Faults of a channel (O56). -/

namespace Sys2Proof.Machine

/-! ### Limited cycles, counted and under a commanded sweep (R310, R341) -/

theorem State.chDriven_of_switching {s : State} {n : Nat} (h : switching (s.chState n) = true) : s.chDriven n = true := by
  simp [State.chDriven, h]

theorem execOcpCycleLimit_counts {s : State} {n : Fin 8} (k : Nat) (hp : s.powered = true) (hsw : switching (s.chState n.val) = true) :
    exec (.ocpCycleLimit n k) s = .next (s.bumpBy R.OCP_CYCLE_CNT k n.val) := by
  show execOcpCycleLimit n k s = _
  simp [execOcpCycleLimit, hp, State.chDriven_of_switching hsw, hsw]

/-- An operation on a channel that ends early: its result is ABORTED, and the operation goes on to its last step. -/
theorem State.diagCut_aborts {s : State} {n : Nat} (h : s.diag.cur = some n) :
    (s.diagCut n).diag = { s.diag with step := 10 } ∧ (s.diagCut n).get R.DIAG_RES_AC_RESULT n = 3 := by
  unfold State.diagCut
  rw [if_pos h]
  have hget : ({ s with diag := { s.diag with step := 10 } }.put R.DIAG_RES_AC_RESULT 3 n).get R.DIAG_RES_AC_RESULT n = 3 :=
    State.get_put_same _ R.DIAG_RES_AC_RESULT 3 n 0
  unfold State.when
  split
  · exact ⟨rfl, hget⟩
  · exact ⟨rfl, hget⟩

theorem State.diagCut_other {s : State} {n : Nat} (h : s.diag.cur ≠ some n) : s.diagCut n = s := if_neg h

theorem State.diagCut_result (s : State) (n : Nat) : Keeps [R.DIAG_RES_AC_RESULT] s (s.diagCut n) := by
  have hstep : Keeps [R.DIAG_RES_AC_RESULT] s { s with diag := { s.diag with step := 10 } } := (Keeps.refl _ s).set
  exact Keeps.ite ((hstep.put (by decide)).when fun _ h => h.send) (Keeps.refl _ s)

theorem RecordsOnly.diag {s t : State} (h : RecordsOnly s t) : t.diag = s.diag := by rw [h]

theorem State.enterCh_diag (s : State) (n st : Nat) : (s.enterCh n st).diag = s.diag := by
  obtain ⟨p, h⟩ := s.enterCh_records n st
  exact h.diag

theorem State.rampDown_diag (s : State) (n : Nat) : (s.rampDown n).diag = s.diag := State.enterCh_diag _ _ _

theorem State.bumpBy_diag (s : State) (f : Fld) (n i j : Nat) : (s.bumpBy f n i j).diag = s.diag := by rw [State.bumpBy_eq]

theorem execOcpCycleLimit_aborts {s : State} {n : Fin 8} (k : Nat) (hp : s.powered = true) (hst : s.chState n.val = chDiag)
    (hcur : s.diag.cur = some n.val) (h2 : 2 ≤ s.diag.step) (h9 : s.diag.step ≤ 9) :
    ∃ t, exec (.ocpCycleLimit n k) s = .next t ∧ t.chState n.val = chDown ∧ t.diag = { s.diag with step := 10 } ∧
      t.get R.DIAG_RES_AC_RESULT n.val = 3 ∧
      t.get R.OCP_CYCLE_CNT n.val = min (s.get R.OCP_CYCLE_CNT n.val + k) (2 ^ R.OCP_CYCLE_CNT.width - 1) := by
  have hdiag : (s.bumpBy R.OCP_CYCLE_CNT k n.val).diag = s.diag := s.bumpBy_diag _ _ _ _
  obtain ⟨hstep, hresult⟩ := State.diagCut_aborts (s := s.bumpBy R.OCP_CYCLE_CNT k n.val) (by rw [hdiag]; exact hcur)
  have hdown : Keeps moveFlds ((s.bumpBy R.OCP_CYCLE_CNT k n.val).diagCut n.val) (((s.bumpBy R.OCP_CYCLE_CNT k n.val).diagCut n.val).rampDown n.val) :=
    (Keeps.refl _ _).rampDown_moves (List.Subset.refl _)
  refine ⟨((s.bumpBy R.OCP_CYCLE_CNT k n.val).diagCut n.val).rampDown n.val, ?_, ?_, ?_, ?_, ?_⟩
  · have hdriven : s.chDriven n.val = true := by simp [State.chDriven, hst, hcur, h2, h9]
    show execOcpCycleLimit n k s = _
    simp [execOcpCycleLimit, hp, hdriven, hst, switching]
  · rw [State.rampDown_chState _ n.isLt n.isLt, if_pos rfl]
  · rw [State.rampDown_diag, hstep, hdiag]
  · exact (hdown.regs _ _ _ (by decide)).trans hresult
  · rw [hdown.regs _ _ _ (by decide), (State.diagCut_result _ _).regs _ _ _ (by decide), State.get_bumpBy_same _ _ _ _ _ (by decide)]

/-! ### Over-current trips (R310, R311) -/

/-- A channel whose fault has been recorded and counted, before it stops. -/
def State.tripCounted (s : State) (n cause : Nat) : State := (s.chFault n cause).bump R.SHUTDOWN_CNT n

theorem State.tripCounted_shows (s : State) (n : Nat) {cause : Nat} (hc : cause < 16) : Faulted (s.tripCounted n cause) n cause ∧
    (s.tripCounted n cause).get R.SHUTDOWN_CNT n = min (s.get R.SHUTDOWN_CNT n + 1) (2 ^ R.SHUTDOWN_CNT.width - 1) ∧
    (s.tripCounted n cause).get R.PCH_STATUS_RETRY_NUM n = s.get R.PCH_STATUS_RETRY_NUM n := by
  have hcount : Keeps [R.SHUTDOWN_CNT, R.PG_STATUS_SAT_SEEN] (s.chFault n cause) (s.tripCounted n cause) :=
    (Keeps.refl _ _).bump (by decide) (by decide)
  refine ⟨(s.chFault_shows n hc).later hcount ((Calm.refl _).bump (by decide)) (by decide), ?_, ?_⟩
  · rw [State.tripCounted, State.get_bump_same _ _ _ _ (by decide), (s.chFault_keeps n cause).regs _ _ _ (by decide)]
  · rw [hcount.regs _ _ _ (by decide), (s.chFault_keeps n cause).regs _ _ _ (by decide)]

theorem State.tripCounted_ch (s : State) (n cause m : Nat) : (s.tripCounted n cause).ch m = s.ch m := by
  rw [State.tripCounted, State.ch_bump, State.chFault_ch]

theorem State.chTrip_eq {s : State} {n : Nat} (cause : Nat) (h : s.diag.cur ≠ some n) :
    s.chTrip n cause = if (s.ch n).retried then (s.tripCounted n cause).retryFails n else (s.tripCounted n cause).chDead n chRetry := by
  unfold State.chTrip
  rw [State.diagCut_other h, ← State.tripCounted]
  dsimp only
  rw [State.tripCounted_ch]

theorem State.chDead_gain (s : State) (n st : Nat) : ((s.chDead n st).ch n).gain = 0 := by
  obtain ⟨feed, mod, slipped, bad, hch⟩ := s.chDead_ch n st
  rw [hch]

theorem State.retryFails_gain (s : State) (n : Nat) : ((s.retryFails n).ch n).gain = 0 := by
  unfold State.retryFails
  dsimp only
  split
  · exact State.chDead_gain _ _ _
  · exact State.chDead_gain _ _ _

/-- The first and the second failed retry wait for the next (R311). -/
theorem State.retryFails_waits {s : State} {n : Nat} (hn : n < 8) (h : s.get R.PCH_STATUS_RETRY_NUM n < 2) :
    (s.retryFails n).chState n = chRetry ∧ (s.retryFails n).get R.PCH_STATUS_RETRY_NUM n = s.get R.PCH_STATUS_RETRY_NUM n + 1 := by
  unfold State.retryFails
  extract_lets k t
  rw [if_neg (by omega), State.chDead_chState _ hn hn (by decide), (State.chDead_moved _ _ _).regs _ _ _ (by decide)]
  refine ⟨if_pos rfl, ?_⟩
  show (s.put R.PCH_STATUS_RETRY_NUM (min 3 k) n).get R.PCH_STATUS_RETRY_NUM n = k
  rw [State.get_put_same, Nat.min_eq_right (by omega)]
  exact Nat.mod_eq_of_lt (show k < 4 by omega)

/-- The third latches (R311). -/
theorem State.retryFails_latches {s : State} {n : Nat} (hn : n < 8) (h : 2 ≤ s.get R.PCH_STATUS_RETRY_NUM n) :
    (s.retryFails n).chState n = chLatched ∧ (s.retryFails n).get R.PCH_STATUS_RETRY_NUM n = 3 := by
  unfold State.retryFails
  extract_lets k t
  have hkeep : Keeps ([R.RETRY_CNT] ++ eventFlds) t (((t.bump R.RETRY_CNT n).raise (EV_PCH0_FAULT + n)).modCh n
      (fun x => { x with retried := false })) :=
    (((Keeps.refl _ t).bump (by decide) (by decide)).raise (List.subset_append_right _ _)).modCh
  rw [if_pos (by omega), State.chDead_chState _ hn hn (by decide), (State.chDead_moved _ _ _).regs _ _ _ (by decide),
    hkeep.regs _ _ _ (by decide)]
  refine ⟨if_pos rfl, ?_⟩
  show (s.put R.PCH_STATUS_RETRY_NUM (min 3 k) n).get R.PCH_STATUS_RETRY_NUM n = 3
  rw [State.get_put_same, Nat.min_eq_left (by omega)]
  rfl

theorem exec_ocpTrips {s : State} {n : Fin 8} {c : Instr} {cause : Nat} (hp : s.powered = true) (hsw : switching (s.chState n.val) = true)
    (hc : (c, cause) ∈ [(Instr.ocpSustained n, 1), (.ocpFast n, 2)]) : exec c s = .next (s.chTrip n.val cause) ∧ cause < 16 := by
  have htrips : s.chTrips n.val = true := by simp [State.chTrips, State.chDriven_of_switching hsw]
  simp only [List.mem_cons, List.not_mem_nil, or_false, Prod.mk.injEq] at hc
  rcases hc with ⟨rfl, rfl⟩ | ⟨rfl, rfl⟩
  · refine ⟨?_, by decide⟩
    show execOcpSustained n s = _
    simp [execOcpSustained, hp, htrips]
  · refine ⟨?_, by decide⟩
    show execOcpFast n s = _
    simp [execOcpFast, hp, htrips]

/-- What a trip leaves, whichever way the channel stops. -/
theorem State.chTrip_shows {s : State} {n cause : Nat} (hcur : s.diag.cur ≠ some n) (hc : cause < 16) :
    Faulted (s.chTrip n cause) n cause ∧
      (s.chTrip n cause).get R.SHUTDOWN_CNT n = min (s.get R.SHUTDOWN_CNT n + 1) (2 ^ R.SHUTDOWN_CNT.width - 1) ∧
      ((s.chTrip n cause).ch n).gain = 0 := by
  obtain ⟨hfault, hcount, -⟩ := s.tripCounted_shows n hc
  rw [State.chTrip_eq cause hcur]
  split
  · have hkeep := (s.tripCounted n cause).retryFails_keeps n
    exact ⟨hfault.later hkeep (Calm.refl _).retryFails (by decide), (hkeep.regs _ _ _ (by decide)).trans hcount, State.retryFails_gain _ _⟩
  · have hkeep := (s.tripCounted n cause).chDead_moved n chRetry
    exact ⟨hfault.later hkeep (Calm.refl _).chDead (by decide), (hkeep.regs _ _ _ (by decide)).trans hcount, State.chDead_gain _ _ _⟩

theorem State.chTrip_waits {s : State} {n cause : Nat} (hn : n < 8) (hcur : s.diag.cur ≠ some n) (hr : (s.ch n).retried = false)
    (hc : cause < 16) : (s.chTrip n cause).chState n = chRetry ∧
      (s.chTrip n cause).get R.PCH_STATUS_RETRY_NUM n = s.get R.PCH_STATUS_RETRY_NUM n := by
  obtain ⟨-, -, hnum⟩ := s.tripCounted_shows n hc
  rw [State.chTrip_eq cause hcur, hr, if_neg Bool.false_ne_true, State.chDead_chState _ hn hn (by decide), if_pos rfl,
    (State.chDead_moved _ _ _).regs _ _ _ (by decide)]
  exact ⟨rfl, hnum⟩

theorem State.chTrip_retried {s : State} {n cause : Nat} (hcur : s.diag.cur ≠ some n) (hr : (s.ch n).retried = true) :
    s.chTrip n cause = (s.tripCounted n cause).retryFails n := by
  rw [State.chTrip_eq cause hcur, if_pos hr]

/-- An operation on a channel moves no other. -/
theorem Reaches.others {B : Nat → Prop} {K : Prop} {s t : State} {n : Nat} (h : Reaches (fun m => m = n) B K s t) {m : Nat} (hm : m < 8)
    (hne : m ≠ n) : t.chState m = s.chState m := h.pch _ (by decide) m 0 (show ¬m % 65536 = n by omega)

/-! ### A DC fault and the loss of sense (R304, R313) -/

/-- A DC fault that is taken, before its channel stops. -/
def State.dcFaulted (s : State) (n : Nat) : State :=
  (((s.diagCut n).chFault n 3).bump R.DC_FAULT_CNT n).modCh n (fun x => { x with retried := false })

theorem execDcFault_latches {s : State} {n : Fin 8} (hp : s.powered = true) (hd : s.chDriven n.val = true) :
    ∃ t, exec (.dcFault n) s = .next t ∧ t.chState n.val = chLatched ∧ t.get R.PCH_STATUS_CAUSE n.val = 3 ∧
      t.get R.DC_FAULT_CNT n.val = min (s.get R.DC_FAULT_CNT n.val + 1) (2 ^ R.DC_FAULT_CNT.width - 1) ∧
      t.sticky (EV_PCH0_FAULT + n.val) = true ∧ ∀ m, m < 8 → m ≠ n.val → t.chState m = s.chState m := by
  have hn : n.val % 65536 = n.val := by omega
  have hcount : Keeps [R.DC_FAULT_CNT, R.PG_STATUS_SAT_SEEN] ((s.diagCut n.val).chFault n.val 3) (s.dcFaulted n.val) :=
    ((Keeps.refl _ _).bump (by decide) (by decide)).modCh
  have hdead := (s.dcFaulted n.val).chDead_moved n.val chLatched
  have hfault : Faulted ((s.dcFaulted n.val).chDead n.val chLatched) n.val 3 :=
    (((s.diagCut n.val).chFault_shows n.val (by decide)).later hcount ((Calm.refl _).bump (by decide)).modCh (by decide)).later hdead
      (Calm.refl _).chDead (by decide)
  have hreach : Reaches (fun m => m = n.val) (fun _ => False) True s ((s.dcFaulted n.val).chDead n.val chLatched) :=
    ((((((Reaches.refl s).diagCut hn).chFault hn).bump hn (by decide)).modCh hn).chDead hn)
  refine ⟨(s.dcFaulted n.val).chDead n.val chLatched, ?_, ?_, hfault.status, ?_, hfault.sticky, fun m hm hne => hreach.others hm hne⟩
  · have htrips : s.chTrips n.val = true := by simp [State.chTrips, hd]
    show execDcFault n s = _
    simp [execDcFault, hp, htrips, State.dcFaulted]
  · rw [State.chDead_chState _ n.isLt n.isLt (by decide), if_pos rfl]
  · rw [hdead.regs _ _ _ (by decide), State.dcFaulted, State.get_modCh, State.get_bump_same _ _ _ _ (by decide),
      (State.chFault_keeps _ _ _).regs _ _ _ (by decide), (State.diagCut_result _ _).regs _ _ _ (by decide)]

/-- The state in which the loss of sense raises its event. -/
def State.fallenBack (s : State) (n : Nat) : State :=
  (((s.modCh n (fun x => { x with pilotBad := true })).put R.PCH_STATUS_OPEN_LOOP 1 n).put R.PCH_STATUS_FALLBACK_SEEN 1 n).bump R.FALLBACK_CNT n

theorem execSenseLoss_fallsBack {s : State} {n : Fin 8} (hp : s.powered = true) (hd : s.chDriven n.val = true)
    (hclosed : s.flag R.PCH_STATUS_OPEN_LOOP n.val = false) (hmod : (s.ch n.val).mod ≠ 2) (hauto : s.flag R.PCH_CFG_AUTO_FB n.val = true) :
    ∃ t, exec (.senseLoss n) s = .next t ∧ t.flag R.PCH_STATUS_OPEN_LOOP n.val = true ∧
      t.flag R.PCH_STATUS_FALLBACK_SEEN n.val = true ∧ t.sticky EV_SENSE_FALLBACK = true ∧ t.chState n.val = s.chState n.val ∧
      t.get R.FALLBACK_CNT n.val = min (s.get R.FALLBACK_CNT n.val + 1) (2 ^ R.FALLBACK_CNT.width - 1) := by
  have hev := State.raise_keeps (s.fallenBack n.val) EV_SENSE_FALLBACK
  have hall : Keeps [R.PCH_STATUS_OPEN_LOOP, R.PCH_STATUS_FALLBACK_SEEN, R.FALLBACK_CNT, R.PG_STATUS_SAT_SEEN] s (s.fallenBack n.val) :=
    (((Keeps.refl _ s).modCh.put (by decide)).put (by decide)).bump (by decide) (by decide)
  refine ⟨(s.fallenBack n.val).raise EV_SENSE_FALLBACK, ?_, ?_, ?_, State.sticky_raise_same _ _, ?_, ?_⟩
  · show execSenseLoss n s = _
    simp [execSenseLoss, hp, hd, hclosed, hmod, hauto, State.fallenBack]
  · rw [hev.flag (by decide), State.flag, State.fallenBack, State.get_bump_ne _ _ _ _ _ (by decide) (by decide),
      State.get_put_ne _ _ _ _ _ _ (by decide), State.get_put_same]
    rfl
  · rw [hev.flag (by decide), State.flag, State.fallenBack, State.get_bump_ne _ _ _ _ _ (by decide) (by decide), State.get_put_same]
    rfl
  · exact (hev.regs _ _ _ (by decide)).trans (hall.regs _ _ _ (by decide))
  · rw [hev.regs _ _ _ (by decide), State.fallenBack, State.get_bump_same _ _ _ _ (by decide), State.get_put_ne _ _ _ _ _ _ (by decide),
      State.get_put_ne _ _ _ _ _ _ (by decide), State.get_modCh]

/-! ### O56 -/

/-- Settles O56: a trip is its record, its count and the channel's stop, which the retries made before decide. -/
theorem channelFaults : Obligations.ChannelFaults := by
  refine ⟨fun s n k hp hsw => ?_, fun s n k hp hst hcur h2 h9 => execOcpCycleLimit_aborts k hp hst hcur h2 h9,
    fun s n c cause hp hsw hcur hc => ?_,
    fun s n hp hd => ⟨execDcFault_latches hp hd, fun hclosed hmod hauto => execSenseLoss_fallsBack hp hd hclosed hmod hauto⟩⟩
  · exact ⟨_, execOcpCycleLimit_counts k hp hsw, State.get_bumpBy_same _ _ _ _ _ (by decide),
      (RegsOnly.refl _ s).bumpBy (by decide) (by decide)⟩
  · obtain ⟨he, hlt⟩ := exec_ocpTrips hp hsw hc
    obtain ⟨hfault, hcount, hgain⟩ := State.chTrip_shows hcur hlt
    obtain ⟨-, -, hnum⟩ := s.tripCounted_shows n.val hlt
    have hreach : Reaches (fun m => m = n.val) (fun _ => False) True s (s.chTrip n.val cause) :=
      (Reaches.refl s).chTrip (show n.val % 65536 = n.val by omega)
    refine ⟨_, he, hfault.status, hfault.seen, hfault.info, hfault.sticky, hcount, hgain, fun hr => State.chTrip_waits n.isLt hcur hr hlt,
      fun hr hnumlt => ?_, fun hr hnumge => ?_, fun m hm hne => hreach.others hm hne⟩
    · rw [State.chTrip_retried hcur hr, ← hnum]
      exact State.retryFails_waits n.isLt (hnum ▸ hnumlt)
    · rw [State.chTrip_retried hcur hr]
      exact State.retryFails_latches n.isLt (hnum ▸ hnumge)

end Sys2Proof.Machine

/-! PROOFS. Ramps, retries and limits of a channel (O55). -/

namespace Sys2Proof.Machine

/-! ### The mute that is wanted (R305, R395) -/

theorem RecordsOnly.brace {s t : State} (h : RecordsOnly s t) : t.brace = s.brace := by rw [h]

theorem Keeps.muteWanted {l : List Fld} {s t : State} (h : Keeps l s t) (hl : ∀ f ∈ l, f.base ≠ R.PCH_CTRL_MUTE.base)
    (hb : t.brace = s.brace) (n : Nat) : t.muteWanted n = s.muteWanted n := by
  obtain ⟨-, -, hrole, -, -, htg, -⟩ := h.core
  simp only [State.muteWanted, State.settling, h.flag hl, hrole, htg, hb]

theorem State.enterCh_brace (s : State) (n st : Nat) : (s.enterCh n st).brace = s.brace := by
  obtain ⟨p, h⟩ := s.enterCh_records n st
  exact h.brace

theorem State.applyFeed_brace (s : State) (n : Nat) : (s.applyFeed n).brace = s.brace := by
  unfold State.applyFeed
  extract_lets t
  split
  · rfl
  · rfl

/-! ### The end of a gain ramp (R305, R306, R308) -/

@[simp] theorem State.ch_setCh_same (s : State) (n : Nat) (x : PchHid) : (s.setCh n x).ch n = x := Sparse.get_put_same _ _ _ _

theorem Keeps.setCh {l : List Fld} {s0 s : State} (h : Keeps l s0 s) {n : Nat} {x : PchHid} : Keeps l s0 (s.setCh n x) := h.set

theorem execGainRampEnd_done {s : State} {n : Fin 8} (hp : s.powered = true) (hclk : s.clockError = false)
    (hst : s.chState n.val = chPlay ∨ s.chState n.val = chMute) (hdir : (s.ch n.val).dir ≠ 0) :
    exec (.gainRampEnd n) s = .next (s.gainDone n.val) := by
  show execGainRampEnd n s = _
  rcases hst with hst | hst <;> simp [execGainRampEnd, hp, hclk, hst, hdir]

theorem State.gainDone_up {s : State} {n : Nat} (hdir : (s.ch n).dir = 1) :
    s.gainDone n = s.setCh n { s.ch n with gain := gainFull, dir := 0, gainEnd := .stay } := by
  unfold State.gainDone
  dsimp only
  rw [if_pos hdir]

/-- A channel whose gain has run down: silent, with the feed that waited for it (R308). -/
def State.gainOut (s : State) (n : Nat) : State := (s.setCh n { s.ch n with gain := 0, dir := 0, gainEnd := .stay }).applyFeed n

theorem State.gainOut_keeps (s : State) (n : Nat) : Keeps [R.PCH_STATUS_OPEN_LOOP] s (s.gainOut n) :=
  Keeps.ite (Keeps.refl _ s).setCh.modCh ((Keeps.refl _ s).setCh.modCh.put (by decide))

theorem State.gainOut_chState (s : State) (n m : Nat) : (s.gainOut n).chState m = s.chState m := (s.gainOut_keeps n).regs _ m 0 (by decide)

theorem State.gainOut_gain (s : State) (n : Nat) : ((s.gainOut n).ch n).gain = 0 := by
  obtain ⟨feed, mod, slipped, bad, hch⟩ := (s.setCh n { s.ch n with gain := 0, dir := 0, gainEnd := .stay }).applyFeed_ch n
  rw [State.gainOut, hch, State.ch_setCh_same]

theorem State.gainOut_muteWanted (s : State) (n m : Nat) : (s.gainOut n).muteWanted m = s.muteWanted m :=
  (s.gainOut_keeps n).muteWanted (by decide) (State.applyFeed_brace _ _) m

theorem State.gainDone_out {s : State} {n : Nat} (hdir : (s.ch n).dir = 2) : s.gainDone n =
    if (s.ch n).gainEnd = .toDown then (s.gainOut n).rampDown n
    else if s.muteWanted n then (s.gainOut n).enterCh n chMute else (s.gainOut n).gainRun n 1 .stay := by
  rw [← s.gainOut_muteWanted n n]
  unfold State.gainDone
  dsimp only
  rw [if_neg (by omega), ← State.gainOut]

theorem State.gainDone_down {s : State} {n : Nat} (hn : n < 8) (hst : s.chState n = chPlay ∨ s.chState n = chMute)
    (hdir : (s.ch n).dir = 2) (hend : (s.ch n).gainEnd = .toDown) : (s.gainDone n).chState n = chDown ∧ ((s.gainDone n).ch n).gain = 0 ∧
      ((s.gainDone n).ch n).cm = s.get R.PCH_CFG_CM_RAMP n * 30720 ∧ (s.gainDone n).sticky EV_PCH_STATE = true := by
  have hstate : (s.gainOut n).chState n ≠ chUp ∧ (s.gainOut n).chState n ≠ chDiag ∧ (s.gainOut n).chState n ≠ chDown := by
    rw [s.gainOut_chState]
    rcases hst with hst | hst <;> rw [hst] <;> decide
  obtain ⟨hup, hdiag, hdown⟩ := hstate
  obtain ⟨cm, bad, hch, hcm⟩ := (s.gainOut n).rampDown_ch n
  rw [State.gainDone_out hdir, if_pos hend, State.rampDown_chState _ hn hn, hch]
  exact ⟨if_pos rfl, rfl, (hcm hup hdiag).trans (by rw [(s.gainOut_keeps n).regs _ _ _ (by decide)]), State.rampDown_sticky hdown⟩

theorem State.gainDone_mute {s : State} {n : Nat} (hn : n < 8) (hst : s.chState n = chPlay) (hdir : (s.ch n).dir = 2)
    (hend : (s.ch n).gainEnd = .toMute) (hmute : s.muteWanted n = true) :
    (s.gainDone n).chState n = chMute ∧ ((s.gainDone n).ch n).gain = 0 ∧ (s.gainDone n).sticky EV_PCH_STATE = true := by
  obtain ⟨bad, hch⟩ := (s.gainOut n).enterCh_ch n chMute
  rw [State.gainDone_out hdir, if_neg (by rw [hend]; decide), if_pos hmute, State.enterCh_chState _ hn hn (by decide), hch]
  refine ⟨if_pos rfl, s.gainOut_gain n, State.enterCh_sticky ?_⟩
  rw [s.gainOut_chState, hst]
  decide

/-! ### The end of a common-mode ramp (R303, R305, R306, R338) -/

/-- The measured trim of R303, where sense is valid. -/
def State.trimTaken (s : State) (n : Nat) (trim : Option Int) : State :=
  match trim with
  | some x => (s.put R.PCH_STATUS_CAL_VALID 1 n).putI R.PCH_OL_TRIM_TRIM x n
  | none => s

/-- A channel at the top of its common-mode ramp. -/
def State.cmRisen (s : State) (n : Nat) (trim : Option Int) : State :=
  ((s.trimTaken n trim).enterCh n chPlay).modCh n (fun x => { x with cm := x.cmTotal, gain := 0, fade := 120 })

theorem State.trimTaken_keeps (s : State) (n : Nat) (trim : Option Int) :
    Keeps [R.PCH_STATUS_CAL_VALID, R.PCH_OL_TRIM_TRIM] s (s.trimTaken n trim) := by
  cases trim with
  | none => exact Keeps.refl _ s
  | some x => exact ((Keeps.refl _ s).put (by decide)).put (by decide)

theorem State.trimTaken_rest (s : State) (n : Nat) (trim : Option Int) : (s.trimTaken n trim).brace = s.brace ∧
    ∀ m, (s.trimTaken n trim).ch m = s.ch m := by
  cases trim with
  | none => exact ⟨rfl, fun _ => rfl⟩
  | some x => exact ⟨rfl, fun _ => rfl⟩

theorem State.cmRisen_keeps (s : State) (n : Nat) (trim : Option Int) : Keeps moveFlds (s.trimTaken n trim) (s.cmRisen n trim) :=
  ((s.trimTaken n trim).enterCh_moved n chPlay).modCh

theorem State.cmRisen_muteWanted (s : State) (n : Nat) (trim : Option Int) : (s.cmRisen n trim).muteWanted n = s.muteWanted n := by
  obtain ⟨hbrace, -⟩ := s.trimTaken_rest n trim
  exact ((s.cmRisen_keeps n trim).muteWanted (by decide) (State.enterCh_brace _ _ _) n).trans
    ((s.trimTaken_keeps n trim).muteWanted (by decide) hbrace n)

theorem State.cmRisen_ch (s : State) (n : Nat) (trim : Option Int) : ∃ bad,
    (s.cmRisen n trim).ch n = { s.ch n with cm := (s.ch n).cmTotal, gain := 0, fade := 120, pilotBad := bad } := by
  obtain ⟨-, hrest⟩ := s.trimTaken_rest n trim
  obtain ⟨bad, hch⟩ := (s.trimTaken n trim).enterCh_ch n chPlay
  refine ⟨bad, ?_⟩
  rw [State.cmRisen, State.ch_modCh_same, hch, hrest]

theorem State.cmRisen_chState (s : State) {n : Nat} (trim : Option Int) (hn : n < 8) : (s.cmRisen n trim).chState n = chPlay := by
  rw [State.cmRisen, State.chState_modCh, State.enterCh_chState _ hn hn (by decide), if_pos rfl]

theorem execCmRampEnd_up {s : State} {n : Fin 8} (trim : Option Int) (hp : s.powered = true) (hclk : s.clockError = false)
    (hst : s.chState n.val = chUp) : exec (.cmRampEnd n trim) s = .next (if s.muteWanted n.val then (s.cmRisen n.val trim).enterCh n.val chMute
      else (s.cmRisen n.val trim).gainRun n.val 1 .stay) := by
  rw [← s.cmRisen_muteWanted n.val trim]
  show execCmRampEnd n trim s = _
  cases trim <;> simp [execCmRampEnd, hp, hclk, hst, State.cmRisen, State.trimTaken] <;> rfl

/-- The two ways on from the top of the ramp, MUTE and PLAY with the gain rising. -/
theorem State.cmRisen_onward (s : State) {n : Nat} (trim : Option Int) (hn : n < 8) {t : State}
    (ht : t = if s.muteWanted n then (s.cmRisen n trim).enterCh n chMute else (s.cmRisen n trim).gainRun n 1 .stay) :
    Keeps moveFlds (s.trimTaken n trim) t ∧ t.chState n = (if s.muteWanted n then chMute else chPlay) ∧ (t.ch n).gain = 0 ∧
      (t.ch n).cm = (s.ch n).cmTotal ∧ (s.muteWanted n = false → (t.ch n).dir = 1) := by
  obtain ⟨bad, hrisen⟩ := s.cmRisen_ch n trim
  cases hmute : s.muteWanted n with
  | true =>
    rw [hmute, if_pos rfl] at ht
    obtain ⟨bad', hch⟩ := (s.cmRisen n trim).enterCh_ch n chMute
    rw [ht, hch, hrisen, State.enterCh_chState _ hn hn (by decide), if_pos rfl]
    exact ⟨(s.cmRisen_keeps n trim).trans (State.enterCh_moved _ _ _), rfl, rfl, rfl, nofun⟩
  | false =>
    rw [hmute, if_neg Bool.false_ne_true] at ht
    rw [ht, State.gainRun, State.ch_modCh_same, hrisen, State.chState_modCh, s.cmRisen_chState trim hn]
    exact ⟨(s.cmRisen_keeps n trim).gainRun, rfl, rfl, rfl, fun _ => rfl⟩

theorem execCmRampEnd_rises {s : State} {n : Fin 8} (trim : Option Int) (hp : s.powered = true) (hclk : s.clockError = false)
    (hst : s.chState n.val = chUp) : ∃ t, exec (.cmRampEnd n trim) s = .next t ∧
      t.chState n.val = (if s.muteWanted n.val then chMute else chPlay) ∧ (t.ch n.val).gain = 0 ∧
      (t.ch n.val).cm = (s.ch n.val).cmTotal ∧ (s.muteWanted n.val = false → (t.ch n.val).dir = 1) ∧
      ∀ x, trim = some x → t.getI R.PCH_OL_TRIM_TRIM n.val = satTo 16 x ∧ t.flag R.PCH_STATUS_CAL_VALID n.val = true := by
  obtain ⟨hkeep, hstate, hgain, hcm, hdir⟩ := s.cmRisen_onward trim n.isLt rfl
  refine ⟨_, execCmRampEnd_up trim hp hclk hst, hstate, hgain, hcm, hdir, fun x hx => ?_⟩
  subst hx
  refine ⟨?_, (hkeep.flag (by decide) n.val 0).trans ((State.flag_put_ne _ _ _ _ _ _ (by decide)).trans (State.flag_put_same _ _ _ _ _))⟩
  rw [State.getI, hkeep.regs _ _ _ (by decide)]
  exact State.getI_putI_same _ R.PCH_OL_TRIM_TRIM x n.val 0

/-- A rail that a thermistor stops faults when none of its channels switches any more, and so moves none (R314). -/
theorem State.railNtc_reaches (s : State) {r : Nat} (hr : r < 2) : Reaches (fun _ => False) (fun q => q = r) True s (s.railNtc r) := by
  unfold State.railNtc
  split
  next hcond =>
    simp only [Bool.and_eq_true, Bool.not_eq_true', List.any_eq_false, List.mem_range] at hcond
    obtain ⟨-, hquiet⟩ := hcond
    have htrip (f : List Nat) (latched : Bool) : Reaches (fun _ => False) (fun q => q = r) True s (s.railTripped r 4 f latched) :=
      (Reaches.refl s).railTripped (show r % 65536 = r by omega)
    have he : s.railFault r 4 = (s.railTripped r 4 (s.railRecent r) false).railDrops r false := rfl
    rw [he, State.railDrops_eq]
    refine State.each_rec (P := fun _ => Reaches (fun _ => False) (fun q => q = r) True s) (htrip _ _) fun k t hk ht => ?_
    have hsw : ¬switching (t.chState (4 * r + k)) = true := by
      rw [State.chState, ht.pch _ (by decide) _ 0 id]
      exact hquiet k hk
    rw [State.railDropCh, if_neg hsw, if_neg (by simp)]
    exact ht
  next => exact Reaches.refl s

theorem execCmRampEnd_falls {s : State} {n : Fin 8} (trim : Option Int) (hp : s.powered = true) (hclk : s.clockError = false)
    (hst : s.chState n.val = chDown) (hgoal : (s.ch n.val).stopTo = 0) : ∃ t, exec (.cmRampEnd n trim) s = .next t ∧
      t.chState n.val = chOff ∧ (t.ch n.val).cm = 0 ∧ t.sticky EV_PCH_STATE = true := by
  have hreach := (s.chDead n.val chOff).railNtc_reaches (r := n.val / 4) (by omega)
  obtain ⟨feed, mod, slipped, bad, hch⟩ := s.chDead_ch n.val chOff
  refine ⟨(s.chDead n.val chOff).railNtc (n.val / 4), ?_, ?_, ?_, ?_⟩
  · show execCmRampEnd n trim s = _
    simp [execCmRampEnd, hp, hclk, hst, hgoal]
  · refine (hreach.pch _ (by decide) n.val 0 id).trans ?_
    exact (State.chDead_chState s n.isLt n.isLt (by decide)).trans (if_pos rfl)
  · rw [hreach.ch n.val id, hch]
  · exact (Calm.refl _).railNtc.sticky _ (State.chDead_sticky (by rw [hst]; decide))

theorem execCmRampEnd_sweeps {s : State} {n : Fin 8} (trim : Option Int) (hp : s.powered = true) (hclk : s.clockError = false)
    (hst : s.chState n.val = chDiag) (hcur : s.diag.cur = some n.val) (hstep : s.diag.step = 2) :
    exec (.cmRampEnd n trim) s = .next (({ s with diag := { s.diag with step := 3 } }.modCh n.val
      (fun x => { x with cm := x.cmTotal })).send (.tone n.val (s.toneSpec 0))) := by
  show execCmRampEnd n trim s = _
  simp [execCmRampEnd, hp, hclk, hst, hcur, hstep, State.setDiag]

/-! ### CLEAR, the retry test and 60 s of PLAY (R307, R311) -/

theorem SameCore.runs_eq {s t : State} (h : SameCore s t) : t.runs = s.runs := by
  obtain ⟨hdev, hop, -⟩ := h
  simp only [State.runs, hdev, hop]

/-- A device that is not in RUN arms no channel. -/
theorem State.chArm_idle {s : State} (h : s.runs = false) (n : Nat) : s.chArm n = s := by simp [State.chArm, h]

theorem execPchClear_clears {s : State} {who : Initiator} {n : Fin 8} (ht : s.takes who (0x50040 + 0x1000 * n.val) = true)
    (hruns : s.runs = false) (hst : s.chState n.val = chLatched) : ∃ t, exec (.pchClear who n) s = .next t ∧ t.chState n.val = chOff ∧
      t.get R.PCH_STATUS_RETRY_NUM n.val = 0 ∧ (t.ch n.val).retried = false ∧ SameCore s t := by
  generalize hu : (s.put R.PCH_STATUS_RETRY_NUM 0 n.val).modCh n.val (fun x => { x with retried := false }) = u
  have hforgot : Keeps [R.PCH_STATUS_RETRY_NUM] s u := hu ▸ ((Keeps.refl _ s).put (by decide)).modCh
  have hdead := u.chDead_moved n.val chOff
  have hcore : SameCore s (u.chDead n.val chOff) := hforgot.core.trans hdead.core
  obtain ⟨feed, mod, slipped, bad, hch⟩ := u.chDead_ch n.val chOff
  have hlatched : u.chState n.val = chLatched := (hforgot.regs _ _ _ (by decide)).trans hst
  refine ⟨u.chDead n.val chOff, ?_, ?_, ?_, ?_, hcore⟩
  · show execPchClear who n s = _
    rw [execPchClear, State.command_taken _ ht]
    dsimp only
    rw [hu, if_pos hlatched, State.chArm_idle (hcore.runs_eq.trans hruns)]
  · rw [State.chDead_chState u n.isLt n.isLt (by decide), if_pos rfl]
  · rw [hdead.regs _ _ _ (by decide), ← hu, State.get_modCh, State.get_put_same]
    rfl
  · rw [hch, ← hu, State.ch_modCh_same]

theorem execRetryWaitExpiry_goes {s : State} {n : Fin 8} (hp : s.powered = true) (hst : s.chState n.val = chRetry)
    (h5 : s.get R.PCH_STATUS_CAUSE n.val ≠ 5) (h6 : s.get R.PCH_STATUS_CAUSE n.val ≠ 6) :
    exec (.retryWaitExpiry n) s = .next (s.retryGo n.val) := by
  show execRetryWaitExpiry n s = _
  simp [execRetryWaitExpiry, hp, hst, h5, h6]

theorem State.retryGo_tests {s : State} {n : Nat} (hn : n < 8) (hruns : s.runs = true) (hon : s.chOn n = true)
    (htrack : s.railTracks n = true) : (s.retryGo n).chState n = chDiag ∧ ((s.retryGo n).ch n).test = 2 ∧
      ((s.retryGo n).ch n).retried = true ∧ ((s.retryGo n).ch n).expired = false := by
  have he : s.retryGo n = (s.modCh n (fun x => { x with expired := false })).dcTest n 2 := by simp [State.retryGo, hruns, hon, htrack]
  rw [he, State.dcTest]
  generalize hu : (s.modCh n (fun x => { x with expired := false })).modCh n
    (fun x => { x with test := 2, retried := x.retried || (2 == 2) }) = u
  obtain ⟨bad, hch⟩ := (u.put R.PCH_STATUS_WAIT_RAIL 0 n).enterCh_ch n chDiag
  rw [State.enterCh_chState _ hn hn (by decide), if_pos rfl, hch, State.ch_put, ← hu, State.ch_modCh_same, State.ch_modCh_same]
  simp

theorem State.retryGo_off {s : State} {n : Nat} (hn : n < 8) (hon : s.chOn n = false) : (s.retryGo n).chState n = chOff := by
  have he : s.retryGo n = s.chDead n chOff := by simp [State.retryGo, hon]
  rw [he, State.chDead_chState s hn hn (by decide), if_pos rfl]

theorem execRetryNumClear_forgets {s : State} {n : Fin 8} (hp : s.powered = true) (hst : s.chState n.val = chPlay) :
    ∃ t, exec (.retryNumClear n) s = .next t ∧ t.get R.PCH_STATUS_RETRY_NUM n.val = 0 ∧ (t.ch n.val).retried = false ∧
      RegsAt [R.PCH_STATUS_RETRY_NUM] n.val { s with power := t.power } t := by
  obtain ⟨-, hget⟩ : RegsAt _ n.val s (s.put R.PCH_STATUS_RETRY_NUM 0 n.val) := (RegsAt.refl [R.PCH_STATUS_RETRY_NUM] _ s).put (by decide)
  refine ⟨(s.put R.PCH_STATUS_RETRY_NUM 0 n.val).modCh n.val (fun x => { x with retried := false }), ?_, ?_, ?_, rfl, hget⟩
  · show execRetryNumClear n s = _
    simp [execRetryNumClear, hp, hst]
  · rw [State.get_modCh, State.get_put_same]
    rfl
  · rw [State.ch_modCh_same]

/-! ### A rail too low (R317, R320) -/

/-- A channel that its rail limits, counted and shown, before the event of the first tick of a run. -/
def State.railLow (s : State) (n : Nat) : State :=
  let t := ((s.modCh n (fun x => { x with limAt := some s.tg })).bump R.RAIL_LIM_CNT n).put R.PCH_STATUS_RAIL_LIM 1 n
  { t with power := { t.power with limTick := some s.tg } }

theorem State.railLimited_cases {s : State} {n : Nat} (h : (s.ch n).limAt ≠ some s.tg) :
    (s.railLimited n = s.railLow n ∨ s.railLimited n = (s.railLow n).raise EV_RAIL_UV) ∧
      (s.power.limTick = none → s.railLimited n = (s.railLow n).raise EV_RAIL_UV) := by
  unfold State.railLimited
  rw [if_neg h]
  refine ⟨?_, fun hnone => ?_⟩
  · dsimp only
    split
    · split
      · exact .inl rfl
      · exact .inr rfl
    · exact .inr rfl
  · simp only [hnone]
    rfl

theorem State.railLow_shows (s : State) (n : Nat) : (s.railLow n).flag R.PCH_STATUS_RAIL_LIM n = true ∧
    (s.railLow n).get R.RAIL_LIM_CNT n = min (s.get R.RAIL_LIM_CNT n + 1) (2 ^ R.RAIL_LIM_CNT.width - 1) ∧
    (s.railLow n).ch n = { s.ch n with limAt := some s.tg } ∧ (s.railLow n).wire = s.wire := by
  generalize hu : (s.modCh n (fun x => { x with limAt := some s.tg })).bump R.RAIL_LIM_CNT n = u
  have he : s.railLow n = { u.put R.PCH_STATUS_RAIL_LIM 1 n with
      power := { (u.put R.PCH_STATUS_RAIL_LIM 1 n).power with limTick := some s.tg } } := by rw [← hu]; rfl
  have hcnt : (u.put R.PCH_STATUS_RAIL_LIM 1 n).get R.RAIL_LIM_CNT n = min (s.get R.RAIL_LIM_CNT n + 1) (2 ^ R.RAIL_LIM_CNT.width - 1) := by
    rw [State.get_put_ne _ _ _ _ _ _ (by decide), ← hu, State.get_bump_same _ _ _ _ (by decide), State.get_modCh]
  have hch : u.ch n = { s.ch n with limAt := some s.tg } := by rw [← hu, State.ch_bump, State.ch_modCh_same]
  have hwire : u.wire = s.wire := by rw [← hu, State.bump, State.bumpBy_eq]; rfl
  rw [he]
  exact ⟨State.flag_put_same u R.PCH_STATUS_RAIL_LIM 1 n 0, hcnt, hch, hwire⟩

/-- What a limit of a channel shows, with the event or without. -/
theorem State.railLimited_shows {s : State} {n : Nat} (h : (s.ch n).limAt ≠ some s.tg) :
    (s.railLimited n).flag R.PCH_STATUS_RAIL_LIM n = true ∧
      (s.railLimited n).get R.RAIL_LIM_CNT n = min (s.get R.RAIL_LIM_CNT n + 1) (2 ^ R.RAIL_LIM_CNT.width - 1) ∧
      (s.railLimited n).ch n = { s.ch n with limAt := some s.tg } ∧ (s.railLimited n).wire = s.wire ∧
      (s.power.limTick = none → (s.railLimited n).sticky EV_RAIL_UV = true) := by
  obtain ⟨hflag, hcnt, hch, hwire⟩ := s.railLow_shows n
  obtain ⟨hcases, hfirst⟩ := State.railLimited_cases h
  have hev := State.raise_keeps (s.railLow n) EV_RAIL_UV
  have hsticky (hnone : s.power.limTick = none) : (s.railLimited n).sticky EV_RAIL_UV = true := by
    rw [hfirst hnone]
    exact State.sticky_raise_same _ _
  refine ⟨?_, ?_, ?_, ?_, hsticky⟩ <;> rcases hcases with he | he <;> rw [he]
  · exact hflag
  · exact (hev.flag (by decide) n 0).trans hflag
  · exact hcnt
  · exact (hev.regs _ n 0 (by decide)).trans hcnt
  · exact hch
  · exact (State.ch_raise _ _ _).trans hch
  · exact hwire
  · exact (State.raise_records _ _).wire.trans hwire

theorem execReactiveRailLimit_limits {s : State} {n : Fin 8} (hp : s.powered = true) (hst : s.chState n.val = chPlay)
    (hlim : (s.ch n.val).limAt ≠ some s.tg) : ∃ t, exec (.reactiveRailLimit n) s = .next t ∧ t.flag R.PCH_STATUS_RAIL_LIM n.val = true ∧
      t.get R.RAIL_LIM_CNT n.val = min (s.get R.RAIL_LIM_CNT n.val + 1) (2 ^ R.RAIL_LIM_CNT.width - 1) ∧
      (t.ch n.val).limAt = some s.tg ∧ (t.ch n.val).pilotBad = true ∧ (t.ch n.val).react = s.reactGain n.val ∧
      t.wire = .react n.val (s.reactGain n.val) :: s.wire ∧ (s.power.limTick = none → t.sticky EV_RAIL_UV = true) := by
  generalize hu : s.modCh n.val (fun x => { x with pilotBad := true, react := s.reactGain n.val }) = u
  have hch : u.ch n.val = { s.ch n.val with pilotBad := true, react := s.reactGain n.val } := by rw [← hu, State.ch_modCh_same]
  have htg : u.tg = s.tg := by rw [← hu]; rfl
  obtain ⟨hflag, hcnt, hlimited, hwire, hsticky⟩ := State.railLimited_shows (s := u) (n := n.val) (by rw [hch, htg]; exact hlim)
  refine ⟨(u.railLimited n.val).send (.react n.val (s.reactGain n.val)), ?_, hflag, ?_, ?_, ?_, ?_, ?_, fun hnone => ?_⟩
  · show execReactiveRailLimit n s = _
    simp [execReactiveRailLimit, hp, hst, hu]
  · rw [State.get_send, hcnt, ← hu, State.get_modCh]
  · rw [State.ch_send, hlimited, htg]
  · rw [State.ch_send, hlimited, hch]
  · rw [State.ch_send, hlimited, hch]
  · show .react n.val (s.reactGain n.val) :: (u.railLimited n.val).wire = _
    rw [hwire, ← hu]
    rfl
  · exact hsticky (by rw [← hu]; exact hnone)

/-! ### A SYNC channel that leaves lock (R302) -/

theorem execSyncSlip_counts {s : State} {n : Fin 8} (hp : s.powered = true) (hd : s.chDriven n.val = true) (hmod : (s.ch n.val).mod = 1)
    (hclosed : s.flag R.PCH_STATUS_OPEN_LOOP n.val = false) (hlock : (s.ch n.val).slipped = false) :
    ∃ t, exec (.syncSlip n) s = .next t ∧
      t.get R.SYNC_SLIP_CNT n.val = min (s.get R.SYNC_SLIP_CNT n.val + 1) (2 ^ R.SYNC_SLIP_CNT.width - 1) ∧
      t.flag R.PCH_STATUS_SYNC_SLIP n.val = true ∧ (t.ch n.val).slipped = true ∧
      RegsOnly [R.SYNC_SLIP_CNT, R.PCH_STATUS_SYNC_SLIP, R.PG_STATUS_SAT_SEEN] { s with power := t.power } t := by
  generalize hu : (s.bump R.SYNC_SLIP_CNT n.val).put R.PCH_STATUS_SYNC_SLIP 1 n.val = u
  have hregs : RegsOnly [R.SYNC_SLIP_CNT, R.PCH_STATUS_SYNC_SLIP, R.PG_STATUS_SAT_SEEN] s u :=
    hu ▸ ((RegsOnly.refl _ s).bump (by decide) (by decide)).put (by decide)
  refine ⟨u.modCh n.val (fun x => { x with slipped := true }), ?_, ?_, ?_, by rw [State.ch_modCh_same], ?_⟩
  · show execSyncSlip n s = _
    simp [execSyncSlip, hp, hd, hmod, hclosed, hlock, hu]
  · rw [State.get_modCh, ← hu, State.get_put_ne _ _ _ _ _ _ (by decide), State.get_bump_same _ _ _ _ (by decide)]
  · rw [State.flag_modCh, ← hu, State.flag_put_same]
    rfl
  · obtain ⟨heq, hget⟩ := hregs
    exact ⟨by rw [heq]; rfl, hget⟩

theorem execSyncSlip_once {s : State} {n : Fin 8} (h : (s.ch n.val).slipped = true) : exec (.syncSlip n) s = .next s := by
  show execSyncSlip n s = _
  simp [execSyncSlip, h]

/-! ### O55 -/

/-- Settles O55: each end of a ramp is the move that its own lemma states, and every other row the change of the one channel. -/
theorem channelRows : Obligations.ChannelRows := by
  refine ⟨fun s n hp hclk hst => ⟨fun hdir => ?_, fun hdir hend => ?_, fun hplay hdir hend hmute => ?_⟩,
    fun s n trim hp hclk => ⟨execCmRampEnd_rises trim hp hclk, execCmRampEnd_falls trim hp hclk,
      fun hst hcur hstep => execCmRampEnd_sweeps trim hp hclk hst hcur hstep⟩,
    fun s who n ht hruns hst => execPchClear_clears ht hruns hst,
    fun s n hp hst h5 h6 => ⟨fun hruns hon htrack => ?_, fun hon => ?_⟩,
    fun s n hp hst => ⟨execRetryNumClear_forgets hp hst, execReactiveRailLimit_limits hp hst⟩,
    fun s n hp hd hmod hclosed hlock => execSyncSlip_counts hp hd hmod hclosed hlock, fun s n h => execSyncSlip_once h, fun s n => rfl⟩
  · exact ⟨_, execGainRampEnd_done hp hclk hst (by omega), by rw [State.gainDone_up hdir, State.ch_setCh_same],
      by rw [State.gainDone_up hdir]; rfl⟩
  · exact ⟨_, execGainRampEnd_done hp hclk hst (by omega), State.gainDone_down n.isLt hst hdir hend⟩
  · exact ⟨_, execGainRampEnd_done hp hclk hst (by omega), State.gainDone_mute n.isLt hplay hdir hend hmute⟩
  · exact ⟨_, execRetryWaitExpiry_goes hp hst h5 h6, State.retryGo_tests n.isLt hruns hon htrack⟩
  · exact ⟨_, execRetryWaitExpiry_goes hp hst h5 h6, State.retryGo_off n.isLt hon⟩

end Sys2Proof.Machine

/-! PROOFS. Thermistors, die temperatures and the watchdog (O53). -/

namespace Sys2Proof.Machine

/-! ### A thermistor warns (R314) -/

theorem State.flag_put_inst (s : State) {f : Fld} {i i' : Nat} (v : Nat) (h : i % 65536 ≠ i' % 65536) :
    (s.put f v i).flag f i' = s.flag f i' := by
  simp [State.flag, s.get_put_inst v 0 0 h]

theorem Keeps.chNtc {l : List Fld} {s t : State} (h : Keeps l s t)
    (hl : ∀ f ∈ l, ∀ g ∈ [R.PCH_CFG_NTC_EN, R.PCH_CFG_NTC_SEL], f.base ≠ g.base)
    (n k : Nat) : t.chNtc n k = s.chNtc n k := by
  rw [State.chNtc, h.flag (fun f hf => hl f hf _ (by decide)), h.regs _ _ _ (fun f hf => hl f hf _ (by decide)), State.chNtc]

theorem Keeps.railNtcOn {l : List Fld} {s t : State} (h : Keeps l s t)
    (hl : ∀ f ∈ l, ∀ g ∈ [R.BST_SENSE_NTC_EN, R.BST_SENSE_NTC_SEL], f.base ≠ g.base) (r k : Nat) : t.railNtcOn r k = s.railNtcOn r k := by
  rw [State.railNtcOn, h.flag (fun f hf => hl f hf _ (by decide)), h.regs _ _ _ (fun f hf => hl f hf _ (by decide)), State.railNtcOn]

/-- The registers that the warning of a thermistor writes. -/
def warnFlds : List Fld := [R.PCH_STATUS_NTC_FAULT, R.PCH_STATUS_THERM_LIM] ++ eventFlds

theorem eventFlds_subset_warnFlds : eventFlds ⊆ warnFlds := List.subset_append_right _ _

theorem Keeps.ntcWarnCh {s0 s : State} (h : Keeps warnFlds s0 s) {n code : Nat} : Keeps warnFlds s0 (s.ntcWarnCh n code) := by
  have hbad : Keeps warnFlds s0 (if ntcBad code then s.put R.PCH_STATUS_NTC_FAULT 1 n else s) := (h.put (by decide)).ite h
  exact hbad.ite ((hbad.put (by decide)).raise eventFlds_subset_warnFlds)

theorem Keeps.ntcWarnRail {s0 s : State} (h : Keeps eventFlds s0 s) {r : Nat} : Keeps eventFlds s0 (s.ntcWarnRail r) :=
  h.ite (h.modRail.raise (List.Subset.refl _))

theorem State.ntcWarnRail_ch (s : State) (r n : Nat) : (s.ntcWarnRail r).ch n = s.ch n := by
  unfold State.ntcWarnRail
  split
  · rfl
  · exact State.ch_raise _ _ n

theorem State.ntcWarnCh_records (s : State) (n code : Nat) : RecordsOnly s (s.ntcWarnCh n code) := by
  have hbad : RecordsOnly s (if ntcBad code then s.put R.PCH_STATUS_NTC_FAULT 1 n else s) := (RecordsOnly.refl s).put.ite (RecordsOnly.refl s)
  exact hbad.ite hbad.put.raise

/-- The warning of one channel shows on that channel alone. -/
theorem State.ntcWarnCh_other (s : State) {n m : Nat} (code : Nat) (h : n % 65536 ≠ m % 65536) :
    (s.ntcWarnCh n code).flag R.PCH_STATUS_THERM_LIM m = s.flag R.PCH_STATUS_THERM_LIM m := by
  unfold State.ntcWarnCh
  extract_lets t
  have ht : Keeps [R.PCH_STATUS_NTC_FAULT] s t := ((Keeps.refl _ s).put (by decide)).ite (Keeps.refl _ s)
  split
  · exact ht.flag (by decide) m 0
  · rw [(State.raise_keeps _ _).flag (by decide), State.flag_put_inst _ _ h, ht.flag (by decide)]

theorem State.ntcWarnCh_limits (s : State) (n code : Nat) : (s.ntcWarnCh n code).flag R.PCH_STATUS_THERM_LIM n = true ∧
    (s.flag R.PCH_STATUS_THERM_LIM n = false → (s.ntcWarnCh n code).sticky EV_NTC_WARN = true) := by
  unfold State.ntcWarnCh
  extract_lets t
  have ht : Keeps [R.PCH_STATUS_NTC_FAULT] s t := ((Keeps.refl _ s).put (by decide)).ite (Keeps.refl _ s)
  have hlim : t.flag R.PCH_STATUS_THERM_LIM n = s.flag R.PCH_STATUS_THERM_LIM n := ht.flag (by decide) n 0
  by_cases hw : t.flag R.PCH_STATUS_THERM_LIM n = true
  · rw [if_pos hw]
    exact ⟨hw, fun hno => absurd (hlim.symm.trans hw) (by rw [hno]; decide)⟩
  · rw [if_neg hw]
    exact ⟨State.flag_put_raise t (f := R.PCH_STATUS_THERM_LIM) 1 n _ (by decide), fun _ => State.sticky_raise_same _ _⟩

/-- The channels that follow input k warn. -/
def State.chansWarn (s : State) (k code : Nat) : State := s.each 8 (fun u n => u.when (u.chNtc n k) (fun v => v.ntcWarnCh n code))

/-- The rails that follow input k warn. -/
def State.railsWarn (s : State) (k : Nat) : State := s.each 2 (fun u r => u.when (u.railNtcOn r k) (fun v => v.ntcWarnRail r))

theorem State.chansWarn_keeps (s : State) (k code : Nat) : Keeps warnFlds s (s.chansWarn k code) ∧ RecordsOnly s (s.chansWarn k code) ∧
    Calm s (s.chansWarn k code) := by
  refine ⟨(Keeps.refl _ s).each fun t n ht => ht.when fun u hu => hu.ntcWarnCh, ?_,
    (Calm.refl s).each fun t n ht => ht.when fun u hu => hu.ntcWarnCh⟩
  exact State.each_rec (P := fun _ => RecordsOnly s) (RecordsOnly.refl s) fun n t _ ht => (ht.trans (t.ntcWarnCh_records n code)).ite ht

theorem State.railsWarn_keeps (s : State) (k : Nat) : Keeps eventFlds s (s.railsWarn k) ∧ (∀ n, (s.railsWarn k).ch n = s.ch n) ∧
    Calm s (s.railsWarn k) := by
  refine ⟨(Keeps.refl _ s).each fun t r ht => ht.when fun u hu => hu.ntcWarnRail, fun n => ?_,
    (Calm.refl s).each fun t r ht => ht.when fun u hu => hu.ntcWarnRail⟩
  refine State.each_rec (P := fun _ t => t.ch n = s.ch n) rfl fun r t _ ht => ?_
  unfold State.when
  split
  · exact (t.ntcWarnRail_ch r n).trans ht
  · exact ht

theorem State.chansWarn_limits {s : State} {n k : Nat} (code : Nat) (hn : n < 8) (hon : s.chNtc n k = true) :
    (s.chansWarn k code).flag R.PCH_STATUS_THERM_LIM n = true ∧
      (s.flag R.PCH_STATUS_THERM_LIM n = false → (s.chansWarn k code).sticky EV_NTC_WARN = true) := by
  have hkeep (t : State) (m : Nat) : Keeps warnFlds t (t.when (t.chNtc m k) fun v => v.ntcWarnCh m code) :=
    (Keeps.refl _ t).when fun u hu => hu.ntcWarnCh
  have hother (t : State) (m : Nat) (hm : m < 8) (hne : m ≠ n) :
      (t.when (t.chNtc m k) fun v => v.ntcWarnCh m code).flag R.PCH_STATUS_THERM_LIM n = t.flag R.PCH_STATUS_THERM_LIM n := by
    unfold State.when
    split
    · exact t.ntcWarnCh_other code (by omega)
    · rfl
  refine State.each_at (P := fun t => t.chNtc n k = true ∧ t.flag R.PCH_STATUS_THERM_LIM n = s.flag R.PCH_STATUS_THERM_LIM n)
    (Q := fun t => t.flag R.PCH_STATUS_THERM_LIM n = true ∧ (s.flag R.PCH_STATUS_THERM_LIM n = false → t.sticky EV_NTC_WARN = true))
    hn ⟨hon, rfl⟩ ?_ ?_ ?_
  · rintro m t hm hne ⟨hfollow, hlim⟩
    exact ⟨((hkeep t m).chNtc (by decide) n k).trans hfollow, (hother t m hm hne).trans hlim⟩
  · rintro t ⟨hfollow, hlim⟩
    rw [State.when, if_pos hfollow, ← hlim]
    exact t.ntcWarnCh_limits n code
  · rintro m t hm hne ⟨hlim, hev⟩
    exact ⟨(hother t m hm hne).trans hlim, fun hno => ((Calm.refl t).when fun u hu => hu.ntcWarnCh).sticky _ (hev hno)⟩

theorem State.ntcWarnRail_holds (s : State) (r : Nat) : ((s.ntcWarnRail r).rail r).ntcWarn = true := by
  unfold State.ntcWarnRail
  split
  · assumption
  · rw [State.rail_raise, State.rail_modRail_same]

theorem State.ntcWarnRail_other (s : State) {r q : Nat} (h : r ≠ q) : (s.ntcWarnRail r).rail q = s.rail q := by
  unfold State.ntcWarnRail
  split
  · rfl
  · rw [State.rail_raise, State.rail_modRail_ne _ _ h]

theorem State.railsWarn_holds {s : State} {r k : Nat} (hr : r < 2) (hon : s.railNtcOn r k = true) : ((s.railsWarn k).rail r).ntcWarn = true := by
  have hkeep (t : State) (q : Nat) : Keeps eventFlds t (t.when (t.railNtcOn q k) fun v => v.ntcWarnRail q) :=
    (Keeps.refl _ t).when fun u hu => hu.ntcWarnRail
  refine State.each_at (P := fun t => t.railNtcOn r k = true) (Q := fun t => (t.rail r).ntcWarn = true) hr hon ?_ ?_ ?_
  · exact fun q t _ _ ht => ((hkeep t q).railNtcOn (by decide) r k).trans ht
  · intro t ht
    rw [State.when, if_pos ht]
    exact t.ntcWarnRail_holds r
  · intro q t _ hne ht
    unfold State.when
    split
    · rwa [t.ntcWarnRail_other hne]
    · exact ht

theorem State.ntcWarns_eq (s : State) (k code : Nat) : s.ntcWarns k code =
    if code ≤ s.get R.NTC_THR_WARN_CODE k || ntcBad code then ((s.put R.NTC_CODE_CODE code k).chansWarn k code).railsWarn k
    else s.put R.NTC_CODE_CODE code k := rfl

/-- What the reading of a thermistor leaves of channels and rails. -/
theorem State.ntcWarns_keeps (s : State) (k code : Nat) : Keeps (R.NTC_CODE_CODE :: warnFlds) s (s.ntcWarns k code) ∧
    ∀ n, (s.ntcWarns k code).ch n = s.ch n := by
  have hread : Keeps (R.NTC_CODE_CODE :: warnFlds) s (s.put R.NTC_CODE_CODE code k) := (Keeps.refl _ s).put (by decide)
  rw [State.ntcWarns_eq]
  split
  · obtain ⟨hk, hrec, -⟩ := (s.put R.NTC_CODE_CODE code k).chansWarn_keeps k code
    obtain ⟨hk', hch, -⟩ := ((s.put R.NTC_CODE_CODE code k).chansWarn k code).railsWarn_keeps k
    exact ⟨hread.trans ((hk.trans (hk'.mono eventFlds_subset_warnFlds)).mono (List.subset_cons_self _ _)),
      fun n => (hch n).trans (State.ch_of_power hrec.power n)⟩
  · exact ⟨hread, fun _ => rfl⟩

theorem execNtcWarn_warns {s : State} {k : Fin 4} {code : Fin 4096} (hp : s.powered = true)
    (hcode : code.val ≤ s.get R.NTC_THR_WARN_CODE k.val) : ∃ t, exec (.ntcWarn k code) s = .next t ∧ t.get R.NTC_CODE_CODE k.val = code.val ∧
      (∀ n, n < 8 → s.chNtc n k.val = true → t.flag R.PCH_STATUS_THERM_LIM n = true ∧
        (s.flag R.PCH_STATUS_THERM_LIM n = false → t.sticky EV_NTC_WARN = true)) ∧
      ∀ r, r < 2 → s.railNtcOn r k.val = true → (t.rail r).ntcWarn = true := by
  generalize hu : s.put R.NTC_CODE_CODE code.val k.val = u
  have hread : Keeps [R.NTC_CODE_CODE] s u := hu ▸ (Keeps.refl _ s).put (by decide)
  obtain ⟨hch, -, -⟩ := u.chansWarn_keeps k.val code.val
  obtain ⟨hrail, -, hcalm⟩ := (u.chansWarn k.val code.val).railsWarn_keeps k.val
  refine ⟨(u.chansWarn k.val code.val).railsWarn k.val, ?_, ?_, fun n hn hon => ?_, fun r hr hon => State.railsWarn_holds hr ?_⟩
  · show execNtcWarn k code s = _
    rw [execNtcWarn, if_pos hp, State.ntcWarns_eq, if_pos (by simp [hcode]), hu]
  · rw [hrail.regs _ _ _ (by decide), hch.regs _ _ _ (by decide), ← hu, State.get_put_same]
    exact Nat.mod_eq_of_lt code.isLt
  · obtain ⟨hlim, hev⟩ := State.chansWarn_limits (s := u) code.val hn ((hread.chNtc (by decide) n k.val).trans hon)
    exact ⟨(hrail.flag (by decide) n 0).trans hlim, fun hno => hcalm.sticky _ (hev ((hread.flag (by decide) n 0).trans hno))⟩
  · exact (hch.railNtcOn (by decide) r k.val).trans ((hread.railNtcOn (by decide) r k.val).trans hon)

theorem ntcBad_inside {code : Nat} (hlow : 40 ≤ code) (hhigh : code ≤ 4000) : ntcBad code = false := by
  simp [ntcBad, Nat.not_lt.2 hlow, Nat.not_lt.2 hhigh]

theorem execNtcWarn_reads {s : State} {k : Fin 4} {code : Fin 4096} (hp : s.powered = true)
    (hcode : s.get R.NTC_THR_WARN_CODE k.val < code.val) (hlow : 40 ≤ code.val) (hhigh : code.val ≤ 4000) :
    exec (.ntcWarn k code) s = .next (s.put R.NTC_CODE_CODE code.val k.val) := by
  show execNtcWarn k code s = _
  rw [execNtcWarn, if_pos hp, State.ntcWarns_eq, if_neg (by simp [ntcBad_inside hlow hhigh, hcode])]
/-! ### A thermistor shuts down (R314) -/

/-- A stop of a channel that a ramp takes down (R305, R306): in MUTE the gain runs for the pilot (R343, R459), else the common mode falls. -/
theorem State.chStop_stops {s : State} {n : Nat} (goal : Nat) (hn : n < 8)
    (hst : s.chState n = chMute ∨ s.chState n = chUp ∨ s.chState n = chDown) :
    Keeps moveFlds s (s.chStop n goal) ∧ ((s.chStop n goal).ch n).stopTo = goal ∧ ((s.chStop n goal).ch n).ntcShut = (s.ch n).ntcShut ∧
      (s.chStop n goal).chState n = (if s.chState n = chMute then chMute else chDown) ∧
      (s.chState n = chMute → ((s.chStop n goal).ch n).gainEnd = .toDown) := by
  generalize hu : (s.modCh n (fun x => { x with armed := false })).modCh n (fun x => { x with stopTo := goal }) = u
  have hch : u.ch n = { s.ch n with armed := false, stopTo := goal } := by rw [← hu, State.ch_modCh_same, State.ch_modCh_same]
  have hkeep : Keeps moveFlds s u := hu ▸ (Keeps.refl _ s).modCh.modCh
  have hstate : u.chState n = s.chState n := by rw [← hu]; rfl
  rcases hst with hst | hst | hst
  · have he : s.chStop n goal = if (u.ch n).gainEnd == .toDown then u
        else (u.modCh n (fun x => { x with gain := gainFull })).gainRun n 2 .toDown := by rw [← hu]; simp [State.chStop, hst]
    rw [he, hst, if_pos rfl]
    split
    next hend => exact ⟨hkeep, by rw [hch], by rw [hch], hstate.trans hst, fun _ => beq_iff_eq.1 hend⟩
    next =>
      rw [State.gainRun, State.ch_modCh_same, State.ch_modCh_same, hch]
      exact ⟨hkeep.modCh.modCh, rfl, rfl, hstate.trans hst, fun _ => rfl⟩
  · have he : s.chStop n goal = u.rampDown n := by rw [← hu]; simp [State.chStop, hst]
    obtain ⟨cm, bad, hdown, -⟩ := u.rampDown_ch n
    rw [he, hdown, hch, u.rampDown_chState hn hn, if_pos rfl, hst]
    exact ⟨hkeep.rampDown_moves (List.Subset.refl _), rfl, rfl, rfl, fun h => absurd h (by decide)⟩
  · have he : s.chStop n goal = u := by rw [← hu]; simp [State.chStop, hst]
    rw [he, hch, hst]
    exact ⟨hkeep, rfl, rfl, hstate.trans hst, fun h => absurd h (by decide)⟩

/-- Channel n, which was in MUTE or rising when its thermistor shut it down: it runs down, to RETRY_WAIT for its thermistor unless a rail that
the thermistor stops has it wait for the rail. -/
structure NtcStopped (s : State) (n : Nat) (railToo : Prop) (t : State) : Prop where
  shut : (t.ch n).ntcShut = true
  mute : s.chState n = chMute → t.chState n = chMute ∧ (t.ch n).gainEnd = .toDown
  up : s.chState n = chUp → t.chState n = chDown
  goal : ¬railToo → (t.ch n).stopTo = 6
  cause : t.get R.PCH_STATUS_CAUSE n = 5
  sticky : t.sticky (EV_PCH0_FAULT + n) = true

section
variable {s t u : State} {n : Nat} {railToo : Prop}

/-- What reaches other channels leaves it running down. -/
theorem NtcStopped.beside {C B : Nat → Prop} {K : Prop} (h : NtcStopped s n railToo t) (hr : Reaches C B K t u) (hc : Calm t u)
    (hn : ¬C (n % 65536)) : NtcStopped s n railToo u := by
  have hch := hr.ch n hn
  have hstate : u.chState n = t.chState n := hr.pch _ (by decide) n 0 hn
  exact ⟨hch ▸ h.shut, fun hm => ⟨hstate.trans (h.mute hm).1, hch ▸ (h.mute hm).2⟩, fun hu => hstate.trans (h.up hu),
    fun hg => hch ▸ h.goal hg, (hr.pch _ (by decide) n 0 hn).trans h.cause, hc.sticky _ h.sticky⟩

theorem NtcStopped.running (h : NtcStopped s n railToo t) (hst : s.chState n = chMute ∨ s.chState n = chUp) :
    t.chState n = chMute ∨ t.chState n = chUp ∨ t.chState n = chDown := by
  rcases hst with hst | hst
  · exact .inl (h.mute hst).1
  · exact .inr (.inr (h.up hst))

/-- Its rail stops it too, and it runs down to the rail's end. -/
theorem NtcStopped.again (h : NtcStopped s n railToo t) (hn : n < 8) (hst : s.chState n = chMute ∨ s.chState n = chUp) (hr : railToo)
    (goal : Nat) :
    NtcStopped s n railToo (t.chStop n goal) := by
  obtain ⟨hk, -, hshut, hstate, hmute⟩ := State.chStop_stops goal hn (h.running hst)
  refine ⟨hshut.trans h.shut, fun hm => ⟨?_, hmute (h.mute hm).1⟩, fun hu => ?_, fun hno => absurd hr hno,
    (hk.regs _ _ _ (by decide)).trans h.cause, (Calm.refl t).chStop.sticky _ h.sticky⟩
  · rw [hstate, if_pos (h.mute hm).1]
  · rw [hstate, h.up hu]
    rfl

end

/-- The shutdown reaches a channel from a state in which it is as it was. -/
theorem State.ntcShutCh_stops {s t : State} {n : Nat} (railToo : Prop) (hn : n < 8) (hst : s.chState n = chMute ∨ s.chState n = chUp)
    (hshut : (t.ch n).ntcShut = false) (hstate : t.chState n = s.chState n) : NtcStopped s n railToo (t.ntcShutCh n) := by
  generalize hu : (t.modCh n (fun x => { x with ntcShut := true })).chFault n 5 = u
  have hfault : Faulted u n 5 := hu ▸ State.chFault_shows _ n (by decide)
  have hustate : u.chState n = s.chState n := by
    rw [State.chState, ← hu, (State.chFault_keeps _ _ _).regs _ _ _ (by decide)]
    exact hstate
  have hch : (u.ch n).ntcShut = true := by rw [← hu, State.chFault_ch, State.ch_modCh_same]
  obtain ⟨hk, hgoal, hheld, hto, hmute⟩ := State.chStop_stops (s := u) 6 hn (by rw [hustate]; exact hst.imp_right .inl)
  have hsw : switching (t.chState n) = true := by
    rw [hstate]
    rcases hst with hst | hst <;> rw [hst] <;> rfl
  have he : t.ntcShutCh n = u.chStop n 6 := by
    rw [← hu]
    simp [State.ntcShutCh, hshut, hsw]
  rw [he]
  rw [hustate] at hto hmute
  exact ⟨hheld.trans hch, fun hm => ⟨hto.trans (if_pos hm), hmute hm⟩, fun hup => hto.trans (if_neg (by rw [hup]; decide)), fun _ => hgoal,
    (hk.regs _ _ _ (by decide)).trans hfault.status, (Calm.refl u).chStop.sticky _ hfault.sticky⟩

theorem Reaches.ntcShutCh {C B : Nat → Prop} {n : Nat} (hn : C (n % 65536)) {s0 s : State} (h : Reaches C B False s0 s) :
    Reaches C B False s0 (s.ntcShutCh n) := by
  have ht : Reaches C B False s0 (s.modCh n (fun x => { x with ntcShut := true })) := h.modCh hn (hf := False.elim)
  exact Reaches.ite h (Reaches.ite ((ht.chFault hn).chStop hn) ht)

theorem Reaches.ntcShutRail {C B : Nat → Prop} {r : Nat} (hr : B (r % 65536)) (hc : ∀ k, k < 4 → C ((4 * r + k) % 65536)) {s0 s : State}
    (h : Reaches C B False s0 s) : Reaches C B False s0 (s.ntcShutRail r) := by
  have ht : Reaches C B False s0 (s.modRail r (fun x => { x with ntcShut := true })) := h.modRail hr (hf := False.elim)
  exact Reaches.ite h ((ht.each fun _ k hk hw => Reaches.ite (hw.chStop (hc k hk)) hw).railNtc hr hc)

/-- The channels that follow input k shut down. -/
def State.chansShut (s : State) (k : Nat) : State := s.each 8 (fun u n => u.when (u.chNtc n k) (fun v => v.ntcShutCh n))

/-- The rails that follow input k shut down. -/
def State.railsShut (s : State) (k : Nat) : State := s.each 2 (fun u r => u.when (u.railNtcOn r k) (fun v => v.ntcShutRail r))

/-- One channel's turn when the channels of an input shut down. -/
theorem State.chansShut_stops {s u : State} {n k : Nat} (railToo : Prop) (hn : n < 8) (hst : s.chState n = chMute ∨ s.chState n = chUp)
    (hon : u.chNtc n k = true) (hshut : (u.ch n).ntcShut = false) (hstate : u.chState n = s.chState n) :
    NtcStopped s n railToo (u.chansShut k) := by
  have hbeside (t : State) (m : Nat) (hm : m < 8) (hne : m ≠ n) :
      Reaches (fun q => q ≠ n) (fun _ => False) False t (t.when (t.chNtc m k) fun v => v.ntcShutCh m) :=
    (Reaches.refl t).when fun v hv => hv.ntcShutCh (show m % 65536 ≠ n by omega)
  have hself : ¬n % 65536 ≠ n := not_not.2 (Nat.mod_eq_of_lt (by omega))
  refine State.each_at (P := fun t => Reaches (fun q => q ≠ n) (fun _ => False) False u t) (Q := NtcStopped s n railToo) hn
    (Reaches.refl u) ?_ ?_ ?_
  · exact fun m t hm hne ht => ht.trans (hbeside t m hm hne)
  · intro t ht
    rw [State.when, if_pos ((ht.keeps.chNtc (by decide) n k).trans hon)]
    exact State.ntcShutCh_stops railToo hn hst (by rw [ht.ch n hself]; exact hshut) ((ht.pch _ (by decide) n 0 hself).trans hstate)
  · exact fun m t hm hne ht => ht.beside (hbeside t m hm hne) ((Calm.refl t).when fun v hv => hv.ntcShutCh) hself

/-- The channels of a rail that its thermistor stops, before the rail faults. -/
def State.railStops (s : State) (r : Nat) : State :=
  (s.modRail r (fun x => { x with ntcShut := true })).each 4 fun w j => if switching (w.chState (4 * r + j)) then w.chStop (4 * r + j) 7 else w

theorem NtcStopped.railStops {s t : State} {n : Nat} {railToo : Prop} (h : NtcStopped s n railToo t) (hn : n < 8)
    (hst : s.chState n = chMute ∨ s.chState n = chUp) (hr : railToo) : NtcStopped s n railToo (t.railStops (n / 4)) := by
  have hself : ¬n % 65536 ≠ n := not_not.2 (Nat.mod_eq_of_lt (by omega))
  refine State.each_rec (P := fun _ => NtcStopped s n railToo) ?_ fun j w hj hw => ?_
  · exact ⟨h.shut, h.mute, h.up, h.goal, h.cause, h.sticky⟩
  · split
    · by_cases hj' : 4 * (n / 4) + j = n
      · rw [hj']
        exact hw.again hn hst hr 7
      · exact hw.beside (C := fun q => q ≠ n) (B := fun _ => False) (K := False)
          ((Reaches.refl w).chStop (show (4 * (n / 4) + j) % 65536 ≠ n by omega)) (Calm.refl w).chStop hself
    · exact hw

theorem NtcStopped.railsShut {s t : State} {n k : Nat} (h : NtcStopped s n (t.railNtcOn (n / 4) k = true) t) (hn : n < 8)
    (hst : s.chState n = chMute ∨ s.chState n = chUp) : NtcStopped s n (t.railNtcOn (n / 4) k = true) (t.railsShut k) := by
  have hself : ¬n % 65536 ≠ n := not_not.2 (Nat.mod_eq_of_lt (by omega))
  have hreach (w : State) (r : Nat) : Reaches (fun _ => True) (fun _ => True) False w (w.when (w.railNtcOn r k) fun v => v.ntcShutRail r) :=
    (Reaches.refl w).when fun v hv => hv.ntcShutRail trivial fun _ _ => trivial
  suffices hall : (t.railsShut k).railNtcOn (n / 4) k = t.railNtcOn (n / 4) k ∧ NtcStopped s n (t.railNtcOn (n / 4) k = true) (t.railsShut k)
    from hall.2
  refine State.each_rec (P := fun _ w => w.railNtcOn (n / 4) k = t.railNtcOn (n / 4) k ∧ NtcStopped s n (t.railNtcOn (n / 4) k = true) w) ⟨rfl, h⟩ ?_
  rintro r w hr ⟨hon, hw⟩
  refine ⟨((hreach w r).keeps.railNtcOn (by decide) _ _).trans hon, ?_⟩
  unfold State.when
  split
  next hfollow =>
    by_cases hrail : r = n / 4
    · subst hrail
      show NtcStopped s n _ (w.ntcShutRail (n / 4))
      unfold State.ntcShutRail
      split
      · exact hw
      · exact (hw.railStops hn hst (hon.symm.trans hfollow)).beside (State.railNtc_reaches _ (by omega)) (Calm.refl _).railNtc id
    · exact hw.beside (C := fun q => q ≠ n) (B := fun _ => True)
        ((Reaches.refl w).ntcShutRail trivial fun j hj => show (4 * r + j) % 65536 ≠ n by omega) (Calm.refl w).ntcShutRail hself
  next => exact hw

theorem execNtcShutdown_stops {s : State} {k : Fin 4} {code : Fin 4096} {n : Nat} (hp : s.powered = true) (hn : n < 8)
    (hcode : code.val ≤ s.get R.NTC_THR_SHUT_CODE k.val) (hon : s.chNtc n k.val = true) (hshut : (s.ch n).ntcShut = false)
    (hst : s.chState n = chMute ∨ s.chState n = chUp) :
    ∃ t, exec (.ntcShutdown k code) s = .next t ∧ NtcStopped s n (s.railNtcOn (n / 4) k.val = true) t := by
  obtain ⟨hk, hch⟩ := s.ntcWarns_keeps k.val code.val
  generalize hu : s.ntcWarns k.val code.val = u at hk hch
  have hchans (railToo : Prop) : NtcStopped s n railToo (u.chansShut k.val) :=
    State.chansShut_stops railToo hn hst ((hk.chNtc (by decide) n k.val).trans hon) (by rw [hch]; exact hshut) (hk.regs _ _ _ (by decide))
  have hreach : Reaches (fun _ => True) (fun _ => True) False u (u.chansShut k.val) :=
    (Reaches.refl u).each fun t m _ ht => ht.when fun v hv => hv.ntcShutCh trivial
  have hrail : (u.chansShut k.val).railNtcOn (n / 4) k.val = s.railNtcOn (n / 4) k.val :=
    (hreach.keeps.railNtcOn (by decide) _ _).trans (hk.railNtcOn (by decide) _ _)
  refine ⟨(u.chansShut k.val).railsShut k.val, ?_, ?_⟩
  · show execNtcShutdown k code s = _
    simp only [execNtcShutdown, hp, Bool.not_true, Bool.false_eq_true, if_false, if_neg (Nat.not_lt.2 hcode), hu]
    rfl
  · rw [← hrail]
    exact (hchans _).railsShut hn hst

/-! ### The warning of a thermistor ends (R314) -/

/-- What the end of a warning leaves of its channel and of every other. -/
theorem State.ntcEndCh_reaches (s : State) (n : Nat) : Reaches (fun _ => True) (fun _ => False) True
    ((s.modCh n (fun x => { x with ntcShut := false })).put R.PCH_STATUS_THERM_LIM 0 n) (s.ntcEndCh n) :=
  Reaches.ite ((Reaches.refl _).chResume trivial) (Reaches.refl _)

theorem State.ntcEndCh_frees (s : State) (n : Nat) : (s.ntcEndCh n).flag R.PCH_STATUS_THERM_LIM n = false ∧
    ((s.ntcEndCh n).ch n).ntcShut = false := by
  have h := s.ntcEndCh_reaches n
  rw [h.keeps.flag (by decide), h.chHeld trivial, State.ch_put, State.ch_modCh_same, State.flag_put_same, Nat.zero_mod]
  exact ⟨rfl, rfl⟩

theorem State.ntcEndCh_other (s : State) {n m : Nat} (hn : n < 8) (hm : m < 8) (hne : n ≠ m) :
    (s.ntcEndCh n).flag R.PCH_STATUS_THERM_LIM m = s.flag R.PCH_STATUS_THERM_LIM m ∧ ((s.ntcEndCh n).ch m).ntcShut = (s.ch m).ntcShut := by
  have h := s.ntcEndCh_reaches n
  rw [h.keeps.flag (by decide), h.chHeld trivial, State.ch_put, State.ch_modCh_ne _ _ hne, State.flag_put_inst _ _ (by omega)]
  exact ⟨rfl, rfl⟩

theorem State.ntcEndCh_chNtc (s : State) (n m k : Nat) : (s.ntcEndCh n).chNtc m k = s.chNtc m k :=
  ((s.ntcEndCh_reaches n).keeps.chNtc (by decide) m k).trans (((Keeps.refl [R.PCH_STATUS_THERM_LIM] s).modCh.put (by decide)).chNtc (by decide) m k)

theorem State.ntcEndCh_railNtcOn (s : State) (n r k : Nat) : (s.ntcEndCh n).railNtcOn r k = s.railNtcOn r k :=
  ((s.ntcEndCh_reaches n).keeps.railNtcOn (by decide) r k).trans
    (((Keeps.refl [R.PCH_STATUS_THERM_LIM] s).modCh.put (by decide)).railNtcOn (by decide) r k)

/-- The end of a warning for the channels that follow input k. -/
def State.chansFree (s : State) (k : Nat) : State := s.each 8 (fun u n => u.when (u.chNtc n k) (fun v => v.ntcEndCh n))

/-- The end of a warning for the rails that follow input k. -/
def State.railsFree (s : State) (k : Nat) : State := s.each 2 (fun u r => u.when (u.railNtcOn r k) (fun v => v.ntcEndRail r))

theorem State.chansFree_frees {s : State} {n k : Nat} (hn : n < 8) (hon : s.chNtc n k = true) :
    (s.chansFree k).flag R.PCH_STATUS_THERM_LIM n = false ∧ ((s.chansFree k).ch n).ntcShut = false := by
  refine State.each_at (P := fun t => t.chNtc n k = true)
    (Q := fun t => t.flag R.PCH_STATUS_THERM_LIM n = false ∧ (t.ch n).ntcShut = false) hn hon ?_ ?_ ?_
  · intro m t _ _ ht
    unfold State.when
    split
    · exact (t.ntcEndCh_chNtc m n k).trans ht
    · exact ht
  · intro t ht
    rw [State.when, if_pos ht]
    exact t.ntcEndCh_frees n
  · rintro m t hm hne ht
    unfold State.when
    split
    · obtain ⟨hlim, hshut⟩ := t.ntcEndCh_other hm hn hne
      rwa [hlim, hshut]
    · exact ht

theorem State.chansFree_railNtcOn (s : State) (r k : Nat) : (s.chansFree k).railNtcOn r k = s.railNtcOn r k := by
  refine State.each_rec (P := fun _ t => t.railNtcOn r k = s.railNtcOn r k) rfl fun m t _ ht => ?_
  unfold State.when
  split
  · exact (t.ntcEndCh_railNtcOn m r k).trans ht
  · exact ht

/-- After the rail's own bits, the end of its warning changes what no thermistor holds. -/
theorem State.ntcEndRail_reaches (s : State) (r : Nat) : Reaches (fun _ => True) (fun _ => True) True
    (s.modRail r (fun x => { x with ntcShut := false, ntcWarn := false })) (s.ntcEndRail r) :=
  Reaches.ite (((Reaches.refl _).railOff trivial).railEval (fun _ => trivial) trivial) ((Reaches.refl _).railEval (fun _ => trivial) trivial)

/-- The end of a rail's warning holds back nothing new: no channel, and no rail. -/
theorem State.ntcEndRail_frees (s : State) (r : Nat) : Keeps stageFlds s (s.ntcEndRail r) ∧
    (∀ n, ((s.ntcEndRail r).ch n).ntcShut = (s.ch n).ntcShut) ∧
    (((s.ntcEndRail r).rail r).ntcWarn = false ∧ ((s.ntcEndRail r).rail r).ntcShut = false) ∧
    ∀ q, r ≠ q → ((s.ntcEndRail r).rail q).ntcWarn = (s.rail q).ntcWarn ∧ ((s.ntcEndRail r).rail q).ntcShut = (s.rail q).ntcShut := by
  have h := s.ntcEndRail_reaches r
  have hown := h.railHeld trivial r
  rw [State.rail_modRail_same] at hown
  refine ⟨(Keeps.refl _ s).modRail.trans h.keeps, h.chHeld trivial, hown.symm, fun q hne => ?_⟩
  have hother := h.railHeld trivial q
  rw [State.rail_modRail_ne _ _ hne] at hother
  exact hother.symm

theorem State.railsFree_keeps (s : State) (k : Nat) : Keeps stageFlds s (s.railsFree k) ∧
    ∀ n, ((s.railsFree k).ch n).ntcShut = (s.ch n).ntcShut := by
  refine State.each_rec (P := fun _ t => Keeps stageFlds s t ∧ ∀ n, (t.ch n).ntcShut = (s.ch n).ntcShut) ⟨Keeps.refl _ s, fun _ => rfl⟩ ?_
  rintro r t - ⟨hk, hheld⟩
  unfold State.when
  split
  · obtain ⟨hk', hheld', -⟩ := t.ntcEndRail_frees r
    exact ⟨hk.trans hk', fun n => (hheld' n).trans (hheld n)⟩
  · exact ⟨hk, hheld⟩

theorem State.railsFree_frees {s : State} {r k : Nat} (hr : r < 2) (hon : s.railNtcOn r k = true) :
    ((s.railsFree k).rail r).ntcWarn = false ∧ ((s.railsFree k).rail r).ntcShut = false := by
  refine State.each_at (P := fun t => t.railNtcOn r k = true) (Q := fun t => (t.rail r).ntcWarn = false ∧ (t.rail r).ntcShut = false) hr hon ?_ ?_ ?_
  · intro q t _ _ ht
    unfold State.when
    split
    · obtain ⟨hk, -⟩ := t.ntcEndRail_frees q
      exact (hk.railNtcOn (by decide) r k).trans ht
    · exact ht
  · intro t ht
    rw [State.when, if_pos ht]
    obtain ⟨-, -, hown, -⟩ := t.ntcEndRail_frees r
    exact hown
  · rintro q t _ hne ⟨hwarn, hshut⟩
    unfold State.when
    split
    · obtain ⟨-, -, -, hother⟩ := t.ntcEndRail_frees q
      obtain ⟨hw, hs⟩ := hother r hne
      exact ⟨hw.trans hwarn, hs.trans hshut⟩
    · exact ⟨hwarn, hshut⟩

theorem execNtcWarnEnd_frees {s : State} {k : Fin 4} {code : Fin 4096} (hp : s.powered = true)
    (hcode : s.get R.NTC_THR_WARN_CODE k.val + 64 ≤ code.val) (hlow : 40 ≤ code.val) (hhigh : code.val ≤ 4000) :
    ∃ t, exec (.ntcWarnEnd k code) s = .next t ∧
      (∀ n, n < 8 → s.chNtc n k.val = true → t.flag R.PCH_STATUS_THERM_LIM n = false ∧ (t.ch n).ntcShut = false) ∧
      ∀ r, r < 2 → s.railNtcOn r k.val = true → (t.rail r).ntcWarn = false ∧ (t.rail r).ntcShut = false := by
  generalize hu : s.put R.NTC_CODE_CODE code.val k.val = u
  have hread : Keeps [R.NTC_CODE_CODE] s u := hu ▸ (Keeps.refl _ s).put (by decide)
  obtain ⟨hk, hheld⟩ := (u.chansFree k.val).railsFree_keeps k.val
  refine ⟨(u.chansFree k.val).railsFree k.val, ?_, fun n hn hon => ?_, fun r hr hon => State.railsFree_frees hr ?_⟩
  · show execNtcWarnEnd k code s = _
    simp only [execNtcWarnEnd, hp, Bool.not_true, Bool.false_eq_true, if_false, ntcBad_inside hlow hhigh, Bool.or_false, decide_eq_true_eq,
      if_neg (Nat.not_lt.2 hcode), hu]
    rfl
  · obtain ⟨hlim, hshut⟩ := State.chansFree_frees hn ((hread.chNtc (by decide) n k.val).trans hon)
    exact ⟨(hk.flag (by decide) n 0).trans hlim, (hheld n).trans hshut⟩
  · exact (u.chansFree_railNtcOn r k.val).trans ((hread.railNtcOn (by decide) r k.val).trans hon)
/-! ### The power die (R315) -/

theorem Calm.forceOff {s0 s : State} (h : Calm s0 s) {cause : Nat} : Calm s0 (s.forceOff cause) :=
  h.each fun _ _ ht => Calm.ite ht ht.diagCut.chMark.modCh.chDead

theorem Calm.forcedStop {s0 s : State} (h : Calm s0 s) {cause : Nat} : Calm s0 (s.forcedStop cause) :=
  h.forceOff.each fun _ _ ht => Calm.ite ht ht.railOff

theorem execPowerDieOvertemp_stops {s : State} (hp : s.powered = true) (hcool : s.flag R.TEMP_STATUS_POWER_SHUT = false) :
    ∃ t, exec .powerDieOvertemp s = .next t ∧ t.flag R.TEMP_STATUS_POWER_SHUT = true ∧
      t.flag R.TEMP_STATUS_POWER_CRIT_SEEN = true ∧ t.sticky EV_TEMP_CRIT = true ∧
      (∀ n, n < 8 → t.chState n = if s.chState n = chLatched then chLatched else chOff) ∧
      ∀ r, r < 2 → t.get R.BST_STATUS_STATE r = if s.get R.BST_STATUS_STATE r = 4 then 4 else 0 := by
  obtain ⟨hlive, hseen, hev, hraises⟩ := s.warned_shows (live := R.TEMP_STATUS_POWER_SHUT) (seen := R.TEMP_STATUS_POWER_CRIT_SEEN)
    EV_TEMP_CRIT (by decide) (by decide) (by decide) (by decide) (by decide) (by decide) (by decide)
  have hk : Keeps ([R.TEMP_STATUS_POWER_SHUT, R.TEMP_STATUS_POWER_CRIT_SEEN] ++ eventFlds) s
      (((s.put R.TEMP_STATUS_POWER_SHUT 1).put R.TEMP_STATUS_POWER_CRIT_SEEN 1).raise EV_TEMP_CRIT) :=
    (((Keeps.refl _ s).put (by decide)).put (by decide)).raise (List.subset_append_right _ _)
  obtain ⟨hshut, hcrit, -, hch, hbst⟩ := (SupplyOut.of_keeps hlive hseen hk (by decide) (by decide)).stops 9 (by decide) (by decide)
  refine ⟨_, ?_, hshut, hcrit, (Calm.refl _).forcedStop.sticky _ hev, hch, hbst⟩
  show execPowerDieOvertemp s = _
  simp [execPowerDieOvertemp, hp, hcool]

theorem execPowerDieTempRelease_ends {s : State} (hp : s.powered = true) (hhot : s.flag R.TEMP_STATUS_POWER_SHUT = true) :
    ∃ t, exec .powerDieTempRelease s = .next t ∧ t.flag R.TEMP_STATUS_POWER_SHUT = false ∧ SameCore s t := by
  obtain ⟨hcool, hcore, -⟩ := State.railsEval_after (s := s) (u := s.put R.TEMP_STATUS_POWER_SHUT 0) SameCore.rfl
    (State.flag_put_same _ _ _ _ _) (by decide) fun r h => h
  refine ⟨_, ?_, hcool, hcore⟩
  show execPowerDieTempRelease s = _
  simp [execPowerDieTempRelease, hp, hhot]

/-! ### Fatal faults (R351, R458, R459, R504) -/

theorem State.fatalNoted_cause {s : State} (c : FatalCause) (h : s.get R.EVT_FATAL_CAUSE = 0) :
    (s.fatalNoted c).get R.EVT_FATAL_CAUSE = causeCode c % 2 ^ R.EVT_FATAL_CAUSE.width := by
  rw [State.fatalNoted, if_pos h, State.get_put_ne _ _ _ _ _ _ (by decide), State.get_put_ne _ _ _ _ _ _ (by decide), State.get_put_same]

/-- The first fatal fault records its own cause. -/
theorem State.fatal_cause {s : State} (c : FatalCause) (h : s.get R.EVT_FATAL_CAUSE = 0) :
    (s.fatal c).get R.EVT_FATAL_CAUSE = causeCode c % 2 ^ R.EVT_FATAL_CAUSE.width := by
  obtain ⟨hk, -⟩ := s.fatal_follows c
  rw [hk.keeps.regs _ _ _ (by decide), (State.raiseFatal_keeps _ _ _).keeps.regs _ _ _ (by decide), State.fatalNoted_cause c h]

/-- A device in RUN is due SAFE (R459). -/
theorem State.fatal_safeWait {s : State} (c : FatalCause) (h : s.dev = .run) : (s.fatal c).safeWait = true := by
  unfold State.fatal
  extract_lets t t1 t2
  have hnoted : t1.dev = s.dev := ((s.fatalNoted_keeps c).keeps.core.trans (State.raiseFatal_keeps _ _ _).keeps.core).dev_eq
  have hdemoted : t2.dev = t1.dev := (t1.demote_keeps.ite (KeepsPlls.refl _ t1)).keeps.core.dev_eq
  rw [if_pos (hdemoted.trans (hnoted.trans h))]

theorem RecordsOnly.svc {s t : State} (h : RecordsOnly s t) : t.svc = s.svc := by rw [h]

theorem State.enqueue_svc (s : State) (e : EgrFrame) : (s.enqueue e).2.svc = s.svc := by
  unfold State.enqueue
  dsimp only
  split
  · rfl
  · split
    · exact (RecordsOnly.refl s).bump.put.raise.svc
    · split
      · split
        · split
          · rfl
          · rfl
        · rfl
      · split
        · exact (RecordsOnly.refl s).bump.svc
        · rfl

theorem State.submit_svc (s : State) (p tc : Nat) (w : Wire) : (s.submit p tc w).svc = s.svc := by
  unfold State.submit
  split
  · exact (RecordsOnly.refl s).bump.svc
  · exact s.newFid.2.enqueue_svc _

/-- A unit that demotes itself sends its notices, whose frames the announcements have no part in (R387). -/
theorem State.demote_svc (s : State) : s.demote.svc = s.svc := by
  unfold State.demote State.heartbeat
  split
  · rfl
  · split
    · rfl
    · exact List.foldlRecOn (motive := fun t : State => t.svc = s.svc) _ _ rfl fun t ht p _ => (t.submit_svc _ _ _).trans ht

theorem State.fatal_svc (s : State) (c : FatalCause) : (s.fatal c).svc = s.svc := by
  have hnoted : (s.fatalNoted c).svc = s.svc := ((RecordsOnly.refl s).put.put.ite (RecordsOnly.refl s)).put.svc
  unfold State.fatal
  extract_lets t t1 t2
  have hnote : RecordsOnly (s.fatalNoted c) ((s.fatalNoted c).note (causeEvent c)) := (RecordsOnly.refl _).note
  have hraised : t1.svc = s.svc := (hnote.logRecord.ite hnote).svc.trans hnoted
  have hdemoted : t2.svc = t1.svc := by
    show (if t1.dev = .run ∨ t1.dev = .ready then t1.demote else t1).svc = _
    split
    · exact t1.demote_svc
    · rfl
  split
  · exact hdemoted.trans hraised
  · exact hdemoted.trans hraised

theorem execLogicDieOvertemp_fatal {s : State} (hp : s.powered = true) (hfirst : s.get R.EVT_FATAL_CAUSE = 0) :
    ∃ t, exec .logicDieOvertemp s = .next t ∧ t.flag R.TEMP_STATUS_LOGIC_CRIT_SEEN = true ∧
      t.get R.EVT_FATAL_CAUSE = 6 ∧ t.flag R.EVT_FATAL_VALID = true ∧ t.sticky EV_TEMP_CRIT = true ∧
      (s.dev = .run → t.safeWait = true) ∧ t.dev = s.dev := by
  generalize hu : s.put R.TEMP_STATUS_LOGIC_CRIT_SEEN 1 = u
  have hseen : u.flag R.TEMP_STATUS_LOGIC_CRIT_SEEN = true := hu ▸ State.flag_put_same _ _ _ _ _
  have hput : Keeps [R.TEMP_STATUS_LOGIC_CRIT_SEEN] s u := hu ▸ (Keeps.refl _ s).put (by decide)
  obtain ⟨hk, hvalid, hev⟩ := u.fatal_shows .overTemp
  refine ⟨u.fatal .overTemp, ?_, (hk.keeps.flag (by decide) 0 0).trans hseen,
    State.fatal_cause .overTemp ((hput.regs _ _ _ (by decide)).trans hfirst), hvalid, hev,
    fun hrun => State.fatal_safeWait _ (hput.core.dev_eq.trans hrun), hk.keeps.core.dev_eq.trans hput.core.dev_eq⟩
  show execLogicDieOvertemp s = _
  rw [execLogicDieOvertemp, if_pos hp, hu]

theorem execFatalFault_corrected {s : State} (hp : s.powered = true) : exec (.fatalFault .smCorrected) s = .next (s.raise EV_SM_ECC_CORR) := by
  have hdev : (s.dev == .off) = false := by simpa [State.powered] using hp
  show execFatalFault .smCorrected s = _
  rw [execFatalFault, hdev]
  rfl

/-- The state in which an expiry of the service processor's watchdog is judged (R351). -/
def State.wdtCounted (s : State) : State := { s.bump R.SVC_WDT_CNT with svc := { s.svc with wdt := some s.tg } }

theorem State.wdtCounted_keeps (s : State) : Keeps [R.SVC_WDT_CNT, R.PG_STATUS_SAT_SEEN] s s.wdtCounted :=
  ((Keeps.refl _ s).bump (by decide) (by decide)).set

theorem execSpWatchdogExpiry_first {s : State} (hp : s.powered = true) (hfw : s.boot.fwValid = true) (hnone : s.svc.wdt = none) :
    ∃ t, exec .spWatchdogExpiry s = .next t ∧ t.sticky EV_SP_WATCHDOG = true ∧ t.svc = { s.svc with wdt := some s.tg } ∧
      t.safeWait = s.safeWait ∧ t.get R.SVC_WDT_CNT = min (s.get R.SVC_WDT_CNT + 1) (2 ^ R.SVC_WDT_CNT.width - 1) ∧
      t.get R.EVT_FATAL_CAUSE = s.get R.EVT_FATAL_CAUSE := by
  have hk := State.raise_keeps s.wdtCounted EV_SP_WATCHDOG
  have hrec := State.raise_records s.wdtCounted EV_SP_WATCHDOG
  have hcnt : s.wdtCounted.get R.SVC_WDT_CNT = min (s.get R.SVC_WDT_CNT + 1) (2 ^ R.SVC_WDT_CNT.width - 1) :=
    s.get_bump_same R.SVC_WDT_CNT 0 0 (by decide)
  have hwait : s.wdtCounted.safeWait = s.safeWait := by rw [State.wdtCounted, State.bump, State.bumpBy_eq]
  refine ⟨s.wdtCounted.raise EV_SP_WATCHDOG, ?_, State.sticky_raise_same _ _, hrec.svc, by rw [hrec, hwait],
    (hk.regs _ _ _ (by decide)).trans hcnt, (hk.regs _ _ _ (by decide)).trans (s.wdtCounted_keeps.regs _ _ _ (by decide))⟩
  show execSpWatchdogExpiry s = _
  simp [execSpWatchdogExpiry, hp, hfw, hnone, State.wdtCounted]

theorem execSpWatchdogExpiry_again {s : State} {k : Nat} (hp : s.powered = true) (hfw : s.boot.fwValid = true) (hlast : s.svc.wdt = some k)
    (hsoon : s.tg < k + 60000) (hfirst : s.get R.EVT_FATAL_CAUSE = 0) : ∃ t, exec .spWatchdogExpiry s = .next t ∧
      t.get R.EVT_FATAL_CAUSE = 3 ∧ t.flag R.EVT_FATAL_VALID = true ∧ t.sticky EV_SP_WATCHDOG = true ∧ t.svc.wdt = some s.tg ∧
      (s.dev = .run → t.safeWait = true) := by
  obtain ⟨-, hvalid, hev⟩ := s.wdtCounted.fatal_shows .watchdog
  refine ⟨s.wdtCounted.fatal .watchdog, ?_,
    State.fatal_cause .watchdog ((s.wdtCounted_keeps.regs _ _ _ (by decide)).trans hfirst), hvalid, hev, ?_,
    fun hrun => State.fatal_safeWait _ (s.wdtCounted_keeps.core.dev_eq.trans hrun)⟩
  · show execSpWatchdogExpiry s = _
    simp [execSpWatchdogExpiry, hp, hfw, hlast, hsoon, State.wdtCounted]
  · rw [State.fatal_svc]
    rfl

/-! ### A die reads its temperature (R504) -/

/-- What the reading of a die leaves: its temperature, and its warning at w. -/
def State.dieRead (s : State) (warn temp : Fld) (x : Int) (w : Bool) : State := (s.putI temp x).put warn (b2n w)

theorem State.dieRead_shows (s : State) {warn temp : Fld} (x : Int) (w : Bool) (hwidth : warn.width = 1) (hne : warn.base ≠ temp.base) :
    (s.dieRead warn temp x w).flag warn = w ∧ (s.dieRead warn temp x w).getI temp = satTo temp.width x ∧
      RegsOnly [warn, temp] s (s.dieRead warn temp x w) := by
  refine ⟨?_, (State.getI_put_ne _ _ _ _ _ _ hne).trans (State.getI_putI_same _ _ _ _ _), ((RegsOnly.refl _ s).put (by simp)).put (by simp)⟩
  rw [State.dieRead, State.flag_put_same, hwidth]
  cases w <;> rfl

/-- A die's warning that rises, with its memory and its event. -/
theorem State.dieWarned_shows (s : State) {warn temp : Fld} (x : Int) (hwidth : warn.width = 1) (hne : warn.base ≠ temp.base)
    (hseen : R.TEMP_STATUS_WARN_SEEN.base ≠ warn.base ∧ R.TEMP_STATUS_WARN_SEEN.base ≠ temp.base)
    (hw : ∀ f ∈ eventFlds, f.base ≠ warn.base) (ht : ∀ f ∈ eventFlds, f.base ≠ temp.base)
    (hlog : warn.base ≠ R.EVT_LOG_BASE_BASE.base ∧ temp.base ≠ R.EVT_LOG_BASE_BASE.base) :
    let t := ((s.dieRead warn temp x true).put R.TEMP_STATUS_WARN_SEEN 1).raise EV_TEMP_WARN
    t.flag warn = true ∧ t.flag R.TEMP_STATUS_WARN_SEEN = true ∧ t.sticky EV_TEMP_WARN = true ∧ t.getI temp = satTo temp.width x ∧
      RaisesOnly [warn, R.TEMP_STATUS_WARN_SEEN, temp] s t := by
  obtain ⟨hlive, htemp, -⟩ := s.dieRead_shows x true hwidth hne
  obtain ⟨hsw, hst⟩ := hseen
  obtain ⟨hlw, hlt⟩ := hlog
  have hregs : RegsOnly [warn, R.TEMP_STATUS_WARN_SEEN, temp] s ((s.dieRead warn temp x true).put R.TEMP_STATUS_WARN_SEEN 1) :=
    (((RegsOnly.refl _ s).put (by simp)).put (by simp)).put (by simp)
  have hk := State.raise_keeps ((s.dieRead warn temp x true).put R.TEMP_STATUS_WARN_SEEN 1) EV_TEMP_WARN
  refine ⟨?_, State.flag_put_raise _ 1 0 _ (by decide), State.sticky_raise_same _ _, ?_, hregs.raise ?_ ?_ _⟩
  · rw [hk.flag hw, State.flag_put_ne _ _ _ _ _ _ hsw, hlive]
  · rw [State.getI, hk.regs _ _ _ ht, State.get_put_ne _ _ _ _ _ _ hst]
    exact htemp
  · simp only [List.mem_cons, List.not_mem_nil, or_false, forall_eq_or_imp, forall_eq]
    exact ⟨hlw, by decide, hlt⟩
  · simp only [List.mem_cons, List.not_mem_nil, or_false, forall_eq_or_imp, forall_eq]
    exact ⟨(hw R.EVT_LOG_HEAD_INDEX (by decide)).symm, by decide, (ht R.EVT_LOG_HEAD_INDEX (by decide)).symm⟩

/-- The two dies of R504, each with its warning, its threshold and its temperature. -/
def dieFlds : List (Fin 2 × Fld × Fld × Fld) :=
  [(0, R.TEMP_STATUS_LOGIC_WARN, R.TEMP_THRESH_LOGIC_WARN, R.TEMP_LOGIC_TEMP),
   (1, R.TEMP_STATUS_POWER_WARN, R.TEMP_THRESH_POWER_WARN, R.TEMP_POWER_TEMP)]

theorem dieFlds_apart {die : Fin 2} {warn thr temp : Fld} (h : (die, warn, thr, temp) ∈ dieFlds) :
    warn.width = 1 ∧ warn.base ≠ temp.base ∧
      (R.TEMP_STATUS_WARN_SEEN.base ≠ warn.base ∧ R.TEMP_STATUS_WARN_SEEN.base ≠ temp.base) ∧
      (∀ f ∈ eventFlds, f.base ≠ warn.base) ∧ (∀ f ∈ eventFlds, f.base ≠ temp.base) ∧
      (warn.base ≠ R.EVT_LOG_BASE_BASE.base ∧ temp.base ≠ R.EVT_LOG_BASE_BASE.base) := by
  simp only [dieFlds, List.mem_cons, List.not_mem_nil, or_false, Prod.mk.injEq] at h
  rcases h with ⟨-, rfl, -, rfl⟩ | ⟨-, rfl, -, rfl⟩ <;> decide

/-- A reading: the warning is at w, which rises above the threshold and clears 5 °C below it. -/
theorem execTempWarn_reads {s : State} {die : Fin 2} {warn thr temp : Fld} (x : Int) (hp : s.powered = true)
    (h : (die, warn, thr, temp) ∈ dieFlds) {w : Bool}
    (hw : w = (decide (4 * (s.get thr : Int) < x) || (s.flag warn && decide (4 * (s.get thr : Int) - 20 < x)))) :
    exec (.tempWarn die x) s = .next (if w && !s.flag warn then
      ((s.dieRead warn temp x w).put R.TEMP_STATUS_WARN_SEEN 1).raise EV_TEMP_WARN else s.dieRead warn temp x w) := by
  subst hw
  simp only [dieFlds, List.mem_cons, List.not_mem_nil, or_false, Prod.mk.injEq] at h
  show execTempWarn die x s = _
  rcases h with ⟨rfl, rfl, rfl, rfl⟩ | ⟨rfl, rfl, rfl, rfl⟩
  · simp [execTempWarn, hp, State.dieRead]
  · simp [execTempWarn, hp, State.dieRead]

section
variable {s : State} {die : Fin 2} {warn thr temp : Fld} {x : Int} (hp : s.powered = true) (h : (die, warn, thr, temp) ∈ dieFlds)
include hp h

theorem execTempWarn_rises (hoff : s.flag warn = false) (hx : 4 * (s.get thr : Int) < x) :
    ∃ t, exec (.tempWarn die x) s = .next t ∧ t.flag warn = true ∧ t.flag R.TEMP_STATUS_WARN_SEEN = true ∧
      t.sticky EV_TEMP_WARN = true ∧ t.getI temp = satTo temp.width x ∧ RaisesOnly [warn, R.TEMP_STATUS_WARN_SEEN, temp] s t := by
  obtain ⟨hwidth, hne, hseen, hw, ht, hlog⟩ := dieFlds_apart h
  refine ⟨_, ?_, s.dieWarned_shows x hwidth hne hseen hw ht hlog⟩
  rw [execTempWarn_reads x hp h (w := true) (by simp [hx]), hoff]
  rfl

/-- A reading that leaves the warning low, or has it stay or clear, raises nothing. -/
theorem execTempWarn_quiet {w : Bool} (hw : w = (decide (4 * (s.get thr : Int) < x) || (s.flag warn && decide (4 * (s.get thr : Int) - 20 < x))))
    (hno : (w && !s.flag warn) = false) : ∃ t, exec (.tempWarn die x) s = .next t ∧ t.flag warn = w ∧
      t.getI temp = satTo temp.width x ∧ RegsOnly [warn, temp] s t := by
  obtain ⟨hwidth, hne, -⟩ := dieFlds_apart h
  refine ⟨_, ?_, s.dieRead_shows x w hwidth hne⟩
  rw [execTempWarn_reads x hp h hw, hno]
  rfl

end

/-! ### O53 -/

/-- Settles O53: a thermistor's warning, its shutdown and their end are followed to the turn of one channel and of one rail among those that
follow the input; a die's reading is one of four cases of one warning bit, and what is fatal is recorded by `fatal`. -/
theorem thermalRows : Obligations.ThermalRows := by
  refine ⟨fun s k code hp => ⟨execNtcWarn_warns hp, execNtcWarn_reads hp, fun n hn hcode hon hshut hst => ?_, execNtcWarnEnd_frees hp⟩,
    fun s hp => ⟨execPowerDieOvertemp_stops hp, execPowerDieTempRelease_ends hp, execLogicDieOvertemp_fatal hp, execFatalFault_corrected hp⟩,
    fun s x hp die warn thr temp h => ⟨execTempWarn_rises hp h, fun hoff hx => ?_, fun hon hx => ?_, fun hx => ?_⟩,
    fun s hp hfw => ⟨execSpWatchdogExpiry_first hp hfw, fun k hlast hsoon hfirst => execSpWatchdogExpiry_again hp hfw hlast hsoon hfirst⟩⟩
  · obtain ⟨t, he, hstop⟩ := execNtcShutdown_stops hp hn hcode hon hshut hst
    exact ⟨t, he, hstop.shut, hstop.mute, hstop.up, fun hrail => hstop.goal (by rw [hrail]; decide), hstop.cause, hstop.sticky⟩
  · exact execTempWarn_quiet hp h (w := false) (by simp [hoff, Int.not_lt.2 hx]) rfl
  · exact execTempWarn_quiet hp h (w := true) (by simp [hon, hx]) (by simp [hon])
  · exact execTempWarn_quiet hp h (w := false) (by simp [show ¬4 * (s.get thr : Int) < x by omega, Int.not_lt.2 hx]) rfl

end Sys2Proof.Machine

/-! PROOFS. Line supervision: commanded diagnostics and the pilot (O58). -/

namespace Sys2Proof.Machine

/-! ### The operation under way past what moves a channel or shows a rail (R305, R321) -/

theorem State.raise_diag (s : State) (e : Nat) : (s.raise e).diag = s.diag := (s.raise_records e).diag

theorem State.applyFeed_diag (s : State) (n : Nat) : (s.applyFeed n).diag = s.diag := by
  unfold State.applyFeed
  extract_lets t
  split
  · rfl
  · rfl

theorem State.chDead_diag (s : State) (n st : Nat) : (s.chDead n st).diag = s.diag :=
  (State.enterCh_diag _ _ _).trans (State.applyFeed_diag _ _)

theorem State.chFault_diag (s : State) (n cause : Nat) : (s.chFault n cause).diag = s.diag := State.raise_diag _ _

theorem State.rampUp_diag (s : State) (n : Nat) : (s.rampUp n).diag = s.diag := by
  unfold State.rampUp
  extract_lets t u
  split
  · exact (State.chDead_diag _ _ _).trans (State.chFault_diag _ _ _)
  · exact (State.enterCh_diag _ _ _).trans (State.applyFeed_diag s n)

theorem State.dcTest_diag (s : State) (n kind : Nat) : (s.dcTest n kind).diag = s.diag := State.enterCh_diag _ _ _

theorem State.chStart_diag (s : State) (n : Nat) : (s.chStart n).diag = s.diag := by
  unfold State.chStart
  split
  · rfl
  · split
    · rfl
    · split
      · exact State.dcTest_diag _ _ _
      · exact s.rampUp_diag n

theorem State.chResume_diag (s : State) (n : Nat) : (s.chResume n).diag = s.diag := by
  unfold State.chResume
  split
  · exact s.chDead_diag n chOff
  · split
    · rfl
    · exact s.rampUp_diag n

theorem State.retryGo_diag (s : State) (n : Nat) : (s.retryGo n).diag = s.diag := by
  unfold State.retryGo
  split
  · exact s.chDead_diag n chOff
  · split
    · rfl
    · exact State.dcTest_diag _ _ _

theorem State.railShow_diag (s : State) (r : Nat) : (s.railShow r).diag = s.diag := rfl

/-- A rail that moves takes another command and another state, and no part in the operation under way. -/
theorem State.railMove_diag (s : State) (r v : Nat) (f : RailHid → RailHid) : ((s.modRail r f).put R.BST_STATUS_STATE v r).diag = s.diag := rfl

theorem State.railOff_diag (s : State) (r cause : Nat) : (s.railOff r cause).diag = s.diag := by
  unfold State.railOff
  extract_lets t u
  have hu : u.diag = t.diag := by
    unfold u
    split
    · rfl
    · rfl
  rw [State.railShow_diag, hu]
  rfl

/-! ### What a rail that starts leaves of a channel under test, and of one that rests when none is (R321, R339) -/

/-- The operation under way is on channel n, which is in DIAG; or none is, and n is in OFF in a device where no channel starts. -/
def State.testHolds (s : State) (n : Nat) : Prop :=
  (s.diag.cur = some n ∧ s.chState n = chDiag) ∨ (s.diag.cur = none ∧ s.runs = false ∧ s.chState n = chOff)

/-- Channel n stays in its state, and the operation under way where it is, but that its DC test may begin. -/
structure TestKept (n : Nat) (s t : State) : Prop where
  keeps : Keeps stageFlds s t
  state : t.chState n = s.chState n
  diag : t.diag = { s.diag with step := t.diag.step }
  idle : s.diag.cur = none → t.diag = s.diag

section
variable {n : Nat} {s t u : State}

theorem TestKept.refl (n : Nat) (s : State) : TestKept n s s := ⟨Keeps.refl _ _, rfl, rfl, fun _ => rfl⟩

theorem TestKept.trans (h : TestKept n s t) (h' : TestKept n t u) : TestKept n s u where
  keeps := h.keeps.trans h'.keeps
  state := h'.state.trans h.state
  diag := by rw [h'.diag, h.diag]
  idle hcur := (h'.idle (by rw [h.diag]; exact hcur)).trans (h.idle hcur)

theorem TestKept.holds (h : TestKept n s t) (hs : s.testHolds n) : t.testHolds n := by
  have hcur : t.diag.cur = s.diag.cur := by rw [h.diag]
  unfold State.testHolds
  rwa [hcur, h.keeps.core.runs_eq, h.state]

/-- What does not reach channel n, and is no part of the operation under way. -/
theorem TestKept.of_reaches {C B : Nat → Prop} {K : Prop} (h : Reaches C B K s t) (hC : ¬C (n % 65536)) (hd : t.diag = s.diag) :
    TestKept n s t := ⟨h.keeps, h.pch _ (by decide) n 0 hC, by rw [hd], fun _ => hd⟩

/-- What a rail that reaches TRACK starts on one channel (R307, R321, R327). -/
def State.railStarts (s : State) (n : Nat) : State :=
  if s.chState n = chOff && (s.ch n).armed then s.chStart n
  else if s.chState n = chRetry && (s.get R.PCH_STATUS_CAUSE n == 6) then s.chResume n
  else if s.chState n = chRetry && (s.get R.PCH_STATUS_CAUSE n == 5) && !(s.ch n).ntcShut then s.chResume n
  else if s.chState n = chRetry && (s.ch n).expired then s.retryGo n else s

theorem State.railReached_eq (s : State) (r : Nat) : s.railReached r = (s.each 4 (fun t k => t.railStarts (4 * r + k))).diagRail := rfl

theorem Reaches.railStarts {C B : Nat → Prop} {K : Prop} {s0 : State} (hn : C (n % 65536)) (h : Reaches C B K s0 s) :
    Reaches C B K s0 (s.railStarts n) :=
  Reaches.ite (h.chStart hn) (Reaches.ite (h.chResume hn) (Reaches.ite (h.chResume hn) (Reaches.ite (h.retryGo hn) h)))

theorem State.railStarts_diag (s : State) (n : Nat) : (s.railStarts n).diag = s.diag := by
  unfold State.railStarts
  split
  · exact s.chStart_diag n
  · split
    · exact s.chResume_diag n
    · split
      · exact s.chResume_diag n
      · split
        · exact s.retryGo_diag n
        · rfl

theorem State.chStart_idle (h : s.runs = false) (n : Nat) : s.chStart n = s := by simp [State.chStart, h]

/-- A channel in DIAG waits for no rail, nor does one in OFF where none starts. -/
theorem State.testHolds.railStarts (h : s.testHolds n) : s.railStarts n = s := by
  unfold State.railStarts
  rcases h with ⟨-, hst⟩ | ⟨-, hruns, hst⟩
  · simp [hst]
  · simp [hst, State.chStart_idle hruns]

theorem State.testHolds.railStarts_kept (h : s.testHolds n) (hn : n < 8) {m : Nat} (hm : m < 8) : TestKept n s (s.railStarts m) := by
  by_cases hmn : m = n
  · rw [hmn, h.railStarts]
    exact TestKept.refl n s
  · exact TestKept.of_reaches (C := fun x => x = m) (B := fun _ => False) (K := True)
      ((Reaches.refl s).railStarts (show m % 65536 = m by omega)) (by omega) (s.railStarts_diag m)

/-- Steps that each keep the test, one after the other. -/
theorem TestKept.each {k : Nat} {f : State → Nat → State} (hs : s.testHolds n)
    (hf : ∀ t j, j < k → t.testHolds n → TestKept n t (f t j)) : TestKept n s (s.each k f) :=
  State.each_rec (P := fun _ => TestKept n s) (TestKept.refl n s) fun j t hj ht => ht.trans (hf t j hj (ht.holds hs))

theorem State.diagRail_none (h : s.diag.cur = none) : s.diagRail = s := by
  unfold State.diagRail
  rw [h]

theorem State.diagRail_some (h : s.diag.cur = some n) : s.diagRail =
    if s.diag.step = 0 && s.railTracks n then { s with diag := { s.diag with step := 1 } }.dcTest n 3 else s := by
  unfold State.diagRail
  rw [h]

/-- The DC test of a channel that is in DIAG begins. -/
theorem State.diagTest_kept (hcur : s.diag.cur = some n) (hst : s.chState n = chDiag) (hn : n < 8) :
    TestKept n s ({ s with diag := { s.diag with step := 1 } }.dcTest n 3) := by
  have hstep : Reaches (fun _ => True) (fun _ => False) True s { s with diag := { s.diag with step := 1 } } := (Reaches.refl s).set
  have hdiag := State.dcTest_diag { s with diag := { s.diag with step := 1 } } n 3
  refine ⟨(hstep.dcTest trivial).keeps, ?_, by rw [hdiag], fun hnone => ?_⟩
  · rw [State.dcTest, State.enterCh_chState _ hn hn (by decide), if_pos rfl, hst]
  · rw [hcur] at hnone
    cases hnone

theorem TestKept.diagRail (hs : s.testHolds n) (hn : n < 8) : TestKept n s s.diagRail := by
  rcases hs with ⟨hcur, hst⟩ | ⟨hcur, -, -⟩
  · rw [State.diagRail_some hcur]
    split
    · exact State.diagTest_kept hcur hst hn
    · exact TestKept.refl n s
  · rw [State.diagRail_none hcur]
    exact TestKept.refl n s

theorem TestKept.railReached (hs : s.testHolds n) (hn : n < 8) {r : Nat} (hr : r < 2) : TestKept n s (s.railReached r) := by
  rw [State.railReached_eq]
  have hstarts : TestKept n s (s.each 4 (fun t k => t.railStarts (4 * r + k))) :=
    TestKept.each hs fun t k hk ht => ht.railStarts_kept hn (by omega)
  exact hstarts.trans (TestKept.diagRail (hstarts.holds hs) hn)

/-- What shows of a rail is no channel's. -/
theorem TestKept.of_rail {r : Nat} (h : Reaches (fun _ => False) (fun q => q = r) True s t) (hd : t.diag = s.diag) : TestKept n s t :=
  TestKept.of_reaches h id hd

theorem TestKept.railSoft (hs : s.testHolds n) (hn : n < 8) {r : Nat} (hr : r < 2) : TestKept n s (s.railSoft r) := by
  have hmod : r % 65536 = r := by omega
  unfold State.railSoft
  extract_lets vin t
  have hdiag : t.diag = s.diag := State.railMove_diag _ _ _ _
  have hreach : Reaches (fun _ => False) (fun q => q = r) True s t := ((Reaches.refl s).modRail hmod).putRail hmod (by decide)
  split
  · have htrack : TestKept n s (((t.modRail r (fun x => { x with cmd := t.vmin r, setp := t.vmin r })).put R.BST_STATUS_STATE 2 r).railShow r) :=
      TestKept.of_rail (((hreach.modRail hmod).putRail hmod (by decide)).railShow hmod)
        ((State.railShow_diag _ _).trans ((State.railMove_diag _ _ _ _).trans hdiag))
    exact htrack.trans (TestKept.railReached (htrack.holds hs) hn hr)
  · exact TestKept.of_rail (hreach.railShow hmod) ((State.railShow_diag _ _).trans hdiag)

theorem TestKept.railEval (hs : s.testHolds n) (hn : n < 8) {r : Nat} (hr : r < 2) : TestKept n s (s.railEval r) := by
  unfold State.railEval
  split
  · unfold State.railRest
    split
    · exact TestKept.of_rail (s.railOff_reaches 0 hr) (s.railOff_diag r 0)
    · exact TestKept.refl n s
  · split
    · exact TestKept.railSoft hs hn hr
    · exact TestKept.refl n s

theorem TestKept.railsEval (hs : s.testHolds n) (hn : n < 8) : TestKept n s s.railsEval :=
  TestKept.each hs fun _ _ hr ht => TestKept.railEval ht hn hr

end

/-! ### A commanded operation starts (R338, R339) -/

theorem exec_diagCommand {s : State} {who : Initiator} {mask : Fin 256} {c : Instr} {op : Nat} (ht : s.takes who 0x5a040 = true)
    (hc : (c, op) ∈ [(Instr.diagDc who mask, 1), (.diagSweep who mask, 2), (.diagLearn who mask, 3)]) :
    exec c s = .next (s.diagGo op mask.val) ∧ 0 < op ∧ op < 4 := by
  simp only [List.mem_cons, List.not_mem_nil, or_false, Prod.mk.injEq] at hc
  rcases hc with ⟨rfl, rfl⟩ | ⟨rfl, rfl⟩ | ⟨rfl, rfl⟩
  · exact ⟨congrArg Host.Outcome.next (State.command_taken _ ht), by decide, by decide⟩
  · exact ⟨congrArg Host.Outcome.next (State.command_taken _ ht), by decide, by decide⟩
  · exact ⟨congrArg Host.Outcome.next (State.command_taken _ ht), by decide, by decide⟩

@[simp] theorem State.get_setDiag (s : State) (x : Diag) (f : Fld) (i j : Nat) : (s.setDiag x).get f i j = s.get f i j := rfl

@[simp] theorem State.flag_setDiag (s : State) (x : Diag) (f : Fld) (i j : Nat) : (s.setDiag x).flag f i j = s.flag f i j := rfl

theorem Keeps.setDiag {l : List Fld} {s0 s : State} (h : Keeps l s0 s) {x : Diag} : Keeps l s0 (s.setDiag x) := h.set

/-- A GO's operation and mask, as written. -/
def State.diagWritten (s : State) (op mask : Nat) : State := (s.put R.DIAG_CMD_OP op).put R.DIAG_CMD_CH_MASK mask

theorem State.diagWritten_regsOnly (s : State) (op mask : Nat) :
    RegsOnly [R.DIAG_CMD_OP, R.DIAG_CMD_CH_MASK] s (s.diagWritten op mask) :=
  ((RegsOnly.refl _ s).put (by decide)).put (by decide)

theorem State.diagGo_busy {s : State} (op mask : Nat) (hb : s.flag R.DIAG_CMD_BUSY = true) :
    s.diagGo op mask = (s.diagWritten op mask).raise EV_HOST_ERR := by
  simp [State.diagGo, hb, State.hostErr, State.diagWritten]

/-- The state in which channel n has entered DIAG for an operation, and its rail has not been looked at. -/
def State.diagEntered (s : State) (op mask n : Nat) : State :=
  (((s.diagWritten op mask).put R.DIAG_CMD_BUSY 1).setDiag ⟨op, [], some n, 0, []⟩).enterCh n chDiag

theorem channels_of_one_bit (n : Fin 8) : (List.range 8).filter (fun m => bitAt (2 ^ n.val) m) = [n.val] := by
  revert n
  decide

/-- The one channel of an operation enters DIAG, and its rail is looked at. -/
theorem State.diagNext_one {s : State} {n : Nat} (op : Nat) (hst : s.chState n = chOff) : (s.setDiag ⟨op, [n], none, 0, []⟩).diagNext =
    ((s.setDiag ⟨op, [], some n, 0, []⟩).enterCh n chDiag).railsEval.diagRail := by
  have hoff : (s.setDiag ⟨op, [n], none, 0, []⟩).chState n = chOff := hst
  have hdrop : (s.setDiag ⟨op, [n], none, 0, []⟩).diag.left.dropWhile
      (fun m => (s.setDiag ⟨op, [n], none, 0, []⟩).chState m != chOff) = [n] := List.dropWhile_cons_of_neg (by simp [hoff])
  unfold State.diagNext
  rw [hdrop]
  rfl

theorem State.diagGo_one {s : State} {op : Nat} (n : Fin 8) (hb : s.flag R.DIAG_CMD_BUSY = false) (hd : s.dev = .ready ∨ s.dev = .run)
    (hop : 0 < op) (hst : s.chState n.val = chOff) :
    s.diagGo op (2 ^ n.val) = (s.diagEntered op (2 ^ n.val) n.val).railsEval.diagRail := by
  have hdev : (s.dev == .ready || s.dev == .run) = true := by
    rcases hd with hd | hd <;> rw [hd] <;> rfl
  have hoff : ((s.diagWritten op (2 ^ n.val)).put R.DIAG_CMD_BUSY 1).chState n.val = chOff :=
    (State.get_put_ne _ _ _ _ _ _ (by decide)).trans (((s.diagWritten_regsOnly op (2 ^ n.val)).get (by decide)).trans hst)
  unfold State.diagGo
  dsimp only
  rw [if_neg (by simp [hb, hdev]), if_neg (Nat.ne_of_gt hop), channels_of_one_bit]
  exact State.diagNext_one op hoff

theorem State.diagEntered_holds (s : State) (op mask : Nat) {n : Nat} (hn : n < 8) :
    (s.diagEntered op mask n).testHolds n ∧ (s.diagEntered op mask n).diag = ⟨op, [], some n, 0, []⟩ ∧
      (s.diagEntered op mask n).chState n = chDiag := by
  have hdiag : (s.diagEntered op mask n).diag = ⟨op, [], some n, 0, []⟩ := State.enterCh_diag _ _ _
  have hst : (s.diagEntered op mask n).chState n = chDiag := by
    rw [State.diagEntered, State.enterCh_chState _ hn hn (by decide), if_pos rfl]
  exact ⟨.inl ⟨by rw [hdiag], hst⟩, hdiag, hst⟩

theorem State.diagEntered_shows (s : State) {op : Nat} (mask n : Nat) (hop : op < 4) :
    (s.diagEntered op mask n).flag R.DIAG_CMD_BUSY = true ∧ (s.diagEntered op mask n).get R.DIAG_CMD_OP = op ∧
      SameCore s (s.diagEntered op mask n) := by
  have hk : Keeps moveFlds (((s.diagWritten op mask).put R.DIAG_CMD_BUSY 1).setDiag ⟨op, [], some n, 0, []⟩) (s.diagEntered op mask n) :=
    State.enterCh_moved _ _ _
  refine ⟨?_, ?_, hk.core⟩
  · rw [hk.flag (by decide), State.flag_setDiag, State.flag_put_same]
    rfl
  · rw [hk.regs _ _ _ (by decide), State.get_setDiag, State.get_put_ne _ _ _ _ _ _ (by decide), State.diagWritten,
      State.get_put_ne _ _ _ _ _ _ (by decide), State.get_put_same]
    exact Nat.mod_eq_of_lt hop

theorem exec_diagStarts {s : State} {who : Initiator} {n : Fin 8} {mask : Fin 256} {c : Instr} {op : Nat}
    (ht : s.takes who 0x5a040 = true)
    (hc : (c, op) ∈ [(Instr.diagDc who mask, 1), (.diagSweep who mask, 2), (.diagLearn who mask, 3)])
    (hb : s.flag R.DIAG_CMD_BUSY = false) (hd : s.dev = .ready ∨ s.dev = .run) (hmask : mask.val = 2 ^ n.val)
    (hst : s.chState n.val = chOff) :
    ∃ t, exec c s = .next t ∧ t.flag R.DIAG_CMD_BUSY = true ∧ t.get R.DIAG_CMD_OP = op ∧ t.diag.op = op ∧
      t.diag.cur = some n.val ∧ t.diag.left = [] ∧ t.chState n.val = chDiag ∧ SameCore s t := by
  obtain ⟨he, hpos, hlt⟩ := exec_diagCommand ht hc
  rw [hmask, State.diagGo_one n hb hd hpos hst] at he
  obtain ⟨hholds, hdiag, hstate⟩ := s.diagEntered_holds op (2 ^ n.val) n.isLt
  obtain ⟨hbusy, hop, hcore⟩ := s.diagEntered_shows (2 ^ n.val) n.val hlt
  have hrails := TestKept.railsEval hholds n.isLt
  have hkept := hrails.trans (TestKept.diagRail (hrails.holds hholds) n.isLt)
  refine ⟨_, he, (hkept.keeps.flag (by decide) 0 0).trans hbusy, (hkept.keeps.regs _ _ _ (by decide)).trans hop, ?_, ?_, ?_,
    hkept.state.trans hstate, hcore.trans hkept.keeps.core⟩
  · rw [hkept.diag, hdiag]
  · rw [hkept.diag, hdiag]
  · rw [hkept.diag, hdiag]

theorem exec_diagRefused {s : State} {who : Initiator} {mask : Fin 256} {c : Instr} {op : Nat} (ht : s.takes who 0x5a040 = true)
    (hc : (c, op) ∈ [(Instr.diagDc who mask, 1), (.diagSweep who mask, 2), (.diagLearn who mask, 3)])
    (hb : s.flag R.DIAG_CMD_BUSY = true) : ∃ t, exec c s = .next t ∧ t.sticky EV_HOST_ERR = true ∧ t.diag = s.diag ∧
      RaisesOnly [R.DIAG_CMD_OP, R.DIAG_CMD_CH_MASK] s t := by
  obtain ⟨he, -, -⟩ := exec_diagCommand ht hc
  rw [State.diagGo_busy op mask.val hb] at he
  exact ⟨_, he, State.sticky_raise_same _ _, State.raise_diag _ _,
    (s.diagWritten_regsOnly op mask.val).raise (by decide) (by decide) EV_HOST_ERR⟩

/-! ### The DC test ends (R336, R337) -/

theorem State.dcClass_lt (s : State) (n ohms : Nat) (bare : Bool) : s.dcClass n ohms bare < 4 := by
  unfold State.dcClass
  split_ifs <;> decide

/-- The result of a DC test shown, the test over (R337). -/
def State.dcShown (s : State) (n ohms cls : Nat) : State :=
  ((s.put R.DIAG_DC_OHMS (if 6400 < ohms then 0xffff else ohms) n).put R.DIAG_RES_DC_RESULT cls n).modCh n (fun x => { x with test := 0 })

theorem State.dcShown_shows (s : State) (n : Nat) {ohms cls : Nat} (ho : ohms < 65536) (hc : cls < 4) :
    (s.dcShown n ohms cls).get R.DIAG_DC_OHMS n = (if 6400 < ohms then 0xffff else ohms) ∧
      (s.dcShown n ohms cls).get R.DIAG_RES_DC_RESULT n = cls ∧ (s.dcShown n ohms cls).ch n = { s.ch n with test := 0 } := by
  refine ⟨?_, ?_, State.ch_modCh_same _ _ _⟩
  · rw [State.dcShown, State.get_modCh, State.get_put_ne _ _ _ _ _ _ (by decide), State.get_put_same]
    refine Nat.mod_eq_of_lt ?_
    split
    · decide
    · exact ho
  · rw [State.dcShown, State.get_modCh, State.get_put_same]
    exact Nat.mod_eq_of_lt hc

theorem execDcTestDone_runs {s : State} {n : Fin 8} (ohms : Nat) (hp : s.powered = true) (hst : s.chState n.val = chDiag)
    (htest : (s.ch n.val).test ≠ 0) : exec (.dcTestDone n ohms) s = .next (s.dcDone n.val ohms) := by
  show execDcTestDone n ohms s = _
  simp [execDcTestDone, hp, hst, htest]

theorem State.dcDone_commanded {s : State} {n : Nat} (ohms : Nat) (htest : (s.ch n).test = 3) (hop : s.diag.op = 1) :
    s.dcDone n ohms = (s.dcShown n ohms (s.dcClass n ohms false)).setDiag { s.diag with step := 10 } := by
  simp [State.dcDone, htest, hop, State.dcShown, State.modCh, State.setCh]

theorem State.dcDone_short {s : State} {n ohms : Nat} (htest : (s.ch n).test = 1) (hshort : s.dcClass n ohms false = 2) :
    s.dcDone n ohms = (s.dcShown n ohms 2).chTrip n 4 := by
  simp [State.dcDone, htest, hshort, State.dcShown]

theorem execDcTestDone_records {s : State} {n : Fin 8} {ohms : Nat} (hp : s.powered = true) (hst : s.chState n.val = chDiag)
    (ho : ohms < 65536) (htest : (s.ch n.val).test = 3) (hop : s.diag.op = 1) : ∃ t, exec (.dcTestDone n ohms) s = .next t ∧
      t.get R.DIAG_DC_OHMS n.val = (if 6400 < ohms then 0xffff else ohms) ∧
      t.get R.DIAG_RES_DC_RESULT n.val = s.dcClass n.val ohms false ∧ t.diag = { s.diag with step := 10 } ∧
      t.ch n.val = { s.ch n.val with test := 0 } ∧
      RegsAt [R.DIAG_DC_OHMS, R.DIAG_RES_DC_RESULT] n.val { s with power := t.power, diag := t.diag } t := by
  obtain ⟨hohms, hclass, hch⟩ := s.dcShown_shows n.val ho (s.dcClass_lt n.val ohms false)
  refine ⟨_, (execDcTestDone_runs ohms hp hst (by rw [htest]; decide)).trans (congrArg Host.Outcome.next (s.dcDone_commanded ohms htest hop)),
    hohms, hclass, rfl, hch, ?_⟩
  exact ((RegsAt.refl _ _ _).put (by decide)).put (by decide)

theorem execDcTestDone_trips {s : State} {n : Fin 8} {ohms : Nat} (hp : s.powered = true) (hst : s.chState n.val = chDiag)
    (ho : ohms < 65536) (htest : (s.ch n.val).test = 1) (hcur : s.diag.cur ≠ some n.val) (hr : (s.ch n.val).retried = false)
    (hshort : s.dcClass n.val ohms false = 2) : ∃ t, exec (.dcTestDone n ohms) s = .next t ∧ t.chState n.val = chRetry ∧
      t.get R.PCH_STATUS_CAUSE n.val = 4 ∧ t.get R.DIAG_RES_DC_RESULT n.val = 2 ∧ t.sticky (EV_PCH0_FAULT + n.val) = true := by
  obtain ⟨-, hclass, hch⟩ := s.dcShown_shows n.val ho (show 2 < 4 by decide)
  have hreach : Reaches (fun _ => True) (fun _ => False) True (s.dcShown n.val ohms 2) ((s.dcShown n.val ohms 2).chTrip n.val 4) :=
    (Reaches.refl _).chTrip trivial
  obtain ⟨hfault, -, -⟩ := State.chTrip_shows (s := s.dcShown n.val ohms 2) (cause := 4) hcur (by decide)
  obtain ⟨hwaits, -⟩ := State.chTrip_waits (s := s.dcShown n.val ohms 2) (cause := 4) n.isLt hcur (by rw [hch]; exact hr) (by decide)
  exact ⟨_, (execDcTestDone_runs ohms hp hst (by rw [htest]; decide)).trans (congrArg Host.Outcome.next (State.dcDone_short htest hshort)),
    hwaits, hfault.status, (hreach.keeps.regs _ _ _ (by decide)).trans hclass, hfault.sticky⟩

/-! ### A tone of a sweep has been measured (R338) -/

theorem Keeps.toneSpec {l : List Fld} {s t : State} (h : Keeps l s t)
    (hl : ∀ f ∈ l, ∀ g ∈ [R.DIAG_PILOT_FREQ, R.DIAG_CFG_SWEEP_LEVEL, R.DIAG_PILOT_LEVEL], f.base ≠ g.base) (k : Nat) :
    t.toneSpec k = s.toneSpec k := by
  simp only [State.toneSpec, h.regs R.DIAG_PILOT_FREQ _ _ fun f hf => hl f hf _ (by decide),
    h.regs R.DIAG_CFG_SWEEP_LEVEL _ _ fun f hf => hl f hf _ (by decide), h.regs R.DIAG_PILOT_LEVEL _ _ fun f hf => hl f hf _ (by decide)]

/-- One of a sweep's first five tones recorded. -/
def State.toneShown (s : State) (n k mag : Nat) (phase : Int) : State := (s.put R.DIAG_AC_MAG mag n k).putI R.DIAG_AC_PHASE phase n k

theorem State.toneShown_keeps (s : State) (n k mag : Nat) (phase : Int) :
    Keeps [R.DIAG_AC_MAG, R.DIAG_AC_PHASE] s (s.toneShown n k mag phase) := ((Keeps.refl _ s).put (by decide)).put (by decide)

theorem execSweepToneDone_next {s : State} {n k : Nat} (mag : Nat) (phase : Int) (hp : s.powered = true) (hclk : s.clockError = false)
    (hcur : s.diag.cur = some n) (hst : s.chState n = chDiag) (hk : k < 5) (hstep : s.diag.step = 3 + k) :
    exec (.sweepToneDone mag phase) s = .next (((s.toneShown n k mag phase).setDiag
      { s.diag with step := 4 + k, tones := s.diag.tones ++ [(mag, phase)] }).send (.tone n (s.toneSpec (k + 1)))) := by
  have hspec : ((s.toneShown n k mag phase).setDiag { s.diag with step := 4 + k, tones := s.diag.tones ++ [(mag, phase)] }).toneSpec (k + 1) =
      s.toneSpec (k + 1) := (s.toneShown_keeps n k mag phase).setDiag.toneSpec (by decide) (k + 1)
  rw [← hspec]
  have h8 : 3 + k ≤ 8 := by omega
  have hsucc : 3 + k + 1 = 4 + k := by omega
  show execSweepToneDone mag phase s = _
  simp [execSweepToneDone, hcur, hp, hclk, hst, hstep, hk, h8, hsucc, State.toneShown]

theorem execSweepToneDone_records {s : State} {n mag k : Nat} {phase : Int} (hp : s.powered = true) (hclk : s.clockError = false)
    (hcur : s.diag.cur = some n) (hst : s.chState n = chDiag) (hk : k < 5) (hstep : s.diag.step = 3 + k) (hmag : mag < 65536) :
    ∃ t, exec (.sweepToneDone mag phase) s = .next t ∧ t.get R.DIAG_AC_MAG n k = mag ∧
      t.getI R.DIAG_AC_PHASE n k = satTo R.DIAG_AC_PHASE.width phase ∧ t.wire = .tone n (s.toneSpec (k + 1)) :: s.wire ∧
      t.diag = { s.diag with step := 4 + k, tones := s.diag.tones ++ [(mag, phase)] } ∧
      RegsOnly [R.DIAG_AC_MAG, R.DIAG_AC_PHASE] { s with diag := t.diag, wire := t.wire } t := by
  refine ⟨_, execSweepToneDone_next mag phase hp hclk hcur hst hk hstep, ?_, State.getI_putI_same _ R.DIAG_AC_PHASE phase n k, rfl, rfl, ?_⟩
  · show (s.toneShown n k mag phase).get R.DIAG_AC_MAG n k = mag
    rw [State.toneShown, State.get_putI_ne _ _ _ _ _ _ (by decide), State.get_put_same]
    exact Nat.mod_eq_of_lt hmag
  · exact ((RegsOnly.refl _ _).put (by decide)).put (by decide)

/-! ### A channel is done, and the operation with it (R339) -/

theorem State.diagOver_keeps (s : State) : Keeps (R.DIAG_CMD_BUSY :: eventFlds) s s.diagOver :=
  ((Keeps.refl _ _).setDiag.put (by decide)).raise (List.subset_cons_self _ _)

theorem State.diagOver_shows (s : State) : s.diagOver.flag R.DIAG_CMD_BUSY = false ∧ s.diagOver.sticky EV_DIAG_DONE = true ∧
    s.diagOver.diag = ⟨0, [], none, 0, []⟩ := by
  refine ⟨?_, State.sticky_raise_same _ _, State.raise_diag _ _⟩
  rw [State.diagOver, (State.raise_keeps _ _).flag (by decide), State.flag_put_same]
  rfl

/-- The operation has left its channel. -/
def State.diagLeave (s : State) : State := s.setDiag { s.diag with cur := none }

/-- The last channel of an operation back in OFF, the operation over (R339). -/
def State.diagEnded (s : State) (n : Nat) : State := (s.chDead n chOff).diagLeave.diagOver

/-- The channel of a finished operation: its sweep judged where all six tones were measured, and back in OFF. -/
def State.diagFreed (s : State) (n : Nat) : State :=
  let t := if s.diag.tones.length = 6 && s.chState n == chDiag then s.sweepJudge n else s
  if t.chState n = chDiag then t.chDead n chOff else t

theorem State.diagFreed_untuned {s : State} {n : Nat} (htones : s.diag.tones = []) (hst : s.chState n = chDiag) :
    s.diagFreed n = s.chDead n chOff := by
  simp [State.diagFreed, htones, hst]

theorem execDiagChannelDone_frees {s : State} {n : Nat} (hcur : s.diag.cur = some n) (hstep : s.diag.step = 10)
    (hsw : switching (s.chState n) = false) :
    exec .diagChannelDone s = .next (((s.diagFreed n).diagLeave.chStart n).diagNext.railsEval) := by
  show execDiagChannelDone s = _
  unfold execDiagChannelDone
  rw [hcur]
  exact congrArg Host.Outcome.next (if_pos (by simp [hstep, hsw]))

theorem State.diagNext_none {s : State} (h : s.diag.left = []) : s.diagNext = s.diagOver := by
  unfold State.diagNext
  rw [h]
  rfl

/-- In a device where no channel starts, one that was armed under the last test stays in OFF. -/
theorem State.diagLeave_ends {s : State} (hruns : s.runs = false) (hleft : s.diag.left = []) (n : Nat) :
    (s.diagLeave.chStart n).diagNext = s.diagLeave.diagOver := by
  have hruns' : s.diagLeave.runs = false := hruns
  rw [State.chStart_idle hruns' n, State.diagNext_none (s := s.diagLeave) hleft]

theorem execDiagChannelDone_last {s : State} {n : Nat} (hd : s.dev = .ready) (hcur : s.diag.cur = some n)
    (hstep : s.diag.step = 10) (htones : s.diag.tones = []) (hleft : s.diag.left = []) (hst : s.chState n = chDiag) :
    exec .diagChannelDone s = .next (s.diagEnded n).railsEval := by
  have hruns : (s.chDead n chOff).runs = false := (s.chDead_moved n chOff).core.runs_eq.trans (by simp [State.runs, hd])
  have hnone : (s.chDead n chOff).diag.left = [] := by rw [s.chDead_diag, hleft]
  rw [execDiagChannelDone_frees hcur hstep (by rw [hst]; rfl), State.diagFreed_untuned htones hst, State.diagLeave_ends hruns hnone,
    State.diagEnded]

theorem State.diagEnded_keeps (s : State) (n : Nat) : Keeps (R.DIAG_CMD_BUSY :: eventFlds) (s.chDead n chOff) (s.diagEnded n) :=
  (Keeps.refl _ _).setDiag.trans (State.diagOver_keeps _)

theorem State.diagEnded_rests {s : State} {n : Nat} (hd : s.dev = .ready) (hn : n < 8) :
    (s.diagEnded n).runs = false ∧ (s.diagEnded n).chState n = chOff := by
  have hk := s.diagEnded_keeps n
  exact ⟨((s.chDead_moved n chOff).core.trans hk.core).runs_eq.trans (by simp [State.runs, hd]),
    (hk.regs R.PCH_STATUS_STATE n 0 (by decide)).trans ((s.chDead_chState hn hn (by decide)).trans (if_pos rfl))⟩

theorem execDiagChannelDone_ends {s : State} {n : Nat} (hd : s.dev = .ready) (hcur : s.diag.cur = some n) (hn : n < 8)
    (hstep : s.diag.step = 10) (htones : s.diag.tones = []) (hleft : s.diag.left = []) (hst : s.chState n = chDiag) :
    ∃ t, exec .diagChannelDone s = .next t ∧ t.chState n = chOff ∧ t.flag R.DIAG_CMD_BUSY = false ∧ t.sticky EV_DIAG_DONE = true ∧
      t.diag = ⟨0, [], none, 0, []⟩ := by
  obtain ⟨hruns, hoff⟩ := State.diagEnded_rests hd hn
  obtain ⟨hbusy, hsticky, hdiag⟩ := (s.chDead n chOff).diagLeave.diagOver_shows
  rw [← State.diagEnded] at hbusy hsticky hdiag
  have hkept := TestKept.railsEval (.inr ⟨by rw [hdiag], hruns, hoff⟩) hn
  exact ⟨_, execDiagChannelDone_last hd hcur hstep htones hleft hst, hkept.state.trans hoff,
    (hkept.keeps.flag (by decide) 0 0).trans hbusy, (Calm.refl _).railsEval.sticky _ hsticky, (hkept.idle (by rw [hdiag])).trans hdiag⟩

/-! ### A pilot window ends (R344, R345) -/

theorem execPilotWindowEnd_none {s : State} {n : Fin 8} (quiet : Bool) (mag : Nat) (phase : Int)
    (h : s.tickNum % 1536 ≠ 0 ∨ (s.ch n.val).winAt = s.tg) : exec (.pilotWindowEnd n quiet mag phase) s = .next s := by
  show execPilotWindowEnd n quiet mag phase s = _
  rcases h with h | h <;> simp [execPilotWindowEnd, h]

theorem State.pilotJudge_bare {s : State} {n : Nat} (mag : Nat) (phase : Int) (hbase : (s.ch n).base = none)
    (hvalid : s.flag R.DIAG_BASE_CTRL_VALID n = false) :
    s.pilotJudge n mag phase = (s.put R.DIAG_PILOT_MAG mag n).putI R.DIAG_PILOT_PHASE phase n := by
  simp [State.pilotJudge, hbase, State.pilotBase, hvalid]

section
variable {s : State} {n : Fin 8} {mag : Nat} {phase : Int} (ht : s.ticking = true) (hen : s.bit R.DIAG_PILOT_EN n.val = true)
  (hmul : s.tickNum % 1536 = 0)
include ht hen hmul

theorem execPilotWindowEnd_skips (hwin : (s.ch n.val).winAt ≠ s.tg) : ∃ t, exec (.pilotWindowEnd n false mag phase) s = .next t ∧
      t.get R.PILOT_SKIP_CNT n.val = min (s.get R.PILOT_SKIP_CNT n.val + 1) (2 ^ R.PILOT_SKIP_CNT.width - 1) ∧
      RegsOnly [R.PILOT_SKIP_CNT, R.PG_STATUS_SAT_SEEN] { s with power := t.power } t := by
  have he : exec (.pilotWindowEnd n false mag phase) s = .next ((s.bump R.PILOT_SKIP_CNT n.val).pilotOpen n.val) := by
    show execPilotWindowEnd n false mag phase s = _
    simp [execPilotWindowEnd, ht, hen, hmul, hwin]
  obtain ⟨heq, hregs⟩ : RegsOnly [R.PILOT_SKIP_CNT, R.PG_STATUS_SAT_SEEN] s (s.bump R.PILOT_SKIP_CNT n.val) :=
    (RegsOnly.refl _ s).bump (by decide) (by decide)
  exact ⟨_, he, State.get_bump_same _ _ _ _ (by decide),
    congrArg (fun u : State => { u with power := ((s.bump R.PILOT_SKIP_CNT n.val).pilotOpen n.val).power }) heq, hregs⟩

theorem execPilotWindowEnd_records (hgood : (s.ch n.val).pilotBad = false) (hlen : s.tg = (s.ch n.val).winAt + 1536)
    (hbase : (s.ch n.val).base = none) (hst : s.chState n.val = chPlay) (hclk : s.clockError = false)
    (hvalid : s.flag R.DIAG_BASE_CTRL_VALID n.val = false) (hmag : mag < 65536) :
    ∃ t, exec (.pilotWindowEnd n true mag phase) s = .next t ∧ t.get R.DIAG_PILOT_MAG n.val = mag ∧
      t.getI R.DIAG_PILOT_PHASE n.val = satTo R.DIAG_PILOT_PHASE.width phase ∧
      RegsAt [R.DIAG_PILOT_MAG, R.DIAG_PILOT_PHASE] n.val { s with power := t.power } t := by
  have he : exec (.pilotWindowEnd n true mag phase) s =
      .next (((s.put R.DIAG_PILOT_MAG mag n.val).putI R.DIAG_PILOT_PHASE phase n.val).pilotOpen n.val) := by
    rw [← State.pilotJudge_bare mag phase hbase hvalid]
    show execPilotWindowEnd n true mag phase s = _
    simp [execPilotWindowEnd, ht, hen, hmul, hgood, hlen, hst, hclk]
  refine ⟨_, he, ?_, State.getI_putI_same _ R.DIAG_PILOT_PHASE phase n.val 0, ((RegsAt.refl _ _ _).put (by decide)).put (by decide)⟩
  show ((s.put R.DIAG_PILOT_MAG mag n.val).putI R.DIAG_PILOT_PHASE phase n.val).get R.DIAG_PILOT_MAG n.val = mag
  rw [State.get_putI_ne _ _ _ _ _ _ (by decide), State.get_put_same]
  exact Nat.mod_eq_of_lt hmag

end

/-! ### O58 -/

/-- Settles O58: past the rails that it starts, an operation stays on its channel, and one that is over leaves its channel in OFF; a test,
a tone and a pilot window are each their result and the next step. -/
theorem diagRows : Obligations.DiagRows :=
  ⟨fun _ _ _ _ _ _ ht hc => ⟨exec_diagStarts ht hc, exec_diagRefused ht hc⟩,
    fun _ _ _ hp hst ho => ⟨execDcTestDone_records hp hst ho, execDcTestDone_trips hp hst ho⟩,
    fun _ _ _ _ _ hp hclk hcur _ hst hk hstep hmag => execSweepToneDone_records hp hclk hcur hst hk hstep hmag,
    fun _ _ hd hcur hn hstep htones hleft hst => execDiagChannelDone_ends hd hcur hn hstep htones hleft hst,
    fun _ _ quiet mag phase h => execPilotWindowEnd_none quiet mag phase h,
    fun _ _ _ _ ht hen hmul hwin => ⟨execPilotWindowEnd_skips ht hen hmul hwin, execPilotWindowEnd_records ht hen hmul⟩⟩

end Sys2Proof.Machine
